-- ==== Sys2Proof/Word.lean ====
section
/-! DEFINITION. The widths the KX7180's manual uses, as bit vectors (R1, Bits, fields and registers). -/

namespace Sys2Proof

/-- A 64-bit register or descriptor word (R1). -/
abbrev Word := BitVec 64

/-- One byte of DRAM or of a buffer. -/
abbrev Byte := BitVec 8

/-- A 64-byte memory line, byte 0 in bits 7:0. -/
abbrev Line := BitVec 512

/-- The byte enables of a partial write, bit i for byte i of the line. -/
abbrev ByteMask := BitVec 64

end Sys2Proof
end

