-- ==== Sys2Proof/Syntax.lean ====
section
/-! DEFINITION. The commands of the block: one constructor per row of spec/opcode_table.json, in the table's
order, with the operands a command of that row carries. The table gives its rows no operand bits, so the operands
are the model's (log entry 1): what the rule the row names says the event is about (an LD, a page, a die stream, an
offset, a frame) and the outcome the outside world decides (a status, a sampled code). `dt` is the time in
nanoseconds since the command before (log entry 2). Numbers that only index or count are `Nat`. -/

namespace Sys2Proof

/-- The three paths by which a register access reaches BAR0 of the FM-owned LD or its tenant view
(R422, R430, R333). -/
inductive Path where
  | fm          -- mailbox path or memory access of the FM-owned LD
  | twoWire     -- register-access protocol of the two-wire target
  | tenant (ld : Nat)   -- BAR0 of tenant LD `ld`
  deriving DecidableEq, Repr

/-- On which mailbox a command arrives (R294): the FM-owned LD's (mailboxes of both ports and MCTP alike) or a
tenant LD's. -/
inductive Mbox where
  | fm
  | tenant (ld : Nat)
  deriving DecidableEq, Repr

/-- The two persistence media outcomes a die reports after its own verify (R215). -/
inductive MediaStatus where
  | ok
  | fail
  | timeout
  deriving DecidableEq, Repr

/-- What the devices return on the read of one line (R260): the symbols of the codeword that arrive changed, each with the bits
that are inverted; and, should the locate step of R263 run, the devices that return a wrong training pattern. -/
structure LineRead where
  errs    : List (Nat × BitVec 8)
  failing : List Nat
  deriving DecidableEq, Repr

/-- The result of a flash codeword read (R218): the ladder level at which it decoded, or not at all. -/
inductive ReadResult where
  | decoded (level : Nat)     -- 0 to 9
  | failed                    -- every level 0 to 9 failed, or die or channel lost
  deriving DecidableEq, Repr

/-- The body of a Thobor frame after its header fields (Table 03-5). -/
inductive FrameBody where
  | beacon (txTime : Nat) (senderState rootId echoT4 echoSeq : Nat)
  | epochAnnounce (ckpt : Bool) (k boundary : Nat) (groupMask : Word)
  | plunge (rep cause cutBeat : Nat) (groupMask : Word)
  | firefly (timeState devState depth seq rootId : Nat)
  | sealReport (complete late : Bool) (kind cutBeat : Nat) (generation : Nat) (ldIncomplete : BitVec 32)
  | role (depth port portRole moduleRole rootId : Nat)
  | config (configGen guard k effectiveBeat : Nat)
  deriving DecidableEq, Repr

/-- A Thobor frame on a link (R49): its words between SOF and EOF, header first and CRC last; `codeErrs` counts the 8b/10b code
and disparity violations since the frame before it (R81). -/
structure Frame where
  words    : List (BitVec 32)
  codeErrs : Nat := 0
  deriving DecidableEq, Repr

/-- A 64-byte ring descriptor (Table 12-2). `rsvd` is true when any reserved header or argument byte is not 0. -/
structure Descriptor where
  opcode  : BitVec 8
  flags   : BitVec 8
  roleGen : BitVec 16
  tag     : Word
  arg0    : Word
  arg1    : Word
  arg2    : Word
  rsvd    : Bool
  deriving DecidableEq, Repr

/-- How a descriptor fetch returns (R308). -/
inductive FetchResult where
  | data (ds : List Descriptor)
  | error                        -- poison, unsupported request or completer abort
  deriving DecidableEq, Repr

/-- A used entry of an image's section table (Table 13-6), and whether its section has that SHA-384. -/
structure Section where
  type   : Nat           -- 1 HK_CODE, 2 RECOVERY, 3 ELYTRA_UCODE, 4 DIE_TABLE, 5 DEFAULT_CONFIG
  offset : Nat
  length : Nat
  hashOk : Bool
  deriving DecidableEq, Repr

/-- A firmware image by its manifest (Table 13-5), with the verdicts of the two checks of R336 that need the whole key and signature,
and what its sections hold that rules use. -/
structure Image where
  magic      : Nat := 0x4548434B
  format     : Nat := 1
  imageBytes : Nat := 12288
  sections   : List Section := [⟨1, 4096, 4096, true⟩, ⟨4, 8192, 4096, true⟩]
  keyOk      : Bool      -- SHA-384 of PUBKEY equals the OTP key hash
  sigOk      : Bool      -- SIGNATURE verifies over the SHA-384 of manifest bytes 0x000 to 0xE7F
  hwType     : Nat
  bindSerial : Nat
  fwVersion  : Nat
  moltFrom   : Nat
  ucodeVer   : Nat
  ucodeMin   : Nat
  configFormat : Nat := 0
  config     : List (Nat × Nat)   -- DEFAULT_CONFIG: RWB fields by bit address (R335); empty without the section
  zTable     : List Nat := []     -- DEFAULT_CONFIG: the default impedance table (R107), 40 entries of 10 µΩ
  dieTable   : List Nat := []     -- the die table: LOG_RR_SET 1 to 8 (R194); empty without the table
  dieNop     : Nat := 2           -- the die table: programs a pSLC page takes (R231)
  deriving DecidableEq, Repr

/-- A 32-byte Elytra frame (Table 06-3): byte i stands in bits 8i + 7 to 8i. -/
structure ElyFrame where
  bits : BitVec 256
  deriving DecidableEq, Repr

/-- A frame by its bytes 0 to 27 and its FRAME_CRC, bytes 28 to 31 (Table 06-3). -/
def ElyFrame.join (body : BitVec 224) (crc : BitVec 32) : ElyFrame := ⟨crc ++ body⟩

/-- What the fabric and the plan's takers tell at a beat boundary: pages of the Scarab's quota lent to the rill (R63), and by fabric
port the flits that failed their CRC and the link-layer replays since the last boundary (R291). -/
structure BeatObs where
  lent     : Nat
  linkErrs : List (Nat × Nat × Nat) := []
  deriving DecidableEq, Repr

/-- A cache bank whose isolation completes, and the pages whose records failed ECC as they were written back (R364, R365). -/
structure BankDone where
  unit : Nat
  lost : List Nat
  deriving DecidableEq, Repr

/-- A level that PLUNGE_N has held for 100 ns, `dt` after the command before (R78). -/
structure PinEdge where
  dt  : Nat
  low : Bool
  deriving DecidableEq, Repr

/-- One sample of a pack as the cistern converter or the rehearsal takes it (R87). -/
structure PackSample where
  mv    : Nat            -- terminal voltage, mV
  tempC : Int            -- °C
  ntcFault : Bool        -- thermistor open or shorted
  deriving DecidableEq, Repr

/-- How one descriptor-independent check of a start stage turns out (Table 13-2). What the model can judge itself
(boot copies, OTP, log state) it judges; these are the verdicts only the hardware can give. -/
structure StageObs where
  selfTestOk   : Bool := true    -- SRAM, OTP CRC, collector (stage 1)
  elytraRomOk  : List Bool := [true, true]
  loadFail     : List Nat := []  -- stage 3: copies whose HK_CODE fails its hash as it loads
  ucodeLoadOk  : List Bool := [true, true]   -- stage 3: each Elytra loads ELYTRA_UCODE
  recBad       : List (Nat × Nat) := []   -- stage 4: copies of learned records that fail their CRC: pack, 0 chrysalis or 1 flash
  cisternOk    : Bool := true    -- stage 4: converter reference self-test
  halfBad      : List Nat := []  -- stage 4: halves of the configuration region whose header or content CRC fails (R232)
  dramOk       : Bool := true    -- stage 5: population and training
  geometryOk   : Bool := true    -- stage 5: die population and parameter pages (R194)
  sealCopiesOk : List Nat := []  -- stage 6: which of the 16 seal copies pass MAGIC, FORMAT, LENGTH, CRC, serial
  sealAgree    : Bool := true    -- stage 6: every valid copy identical
  metaOk       : Bool := true    -- stage 6: stage C metadata pages pass
  journalSeals : Bool := true    -- stage 6: a journal copy or chrysalis memory yields the generation
  keysFail     : List Nat := []  -- stage 6: LDs whose wrapped key fails to unwrap
  mapUs        : Nat := 0        -- stage 7: time the rebuild took
  portCopies   : List (Nat × Image) := []   -- stage 2: what the boot copies hold that the maintenance port wrote
  dieSets      : Nat := 1        -- stage 5: populated die sets D (R195)
  blocks       : Nat := 64       -- stage 5: multi-plane blocks of a die
  tlcPages     : Nat := 3        -- stage 5: multi-plane pages of a TLC block (R194)
  spareBytes   : Nat := 1488     -- stage 5: spare bytes of a 16 KiB page
  chOut        : List Nat := []  -- stage 5: flash channels that do not answer
  jnlOk        : List Bool := [true, true]  -- stage 5: which journal copies program (R378)
  romUcode     : Nat := 0        -- stage 1: version of the ROM microcode of both Elytra
  lostCkpts    : List (Nat × Nat) := []   -- stage 6: LD and identifier of checkpoints whose CKPT_RECORD cannot be read (R175)
  bad          : List Nat := []  -- stage 5: blocks the dies mark bad: die stream × 2^14 + block (R196, R197)
  deriving DecidableEq, Repr


/-- The commands of the KX7180 taken as a block: one constructor per row of spec/opcode_table.json. Each docstring
line names the row and its rule. -/
inductive Instr where
  /-- BEAT_BOUNDARY (R62). -/
  | beatBoundary (overruns : List (Nat × Nat)) (obs : BeatObs)
  /-- WEIR_IN_FORCE (R119). -/
  | weirInForce (dt : Nat)
  /-- MEM_WRITE (R285). -/
  | memWrite (dt port ldId hpa : Nat) (data : Line) (mask : ByteMask) (poison : Bool) (tag : Nat)
  /-- MEM_READ (R285). -/
  | memRead (dt port ldId hpa tag : Nat)
  /-- MEM_INV (R285). -/
  | memInv (dt port ldId hpa tag : Nat)
  /-- MEM_SPEC_RD (R285). -/
  | memSpecRd (dt port ldId hpa tag : Nat)
  /-- UNSUPPORTED_REQUEST (R291). -/
  | unsupportedRequest (dt port channel opcode : Nat)
  /-- TRACKER_ENTRY_FREE (R287). -/
  | trackerEntryFree (dt port : Nat)
  /-- WMB_PARTIAL_FILL (R247). -/
  | wmbPartialFill (dt rid : Nat) (result : LineRead)
  /-- HELD_WRITE_RELEASE (R125). -/
  | heldWriteRelease (dt ld : Nat)
  /-- WEIR_WAIT_EXPIRY (R125). -/
  | weirWaitExpiry (dt rid : Nat)
  /-- RING_WEIR_WAIT_EXPIRY (R126). -/
  | ringWeirWaitExpiry (dt ld ring sqIndex : Nat)
  /-- FORK_SLOT_WAIT_EXPIRY (R127). -/
  | forkSlotWaitExpiry (dt rid : Nat)
  /-- FORK_COPY_DONE (R134). -/
  | forkCopyDone (dt page : Nat)
  /-- SCARAB_PAGE_DONE (R6). -/
  | scarabPageDone (dt page cluster : Nat)
  /-- STRIPE_PROGRAM_DONE (R128). -/
  | stripeProgramDone (dt stripe tprogUs : Nat)
  /-- STRIPE_PROGRAM_FAIL (R215). -/
  | stripeProgramFail (dt stripe channel : Nat) (status : MediaStatus)
  /-- BAND_ERASE_DONE (R212). -/
  | bandEraseDone (dt band : Nat) (failed : List Nat) (status : MediaStatus)
  /-- DIE_POLL_TIMEOUT (R216). -/
  | diePollTimeout (dt ds : Nat)
  /-- FLASH_READ_DONE (R218). -/
  | flashReadDone (dt page : Nat) (result : ReadResult)
  /-- PARITY_REBUILD_DONE (R188). -/
  | parityRebuildDone (dt page : Nat) (ok : Bool)
  /-- DRAW_DONE (R185). -/
  | drawDone (dt page : Nat) (formOk : Bool)
  /-- REFILL_READ_DONE (R181). -/
  | refillReadDone (dt : Nat) (pages : List Nat) (formOk : Bool)
  /-- FOLD_READBACK_DONE (R213). -/
  | foldReadbackDone (dt band : Nat) (level : ReadResult)
  /-- SCRUB_PERIOD (R219). -/
  | scrubPeriod (dt : Nat)
  /-- GOVERNOR_SLICE (R132). -/
  | governorSlice (dt : Nat)
  /-- CHECKPOINT_CUT (R133). -/
  | checkpointCut
  /-- CUT_BEAT_BOUNDARY (R74). -/
  | cutBeatBoundary
  /-- SPILL_DRAIN_DONE (R148). -/
  | spillDrainDone (dt : Nat)
  /-- SPILL_TAKEOVER_DONE (R149). -/
  | spillTakeoverDone (dt : Nat)
  /-- SPILL_STAGE_B_END (R151). -/
  | spillStageBEnd (dt : Nat)
  /-- SPILL_STAGE_C_END (R150). -/
  | spillStageCEnd (dt : Nat)
  /-- SEAL_PROGRAMMED (R167). -/
  | sealProgrammed (dt : Nat)
  /-- SEAL_HOLD_EXPIRY (R168). -/
  | sealHoldExpiry
  /-- SEALED_RETURN_DECISION (R169). -/
  | sealedReturnDecision
  /-- ELYTRA_PAGE (R154). `line` is the line of the page whose read the symbols `errs` and the devices `failing` tell of
  (`LineRead`). -/
  | elytraPage (dt : Nat) (f : ElyFrame) (line : Nat) (errs : List (Nat × BitVec 8)) (failing : List Nat)
  /-- ELYTRA_PROGRAM (R154): the frame's bytes 0 to 27 and its FRAME_CRC. -/
  | elytraProgram (dt : Nat) (body : BitVec 224) (crc : BitVec 32)
  /-- ELYTRA_SEAL (R158). -/
  | elytraSeal (dt : Nat) (f : ElyFrame)
  /-- ELYTRA_JOURNAL (R154): the frame's bytes 0 to 27 and its FRAME_CRC. -/
  | elytraJournal (dt : Nat) (body : BitVec 224) (crc : BitVec 32)
  /-- ELYTRA_RAIL_OFF (R158). -/
  | elytraRailOff (dt : Nat) (f : ElyFrame)
  /-- ELYTRA_HEARTBEAT (R157). -/
  | elytraHeartbeat (dt : Nat) (f : ElyFrame)
  /-- SEQ_GAP (R154). -/
  | seqGap (dt target : Nat)
  /-- SELF_CHECK (R155). -/
  | selfCheck (dt : Nat) (aOk bOk : Bool)
  /-- SHADOW_PASS (R156). -/
  | shadowPass (dt : Nat) (mismatch : Bool)
  /-- HEARTBEAT_LOST (R157). -/
  | heartbeatLost (dt silent : Nat)
  /-- FENCE_APPLIED (R157). -/
  | fenceApplied (dt target : Nat)
  /-- ELYTRA_ONLINE (R159). -/
  | elytraOnline (dt e : Nat)
  /-- ELYTRA_OFFLINE (R159). -/
  | elytraOffline (dt e : Nat)
  /-- INPUT_COLLAPSE (R388). -/
  | inputCollapse (dt : Nat)
  /-- INPUT_GOOD_RISE (R388). -/
  | inputGoodRise (dt : Nat)
  /-- FM_CHECKPOINT (R74). -/
  | fmCheckpoint (dt : Nat)
  /-- FM_SPILL (R72). -/
  | fmSpill (dt : Nat)
  /-- COLONY_CHECKPOINT (R69). -/
  | colonyCheckpoint (dt boundary : Nat)
  /-- PLUNGE_N_EDGE (R78). -/
  | plungeNEdge (edge : PinEdge)
  /-- PLUNGE_REPEAT (R76). -/
  | plungeRepeat
  /-- PLUNGE_WINDOW_CLOSE (R71). -/
  | plungeWindowClose (dt : Nat)
  /-- BEACON_RX (R53). -/
  | beaconRx (dt port t2 : Nat) (f : Frame)
  /-- FIREFLY_RX (R53). -/
  | fireflyRx (dt port t4 : Nat) (f : Frame)
  /-- ROLE_RX (R47). -/
  | roleRx (dt port : Nat) (f : Frame)
  /-- CONFIG_RX (R67). -/
  | configRx (dt port : Nat) (f : Frame)
  /-- EPOCH_ANNOUNCE_RX (R68). -/
  | epochAnnounceRx (dt port : Nat) (f : Frame)
  /-- PLUNGE_RX (R76). -/
  | plungeRx (dt port : Nat) (f : Frame)
  /-- SEAL_REPORT_RX (R52). -/
  | sealReportRx (dt port : Nat) (f : Frame)
  /-- ISOLATION_AUTO_LIFT (R82). -/
  | isolationAutoLift (port : Nat)
  /-- ISOLATION_LIFT (R82). -/
  | isolationLift (dt port : Nat)
  /-- PORT_UP (R47). -/
  | portUp (dt port : Nat)
  /-- PORT_DOWN (R47). -/
  | portDown (dt port : Nat)
  /-- PORT_SILENT (R47). -/
  | portSilent (port : Nat)
  /-- BACKUP_SELECT (R60). -/
  | backupSelect
  /-- UPSTREAM_SELECT (R42). -/
  | upstreamSelect
  /-- ROLE_PERIODIC (R52). -/
  | rolePeriodic
  /-- CONFIG_PERIODIC (R52). -/
  | configPeriodic
  /-- EPOCH_ANNOUNCE_SEND (R68). -/
  | epochAnnounceSend
  /-- CISTERN_SAMPLE (R87). -/
  | cisternSample (samples : List PackSample)
  /-- COULOMB_SAMPLE (R87). -/
  | coulombSample (dt : Nat) (shunt : List Int)
  /-- SOC_ANCHOR (R88). -/
  | socAnchor (dt pack : Nat)
  /-- SOC_UNC_GROWTH (R89). -/
  | socUncGrowth (dt pack : Nat)
  /-- CALIBRATION_GO (R94). -/
  | calibrationGo (dt pack : Nat)
  /-- CALIBRATION_PAUSE (R94). -/
  | calibrationPause (dt : Nat)
  /-- CALIBRATION_ABORT (R94). -/
  | calibrationAbort (dt : Nat)
  /-- CALIBRATION_FULL (R94). -/
  | calibrationFull (dt : Nat)
  /-- CALIBRATION_DISCHARGE_END (R94). -/
  | calibrationDischargeEnd (dt : Nat)
  /-- LIGHT_PULSE (R97). -/
  | lightPulse (dt pack : Nat)
  /-- LIGHT_PULSE_END (R97). -/
  | lightPulseEnd (dt pack : Nat) (dvMv diMa : Int)
  /-- REHEARSAL_GO (R98). -/
  | rehearsalGo (dt : Nat)
  /-- REHEARSAL_START (R98). -/
  | rehearsalStart (dt : Nat)
  /-- REHEARSAL_LOAD (R98). -/
  | rehearsalLoad
  /-- REHEARSAL_SAMPLE (R99). -/
  | rehearsalSample (dt : Nat) (mv ma : List Int)
  /-- REHEARSAL_END (R98). -/
  | rehearsalEnd (dt powerDw : Nat) (mv ma : List Int)
  /-- REHEARSAL_PUBLISH (R99). -/
  | rehearsalPublish
  /-- PACK_REMOVED (R106). -/
  | packRemoved (dt pack : Nat)
  /-- PACK_INSERTED (R107). -/
  | packInserted (dt pack mv : Nat)
  /-- PACK_COUNTED (R86). -/
  | packCounted (dt pack : Nat)
  /-- ALARM_HIT (R112). -/
  | alarmHit (dt : Nat)
  /-- CRYSTAL_TRIM (R109). -/
  | crystalTrim (dt : Nat) (running : Bool)
  /-- SET_TIMESTAMP (R111). -/
  | setTimestamp (dt : Nat) (m : Mbox) (value : Word)
  /-- GET_TIMESTAMP (R111). -/
  | getTimestamp (dt : Nat) (m : Mbox)
  /-- GPF_PHASE1 (R40). -/
  | gpfPhase1 (dt port : Nat)
  /-- GPF_PHASE2 (R40). -/
  | gpfPhase2 (dt port : Nat)
  /-- GPF_DRAIN_DONE (R40). -/
  | gpfDrainDone (dt port : Nat)
  /-- CXL_RESET_LD (R292). -/
  | cxlResetLd (dt ld : Nat)
  /-- LD_RESET_EFFECT (R325). -/
  | ldResetEffect (dt ld : Nat)
  /-- FAB_LINK_UP (R275). -/
  | fabLinkUp (dt port width rate : Nat) (flit256 flit68 laneRev : Bool)
  /-- FAB_LINK_DOWN (R292). -/
  | fabLinkDown (dt port : Nat)
  /-- FAB_HOT_RESET (R292). -/
  | fabHotReset (dt port : Nat)
  /-- HDM_COMMIT (R283). -/
  | hdmCommit (dt ld decoder hpaBase size ways gran way dpaSkip : Nat) (lock : Bool)
  /-- IDENTIFY (R294). -/
  | identify (dt : Nat) (m : Mbox)
  /-- BACKGROUND_OPERATION_STATUS (R294). -/
  | backgroundOperationStatus (dt : Nat) (m : Mbox)
  /-- GET_RESPONSE_MESSAGE_LIMIT (R294). -/
  | getResponseMessageLimit (dt : Nat) (m : Mbox)
  /-- GET_EVENT_RECORDS (R299). -/
  | getEventRecords (dt : Nat) (m : Mbox) (log : Nat)
  /-- CLEAR_EVENT_RECORDS (R299). -/
  | clearEventRecords (dt : Nat) (m : Mbox) (log : Nat) (handles : List Nat)
  /-- GET_EVENT_INTERRUPT_POLICY (R299). -/
  | getEventInterruptPolicy (dt : Nat) (m : Mbox)
  /-- SET_EVENT_INTERRUPT_POLICY (R299). -/
  | setEventInterruptPolicy (dt : Nat) (m : Mbox) (policy : BitVec 32)
  /-- GET_FW_INFO (R294). -/
  | getFwInfo (dt : Nat) (m : Mbox)
  /-- TRANSFER_FW_INITIATE (R348). -/
  | transferFwInitiate (dt : Nat) (m : Mbox) (slot offset length : Nat) (digest : Word)
  /-- TRANSFER_FW_CONTINUE (R347). -/
  | transferFwContinue (dt : Nat) (m : Mbox) (slot offset length : Nat) (digest : Word)
  /-- TRANSFER_FW_END (R349). -/
  | transferFwEnd (dt : Nat) (m : Mbox) (slot offset length : Nat) (digest : Word) (img : Image)
  /-- TRANSFER_FW_FULL (R347). -/
  | transferFwFull (dt : Nat) (m : Mbox) (slot offset length : Nat) (digest : Word) (img : Image)
  /-- TRANSFER_FW_ABORT (R347). -/
  | transferFwAbort (dt : Nat) (m : Mbox)
  /-- TRANSFER_IDLE_TIMEOUT (R347). -/
  | transferIdleTimeout (dt : Nat)
  /-- FW_PROPAGATE_COPY_DONE (R349). -/
  | fwPropagateCopyDone (dt copy : Nat) (ok : Bool)
  /-- ACTIVATE_FW_ONLINE (R350). -/
  | activateFwOnline (dt : Nat) (m : Mbox) (slot : Nat)
  /-- ACTIVATE_FW_OFFLINE (R350). -/
  | activateFwOffline (dt : Nat) (m : Mbox) (slot : Nat)
  /-- MOLT_READY (R351). -/
  | moltReady (dt : Nat)
  /-- MOLT_TIMEOUT (R352). -/
  | moltTimeout (dt : Nat) (loadFailed : Bool)
  /-- GET_SUPPORTED_LOGS (R294). -/
  | getSupportedLogs (dt : Nat) (m : Mbox)
  /-- GET_LOG (R294). -/
  | getLog (dt : Nat) (m : Mbox)
  /-- IDENTIFY_MEMORY_DEVICE (R30). -/
  | identifyMemoryDevice (dt : Nat) (m : Mbox)
  /-- GET_PARTITION_INFO (R294). -/
  | getPartitionInfo (dt : Nat) (m : Mbox)
  /-- GET_HEALTH_INFO (R298). -/
  | getHealthInfo (dt : Nat) (m : Mbox)
  /-- GET_ALERT_CONFIGURATION (R294). -/
  | getAlertConfiguration (dt : Nat) (m : Mbox)
  /-- SET_ALERT_CONFIGURATION (R294). -/
  | setAlertConfiguration (dt : Nat) (m : Mbox) (config : Word)
  /-- GET_SHUTDOWN_STATE (R300). -/
  | getShutdownState (dt : Nat) (m : Mbox) (ld : Nat)
  /-- SET_SHUTDOWN_STATE (R300). -/
  | setShutdownState (dt : Nat) (m : Mbox) (ld value : Nat)
  /-- GET_POISON_LIST (R290). -/
  | getPoisonList (dt : Nat) (m : Mbox)
  /-- INJECT_POISON (R294). -/
  | injectPoison (dt : Nat) (m : Mbox) (dpa : Nat)
  /-- CLEAR_POISON (R294). -/
  | clearPoison (dt : Nat) (m : Mbox) (dpa : Nat) (data : Line)
  /-- GET_SCAN_MEDIA_CAPABILITIES (R294). -/
  | getScanMediaCapabilities (dt : Nat) (m : Mbox)
  /-- SCAN_MEDIA (R294). -/
  | scanMedia (dt : Nat) (m : Mbox) (dpa lines : Nat) (bad : List Nat)
  /-- GET_SCAN_MEDIA_RESULTS (R294). -/
  | getScanMediaResults (dt : Nat) (m : Mbox)
  /-- SANITIZE (R297). -/
  | sanitize (dt : Nat) (m : Mbox)
  /-- SECURE_ERASE (R297). -/
  | secureErase (dt : Nat) (m : Mbox)
  /-- GET_LD_INFO (R294). -/
  | getLdInfo (dt : Nat) (m : Mbox) (port : Nat)
  /-- GET_LD_ALLOCATIONS (R294). -/
  | getLdAllocations (dt : Nat) (m : Mbox) (port : Nat)
  /-- SET_LD_ALLOCATIONS (R294). -/
  | setLdAllocations (dt : Nat) (m : Mbox)
  /-- GET_QOS_CONTROL (R289). -/
  | getQosControl (dt : Nat) (m : Mbox) (port : Nat)
  /-- SET_QOS_CONTROL (R289). -/
  | setQosControl (dt : Nat) (m : Mbox) (port modPct sevPct : Nat) (other : Word)
  /-- GET_QOS_STATUS (R289). -/
  | getQosStatus (dt : Nat) (m : Mbox) (port : Nat)
  /-- GET_QOS_ALLOCATED_BW (R288). -/
  | getQosAllocatedBw (dt : Nat) (m : Mbox) (port : Nat)
  /-- SET_QOS_ALLOCATED_BW (R288). -/
  | setQosAllocatedBw (dt : Nat) (m : Mbox) (port start : Nat) (fractions : List Nat)
  /-- GET_QOS_BW_LIMIT (R288). -/
  | getQosBwLimit (dt : Nat) (m : Mbox) (port : Nat)
  /-- SET_QOS_BW_LIMIT (R288). -/
  | setQosBwLimit (dt : Nat) (m : Mbox) (port start : Nat) (fractions : List Nat)
  /-- MAILBOX_UNSUPPORTED (R294). -/
  | mailboxUnsupported (dt : Nat) (m : Mbox) (opcode : Nat)
  /-- GET_PERSIST_INFO (R295). -/
  | getPersistInfo (dt : Nat) (m : Mbox)
  /-- SET_LD_EXTENT (R278). -/
  | setLdExtent (dt : Nat) (m : Mbox) (ld base size : Nat)
  /-- BIND_LD (R279). -/
  | bindLd (dt : Nat) (m : Mbox) (ld port ldId : Nat)
  /-- REBIND_LD (R280). -/
  | rebindLd (dt : Nat) (m : Mbox) (ld port ldId : Nat)
  /-- UNBIND_LD (R281). -/
  | unbindLd (dt : Nat) (m : Mbox) (ld : Nat)
  /-- UNBIND_COMPLETE (R281). -/
  | unbindComplete (dt ld : Nat)
  /-- QUIESCE_LD (R34). -/
  | quiesceLd (dt : Nat) (m : Mbox) (ld : Nat)
  /-- QUIESCE_WAIT_EXPIRY (R34). -/
  | quiesceWaitExpiry (dt ld : Nat)
  /-- QUIESCE_COMPLETE (R34). -/
  | quiesceComplete (dt ld : Nat)
  /-- RESUME_LD (R192). -/
  | resumeLd (dt : Nat) (m : Mbox) (ld : Nat)
  /-- REG_ACCESS (R295). -/
  | regAccess (dt : Nat) (m : Mbox) (offset width : Nat) (write : Bool) (value : Word)
  /-- SQ_TAIL_DOORBELL (R303). -/
  | sqTailDoorbell (dt ld ring offset width : Nat) (value : BitVec 32)
  /-- CQ_HEAD_DOORBELL (R303). -/
  | cqHeadDoorbell (dt ld ring offset width : Nat) (value : BitVec 32)
  /-- DESCRIPTOR_FETCH_DONE (R308). -/
  | descriptorFetchDone (dt ld ring : Nat) (r : FetchResult) (shadowTail shadowHead shadowTail2 : Nat)
  /-- DESCRIPTOR_ACCEPT (R306). -/
  | descriptorAccept (dt ld ring : Nat)
  /-- NO_RESOURCE_NOTICE (R307). -/
  | noResourceNotice (dt ld ring : Nat)
  /-- NOP (R311). -/
  | nop (dt ld ring sqIndex : Nat)
  /-- PERSIST_RANGE (R313). -/
  | persistRange (dt ld ring sqIndex : Nat)
  /-- CHECKPOINT_AT (R314). -/
  | checkpointAt (dt ld ring sqIndex : Nat)
  /-- CHECKPOINT_RELEASE (R315). -/
  | checkpointRelease (dt ld ring sqIndex : Nat)
  /-- ROLLBACK_TO (R139). -/
  | rollbackTo (dt ld ring sqIndex : Nat)
  /-- QUERY_PAGES (R317). -/
  | queryPages (dt ld ring sqIndex : Nat)
  /-- ZERO_RANGE (R318). -/
  | zeroRange (dt ld ring sqIndex : Nat)
  /-- SANITIZE_LD (R319). -/
  | sanitizeLd (dt ld ring sqIndex : Nat)
  /-- FENCE (R323). -/
  | fence (dt ld ring sqIndex : Nat)
  /-- READ_SEAL (R320). -/
  | readSeal (dt ld ring sqIndex : Nat) (readable : Bool)
  /-- RING_ENABLE (R328). -/
  | ringEnable (dt : Nat) (path : Path) (ld ring : Nat) (clearTags : Bool)
  /-- RING_DISABLE (R331). -/
  | ringDisable (dt : Nat) (path : Path) (ld ring : Nat)
  /-- RING_RESUME (R331). -/
  | ringResume (dt : Nat) (path : Path) (ld ring : Nat)
  /-- MSIX_COALESCE_TIMEOUT (R332). -/
  | msixCoalesceTimeout (dt ld ring : Nat)
  /-- LD_GO (R177). -/
  | ldGo (dt ld : Nat)
  /-- REBUILD_DONE (R180). -/
  | rebuildDone (dt mapUs : Nat)
  /-- COLD_START (R335). -/
  | coldStart (dt : Nat)
  /-- START_STAGE_COMPLETE (R335). -/
  | startStageComplete (dt : Nat) (obs : StageObs)
  /-- DEVICE_WARM_RESET (R334). -/
  | deviceWarmReset (dt : Nat)
  /-- WATCHDOG_EXPIRY (R342). -/
  | watchdogExpiry (dt : Nat)
  /-- START_TIMEOUT (R342). -/
  | startTimeout (dt : Nat)
  /-- RETRY (R345). -/
  | retry (dt : Nat)
  /-- BOOT_COPY_REPAIR_DONE (R338). -/
  | bootCopyRepairDone (dt copy : Nat) (ok : Bool)
  /-- FAULT_MESSAGE (R357). -/
  | faultMessage (dt source kind address : Nat) (injected cleared : Bool)
  /-- FAULT_INTAKE (R358). -/
  | faultIntake (dt source : Nat)
  /-- FAULT_REACTION (R360). -/
  | faultReaction (dt : Nat)
  /-- ISOLATION_COMPLETE (R365). -/
  | isolationComplete (dt : Nat) (unit : BankDone)
  /-- QUIET_PERIOD_EXPIRY (R365). -/
  | quietPeriodExpiry (dt unit : Nat)
  /-- RECOVERY_DONE (R366). -/
  | recoveryDone (dt unit : Nat) (passed : Bool) (bistUs : Nat)
  /-- UNIT_ISOLATE (R367). -/
  | unitIsolate (dt unit : Nat)
  /-- UNIT_RETURN (R367). -/
  | unitReturn (dt unit : Nat)
  /-- BIST_GO (R368). -/
  | bistGo (dt unit : Nat)
  /-- BIST_DONE (R368). -/
  | bistDone (dt : Nat) (pass : Bool) (failAddr : Nat)
  /-- INJECTION_ARM (R369). -/
  | injectionArm (dt : Nat) (value : Word)
  /-- LATCH_CLEAR (R362). -/
  | latchClear (dt : Nat)
  /-- JOURNAL_RECORD_PROGRAMMED (R207). -/
  | journalRecordProgrammed (dt seq copy : Nat) (status : MediaStatus)
  /-- JOURNAL_SEAL_PROGRAMMED (R207). -/
  | journalSealProgrammed (dt seq copy : Nat)
  /-- JTAG_INSTRUCTION (R370). -/
  | jtagInstruction (dt opcode : Nat)
  /-- DIE_TEMP_HIGH (R449). -/
  | dieTempHigh (dt sensor : Nat) (tempC : Int)
  /-- RAIL_SLOT (R381). -/
  | railSlot (dt : Nat)
  /-- RAIL_TIMEOUT (R382). -/
  | railTimeout (dt rail : Nat)
  /-- POWER_UP_RETRY (R382). -/
  | powerUpRetry (dt : Nat)
  /-- RAIL_SAMPLE (R385). -/
  | railSample (dt rail : Nat) (code : BitVec 12)
  /-- RAIL_PG_LOSS (R386). -/
  | railPgLoss (dt rail : Nat)
  /-- RESET_STRETCH_EXPIRY (R389). -/
  | resetStretchExpiry (dt out : Nat)
  /-- HOLDUP_ENTRY (R391). -/
  | holdupEntry (dt : Nat)
  /-- HOLDUP_END (R391). -/
  | holdupEnd (dt : Nat)
  /-- VAON_POWER_ON (R392). -/
  | vaonPowerOn (chrysalisOk : Bool)
  /-- VAON_LOSS (R447). -/
  | vaonLoss (dt : Nat)
  /-- POR_ASSERT (R450). -/
  | porAssert (dt : Nat)
  /-- POR_RELEASE (R450). -/
  | porRelease (dt : Nat)
  /-- DOMAIN_WAIT (R397). -/
  | domainWait (dt d cls mode : Nat)
  /-- DOMAIN_CANCEL (R398). -/
  | domainCancel (dt d : Nat)
  /-- DOMAIN_IDLE_POINT (R397). -/
  | domainIdlePoint (dt d : Nat)
  /-- DOMAIN_COMMIT_WINDOW_END (R397). -/
  | domainCommitWindowEnd (dt d : Nat)
  /-- DOMAIN_NO_IDLE_TIMEOUT (R397). -/
  | domainNoIdleTimeout (dt d : Nat)
  /-- WAKE_SOURCE (R403). -/
  | wakeSource (dt w : Nat)
  /-- DOMAIN_READY (R401). -/
  | domainReady (dt d : Nat) (slotCrcOk : Bool) (failWord : Nat)
  /-- DRAM_REQUEST_ISSUE (R249). -/
  | dramRequestIssue (dt ch sub : Nat)
  /-- DRAM_READ_DONE (R261). -/
  | dramReadDone (dt ch sub : Nat) (result : LineRead)
  /-- REFRESH_SLOT (R252). -/
  | refreshSlot (dt ch rank : Nat)
  /-- MR4_POLL (R253). -/
  | mr4Poll (ch : Nat) (readOk : Bool) (hottest : Int)
  /-- RH_TABLE_CLEAR (R256). -/
  | rhTableClear (dt ch : Nat)
  /-- RANK_POWER_DOWN (R258). -/
  | rankPowerDown (dt ch rank : Nat)
  /-- DQS_TRACK (R270). -/
  | dqsTrack (ch rank : Nat) (drift : Int)
  /-- EYE_SAMPLE (R271). -/
  | eyeSample (ch rank left right vref : Nat)
  /-- RANK_RETRAIN_DONE (R272). -/
  | rankRetrainDone (dt ch rank : Nat) (better : Bool)
  /-- DRAM_SCRUB_READ (R265). -/
  | dramScrubRead (dt line : Nat) (result : LineRead)
  /-- ALERT_FALL (R266). -/
  | alertFall (dt ch sub rank cause : Nat)
  /-- FREEZE_HOLD_EXPIRY (R267). -/
  | freezeHoldExpiry (dt ch : Nat)
  /-- CHANNEL_OUT (R217). -/
  | channelOut (dt c : Nat)
  /-- CHANNEL_IN (R217). -/
  | channelIn (dt c : Nat)
  /-- CHANNEL_VERIFY_DONE (R217). -/
  | channelVerifyDone (dt c : Nat) (bad : List Nat)
  /-- FLM_KEY_WRITE (R224). -/
  | flmKeyWrite (dt : Nat) (value : BitVec 32)
  /-- FLM_CMD_WRITE (R224). -/
  | flmCmdWrite (dt : Nat) (value : BitVec 32)
  /-- FLM_ADDR_WRITE (R224). -/
  | flmAddrWrite (dt : Nat) (value : Word)
  /-- FLM_SEQUENCE_TIMEOUT (R225). -/
  | flmSequenceTimeout (dt : Nat)
  /-- FLM_BUF_WRITE (R225). -/
  | flmBufWrite (dt offset : Nat) (value : Word) (width : Nat)
  /-- READ_PAGE (R228). -/
  | readPage (dt : Nat) (value : Word) (dieBusy : Option (BitVec 32)) (result : ReadResult)
  /-- READ_PARAM (R226). -/
  | readParam (dt : Nat) (value : Word) (dieBusy : Option (BitVec 32)) (param : List Byte)
  /-- READ_ID (R226). -/
  | readId (dt : Nat) (value : Word) (dieBusy : Option (BitVec 32)) (id : Word)
  /-- READ_STATUS (R228). -/
  | readStatus (dt : Nat) (value : Word) (status : BitVec 32)
  /-- READ_WORD (R226). -/
  | readWord (dt : Nat) (value : Word) (dieBusy : Option (BitVec 32))
  /-- PROGRAM_PAGE (R227). -/
  | programPage (dt : Nat) (value : Word)
  /-- PROGRAM_WORD (R231). -/
  | programWord (dt : Nat) (value : Word)
  /-- ERASE_BLOCK (R227). -/
  | eraseBlock (dt : Nat) (value : Word)
  /-- PW_UNLOCK (R234). -/
  | pwUnlock (dt : Nat) (value : Word)
  /-- PW_SET (R234). -/
  | pwSet (dt : Nat) (value : Word)
  /-- PROT_SET (R233). -/
  | protSet (dt : Nat) (value : Word)
  /-- PROT_LOCK (R234). -/
  | protLock (dt : Nat) (value : Word)
  /-- XIP_SELECT (R236). -/
  | xipSelect (dt : Nat) (value : Word) (sigOk : Bool)
  /-- FLM_INVALID_OPCODE (R226). -/
  | flmInvalidOpcode (dt : Nat) (value : Word)
  /-- FLM_OPERATION_DONE (R230). -/
  | flmOperationDone (dt : Nat) (status : MediaStatus)
  /-- PROT_SESSION_TIMEOUT (R234). -/
  | protSessionTimeout (dt : Nat)
  /-- TWO_WIRE_START (R413). -/
  | twoWireStart (dt addr : Nat)
  /-- TWO_WIRE_FRAME_END (R415): the command code, none in a frame that ends at its address, and the bytes after it. -/
  | twoWireFrameEnd (dt : Nat) (addr : Nat) (code : Option Byte) (bytes : List Byte)
  /-- TWO_WIRE_TIMEOUT (R410). -/
  | twoWireTimeout (dt : Nat)
  /-- TWO_WIRE_AWAKE_EXPIRY (R414). -/
  | twoWireAwakeExpiry (dt : Nat)
  /-- READ32 (R421). -/
  | read32 (dt addr offset : Nat)
  /-- WRITE32 (R421). -/
  | write32 (dt addr offset : Nat) (value : BitVec 32)
  /-- SUMMARY (R423). -/
  | summary (dt addr : Nat)
  /-- MCTP_PACKET_RX (R418). `msg` is the command the message spells, complete with its last packet. -/
  | mctpPacketRx (dt source : Nat) (som eom : Bool) (msgType bytes : Nat) (msg : Instr)
  /-- FM_API_MESSAGE (R418). -/
  | fmApiMessage (dt : Nat)
  /-- SET_ENDPOINT_ID (R418). -/
  | setEndpointId (dt eid : Nat)
  /-- GET_ENDPOINT_ID (R418). -/
  | getEndpointId (dt : Nat)
  /-- GET_MCTP_VERSION_SUPPORT (R418). -/
  | getMctpVersionSupport (dt : Nat)
  /-- GET_MESSAGE_TYPE_SUPPORT (R418). -/
  | getMessageTypeSupport (dt : Nat)
  /-- MCTP_TRANSMIT (R417). -/
  | mctpTransmit (dt : Nat) (lostArbitration : Bool) (winnerAddr : Nat)
  /-- MCTP_RETRY (R417). -/
  | mctpRetry (dt : Nat) (lostArbitration : Bool)
  /-- COMMIT_WRITE (R432). -/
  | commitWrite (dt : Nat) (path : Path) (offset : Nat)
  /-- REGISTER_WRITE (R2). -/
  | registerWrite (dt : Nat) (path : Path) (offset width : Nat) (value : Word)
  /-- RC_READ (R437). -/
  | rcRead (dt : Nat) (path : Path) (offset width : Nat)
  /-- RSL_READ (R436). -/
  | rslRead (dt : Nat) (path : Path) (offset width : Nat)
  /-- MIN_RUN_REACHED (R220). -/
  | minRunReached (dt ds : Nat)
  /-- ZERO_FILL_DONE (R182). -/
  | zeroFillDone (dt page : Nat)
  /-- CONFIGURATION_WRITE_DONE (R232). -/
  | configurationWriteDone (dt half : Nat) (status : MediaStatus)
  deriving DecidableEq, Repr

end Sys2Proof
end

