-- ==== Sys2Proof/Decode.lean ====
section
/-! DEFINITION. Commands from the table's words: spec/opcode_table.json gives no row of the KX7180 any bits (every
row's list of fields is empty), so no word spells a command. -/

namespace Sys2Proof

/-- The command a table word spells: none, for the table gives its rows no bits. -/
def decodeTableWord (_nbits _w : Nat) : Option Instr := none

end Sys2Proof
end

