-- ==== Sys2Proof/Config.lean ====
section
/-! DEFINITION. What one part of the KX7180 fixes (OTP contents, the die's tables) and the values the manual leaves
open: constants with no body, so that nothing can be proved of them. -/

namespace Sys2Proof

/-- SERIAL of OTP (BOOT_ID). Log entry 4. -/
opaque Config.otpSerial : BitVec 64
/-- HW_TYPE of OTP (BOOT_HWTYPE). Log entry 4. -/
opaque Config.otpHwType : BitVec 32
/-- Word i of the OTP key hash (BOOT_KEYHASH[i]). Log entry 4. -/
opaque Config.otpKeyHash : Nat → BitVec 64
/-- The OTP rail table, PSQ_RAIL_CFG[r] (R392). Log entry 4. -/
opaque Config.otpRailCfg : Nat → BitVec 64
/-- The OTP reset table, PSQ_RST_CFG[i] (R392). Log entry 4. -/
opaque Config.otpRstCfg : Nat → BitVec 64
/-- The die's read-retry offsets, LOG_RR_SET[i]. Log entry 4. -/
opaque Config.dieReadOffsets : Nat → BitVec 32

/-- The length to which the Scarab engines compress a page content, given as its bytes that are not 0 by offset: fixed
in hardware and not specified (R462). Log entry 5. -/
opaque Config.storedLen : List (Nat × BitVec 8) → Nat

/-- Phase of controller clock `ch` against the always-on time (DRC_FRZ_HIST). Log entry 18. -/
opaque Config.clockPhase : Nat → Nat
/-- MR-`i` that a device of channel `ch`, logical rank `r` answers at draw `k` (DRC_FRZ_MR). Log entry 18. -/
opaque Config.deviceMr : Nat → Nat → Nat → Nat → BitVec 8
/-- Whether the mode register reads of a freeze decode (MR_OK), at draw `k`. Log entry 18. -/
opaque Config.mrReadOk : Nat → Bool
/-- Whether the page-state cache holds the record of page `p`, at draw `k`: its replacement is not specified. Log
entry 19. -/
opaque Config.cacheHolds : Nat → Nat → Bool

/-- Byte `i` of the compressed stream that the Scarab engines make of a page content, given as its bytes that are not 0 by offset: the
format is internal to the KX7180 (R462). Log entry 82. -/
opaque Config.stream : List (Nat × BitVec 8) → Nat → BitVec 8
/-- Byte `i` of the 64 bytes of the data key of generation `g` of LD `n`, which is secret (R6, R319). Log entry 82. -/
opaque Config.dataKey : Nat → Nat → Nat → BitVec 8
/-- Byte `i` of what the engines store of fewer than 16 bytes, for which AES-256-XTS is not defined: by LD, key generation, page and
content (R6). Log entry 82. -/
opaque Config.shortByte : Nat → Nat → Nat → List (Nat × BitVec 8) → Nat → BitVec 8
/-- Byte `i` of what a stored form yields when it is read under another data key than it was written under, at draw `k`
(R6). Log entry 82. -/
opaque Config.garbled : Nat → Nat → BitVec 8
/-- Byte `i` of the wrapped data key of generation `g` of LD `n` (Table 08-5, META type 0x04). Log entry 83. -/
opaque Config.wrappedKey : Nat → Nat → Nat → BitVec 8
/-- Check symbol `i` of the RS(80,64) codeword of a line, and byte `i` of the fixed poison pattern (R260, R262): the field
polynomial, the generator and the pattern are not specified. Log entry 90. -/
opaque Config.rsCheck : BitVec 512 → Nat → BitVec 8
opaque Config.poisonPattern : Nat → BitVec 8
/-- Which Elytra unit sends a message that concerns both (SEQ_GAP, ELYTRA_DISAGREE), at draw `k`: not specified. Log
entry 25. -/
opaque Config.elyUnit : Nat → Bool
/-- DRC_FRZ_INFO's rank (bits 3:0), subchannel (bit 4) and cause (bits 6:5) when a channel freezes by a fault reaction and
not by failed replays, at draw `k`. Log entry 32. -/
opaque Config.frzInfo : Nat → BitVec 7
/-- Whether a seal word of the journal whose program a loss of power interrupted reads as programmed, at draw `k` (R207). Log
entry 22. -/
opaque Config.sealReads : Nat → Bool
/-- Offset in the spare area of a plane 0 page at which the header fragment lies (R203): not specified. Log entry 34. -/
opaque Config.fragmentAt : Nat
/-- Byte `off` of flash content that the model does not hold, as draw `k` reads it. Log entry 34. -/
opaque Config.rawByte : Nat → Nat → BitVec 8
/-- A 32-bit word of flash or die state that the model does not hold, at draw `k`. Log entry 34. -/
opaque Config.rawWord : Nat → BitVec 32
/-- Programs a pSLC page takes (the die table's nop, R231). Log entry 34. -/
opaque Config.dieNop : Nat
/-- pSLC pages per block as the recovery code knows them before a start has read the geometry. Log entry 34. -/
opaque Config.dieTableP : Nat
/-- Duration, µs, of a port command that the model ends at once, at draw `k` (FLM_STS). Log entry 34. -/
opaque Config.flmUs : Nat → BitVec 16
/-- Whether HOLDUP stands at or above 11.4 V as PSQ_STS is read, at draw `k` (R391). Log entry 117. -/
opaque Config.holdupCharged : Nat → Bool
/-- Whether the two-wire entries of OTP are blank, and TWB_ADDR[i] where they are not (R412). Log entry 72. -/
opaque Config.otpTwbBlank : Bool
opaque Config.otpTwbAddr : Nat → BitVec 12
/-- What a read of a CXL, PCIe or MSI-X register of BAR0 returns at draw `k`: the standards lay them out (R425). Log
entry 36. -/
opaque Config.cxlReg : Nat → BitVec 64
/-- The mode registers of DRAM channel `ch` state that refresh management is required (R257, DRC_STS). Log entry 37. -/
opaque Config.rfmRequired : Nat → Bool
/-- RAAIMT that the devices of channel `ch` state (R257), and their alert latency, ns (R266). Log entry 109. -/
opaque Config.raaimt : Nat → Nat
opaque Config.alertNs : Nat → Nat
/-- SCB_CL_STS bits 55:48 and 31:12 of a cluster (ENGINES_OK and the engines in each role), at draw `k`. Log entry 38. -/
opaque Config.clusterWork : Nat → BitVec 28
/-- What a mailbox response holds that the CXL standard lays out and the manual does not give (identity values, limits, effects
of a command), by item. Log entry 39. -/
opaque Config.mboxInfo : Nat → BitVec 64
/-- What a mailbox response measures and no rule computes (percentages, temperature, estimates), at draw `k`. Log entry 39. -/
opaque Config.mboxFree : Nat → BitVec 32
/-- The cause byte of a CHANNEL_SERVICE record at draw `k`: Table 08-7 names no codes. Log entry 22. -/
opaque Config.serviceCause : Nat → BitVec 8

/-- Entry `i` of the default impedance table where neither the configuration region nor the loaded image holds one, 10 µΩ units
(R107). Log entry 29. -/
opaque Config.defaultZ : Nat → BitVec 16
/-- The impedance a light pulse yields whose ΔV ÷ ΔI has no value (ΔI is 0), at draw `k` (R97). Log entry 30. -/
opaque Config.pulseZ : Nat → BitVec 16
/-- The load factor, in steps of LOAD_F, of a rehearsal whose quotient has no value (no current step, or a table
impedance of 0), at draw `k` (R99). Log entry 30. -/
opaque Config.rehLoadF : Nat → BitVec 8
/-- SOC_RPT while no pack is counted, at draw `k` (R90, R91). Log entry 31. -/
opaque Config.socRpt : Nat → BitVec 10

end Sys2Proof
end

