-- ==== Sys2Proof/Machine/Fields.lean ====
section
/-! DEFINITION. The register fields of chapter 18, Table 18-8, with the field maps of the home chapters: each
field is named by its register and its field, placed by its bit address in BAR0 of the FM-owned LD (8 times the
byte offset plus its lowest bit), and carries the value of its Reset column. Indexed registers take their indices
(R3) as arguments. -/

namespace Sys2Proof.Machine

/-- One register field: bit address in BAR0, width in bits, reset value. -/
structure Field where
  bit   : Nat
  width : Nat
  reset : Nat
  deriving DecidableEq, Repr

/-- The access codes of R1 (Table 00-1), with the two kinds of RSL field that a write of 1 clears (R436, R438). -/
inductive Access where
  | ro | rw | rwb | w1c | wo | rc | rsl
  | rslW1      -- RSL, cleared by writing 1
  | rslSat     -- RSL saturation flag: writing 1 clears it and its counter
  deriving DecidableEq, Repr

/-- One row of Table 18-8: base offset, whether it is 64 bits wide, stride and count of each index, and the
fields of the register at given indices. -/
structure RegRow where
  base : Nat
  wide : Bool
  dims : List (Nat × Nat)
  flds : List Nat → List (Field × Access)

/-! Reset values that the field maps give by reference. -/

/-- DRC_QOS targets (Table 10-4), ns. -/
def Rst.qosTarget (q : Nat) : Nat := [250, 250, 4000, 150, 1000].getD q 0
/-- FLT_REACT defaults (Table 14-5). -/
def Rst.reactEvent (v : Nat) : Nat := [0, 1, 2, 3, 4].getD v 0
def Rst.reactReset (v : Nat) : Nat := [0, 0, 0, 0, 1].getD v 0
def Rst.reactPlunge (v : Nat) : Nat := [0, 0, 0, 0, 1].getD v 0
def Rst.reactIsolate (v : Nat) : Nat := [0, 0, 0, 1, 1].getD v 0
def Rst.reactIrq (v : Nat) : Nat := [0, 0, 1, 1, 1].getD v 0
def Rst.reactJournal (v : Nat) : Nat := [0, 0, 1, 1, 1].getD v 0

/-- The row of Table 14-3 of a unit: its severity by checker class, `none` where the class is never sent.
0 LOG, 1 CORRECTED, 2 DEGRADED, 3 UNIT_FAULT, 4 DEVICE_FATAL. -/
def Rst.severityRow (u : Nat) : List (Option Nat) :=
  let n : Option Nat := none
  let l := some 0
  let c := some 1
  let d := some 2
  let x := some 3
  let f := some 4
  if u = 0 then [c, f, f, n, n, n, n, l]
  else if u ≤ 4 then [c, f, f, n, d, n, n, l]
  else if u = 5 then [c, f, f, n, n, n, n, l]
  else if u ≤ 7 then [c, x, d, n, x, n, n, d]
  else if u = 8 then [c, d, n, n, n, n, n, l]
  else if u ≤ 10 then [c, x, c, n, d, n, n, l]
  else if u ≤ 12 then [c, f, f, d, n, n, n, l]
  else if u = 13 then [c, f, f, l, n, n, n, l]
  else if u = 14 then [c, f, f, n, n, n, n, d]
  else if u = 15 then [c, f, f, n, n, n, n, l]
  else if u ≤ 31 then [c, x, x, n, n, n, n, l]
  else if u ≤ 39 then [c, x, x, n, n, c, d, d]
  else if u ≤ 55 then [c, x, x, n, x, c, d, d]
  else if u ≤ 71 then [c, x, x, n, n, n, n, l]
  else if u ≤ 75 then [c, d, c, n, n, n, n, d]
  else if u = 76 then [n, n, n, n, n, n, n, d]
  else if u = 77 then [n, n, n, n, l, n, n, n]
  else if u = 78 then [c, d, d, n, n, n, n, d]
  else if u = 79 then [c, d, n, n, n, n, n, d]
  else if u = 80 then [c, d, n, n, n, n, n, l]
  else if u = 81 then [c, x, x, n, n, n, n, l]
  else if u = 82 then [n, n, n, n, d, c, x, l]
  else if u = 83 then [n, n, n, n, n, n, n, d]
  else if u = 84 then [c, d, n, n, n, n, n, d]
  else if u = 85 then [c, d, n, l, n, n, n, l]
  else if u = 86 then [n, n, n, l, n, n, n, l]
  else if u = 87 then [n, n, n, n, n, n, n, d]
  else []

/-- Whether source s is ever sent (R355): sources that are not read 0 and ignore writes (R379). -/
def Rst.sent (s : Nat) : Bool := (((Rst.severityRow (s / 8)).getD (s % 8) none)).isSome
/-- FLT_SRC_CFG severity of source s (Table 14-3). -/
def Rst.severity (s : Nat) : Nat := ((Rst.severityRow (s / 8)).getD (s % 8) none).getD 0

/-- PDM_WAKE_MASK defaults (Table 16-4): word i of wake source w. -/
def Rst.wakeDomains (w : Nat) : List Nat :=
  match w with
  | 0 => [3, 7]
  | 1 => [3, 4, 5, 6, 7, 95]
  | 2 => [60, 61, 62, 63, 64, 65, 66, 67, 68, 69, 70, 71, 72, 73, 74, 75, 92]
  | 3 => [3, 7]
  | 4 => [92]
  | _ => []
def Rst.wakeMask (w i : Nat) : Nat :=
  ((Rst.wakeDomains w).filter (fun d => d / 32 = i)).foldl (fun m d => m + 2 ^ (d % 32)) 0

/-- OTP values (R336, R412, R392): constants of the part (Config). -/
def Rst.serial : Nat := Config.otpSerial.toNat
def Rst.hwType : Nat := Config.otpHwType.toNat
def Rst.keyHash (i : Nat) : Nat := (Config.otpKeyHash i).toNat
def Rst.railCfg (r : Nat) : Nat := (Config.otpRailCfg r).toNat
def Rst.rstCfg (i : Nat) : Nat := (Config.otpRstCfg i).toNat
/-- LOG_RR_SET: the die table of the parameter pages (chapter 08). -/
def Rst.rrSet (i : Nat) : Nat := (Config.dieReadOffsets i).toNat
/-- TWB_ADDR (R412): the OTP entry; with a blank OTP table, entry 0 is address 0x32 with MCTP, entry 1 address 0x33 with register access
and no writes. -/
def Rst.twbAddr (i : Nat) : Nat :=
  if Config.otpTwbBlank then [0x832, 0xC33, 0, 0].getD i 0 else (Config.otpTwbAddr i).toNat

def Fld.COL_CTL.PLUNGEN_EN : Field := ⟨8 * (0x190000) + 2, 1, 1⟩
def Fld.COL_CTL.ROLE : Field := ⟨8 * (0x190000) + 0, 2, 0⟩
def Fld.COL_COMMIT.COMMIT : Field := ⟨8 * (0x190004) + 0, 1, 0⟩
def Fld.COL_ID.MODULE_ID : Field := ⟨8 * (0x190008) + 0, 14, 0⟩
def Fld.COL_GROUP_MASK.GROUPS : Field := ⟨8 * (0x190010) + 0, 64, 0⟩
def Fld.COL_EPOCH_CFG.GUARD : Field := ⟨8 * (0x190018) + 8, 4, 4⟩
def Fld.COL_EPOCH_CFG.K : Field := ⟨8 * (0x190018) + 0, 5, 10⟩
def Fld.COL_PORT_CFG.ASYM_NS (p : Nat) : Field := ⟨8 * (0x190020 + 4 * p) + 8, 8, 0⟩
def Fld.COL_PORT_CFG.ROLE (p : Nat) : Field := ⟨8 * (0x190020 + 4 * p) + 0, 2, 0⟩
def Fld.COL_PORT_STS.NEIGH_ID (p : Nat) : Field := ⟨8 * (0x190030 + 4 * p) + 16, 14, 0⟩
def Fld.COL_PORT_STS.NEIGH_DEPTH (p : Nat) : Field := ⟨8 * (0x190030 + 4 * p) + 12, 4, 0⟩
def Fld.COL_PORT_STS.LINK_UP (p : Nat) : Field := ⟨8 * (0x190030 + 4 * p) + 3, 1, 0⟩
def Fld.COL_PORT_STS.SILENT (p : Nat) : Field := ⟨8 * (0x190030 + 4 * p) + 2, 1, 0⟩
def Fld.COL_PORT_STS.ISOLATED (p : Nat) : Field := ⟨8 * (0x190030 + 4 * p) + 1, 1, 0⟩
def Fld.COL_PORT_STS.SELECTED (p : Nat) : Field := ⟨8 * (0x190030 + 4 * p) + 0, 1, 0⟩
def Fld.COL_PORT_ERRA.CRC_SAT (p : Nat) : Field := ⟨8 * (0x190040 + 8 * p) + 31, 1, 0⟩
def Fld.COL_PORT_ERRA.CRC_ERR (p : Nat) : Field := ⟨8 * (0x190040 + 8 * p) + 16, 15, 0⟩
def Fld.COL_PORT_ERRA.CODE_SAT (p : Nat) : Field := ⟨8 * (0x190040 + 8 * p) + 15, 1, 0⟩
def Fld.COL_PORT_ERRA.CODE_ERR (p : Nat) : Field := ⟨8 * (0x190040 + 8 * p) + 0, 15, 0⟩
def Fld.COL_PORT_ERRB.ISO_SAT (p : Nat) : Field := ⟨8 * (0x190044 + 8 * p) + 31, 1, 0⟩
def Fld.COL_PORT_ERRB.ISO_EVENTS (p : Nat) : Field := ⟨8 * (0x190044 + 8 * p) + 16, 15, 0⟩
def Fld.COL_PORT_ERRB.MAL_SAT (p : Nat) : Field := ⟨8 * (0x190044 + 8 * p) + 15, 1, 0⟩
def Fld.COL_PORT_ERRB.MALFORMED (p : Nat) : Field := ⟨8 * (0x190044 + 8 * p) + 0, 15, 0⟩
def Fld.COL_ISO_CFG.LIFT : Field := ⟨8 * (0x190060) + 16, 4, 0⟩
def Fld.COL_ISO_CFG.AUTO_LIFT : Field := ⟨8 * (0x190060) + 8, 1, 1⟩
def Fld.COL_ISO_CFG.THRESH : Field := ⟨8 * (0x190060) + 0, 8, 16⟩
def Fld.COL_TIME_STS.ROOT_ID : Field := ⟨8 * (0x190070) + 16, 14, 0⟩
def Fld.COL_TIME_STS.DEPTH : Field := ⟨8 * (0x190070) + 12, 4, 0⟩
def Fld.COL_TIME_STS.ROOT_CONFLICT : Field := ⟨8 * (0x190070) + 7, 1, 0⟩
def Fld.COL_TIME_STS.ID_CONFLICT : Field := ⟨8 * (0x190070) + 6, 1, 0⟩
def Fld.COL_TIME_STS.DEPTH_EXCEEDED : Field := ⟨8 * (0x190070) + 5, 1, 0⟩
def Fld.COL_TIME_STS.STEPPED : Field := ⟨8 * (0x190070) + 4, 1, 0⟩
def Fld.COL_TIME_STS.TIME_FAR : Field := ⟨8 * (0x190070) + 3, 1, 0⟩
def Fld.COL_TIME_STS.STATE : Field := ⟨8 * (0x190070) + 0, 3, 0⟩
def Fld.COL_TIME.TIME_NS : Field := ⟨8 * (0x190078) + 0, 64, 0⟩
def Fld.COL_SYNC.DELAY_NS : Field := ⟨8 * (0x190080) + 32, 16, 0⟩
def Fld.COL_SYNC.OFFSET_NS : Field := ⟨8 * (0x190080) + 0, 32, 0⟩
def Fld.COL_PLUNGE_STS.OPEN : Field := ⟨8 * (0x190088) + 63, 1, 0⟩
def Fld.COL_PLUNGE_STS.LATE : Field := ⟨8 * (0x190088) + 62, 1, 0⟩
def Fld.COL_PLUNGE_STS.ORIGIN : Field := ⟨8 * (0x190088) + 48, 14, 0⟩
def Fld.COL_PLUNGE_STS.CUT_BEAT : Field := ⟨8 * (0x190088) + 0, 48, 0⟩
def Fld.COL_PLUNGE_INFO.PASSED : Field := ⟨8 * (0x190090) + 31, 1, 0⟩
def Fld.COL_PLUNGE_INFO.OWN_SPILL : Field := ⟨8 * (0x190090) + 30, 1, 0⟩
def Fld.COL_PLUNGE_INFO.PLUNGEN_LOW : Field := ⟨8 * (0x190090) + 29, 1, 0⟩
def Fld.COL_PLUNGE_INFO.LEFT : Field := ⟨8 * (0x190090) + 16, 7, 0⟩
def Fld.COL_PLUNGE_INFO.MERGED : Field := ⟨8 * (0x190090) + 8, 8, 0⟩
def Fld.COL_PLUNGE_INFO.CAUSE : Field := ⟨8 * (0x190090) + 0, 4, 0⟩
def Fld.COL_PLUNGE_CNT.LATE_SAT : Field := ⟨8 * (0x190098) + 31, 1, 0⟩
def Fld.COL_PLUNGE_CNT.LATE_CUTS : Field := ⟨8 * (0x190098) + 16, 15, 0⟩
def Fld.COL_PLUNGE_CNT.WIN_SAT : Field := ⟨8 * (0x190098) + 15, 1, 0⟩
def Fld.COL_PLUNGE_CNT.WINDOWS : Field := ⟨8 * (0x190098) + 0, 15, 0⟩
def Fld.COL_PLUNGE_CMD.SPILL : Field := ⟨8 * (0x1900a0) + 1, 1, 0⟩
def Fld.COL_PLUNGE_CMD.GO : Field := ⟨8 * (0x1900a0) + 0, 1, 0⟩
def Fld.COL_PLUNGEN_MASK.GROUPS : Field := ⟨8 * (0x1900a8) + 0, 64, 18446744073709551615⟩
def Fld.COL_CKPT_CMD.GO : Field := ⟨8 * (0x1900b0) + 63, 1, 0⟩
def Fld.COL_CKPT_CMD.BOUNDARY : Field := ⟨8 * (0x1900b0) + 0, 48, 0⟩
def Fld.COL_CKPT_MASK.GROUPS : Field := ⟨8 * (0x1900b8) + 0, 64, 0⟩
def Fld.COL_PLAN_FLASH.PLAN_REJECT : Field := ⟨8 * (0x1900c0) + 31, 1, 0⟩
def Fld.COL_PLAN_FLASH.GC_MIN : Field := ⟨8 * (0x1900c0) + 16, 6, 8⟩
def Fld.COL_PLAN_FLASH.RILL_MIN : Field := ⟨8 * (0x1900c0) + 8, 6, 32⟩
def Fld.COL_PLAN_FLASH.DRAW_MIN : Field := ⟨8 * (0x1900c0) + 0, 6, 8⟩
def Fld.COL_PLAN_SCARAB.CHECK_MIN : Field := ⟨8 * (0x1900c4) + 24, 8, 4⟩
def Fld.COL_PLAN_SCARAB.COPY_MIN : Field := ⟨8 * (0x1900c4) + 16, 8, 8⟩
def Fld.COL_PLAN_SCARAB.CLEAN_MIN : Field := ⟨8 * (0x1900c4) + 8, 8, 24⟩
def Fld.COL_PLAN_SCARAB.RESTORE_MIN : Field := ⟨8 * (0x1900c4) + 0, 8, 16⟩
def Fld.COL_OVERRUN.SAT (r : Nat) : Field := ⟨8 * (0x190100 + 4 * r) + 31, 1, 0⟩
def Fld.COL_OVERRUN.COUNT (r : Nat) : Field := ⟨8 * (0x190100 + 4 * r) + 0, 31, 0⟩
def Fld.COL_CKPT_CNT.IG_SAT : Field := ⟨8 * (0x1900c8) + 31, 1, 0⟩
def Fld.COL_CKPT_CNT.IGNORED : Field := ⟨8 * (0x1900c8) + 16, 15, 0⟩
def Fld.CIS_CFG.P_SPILL_W : Field := ⟨8 * (0x1a0000) + 22, 10, 1023⟩
def Fld.CIS_CFG.DERATE_FLOOR : Field := ⟨8 * (0x1a0000) + 14, 8, 0⟩
def Fld.CIS_CFG.INPUT_RAIL : Field := ⟨8 * (0x1a0000) + 9, 5, 0⟩
def Fld.CIS_CFG.N1_EN : Field := ⟨8 * (0x1a0000) + 8, 1, 0⟩
def Fld.CIS_CFG.SWAP_POLICY : Field := ⟨8 * (0x1a0000) + 7, 1, 0⟩
def Fld.CIS_CFG.LEVEL : Field := ⟨8 * (0x1a0000) + 6, 1, 0⟩
def Fld.CIS_CFG.CAL_RESERVE : Field := ⟨8 * (0x1a0000) + 0, 6, 4⟩
def Fld.CIS_COMMIT.COMMIT : Field := ⟨8 * (0x1a0004) + 0, 1, 0⟩
def Fld.CIS_RPT.N1_UNMET : Field := ⟨8 * (0x1a0008) + 12, 1, 0⟩
def Fld.CIS_RPT.MIXED : Field := ⟨8 * (0x1a0008) + 11, 1, 0⟩
def Fld.CIS_RPT.MODE : Field := ⟨8 * (0x1a0008) + 10, 1, 0⟩
def Fld.CIS_RPT.SOC_RPT : Field := ⟨8 * (0x1a0008) + 0, 10, 0⟩
def Fld.CIS_PACK_CFG.DESIGN_DWH (p : Nat) : Field := ⟨8 * (0x1a0010 + 8 * p) + 48, 16, 0⟩
def Fld.CIS_PACK_CFG.SHUNT_UOHM (p : Nat) : Field := ⟨8 * (0x1a0010 + 8 * p) + 36, 12, 0⟩
def Fld.CIS_PACK_CFG.CHG_TARGET (p : Nat) : Field := ⟨8 * (0x1a0010 + 8 * p) + 28, 8, 100⟩
def Fld.CIS_PACK_CFG.CHG_LIM_PCT (p : Nat) : Field := ⟨8 * (0x1a0010 + 8 * p) + 20, 8, 50⟩
def Fld.CIS_PACK_CFG.V_CUT_MV (p : Nat) : Field := ⟨8 * (0x1a0010 + 8 * p) + 8, 12, 3000⟩
def Fld.CIS_PACK_CFG.CHG_OFF (p : Nat) : Field := ⟨8 * (0x1a0010 + 8 * p) + 4, 1, 0⟩
def Fld.CIS_PACK_CFG.ENABLE (p : Nat) : Field := ⟨8 * (0x1a0010 + 8 * p) + 3, 1, 0⟩
def Fld.CIS_PACK_CFG.CELLS (p : Nat) : Field := ⟨8 * (0x1a0010 + 8 * p) + 0, 3, 4⟩
def Fld.CIS_PACK_STS.VOLT_MV (p : Nat) : Field := ⟨8 * (0x1a0030 + 8 * p) + 48, 16, 0⟩
def Fld.CIS_PACK_STS.CURRENT (p : Nat) : Field := ⟨8 * (0x1a0030 + 8 * p) + 32, 16, 0⟩
def Fld.CIS_PACK_STS.TEMP_C (p : Nat) : Field := ⟨8 * (0x1a0030 + 8 * p) + 24, 8, 0⟩
def Fld.CIS_PACK_STS.CHG_BLOCK (p : Nat) : Field := ⟨8 * (0x1a0030 + 8 * p) + 8, 4, 0⟩
def Fld.CIS_PACK_STS.N1_DROPPED (p : Nat) : Field := ⟨8 * (0x1a0030 + 8 * p) + 7, 1, 0⟩
def Fld.CIS_PACK_STS.INSERT_EST (p : Nat) : Field := ⟨8 * (0x1a0030 + 8 * p) + 6, 1, 0⟩
def Fld.CIS_PACK_STS.AT_REST (p : Nat) : Field := ⟨8 * (0x1a0030 + 8 * p) + 5, 1, 0⟩
def Fld.CIS_PACK_STS.VOLT_FAULT (p : Nat) : Field := ⟨8 * (0x1a0030 + 8 * p) + 4, 1, 0⟩
def Fld.CIS_PACK_STS.NTC_FAULT (p : Nat) : Field := ⟨8 * (0x1a0030 + 8 * p) + 3, 1, 0⟩
def Fld.CIS_PACK_STS.CHARGING (p : Nat) : Field := ⟨8 * (0x1a0030 + 8 * p) + 2, 1, 0⟩
def Fld.CIS_PACK_STS.COUNTED (p : Nat) : Field := ⟨8 * (0x1a0030 + 8 * p) + 1, 1, 0⟩
def Fld.CIS_PACK_STS.PRESENT (p : Nat) : Field := ⟨8 * (0x1a0030 + 8 * p) + 0, 1, 0⟩
def Fld.CIS_PACK_EST.CYCLES (p : Nat) : Field := ⟨8 * (0x1a0050 + 8 * p) + 48, 16, 0⟩
def Fld.CIS_PACK_EST.SOC (p : Nat) : Field := ⟨8 * (0x1a0050 + 8 * p) + 38, 10, 0⟩
def Fld.CIS_PACK_EST.HEALTH (p : Nat) : Field := ⟨8 * (0x1a0050 + 8 * p) + 28, 10, 0⟩
def Fld.CIS_PACK_EST.DERATE (p : Nat) : Field := ⟨8 * (0x1a0050 + 8 * p) + 18, 10, 0⟩
def Fld.CIS_PACK_EST.SOC_UNC (p : Nat) : Field := ⟨8 * (0x1a0050 + 8 * p) + 8, 10, 0⟩
def Fld.CIS_PACK_EST.LOAD_F (p : Nat) : Field := ⟨8 * (0x1a0050 + 8 * p) + 0, 8, 255⟩
def Fld.CIS_PACK_ENERGY.DELIV_J (p : Nat) : Field := ⟨8 * (0x1a0070 + 4 * p) + 0, 32, 0⟩
def Fld.CIS_USABLE.N1_DEDUCT_J : Field := ⟨8 * (0x1a0080) + 32, 32, 0⟩
def Fld.CIS_USABLE.USABLE_J : Field := ⟨8 * (0x1a0080) + 0, 32, 0⟩
def Fld.CIS_CAL_CMD.PACK : Field := ⟨8 * (0x1a0090) + 4, 2, 0⟩
def Fld.CIS_CAL_CMD.PAUSE : Field := ⟨8 * (0x1a0090) + 2, 1, 0⟩
def Fld.CIS_CAL_CMD.ABORT : Field := ⟨8 * (0x1a0090) + 1, 1, 0⟩
def Fld.CIS_CAL_CMD.GO : Field := ⟨8 * (0x1a0090) + 0, 1, 0⟩
def Fld.CIS_CAL_STS.STATE : Field := ⟨8 * (0x1a0094) + 28, 4, 0⟩
def Fld.CIS_CAL_STS.INTERRUPTIONS : Field := ⟨8 * (0x1a0094) + 24, 4, 0⟩
def Fld.CIS_CAL_STS.REASON : Field := ⟨8 * (0x1a0094) + 20, 4, 0⟩
def Fld.CIS_REH_CFG.GO : Field := ⟨8 * (0x1a0098) + 31, 1, 0⟩
def Fld.CIS_REH_CFG.MIN_SOC : Field := ⟨8 * (0x1a0098) + 8, 8, 60⟩
def Fld.CIS_REH_CFG.INTERVAL_DAYS : Field := ⟨8 * (0x1a0098) + 0, 8, 30⟩
def Fld.CIS_REH_STS.RESULT : Field := ⟨8 * (0x1a00a0) + 60, 4, 0⟩
def Fld.CIS_REH_STS.P_MEAS : Field := ⟨8 * (0x1a00a0) + 32, 16, 0⟩
def Fld.CIS_REH_STS.DAYS_SINCE : Field := ⟨8 * (0x1a00a0) + 16, 16, 0⟩
def Fld.CIS_REH_STS.SAG_MV : Field := ⟨8 * (0x1a00a0) + 0, 16, 0⟩
def Fld.CIS_ELAPSED.ELAPSED_US : Field := ⟨8 * (0x1a00b0) + 0, 64, 0⟩
def Fld.CIS_ALARM.ALARM_US : Field := ⟨8 * (0x1a00b8) + 0, 64, 0⟩
def Fld.CIS_TIME_STS.XTAL_OK : Field := ⟨8 * (0x1a00c0) + 3, 1, 0⟩
def Fld.CIS_TIME_STS.ALARM_HIT : Field := ⟨8 * (0x1a00c0) + 2, 1, 0⟩
def Fld.CIS_TIME_STS.PACK_LOST : Field := ⟨8 * (0x1a00c0) + 1, 1, 0⟩
def Fld.CIS_TIME_STS.TIME_LOST : Field := ⟨8 * (0x1a00c0) + 0, 1, 0⟩
def Fld.CIS_TS_BASE.TS_BASE : Field := ⟨8 * (0x1a00c8) + 0, 64, 0⟩
def Fld.CIS_TS_MARK.TS_MARK : Field := ⟨8 * (0x1a00d0) + 0, 64, 0⟩
def Fld.CIS_EVT_CNT.LOSS_SAT : Field := ⟨8 * (0x1a00d8) + 31, 1, 0⟩
def Fld.CIS_EVT_CNT.PACK_LOSS : Field := ⟨8 * (0x1a00d8) + 16, 15, 0⟩
def Fld.CIS_EVT_CNT.REJ_SAT : Field := ⟨8 * (0x1a00d8) + 15, 1, 0⟩
def Fld.CIS_EVT_CNT.LEARN_REJECT : Field := ⟨8 * (0x1a00d8) + 0, 15, 0⟩
def Fld.CIS_ZTAB.Z_HI (p j : Nat) : Field := ⟨8 * (0x1a0100 + 0x80 * p + 4 * j) + 16, 16, 0⟩
def Fld.CIS_ZTAB.Z_LO (p j : Nat) : Field := ⟨8 * (0x1a0100 + 0x80 * p + 4 * j) + 0, 16, 0⟩
def Fld.CIS_OCV.OCV_HI (j : Nat) : Field := ⟨8 * (0x1a0300 + 4 * j) + 16, 16, 0⟩
def Fld.CIS_OCV.OCV_LO (j : Nat) : Field := ⟨8 * (0x1a0300 + 4 * j) + 0, 16, 0⟩
def Fld.WEIR_CFG.CREDIT_EN : Field := ⟨8 * (0x110000) + 31, 1, 0⟩
def Fld.WEIR_CFG.CREDIT_FLOOR : Field := ⟨8 * (0x110000) + 24, 7, 64⟩
def Fld.WEIR_CFG.MARGIN_PCT : Field := ⟨8 * (0x110000) + 16, 8, 20⟩
def Fld.WEIR_CFG.WAIT_US : Field := ⟨8 * (0x110000) + 0, 11, 500⟩
def Fld.WEIR_COMMIT.COMMIT : Field := ⟨8 * (0x110004) + 0, 1, 0⟩
def Fld.WEIR_FIXED.FIXED_J : Field := ⟨8 * (0x110008) + 48, 16, 300⟩
def Fld.WEIR_FIXED.P_SERVE_W : Field := ⟨8 * (0x110008) + 38, 10, 1023⟩
def Fld.WEIR_FIXED.PAGE_OVH : Field := ⟨8 * (0x110008) + 30, 8, 64⟩
def Fld.WEIR_FIXED.BW_CH_MBS : Field := ⟨8 * (0x110008) + 16, 14, 3200⟩
def Fld.WEIR_FIXED.TPROG_RATED_US : Field := ⟨8 * (0x110008) + 0, 16, 0⟩
def Fld.WEIR_CREDIT.RATIO_NOW : Field := ⟨8 * (0x110010) + 24, 8, 128⟩
def Fld.WEIR_CREDIT.RATIO_BEAT : Field := ⟨8 * (0x110010) + 16, 8, 0⟩
def Fld.WEIR_CREDIT.WINDOW : Field := ⟨8 * (0x110010) + 8, 4, 10⟩
def Fld.WEIR_CREDIT.MIN_PAGES : Field := ⟨8 * (0x110010) + 0, 8, 64⟩
def Fld.WEIR_STS.DEFICIT : Field := ⟨8 * (0x110018) + 63, 1, 0⟩
def Fld.WEIR_STS.HARD_PAGES : Field := ⟨8 * (0x110018) + 32, 31, 0⟩
def Fld.WEIR_STS.SHARE_REJECT : Field := ⟨8 * (0x110018) + 31, 1, 0⟩
def Fld.WEIR_STS.WEIR_PAGES : Field := ⟨8 * (0x110018) + 0, 31, 0⟩
def Fld.WEIR_OWED.POOL_FREE : Field := ⟨8 * (0x110020) + 32, 31, 0⟩
def Fld.WEIR_OWED.OWED : Field := ⟨8 * (0x110020) + 0, 31, 0⟩
def Fld.WEIR_CALC.F_J : Field := ⟨8 * (0x110028) + 48, 16, 0⟩
def Fld.WEIR_CALC.E_WEIR_J : Field := ⟨8 * (0x110028) + 24, 24, 0⟩
def Fld.WEIR_CALC.E_PAGE : Field := ⟨8 * (0x110028) + 0, 24, 0⟩
def Fld.WEIR_EVT.SAT : Field := ⟨8 * (0x110030) + 31, 1, 0⟩
def Fld.WEIR_EVT.DEFICITS : Field := ⟨8 * (0x110030) + 0, 31, 0⟩
def Fld.WEIR_LD_CFG.PRIO (ld : Nat) : Field := ⟨8 * (0x110100 + 8 * ld) + 48, 4, 8⟩
def Fld.WEIR_LD_CFG.BORROW_CAP (ld : Nat) : Field := ⟨8 * (0x110100 + 8 * ld) + 32, 8, 128⟩
def Fld.WEIR_LD_CFG.BORROW_EN (ld : Nat) : Field := ⟨8 * (0x110100 + 8 * ld) + 16, 1, 1⟩
def Fld.WEIR_LD_CFG.GUAR (ld : Nat) : Field := ⟨8 * (0x110100 + 8 * ld) + 0, 16, 0⟩
def Fld.WEIR_LD_STS.LEVEL (ld : Nat) : Field := ⟨8 * (0x110200 + 8 * ld) + 62, 2, 0⟩
def Fld.WEIR_LD_STS.ALLOW (ld : Nat) : Field := ⟨8 * (0x110200 + 8 * ld) + 31, 31, 0⟩
def Fld.WEIR_LD_STS.OWED (ld : Nat) : Field := ⟨8 * (0x110200 + 8 * ld) + 0, 31, 0⟩
def Fld.WEIR_LD_CNTA.SAT (ld : Nat) : Field := ⟨8 * (0x110400 + 8 * ld) + 31, 1, 0⟩
def Fld.WEIR_LD_CNTA.WAITS (ld : Nat) : Field := ⟨8 * (0x110400 + 8 * ld) + 0, 31, 0⟩
def Fld.WEIR_LD_CNTB.TO_SAT (ld : Nat) : Field := ⟨8 * (0x110404 + 8 * ld) + 31, 1, 0⟩
def Fld.WEIR_LD_CNTB.TIMEOUTS (ld : Nat) : Field := ⟨8 * (0x110404 + 8 * ld) + 16, 15, 0⟩
def Fld.WEIR_LD_CNTB.OC_SAT (ld : Nat) : Field := ⟨8 * (0x110404 + 8 * ld) + 15, 1, 0⟩
def Fld.WEIR_LD_CNTB.OVER_CAP (ld : Nat) : Field := ⟨8 * (0x110404 + 8 * ld) + 0, 15, 0⟩
def Fld.RILL_CFG.QUOTA : Field := ⟨8 * (0x114000) + 16, 8, 64⟩
def Fld.RILL_CFG.LOW_PCT : Field := ⟨8 * (0x114000) + 0, 8, 0⟩
def Fld.RILL_GOV.CYCLES : Field := ⟨8 * (0x114008) + 48, 16, 30000⟩
def Fld.RILL_GOV.USE_PCT : Field := ⟨8 * (0x114008) + 40, 8, 80⟩
def Fld.RILL_GOV.LIFE_DAYS : Field := ⟨8 * (0x114008) + 28, 12, 1825⟩
def Fld.RILL_GOV.WINDOW_S : Field := ⟨8 * (0x114008) + 16, 12, 900⟩
def Fld.RILL_GOV.RELOC_PCT : Field := ⟨8 * (0x114008) + 8, 8, 4⟩
def Fld.RILL_RATE.RATE_KBS : Field := ⟨8 * (0x114010) + 32, 32, 0⟩
def Fld.RILL_RATE.USED_WIN_MB : Field := ⟨8 * (0x114010) + 0, 32, 0⟩
def Fld.RILL_STS.OVERRIDE : Field := ⟨8 * (0x114018) + 31, 1, 0⟩
def Fld.RILL_STS.PRIORITY : Field := ⟨8 * (0x114018) + 30, 1, 0⟩
def Fld.RILL_STS.GOV_LIMITED : Field := ⟨8 * (0x114018) + 29, 1, 0⟩
def Fld.RILL_STS.PACE : Field := ⟨8 * (0x114018) + 0, 8, 0⟩
def Fld.RILL_CNT.OVF : Field := ⟨8 * (0x114020) + 63, 1, 0⟩
def Fld.RILL_CNT.CLEANED : Field := ⟨8 * (0x114020) + 0, 63, 0⟩
def Fld.RILL_STALE.OVF : Field := ⟨8 * (0x114028) + 63, 1, 0⟩
def Fld.RILL_STALE.STALE : Field := ⟨8 * (0x114028) + 0, 63, 0⟩
def Fld.RILL_OVR.OVERRIDE_MB : Field := ⟨8 * (0x114030) + 0, 64, 0⟩
def Fld.EDDY_CFG.RESERVE_REJECT : Field := ⟨8 * (0x118000) + 31, 1, 0⟩
def Fld.EDDY_CFG.RETAIN_MAX : Field := ⟨8 * (0x118000) + 12, 6, 16⟩
def Fld.EDDY_CFG.PLUNGE_RETAIN : Field := ⟨8 * (0x118000) + 11, 1, 1⟩
def Fld.EDDY_CFG.RESERVE_PM : Field := ⟨8 * (0x118000) + 0, 7, 20⟩
def Fld.EDDY_STS.SLOTS_TOTAL : Field := ⟨8 * (0x118008) + 32, 32, 0⟩
def Fld.EDDY_STS.SLOTS_FREE : Field := ⟨8 * (0x118008) + 0, 32, 0⟩
def Fld.EDDY_STALL.ST_SAT : Field := ⟨8 * (0x118010) + 31, 1, 0⟩
def Fld.EDDY_STALL.STALLS : Field := ⟨8 * (0x118010) + 16, 15, 0⟩
def Fld.EDDY_STALL.TO_SAT : Field := ⟨8 * (0x118010) + 15, 1, 0⟩
def Fld.EDDY_STALL.TIMEOUTS : Field := ⟨8 * (0x118010) + 0, 15, 0⟩
def Fld.EDDY_CKPT_STS.OVER_WEIR (ld : Nat) : Field := ⟨8 * (0x118100 + 8 * ld) + 63, 1, 0⟩
def Fld.EDDY_CKPT_STS.PENDING (ld : Nat) : Field := ⟨8 * (0x118100 + 8 * ld) + 52, 11, 0⟩
def Fld.EDDY_CKPT_STS.RETAINED (ld : Nat) : Field := ⟨8 * (0x118100 + 8 * ld) + 46, 6, 0⟩
def Fld.EDDY_CKPT_STS.NEWEST_DONE (ld : Nat) : Field := ⟨8 * (0x118100 + 8 * ld) + 0, 32, 0⟩
def Fld.SPL_STATE.STAGE : Field := ⟨8 * (0x120000) + 24, 4, 0⟩
def Fld.SPL_STATE.LD_NOW : Field := ⟨8 * (0x120000) + 16, 8, 255⟩
def Fld.SPL_STATE.DRAM_UV : Field := ⟨8 * (0x120000) + 4, 1, 0⟩
def Fld.SPL_STATE.SHORTFALL : Field := ⟨8 * (0x120000) + 3, 1, 0⟩
def Fld.SPL_STATE.STATE : Field := ⟨8 * (0x120000) + 0, 3, 1⟩
def Fld.SPL_CFG.SEAL_HOLD_MS : Field := ⟨8 * (0x120004) + 22, 10, 100⟩
def Fld.SPL_CFG.SAG_PM : Field := ⟨8 * (0x120004) + 8, 8, 20⟩
def Fld.SPL_CFG.PREFER : Field := ⟨8 * (0x120004) + 0, 1, 0⟩
def Fld.SPL_COMMIT.COMMIT : Field := ⟨8 * (0x120008) + 0, 1, 0⟩
def Fld.SPL_GEN.GENERATION : Field := ⟨8 * (0x120010) + 0, 64, 0⟩
def Fld.SPL_CUT.LATE : Field := ⟨8 * (0x120018) + 63, 1, 0⟩
def Fld.SPL_CUT.SEALED_OK : Field := ⟨8 * (0x120018) + 62, 1, 0⟩
def Fld.SPL_CUT.T_ORIGIN : Field := ⟨8 * (0x120018) + 48, 14, 0⟩
def Fld.SPL_CUT.CUT_BEAT : Field := ⟨8 * (0x120018) + 0, 48, 0⟩
def Fld.SPL_PROGRESS.OWED_AT_T : Field := ⟨8 * (0x120020) + 32, 31, 0⟩
def Fld.SPL_PROGRESS.PAGES_DONE : Field := ⟨8 * (0x120020) + 0, 31, 0⟩
def Fld.SPL_LD.LD_IN_IMAGE : Field := ⟨8 * (0x120028) + 32, 32, 0⟩
def Fld.SPL_LD.LD_COMPLETE : Field := ⟨8 * (0x120028) + 0, 32, 0⟩
def Fld.SPL_CNTA.SP_SAT : Field := ⟨8 * (0x120030) + 31, 1, 0⟩
def Fld.SPL_CNTA.SPILLS : Field := ⟨8 * (0x120030) + 16, 15, 0⟩
def Fld.SPL_CNTA.DRY_SAT : Field := ⟨8 * (0x120030) + 15, 1, 0⟩
def Fld.SPL_CNTA.DRY_RETURNS : Field := ⟨8 * (0x120030) + 0, 15, 0⟩
def Fld.SPL_CNTB.SF_SAT : Field := ⟨8 * (0x120034) + 31, 1, 0⟩
def Fld.SPL_CNTB.SHORTFALLS : Field := ⟨8 * (0x120034) + 21, 10, 0⟩
def Fld.SPL_CNTB.IG_SAT : Field := ⟨8 * (0x120034) + 20, 1, 0⟩
def Fld.SPL_CNTB.IGNORED : Field := ⟨8 * (0x120034) + 11, 9, 0⟩
def Fld.SPL_CNTB.RW_SAT : Field := ⟨8 * (0x120034) + 10, 1, 0⟩
def Fld.SPL_CNTB.STRIPE_REWRITES : Field := ⟨8 * (0x120034) + 0, 10, 0⟩
def Fld.ELY_CFG.SHADOW_INTERVAL : Field := ⟨8 * (0x128000) + 8, 8, 16⟩
def Fld.ELY_CFG.SHADOW_PAGES : Field := ⟨8 * (0x128000) + 0, 8, 64⟩
def Fld.ELY_CTL.ONLINE : Field := ⟨8 * (0x128004) + 8, 2, 0⟩
def Fld.ELY_CTL.OFFLINE : Field := ⟨8 * (0x128004) + 0, 2, 0⟩
def Fld.ELY_STS.ROLE (e : Nat) : Field := ⟨8 * (0x128010 + 8 * e) + 60, 4, 0⟩
def Fld.ELY_STS.REASON (e : Nat) : Field := ⟨8 * (0x128010 + 8 * e) + 56, 4, 0⟩
def Fld.ELY_STS.UCODE_VER (e : Nat) : Field := ⟨8 * (0x128010 + 8 * e) + 48, 8, 0⟩
def Fld.ELY_STS.MATCHES (e : Nat) : Field := ⟨8 * (0x128010 + 8 * e) + 40, 8, 0⟩
def Fld.ELY_CMPA.SH_SAT : Field := ⟨8 * (0x128030) + 31, 1, 0⟩
def Fld.ELY_CMPA.SHADOW_MM : Field := ⟨8 * (0x128030) + 16, 15, 0⟩
def Fld.ELY_CMPA.SP_SAT : Field := ⟨8 * (0x128030) + 15, 1, 0⟩
def Fld.ELY_CMPA.SPILL_MM : Field := ⟨8 * (0x128030) + 0, 15, 0⟩
def Fld.ELY_CMPB.LAG_SAT : Field := ⟨8 * (0x128034) + 31, 1, 0⟩
def Fld.ELY_CMPB.LAG_DROP : Field := ⟨8 * (0x128034) + 21, 10, 0⟩
def Fld.ELY_CMPB.ST_SAT : Field := ⟨8 * (0x128034) + 20, 1, 0⟩
def Fld.ELY_CMPB.STALE_ROLE : Field := ⟨8 * (0x128034) + 11, 9, 0⟩
def Fld.ELY_CMPB.CRC_SAT : Field := ⟨8 * (0x128034) + 10, 1, 0⟩
def Fld.ELY_CMPB.CRC_DROP : Field := ⟨8 * (0x128034) + 0, 10, 0⟩
def Fld.RFL_CFG.REFILL_OPS : Field := ⟨8 * (0x130000) + 0, 8, 128⟩
def Fld.RFL_COMMIT.COMMIT : Field := ⟨8 * (0x130004) + 0, 1, 0⟩
def Fld.RFL_STS.PHASE : Field := ⟨8 * (0x130008) + 60, 4, 0⟩
def Fld.RFL_STS.GEN_REASON : Field := ⟨8 * (0x130008) + 56, 4, 0⟩
def Fld.RFL_STS.CHAIN_UNCHECKED : Field := ⟨8 * (0x130008) + 55, 1, 0⟩
def Fld.RFL_STS.UNFILLED : Field := ⟨8 * (0x130008) + 0, 31, 0⟩
def Fld.RFL_GEN.GENERATION : Field := ⟨8 * (0x130010) + 0, 64, 0⟩
def Fld.RFL_MAP.MAP_US : Field := ⟨8 * (0x130018) + 32, 32, 0⟩
def Fld.RFL_MAP.STRIPES_REPLAYED : Field := ⟨8 * (0x130018) + 0, 32, 0⟩
def Fld.RFL_LD_GO.GO : Field := ⟨8 * (0x130020) + 0, 32, 0⟩
def Fld.RFL_DRAW_CNT.OVF : Field := ⟨8 * (0x130028) + 63, 1, 0⟩
def Fld.RFL_DRAW_CNT.DRAWS : Field := ⟨8 * (0x130028) + 0, 63, 0⟩
def Fld.RFL_DRAW_LAT.MAX_US : Field := ⟨8 * (0x130030) + 16, 16, 0⟩
def Fld.RFL_DRAW_LAT.LAST_US : Field := ⟨8 * (0x130030) + 0, 16, 0⟩
def Fld.RFL_ERR.RB_SAT : Field := ⟨8 * (0x130034) + 31, 1, 0⟩
def Fld.RFL_ERR.REBUILDS : Field := ⟨8 * (0x130034) + 16, 15, 0⟩
def Fld.RFL_ERR.PZ_SAT : Field := ⟨8 * (0x130034) + 15, 1, 0⟩
def Fld.RFL_ERR.POISONED : Field := ⟨8 * (0x130034) + 0, 15, 0⟩
def Fld.RFL_LD_CFG.GATE (ld : Nat) : Field := ⟨8 * (0x130100 + 4 * ld) + 1, 1, 0⟩
def Fld.RFL_LD_CFG.START_POLICY (ld : Nat) : Field := ⟨8 * (0x130100 + 4 * ld) + 0, 1, 1⟩
def Fld.RFL_LD_SRC.MODE (ld : Nat) : Field := ⟨8 * (0x130200 + 8 * ld) + 62, 2, 0⟩
def Fld.RFL_LD_SRC.VALUE (ld : Nat) : Field := ⟨8 * (0x130200 + 8 * ld) + 0, 48, 0⟩
def Fld.RFL_LD_STS.SOURCE (ld : Nat) : Field := ⟨8 * (0x130400 + 8 * ld) + 61, 3, 0⟩
def Fld.RFL_LD_STS.REASON (ld : Nat) : Field := ⟨8 * (0x130400 + 8 * ld) + 57, 4, 0⟩
def Fld.RFL_LD_STS.HELD (ld : Nat) : Field := ⟨8 * (0x130400 + 8 * ld) + 56, 1, 0⟩
def Fld.RFL_LD_STS.UNFILLED (ld : Nat) : Field := ⟨8 * (0x130400 + 8 * ld) + 0, 31, 0⟩
def Fld.LOG_CFG.RESV_MB : Field := ⟨8 * (0x140000) + 48, 16, 256⟩
def Fld.LOG_CFG.SPARE_BLOCKS : Field := ⟨8 * (0x140000) + 40, 8, 48⟩
def Fld.LOG_CFG.GC_SLACK : Field := ⟨8 * (0x140000) + 32, 8, 4⟩
def Fld.LOG_CFG.SCRUB_DAYS : Field := ⟨8 * (0x140000) + 24, 8, 30⟩
def Fld.LOG_CFG.RR_RELOC : Field := ⟨8 * (0x140000) + 20, 4, 5⟩
def Fld.LOG_CFG.FOLD_LAPS : Field := ⟨8 * (0x140000) + 16, 2, 2⟩
def Fld.LOG_CFG.FOLD_EN : Field := ⟨8 * (0x140000) + 15, 1, 0⟩
def Fld.LOG_CFG.MIN_RUN_US : Field := ⟨8 * (0x140000) + 0, 10, 200⟩
def Fld.LOG_COMMIT.COMMIT : Field := ⟨8 * (0x140008) + 0, 1, 0⟩
def Fld.LOG_GEOM.DIE_SETS : Field := ⟨8 * (0x140010) + 58, 6, 0⟩
def Fld.LOG_GEOM.BLOCKS : Field := ⟨8 * (0x140010) + 44, 14, 0⟩
def Fld.LOG_GEOM.TLC_PAGES : Field := ⟨8 * (0x140010) + 32, 12, 0⟩
def Fld.LOG_GEOM.PSLC_PAGES : Field := ⟨8 * (0x140010) + 22, 10, 0⟩
def Fld.LOG_GEOM.SPARE_BYTES : Field := ⟨8 * (0x140010) + 10, 12, 0⟩
def Fld.LOG_GEOM.TPROG_US : Field := ⟨8 * (0x140010) + 0, 10, 0⟩
def Fld.LOG_CAP.PSLC_BYTES : Field := ⟨8 * (0x140018) + 0, 64, 0⟩
def Fld.LOG_SEQ.NEXT_SEQ : Field := ⟨8 * (0x140020) + 0, 64, 0⟩
def Fld.LOG_WINDOW.LOG_LOW : Field := ⟨8 * (0x140028) + 63, 1, 0⟩
def Fld.LOG_WINDOW.FREE_BANDS : Field := ⟨8 * (0x140028) + 48, 15, 0⟩
def Fld.LOG_WINDOW.FREE_MIN : Field := ⟨8 * (0x140028) + 32, 16, 0⟩
def Fld.LOG_WINDOW.TAIL : Field := ⟨8 * (0x140028) + 16, 16, 0⟩
def Fld.LOG_WINDOW.HEAD : Field := ⟨8 * (0x140028) + 0, 16, 0⟩
def Fld.LOG_CH_CTL.IN : Field := ⟨8 * (0x140030) + 16, 16, 0⟩
def Fld.LOG_CH_CTL.OUT : Field := ⟨8 * (0x140030) + 0, 16, 0⟩
def Fld.LOG_CH_STS.VERIFYING : Field := ⟨8 * (0x140034) + 16, 16, 0⟩
def Fld.LOG_CH_STS.OUT_OF_SERVICE : Field := ⟨8 * (0x140034) + 0, 16, 0⟩
def Fld.LOG_DIE_STS.STATE (ds : Nat) : Field := ⟨8 * (0x141000 + 4 * ds) + 30, 2, 0⟩
def Fld.LOG_DIE_STS.SPARES (ds : Nat) : Field := ⟨8 * (0x141000 + 4 * ds) + 16, 8, 0⟩
def Fld.LOG_DIE_STS.RETIRED (ds : Nat) : Field := ⟨8 * (0x141000 + 4 * ds) + 0, 16, 0⟩
def Fld.LOG_ERR_CNT.PF_SAT : Field := ⟨8 * (0x140040) + 31, 1, 0⟩
def Fld.LOG_ERR_CNT.PROGRAM_FAIL : Field := ⟨8 * (0x140040) + 16, 15, 0⟩
def Fld.LOG_ERR_CNT.EF_SAT : Field := ⟨8 * (0x140040) + 15, 1, 0⟩
def Fld.LOG_ERR_CNT.ERASE_FAIL : Field := ⟨8 * (0x140040) + 0, 15, 0⟩
def Fld.LOG_READ_CNT.OVF : Field := ⟨8 * (0x140048) + 62, 2, 0⟩
def Fld.LOG_READ_CNT.RETRY : Field := ⟨8 * (0x140048) + 32, 30, 0⟩
def Fld.LOG_READ_CNT.SOFT : Field := ⟨8 * (0x140048) + 16, 16, 0⟩
def Fld.LOG_READ_CNT.PARITY : Field := ⟨8 * (0x140048) + 0, 16, 0⟩
def Fld.LOG_SUSP_CNT.SU_SAT : Field := ⟨8 * (0x140050) + 31, 1, 0⟩
def Fld.LOG_SUSP_CNT.SUSPENDS : Field := ⟨8 * (0x140050) + 16, 15, 0⟩
def Fld.LOG_SUSP_CNT.MW_SAT : Field := ⟨8 * (0x140050) + 15, 1, 0⟩
def Fld.LOG_SUSP_CNT.MIN_RUN_WAITS : Field := ⟨8 * (0x140050) + 0, 15, 0⟩
def Fld.LOG_RELOC.RELOC_MB : Field := ⟨8 * (0x140058) + 32, 32, 0⟩
def Fld.LOG_RELOC.EXCESS_MB : Field := ⟨8 * (0x140058) + 0, 32, 0⟩
def Fld.LOG_RR_SET.OFS_3 (i : Nat) : Field := ⟨8 * (0x140100 + 4 * i) + 24, 8, (Rst.rrSet i / 2^24 % 2^8)⟩
def Fld.LOG_RR_SET.OFS_2 (i : Nat) : Field := ⟨8 * (0x140100 + 4 * i) + 16, 8, (Rst.rrSet i / 2^16 % 2^8)⟩
def Fld.LOG_RR_SET.OFS_1 (i : Nat) : Field := ⟨8 * (0x140100 + 4 * i) + 8, 8, (Rst.rrSet i / 2^8 % 2^8)⟩
def Fld.LOG_RR_SET.OFS_0 (i : Nat) : Field := ⟨8 * (0x140100 + 4 * i) + 0, 8, (Rst.rrSet i / 2^0 % 2^8)⟩
def Fld.FLM_KEY.KEY : Field := ⟨8 * (0x150000) + 0, 32, 0⟩
def Fld.FLM_CMD.ECC : Field := ⟨8 * (0x150004) + 15, 1, 1⟩
def Fld.FLM_CMD.TLC : Field := ⟨8 * (0x150004) + 14, 1, 0⟩
def Fld.FLM_CMD.OPCODE : Field := ⟨8 * (0x150004) + 0, 8, 0⟩
def Fld.FLM_ADDR.REGION : Field := ⟨8 * (0x150008) + 42, 5, 0⟩
def Fld.FLM_ADDR.WORD : Field := ⟨8 * (0x150008) + 38, 4, 0⟩
def Fld.FLM_ADDR.PLANE : Field := ⟨8 * (0x150008) + 36, 2, 0⟩
def Fld.FLM_ADDR.PAGE : Field := ⟨8 * (0x150008) + 25, 11, 0⟩
def Fld.FLM_ADDR.BLOCK : Field := ⟨8 * (0x150008) + 11, 14, 0⟩
def Fld.FLM_ADDR.DIE_STREAM : Field := ⟨8 * (0x150008) + 0, 9, 0⟩
def Fld.FLM_DATA.VALUE : Field := ⟨8 * (0x150010) + 0, 64, 0⟩
def Fld.FLM_STS.STATE : Field := ⟨8 * (0x150018) + 60, 4, 0⟩
def Fld.FLM_STS.STATUS : Field := ⟨8 * (0x150018) + 48, 8, 0⟩
def Fld.FLM_STS.DIE_BUSY : Field := ⟨8 * (0x150018) + 47, 1, 0⟩
def Fld.FLM_STS.SPILL_ABORT : Field := ⟨8 * (0x150018) + 46, 1, 0⟩
def Fld.FLM_STS.LEVEL : Field := ⟨8 * (0x150018) + 42, 4, 0⟩
def Fld.FLM_STS.OPCODE : Field := ⟨8 * (0x150018) + 16, 8, 0⟩
def Fld.FLM_STS.TIME_US : Field := ⟨8 * (0x150018) + 0, 16, 0⟩
def Fld.FLM_RDATA.RDATA : Field := ⟨8 * (0x150020) + 0, 32, 0⟩
def Fld.FLM_RDATA2.RDATA2 : Field := ⟨8 * (0x150024) + 0, 32, 0⟩
def Fld.FLM_PROT_STS.PW_SET : Field := ⟨8 * (0x150028) + 7, 1, 0⟩
def Fld.FLM_PROT_STS.SESSION : Field := ⟨8 * (0x150028) + 6, 1, 0⟩
def Fld.FLM_PROT_STS.LOCKOUT : Field := ⟨8 * (0x150028) + 5, 1, 0⟩
def Fld.FLM_PROT_STS.FAIL_COUNT : Field := ⟨8 * (0x150028) + 0, 4, 0⟩
def Fld.FLM_XIP.ACTIVE : Field := ⟨8 * (0x15002c) + 31, 1, 0⟩
def Fld.FLM_XIP.COPY : Field := ⟨8 * (0x15002c) + 9, 2, 0⟩
def Fld.FLM_XIP.DIE_STREAM : Field := ⟨8 * (0x15002c) + 0, 9, 0⟩
def Fld.FLM_CNT.SE_SAT : Field := ⟨8 * (0x150030) + 31, 1, 0⟩
def Fld.FLM_CNT.SEQ_ERR : Field := ⟨8 * (0x150030) + 16, 15, 0⟩
def Fld.FLM_CNT.RF_SAT : Field := ⟨8 * (0x150030) + 15, 1, 0⟩
def Fld.FLM_CNT.REFUSED : Field := ⟨8 * (0x150030) + 0, 15, 0⟩
def Fld.FLM_REGION.START (r : Nat) : Field := ⟨8 * (0x150100 + 8 * r) + 32, 16, 0⟩
def Fld.FLM_REGION.COUNT (r : Nat) : Field := ⟨8 * (0x150100 + 8 * r) + 16, 16, 0⟩
def Fld.FLM_REGION.RP (r : Nat) : Field := ⟨8 * (0x150100 + 8 * r) + 1, 1, 0⟩
def Fld.FLM_REGION.WP (r : Nat) : Field := ⟨8 * (0x150100 + 8 * r) + 0, 1, 0⟩
def Fld.DRC_MAP.WAYS : Field := ⟨8 * (0x160000) + 6, 2, 0⟩
def Fld.DRC_MAP.HASH_EN : Field := ⟨8 * (0x160000) + 5, 1, 1⟩
def Fld.DRC_MAP.GRAIN : Field := ⟨8 * (0x160000) + 0, 4, 0⟩
def Fld.DRC_COMMIT.COMMIT : Field := ⟨8 * (0x160004) + 0, 1, 0⟩
def Fld.DRC_GEOM.POP (ch : Nat) : Field := ⟨8 * (0x160100 + 0x2000 * ch) + 15, 1, 0⟩
def Fld.DRC_GEOM.X8 (ch : Nat) : Field := ⟨8 * (0x160100 + 0x2000 * ch) + 14, 1, 0⟩
def Fld.DRC_GEOM.RANKS (ch : Nat) : Field := ⟨8 * (0x160100 + 0x2000 * ch) + 12, 2, 0⟩
def Fld.DRC_GEOM.STACK (ch : Nat) : Field := ⟨8 * (0x160100 + 0x2000 * ch) + 10, 2, 0⟩
def Fld.DRC_GEOM.D32 (ch : Nat) : Field := ⟨8 * (0x160100 + 0x2000 * ch) + 9, 1, 1⟩
def Fld.DRC_GEOM.RATE (ch : Nat) : Field := ⟨8 * (0x160100 + 0x2000 * ch) + 0, 4, 4⟩
def Fld.DRC_TIMING.TRFC_NS (ch : Nat) : Field := ⟨8 * (0x160108 + 0x2000 * ch) + 52, 12, 410⟩
def Fld.DRC_TIMING.TRC_NS (ch : Nat) : Field := ⟨8 * (0x160108 + 0x2000 * ch) + 44, 8, 48⟩
def Fld.DRC_TIMING.CL_CK (ch : Nat) : Field := ⟨8 * (0x160108 + 0x2000 * ch) + 36, 8, 66⟩
def Fld.DRC_TIMING.CWL_CK (ch : Nat) : Field := ⟨8 * (0x160108 + 0x2000 * ch) + 28, 8, 64⟩
def Fld.DRC_QOS.TARGET_NS (ch q : Nat) : Field := ⟨8 * (0x160110 + 0x2000 * ch + 4 * q) + 0, 16, Rst.qosTarget q⟩
def Fld.DRC_SCHED.PD_TIMER (ch : Nat) : Field := ⟨8 * (0x160130 + 0x2000 * ch) + 19, 13, 256⟩
def Fld.DRC_SCHED.ROW_IDLE (ch : Nat) : Field := ⟨8 * (0x160130 + 0x2000 * ch) + 8, 11, 64⟩
def Fld.DRC_RH.RH_THRESH (ch : Nat) : Field := ⟨8 * (0x160138 + 0x2000 * ch) + 0, 15, 2048⟩
def Fld.DRC_ECC.SCRUB_HOURS (ch : Nat) : Field := ⟨8 * (0x160140 + 0x2000 * ch) + 24, 8, 24⟩
def Fld.DRC_ECC.MARK_THRESH (ch : Nat) : Field := ⟨8 * (0x160140 + 0x2000 * ch) + 0, 16, 256⟩
def Fld.DRC_EYE_CFG.VREF_MIN (ch : Nat) : Field := ⟨8 * (0x160144 + 0x2000 * ch) + 8, 8, 20⟩
def Fld.DRC_EYE_CFG.EYE_MIN_PCT (ch : Nat) : Field := ⟨8 * (0x160144 + 0x2000 * ch) + 0, 8, 20⟩
def Fld.DRC_MARK.VALID (ch s : Nat) : Field := ⟨8 * (0x160150 + 0x2000 * ch + 4 * s) + 31, 1, 0⟩
def Fld.DRC_MARK.RANK (ch s : Nat) : Field := ⟨8 * (0x160150 + 0x2000 * ch + 4 * s) + 4, 4, 0⟩
def Fld.DRC_MARK.DEVICE (ch s : Nat) : Field := ⟨8 * (0x160150 + 0x2000 * ch + 4 * s) + 0, 4, 0⟩
def Fld.DRC_MARK_CAND.COUNT (ch s : Nat) : Field := ⟨8 * (0x160158 + 0x2000 * ch + 4 * s) + 16, 16, 0⟩
def Fld.DRC_MARK_CAND.SECOND (ch s : Nat) : Field := ⟨8 * (0x160158 + 0x2000 * ch + 4 * s) + 15, 1, 0⟩
def Fld.DRC_MARK_CAND.RANK (ch s : Nat) : Field := ⟨8 * (0x160158 + 0x2000 * ch + 4 * s) + 4, 4, 0⟩
def Fld.DRC_MARK_CAND.DEVICE (ch s : Nat) : Field := ⟨8 * (0x160158 + 0x2000 * ch + 4 * s) + 0, 4, 0⟩
def Fld.DRC_STS.STATE (ch : Nat) : Field := ⟨8 * (0x160160 + 0x2000 * ch) + 29, 3, 0⟩
def Fld.DRC_STS.HOT (ch : Nat) : Field := ⟨8 * (0x160160 + 0x2000 * ch) + 28, 1, 0⟩
def Fld.DRC_STS.RFM (ch : Nat) : Field := ⟨8 * (0x160160 + 0x2000 * ch) + 27, 1, 0⟩
def Fld.DRC_STS.POSTPONED (ch : Nat) : Field := ⟨8 * (0x160160 + 0x2000 * ch) + 25, 2, 0⟩
def Fld.DRC_STS.RETRAINING (ch : Nat) : Field := ⟨8 * (0x160160 + 0x2000 * ch) + 0, 16, 0⟩
def Fld.DRC_ECC_CNT.CE_SAT (ch : Nat) : Field := ⟨8 * (0x160168 + 0x2000 * ch) + 63, 1, 0⟩
def Fld.DRC_ECC_CNT.CORRECTED (ch : Nat) : Field := ⟨8 * (0x160168 + 0x2000 * ch) + 32, 31, 0⟩
def Fld.DRC_ECC_CNT.UE_SAT (ch : Nat) : Field := ⟨8 * (0x160168 + 0x2000 * ch) + 31, 1, 0⟩
def Fld.DRC_ECC_CNT.UNCORRECTABLE (ch : Nat) : Field := ⟨8 * (0x160168 + 0x2000 * ch) + 16, 15, 0⟩
def Fld.DRC_ECC_CNT.RD_SAT (ch : Nat) : Field := ⟨8 * (0x160168 + 0x2000 * ch) + 15, 1, 0⟩
def Fld.DRC_ECC_CNT.REDRAWS (ch : Nat) : Field := ⟨8 * (0x160168 + 0x2000 * ch) + 0, 15, 0⟩
def Fld.DRC_ALERT_CNT.RP_SAT (ch : Nat) : Field := ⟨8 * (0x160170 + 0x2000 * ch) + 31, 1, 0⟩
def Fld.DRC_ALERT_CNT.REPLAYS (ch : Nat) : Field := ⟨8 * (0x160170 + 0x2000 * ch) + 16, 15, 0⟩
def Fld.DRC_ALERT_CNT.FZ_SAT (ch : Nat) : Field := ⟨8 * (0x160170 + 0x2000 * ch) + 15, 1, 0⟩
def Fld.DRC_ALERT_CNT.FREEZES (ch : Nat) : Field := ⟨8 * (0x160170 + 0x2000 * ch) + 8, 7, 0⟩
def Fld.DRC_ALERT_CNT.RF_SAT (ch : Nat) : Field := ⟨8 * (0x160170 + 0x2000 * ch) + 7, 1, 0⟩
def Fld.DRC_ALERT_CNT.RECOVER_FAIL (ch : Nat) : Field := ⟨8 * (0x160170 + 0x2000 * ch) + 0, 7, 0⟩
def Fld.DRC_MAINT_CNT.NB_SAT (ch : Nat) : Field := ⟨8 * (0x160178 + 0x2000 * ch) + 31, 1, 0⟩
def Fld.DRC_MAINT_CNT.NEIGHBOUR (ch : Nat) : Field := ⟨8 * (0x160178 + 0x2000 * ch) + 16, 15, 0⟩
def Fld.DRC_MAINT_CNT.RT_SAT (ch : Nat) : Field := ⟨8 * (0x160178 + 0x2000 * ch) + 15, 1, 0⟩
def Fld.DRC_MAINT_CNT.RETRAINS (ch : Nat) : Field := ⟨8 * (0x160178 + 0x2000 * ch) + 0, 15, 0⟩
def Fld.DRC_FRZ_INFO.BEAT (ch : Nat) : Field := ⟨8 * (0x160180 + 0x2000 * ch) + 16, 48, 0⟩
def Fld.DRC_FRZ_INFO.RANK (ch : Nat) : Field := ⟨8 * (0x160180 + 0x2000 * ch) + 12, 4, 0⟩
def Fld.DRC_FRZ_INFO.SUB (ch : Nat) : Field := ⟨8 * (0x160180 + 0x2000 * ch) + 11, 1, 0⟩
def Fld.DRC_FRZ_INFO.MR_OK (ch : Nat) : Field := ⟨8 * (0x160180 + 0x2000 * ch) + 10, 1, 0⟩
def Fld.DRC_FRZ_INFO.CAUSE (ch : Nat) : Field := ⟨8 * (0x160180 + 0x2000 * ch) + 8, 2, 0⟩
def Fld.DRC_EYE.RD_LEFT (ch r : Nat) : Field := ⟨8 * (0x160300 + 0x2000 * ch + 4 * r) + 24, 8, 0⟩
def Fld.DRC_EYE.RD_RIGHT (ch r : Nat) : Field := ⟨8 * (0x160300 + 0x2000 * ch + 4 * r) + 16, 8, 0⟩
def Fld.DRC_EYE.VREF_MARGIN (ch r : Nat) : Field := ⟨8 * (0x160300 + 0x2000 * ch + 4 * r) + 8, 8, 0⟩
def Fld.DRC_EYE.SAMPLES (ch r : Nat) : Field := ⟨8 * (0x160300 + 0x2000 * ch + 4 * r) + 0, 8, 0⟩
def Fld.DRC_FRZ_HIST.CLK (ch s i : Nat) : Field := ⟨8 * (0x161000 + 0x2000 * ch + 0x200 * s + 8 * i) + 48, 16, 0⟩
def Fld.DRC_FRZ_HIST.CMD (ch s i : Nat) : Field := ⟨8 * (0x161000 + 0x2000 * ch + 0x200 * s + 8 * i) + 40, 8, 0⟩
def Fld.DRC_FRZ_HIST.RANK (ch s i : Nat) : Field := ⟨8 * (0x161000 + 0x2000 * ch + 0x200 * s + 8 * i) + 36, 4, 0⟩
def Fld.DRC_FRZ_HIST.BG (ch s i : Nat) : Field := ⟨8 * (0x161000 + 0x2000 * ch + 0x200 * s + 8 * i) + 33, 3, 0⟩
def Fld.DRC_FRZ_HIST.BA (ch s i : Nat) : Field := ⟨8 * (0x161000 + 0x2000 * ch + 0x200 * s + 8 * i) + 31, 2, 0⟩
def Fld.DRC_FRZ_HIST.ADDR (ch s i : Nat) : Field := ⟨8 * (0x161000 + 0x2000 * ch + 0x200 * s + 8 * i) + 0, 31, 0⟩
def Fld.DRC_FRZ_MR.MR_3 (ch s j : Nat) : Field := ⟨8 * (0x161800 + 0x2000 * ch + 0x40 * s + 4 * j) + 24, 8, 0⟩
def Fld.DRC_FRZ_MR.MR_2 (ch s j : Nat) : Field := ⟨8 * (0x161800 + 0x2000 * ch + 0x40 * s + 4 * j) + 16, 8, 0⟩
def Fld.DRC_FRZ_MR.MR_1 (ch s j : Nat) : Field := ⟨8 * (0x161800 + 0x2000 * ch + 0x40 * s + 4 * j) + 8, 8, 0⟩
def Fld.DRC_FRZ_MR.MR_0 (ch s j : Nat) : Field := ⟨8 * (0x161800 + 0x2000 * ch + 0x40 * s + 4 * j) + 0, 8, 0⟩
def Fld.FAB_PORT_CFG.REFCLK (p : Nat) : Field := ⟨8 * (0x100000 + 0x100 * p) + 10, 2, 0⟩
def Fld.FAB_PORT_CFG.FLIT68_EN (p : Nat) : Field := ⟨8 * (0x100000 + 0x100 * p) + 9, 1, 1⟩
def Fld.FAB_PORT_CFG.RATE_MAX (p : Nat) : Field := ⟨8 * (0x100000 + 0x100 * p) + 6, 2, 0⟩
def Fld.FAB_PORT_CFG.X8 (p : Nat) : Field := ⟨8 * (0x100000 + 0x100 * p) + 0, 1, 0⟩
def Fld.FAB_PORT_STS.LINK_UP (p : Nat) : Field := ⟨8 * (0x100004 + 0x100 * p) + 31, 1, 0⟩
def Fld.FAB_PORT_STS.RATE (p : Nat) : Field := ⟨8 * (0x100004 + 0x100 * p) + 29, 2, 0⟩
def Fld.FAB_PORT_STS.FLIT256 (p : Nat) : Field := ⟨8 * (0x100004 + 0x100 * p) + 28, 1, 0⟩
def Fld.FAB_PORT_STS.WIDTH (p : Nat) : Field := ⟨8 * (0x100004 + 0x100 * p) + 23, 5, 0⟩
def Fld.FAB_PORT_STS.LANE_REV (p : Nat) : Field := ⟨8 * (0x100004 + 0x100 * p) + 22, 1, 0⟩
def Fld.FAB_PORT_STS.LDS_BOUND (p : Nat) : Field := ⟨8 * (0x100004 + 0x100 * p) + 17, 5, 0⟩
def Fld.FAB_ERR_A.RT_SAT (p : Nat) : Field := ⟨8 * (0x100008 + 0x100 * p) + 31, 1, 0⟩
def Fld.FAB_ERR_A.RETRIES (p : Nat) : Field := ⟨8 * (0x100008 + 0x100 * p) + 16, 15, 0⟩
def Fld.FAB_ERR_A.CRC_SAT (p : Nat) : Field := ⟨8 * (0x100008 + 0x100 * p) + 15, 1, 0⟩
def Fld.FAB_ERR_A.CRC_FAIL (p : Nat) : Field := ⟨8 * (0x100008 + 0x100 * p) + 0, 15, 0⟩
def Fld.FAB_ERR_B.LD_SAT (p : Nat) : Field := ⟨8 * (0x10000c + 0x100 * p) + 31, 1, 0⟩
def Fld.FAB_ERR_B.LINK_DOWN (p : Nat) : Field := ⟨8 * (0x10000c + 0x100 * p) + 16, 15, 0⟩
def Fld.FAB_ERR_B.UN_SAT (p : Nat) : Field := ⟨8 * (0x10000c + 0x100 * p) + 15, 1, 0⟩
def Fld.FAB_ERR_B.UNSUP (p : Nat) : Field := ⟨8 * (0x10000c + 0x100 * p) + 0, 15, 0⟩
def Fld.FAB_DEVLOAD_CFG.LOAD_SEV : Field := ⟨8 * (0x100800) + 16, 8, 90⟩
def Fld.FAB_DEVLOAD_CFG.LOAD_MOD : Field := ⟨8 * (0x100800) + 8, 8, 75⟩
def Fld.FAB_DEVLOAD_CFG.LOAD_OPT : Field := ⟨8 * (0x100800) + 0, 8, 50⟩
def Fld.SLU_COMMIT.COMMIT : Field := ⟨8 * (0x108000) + 0, 1, 0⟩
def Fld.SLU_STS.CFG_REJECT : Field := ⟨8 * (0x108004) + 31, 1, 0⟩
def Fld.SLU_STS.REJECT_LD : Field := ⟨8 * (0x108004) + 24, 5, 0⟩
def Fld.SLU_TRK_CFG.LD_CAP : Field := ⟨8 * (0x108008) + 16, 13, 4096⟩
def Fld.SLU_TRK_CFG.PORT_RESV : Field := ⟨8 * (0x108008) + 0, 13, 2048⟩
def Fld.SLU_TRK_STS.HELD : Field := ⟨8 * (0x108010) + 32, 16, 0⟩
def Fld.SLU_TRK_STS.USED1 : Field := ⟨8 * (0x108010) + 16, 16, 0⟩
def Fld.SLU_TRK_STS.USED0 : Field := ⟨8 * (0x108010) + 0, 16, 0⟩
def Fld.SLU_OOR_LAST.WRITE : Field := ⟨8 * (0x108018) + 63, 1, 0⟩
def Fld.SLU_OOR_LAST.PORT : Field := ⟨8 * (0x108018) + 62, 1, 0⟩
def Fld.SLU_OOR_LAST.NO_LD : Field := ⟨8 * (0x108018) + 61, 1, 0⟩
def Fld.SLU_OOR_LAST.LD : Field := ⟨8 * (0x108018) + 56, 5, 0⟩
def Fld.SLU_OOR_LAST.LD_ID : Field := ⟨8 * (0x108018) + 52, 4, 0⟩
def Fld.SLU_OOR_LAST.HPA : Field := ⟨8 * (0x108018) + 0, 52, 0⟩
def Fld.SLU_LD_BIND.STATE (ld : Nat) : Field := ⟨8 * (0x108100 + 8 * ld) + 61, 3, 0⟩
def Fld.SLU_LD_BIND.PORT (ld : Nat) : Field := ⟨8 * (0x108100 + 8 * ld) + 60, 1, 0⟩
def Fld.SLU_LD_BIND.LD_ID (ld : Nat) : Field := ⟨8 * (0x108100 + 8 * ld) + 56, 4, 0⟩
def Fld.SLU_LD_BIND.GEN (ld : Nat) : Field := ⟨8 * (0x108100 + 8 * ld) + 48, 8, 0⟩
def Fld.SLU_LD_BIND.EXT_SIZE (ld : Nat) : Field := ⟨8 * (0x108100 + 8 * ld) + 32, 16, 0⟩
def Fld.SLU_LD_BIND.EXT_BASE (ld : Nat) : Field := ⟨8 * (0x108100 + 8 * ld) + 16, 16, 0⟩
def Fld.SLU_LD_PCFG.CLASS (ld : Nat) : Field := ⟨8 * (0x108200 + 4 * ld) + 30, 2, 0⟩
def Fld.SLU_LD_PCFG.SCOPE (ld : Nat) : Field := ⟨8 * (0x108200 + 4 * ld) + 28, 2, 0⟩
def Fld.SLU_LD_PCFG.GROUP (ld : Nat) : Field := ⟨8 * (0x108200 + 4 * ld) + 22, 6, 0⟩
def Fld.SLU_LD_PCFG.HINT (ld : Nat) : Field := ⟨8 * (0x108200 + 4 * ld) + 21, 1, 0⟩
def Fld.SLU_LD_PCFG.BW_LIMIT (ld : Nat) : Field := ⟨8 * (0x108200 + 4 * ld) + 8, 8, 0⟩
def Fld.SLU_LD_PCFG.BW_ALLOC (ld : Nat) : Field := ⟨8 * (0x108200 + 4 * ld) + 0, 8, 0⟩
def Fld.SLU_LD_CNTA.RD_SAT (ld : Nat) : Field := ⟨8 * (0x108300 + 8 * ld) + 31, 1, 0⟩
def Fld.SLU_LD_CNTA.OOR_RD (ld : Nat) : Field := ⟨8 * (0x108300 + 8 * ld) + 16, 15, 0⟩
def Fld.SLU_LD_CNTA.WR_SAT (ld : Nat) : Field := ⟨8 * (0x108300 + 8 * ld) + 15, 1, 0⟩
def Fld.SLU_LD_CNTA.OOR_WR (ld : Nat) : Field := ⟨8 * (0x108300 + 8 * ld) + 0, 15, 0⟩
def Fld.SLU_LD_CNTB.DS_SAT (ld : Nat) : Field := ⟨8 * (0x108304 + 8 * ld) + 31, 1, 0⟩
def Fld.SLU_LD_CNTB.DISCARDED (ld : Nat) : Field := ⟨8 * (0x108304 + 8 * ld) + 16, 15, 0⟩
def Fld.SLU_LD_CNTB.CW_SAT (ld : Nat) : Field := ⟨8 * (0x108304 + 8 * ld) + 15, 1, 0⟩
def Fld.SLU_LD_CNTB.CAP_WAITS (ld : Nat) : Field := ⟨8 * (0x108304 + 8 * ld) + 0, 15, 0⟩
def Fld.RNG_LD_CFG.DIRECT_PCT (ld : Nat) : Field := ⟨8 * (0x200000 + 0x10000 * ld) + 16, 8, 25⟩
def Fld.RNG_LD_CFG.CMD_CAP (ld : Nat) : Field := ⟨8 * (0x200000 + 0x10000 * ld) + 0, 15, 4096⟩
def Fld.RNG_LD_STS.GEN (ld : Nat) : Field := ⟨8 * (0x200008 + 0x10000 * ld) + 32, 32, 0⟩
def Fld.RNG_LD_STS.IN_FLIGHT (ld : Nat) : Field := ⟨8 * (0x200008 + 0x10000 * ld) + 0, 17, 0⟩
def Fld.RNG_LD_CNT.DB_SAT (ld : Nat) : Field := ⟨8 * (0x200010 + 0x10000 * ld) + 31, 1, 0⟩
def Fld.RNG_LD_CNT.DB_DROP (ld : Nat) : Field := ⟨8 * (0x200010 + 0x10000 * ld) + 16, 15, 0⟩
def Fld.RNG_LD_CNT.NT_SAT (ld : Nat) : Field := ⟨8 * (0x200010 + 0x10000 * ld) + 15, 1, 0⟩
def Fld.RNG_LD_CNT.NOTICES (ld : Nat) : Field := ⟨8 * (0x200010 + 0x10000 * ld) + 0, 15, 0⟩
def Fld.RNG_SQ_BASE.ADDR (ld n : Nat) : Field := ⟨8 * (0x201000 + 0x10000 * ld + 0x40 * n) + 12, 52, 0⟩
def Fld.RNG_CQ_BASE.ADDR (ld n : Nat) : Field := ⟨8 * (0x201008 + 0x10000 * ld + 0x40 * n) + 12, 52, 0⟩
def Fld.RNG_SHD_BASE.ADDR (ld n : Nat) : Field := ⟨8 * (0x201010 + 0x10000 * ld + 0x40 * n) + 6, 58, 0⟩
def Fld.RNG_SHD_BASE.SHADOW_DB (ld n : Nat) : Field := ⟨8 * (0x201010 + 0x10000 * ld + 0x40 * n) + 0, 1, 0⟩
def Fld.RNG_CFG.COAL_US (ld n : Nat) : Field := ⟨8 * (0x201018 + 0x10000 * ld + 0x40 * n) + 24, 8, 0⟩
def Fld.RNG_CFG.COAL_CNT (ld n : Nat) : Field := ⟨8 * (0x201018 + 0x10000 * ld + 0x40 * n) + 16, 8, 0⟩
def Fld.RNG_CFG.DEPTH_LOG2 (ld n : Nat) : Field := ⟨8 * (0x201018 + 0x10000 * ld + 0x40 * n) + 0, 5, 4⟩
def Fld.RNG_CTL.CLEAR_TAGS (ld n : Nat) : Field := ⟨8 * (0x20101c + 0x10000 * ld + 0x40 * n) + 3, 1, 0⟩
def Fld.RNG_CTL.RESUME (ld n : Nat) : Field := ⟨8 * (0x20101c + 0x10000 * ld + 0x40 * n) + 2, 1, 0⟩
def Fld.RNG_CTL.DISABLE (ld n : Nat) : Field := ⟨8 * (0x20101c + 0x10000 * ld + 0x40 * n) + 1, 1, 0⟩
def Fld.RNG_CTL.ENABLE (ld n : Nat) : Field := ⟨8 * (0x20101c + 0x10000 * ld + 0x40 * n) + 0, 1, 0⟩
def Fld.RNG_STS.STATE (ld n : Nat) : Field := ⟨8 * (0x201020 + 0x10000 * ld + 0x40 * n) + 62, 2, 0⟩
def Fld.RNG_STS.HALT_REASON (ld n : Nat) : Field := ⟨8 * (0x201020 + 0x10000 * ld + 0x40 * n) + 59, 3, 0⟩
def Fld.RNG_STS.LOST (ld n : Nat) : Field := ⟨8 * (0x201020 + 0x10000 * ld + 0x40 * n) + 58, 1, 0⟩
def Fld.RNG_STS.CTL_REJECT (ld n : Nat) : Field := ⟨8 * (0x201020 + 0x10000 * ld + 0x40 * n) + 57, 1, 0⟩
def Fld.RNG_STS.HELD (ld n : Nat) : Field := ⟨8 * (0x201020 + 0x10000 * ld + 0x40 * n) + 32, 17, 0⟩
def Fld.RNG_STS.TAIL (ld n : Nat) : Field := ⟨8 * (0x201020 + 0x10000 * ld + 0x40 * n) + 16, 16, 0⟩
def Fld.RNG_STS.HEAD (ld n : Nat) : Field := ⟨8 * (0x201020 + 0x10000 * ld + 0x40 * n) + 0, 16, 0⟩
def Fld.RNG_TAG.TAG_HIGH (ld n : Nat) : Field := ⟨8 * (0x201028 + 0x10000 * ld + 0x40 * n) + 0, 64, 0⟩
def Fld.RNG_CNT.DU_SAT (ld n : Nat) : Field := ⟨8 * (0x201030 + 0x10000 * ld + 0x40 * n) + 31, 1, 0⟩
def Fld.RNG_CNT.DUPLICATES (ld n : Nat) : Field := ⟨8 * (0x201030 + 0x10000 * ld + 0x40 * n) + 16, 15, 0⟩
def Fld.RNG_CNT.ST_SAT (ld n : Nat) : Field := ⟨8 * (0x201030 + 0x10000 * ld + 0x40 * n) + 15, 1, 0⟩
def Fld.RNG_CNT.STALE (ld n : Nat) : Field := ⟨8 * (0x201030 + 0x10000 * ld + 0x40 * n) + 0, 15, 0⟩
def Fld.BOOT_STS.STAGE : Field := ⟨8 * (0x1e0000) + 60, 4, 0⟩
def Fld.BOOT_STS.LAST_REASON : Field := ⟨8 * (0x1e0000) + 57, 3, 0⟩
def Fld.BOOT_STS.FAILS : Field := ⟨8 * (0x1e0000) + 54, 3, 0⟩
def Fld.BOOT_STS.COPY_BOOTED : Field := ⟨8 * (0x1e0000) + 52, 2, 0⟩
def Fld.BOOT_STS.COPIES_OK : Field := ⟨8 * (0x1e0000) + 48, 4, 0⟩
def Fld.BOOT_STS.COPIES_CURRENT : Field := ⟨8 * (0x1e0000) + 44, 4, 0⟩
def Fld.BOOT_STS.BASIN : Field := ⟨8 * (0x1e0000) + 43, 1, 0⟩
def Fld.BOOT_STS.BASIN_DEFERRED : Field := ⟨8 * (0x1e0000) + 42, 1, 0⟩
def Fld.BOOT_STS.MOLT_ACTIVE : Field := ⟨8 * (0x1e0000) + 41, 1, 0⟩
def Fld.BOOT_STS.RECOVERY_XIP : Field := ⟨8 * (0x1e0000) + 40, 1, 0⟩
def Fld.BOOT_STS.REPAIR_ACTIVE : Field := ⟨8 * (0x1e0000) + 39, 1, 0⟩
def Fld.BOOT_STS.START_KIND : Field := ⟨8 * (0x1e0000) + 36, 3, 0⟩
def Fld.BOOT_STS.START_MS : Field := ⟨8 * (0x1e0000) + 0, 32, 0⟩
def Fld.BOOT_CFG.START_TIMEOUT_S : Field := ⟨8 * (0x1e0008) + 16, 8, 120⟩
def Fld.BOOT_CFG.WDT_MS : Field := ⟨8 * (0x1e0008) + 0, 16, 1000⟩
def Fld.BOOT_COMMIT.COMMIT : Field := ⟨8 * (0x1e000c) + 0, 1, 0⟩
def Fld.BOOT_CTL.RETRY : Field := ⟨8 * (0x1e0010) + 0, 1, 0⟩
def Fld.BOOT_FW.VERSION : Field := ⟨8 * (0x1e0018) + 0, 64, 0⟩
def Fld.BOOT_FW_STORED.VERSION : Field := ⟨8 * (0x1e0020) + 0, 64, 0⟩
def Fld.BOOT_XFER.STATE : Field := ⟨8 * (0x1e0030) + 60, 4, 0⟩
def Fld.BOOT_XFER.TARGET_COPY : Field := ⟨8 * (0x1e0030) + 58, 2, 0⟩
def Fld.BOOT_XFER.COPIES_WRITTEN : Field := ⟨8 * (0x1e0030) + 54, 4, 0⟩
def Fld.BOOT_XFER.NEXT_OFFSET : Field := ⟨8 * (0x1e0030) + 0, 32, 0⟩
def Fld.BOOT_UCODE.STORED_VER : Field := ⟨8 * (0x1e0028) + 24, 8, 0⟩
def Fld.BOOT_UCODE.RUN_VER : Field := ⟨8 * (0x1e0028) + 16, 8, 0⟩
def Fld.BOOT_UCODE.ROM_VER : Field := ⟨8 * (0x1e0028) + 8, 8, 0⟩
def Fld.BOOT_UCODE.FROM_IMAGE : Field := ⟨8 * (0x1e0028) + 1, 1, 0⟩
def Fld.BOOT_UCODE.LOAD_FAIL : Field := ⟨8 * (0x1e0028) + 0, 1, 0⟩
def Fld.BOOT_CNT.FS_SAT : Field := ⟨8 * (0x1e0038) + 31, 1, 0⟩
def Fld.BOOT_CNT.FAILED_STARTS : Field := ⟨8 * (0x1e0038) + 16, 15, 0⟩
def Fld.BOOT_CNT.MO_SAT : Field := ⟨8 * (0x1e0038) + 15, 1, 0⟩
def Fld.BOOT_CNT.MOLTS : Field := ⟨8 * (0x1e0038) + 0, 15, 0⟩
def Fld.BOOT_ID.SERIAL : Field := ⟨8 * (0x1e0040) + 0, 64, Rst.serial⟩
def Fld.BOOT_HWTYPE.HW_TYPE : Field := ⟨8 * (0x1e0048) + 0, 32, Rst.hwType⟩
def Fld.BOOT_KEYHASH.HASH (i : Nat) : Field := ⟨8 * (0x1e0050 + 8 * i) + 0, 64, Rst.keyHash i⟩
def Fld.BOOT_HIST.KIND (i : Nat) : Field := ⟨8 * (0x1e0100 + 4 * i) + 28, 4, 0⟩
def Fld.BOOT_HIST.REASON (i : Nat) : Field := ⟨8 * (0x1e0100 + 4 * i) + 25, 3, 0⟩
def Fld.BOOT_HIST.COPY (i : Nat) : Field := ⟨8 * (0x1e0100 + 4 * i) + 23, 2, 0⟩
def Fld.BOOT_HIST.STAGE (i : Nat) : Field := ⟨8 * (0x1e0100 + 4 * i) + 19, 4, 0⟩
def Fld.BOOT_HIST.DURATION_MS (i : Nat) : Field := ⟨8 * (0x1e0100 + 4 * i) + 0, 19, 0⟩
def Fld.FLT_CFG.LATCH_MIN : Field := ⟨8 * (0x1d0000) + 16, 3, 1⟩
def Fld.FLT_CFG.QUIET_MS : Field := ⟨8 * (0x1d0000) + 0, 14, 10⟩
def Fld.FLT_COMMIT.COMMIT : Field := ⟨8 * (0x1d0004) + 0, 1, 0⟩
def Fld.FLT_STS.FAULTED : Field := ⟨8 * (0x1d0008) + 31, 1, 0⟩
def Fld.FLT_STS.STORM : Field := ⟨8 * (0x1d0008) + 30, 1, 0⟩
def Fld.FLT_STS.REFUSED : Field := ⟨8 * (0x1d0008) + 29, 1, 0⟩
def Fld.FLT_STS.QUEUE : Field := ⟨8 * (0x1d0008) + 16, 8, 0⟩
def Fld.FLT_STS.ISOLATED : Field := ⟨8 * (0x1d0008) + 0, 7, 0⟩
def Fld.FLT_FIRST.MESSAGE : Field := ⟨8 * (0x1d0010) + 0, 64, 0⟩
def Fld.FLT_FIRST_INFO.VALID : Field := ⟨8 * (0x1d0018) + 63, 1, 0⟩
def Fld.FLT_FIRST_INFO.OVERFLOW : Field := ⟨8 * (0x1d0018) + 62, 1, 0⟩
def Fld.FLT_FIRST_INFO.TRANSIENT : Field := ⟨8 * (0x1d0018) + 61, 1, 0⟩
def Fld.FLT_FIRST_INFO.SEVERITY : Field := ⟨8 * (0x1d0018) + 58, 3, 0⟩
def Fld.FLT_FIRST_INFO.BEAT : Field := ⟨8 * (0x1d0018) + 0, 48, 0⟩
def Fld.FLT_TOTAL.OVF : Field := ⟨8 * (0x1d0068) + 63, 1, 0⟩
def Fld.FLT_TOTAL.MESSAGES : Field := ⟨8 * (0x1d0068) + 0, 63, 0⟩
def Fld.FLT_REACT.EVENT (v : Nat) : Field := ⟨8 * (0x1d0020 + 4 * v) + 6, 3, Rst.reactEvent v⟩
def Fld.FLT_REACT.RESET (v : Nat) : Field := ⟨8 * (0x1d0020 + 4 * v) + 5, 1, Rst.reactReset v⟩
def Fld.FLT_REACT.PLUNGE (v : Nat) : Field := ⟨8 * (0x1d0020 + 4 * v) + 4, 1, Rst.reactPlunge v⟩
def Fld.FLT_REACT.ISOLATE (v : Nat) : Field := ⟨8 * (0x1d0020 + 4 * v) + 3, 1, Rst.reactIsolate v⟩
def Fld.FLT_REACT.IRQ (v : Nat) : Field := ⟨8 * (0x1d0020 + 4 * v) + 2, 1, Rst.reactIrq v⟩
def Fld.FLT_REACT.JOURNAL (v : Nat) : Field := ⟨8 * (0x1d0020 + 4 * v) + 1, 1, Rst.reactJournal v⟩
def Fld.FLT_ISOLATE.RETURN : Field := ⟨8 * (0x1d0040) + 31, 1, 0⟩
def Fld.FLT_ISOLATE.ISOLATE : Field := ⟨8 * (0x1d0040) + 30, 1, 0⟩
def Fld.FLT_ISOLATE.UNIT : Field := ⟨8 * (0x1d0040) + 0, 7, 0⟩
def Fld.FLT_INJ_CTL.ARM : Field := ⟨8 * (0x1d0048) + 63, 1, 0⟩
def Fld.FLT_INJ_CTL.WEIGHT : Field := ⟨8 * (0x1d0048) + 62, 1, 0⟩
def Fld.FLT_INJ_CTL.CLASS : Field := ⟨8 * (0x1d0048) + 60, 2, 0⟩
def Fld.FLT_INJ_CTL.UNIT : Field := ⟨8 * (0x1d0048) + 48, 7, 0⟩
def Fld.FLT_INJ_CTL.COUNT : Field := ⟨8 * (0x1d0048) + 40, 8, 1⟩
def Fld.FLT_INJ_CTL.LINE : Field := ⟨8 * (0x1d0048) + 0, 36, 0⟩
def Fld.FLT_INJ_STS.REJECT : Field := ⟨8 * (0x1d0050) + 31, 1, 0⟩
def Fld.FLT_INJ_STS.LEFT : Field := ⟨8 * (0x1d0050) + 0, 8, 0⟩
def Fld.FLT_BIST_CTL.GO : Field := ⟨8 * (0x1d0058) + 31, 1, 0⟩
def Fld.FLT_BIST_CTL.UNIT : Field := ⟨8 * (0x1d0058) + 0, 7, 0⟩
def Fld.FLT_BIST_STS.STATE : Field := ⟨8 * (0x1d0060) + 62, 2, 0⟩
def Fld.FLT_BIST_STS.UNIT : Field := ⟨8 * (0x1d0060) + 55, 7, 0⟩
def Fld.FLT_BIST_STS.DURATION_US : Field := ⟨8 * (0x1d0060) + 32, 16, 0⟩
def Fld.FLT_BIST_STS.FAIL_ADDR : Field := ⟨8 * (0x1d0060) + 0, 32, 0⟩
def Fld.FLT_SRC_CFG.MASK (s : Nat) : Field := ⟨8 * (0x1d1000 + 4 * s) + 3, 1, 0⟩
def Fld.FLT_SRC_CFG.SEVERITY (s : Nat) : Field := ⟨8 * (0x1d1000 + 4 * s) + 0, 3, Rst.severity s⟩
def Fld.FLT_SRC_CNT.LOST_SAT (s : Nat) : Field := ⟨8 * (0x1d2000 + 4 * s) + 31, 1, 0⟩
def Fld.FLT_SRC_CNT.LOST (s : Nat) : Field := ⟨8 * (0x1d2000 + 4 * s) + 16, 15, 0⟩
def Fld.FLT_SRC_CNT.AF_SAT (s : Nat) : Field := ⟨8 * (0x1d2000 + 4 * s) + 15, 1, 0⟩
def Fld.FLT_SRC_CNT.AFTER_FIRST (s : Nat) : Field := ⟨8 * (0x1d2000 + 4 * s) + 0, 15, 0⟩
def Fld.FLT_UNIT_STS.STATE (u : Nat) : Field := ⟨8 * (0x1d3000 + 4 * u) + 30, 2, 0⟩
def Fld.FLT_UNIT_STS.QUIET_LEFT (u : Nat) : Field := ⟨8 * (0x1d3000 + 4 * u) + 16, 14, 0⟩
def Fld.FLT_UNIT_STS.RC_SAT (u : Nat) : Field := ⟨8 * (0x1d3000 + 4 * u) + 15, 1, 0⟩
def Fld.FLT_UNIT_STS.RECOVERIES (u : Nat) : Field := ⟨8 * (0x1d3000 + 4 * u) + 8, 7, 0⟩
def Fld.FLT_UNIT_STS.RF_SAT (u : Nat) : Field := ⟨8 * (0x1d3000 + 4 * u) + 7, 1, 0⟩
def Fld.FLT_UNIT_STS.RECOVER_FAIL (u : Nat) : Field := ⟨8 * (0x1d3000 + 4 * u) + 0, 7, 0⟩
def Fld.JNL_STS.MODE : Field := ⟨8 * (0x1d8000) + 30, 2, 0⟩
def Fld.JNL_STS.COPY_OK : Field := ⟨8 * (0x1d8000) + 28, 2, 0⟩
def Fld.JNL_STS.STAGED : Field := ⟨8 * (0x1d8000) + 20, 8, 0⟩
def Fld.JNL_STS.SUMMARY_OPEN : Field := ⟨8 * (0x1d8000) + 19, 1, 0⟩
def Fld.JNL_SEQ.NEXT_SEQ : Field := ⟨8 * (0x1d8008) + 0, 64, 0⟩
def Fld.JNL_CNT.SM_SAT : Field := ⟨8 * (0x1d8010) + 31, 1, 0⟩
def Fld.JNL_CNT.SUMMARIES : Field := ⟨8 * (0x1d8010) + 16, 15, 0⟩
def Fld.JNL_CNT.DR_SAT : Field := ⟨8 * (0x1d8010) + 15, 1, 0⟩
def Fld.JNL_CNT.DROPPED : Field := ⟨8 * (0x1d8010) + 0, 15, 0⟩
def Fld.PSQ_CFG.GOOD_DV : Field := ⟨8 * (0x1b0000) + 24, 8, 114⟩
def Fld.PSQ_CFG.TRIP_DV : Field := ⟨8 * (0x1b0000) + 16, 8, 108⟩
def Fld.PSQ_CFG.GOOD_MS : Field := ⟨8 * (0x1b0000) + 6, 10, 20⟩
def Fld.PSQ_CFG.FILTER_NS : Field := ⟨8 * (0x1b0000) + 0, 4, 8⟩
def Fld.PSQ_COMMIT.COMMIT : Field := ⟨8 * (0x1b0004) + 0, 1, 0⟩
def Fld.PSQ_STS.STATE : Field := ⟨8 * (0x1b0008) + 29, 3, 0⟩
def Fld.PSQ_STS.PENDING : Field := ⟨8 * (0x1b0008) + 27, 2, 0⟩
def Fld.PSQ_STS.INPUT_GOOD : Field := ⟨8 * (0x1b0008) + 26, 1, 0⟩
def Fld.PSQ_STS.INPUT_LOW : Field := ⟨8 * (0x1b0008) + 25, 1, 0⟩
def Fld.PSQ_STS.HOLD_OK : Field := ⟨8 * (0x1b0008) + 24, 1, 0⟩
def Fld.PSQ_STS.RETRIES : Field := ⟨8 * (0x1b0008) + 20, 4, 0⟩
def Fld.PSQ_STS.SLOT : Field := ⟨8 * (0x1b0008) + 0, 10, 0⟩
def Fld.PSQ_SEQ_CFG.SEQ_RETRIES : Field := ⟨8 * (0x1b000c) + 0, 4, 3⟩
def Fld.PSQ_RAIL_CFG.EN (r : Nat) : Field := ⟨8 * (0x1b0100 + 8 * r) + 63, 1, (Rst.railCfg r / 2^63 % 2^1)⟩
def Fld.PSQ_RAIL_CFG.REQUIRED (r : Nat) : Field := ⟨8 * (0x1b0100 + 8 * r) + 62, 1, (Rst.railCfg r / 2^62 % 2^1)⟩
def Fld.PSQ_RAIL_CFG.PG_EN (r : Nat) : Field := ⟨8 * (0x1b0100 + 8 * r) + 61, 1, (Rst.railCfg r / 2^61 % 2^1)⟩
def Fld.PSQ_RAIL_CFG.CLASS (r : Nat) : Field := ⟨8 * (0x1b0100 + 8 * r) + 58, 3, (Rst.railCfg r / 2^58 % 2^3)⟩
def Fld.PSQ_RAIL_CFG.FILTER (r : Nat) : Field := ⟨8 * (0x1b0100 + 8 * r) + 56, 2, (Rst.railCfg r / 2^56 % 2^2)⟩
def Fld.PSQ_RAIL_CFG.TIMEOUT (r : Nat) : Field := ⟨8 * (0x1b0100 + 8 * r) + 48, 8, (Rst.railCfg r / 2^48 % 2^8)⟩
def Fld.PSQ_RAIL_CFG.OFF_SLOT (r : Nat) : Field := ⟨8 * (0x1b0100 + 8 * r) + 38, 10, (Rst.railCfg r / 2^38 % 2^10)⟩
def Fld.PSQ_RAIL_CFG.ON_SLOT (r : Nat) : Field := ⟨8 * (0x1b0100 + 8 * r) + 28, 10, (Rst.railCfg r / 2^28 % 2^10)⟩
def Fld.PSQ_RAIL_CFG.OV_CODE (r : Nat) : Field := ⟨8 * (0x1b0100 + 8 * r) + 16, 12, (Rst.railCfg r / 2^16 % 2^12)⟩
def Fld.PSQ_RAIL_CFG.UV_CODE (r : Nat) : Field := ⟨8 * (0x1b0100 + 8 * r) + 4, 12, (Rst.railCfg r / 2^4 % 2^12)⟩
def Fld.PSQ_RAIL_STS.GOOD (r : Nat) : Field := ⟨8 * (0x1b0200 + 4 * r) + 31, 1, 0⟩
def Fld.PSQ_RAIL_STS.UV_NOW (r : Nat) : Field := ⟨8 * (0x1b0200 + 4 * r) + 30, 1, 0⟩
def Fld.PSQ_RAIL_STS.OV_NOW (r : Nat) : Field := ⟨8 * (0x1b0200 + 4 * r) + 29, 1, 0⟩
def Fld.PSQ_RAIL_STS.PG_PIN (r : Nat) : Field := ⟨8 * (0x1b0200 + 4 * r) + 28, 1, 0⟩
def Fld.PSQ_RAIL_STS.ENABLED (r : Nat) : Field := ⟨8 * (0x1b0200 + 4 * r) + 27, 1, 0⟩
def Fld.PSQ_RAIL_STS.CODE (r : Nat) : Field := ⟨8 * (0x1b0200 + 4 * r) + 0, 12, 0⟩
def Fld.PSQ_RAIL_CNT.UV_SAT (r : Nat) : Field := ⟨8 * (0x1b0280 + 4 * r) + 31, 1, 0⟩
def Fld.PSQ_RAIL_CNT.UV (r : Nat) : Field := ⟨8 * (0x1b0280 + 4 * r) + 24, 7, 0⟩
def Fld.PSQ_RAIL_CNT.OV_SAT (r : Nat) : Field := ⟨8 * (0x1b0280 + 4 * r) + 23, 1, 0⟩
def Fld.PSQ_RAIL_CNT.OV (r : Nat) : Field := ⟨8 * (0x1b0280 + 4 * r) + 16, 7, 0⟩
def Fld.PSQ_RAIL_CNT.PGL_SAT (r : Nat) : Field := ⟨8 * (0x1b0280 + 4 * r) + 15, 1, 0⟩
def Fld.PSQ_RAIL_CNT.PG_LOSS (r : Nat) : Field := ⟨8 * (0x1b0280 + 4 * r) + 8, 7, 0⟩
def Fld.PSQ_RAIL_CNT.TO_SAT (r : Nat) : Field := ⟨8 * (0x1b0280 + 4 * r) + 7, 1, 0⟩
def Fld.PSQ_RAIL_CNT.SEQ_TIMEOUT (r : Nat) : Field := ⟨8 * (0x1b0280 + 4 * r) + 0, 7, 0⟩
def Fld.PSQ_RST_CFG.MASK (i : Nat) : Field := ⟨8 * (0x1b0300 + 8 * i) + 32, 32, (Rst.rstCfg i / 2^32 % 2^32)⟩
def Fld.PSQ_RST_CFG.STRETCH_MS (i : Nat) : Field := ⟨8 * (0x1b0300 + 8 * i) + 22, 10, (Rst.rstCfg i / 2^22 % 2^10)⟩
def Fld.PSQ_RST_CFG.ASSERT_ON_LOSS (i : Nat) : Field := ⟨8 * (0x1b0300 + 8 * i) + 21, 1, (Rst.rstCfg i / 2^21 % 2^1)⟩
def Fld.PSQ_RST_STS.CORE_RST : Field := ⟨8 * (0x1b0340) + 8, 1, 1⟩
def Fld.PSQ_RST_STS.ASSERTED : Field := ⟨8 * (0x1b0340) + 0, 8, 255⟩
def Fld.PDM_MODE.LAST_UNIT (d : Nat) : Field := ⟨8 * (0x1c0000 + 4 * d) + 17, 7, 0⟩
def Fld.PDM_MODE.LAST_REASON (d : Nat) : Field := ⟨8 * (0x1c0000 + 4 * d) + 13, 4, 0⟩
def Fld.PDM_MODE.LAST_CLASS (d : Nat) : Field := ⟨8 * (0x1c0000 + 4 * d) + 11, 2, 0⟩
def Fld.PDM_MODE.PENDING (d : Nat) : Field := ⟨8 * (0x1c0000 + 4 * d) + 10, 1, 0⟩
def Fld.PDM_MODE.STATE (d : Nat) : Field := ⟨8 * (0x1c0000 + 4 * d) + 4, 2, 0⟩
def Fld.PDM_MODE.MODE (d : Nat) : Field := ⟨8 * (0x1c0000 + 4 * d) + 0, 2, 0⟩
def Fld.PDM_CTL.CANCEL (d : Nat) : Field := ⟨8 * (0x1c0200 + 4 * d) + 1, 1, 0⟩
def Fld.PDM_CTL.WAIT (d : Nat) : Field := ⟨8 * (0x1c0200 + 4 * d) + 0, 1, 0⟩
def Fld.PDM_WAKE_MASK.DOMAINS (w i : Nat) : Field := ⟨8 * (0x1c0400 + 0x10 * w + 4 * i) + 0, 32, Rst.wakeMask w i⟩
def Fld.PDM_WAKE_STS.LEVEL : Field := ⟨8 * (0x1c0480) + 8, 5, 0⟩
def Fld.PDM_WAKE_STS.LATCHED : Field := ⟨8 * (0x1c0480) + 0, 5, 0⟩
def Fld.PDM_WAKE_CNT.TW_SAT : Field := ⟨8 * (0x1c0484) + 31, 1, 0⟩
def Fld.PDM_WAKE_CNT.LOST_TWO_WIRE : Field := ⟨8 * (0x1c0484) + 16, 15, 0⟩
def Fld.PDM_WAKE_CNT.TH_SAT : Field := ⟨8 * (0x1c0484) + 15, 1, 0⟩
def Fld.PDM_WAKE_CNT.LOST_THOBOR : Field := ⟨8 * (0x1c0484) + 0, 15, 0⟩
def Fld.PDM_REQ_CNT.RF_SAT (c : Nat) : Field := ⟨8 * (0x1c04a0 + 4 * c) + 31, 1, 0⟩
def Fld.PDM_REQ_CNT.REFUSALS (c : Nat) : Field := ⟨8 * (0x1c04a0 + 4 * c) + 16, 15, 0⟩
def Fld.PDM_REQ_CNT.AB_SAT (c : Nat) : Field := ⟨8 * (0x1c04a0 + 4 * c) + 15, 1, 0⟩
def Fld.PDM_REQ_CNT.ABORTS (c : Nat) : Field := ⟨8 * (0x1c04a0 + 4 * c) + 0, 15, 0⟩
def Fld.PDM_REQ_LAST.DOMAIN (c : Nat) : Field := ⟨8 * (0x1c04b0 + 8 * c) + 57, 7, 0⟩
def Fld.PDM_REQ_LAST.UNIT (c : Nat) : Field := ⟨8 * (0x1c04b0 + 8 * c) + 50, 7, 0⟩
def Fld.PDM_REQ_LAST.REASON (c : Nat) : Field := ⟨8 * (0x1c04b0 + 8 * c) + 46, 4, 0⟩
def Fld.PDM_REQ_LAST.MODE (c : Nat) : Field := ⟨8 * (0x1c04b0 + 8 * c) + 44, 2, 0⟩
def Fld.PDM_REQ_LAST.BEAT (c : Nat) : Field := ⟨8 * (0x1c04b0 + 8 * c) + 0, 44, 0⟩
def Fld.PDM_COMMIT.COMMIT : Field := ⟨8 * (0x1c0800) + 0, 1, 0⟩
def Fld.PDM_POLICY.MIN_ON : Field := ⟨8 * (0x1c0804) + 8, 5, 6⟩
def Fld.PDM_POLICY.FLASH_RET : Field := ⟨8 * (0x1c0804) + 7, 1, 1⟩
def Fld.PDM_POLICY.SCARAB_RET : Field := ⟨8 * (0x1c0804) + 6, 1, 1⟩
def Fld.PDM_POLICY.THOBOR_RET : Field := ⟨8 * (0x1c0804) + 5, 1, 1⟩
def Fld.PDM_POLICY.RING_OFF : Field := ⟨8 * (0x1c0804) + 4, 1, 0⟩
def Fld.PDM_POLICY.RING_RET : Field := ⟨8 * (0x1c0804) + 3, 1, 1⟩
def Fld.PDM_POLICY.PORT_OFF : Field := ⟨8 * (0x1c0804) + 0, 2, 0⟩
def Fld.PDM_RES.OVF (d m : Nat) : Field := ⟨8 * (0x1c1000 + 0x20 * d + 8 * m) + 63, 1, 0⟩
def Fld.PDM_RES.RESIDENT_US (d m : Nat) : Field := ⟨8 * (0x1c1000 + 0x20 * d + 8 * m) + 0, 63, 0⟩
def Fld.TWB_CFG.LOCK : Field := ⟨8 * (0x1f0000) + 31, 1, 0⟩
def Fld.TWB_CFG.CFG_REJECT : Field := ⟨8 * (0x1f0000) + 30, 1, 0⟩
def Fld.TWB_CFG.TX_RETRIES : Field := ⟨8 * (0x1f0000) + 20, 4, 8⟩
def Fld.TWB_CFG.AWAKE_MS : Field := ⟨8 * (0x1f0000) + 8, 12, 100⟩
def Fld.TWB_CFG.MASK_MODE : Field := ⟨8 * (0x1f0000) + 7, 1, 0⟩
def Fld.TWB_CFG.MASK : Field := ⟨8 * (0x1f0000) + 0, 7, 0⟩
def Fld.TWB_COMMIT.COMMIT : Field := ⟨8 * (0x1f0004) + 0, 1, 0⟩
def Fld.TWB_ADDR.EN (i : Nat) : Field := ⟨8 * (0x1f0010 + 4 * i) + 11, 1, (Rst.twbAddr i / 2^11 % 2^1)⟩
def Fld.TWB_ADDR.PROTO (i : Nat) : Field := ⟨8 * (0x1f0010 + 4 * i) + 10, 1, (Rst.twbAddr i / 2^10 % 2^1)⟩
def Fld.TWB_ADDR.PEC_EN (i : Nat) : Field := ⟨8 * (0x1f0010 + 4 * i) + 9, 1, (Rst.twbAddr i / 2^9 % 2^1)⟩
def Fld.TWB_ADDR.WRITE_EN (i : Nat) : Field := ⟨8 * (0x1f0010 + 4 * i) + 8, 1, (Rst.twbAddr i / 2^8 % 2^1)⟩
def Fld.TWB_ADDR.ADDR (i : Nat) : Field := ⟨8 * (0x1f0010 + 4 * i) + 0, 7, (Rst.twbAddr i / 2^0 % 2^7)⟩
def Fld.TWB_STS.BUSY : Field := ⟨8 * (0x1f0020) + 31, 1, 0⟩
def Fld.TWB_STS.TX_PENDING : Field := ⟨8 * (0x1f0020) + 30, 1, 0⟩
def Fld.TWB_STS.QUEUED : Field := ⟨8 * (0x1f0020) + 27, 3, 0⟩
def Fld.TWB_STS.EID : Field := ⟨8 * (0x1f0020) + 8, 8, 0⟩
def Fld.TWB_STS.LAST_ADDR : Field := ⟨8 * (0x1f0020) + 0, 7, 0⟩
def Fld.TWB_CNT_A.NS_SAT : Field := ⟨8 * (0x1f0028) + 31, 1, 0⟩
def Fld.TWB_CNT_A.NAK_SLEEP : Field := ⟨8 * (0x1f0028) + 16, 15, 0⟩
def Fld.TWB_CNT_A.PE_SAT : Field := ⟨8 * (0x1f0028) + 15, 1, 0⟩
def Fld.TWB_CNT_A.PEC_ERR : Field := ⟨8 * (0x1f0028) + 0, 15, 0⟩
def Fld.TWB_CNT_B.TO_SAT : Field := ⟨8 * (0x1f002c) + 31, 1, 0⟩
def Fld.TWB_CNT_B.TIMEOUT : Field := ⟨8 * (0x1f002c) + 16, 15, 0⟩
def Fld.TWB_CNT_B.AL_SAT : Field := ⟨8 * (0x1f002c) + 15, 1, 0⟩
def Fld.TWB_CNT_B.ARB_LOST : Field := ⟨8 * (0x1f002c) + 0, 15, 0⟩
def Fld.TWB_CNT_C.DN_SAT : Field := ⟨8 * (0x1f0030) + 31, 1, 0⟩
def Fld.TWB_CNT_C.DENIED : Field := ⟨8 * (0x1f0030) + 16, 15, 0⟩
def Fld.TWB_CNT_C.MD_SAT : Field := ⟨8 * (0x1f0030) + 15, 1, 0⟩
def Fld.TWB_CNT_C.MCTP_DROP : Field := ⟨8 * (0x1f0030) + 0, 15, 0⟩
def Fld.SCB_CL_STS.STATE (k : Nat) : Field := ⟨8 * (0x180000 + 8 * k) + 62, 2, 0⟩
def Fld.SCB_CL_STS.ENGINES_OK (k : Nat) : Field := ⟨8 * (0x180000 + 8 * k) + 48, 8, 0⟩
def Fld.SCB_CL_STS.ROLE_GEN (k : Nat) : Field := ⟨8 * (0x180000 + 8 * k) + 32, 16, 0⟩
def Fld.SCB_CL_STS.RESTORE (k : Nat) : Field := ⟨8 * (0x180000 + 8 * k) + 28, 4, 0⟩
def Fld.SCB_CL_STS.CLEAN (k : Nat) : Field := ⟨8 * (0x180000 + 8 * k) + 24, 4, 0⟩
def Fld.SCB_CL_STS.COPY (k : Nat) : Field := ⟨8 * (0x180000 + 8 * k) + 20, 4, 0⟩
def Fld.SCB_CL_STS.CHECK (k : Nat) : Field := ⟨8 * (0x180000 + 8 * k) + 16, 4, 0⟩
def Fld.SCB_CL_STS.SPILL (k : Nat) : Field := ⟨8 * (0x180000 + 8 * k) + 12, 4, 0⟩
def Fld.SCB_CL_CNT.OVF (k : Nat) : Field := ⟨8 * (0x180100 + 8 * k) + 63, 1, 0⟩
def Fld.SCB_CL_CNT.PAGES (k : Nat) : Field := ⟨8 * (0x180100 + 8 * k) + 0, 63, 0⟩

/-- The COL_ rows of Table 18-8. -/
def rows_col : List RegRow := [
  ⟨0x190000, false, [],
    fun _ => [(Fld.COL_CTL.PLUNGEN_EN, .rwb), (Fld.COL_CTL.ROLE, .rwb)]⟩,
  ⟨0x190004, false, [],
    fun _ => [(Fld.COL_COMMIT.COMMIT, .wo)]⟩,
  ⟨0x190008, false, [],
    fun _ => [(Fld.COL_ID.MODULE_ID, .rwb)]⟩,
  ⟨0x190010, true, [],
    fun _ => [(Fld.COL_GROUP_MASK.GROUPS, .rwb)]⟩,
  ⟨0x190018, false, [],
    fun _ => [(Fld.COL_EPOCH_CFG.GUARD, .rwb), (Fld.COL_EPOCH_CFG.K, .rwb)]⟩,
  ⟨0x190020, false, [(4, 4)],
    fun ix => match ix with | [p] => [(Fld.COL_PORT_CFG.ASYM_NS p, .rwb), (Fld.COL_PORT_CFG.ROLE p, .rwb)] | _ => []⟩,
  ⟨0x190030, false, [(4, 4)],
    fun ix => match ix with | [p] => [(Fld.COL_PORT_STS.NEIGH_ID p, .ro), (Fld.COL_PORT_STS.NEIGH_DEPTH p, .ro), (Fld.COL_PORT_STS.LINK_UP p, .ro), (Fld.COL_PORT_STS.SILENT p, .ro), (Fld.COL_PORT_STS.ISOLATED p, .ro), (Fld.COL_PORT_STS.SELECTED p, .ro)] | _ => []⟩,
  ⟨0x190040, false, [(8, 4)],
    fun ix => match ix with | [p] => [(Fld.COL_PORT_ERRA.CRC_SAT p, .rc), (Fld.COL_PORT_ERRA.CRC_ERR p, .rc), (Fld.COL_PORT_ERRA.CODE_SAT p, .rc), (Fld.COL_PORT_ERRA.CODE_ERR p, .rc)] | _ => []⟩,
  ⟨0x190044, false, [(8, 4)],
    fun ix => match ix with | [p] => [(Fld.COL_PORT_ERRB.ISO_SAT p, .rc), (Fld.COL_PORT_ERRB.ISO_EVENTS p, .rc), (Fld.COL_PORT_ERRB.MAL_SAT p, .rc), (Fld.COL_PORT_ERRB.MALFORMED p, .rc)] | _ => []⟩,
  ⟨0x190060, false, [],
    fun _ => [(Fld.COL_ISO_CFG.LIFT, .wo), (Fld.COL_ISO_CFG.AUTO_LIFT, .rw), (Fld.COL_ISO_CFG.THRESH, .rw)]⟩,
  ⟨0x190070, false, [],
    fun _ => [(Fld.COL_TIME_STS.ROOT_ID, .ro), (Fld.COL_TIME_STS.DEPTH, .ro), (Fld.COL_TIME_STS.ROOT_CONFLICT, .w1c), (Fld.COL_TIME_STS.ID_CONFLICT, .w1c), (Fld.COL_TIME_STS.DEPTH_EXCEEDED, .w1c), (Fld.COL_TIME_STS.STEPPED, .w1c), (Fld.COL_TIME_STS.TIME_FAR, .ro), (Fld.COL_TIME_STS.STATE, .ro)]⟩,
  ⟨0x190078, true, [],
    fun _ => [(Fld.COL_TIME.TIME_NS, .rsl)]⟩,
  ⟨0x190080, true, [],
    fun _ => [(Fld.COL_SYNC.DELAY_NS, .rsl), (Fld.COL_SYNC.OFFSET_NS, .rsl)]⟩,
  ⟨0x190088, true, [],
    fun _ => [(Fld.COL_PLUNGE_STS.OPEN, .rsl), (Fld.COL_PLUNGE_STS.LATE, .rsl), (Fld.COL_PLUNGE_STS.ORIGIN, .rsl), (Fld.COL_PLUNGE_STS.CUT_BEAT, .rsl)]⟩,
  ⟨0x190090, false, [],
    fun _ => [(Fld.COL_PLUNGE_INFO.PASSED, .ro), (Fld.COL_PLUNGE_INFO.OWN_SPILL, .ro), (Fld.COL_PLUNGE_INFO.PLUNGEN_LOW, .ro), (Fld.COL_PLUNGE_INFO.LEFT, .ro), (Fld.COL_PLUNGE_INFO.MERGED, .ro), (Fld.COL_PLUNGE_INFO.CAUSE, .ro)]⟩,
  ⟨0x190098, false, [],
    fun _ => [(Fld.COL_PLUNGE_CNT.LATE_SAT, .rc), (Fld.COL_PLUNGE_CNT.LATE_CUTS, .rc), (Fld.COL_PLUNGE_CNT.WIN_SAT, .rc), (Fld.COL_PLUNGE_CNT.WINDOWS, .rc)]⟩,
  ⟨0x1900a0, false, [],
    fun _ => [(Fld.COL_PLUNGE_CMD.SPILL, .wo), (Fld.COL_PLUNGE_CMD.GO, .wo)]⟩,
  ⟨0x1900a8, true, [],
    fun _ => [(Fld.COL_PLUNGEN_MASK.GROUPS, .rwb)]⟩,
  ⟨0x1900b0, true, [],
    fun _ => [(Fld.COL_CKPT_CMD.GO, .wo), (Fld.COL_CKPT_CMD.BOUNDARY, .wo)]⟩,
  ⟨0x1900b8, true, [],
    fun _ => [(Fld.COL_CKPT_MASK.GROUPS, .rwb)]⟩,
  ⟨0x1900c0, false, [],
    fun _ => [(Fld.COL_PLAN_FLASH.PLAN_REJECT, .ro), (Fld.COL_PLAN_FLASH.GC_MIN, .rwb), (Fld.COL_PLAN_FLASH.RILL_MIN, .rwb), (Fld.COL_PLAN_FLASH.DRAW_MIN, .rwb)]⟩,
  ⟨0x1900c4, false, [],
    fun _ => [(Fld.COL_PLAN_SCARAB.CHECK_MIN, .rwb), (Fld.COL_PLAN_SCARAB.COPY_MIN, .rwb), (Fld.COL_PLAN_SCARAB.CLEAN_MIN, .rwb), (Fld.COL_PLAN_SCARAB.RESTORE_MIN, .rwb)]⟩,
  ⟨0x190100, false, [(4, 25)],
    fun ix => match ix with | [r] => [(Fld.COL_OVERRUN.SAT r, .rc), (Fld.COL_OVERRUN.COUNT r, .rc)] | _ => []⟩,
  ⟨0x1900c8, false, [],
    fun _ => [(Fld.COL_CKPT_CNT.IG_SAT, .rc), (Fld.COL_CKPT_CNT.IGNORED, .rc)]⟩]

/-- The CIS_ rows of Table 18-8. -/
def rows_cis : List RegRow := [
  ⟨0x1a0000, false, [],
    fun _ => [(Fld.CIS_CFG.P_SPILL_W, .rwb), (Fld.CIS_CFG.DERATE_FLOOR, .rwb), (Fld.CIS_CFG.INPUT_RAIL, .rwb), (Fld.CIS_CFG.N1_EN, .rwb), (Fld.CIS_CFG.SWAP_POLICY, .rwb), (Fld.CIS_CFG.LEVEL, .rwb), (Fld.CIS_CFG.CAL_RESERVE, .rwb)]⟩,
  ⟨0x1a0004, false, [],
    fun _ => [(Fld.CIS_COMMIT.COMMIT, .wo)]⟩,
  ⟨0x1a0008, false, [],
    fun _ => [(Fld.CIS_RPT.N1_UNMET, .ro), (Fld.CIS_RPT.MIXED, .ro), (Fld.CIS_RPT.MODE, .ro), (Fld.CIS_RPT.SOC_RPT, .ro)]⟩,
  ⟨0x1a0010, true, [(8, 4)],
    fun ix => match ix with | [p] => [(Fld.CIS_PACK_CFG.DESIGN_DWH p, .rwb), (Fld.CIS_PACK_CFG.SHUNT_UOHM p, .rwb), (Fld.CIS_PACK_CFG.CHG_TARGET p, .rwb), (Fld.CIS_PACK_CFG.CHG_LIM_PCT p, .rwb), (Fld.CIS_PACK_CFG.V_CUT_MV p, .rwb), (Fld.CIS_PACK_CFG.CHG_OFF p, .rwb), (Fld.CIS_PACK_CFG.ENABLE p, .rwb), (Fld.CIS_PACK_CFG.CELLS p, .rwb)] | _ => []⟩,
  ⟨0x1a0030, true, [(8, 4)],
    fun ix => match ix with | [p] => [(Fld.CIS_PACK_STS.VOLT_MV p, .rsl), (Fld.CIS_PACK_STS.CURRENT p, .rsl), (Fld.CIS_PACK_STS.TEMP_C p, .rsl), (Fld.CIS_PACK_STS.CHG_BLOCK p, .rsl), (Fld.CIS_PACK_STS.N1_DROPPED p, .rsl), (Fld.CIS_PACK_STS.INSERT_EST p, .rsl), (Fld.CIS_PACK_STS.AT_REST p, .rsl), (Fld.CIS_PACK_STS.VOLT_FAULT p, .rsl), (Fld.CIS_PACK_STS.NTC_FAULT p, .rsl), (Fld.CIS_PACK_STS.CHARGING p, .rsl), (Fld.CIS_PACK_STS.COUNTED p, .rsl), (Fld.CIS_PACK_STS.PRESENT p, .rsl)] | _ => []⟩,
  ⟨0x1a0050, true, [(8, 4)],
    fun ix => match ix with | [p] => [(Fld.CIS_PACK_EST.CYCLES p, .rsl), (Fld.CIS_PACK_EST.SOC p, .rsl), (Fld.CIS_PACK_EST.HEALTH p, .rsl), (Fld.CIS_PACK_EST.DERATE p, .rsl), (Fld.CIS_PACK_EST.SOC_UNC p, .rsl), (Fld.CIS_PACK_EST.LOAD_F p, .rsl)] | _ => []⟩,
  ⟨0x1a0070, false, [(4, 4)],
    fun ix => match ix with | [p] => [(Fld.CIS_PACK_ENERGY.DELIV_J p, .ro)] | _ => []⟩,
  ⟨0x1a0080, true, [],
    fun _ => [(Fld.CIS_USABLE.N1_DEDUCT_J, .rsl), (Fld.CIS_USABLE.USABLE_J, .rsl)]⟩,
  ⟨0x1a0090, false, [],
    fun _ => [(Fld.CIS_CAL_CMD.PACK, .wo), (Fld.CIS_CAL_CMD.PAUSE, .wo), (Fld.CIS_CAL_CMD.ABORT, .wo), (Fld.CIS_CAL_CMD.GO, .wo)]⟩,
  ⟨0x1a0094, false, [],
    fun _ => [(Fld.CIS_CAL_STS.STATE, .ro), (Fld.CIS_CAL_STS.INTERRUPTIONS, .ro), (Fld.CIS_CAL_STS.REASON, .ro)]⟩,
  ⟨0x1a0098, false, [],
    fun _ => [(Fld.CIS_REH_CFG.GO, .wo), (Fld.CIS_REH_CFG.MIN_SOC, .rw), (Fld.CIS_REH_CFG.INTERVAL_DAYS, .rw)]⟩,
  ⟨0x1a00a0, true, [],
    fun _ => [(Fld.CIS_REH_STS.RESULT, .rsl), (Fld.CIS_REH_STS.P_MEAS, .rsl), (Fld.CIS_REH_STS.DAYS_SINCE, .rsl), (Fld.CIS_REH_STS.SAG_MV, .rsl)]⟩,
  ⟨0x1a00b0, true, [],
    fun _ => [(Fld.CIS_ELAPSED.ELAPSED_US, .rsl)]⟩,
  ⟨0x1a00b8, true, [],
    fun _ => [(Fld.CIS_ALARM.ALARM_US, .rw)]⟩,
  ⟨0x1a00c0, false, [],
    fun _ => [(Fld.CIS_TIME_STS.XTAL_OK, .ro), (Fld.CIS_TIME_STS.ALARM_HIT, .w1c), (Fld.CIS_TIME_STS.PACK_LOST, .w1c), (Fld.CIS_TIME_STS.TIME_LOST, .ro)]⟩,
  ⟨0x1a00c8, true, [],
    fun _ => [(Fld.CIS_TS_BASE.TS_BASE, .rsl)]⟩,
  ⟨0x1a00d0, true, [],
    fun _ => [(Fld.CIS_TS_MARK.TS_MARK, .rsl)]⟩,
  ⟨0x1a00d8, false, [],
    fun _ => [(Fld.CIS_EVT_CNT.LOSS_SAT, .rc), (Fld.CIS_EVT_CNT.PACK_LOSS, .rc), (Fld.CIS_EVT_CNT.REJ_SAT, .rc), (Fld.CIS_EVT_CNT.LEARN_REJECT, .rc)]⟩,
  ⟨0x1a0100, false, [(0x80, 4), (4, 20)],
    fun ix => match ix with | [p, j] => [(Fld.CIS_ZTAB.Z_HI p j, .rw), (Fld.CIS_ZTAB.Z_LO p j, .rw)] | _ => []⟩,
  ⟨0x1a0300, false, [(4, 8)],
    fun ix => match ix with | [j] => [(Fld.CIS_OCV.OCV_HI j, .rw), (Fld.CIS_OCV.OCV_LO j, .rw)] | _ => []⟩]

/-- The WEIR_ rows of Table 18-8. -/
def rows_weir : List RegRow := [
  ⟨0x110000, false, [],
    fun _ => [(Fld.WEIR_CFG.CREDIT_EN, .rwb), (Fld.WEIR_CFG.CREDIT_FLOOR, .rwb), (Fld.WEIR_CFG.MARGIN_PCT, .rwb), (Fld.WEIR_CFG.WAIT_US, .rwb)]⟩,
  ⟨0x110004, false, [],
    fun _ => [(Fld.WEIR_COMMIT.COMMIT, .wo)]⟩,
  ⟨0x110008, true, [],
    fun _ => [(Fld.WEIR_FIXED.FIXED_J, .rwb), (Fld.WEIR_FIXED.P_SERVE_W, .rwb), (Fld.WEIR_FIXED.PAGE_OVH, .rwb), (Fld.WEIR_FIXED.BW_CH_MBS, .rwb), (Fld.WEIR_FIXED.TPROG_RATED_US, .rwb)]⟩,
  ⟨0x110010, false, [],
    fun _ => [(Fld.WEIR_CREDIT.RATIO_NOW, .ro), (Fld.WEIR_CREDIT.RATIO_BEAT, .ro), (Fld.WEIR_CREDIT.WINDOW, .rwb), (Fld.WEIR_CREDIT.MIN_PAGES, .rwb)]⟩,
  ⟨0x110018, true, [],
    fun _ => [(Fld.WEIR_STS.DEFICIT, .rsl), (Fld.WEIR_STS.HARD_PAGES, .rsl), (Fld.WEIR_STS.SHARE_REJECT, .rsl), (Fld.WEIR_STS.WEIR_PAGES, .rsl)]⟩,
  ⟨0x110020, true, [],
    fun _ => [(Fld.WEIR_OWED.POOL_FREE, .rsl), (Fld.WEIR_OWED.OWED, .rsl)]⟩,
  ⟨0x110028, true, [],
    fun _ => [(Fld.WEIR_CALC.F_J, .rsl), (Fld.WEIR_CALC.E_WEIR_J, .rsl), (Fld.WEIR_CALC.E_PAGE, .rsl)]⟩,
  ⟨0x110030, false, [],
    fun _ => [(Fld.WEIR_EVT.SAT, .rc), (Fld.WEIR_EVT.DEFICITS, .rc)]⟩,
  ⟨0x110100, true, [(8, 32)],
    fun ix => match ix with | [ld] => [(Fld.WEIR_LD_CFG.PRIO ld, .rwb), (Fld.WEIR_LD_CFG.BORROW_CAP ld, .rwb), (Fld.WEIR_LD_CFG.BORROW_EN ld, .rwb), (Fld.WEIR_LD_CFG.GUAR ld, .rwb)] | _ => []⟩,
  ⟨0x110200, true, [(8, 32)],
    fun ix => match ix with | [ld] => [(Fld.WEIR_LD_STS.LEVEL ld, .rsl), (Fld.WEIR_LD_STS.ALLOW ld, .rsl), (Fld.WEIR_LD_STS.OWED ld, .rsl)] | _ => []⟩,
  ⟨0x110400, false, [(8, 32)],
    fun ix => match ix with | [ld] => [(Fld.WEIR_LD_CNTA.SAT ld, .rc), (Fld.WEIR_LD_CNTA.WAITS ld, .rc)] | _ => []⟩,
  ⟨0x110404, false, [(8, 32)],
    fun ix => match ix with | [ld] => [(Fld.WEIR_LD_CNTB.TO_SAT ld, .rc), (Fld.WEIR_LD_CNTB.TIMEOUTS ld, .rc), (Fld.WEIR_LD_CNTB.OC_SAT ld, .rc), (Fld.WEIR_LD_CNTB.OVER_CAP ld, .rc)] | _ => []⟩]

/-- The RILL_ rows of Table 18-8. -/
def rows_rill : List RegRow := [
  ⟨0x114000, false, [],
    fun _ => [(Fld.RILL_CFG.QUOTA, .rwb), (Fld.RILL_CFG.LOW_PCT, .rwb)]⟩,
  ⟨0x114008, true, [],
    fun _ => [(Fld.RILL_GOV.CYCLES, .rwb), (Fld.RILL_GOV.USE_PCT, .rwb), (Fld.RILL_GOV.LIFE_DAYS, .rwb), (Fld.RILL_GOV.WINDOW_S, .rwb), (Fld.RILL_GOV.RELOC_PCT, .rwb)]⟩,
  ⟨0x114010, true, [],
    fun _ => [(Fld.RILL_RATE.RATE_KBS, .rsl), (Fld.RILL_RATE.USED_WIN_MB, .rsl)]⟩,
  ⟨0x114018, false, [],
    fun _ => [(Fld.RILL_STS.OVERRIDE, .ro), (Fld.RILL_STS.PRIORITY, .ro), (Fld.RILL_STS.GOV_LIMITED, .ro), (Fld.RILL_STS.PACE, .ro)]⟩,
  ⟨0x114020, true, [],
    fun _ => [(Fld.RILL_CNT.OVF, .rslW1), (Fld.RILL_CNT.CLEANED, .rsl)]⟩,
  ⟨0x114028, true, [],
    fun _ => [(Fld.RILL_STALE.OVF, .rslW1), (Fld.RILL_STALE.STALE, .rsl)]⟩,
  ⟨0x114030, true, [],
    fun _ => [(Fld.RILL_OVR.OVERRIDE_MB, .rsl)]⟩]

/-- The EDDY_ rows of Table 18-8. -/
def rows_eddy : List RegRow := [
  ⟨0x118000, false, [],
    fun _ => [(Fld.EDDY_CFG.RESERVE_REJECT, .ro), (Fld.EDDY_CFG.RETAIN_MAX, .rwb), (Fld.EDDY_CFG.PLUNGE_RETAIN, .rwb), (Fld.EDDY_CFG.RESERVE_PM, .rwb)]⟩,
  ⟨0x118008, true, [],
    fun _ => [(Fld.EDDY_STS.SLOTS_TOTAL, .rsl), (Fld.EDDY_STS.SLOTS_FREE, .rsl)]⟩,
  ⟨0x118010, false, [],
    fun _ => [(Fld.EDDY_STALL.ST_SAT, .rc), (Fld.EDDY_STALL.STALLS, .rc), (Fld.EDDY_STALL.TO_SAT, .rc), (Fld.EDDY_STALL.TIMEOUTS, .rc)]⟩,
  ⟨0x118100, true, [(8, 32)],
    fun ix => match ix with | [ld] => [(Fld.EDDY_CKPT_STS.OVER_WEIR ld, .rsl), (Fld.EDDY_CKPT_STS.PENDING ld, .rsl), (Fld.EDDY_CKPT_STS.RETAINED ld, .rsl), (Fld.EDDY_CKPT_STS.NEWEST_DONE ld, .rsl)] | _ => []⟩]

/-- The SPL_ rows of Table 18-8. -/
def rows_spl : List RegRow := [
  ⟨0x120000, false, [],
    fun _ => [(Fld.SPL_STATE.STAGE, .ro), (Fld.SPL_STATE.LD_NOW, .ro), (Fld.SPL_STATE.DRAM_UV, .ro), (Fld.SPL_STATE.SHORTFALL, .ro), (Fld.SPL_STATE.STATE, .ro)]⟩,
  ⟨0x120004, false, [],
    fun _ => [(Fld.SPL_CFG.SEAL_HOLD_MS, .rwb), (Fld.SPL_CFG.SAG_PM, .rwb), (Fld.SPL_CFG.PREFER, .rwb)]⟩,
  ⟨0x120008, false, [],
    fun _ => [(Fld.SPL_COMMIT.COMMIT, .wo)]⟩,
  ⟨0x120010, true, [],
    fun _ => [(Fld.SPL_GEN.GENERATION, .rsl)]⟩,
  ⟨0x120018, true, [],
    fun _ => [(Fld.SPL_CUT.LATE, .rsl), (Fld.SPL_CUT.SEALED_OK, .rsl), (Fld.SPL_CUT.T_ORIGIN, .rsl), (Fld.SPL_CUT.CUT_BEAT, .rsl)]⟩,
  ⟨0x120020, true, [],
    fun _ => [(Fld.SPL_PROGRESS.OWED_AT_T, .rsl), (Fld.SPL_PROGRESS.PAGES_DONE, .rsl)]⟩,
  ⟨0x120028, true, [],
    fun _ => [(Fld.SPL_LD.LD_IN_IMAGE, .rsl), (Fld.SPL_LD.LD_COMPLETE, .rsl)]⟩,
  ⟨0x120030, false, [],
    fun _ => [(Fld.SPL_CNTA.SP_SAT, .rc), (Fld.SPL_CNTA.SPILLS, .rc), (Fld.SPL_CNTA.DRY_SAT, .rc), (Fld.SPL_CNTA.DRY_RETURNS, .rc)]⟩,
  ⟨0x120034, false, [],
    fun _ => [(Fld.SPL_CNTB.SF_SAT, .rc), (Fld.SPL_CNTB.SHORTFALLS, .rc), (Fld.SPL_CNTB.IG_SAT, .rc), (Fld.SPL_CNTB.IGNORED, .rc), (Fld.SPL_CNTB.RW_SAT, .rc), (Fld.SPL_CNTB.STRIPE_REWRITES, .rc)]⟩]

/-- The ELY_ rows of Table 18-8. -/
def rows_ely : List RegRow := [
  ⟨0x128000, false, [],
    fun _ => [(Fld.ELY_CFG.SHADOW_INTERVAL, .rwb), (Fld.ELY_CFG.SHADOW_PAGES, .rwb)]⟩,
  ⟨0x128004, false, [],
    fun _ => [(Fld.ELY_CTL.ONLINE, .wo), (Fld.ELY_CTL.OFFLINE, .wo)]⟩,
  ⟨0x128010, true, [(8, 2)],
    fun ix => match ix with | [e] => [(Fld.ELY_STS.ROLE e, .rsl), (Fld.ELY_STS.REASON e, .rsl), (Fld.ELY_STS.UCODE_VER e, .rsl), (Fld.ELY_STS.MATCHES e, .rsl)] | _ => []⟩,
  ⟨0x128030, false, [],
    fun _ => [(Fld.ELY_CMPA.SH_SAT, .rc), (Fld.ELY_CMPA.SHADOW_MM, .rc), (Fld.ELY_CMPA.SP_SAT, .rc), (Fld.ELY_CMPA.SPILL_MM, .rc)]⟩,
  ⟨0x128034, false, [],
    fun _ => [(Fld.ELY_CMPB.LAG_SAT, .rc), (Fld.ELY_CMPB.LAG_DROP, .rc), (Fld.ELY_CMPB.ST_SAT, .rc), (Fld.ELY_CMPB.STALE_ROLE, .rc), (Fld.ELY_CMPB.CRC_SAT, .rc), (Fld.ELY_CMPB.CRC_DROP, .rc)]⟩]

/-- The RFL_ rows of Table 18-8. -/
def rows_rfl : List RegRow := [
  ⟨0x130000, false, [],
    fun _ => [(Fld.RFL_CFG.REFILL_OPS, .rwb)]⟩,
  ⟨0x130004, false, [],
    fun _ => [(Fld.RFL_COMMIT.COMMIT, .wo)]⟩,
  ⟨0x130008, true, [],
    fun _ => [(Fld.RFL_STS.PHASE, .rsl), (Fld.RFL_STS.GEN_REASON, .rsl), (Fld.RFL_STS.CHAIN_UNCHECKED, .rsl), (Fld.RFL_STS.UNFILLED, .rsl)]⟩,
  ⟨0x130010, true, [],
    fun _ => [(Fld.RFL_GEN.GENERATION, .rsl)]⟩,
  ⟨0x130018, true, [],
    fun _ => [(Fld.RFL_MAP.MAP_US, .rsl), (Fld.RFL_MAP.STRIPES_REPLAYED, .rsl)]⟩,
  ⟨0x130020, false, [],
    fun _ => [(Fld.RFL_LD_GO.GO, .wo)]⟩,
  ⟨0x130028, true, [],
    fun _ => [(Fld.RFL_DRAW_CNT.OVF, .rslW1), (Fld.RFL_DRAW_CNT.DRAWS, .rsl)]⟩,
  ⟨0x130030, false, [],
    fun _ => [(Fld.RFL_DRAW_LAT.MAX_US, .rc), (Fld.RFL_DRAW_LAT.LAST_US, .ro)]⟩,
  ⟨0x130034, false, [],
    fun _ => [(Fld.RFL_ERR.RB_SAT, .rc), (Fld.RFL_ERR.REBUILDS, .rc), (Fld.RFL_ERR.PZ_SAT, .rc), (Fld.RFL_ERR.POISONED, .rc)]⟩,
  ⟨0x130100, false, [(4, 32)],
    fun ix => match ix with | [ld] => [(Fld.RFL_LD_CFG.GATE ld, .rwb), (Fld.RFL_LD_CFG.START_POLICY ld, .rwb)] | _ => []⟩,
  ⟨0x130200, true, [(8, 32)],
    fun ix => match ix with | [ld] => [(Fld.RFL_LD_SRC.MODE ld, .rwb), (Fld.RFL_LD_SRC.VALUE ld, .rwb)] | _ => []⟩,
  ⟨0x130400, true, [(8, 32)],
    fun ix => match ix with | [ld] => [(Fld.RFL_LD_STS.SOURCE ld, .rsl), (Fld.RFL_LD_STS.REASON ld, .rsl), (Fld.RFL_LD_STS.HELD ld, .rsl), (Fld.RFL_LD_STS.UNFILLED ld, .rsl)] | _ => []⟩]

/-- The LOG_ rows of Table 18-8. -/
def rows_log : List RegRow := [
  ⟨0x140000, true, [],
    fun _ => [(Fld.LOG_CFG.RESV_MB, .rwb), (Fld.LOG_CFG.SPARE_BLOCKS, .rwb), (Fld.LOG_CFG.GC_SLACK, .rwb), (Fld.LOG_CFG.SCRUB_DAYS, .rwb), (Fld.LOG_CFG.RR_RELOC, .rwb), (Fld.LOG_CFG.FOLD_LAPS, .rwb), (Fld.LOG_CFG.FOLD_EN, .rwb), (Fld.LOG_CFG.MIN_RUN_US, .rwb)]⟩,
  ⟨0x140008, false, [],
    fun _ => [(Fld.LOG_COMMIT.COMMIT, .wo)]⟩,
  ⟨0x140010, true, [],
    fun _ => [(Fld.LOG_GEOM.DIE_SETS, .rsl), (Fld.LOG_GEOM.BLOCKS, .rsl), (Fld.LOG_GEOM.TLC_PAGES, .rsl), (Fld.LOG_GEOM.PSLC_PAGES, .rsl), (Fld.LOG_GEOM.SPARE_BYTES, .rsl), (Fld.LOG_GEOM.TPROG_US, .rsl)]⟩,
  ⟨0x140018, true, [],
    fun _ => [(Fld.LOG_CAP.PSLC_BYTES, .rsl)]⟩,
  ⟨0x140020, true, [],
    fun _ => [(Fld.LOG_SEQ.NEXT_SEQ, .rsl)]⟩,
  ⟨0x140028, true, [],
    fun _ => [(Fld.LOG_WINDOW.LOG_LOW, .rsl), (Fld.LOG_WINDOW.FREE_BANDS, .rsl), (Fld.LOG_WINDOW.FREE_MIN, .rsl), (Fld.LOG_WINDOW.TAIL, .rsl), (Fld.LOG_WINDOW.HEAD, .rsl)]⟩,
  ⟨0x140030, false, [],
    fun _ => [(Fld.LOG_CH_CTL.IN, .wo), (Fld.LOG_CH_CTL.OUT, .wo)]⟩,
  ⟨0x140034, false, [],
    fun _ => [(Fld.LOG_CH_STS.VERIFYING, .ro), (Fld.LOG_CH_STS.OUT_OF_SERVICE, .ro)]⟩,
  ⟨0x141000, false, [(4, 512)],
    fun ix => match ix with | [ds] => [(Fld.LOG_DIE_STS.STATE ds, .ro), (Fld.LOG_DIE_STS.SPARES ds, .ro), (Fld.LOG_DIE_STS.RETIRED ds, .ro)] | _ => []⟩,
  ⟨0x140040, false, [],
    fun _ => [(Fld.LOG_ERR_CNT.PF_SAT, .rc), (Fld.LOG_ERR_CNT.PROGRAM_FAIL, .rc), (Fld.LOG_ERR_CNT.EF_SAT, .rc), (Fld.LOG_ERR_CNT.ERASE_FAIL, .rc)]⟩,
  ⟨0x140048, true, [],
    fun _ => [(Fld.LOG_READ_CNT.OVF, .rc), (Fld.LOG_READ_CNT.RETRY, .rc), (Fld.LOG_READ_CNT.SOFT, .rc), (Fld.LOG_READ_CNT.PARITY, .rc)]⟩,
  ⟨0x140050, false, [],
    fun _ => [(Fld.LOG_SUSP_CNT.SU_SAT, .rc), (Fld.LOG_SUSP_CNT.SUSPENDS, .rc), (Fld.LOG_SUSP_CNT.MW_SAT, .rc), (Fld.LOG_SUSP_CNT.MIN_RUN_WAITS, .rc)]⟩,
  ⟨0x140058, true, [],
    fun _ => [(Fld.LOG_RELOC.RELOC_MB, .rsl), (Fld.LOG_RELOC.EXCESS_MB, .rsl)]⟩,
  ⟨0x140100, false, [(4, 8)],
    fun ix => match ix with | [i] => [(Fld.LOG_RR_SET.OFS_3 i, .rw), (Fld.LOG_RR_SET.OFS_2 i, .rw), (Fld.LOG_RR_SET.OFS_1 i, .rw), (Fld.LOG_RR_SET.OFS_0 i, .rw)] | _ => []⟩]

/-- The FLM_ rows of Table 18-8. -/
def rows_flm : List RegRow := [
  ⟨0x150000, false, [],
    fun _ => [(Fld.FLM_KEY.KEY, .wo)]⟩,
  ⟨0x150004, false, [],
    fun _ => [(Fld.FLM_CMD.ECC, .rw), (Fld.FLM_CMD.TLC, .rw), (Fld.FLM_CMD.OPCODE, .rw)]⟩,
  ⟨0x150008, true, [],
    fun _ => [(Fld.FLM_ADDR.REGION, .rw), (Fld.FLM_ADDR.WORD, .rw), (Fld.FLM_ADDR.PLANE, .rw), (Fld.FLM_ADDR.PAGE, .rw), (Fld.FLM_ADDR.BLOCK, .rw), (Fld.FLM_ADDR.DIE_STREAM, .rw)]⟩,
  ⟨0x150010, true, [],
    fun _ => [(Fld.FLM_DATA.VALUE, .wo)]⟩,
  ⟨0x150018, true, [],
    fun _ => [(Fld.FLM_STS.STATE, .rsl), (Fld.FLM_STS.STATUS, .rsl), (Fld.FLM_STS.DIE_BUSY, .rsl), (Fld.FLM_STS.SPILL_ABORT, .rsl), (Fld.FLM_STS.LEVEL, .rsl), (Fld.FLM_STS.OPCODE, .rsl), (Fld.FLM_STS.TIME_US, .rsl)]⟩,
  ⟨0x150020, false, [],
    fun _ => [(Fld.FLM_RDATA.RDATA, .ro)]⟩,
  ⟨0x150024, false, [],
    fun _ => [(Fld.FLM_RDATA2.RDATA2, .ro)]⟩,
  ⟨0x150028, false, [],
    fun _ => [(Fld.FLM_PROT_STS.PW_SET, .ro), (Fld.FLM_PROT_STS.SESSION, .ro), (Fld.FLM_PROT_STS.LOCKOUT, .ro), (Fld.FLM_PROT_STS.FAIL_COUNT, .ro)]⟩,
  ⟨0x15002c, false, [],
    fun _ => [(Fld.FLM_XIP.ACTIVE, .ro), (Fld.FLM_XIP.COPY, .ro), (Fld.FLM_XIP.DIE_STREAM, .ro)]⟩,
  ⟨0x150030, false, [],
    fun _ => [(Fld.FLM_CNT.SE_SAT, .rc), (Fld.FLM_CNT.SEQ_ERR, .rc), (Fld.FLM_CNT.RF_SAT, .rc), (Fld.FLM_CNT.REFUSED, .rc)]⟩,
  ⟨0x150100, true, [(8, 19)],
    fun ix => match ix with | [r] => [(Fld.FLM_REGION.START r, .rsl), (Fld.FLM_REGION.COUNT r, .rsl), (Fld.FLM_REGION.RP r, .rsl), (Fld.FLM_REGION.WP r, .rsl)] | _ => []⟩]

/-- The DRC_ rows of Table 18-8. -/
def rows_drc : List RegRow := [
  ⟨0x160000, false, [],
    fun _ => [(Fld.DRC_MAP.WAYS, .ro), (Fld.DRC_MAP.HASH_EN, .rwb), (Fld.DRC_MAP.GRAIN, .rwb)]⟩,
  ⟨0x160004, false, [],
    fun _ => [(Fld.DRC_COMMIT.COMMIT, .wo)]⟩,
  ⟨0x160100, false, [(0x2000, 8)],
    fun ix => match ix with | [ch] => [(Fld.DRC_GEOM.POP ch, .rwb), (Fld.DRC_GEOM.X8 ch, .rwb), (Fld.DRC_GEOM.RANKS ch, .rwb), (Fld.DRC_GEOM.STACK ch, .rwb), (Fld.DRC_GEOM.D32 ch, .rwb), (Fld.DRC_GEOM.RATE ch, .rwb)] | _ => []⟩,
  ⟨0x160108, true, [(0x2000, 8)],
    fun ix => match ix with | [ch] => [(Fld.DRC_TIMING.TRFC_NS ch, .rwb), (Fld.DRC_TIMING.TRC_NS ch, .rwb), (Fld.DRC_TIMING.CL_CK ch, .rwb), (Fld.DRC_TIMING.CWL_CK ch, .rwb)] | _ => []⟩,
  ⟨0x160110, false, [(0x2000, 8), (4, 5)],
    fun ix => match ix with | [ch, q] => [(Fld.DRC_QOS.TARGET_NS ch q, .rwb)] | _ => []⟩,
  ⟨0x160130, false, [(0x2000, 8)],
    fun ix => match ix with | [ch] => [(Fld.DRC_SCHED.PD_TIMER ch, .rwb), (Fld.DRC_SCHED.ROW_IDLE ch, .rwb)] | _ => []⟩,
  ⟨0x160138, false, [(0x2000, 8)],
    fun ix => match ix with | [ch] => [(Fld.DRC_RH.RH_THRESH ch, .rwb)] | _ => []⟩,
  ⟨0x160140, false, [(0x2000, 8)],
    fun ix => match ix with | [ch] => [(Fld.DRC_ECC.SCRUB_HOURS ch, .rwb), (Fld.DRC_ECC.MARK_THRESH ch, .rwb)] | _ => []⟩,
  ⟨0x160144, false, [(0x2000, 8)],
    fun ix => match ix with | [ch] => [(Fld.DRC_EYE_CFG.VREF_MIN ch, .rwb), (Fld.DRC_EYE_CFG.EYE_MIN_PCT ch, .rwb)] | _ => []⟩,
  ⟨0x160150, false, [(0x2000, 8), (4, 2)],
    fun ix => match ix with | [ch, s] => [(Fld.DRC_MARK.VALID ch s, .ro), (Fld.DRC_MARK.RANK ch s, .ro), (Fld.DRC_MARK.DEVICE ch s, .ro)] | _ => []⟩,
  ⟨0x160158, false, [(0x2000, 8), (4, 2)],
    fun ix => match ix with | [ch, s] => [(Fld.DRC_MARK_CAND.COUNT ch s, .ro), (Fld.DRC_MARK_CAND.SECOND ch s, .ro), (Fld.DRC_MARK_CAND.RANK ch s, .ro), (Fld.DRC_MARK_CAND.DEVICE ch s, .ro)] | _ => []⟩,
  ⟨0x160160, false, [(0x2000, 8)],
    fun ix => match ix with | [ch] => [(Fld.DRC_STS.STATE ch, .ro), (Fld.DRC_STS.HOT ch, .ro), (Fld.DRC_STS.RFM ch, .ro), (Fld.DRC_STS.POSTPONED ch, .ro), (Fld.DRC_STS.RETRAINING ch, .ro)] | _ => []⟩,
  ⟨0x160168, true, [(0x2000, 8)],
    fun ix => match ix with | [ch] => [(Fld.DRC_ECC_CNT.CE_SAT ch, .rslSat), (Fld.DRC_ECC_CNT.CORRECTED ch, .rsl), (Fld.DRC_ECC_CNT.UE_SAT ch, .rslSat), (Fld.DRC_ECC_CNT.UNCORRECTABLE ch, .rsl), (Fld.DRC_ECC_CNT.RD_SAT ch, .rslSat), (Fld.DRC_ECC_CNT.REDRAWS ch, .rsl)] | _ => []⟩,
  ⟨0x160170, false, [(0x2000, 8)],
    fun ix => match ix with | [ch] => [(Fld.DRC_ALERT_CNT.RP_SAT ch, .rc), (Fld.DRC_ALERT_CNT.REPLAYS ch, .rc), (Fld.DRC_ALERT_CNT.FZ_SAT ch, .rc), (Fld.DRC_ALERT_CNT.FREEZES ch, .rc), (Fld.DRC_ALERT_CNT.RF_SAT ch, .rc), (Fld.DRC_ALERT_CNT.RECOVER_FAIL ch, .rc)] | _ => []⟩,
  ⟨0x160178, false, [(0x2000, 8)],
    fun ix => match ix with | [ch] => [(Fld.DRC_MAINT_CNT.NB_SAT ch, .rc), (Fld.DRC_MAINT_CNT.NEIGHBOUR ch, .rc), (Fld.DRC_MAINT_CNT.RT_SAT ch, .rc), (Fld.DRC_MAINT_CNT.RETRAINS ch, .rc)] | _ => []⟩,
  ⟨0x160180, true, [(0x2000, 8)],
    fun ix => match ix with | [ch] => [(Fld.DRC_FRZ_INFO.BEAT ch, .rsl), (Fld.DRC_FRZ_INFO.RANK ch, .rsl), (Fld.DRC_FRZ_INFO.SUB ch, .rsl), (Fld.DRC_FRZ_INFO.MR_OK ch, .rsl), (Fld.DRC_FRZ_INFO.CAUSE ch, .rsl)] | _ => []⟩,
  ⟨0x160300, false, [(0x2000, 8), (4, 16)],
    fun ix => match ix with | [ch, r] => [(Fld.DRC_EYE.RD_LEFT ch r, .ro), (Fld.DRC_EYE.RD_RIGHT ch r, .ro), (Fld.DRC_EYE.VREF_MARGIN ch r, .ro), (Fld.DRC_EYE.SAMPLES ch r, .ro)] | _ => []⟩,
  ⟨0x161000, true, [(0x2000, 8), (0x200, 2), (8, 64)],
    fun ix => match ix with | [ch, s, i] => [(Fld.DRC_FRZ_HIST.CLK ch s i, .rsl), (Fld.DRC_FRZ_HIST.CMD ch s i, .rsl), (Fld.DRC_FRZ_HIST.RANK ch s i, .rsl), (Fld.DRC_FRZ_HIST.BG ch s i, .rsl), (Fld.DRC_FRZ_HIST.BA ch s i, .rsl), (Fld.DRC_FRZ_HIST.ADDR ch s i, .rsl)] | _ => []⟩,
  ⟨0x161800, false, [(0x2000, 8), (0x40, 2), (4, 16)],
    fun ix => match ix with | [ch, s, j] => [(Fld.DRC_FRZ_MR.MR_3 ch s j, .ro), (Fld.DRC_FRZ_MR.MR_2 ch s j, .ro), (Fld.DRC_FRZ_MR.MR_1 ch s j, .ro), (Fld.DRC_FRZ_MR.MR_0 ch s j, .ro)] | _ => []⟩]

/-- The FAB_ rows of Table 18-8. -/
def rows_fab : List RegRow := [
  ⟨0x100000, false, [(0x100, 2)],
    fun ix => match ix with | [p] => [(Fld.FAB_PORT_CFG.REFCLK p, .rwb), (Fld.FAB_PORT_CFG.FLIT68_EN p, .rwb), (Fld.FAB_PORT_CFG.RATE_MAX p, .rwb), (Fld.FAB_PORT_CFG.X8 p, .rwb)] | _ => []⟩,
  ⟨0x100004, false, [(0x100, 2)],
    fun ix => match ix with | [p] => [(Fld.FAB_PORT_STS.LINK_UP p, .ro), (Fld.FAB_PORT_STS.RATE p, .ro), (Fld.FAB_PORT_STS.FLIT256 p, .ro), (Fld.FAB_PORT_STS.WIDTH p, .ro), (Fld.FAB_PORT_STS.LANE_REV p, .ro), (Fld.FAB_PORT_STS.LDS_BOUND p, .ro)] | _ => []⟩,
  ⟨0x100008, false, [(0x100, 2)],
    fun ix => match ix with | [p] => [(Fld.FAB_ERR_A.RT_SAT p, .rc), (Fld.FAB_ERR_A.RETRIES p, .rc), (Fld.FAB_ERR_A.CRC_SAT p, .rc), (Fld.FAB_ERR_A.CRC_FAIL p, .rc)] | _ => []⟩,
  ⟨0x10000c, false, [(0x100, 2)],
    fun ix => match ix with | [p] => [(Fld.FAB_ERR_B.LD_SAT p, .rc), (Fld.FAB_ERR_B.LINK_DOWN p, .rc), (Fld.FAB_ERR_B.UN_SAT p, .rc), (Fld.FAB_ERR_B.UNSUP p, .rc)] | _ => []⟩,
  ⟨0x100800, false, [],
    fun _ => [(Fld.FAB_DEVLOAD_CFG.LOAD_SEV, .rwb), (Fld.FAB_DEVLOAD_CFG.LOAD_MOD, .rwb), (Fld.FAB_DEVLOAD_CFG.LOAD_OPT, .rwb)]⟩]

/-- The SLU_ rows of Table 18-8. -/
def rows_slu : List RegRow := [
  ⟨0x108000, false, [],
    fun _ => [(Fld.SLU_COMMIT.COMMIT, .wo)]⟩,
  ⟨0x108004, false, [],
    fun _ => [(Fld.SLU_STS.CFG_REJECT, .ro), (Fld.SLU_STS.REJECT_LD, .ro)]⟩,
  ⟨0x108008, false, [],
    fun _ => [(Fld.SLU_TRK_CFG.LD_CAP, .rwb), (Fld.SLU_TRK_CFG.PORT_RESV, .rwb)]⟩,
  ⟨0x108010, true, [],
    fun _ => [(Fld.SLU_TRK_STS.HELD, .rsl), (Fld.SLU_TRK_STS.USED1, .rsl), (Fld.SLU_TRK_STS.USED0, .rsl)]⟩,
  ⟨0x108018, true, [],
    fun _ => [(Fld.SLU_OOR_LAST.WRITE, .rsl), (Fld.SLU_OOR_LAST.PORT, .rsl), (Fld.SLU_OOR_LAST.NO_LD, .rsl), (Fld.SLU_OOR_LAST.LD, .rsl), (Fld.SLU_OOR_LAST.LD_ID, .rsl), (Fld.SLU_OOR_LAST.HPA, .rsl)]⟩,
  ⟨0x108100, true, [(8, 32)],
    fun ix => match ix with | [ld] => [(Fld.SLU_LD_BIND.STATE ld, .rsl), (Fld.SLU_LD_BIND.PORT ld, .rsl), (Fld.SLU_LD_BIND.LD_ID ld, .rsl), (Fld.SLU_LD_BIND.GEN ld, .rsl), (Fld.SLU_LD_BIND.EXT_SIZE ld, .rsl), (Fld.SLU_LD_BIND.EXT_BASE ld, .rsl)] | _ => []⟩,
  ⟨0x108200, false, [(4, 32)],
    fun ix => match ix with | [ld] => [(Fld.SLU_LD_PCFG.CLASS ld, .rwb), (Fld.SLU_LD_PCFG.SCOPE ld, .rwb), (Fld.SLU_LD_PCFG.GROUP ld, .rwb), (Fld.SLU_LD_PCFG.HINT ld, .rwb), (Fld.SLU_LD_PCFG.BW_LIMIT ld, .rwb), (Fld.SLU_LD_PCFG.BW_ALLOC ld, .rwb)] | _ => []⟩,
  ⟨0x108300, false, [(8, 32)],
    fun ix => match ix with | [ld] => [(Fld.SLU_LD_CNTA.RD_SAT ld, .rc), (Fld.SLU_LD_CNTA.OOR_RD ld, .rc), (Fld.SLU_LD_CNTA.WR_SAT ld, .rc), (Fld.SLU_LD_CNTA.OOR_WR ld, .rc)] | _ => []⟩,
  ⟨0x108304, false, [(8, 32)],
    fun ix => match ix with | [ld] => [(Fld.SLU_LD_CNTB.DS_SAT ld, .rc), (Fld.SLU_LD_CNTB.DISCARDED ld, .rc), (Fld.SLU_LD_CNTB.CW_SAT ld, .rc), (Fld.SLU_LD_CNTB.CAP_WAITS ld, .rc)] | _ => []⟩]

/-- The RNG_ rows of Table 18-8. -/
def rows_rng : List RegRow := [
  ⟨0x200000, false, [(0x10000, 32)],
    fun ix => match ix with | [ld] => [(Fld.RNG_LD_CFG.DIRECT_PCT ld, .rw), (Fld.RNG_LD_CFG.CMD_CAP ld, .rw)] | _ => []⟩,
  ⟨0x200008, true, [(0x10000, 32)],
    fun ix => match ix with | [ld] => [(Fld.RNG_LD_STS.GEN ld, .rsl), (Fld.RNG_LD_STS.IN_FLIGHT ld, .rsl)] | _ => []⟩,
  ⟨0x200010, false, [(0x10000, 32)],
    fun ix => match ix with | [ld] => [(Fld.RNG_LD_CNT.DB_SAT ld, .rc), (Fld.RNG_LD_CNT.DB_DROP ld, .rc), (Fld.RNG_LD_CNT.NT_SAT ld, .rc), (Fld.RNG_LD_CNT.NOTICES ld, .rc)] | _ => []⟩,
  ⟨0x201000, true, [(0x10000, 32), (0x40, 256)],
    fun ix => match ix with | [ld, n] => [(Fld.RNG_SQ_BASE.ADDR ld n, .rw)] | _ => []⟩,
  ⟨0x201008, true, [(0x10000, 32), (0x40, 256)],
    fun ix => match ix with | [ld, n] => [(Fld.RNG_CQ_BASE.ADDR ld n, .rw)] | _ => []⟩,
  ⟨0x201010, true, [(0x10000, 32), (0x40, 256)],
    fun ix => match ix with | [ld, n] => [(Fld.RNG_SHD_BASE.ADDR ld n, .rw), (Fld.RNG_SHD_BASE.SHADOW_DB ld n, .rw)] | _ => []⟩,
  ⟨0x201018, false, [(0x10000, 32), (0x40, 256)],
    fun ix => match ix with | [ld, n] => [(Fld.RNG_CFG.COAL_US ld n, .rw), (Fld.RNG_CFG.COAL_CNT ld n, .rw), (Fld.RNG_CFG.DEPTH_LOG2 ld n, .rw)] | _ => []⟩,
  ⟨0x20101c, false, [(0x10000, 32), (0x40, 256)],
    fun ix => match ix with | [ld, n] => [(Fld.RNG_CTL.CLEAR_TAGS ld n, .wo), (Fld.RNG_CTL.RESUME ld n, .wo), (Fld.RNG_CTL.DISABLE ld n, .wo), (Fld.RNG_CTL.ENABLE ld n, .wo)] | _ => []⟩,
  ⟨0x201020, true, [(0x10000, 32), (0x40, 256)],
    fun ix => match ix with | [ld, n] => [(Fld.RNG_STS.STATE ld n, .rsl), (Fld.RNG_STS.HALT_REASON ld n, .rsl), (Fld.RNG_STS.LOST ld n, .rsl), (Fld.RNG_STS.CTL_REJECT ld n, .rsl), (Fld.RNG_STS.HELD ld n, .rsl), (Fld.RNG_STS.TAIL ld n, .rsl), (Fld.RNG_STS.HEAD ld n, .rsl)] | _ => []⟩,
  ⟨0x201028, true, [(0x10000, 32), (0x40, 256)],
    fun ix => match ix with | [ld, n] => [(Fld.RNG_TAG.TAG_HIGH ld n, .rsl)] | _ => []⟩,
  ⟨0x201030, false, [(0x10000, 32), (0x40, 256)],
    fun ix => match ix with | [ld, n] => [(Fld.RNG_CNT.DU_SAT ld n, .rc), (Fld.RNG_CNT.DUPLICATES ld n, .rc), (Fld.RNG_CNT.ST_SAT ld n, .rc), (Fld.RNG_CNT.STALE ld n, .rc)] | _ => []⟩]

/-- The BOOT_ rows of Table 18-8. -/
def rows_boot : List RegRow := [
  ⟨0x1e0000, true, [],
    fun _ => [(Fld.BOOT_STS.STAGE, .rsl), (Fld.BOOT_STS.LAST_REASON, .rsl), (Fld.BOOT_STS.FAILS, .rsl), (Fld.BOOT_STS.COPY_BOOTED, .rsl), (Fld.BOOT_STS.COPIES_OK, .rsl), (Fld.BOOT_STS.COPIES_CURRENT, .rsl), (Fld.BOOT_STS.BASIN, .rsl), (Fld.BOOT_STS.BASIN_DEFERRED, .rsl), (Fld.BOOT_STS.MOLT_ACTIVE, .rsl), (Fld.BOOT_STS.RECOVERY_XIP, .rsl), (Fld.BOOT_STS.REPAIR_ACTIVE, .rsl), (Fld.BOOT_STS.START_KIND, .rsl), (Fld.BOOT_STS.START_MS, .rsl)]⟩,
  ⟨0x1e0008, false, [],
    fun _ => [(Fld.BOOT_CFG.START_TIMEOUT_S, .rwb), (Fld.BOOT_CFG.WDT_MS, .rwb)]⟩,
  ⟨0x1e000c, false, [],
    fun _ => [(Fld.BOOT_COMMIT.COMMIT, .wo)]⟩,
  ⟨0x1e0010, false, [],
    fun _ => [(Fld.BOOT_CTL.RETRY, .wo)]⟩,
  ⟨0x1e0018, true, [],
    fun _ => [(Fld.BOOT_FW.VERSION, .rsl)]⟩,
  ⟨0x1e0020, true, [],
    fun _ => [(Fld.BOOT_FW_STORED.VERSION, .rsl)]⟩,
  ⟨0x1e0030, true, [],
    fun _ => [(Fld.BOOT_XFER.STATE, .rsl), (Fld.BOOT_XFER.TARGET_COPY, .rsl), (Fld.BOOT_XFER.COPIES_WRITTEN, .rsl), (Fld.BOOT_XFER.NEXT_OFFSET, .rsl)]⟩,
  ⟨0x1e0028, false, [],
    fun _ => [(Fld.BOOT_UCODE.STORED_VER, .ro), (Fld.BOOT_UCODE.RUN_VER, .ro), (Fld.BOOT_UCODE.ROM_VER, .ro), (Fld.BOOT_UCODE.FROM_IMAGE, .ro), (Fld.BOOT_UCODE.LOAD_FAIL, .ro)]⟩,
  ⟨0x1e0038, false, [],
    fun _ => [(Fld.BOOT_CNT.FS_SAT, .rc), (Fld.BOOT_CNT.FAILED_STARTS, .rc), (Fld.BOOT_CNT.MO_SAT, .rc), (Fld.BOOT_CNT.MOLTS, .rc)]⟩,
  ⟨0x1e0040, true, [],
    fun _ => [(Fld.BOOT_ID.SERIAL, .rsl)]⟩,
  ⟨0x1e0048, false, [],
    fun _ => [(Fld.BOOT_HWTYPE.HW_TYPE, .ro)]⟩,
  ⟨0x1e0050, true, [(8, 6)],
    fun ix => match ix with | [i] => [(Fld.BOOT_KEYHASH.HASH i, .rsl)] | _ => []⟩,
  ⟨0x1e0100, false, [(4, 8)],
    fun ix => match ix with | [i] => [(Fld.BOOT_HIST.KIND i, .ro), (Fld.BOOT_HIST.REASON i, .ro), (Fld.BOOT_HIST.COPY i, .ro), (Fld.BOOT_HIST.STAGE i, .ro), (Fld.BOOT_HIST.DURATION_MS i, .ro)] | _ => []⟩]

/-- The FLT_ rows of Table 18-8. -/
def rows_flt : List RegRow := [
  ⟨0x1d0000, false, [],
    fun _ => [(Fld.FLT_CFG.LATCH_MIN, .rwb), (Fld.FLT_CFG.QUIET_MS, .rwb)]⟩,
  ⟨0x1d0004, false, [],
    fun _ => [(Fld.FLT_COMMIT.COMMIT, .wo)]⟩,
  ⟨0x1d0008, false, [],
    fun _ => [(Fld.FLT_STS.FAULTED, .ro), (Fld.FLT_STS.STORM, .ro), (Fld.FLT_STS.REFUSED, .w1c), (Fld.FLT_STS.QUEUE, .ro), (Fld.FLT_STS.ISOLATED, .ro)]⟩,
  ⟨0x1d0010, true, [],
    fun _ => [(Fld.FLT_FIRST.MESSAGE, .rsl)]⟩,
  ⟨0x1d0018, true, [],
    fun _ => [(Fld.FLT_FIRST_INFO.VALID, .rslW1), (Fld.FLT_FIRST_INFO.OVERFLOW, .rsl), (Fld.FLT_FIRST_INFO.TRANSIENT, .rsl), (Fld.FLT_FIRST_INFO.SEVERITY, .rsl), (Fld.FLT_FIRST_INFO.BEAT, .rsl)]⟩,
  ⟨0x1d0068, true, [],
    fun _ => [(Fld.FLT_TOTAL.OVF, .rslW1), (Fld.FLT_TOTAL.MESSAGES, .rsl)]⟩,
  ⟨0x1d0020, false, [(4, 5)],
    fun ix => match ix with | [v] => [(Fld.FLT_REACT.EVENT v, .rwb), (Fld.FLT_REACT.RESET v, .rwb), (Fld.FLT_REACT.PLUNGE v, .rwb), (Fld.FLT_REACT.ISOLATE v, .rwb), (Fld.FLT_REACT.IRQ v, .rwb), (Fld.FLT_REACT.JOURNAL v, .rwb)] | _ => []⟩,
  ⟨0x1d0040, false, [],
    fun _ => [(Fld.FLT_ISOLATE.RETURN, .wo), (Fld.FLT_ISOLATE.ISOLATE, .wo), (Fld.FLT_ISOLATE.UNIT, .wo)]⟩,
  ⟨0x1d0048, true, [],
    fun _ => [(Fld.FLT_INJ_CTL.ARM, .wo), (Fld.FLT_INJ_CTL.WEIGHT, .rw), (Fld.FLT_INJ_CTL.CLASS, .rw), (Fld.FLT_INJ_CTL.UNIT, .rw), (Fld.FLT_INJ_CTL.COUNT, .rw), (Fld.FLT_INJ_CTL.LINE, .rw)]⟩,
  ⟨0x1d0050, false, [],
    fun _ => [(Fld.FLT_INJ_STS.REJECT, .ro), (Fld.FLT_INJ_STS.LEFT, .ro)]⟩,
  ⟨0x1d0058, false, [],
    fun _ => [(Fld.FLT_BIST_CTL.GO, .wo), (Fld.FLT_BIST_CTL.UNIT, .wo)]⟩,
  ⟨0x1d0060, true, [],
    fun _ => [(Fld.FLT_BIST_STS.STATE, .rsl), (Fld.FLT_BIST_STS.UNIT, .rsl), (Fld.FLT_BIST_STS.DURATION_US, .rsl), (Fld.FLT_BIST_STS.FAIL_ADDR, .rsl)]⟩,
  ⟨0x1d1000, false, [(4, 1024)],
    fun ix => match ix with | [s] => [(Fld.FLT_SRC_CFG.MASK s, .rwb), (Fld.FLT_SRC_CFG.SEVERITY s, .rwb)] | _ => []⟩,
  ⟨0x1d2000, false, [(4, 1024)],
    fun ix => match ix with | [s] => [(Fld.FLT_SRC_CNT.LOST_SAT s, .rc), (Fld.FLT_SRC_CNT.LOST s, .rc), (Fld.FLT_SRC_CNT.AF_SAT s, .rc), (Fld.FLT_SRC_CNT.AFTER_FIRST s, .rc)] | _ => []⟩,
  ⟨0x1d3000, false, [(4, 128)],
    fun ix => match ix with | [u] => [(Fld.FLT_UNIT_STS.STATE u, .ro), (Fld.FLT_UNIT_STS.QUIET_LEFT u, .ro), (Fld.FLT_UNIT_STS.RC_SAT u, .rc), (Fld.FLT_UNIT_STS.RECOVERIES u, .rc), (Fld.FLT_UNIT_STS.RF_SAT u, .rc), (Fld.FLT_UNIT_STS.RECOVER_FAIL u, .rc)] | _ => []⟩]

/-- The JNL_ rows of Table 18-8. -/
def rows_jnl : List RegRow := [
  ⟨0x1d8000, false, [],
    fun _ => [(Fld.JNL_STS.MODE, .ro), (Fld.JNL_STS.COPY_OK, .ro), (Fld.JNL_STS.STAGED, .ro), (Fld.JNL_STS.SUMMARY_OPEN, .ro)]⟩,
  ⟨0x1d8008, true, [],
    fun _ => [(Fld.JNL_SEQ.NEXT_SEQ, .rsl)]⟩,
  ⟨0x1d8010, false, [],
    fun _ => [(Fld.JNL_CNT.SM_SAT, .rc), (Fld.JNL_CNT.SUMMARIES, .rc), (Fld.JNL_CNT.DR_SAT, .rc), (Fld.JNL_CNT.DROPPED, .rc)]⟩]

/-- The PSQ_ rows of Table 18-8. -/
def rows_psq : List RegRow := [
  ⟨0x1b0000, false, [],
    fun _ => [(Fld.PSQ_CFG.GOOD_DV, .rwb), (Fld.PSQ_CFG.TRIP_DV, .rwb), (Fld.PSQ_CFG.GOOD_MS, .rwb), (Fld.PSQ_CFG.FILTER_NS, .rwb)]⟩,
  ⟨0x1b0004, false, [],
    fun _ => [(Fld.PSQ_COMMIT.COMMIT, .wo)]⟩,
  ⟨0x1b0008, false, [],
    fun _ => [(Fld.PSQ_STS.STATE, .ro), (Fld.PSQ_STS.PENDING, .ro), (Fld.PSQ_STS.INPUT_GOOD, .ro), (Fld.PSQ_STS.INPUT_LOW, .ro), (Fld.PSQ_STS.HOLD_OK, .ro), (Fld.PSQ_STS.RETRIES, .ro), (Fld.PSQ_STS.SLOT, .ro)]⟩,
  ⟨0x1b000c, false, [],
    fun _ => [(Fld.PSQ_SEQ_CFG.SEQ_RETRIES, .rwb)]⟩,
  ⟨0x1b0100, true, [(8, 32)],
    fun ix => match ix with | [r] => [(Fld.PSQ_RAIL_CFG.EN r, .rwb), (Fld.PSQ_RAIL_CFG.REQUIRED r, .rwb), (Fld.PSQ_RAIL_CFG.PG_EN r, .rwb), (Fld.PSQ_RAIL_CFG.CLASS r, .rwb), (Fld.PSQ_RAIL_CFG.FILTER r, .rwb), (Fld.PSQ_RAIL_CFG.TIMEOUT r, .rwb), (Fld.PSQ_RAIL_CFG.OFF_SLOT r, .rwb), (Fld.PSQ_RAIL_CFG.ON_SLOT r, .rwb), (Fld.PSQ_RAIL_CFG.OV_CODE r, .rwb), (Fld.PSQ_RAIL_CFG.UV_CODE r, .rwb)] | _ => []⟩,
  ⟨0x1b0200, false, [(4, 32)],
    fun ix => match ix with | [r] => [(Fld.PSQ_RAIL_STS.GOOD r, .ro), (Fld.PSQ_RAIL_STS.UV_NOW r, .ro), (Fld.PSQ_RAIL_STS.OV_NOW r, .ro), (Fld.PSQ_RAIL_STS.PG_PIN r, .ro), (Fld.PSQ_RAIL_STS.ENABLED r, .ro), (Fld.PSQ_RAIL_STS.CODE r, .ro)] | _ => []⟩,
  ⟨0x1b0280, false, [(4, 32)],
    fun ix => match ix with | [r] => [(Fld.PSQ_RAIL_CNT.UV_SAT r, .rc), (Fld.PSQ_RAIL_CNT.UV r, .rc), (Fld.PSQ_RAIL_CNT.OV_SAT r, .rc), (Fld.PSQ_RAIL_CNT.OV r, .rc), (Fld.PSQ_RAIL_CNT.PGL_SAT r, .rc), (Fld.PSQ_RAIL_CNT.PG_LOSS r, .rc), (Fld.PSQ_RAIL_CNT.TO_SAT r, .rc), (Fld.PSQ_RAIL_CNT.SEQ_TIMEOUT r, .rc)] | _ => []⟩,
  ⟨0x1b0300, true, [(8, 8)],
    fun ix => match ix with | [i] => [(Fld.PSQ_RST_CFG.MASK i, .rwb), (Fld.PSQ_RST_CFG.STRETCH_MS i, .rwb), (Fld.PSQ_RST_CFG.ASSERT_ON_LOSS i, .rwb)] | _ => []⟩,
  ⟨0x1b0340, false, [],
    fun _ => [(Fld.PSQ_RST_STS.CORE_RST, .ro), (Fld.PSQ_RST_STS.ASSERTED, .ro)]⟩]

/-- The PDM_ rows of Table 18-8. -/
def rows_pdm : List RegRow := [
  ⟨0x1c0000, false, [(4, 96)],
    fun ix => match ix with | [d] => [(Fld.PDM_MODE.LAST_UNIT d, .ro), (Fld.PDM_MODE.LAST_REASON d, .ro), (Fld.PDM_MODE.LAST_CLASS d, .ro), (Fld.PDM_MODE.PENDING d, .ro), (Fld.PDM_MODE.STATE d, .ro), (Fld.PDM_MODE.MODE d, .rw)] | _ => []⟩,
  ⟨0x1c0200, false, [(4, 96)],
    fun ix => match ix with | [d] => [(Fld.PDM_CTL.CANCEL d, .wo), (Fld.PDM_CTL.WAIT d, .wo)] | _ => []⟩,
  ⟨0x1c0400, false, [(0x10, 5), (4, 3)],
    fun ix => match ix with | [w, i] => [(Fld.PDM_WAKE_MASK.DOMAINS w i, .rwb)] | _ => []⟩,
  ⟨0x1c0480, false, [],
    fun _ => [(Fld.PDM_WAKE_STS.LEVEL, .ro), (Fld.PDM_WAKE_STS.LATCHED, .w1c)]⟩,
  ⟨0x1c0484, false, [],
    fun _ => [(Fld.PDM_WAKE_CNT.TW_SAT, .rc), (Fld.PDM_WAKE_CNT.LOST_TWO_WIRE, .rc), (Fld.PDM_WAKE_CNT.TH_SAT, .rc), (Fld.PDM_WAKE_CNT.LOST_THOBOR, .rc)]⟩,
  ⟨0x1c04a0, false, [(4, 2)],
    fun ix => match ix with | [c] => [(Fld.PDM_REQ_CNT.RF_SAT c, .rc), (Fld.PDM_REQ_CNT.REFUSALS c, .rc), (Fld.PDM_REQ_CNT.AB_SAT c, .rc), (Fld.PDM_REQ_CNT.ABORTS c, .rc)] | _ => []⟩,
  ⟨0x1c04b0, true, [(8, 2)],
    fun ix => match ix with | [c] => [(Fld.PDM_REQ_LAST.DOMAIN c, .rsl), (Fld.PDM_REQ_LAST.UNIT c, .rsl), (Fld.PDM_REQ_LAST.REASON c, .rsl), (Fld.PDM_REQ_LAST.MODE c, .rsl), (Fld.PDM_REQ_LAST.BEAT c, .rsl)] | _ => []⟩,
  ⟨0x1c0800, false, [],
    fun _ => [(Fld.PDM_COMMIT.COMMIT, .wo)]⟩,
  ⟨0x1c0804, false, [],
    fun _ => [(Fld.PDM_POLICY.MIN_ON, .rwb), (Fld.PDM_POLICY.FLASH_RET, .rwb), (Fld.PDM_POLICY.SCARAB_RET, .rwb), (Fld.PDM_POLICY.THOBOR_RET, .rwb), (Fld.PDM_POLICY.RING_OFF, .rwb), (Fld.PDM_POLICY.RING_RET, .rwb), (Fld.PDM_POLICY.PORT_OFF, .rwb)]⟩,
  ⟨0x1c1000, true, [(0x20, 96), (8, 3)],
    fun ix => match ix with | [d, m] => [(Fld.PDM_RES.OVF d m, .rslW1), (Fld.PDM_RES.RESIDENT_US d m, .rsl)] | _ => []⟩]

/-- The TWB_ rows of Table 18-8. -/
def rows_twb : List RegRow := [
  ⟨0x1f0000, false, [],
    fun _ => [(Fld.TWB_CFG.LOCK, .rw), (Fld.TWB_CFG.CFG_REJECT, .ro), (Fld.TWB_CFG.TX_RETRIES, .rwb), (Fld.TWB_CFG.AWAKE_MS, .rwb), (Fld.TWB_CFG.MASK_MODE, .rwb), (Fld.TWB_CFG.MASK, .rwb)]⟩,
  ⟨0x1f0004, false, [],
    fun _ => [(Fld.TWB_COMMIT.COMMIT, .wo)]⟩,
  ⟨0x1f0010, false, [(4, 4)],
    fun ix => match ix with | [i] => [(Fld.TWB_ADDR.EN i, .rwb), (Fld.TWB_ADDR.PROTO i, .rwb), (Fld.TWB_ADDR.PEC_EN i, .rwb), (Fld.TWB_ADDR.WRITE_EN i, .rwb), (Fld.TWB_ADDR.ADDR i, .rwb)] | _ => []⟩,
  ⟨0x1f0020, false, [],
    fun _ => [(Fld.TWB_STS.BUSY, .ro), (Fld.TWB_STS.TX_PENDING, .ro), (Fld.TWB_STS.QUEUED, .ro), (Fld.TWB_STS.EID, .ro), (Fld.TWB_STS.LAST_ADDR, .ro)]⟩,
  ⟨0x1f0028, false, [],
    fun _ => [(Fld.TWB_CNT_A.NS_SAT, .rc), (Fld.TWB_CNT_A.NAK_SLEEP, .rc), (Fld.TWB_CNT_A.PE_SAT, .rc), (Fld.TWB_CNT_A.PEC_ERR, .rc)]⟩,
  ⟨0x1f002c, false, [],
    fun _ => [(Fld.TWB_CNT_B.TO_SAT, .rc), (Fld.TWB_CNT_B.TIMEOUT, .rc), (Fld.TWB_CNT_B.AL_SAT, .rc), (Fld.TWB_CNT_B.ARB_LOST, .rc)]⟩,
  ⟨0x1f0030, false, [],
    fun _ => [(Fld.TWB_CNT_C.DN_SAT, .rc), (Fld.TWB_CNT_C.DENIED, .rc), (Fld.TWB_CNT_C.MD_SAT, .rc), (Fld.TWB_CNT_C.MCTP_DROP, .rc)]⟩]

/-- The SCB_ rows of Table 18-8. -/
def rows_scb : List RegRow := [
  ⟨0x180000, true, [(8, 16)],
    fun ix => match ix with | [k] => [(Fld.SCB_CL_STS.STATE k, .rsl), (Fld.SCB_CL_STS.ENGINES_OK k, .rsl), (Fld.SCB_CL_STS.ROLE_GEN k, .rsl), (Fld.SCB_CL_STS.RESTORE k, .rsl), (Fld.SCB_CL_STS.CLEAN k, .rsl), (Fld.SCB_CL_STS.COPY k, .rsl), (Fld.SCB_CL_STS.CHECK k, .rsl), (Fld.SCB_CL_STS.SPILL k, .rsl)] | _ => []⟩,
  ⟨0x180100, true, [(8, 16)],
    fun ix => match ix with | [k] => [(Fld.SCB_CL_CNT.OVF k, .rslW1), (Fld.SCB_CL_CNT.PAGES k, .rsl)] | _ => []⟩]

/-- Every row of Table 18-8 that lies in BAR0 of the FM-owned LD. -/
def regRows : List RegRow :=
  rows_col ++ rows_cis ++ rows_weir ++ rows_rill ++ rows_eddy ++ rows_spl ++ rows_ely ++ rows_rfl ++ rows_log ++ rows_flm ++ rows_drc ++ rows_fab ++ rows_slu ++ rows_rng ++ rows_boot ++ rows_flt ++ rows_jnl ++ rows_psq ++ rows_pdm ++ rows_twb ++ rows_scb

end Sys2Proof.Machine
end

