-- ==== Sys2Proof/Machine/Table.lean ====
section
/-! DEFINITION. Sparse tables: a list of (key, value) pairs in one canonical form, keys strictly rising and no entry
equal to what an unlisted key reads as. Registers, DRAM bytes, page records and every numbered unit are kept so. -/

namespace Sys2Proof.Machine

/-- The value at key `k`; an unlisted key reads as `d`. -/
def tabGet {α : Type} (d : α) (k : Nat) : List (Nat × α) → α
  | [] => d
  | e :: r => if e.1 = k then e.2 else tabGet d k r

/-- Insert a pair before the first larger key. -/
def tabIns {α : Type} (k : Nat) (v : α) : List (Nat × α) → List (Nat × α)
  | [] => [(k, v)]
  | e :: r => if k < e.1 then (k, v) :: e :: r else e :: tabIns k v r

/-- Drop key `k`. -/
def tabDel {α : Type} (k : Nat) : List (Nat × α) → List (Nat × α)
  | [] => []
  | e :: r => if e.1 = k then tabDel k r else e :: tabDel k r

/-- Write `v` at key `k`; writing what an unlisted key reads as removes the entry. -/
def tabSet {α : Type} [DecidableEq α] (d : α) (k : Nat) (v : α) (m : List (Nat × α)) : List (Nat × α) :=
  if v = d then tabDel k m else tabIns k v (tabDel k m)

/-- Keys strictly rising. -/
def tabSorted {α : Type} : List (Nat × α) → Bool
  | [] => true
  | e :: r => (match r with | [] => true | f :: _ => decide (e.1 < f.1)) && tabSorted r

/-- The canonical form of a table whose unlisted keys read as `d`. -/
def tabWf {α : Type} [DecidableEq α] (d : α) (m : List (Nat × α)) : Bool :=
  tabSorted m && m.all (fun e => decide (e.2 ≠ d))

/-- Insert a number into a rising list without repeats (locks, poison lines, sets of units). -/
def setIns (k : Nat) : List Nat → List Nat
  | [] => [k]
  | a :: r => if k < a then k :: a :: r else if k = a then a :: r else a :: setIns k r

/-- Remove a number from a list. -/
def setDel (k : Nat) (l : List Nat) : List Nat := l.filter (fun a => a ≠ k)

/-- Fold over the numbers 0 to n − 1. -/
def forUpto {α : Type} (n : Nat) (f : Nat → α → α) (a : α) : α := (List.range n).foldl (fun x i => f i x) a

/-- Insert into a list kept in ascending order of a key. -/
def insBy {α : Type} (key : α → Nat) (a : α) : List α → List α
  | [] => [a]
  | b :: r => if key a < key b then a :: b :: r else b :: insBy key a r
/-- Stable sort by a key. -/
def sortBy {α : Type} (key : α → Nat) (l : List α) : List α := l.foldl (fun acc a => insBy key a acc) []

/-- Sum of a list of naturals. -/
def sumNat (l : List Nat) : Nat := l.foldl (· + ·) 0

end Sys2Proof.Machine
end

