-- ==== Sys2Proof/Machine/Bits.lean ====
section
/-! DEFINITION. Values as bytes, the two CRCs, and what is laid out bit by bit: Thobor frames (R49, R50, Tables 03-3 to 03-5),
Elytra command frames (R153, Table 06-3) and descriptors (Table 12-2). -/

namespace Sys2Proof

open Sys2Proof.Machine

/-! ## Bytes and CRCs -/

/-- `k` bytes of a value, least significant first. -/
def Machine.leBytes (k v : Nat) : List Nat := (List.range k).map (fun i => v / 256 ^ i % 256)

/-- The value of bytes, least significant first. -/
def Machine.ofLe (bs : List Nat) : Nat := bs.foldr (fun b n => b + 256 * n) 0

/-- One byte into a bit-reflected CRC of 32 bits. -/
def Machine.crcByte (poly crc b : Nat) : Nat :=
  forUpto 8 (fun _ c => if c % 2 = 1 then (c / 2) ^^^ poly else c / 2) (crc ^^^ b)
/-- One byte into CRC-32C, bit-reflected polynomial 0x82F63B78 (R6). -/
def Machine.crc32cByte (crc b : Nat) : Nat := crcByte 0x82F63B78 crc b
/-- CRC-32C of a list of bytes. -/
def Machine.crc32c (bs : List Nat) : Nat := (bs.foldl crc32cByte 0xFFFFFFFF) ^^^ 0xFFFFFFFF
/-- CRC-32 of a list of bytes (R50): polynomial 0x04C1_1DB7, reflected. -/
def Machine.crc32 (bs : List Nat) : Nat := (bs.foldl (crcByte 0xEDB88320) 0xFFFFFFFF) ^^^ 0xFFFFFFFF

/-- The round constants of SHA-384 (R234). -/
def Machine.sha512K : List (BitVec 64) := [
  0x428A2F98D728AE22, 0x7137449123EF65CD, 0xB5C0FBCFEC4D3B2F, 0xE9B5DBA58189DBBC, 0x3956C25BF348B538,
  0x59F111F1B605D019, 0x923F82A4AF194F9B, 0xAB1C5ED5DA6D8118, 0xD807AA98A3030242, 0x12835B0145706FBE,
  0x243185BE4EE4B28C, 0x550C7DC3D5FFB4E2, 0x72BE5D74F27B896F, 0x80DEB1FE3B1696B1, 0x9BDC06A725C71235,
  0xC19BF174CF692694, 0xE49B69C19EF14AD2, 0xEFBE4786384F25E3, 0x0FC19DC68B8CD5B5, 0x240CA1CC77AC9C65,
  0x2DE92C6F592B0275, 0x4A7484AA6EA6E483, 0x5CB0A9DCBD41FBD4, 0x76F988DA831153B5, 0x983E5152EE66DFAB,
  0xA831C66D2DB43210, 0xB00327C898FB213F, 0xBF597FC7BEEF0EE4, 0xC6E00BF33DA88FC2, 0xD5A79147930AA725,
  0x06CA6351E003826F, 0x142929670A0E6E70, 0x27B70A8546D22FFC, 0x2E1B21385C26C926, 0x4D2C6DFC5AC42AED,
  0x53380D139D95B3DF, 0x650A73548BAF63DE, 0x766A0ABB3C77B2A8, 0x81C2C92E47EDAEE6, 0x92722C851482353B] ++ [
  0xA2BFE8A14CF10364, 0xA81A664BBC423001, 0xC24B8B70D0F89791, 0xC76C51A30654BE30, 0xD192E819D6EF5218,
  0xD69906245565A910, 0xF40E35855771202A, 0x106AA07032BBD1B8, 0x19A4C116B8D2D0C8, 0x1E376C085141AB53,
  0x2748774CDF8EEB99, 0x34B0BCB5E19B48A8, 0x391C0CB3C5C95A63, 0x4ED8AA4AE3418ACB, 0x5B9CCA4F7763E373,
  0x682E6FF3D6B2B8A3, 0x748F82EE5DEFB2FC, 0x78A5636F43172F60, 0x84C87814A1F0AB72, 0x8CC702081A6439EC,
  0x90BEFFFA23631E28, 0xA4506CEBDE82BDE9, 0xBEF9A3F7B2C67915, 0xC67178F2E372532B, 0xCA273ECEEA26619C,
  0xD186B8C721C0C207, 0xEADA7DD6CDE0EB1E, 0xF57D4F7FEE6ED178, 0x06F067AA72176FBA, 0x0A637DC5A2C898A6,
  0x113F9804BEF90DAE, 0x1B710B35131C471B, 0x28DB77F523047D84, 0x32CAAB7B40C72493, 0x3C9EBE0A15C9BEBC,
  0x431D67C49C100D4C, 0x4CC5D4BECB3E42B6, 0x597F299CFC657E2A, 0x5FCB6FAB3AD6FAEC, 0x6C44198C4A475817]
/-- The initial hash words of SHA-384. -/
def Machine.sha384H : List (BitVec 64) := [
  0xCBBB9D5DC1059ED8, 0x629A292A367CD507, 0x9159015A3070DD17, 0x152FECD8F70E5939,
  0x67332667FFC00B31, 0x8EB44A8768581511, 0xDB0C2E0D64F98FA7, 0x47B5481DBEFA4FA4]
/-- One round over the eight working words. -/
def Machine.sha512Round (v : List (BitVec 64)) (kw : BitVec 64) : List (BitVec 64) :=
  match v with
  | [a, b, c, d, e, f, g, h] =>
    let s1 := e.rotateRight 14 ^^^ e.rotateRight 18 ^^^ e.rotateRight 41
    let t1 := h + s1 + ((e &&& f) ^^^ (~~~e &&& g)) + kw
    let s0 := a.rotateRight 28 ^^^ a.rotateRight 34 ^^^ a.rotateRight 39
    [t1 + (s0 + ((a &&& b) ^^^ (a &&& c) ^^^ (b &&& c))), a, b, c, d + t1, e, f, g]
  | _ => v
/-- The message schedule, newest word first, `n` words beyond the block's 16. -/
def Machine.sha512Words : Nat → List (BitVec 64) → List (BitVec 64)
  | 0, w => w
  | n + 1, w =>
    let x := w.getD 14 0
    let y := w.getD 1 0
    let s0 := x.rotateRight 1 ^^^ x.rotateRight 8 ^^^ x >>> 7
    let s1 := y.rotateRight 19 ^^^ y.rotateRight 61 ^^^ y >>> 6
    sha512Words n ((w.getD 15 0 + s0 + w.getD 6 0 + s1) :: w)
/-- The SHA-384 digest of an 8-byte password (R234), its bytes least significant first: six words. -/
def Machine.sha384 (v : Word) : List (BitVec 64) :=
  let m := BitVec.ofNat 64 (ofLe (leBytes 8 v.toNat).reverse)
  let w := (sha512Words 64 ([64] ++ List.replicate 13 0 ++ [BitVec.ofNat 64 (2 ^ 63), m])).reverse
  let r := (sha512K.zip w).foldl (fun s e => sha512Round s (e.1 + e.2)) sha384H
  ((sha384H.zip r).map (fun e => e.1 + e.2)).take 6

/-- `k` bits of a value from bit `i`. -/
def Machine.bitsAt (v i k : Nat) : Nat := v / 2 ^ i % 2 ^ k
/-- A truth value as a bit. -/
def Machine.bit1 (b : Bool) : Nat := if b then 1 else 0

/-! ## Firmware images (Tables 13-5, 13-6) -/

/-- An image has a section of a type. -/
def Image.has (i : Image) (t : Nat) : Bool := i.sections.any (fun e => e.type == t)
/-- MAGIC, FORMAT and lengths are in range, every used entry has a known type, and the required sections are there (R336). -/
def Image.manifestOk (i : Image) : Bool :=
  i.magic == 0x4548434B && i.format == 1 && decide (2 ≤ i.sections.length) && decide (i.sections.length ≤ 8) &&
  decide (i.imageBytes ≤ 6291456) && i.has 1 && i.has 4 &&
  i.sections.all (fun e => decide (1 ≤ e.type) && decide (e.type ≤ 5) && decide (e.offset % 4096 = 0) &&
    decide (4096 ≤ e.offset) && decide (e.offset + e.length ≤ i.imageBytes))
/-- Every section has the hash its entry gives. -/
def Image.hashesOk (i : Image) : Bool := i.sections.all (fun e => e.hashOk)
/-- A RECOVERY section is present and has its hash (R344). -/
def Image.recoveryOk (i : Image) : Bool := i.sections.any (fun e => e.type == 2 && e.hashOk)
/-- An ELYTRA_UCODE section is present (R339). -/
def Image.ucodeSec (i : Image) : Bool := i.has 3

/-! ## Thobor frames (R49, R50) -/

/-- Word `i` of a frame as received: 0 its header. -/
def Frame.word (f : Frame) (i : Nat) : Nat := (f.words.getD i 0).toNat
/-- Header fields (Table 03-3). -/
def Frame.type (f : Frame) : Nat := bitsAt (f.word 0) 28 4
def Frame.cls (f : Frame) : Nat := bitsAt (f.word 0) 26 2
def Frame.len (f : Frame) : Nat := bitsAt (f.word 0) 22 4
def Frame.hops (f : Frame) : Nat := bitsAt (f.word 0) 18 4
def Frame.origin (f : Frame) : Nat := bitsAt (f.word 0) 0 14

/-- CLASS and LEN of a TYPE (Table 03-4); `none` for a reserved one. -/
def typeForm (t : Nat) : Option (Nat × Nat) :=
  match t with
  | 1 => some (1, 5) | 2 => some (2, 4) | 3 => some (0, 4) | 4 => some (1, 2) | 5 => some (2, 5) | 6 => some (2, 2)
  | 7 => some (2, 3) | _ => none

/-- The bytes of words, in the order they go onto the wire. -/
def wordBytes (ws : List (BitVec 32)) : List Nat := ws.flatMap (fun w => leBytes 4 w.toNat)
/-- The CRC over header and payload passes (R50). -/
def Frame.crcOk (f : Frame) : Bool :=
  match f.words.getLast? with
  | some c => decide (crc32 (wordBytes f.words.dropLast) = c.toNat)
  | none => false
/-- TYPE is not reserved, and CLASS and LEN match it (R81). -/
def Frame.headerOk (f : Frame) : Bool := typeForm f.type == some (f.cls, f.len) && f.words.length == f.len + 2
/-- Symbols of the frame on the wire: SOF, header, payload, CRC and EOF (Table 03-4). -/
def Frame.symbols (f : Frame) : Nat := 2 + 4 * f.words.length

/-- Time a frame is on the line, ns: 4 ns a symbol (R45). -/
def Frame.ns (f : Frame) : Nat := 4 * f.symbols

/-- A 64-bit value in payload words `i` and `i + 1`. -/
def Frame.wide (f : Frame) (i : Nat) : Nat := f.word (i + 1) + 2 ^ 32 * f.word (i + 2)
/-- The payload (Table 03-5). A frame of a reserved TYPE reads as a CONFIG frame and is dropped for its TYPE. -/
def Frame.body (f : Frame) : FrameBody :=
  match f.type with
  | 1 => .beacon (f.wide 0) (bitsAt (f.word 3) 14 2) (bitsAt (f.word 3) 0 14) (f.word 4) (bitsAt (f.word 5) 0 8)
  | 2 => .epochAnnounce (bitsAt (f.wide 0) 53 1 == 1) (bitsAt (f.wide 0) 48 5) (bitsAt (f.wide 0) 0 48) (BitVec.ofNat 64 (f.wide 2))
  | 3 => .plunge (bitsAt (f.wide 0) 52 2) (bitsAt (f.wide 0) 48 4) (bitsAt (f.wide 0) 0 48) (BitVec.ofNat 64 (f.wide 2))
  | 4 => .firefly (bitsAt (f.word 1) 14 2) (bitsAt (f.word 1) 11 3) (bitsAt (f.word 1) 8 3) (bitsAt (f.word 1) 0 8)
      (bitsAt (f.word 2) 0 14)
  | 5 => .sealReport (bitsAt (f.wide 0) 50 1 == 1) (bitsAt (f.wide 0) 49 1 == 1) (bitsAt (f.wide 0) 48 1) (bitsAt (f.wide 0) 0 48)
      (f.wide 2) (BitVec.ofNat 32 (f.word 5))
  | 6 => .role (bitsAt (f.word 1) 6 4) (bitsAt (f.word 1) 4 2) (bitsAt (f.word 1) 2 2) (bitsAt (f.word 1) 0 2)
      (bitsAt (f.word 2) 0 14)
  | _ => .config (bitsAt (f.word 1) 24 8) (bitsAt (f.word 1) 8 4) (bitsAt (f.word 1) 0 5) (bitsAt (f.wide 1) 0 48)

/-- TYPE of a payload. -/
def FrameBody.type : FrameBody → Nat
  | .beacon .. => 1 | .epochAnnounce .. => 2 | .plunge .. => 3 | .firefly .. => 4 | .sealReport .. => 5 | .role .. => 6
  | .config .. => 7

/-- The two words of a 64-bit value, low half first. -/
def wideWords (v : Nat) : List Nat := [v % 2 ^ 32, v / 2 ^ 32 % 2 ^ 32]
/-- The payload words of a body (Table 03-5). -/
def FrameBody.payload : FrameBody → List Nat
  | .beacon tx st root e4 eq => wideWords tx ++ [st % 4 * 2 ^ 14 + root % 2 ^ 14, e4 % 2 ^ 32, eq % 256]
  | .epochAnnounce ck k b g => wideWords (bit1 ck * 2 ^ 53 + k % 32 * 2 ^ 48 + b % 2 ^ 48) ++ wideWords g.toNat
  | .plunge rep cause cut g => wideWords (rep % 4 * 2 ^ 52 + cause % 16 * 2 ^ 48 + cut % 2 ^ 48) ++ wideWords g.toNat
  | .firefly ts ds d q root => [ts % 4 * 2 ^ 14 + ds % 8 * 2 ^ 11 + d % 8 * 2 ^ 8 + q % 256, root % 2 ^ 14]
  | .sealReport c l k cut gen inc =>
      wideWords (bit1 c * 2 ^ 50 + bit1 l * 2 ^ 49 + k % 2 * 2 ^ 48 + cut % 2 ^ 48) ++ wideWords gen ++ [inc.toNat]
  | .role d p pr mr root => [d % 16 * 2 ^ 6 + p % 4 * 2 ^ 4 + pr % 4 * 2 ^ 2 + mr % 4, root % 2 ^ 14]
  | .config gen g k eff => [gen % 256 * 2 ^ 24 + g % 16 * 2 ^ 8 + k % 32] ++ wideWords (eff % 2 ^ 48)

/-- Words with their CRC. -/
def Frame.ofWords (ws : List Nat) : Frame :=
  let ws := ws.map (BitVec.ofNat 32)
  { words := ws ++ [BitVec.ofNat 32 (crc32 (wordBytes ws))] }
/-- The frame of a payload (R49, R50). -/
def FrameBody.frame (b : FrameBody) (hops origin : Nat) : Frame :=
  let c := (typeForm b.type).getD (0, 0)
  Frame.ofWords ((b.type * 2 ^ 28 + c.1 * 2 ^ 26 + c.2 * 2 ^ 22 + hops % 16 * 2 ^ 18 + origin % 2 ^ 14) :: b.payload)
/-- The frame as it is passed on with another HOPS (R76). -/
def Frame.withHops (f : Frame) (h : Nat) : Frame :=
  let w := f.word 0
  Frame.ofWords ((w - f.hops * 2 ^ 18 + h % 16 * 2 ^ 18) :: (f.words.dropLast.drop 1).map BitVec.toNat)

/-- The frame as it starts at colony time `t`: a BEACON carries that time (Table 03-5). -/
def Frame.stamped (f : Frame) (t : Nat) : Frame :=
  match f.body with
  | .beacon _ st root e4 eq => (FrameBody.beacon t st root e4 eq).frame f.hops f.origin
  | _ => f
/-- SEQ of a FIREFLY. -/
def Frame.fireflySeq (f : Frame) : Option Nat :=
  match f.body with
  | .firefly _ _ _ q _ => some q
  | _ => none

/-! ## Elytra frames (R153; the bytes of ARGS: log entry 91) -/

/-- `k` bytes of a frame from byte `i`, as a value. -/
def ElyFrame.at_ (f : ElyFrame) (i k : Nat) : Nat := bitsAt f.bits.toNat (8 * i) (8 * k)
def ElyFrame.opcode (f : ElyFrame) : Nat := f.at_ 0 1
/-- 0 Elytra A, 1 Elytra B. -/
def ElyFrame.src (f : ElyFrame) : Nat := f.at_ 1 1 % 2
def ElyFrame.shadow (f : ElyFrame) : Bool := f.at_ 1 1 / 2 % 2 == 1
def ElyFrame.roleGen (f : ElyFrame) : Nat := f.at_ 2 2
def ElyFrame.seq (f : ElyFrame) : Nat := f.at_ 4 4
def ElyFrame.target (f : ElyFrame) : Nat := f.at_ 8 2
/-- FRAME_CRC passes: CRC-32C over bytes 0 to 27. -/
def ElyFrame.crcOk (f : ElyFrame) : Bool := crc32c (leBytes 28 f.bits.toNat) == f.at_ 28 4
/-- The compare CRC (R154): over bytes 0 to 27 with bits 1:0 of FLAGS at 0. -/
def ElyFrame.body (f : ElyFrame) : BitVec 32 :=
  BitVec.ofNat 32 (crc32c (leBytes 28 (f.bits.toNat - f.at_ 1 1 % 4 * 256)))

/-- PAGE: page number, and the eddy slot of an eddy copy, all ones for the live page. -/
def ElyFrame.page (f : ElyFrame) : Nat := f.at_ 12 4
def ElyFrame.slot (f : ElyFrame) : Option Nat := if f.at_ 16 4 = 2 ^ 32 - 1 then none else some (f.at_ 16 4)
/-- PROGRAM and SEAL: block and page. -/
def ElyFrame.block (f : ElyFrame) : Nat := f.at_ 14 2
def ElyFrame.pageNo (f : ElyFrame) : Nat := f.at_ 16 2
/-- JOURNAL: record index, the record's SEQ. -/
def ElyFrame.record (f : ElyFrame) : Nat := f.at_ 12 8

/-- ARGS as the Elytra write them. -/
def pageArgs (page : Nat) (slot : Option Nat) (buffer offset : Nat) : List Nat :=
  leBytes 4 page ++ leBytes 4 (slot.getD (2 ^ 32 - 1)) ++ leBytes 4 buffer ++ leBytes 4 offset
def programArgs (buffer block page : Nat) : List Nat :=
  leBytes 2 buffer ++ leBytes 2 block ++ leBytes 2 page ++ List.replicate 10 0
def journalArgs (record : Nat) : List Nat := leBytes 8 record ++ List.replicate 8 0

/-- The frame of a command, sent by Elytra `src`. -/
def ElyFrame.make (opcode src : Nat) (shadow : Bool) (roleGen seq target : Nat) (args : List Nat) : ElyFrame :=
  let b := leBytes 28 (ofLe ([opcode, src % 2 + 2 * bit1 shadow] ++ leBytes 2 roleGen ++ leBytes 4 seq ++ leBytes 2 target ++
    [0, 0] ++ (args ++ List.replicate 16 0).take 16))
  ⟨BitVec.ofNat 256 (ofLe (b ++ leBytes 4 (crc32c b)))⟩
/-- The same command as Elytra `e` sends it. -/
def ElyFrame.from_ (f : ElyFrame) (e : Nat) : ElyFrame :=
  ElyFrame.make f.opcode e f.shadow f.roleGen f.seq f.target (leBytes 16 (f.at_ 12 16))

/-- TARGET takes the opcode (Table 06-3): PAGE a cluster, PROGRAM and SEAL a die stream, JOURNAL the journal, RAIL_OFF the rail
sequencer. Any other frame is refused. -/
def ElyFrame.fits (f : ElyFrame) : Bool :=
  match f.opcode with
  | 1 => decide (0x200 ≤ f.target ∧ f.target < 0x210)
  | 2 | 3 => decide (f.target < 0x200)
  | 4 => f.target == 0x300
  | 5 => f.target == 0x301
  | _ => false

/-! ## Descriptors -/

/-- The 64 bytes of a descriptor (Table 12-2). -/
def Descriptor.bytes (d : Descriptor) : List Nat :=
  [d.opcode.toNat, d.flags.toNat] ++ leBytes 2 d.roleGen.toNat ++ List.replicate 4 0 ++ leBytes 8 d.tag.toNat ++
    leBytes 8 d.arg0.toNat ++ leBytes 8 d.arg1.toNat ++ leBytes 8 d.arg2.toNat ++ List.replicate 24 0

end Sys2Proof
end

