-- ==== Sys2Proof/Machine/State.lean ====
section
/-! DEFINITION. The state of the KX7180 taken as a block: plain data. Registers live in `State.regs` (chapter 18);
everything else the manual gives the device memory for stands in the structures below, one per unit. -/

namespace Sys2Proof.Machine

/-! ## Outcomes -/

/-- What stops the block. No rule of the manual stops it, so nothing raises this fault; it is kept for the
interface. Safe. -/
inductive Fault where
  | none
  deriving DecidableEq, Repr

/-- What the model turns away. -/
inductive Refusal where
  /-- A command with no meaning in this model, by its mnemonic. Safe. -/
  | notModelled (mnemonic : String)
  deriving DecidableEq, Repr

/-! ## What leaves the device -/

/-- The pins the device drives that a rule speaks of. -/
inductive Pin where
  | railEn (r : Nat)      -- RAIL_EN[r]
  | modRst (i : Nat)      -- MOD_RST_N[i], level true is released
  | plungeN               -- PLUNGE_N, level false is pulled low
  | chgEn (p : Nat)       -- PKp_CHG_EN
  | alertN                -- SMBus alert of the two-wire target
  deriving DecidableEq, Repr

/-- What the device sends or drives, oldest first. -/
inductive Out where
  | ndr (port tag devLoad : Nat)                                  -- its MetaField, and that of a DRS: Out.metaField
  | drs (port tag : Nat) (data : Option Line) (devLoad : Nat)      -- no data: the poison bit is set
  | frame (port : Nat) (f : Frame)
  | sqFetch (ld ring index count : Nat)
  | shadowRead (ld ring : Nat)
  | hostWrite (ld ring kind : Nat) (words : List Nat)   -- kind 0 CQ entry, 1 head shadow, 2 event tail, 3 payload
  | msix (ld vector : Nat)
  | mbox (m : Mbox) (code : Nat) (payload : List Nat)
  | reg (value : Nat)
  | pin (p : Pin) (high : Bool)
  | chgLim (pack pct : Nat)                   -- PKp_CHG_LIM: 100 kHz PWM of this duty, %; 0 is low (R105)
  | spillLoad (on : Bool)                     -- the rehearsal's load: read streams on every DRAM and flash channel, their flash data
                                              -- decompressed and discarded (Table 04-4)
  | twoWire (bytes : List Nat)
  | nak
  | sealReport (words : List Nat)
  | linkDown (port : Nat)
  | gpf (port phase us : Nat)                 -- GPF acknowledgement of phase 1, response of phase 2 with its reported duration
  | hdm (ld decoder : Nat) (ok : Bool)        -- a decoder commit: committed, or Error Not Committed
  | flashOp (words : List Nat)
  | ely (f : ElyFrame)                        -- a command frame that an Elytra sends (R153)
  | jtag (opcode : Nat)
  deriving DecidableEq, Repr

/-! ## Faults and the journal (chapter 14) -/

/-- A fault message (Table 14-1). -/
structure FMsg where
  source   : Nat
  kind     : Nat
  address  : Nat
  spilling : Bool
  injected : Bool
  cleared  : Bool
  deriving DecidableEq, Repr

/-- A message in the collector's queue: with the severity and beat of its intake (R358, R360). -/
structure QMsg where
  msg     : FMsg
  sev     : Nat
  beat    : Nat
  time    : Nat
  latched : Bool
  deriving DecidableEq, Repr

/-- Where a journal record stands (R207, R372). -/
inductive JState where
  | staged | programming | sealing | sealed
  deriving DecidableEq, Repr

/-- A journal record (Table 08-6): payload as (offset, value) pairs. -/
structure JRec where
  seq     : Nat
  kind    : Nat
  direct  : Bool
  beat    : Nat
  gen     : Nat
  payload : List (Nat × Nat)
  st      : JState
  progOn  : List Nat       -- copies whose first program has succeeded
  sealedOn : List Nat      -- copies on which its seal word reads as programmed (R207)
  torn    : List Nat       -- copies whose seal program a loss of power interrupted: each start reads that word anew
  deriving DecidableEq, Repr

/-- The open storm summary (R374). -/
structure StormSum where
  first  : Nat
  last   : Nat
  counts : List (Nat × Nat)   -- source, count
  deriving DecidableEq, Repr

/-- The collector's and journal's own state. -/
structure FltState where
  hold      : List (Nat × FMsg) := []     -- holding registers by source (R357)
  lastSrc   : Nat := 1023                 -- source whose message was taken in last (R357)
  queue     : List QMsg := []             -- R358, at most 128
  seen      : List (Nat × Nat × Bool) := []   -- source, kind, cleared entered the queue this beat
  seenBeat  : Nat := 0
  lostBeat  : List (Nat × Nat) := []      -- LOST counts of the present beat by source
  summary   : Option StormSum := none
  quietFrom : List (Nat × Nat) := []      -- unit: time + 1 of its last UNIT_FAULT message
  byFm      : List Nat := []              -- units isolated by FLT_ISOLATE (R367)
  bistUnit  : Option Nat := none          -- running BIST
  bistFor   : Nat := 0                    -- 0 FM's BIST_GO, 1 return (R367)
  bistAt    : Nat := 0                    -- when it started
  hot       : List Nat := []              -- die sensors above 125 °C (R449)
  warmAtT   : Bool := false               -- warm reset due at the boundary after the window's T (R361)
  staging   : List JRec := []             -- journal staging, oldest first (R372)
  flashJnl  : List JRec := []             -- records programmed on a copy that the ring still holds, oldest first
  sealCopies : List JRec := []            -- the two newest SEAL records in chrysalis memory (R378)
  injClass  : Nat := 0                    -- armed injection: class, unit, weight (R369)
  injUnit   : Nat := 0
  injWeight : Nat := 0
  injLine   : Nat := 0
  jtagLast  : Nat := 0                    -- last JTAG instruction in effect (R370)
  deriving DecidableEq, Repr

/-! ## Colony (chapter 03) -/

/-- The last BEACON of a port (R60). -/
structure BeaconInfo where
  depth  : Nat
  rootId : Nat
  state  : Nat
  deriving DecidableEq, Repr

/-- One Thobor port's state beside its registers. -/
structure Port where
  lastFirefly : Nat := 0            -- beat of the last valid FIREFLY
  errWin      : Nat := 0            -- CRC failures and malformed frames of the present window (R82)
  winStart    : Nat := 0            -- number of the window of the last error or isolation
  seq         : Nat := 0            -- SEQ of the next FIREFLY
  echoT4      : Nat := 0
  echoSeq     : Nat := 0
  beacon      : Option BeaconInfo := none
  rootSeen    : Option Nat := none  -- ROOT_ID the port's frames last carried
  deriving DecidableEq, Repr

/-- The plunge window (R71). -/
structure PlungeWin where
  openAt  : Nat            -- colony time of its opening
  tw      : Nat
  late    : Bool
  groups  : Nat            -- OR of the GROUP_MASKs merged before T passed
  own     : Bool           -- an announcement of this module's own is merged (R74)
  ownSpill : Option Nat    -- the cut at which this module spills (R72)
  spillCause : Nat         -- cause of that spill
  cut     : Bool           -- the window's T has been acted on
  deriving DecidableEq, Repr

/-- A cut of this module's own still to come (R72). -/
structure OwnCut where
  beat  : Nat
  cause : Nat
  late  : Bool
  deriving DecidableEq, Repr

/-- A Thobor transmitter (R51): the frame on the line ends at `freeAt`; others wait, oldest first. The colony times t3 at which its
last FIREFLYs started are kept by SEQ (R53). -/
structure TxPort where
  freeAt : Nat := 0
  wait   : List Frame := []
  t3     : List (Nat × Nat) := []
  deriving DecidableEq, Repr

/-- An own PLUNGE being repeated (R76). -/
structure PlungeRep where
  rep    : Nat
  cause  : Nat
  cutBeat : Nat
  groups : Nat
  deriving DecidableEq, Repr

/-- CONFIG values waiting for their EFFECTIVE_BEAT (R67). -/
structure PendCfg where
  guard : Nat
  k     : Nat
  beat  : Nat
  deriving DecidableEq, Repr

/-- A plunge or colony cut taken here: its checkpoints by LD, number (Ckpt.no) and identifier, and the LDs whose cut was
refused. -/
structure PlungeCut where
  beat  : Nat
  late  : Bool
  ckpts : List (Nat × Nat × Nat)
  refused : List Nat
  deriving DecidableEq, Repr

/-- Colony state beside the COL_ registers. -/
structure ColState where
  ports     : List (Nat × Port) := []
  trim64    : Int := 0           -- frequency trim, 1/64 ppm (R53)
  frac      : Int := 0
  slew      : Int := 0           -- ns, spread over the present beat (R53)
  slewNext  : Int := 0           -- ns, to be spread over the next beat (R53)
  good      : Nat := 0           -- consecutive beats within 8 ns (R54)
  bad       : Nat := 0           -- consecutive beats beyond 64 ns
  measAt    : Nat := 0           -- beat after the one of the last measurement (R54)
  guardNow  : Option Nat := none -- GUARD and K in force on a member or a root awaiting EFFECTIVE_BEAT
  kNow      : Option Nat := none
  pend      : Option PendCfg := none
  cfgGen    : Nat := 0
  cfgLeft   : Nat := 0           -- CONFIG frames still to send after a change
  cfgLast   : Option Nat := none -- CONFIG_GEN last taken from the selected port
  announce  : List (Nat × Nat) := []  -- colony checkpoints the root announces: boundary, mask (R69)
  ckpts     : List (Nat × Nat) := []  -- colony checkpoints to take here: boundary, mask
  ckptTaken : List Nat := []          -- colony checkpoint boundaries already taken or scheduled
  window    : Option PlungeWin := none
  ownCut    : Option OwnCut := none   -- an own later cut whose window has closed (R72, R144)
  overBy    : List (Nat × Nat) := []  -- excess of overruns to be taken from the present beat, by resource (R65)
  reps      : List PlungeRep := []
  fwd       : List (Nat × Nat × Nat × Nat) := []  -- ORIGIN, CUT_BEAT, REP forwarded and beat (R76)
  driveLow  : Bool := false      -- this module pulls PLUNGE_N low
  depthWas  : Nat := 0           -- depth before the loss of the selected port (R60)
  rootWas   : Nat := 0
  cuts      : List PlungeCut := []  -- plunge and colony cuts whose SEAL_REPORT is still to come (R52)
  lost      : Bool := false      -- the selected port was lost and no port is selected
  mayUp     : Bool := true       -- the UPSTREAM port may be selected: not lost since its roles were committed (R61)
  deriving DecidableEq, Repr

/-! ## Pages, flash and the log (chapters 05, 07, 08) -/

/-- Page states (Table 05-2). -/
inductive PState where
  | clean | dirty | cleaning | forked | unfilled | drawing | poisoned | volatile
  deriving DecidableEq, Repr

/-- A page record (Table 05-1); `loc` is bits 102:59: die stream, block, page and offset. -/
structure PageRec where
  st  : PState
  ld  : Nat
  tag : Nat
  loc : Nat
  len : Nat
  crc : Nat
  deriving DecidableEq, Repr

/-- The content of a 4 KiB page: its bytes that are not 0, by offset, and its poisoned lines. -/
structure Content where
  bytes  : List (Nat × Byte)
  poison : List Nat
  deriving DecidableEq, Repr

/-- A stored form on flash (Table 08-2), with its plaintext; `laps` counts relocations by the tail (R213). -/
structure Form where
  kind   : Nat            -- 1 DATA, 2 EDDY, 3 RECORD, 4 META, 5 CKPT_MAP, 6 CKPT_RECORD
  page   : Nat
  ld     : Nat
  keyGen : Nat
  cut    : Nat
  seq    : Nat
  gen    : Nat
  crc    : Nat
  len    : Nat
  body   : Content
  laps   : Nat
  reloc  : Bool
  deriving DecidableEq, Repr

/-- A form on its way into a stripe. -/
structure Item where
  form  : Form
  tag   : Nat            -- EPOCH_TAG of the page when it was selected
  slot  : Option Nat     -- eddy slot of an eddy copy
  cuts  : List Nat       -- checkpoints this copy serves, by Ckpt.no
  stale : Bool           -- a write arrived since selection (R131)
  src   : Option Nat     -- relocation: the log address it moves from
  key   : Nat            -- log address once placed
  stamp : Nat            -- ring commands accepted when the copy was taken (R313)
  deriving DecidableEq, Repr

/-- A stripe being filled or programmed. -/
structure Stripe where
  seq     : Nat
  writer  : Nat          -- Table 08-3 WRITER: 1 RILL, 2 SPILL, 3 RELOC, 4 FOLD, 5 META, 6 CKPT, 7 SEAL
  band    : Nat
  unit    : Nat          -- stripe number within its band
  members : List Nat     -- member channels, ascending
  used    : Nat          -- 64-byte units packed
  items   : List Item
  closed  : Bool
  bytes   : Nat          -- stored data bytes
  started : Nat          -- time its programs began
  deriving DecidableEq, Repr

/-- What a die is doing for the log (R220). -/
structure DieOp where
  erase     : Bool
  since     : Nat          -- start or last resume
  suspended : Bool
  waiting   : List Nat     -- pages whose draws wait at the die
  deriving DecidableEq, Repr

/-- Where a restore stands. -/
inductive DrawStep where
  | queued      -- waits for its die or for the minimum run
  | reading     -- flash read under way
  | restoring   -- decrypt, decompress, DRAM write
  | rebuild     -- parity rebuild
  | zero        -- length 0
  deriving DecidableEq, Repr

/-- A draw or refill read of one page (R181, R185). -/
structure Draw where
  page    : Nat
  refill  : Bool
  step    : DrawStep
  since   : Nat
  rebuilt : Bool
  from_   : Nat           -- log address it reads from (R184)
  also    : Option Nat    -- die stream of the data member that the form continues on (R202)
  deriving DecidableEq, Repr

/-- An eddy slot in use (R134): the pre-cut content of a page and the checkpoints it serves, by Ckpt.no. -/
structure Eddy where
  page   : Nat
  ld     : Nat
  tag    : Nat
  cuts   : List Nat
  body   : Content
  filled : Bool           -- the fork copy has ended
  onWay  : Bool           -- selected by the rill or the spill
  byItem : Bool           -- served by an in-flight rill copy (R131)
  deriving DecidableEq, Repr

/-- Rill, governor and credit state (chapter 05). -/
structure RillState where
  sel      : List Item := []          -- selected, at the Scarab
  target   : Nat := 0                 -- pages of this beat
  started  : Nat := 0                 -- pages started in this beat
  most     : Nat := 0                 -- pages of this beat that the quota and the plan allow without the governor
  slices   : List Nat := []           -- bytes by slice, the current one first (R132)
  sliceNo  : Nat := 0
  samples  : List (Nat × Nat) := []   -- sampled beats: beat, ratio in 1/128 (R121)
  beatPgs  : Nat := 0                 -- pages and bytes stored in the present beat
  beatLen  : Nat := 0
  pendW    : Option (Nat × Nat) := none   -- W and W_hard computed, not yet in force (R119)
  pendAt   : Nat := 0
  relocBytes : Nat := 0               -- relocation bytes in the current slice (R210)
  ovrBytes : Nat := 0                 -- override bytes not yet a whole MB
  relBytes : Nat := 0
  excBytes : Nat := 0
  cursors  : List (Nat × Nat) := []   -- sweep cursor by LD (R130)
  directed : List Nat := []           -- pages of directed cleans (R313)
  ready    : List Nat := []           -- selected pages whose processed form waits for a stripe (R132)
  deriving DecidableEq, Repr

/-- A stripe as flash holds it (R203): what its header says, and its forms by log address in packing order. -/
structure FStripe where
  writer  : Nat
  gen     : Nat
  band    : Nat
  unit    : Nat
  erases  : Nat
  members : List Nat
  forms   : List (Nat × Form)
  deriving DecidableEq, Repr

/-- The spillway log (chapter 08). -/
structure LogState where
  stripes  : List Stripe := []
  seq      : Nat := 1                 -- next stripe sequence
  unit     : Nat := 0                 -- next stripe of the head band
  used     : List Nat := []           -- bands in use, tail first, head last
  free     : List Nat := []           -- free bands in ring order
  tlc      : List Nat := []           -- TLC bands, the open one last (R213)
  tlcUnit  : Nat := 0                 -- next stripe of the open TLC band
  erases   : List (Nat × Nat) := []   -- erase count by band
  erasing  : Option Nat := none       -- tail band being erased
  written  : Bool := false            -- the log holds a stripe since new or sanitized (R191)
  fold     : List (Nat × Item) := []  -- folded forms awaiting read-back, by TLC band (R213)
  reloc    : List Nat := []           -- log addresses scheduled for relocation (R216, R219)
  chOut    : List Nat := []           -- channels leaving at the next beat
  dieOps   : List (Nat × DieOp) := []
  dieCause : List (Nat × Nat) := []   -- cause of a retired die (R216)
  dieDone  : List Nat := []           -- retired dies whose stripes are all rewritten (R216)
  retired  : List Nat := []           -- blocks retired since new (R215, Table 08-17), as `bad`
  reErase  : List Nat := []           -- free bands whose erase a loss of power interrupted: erased again before use (Table 08-10)
  outRefused : Nat := 0               -- writes of OUT that came while a channel was out (R217)
  tprog    : List Nat := []           -- measured program times, newest first
  noRetain : Bool := false            -- retention suspended (R211)
  verifying : List Nat := []          -- channels whose members are being verify-read (R217)
  scrubAt  : Nat := 0                 -- elapsed time of the last scrub pass
  scrubLeft : List Nat := []          -- log addresses the scrub pass still has to read (R219)
  scrubOn  : List Nat := []           -- log addresses whose scrub read is in flight
  bad      : List Nat := []           -- bad and retired blocks: die stream × 2^14 + block (R196, R215)
  remap    : List (Nat × Nat) := []   -- remap table (R197): die stream × 2^14 + block, and the spare block in its place
  poisonDue : List Nat := []          -- record groups whose record page the next rill stripe rewrites (R204)
  recDue   : List (Nat × Nat) := []   -- stripe sequence and a group whose record page that stripe carries for it
  deriving DecidableEq, Repr

/-- What the refill sequencer works through (chapter 07). -/
structure RflState where
  draws    : List Draw := []
  deriving DecidableEq, Repr

/-! ## Logical devices, the sluice and the mailboxes (chapters 02, 11) -/

/-- Device states (Table 02-6). -/
inductive DevState where
  | off | training | refilling | serving | spilling | sealed | basin
  deriving DecidableEq, Repr

/-- LD states (Table 02-8). -/
inductive LdState where
  | unbound | refilling | serving | quiesced | spilling | sealed
  deriving DecidableEq, Repr

/-- One HDM decoder of an LD (R283): sizes in bytes, `skip` the DPA skip before it. -/
structure Dec where
  base  : Nat
  size  : Nat
  ways  : Nat
  gran  : Nat
  way   : Nat
  skip  : Nat
  lock  : Bool
  deriving DecidableEq, Repr

/-- A pending or complete checkpoint of an LD (chapter 05). -/
structure Ckpt where
  no       : Nat                   -- the model's own number of this cut among its LD's, never used twice
  id       : Nat
  cutBeat  : Nat
  cause    : Nat                   -- Table 05-6 cause code
  gen      : Nat                   -- generation of the checkpoint record
  retain   : Bool
  complete : Bool
  overWeir : Bool
  release  : Bool                  -- release deferred (R137)
  left     : List Nat              -- pages still owed to it
  recs     : List (Nat × PageRec)  -- the content at the cut: records of the pages it holds copies of (R133)
  dflt     : Nat                   -- what its other pages were (Ld.dflt)
  ext      : Nat × Nat             -- the LD's extent at the cut
  recAddr  : Option Nat            -- log key of its CKPT_RECORD once on flash
  doneBeat : Nat
  rings    : List (Nat × Nat)      -- ring and acceptance number of each CHECKPOINT_AT that waits for it
  recDue   : Bool                  -- its CKPT_RECORD is on its way to flash (R206)
  late     : Bool
  report   : Bool                  -- a SEAL_REPORT follows (plunge checkpoint, R52)
  forms    : List Nat              -- log addresses of its CKPT_MAP forms and of record pages written for it (R206)
  kept     : Bool                  -- a CHECKPOINT_AT descriptor asked for its retention (R137)
  named    : List Nat              -- record pages that its maps name and that were not written for it (R206, R208)
  old      : List Nat              -- forms that its newest ones, on their way to flash, replace (R209)
  moved    : Bool                  -- a relocation moved what its maps or its record name: they are due anew (R209)
  deriving DecidableEq, Repr

/-- What one tenant LD holds beside its registers. -/
structure Ld where
  st        : LdState := .unbound
  port      : Nat := 0
  ldId      : Nat := 0
  gen       : Nat := 0               -- role generation (R281), 32 bits
  extBase   : Nat := 0               -- 256 MiB units
  extSize   : Nat := 0
  classLast : Option Nat := none     -- class at last binding or extent (R30)
  decs      : List (Nat × Dec) := []
  prior     : LdState := .unbound    -- state left at T (R35)
  held      : Bool := false          -- HELD (R177)
  heldAtT   : Bool := false
  returned  : Bool := false          -- held, and returned to service by RFL_LD_GO (R177, R182)
  restoring : Bool := false          -- pages restoring after a rollback or sanitize (R192)
  quiesce   : Option Nat := none     -- time of the QUIESCE_LD being carried out (R34)
  unbinding : Bool := false          -- UNBIND_LD under way (R281)
  resetting : Bool := false          -- an LD reset waits for its accepted descriptors (R325)
  dsc       : Nat := 0               -- dirty shutdown count (R38)
  dscUp     : Bool := false          -- it has risen at the latest start (R39)
  owed      : Nat := 0               -- owed count (R117)
  cutSeq    : Nat := 0               -- cut sequence (R133), 32 bits
  cuts      : Nat := 0               -- cuts the LD has had (Ckpt.no)
  ckpts     : List Ckpt := []
  rollback  : Option Nat := none     -- number (Ckpt.no) of the checkpoint being rolled back to
  reach     : Bool := true           -- its port's link is up with the LD bound to it
  keyGen    : Nat := 0               -- key generation; a destroyed key advances it (R297, R319)
  resv      : Nat := 0               -- pages of room that ZERO_RANGE descriptors have reserved (R318)
  bwUsed    : Nat := 0               -- bytes admitted in the present beat (R288)
  waited5   : Bool := false          -- requests waited at step 5 in the present beat
  waited5L  : Bool := false          -- and in the last one (R289)
  dflt      : Nat := 0               -- what pages of the extent with no listed record are: 0 CLEAN, 1 UNFILLED, 2 POISONED, 3 VOLATILE, all LENGTH 0
  poisoned  : Bool := false          -- unlisted lines are poisoned (Table 07-5, POISON of a VOLATILE LD)
  mapSrc    : Nat := 0               -- RFL_LD_SRC (MODE, then 48 bits of VALUE) as its mapping found it (R177)
  incomplete : Bool := false         -- the image in force lacks some of its pages
  wasBound  : Bool := false          -- it has been bound before (R30)
  bindGen   : Nat := 0               -- highest generation number consumed when it was last bound (R175)
  saniGen   : Option Nat := none     -- and when SANITIZE_LD last destroyed its key (R319, Table 07-1)
  fromStart : Bool := false          -- its pages are still those a start mapped (R39)
  lad       : Nat := 0               -- ladder level 0 to 2 of the last beat boundary (R124)
  deriving DecidableEq, Repr

/-- Where a request waits in the sluice (Table 11-3). -/
inductive Step where
  | ingress                 -- 1: no tracker entry
  | ldState                 -- 3: SPILLING, SEALED, or a quiesce under way
  | order                   -- 4: behind an earlier request to its page
  | bandwidth                -- 5: bandwidth limit
  | draw                    -- 6: UNFILLED or DRAWING
  | weir (since : Nat)      -- 6: at the ladder (R125); time + 1, 0 once its bound has been counted
  | fork                    -- 6: fork copy under way
  | slot (since : Nat)      -- 6: no eddy slot (R127); as weir
  | pool                    -- 6: no free page-operation entry for its draw (R185)
  | wmb                     -- 7: write-merge buffer full (R247)
  | merge                   -- 7: partial write waiting for its line (R247)
  | dram                    -- 7: read at the DRAM channel
  deriving DecidableEq, Repr

/-- Kinds of CXL.mem request that hold an entry. -/
inductive ReqKind where
  | write | read
  deriving DecidableEq, Repr

/-- A request the sluice holds. `rid` numbers requests in arrival order. -/
structure Req where
  rid    : Nat
  port   : Nat
  ldId   : Nat
  ld     : Nat
  kind   : ReqKind
  hpa    : Nat
  dpa    : Nat
  data   : Line
  mask   : ByteMask
  poison : Bool
  tag    : Nat
  at_    : Step
  capped : Bool             -- it has waited at its LD's LD_CAP, and is counted (R287)
  deriving DecidableEq, Repr

/-- A CXL event record: `kind` 0 fault (Table 14-7), 1 DRAM event, 2 SEAL_REPORT (Table 11-8). -/
structure EvRec where
  handle : Nat
  kind   : Nat
  words  : List Nat
  deriving DecidableEq, Repr

/-- One event log of an LD (R299). -/
structure EvLog where
  recs     : List EvRec := []
  overflow : Nat := 0
  next     : Nat := 1
  deriving DecidableEq, Repr

/-- The mailbox state of one LD; key 32 is the FM-owned LD. -/
structure Mbx where
  logs     : List (Nat × EvLog) := []   -- 0 Informational, 1 Warning, 2 Failure, 3 Fatal
  policy   : BitVec 32 := 0
  alert    : Word := 0
  shutdown : Nat := 0
  scan     : List Nat := []             -- lines found by the last scan
  scanDone : Bool := false
  deriving DecidableEq, Repr

/-- A background operation (R295). -/
inductive BgOp where
  | transferFw | quiesce (ld : Nat) | unbind (ld : Nat) | sanitize (ld : Nat) | scan
  deriving DecidableEq, Repr

/-- The fabric side beside LDs and registers. -/
structure FabState where
  reqs     : List Req := []          -- requests held, in arrival order
  nextRid  : Nat := 0
  bg       : Option BgOp := none
  bgStep   : Nat := 0                -- configuration writes that have ended for a running Sanitize (R319)
  bgLast   : Nat := 0                -- opcode of the last background operation
  qosOther : List (Nat × Word) := [] -- other QoS Control fields by port (R289)
  gpf      : List Nat := []          -- ports with a GPF phase 2 draining (R40)
  devLoad  : List (Nat × Nat) := []  -- traffic DevLoad by port (R289)
  downAt   : List (Nat × Nat) := []  -- port: time + 1 its link went down (R396)
  devDsc   : Nat := 0                -- device dirty shutdown count (R38)
  dscUp    : Bool := false           -- it has risen at the latest start (R39)
  poison   : List Nat := []          -- pages of the poison list that are POISONED
  found    : List Nat := []          -- lines that Scan Media found and nothing has written whole since (R294)
  sanitized : Bool := false          -- FM Sanitize or Secure Erase since the last start (R297)
  granted  : List Nat := []          -- held writes whose bound let them pass the cap (R125), by `rid`
  deriving DecidableEq, Repr

/-! ## Command rings (chapter 12) -/

/-- Where an accepted descriptor stands. -/
inductive AccSt where
  | waiting      -- accepted, not begun
  | running      -- begun
  | done         -- completed; its entry not yet written
  deriving DecidableEq, Repr

/-- An accepted descriptor whose entry is not yet written (Table 12-8). -/
structure Acc where
  desc    : Descriptor
  idx     : Nat            -- SQ index
  order   : Nat            -- number of its acceptance
  tagWas  : Nat            -- TAG_HIGH in force before its acceptance (R311)
  st      : AccSt
  status  : Nat
  flags   : Nat
  result  : Nat
  pages   : List Nat       -- pages still to be done (R313, R318)
  count   : Nat            -- pages counted for RESULT
  cut     : Option Nat     -- boundary of a CHECKPOINT_AT whose cut has not passed
  step    : Nat            -- step reached (R139, R319)
  since   : Option Nat     -- time it began to wait for room (R126)
  resv    : Nat            -- pages of its reservation not yet used (R318)
  waits   : List (Nat × Nat × Nat)   -- pages that wait: page, 0 for room (R125) or 1 for a slot (R127), time + 1 or 0 once counted
  lines   : List (Nat × Nat × Nat)   -- pages under way: page, lines past step 5 of Table 11-3, lines written (R318)
  deriving DecidableEq, Repr

/-- One ring beside its registers. -/
structure Ring where
  fetched  : List (Nat × Descriptor) := []   -- fetched, not accepted
  fetching : Bool := false
  waitRes  : Option Nat := none    -- time the head descriptor began to wait at rule 5 (R307)
  accs     : List Acc := []        -- SQ order
  cqTail   : Nat := 0
  cqHead   : Nat := 0
  written  : Nat := 0              -- CQ entries written and not consumed
  phase    : Bool := true
  notices  : List (Nat × Nat) := []      -- waiting notices: status, result
  outNotes : List (Nat × Nat) := []      -- written notices not consumed: status, CQ entries ahead
  sqDb     : Nat := 0              -- last value taken for each doorbell
  cqDb     : Nat := 0
  keptSq   : Option Nat := none    -- kept while the engine does not run (R303)
  keptCq   : Option Nat := none
  lastTag  : Nat := 0              -- tag of the last entry written
  coal     : Nat := 0              -- entries written since the last signal
  coalAt   : Option Nat := none
  eventTail : Nat := 0
  shadowDue : Bool := false        -- the shadow block is being read after a batch of entries (R304)
  deriving DecidableEq, Repr

/-! ## Spill and the Elytra (chapter 06) -/

/-- What a seal says of one LD (Table 06-5), with what stage C saves of it. -/
structure SealLd where
  ld       : Nat
  inImage  : Bool
  complete : Bool
  newest   : Nat             -- NEWEST_CKPT
  newestNo : Nat             -- that checkpoint's number (Ckpt.no), 0 with none
  cutSeq   : Nat
  pages    : Nat
  cls      : Nat
  prio     : Nat
  overWeir : Bool
  poisoned : Bool            -- POISON_ADDED
  scope    : Nat
  group    : Nat
  keyGen   : Nat
  prior    : LdState
  held     : Bool
  unwritten : List Nat       -- owed pages the spill did not write
  ckpts    : List Ckpt
  dflt     : Nat
  owedT    : Nat             -- owed count at T
  deriving DecidableEq, Repr

/-- A sealed image: the seal record (Tables 06-4, 06-5) and what stage C and the log hold under it. -/
structure Seal where
  gen     : Nat
  prev    : Nat
  cut     : Nat
  origin  : Nat
  sealBeat : Nat
  cause   : Nat
  late    : Bool
  flags   : Nat
  lds     : List SealLd
  recs    : List (Nat × PageRec)      -- every listed page record at the cut
  rings   : List (Nat × Ring)         -- ring state (R147)
  tags    : List (Nat × Nat)          -- TAG_HIGH by ring key
  written : Nat
  stored  : Nat
  metaB   : Nat
  stripes : Nat
  key     : Nat                       -- log address of the seal stripe
  headAtT : Nat                       -- LOG_HEAD_AT_T
  metaKey : Nat                       -- log address of the first stage C stripe
  moduleId : Nat
  rootId  : Nat
  metas   : List Nat                  -- log addresses of its META forms (R205)
  index   : List (Nat × Nat)          -- its record index (META type 0x01)
  list    : List (Nat × Nat)          -- its stage B stripes: sequence, address of data member 0 (META type 0x02)
  deriving DecidableEq, Repr

/-- A page or eddy copy that a Scarab engine has transformed for the spill, until its turn in the order comes (R152). -/
structure SpillForm where
  page    : Nat
  slot    : Option Nat
  item    : Item
  src     : Nat              -- the Elytra whose copy of the command came first
  suspect : Bool             -- the copies of its command differed (R155)
  deriving DecidableEq, Repr

/-- The spill under way (R150). -/
structure SpillState where
  gen      : Nat := 0                 -- latched GENERATION
  usedGen  : Nat := 0                 -- highest number consumed (R166)
  cut      : Nat := 0
  origin   : Nat := 0
  cause    : Nat := 0
  late     : Bool := false
  ownCut   : Bool := false
  fromRefilling : Bool := false
  deficit  : Bool := false
  shortfall : Bool := false
  suspect  : Bool := false
  drained  : Bool := false
  taken    : Bool := false
  owedAtT  : List (Nat × Nat) := []
  allowAtT : List (Nat × Nat) := []
  order    : List (Nat × Nat × Option Nat) := []  -- stage B order still to issue: LD, page, eddy slot (R151)
  written  : List (Nat × Nat) := []   -- pages written by LD
  stored   : Nat := 0
  metaB    : Nat := 0
  poisoned : List Nat := []           -- LDs with POISON_ADDED
  rings    : List (Nat × Ring) := []
  sealedAt : Nat := 0                 -- beat the seal was programmed in
  railOff  : Bool := false
  abandoned : Bool := false
  suspects : List Nat := []           -- stripes under suspicion (R155)
  rewritten : List Nat := []          -- stripes in which a suspect stripe was written again (R155)
  roleGen  : Nat := 0                 -- role generation of flash channels and Scarab clusters (R149)
  wrote    : List (Nat × PageRec × Option Nat × List Nat) := []   -- copies on flash: page, record, eddy slot, cuts
  lost     : List (Nat × Nat) := []   -- pages made POISONED by the spill: LD, page (R160)
  sealTime : Nat := 0                 -- when SEALED was entered
  sealKey  : Option Nat := none       -- log address of the seal stripe
  metaKey  : Nat := 0                 -- log address of the first stage C stripe
  sealSeq  : Nat := 0
  issued   : Bool := false            -- the seal has been sent (R158)
  checkDue : Nat := 0                 -- SELF_CHECK due: 1 after a spill mismatch, 2 after a shadow one
  shadowAt : Nat := 0                 -- beat of the last shadow pass (R156)
  headAtT  : Nat := 0                 -- log head at T
  overAtT  : List Nat := []           -- LDs with an OVER_WEIR checkpoint pending at T
  list     : List (Nat × Nat) := []   -- stage B stripes on flash: sequence, address of data member 0
  metas    : List Nat := []           -- log addresses of the META forms on flash
  tail     : List (Nat × Nat × Option Nat) := []  -- items of the order that lie beyond an OVER_WEIR allowance (R136)
  asked    : List (Nat × Option Nat × Nat) := []   -- PAGE commands sent and not executed: page, eddy slot, cluster
  ready    : List SpillForm := []
  doubt    : List (Nat × Option Nat) := []   -- pages and eddy slots whose PAGE commands differed before one was executed (R155)
  void     : List (Nat × Option Nat × Nat) := []   -- of those, what is asked for anew once executed, and whose first copy that takes:
                                      -- Elytra 0 or 1, or 2 for either (R155)
  reasked  : List (Nat × Option Nat) := []   -- pages and eddy slots asked for anew (R155)
  twice    : Bool := false            -- what was asked for anew has differed again (R155)
  seqs     : List (Nat × Nat) := []   -- next SEQ by target, unlisted 1 (R153)
  sent     : List ElyFrame := []      -- commands of this spill as Elytra A sends them, oldest first
  sentS    : List ElyFrame := []      -- commands of the present shadow pass (R156)
  passLeft : List (Nat × Nat) := []   -- of those, by target and SEQ, what is still to be compared
  passOpen : Bool := false            -- the present shadow pass has no verdict yet (R159)
  progSent : List Nat := []           -- stripes whose PROGRAM commands are sent
  pageNo   : Nat := 0                 -- PAGE commands sent
  record   : Option Seal := none      -- the seal record that is being programmed
  deriving DecidableEq, Repr

/-- One Elytra beside ELY_STS. -/
structure Elytra where
  fenced   : Bool := false
  lastBeat : Nat := 0                 -- beat of its last heartbeat
  clean    : Nat := 0                 -- consecutive shadow passes without a mismatch (R159)
  fencing  : Bool := false            -- a granted fence has not reached every target
  firstOf  : List Nat := []           -- stripes whose first copy it sent
  rejoining : Bool := false           -- it was OUT and is not yet DUAL again: it sends no spill commands (R159)
  fenceTick : Nat := 0                -- µs in which its fence was granted (R157)
  deriving DecidableEq, Repr

/-- A sequence space of a target (R154): the spill's, or that of a shadow pass. -/
structure SeqSpace where
  next  : Nat := 1                    -- NEXT
  top   : Nat := 0                    -- highest sequence number seen ahead of NEXT
  hold  : List (ElyFrame × Nat × LineRead) := []   -- frames held, each with the DRAM read that its command carries
  kept  : List ElyFrame := []         -- the last 64 executed, oldest first
  gapAt : Option Nat := none          -- beat since which NEXT is missing
  deriving DecidableEq, Repr

/-- One target of Elytra commands (R154): the spill's sequence space and the shadow passes' (R156). -/
structure Target where
  spill  : SeqSpace := { }
  shadow : SeqSpace := { }
  deriving DecidableEq, Repr

/-! ## DRAM channels (chapter 10) -/

/-- What a request in a channel's queue is for. -/
inductive DKind where
  | read (rid : Nat)      -- a CXL.mem read of the sluice
  | fill (rid : Nat)      -- the line read of a partial write (R247)
  | write                 -- a line from the write-merge buffer
  | page (p : Nat) (w : Bool)   -- a line that a Scarab engine reads, or writes, for page p (Table 10-4)
  deriving DecidableEq, Repr

/-- A request in a channel's queue (R244): `line` is DPA ÷ 64, `port` the request port of Table 10-4. -/
structure DReq where
  kind  : DKind
  line  : Nat
  since : Nat
  port  : Nat
  ap    : Bool            -- hint AUTO_PRECHARGE (R245)
  deriving DecidableEq, Repr

/-- One subchannel. -/
structure Sub where
  queue   : List DReq := []          -- reads and writes waiting, in arrival order, at most 64 of each
  flight  : List DReq := []          -- reads issued, oldest first
  writing : Bool := false            -- write mode (R250)
  rows    : List (Nat × (Nat × Nat)) := []   -- open row and time of its last column command, by bank
  acts    : List (Nat × List (Nat × Nat)) := []   -- activate-count table by bank: row, count (R256)
  tries   : Nat := 0                 -- consecutive failed replay attempts (R266)
  replay  : Option Nat := none       -- logical rank whose commands are being replayed
  redo    : List (List Nat) := []    -- the commands of the present replay (R266), as in `hist`
  again   : List (List Nat) := []    -- those of them still to be issued in the present attempt
  wrote   : List (Nat × Nat) := []   -- the last 64 writes issued: time, line
  raa     : List (Nat × Nat) := []   -- rolling activate count by bank, where refresh management is required (R257)
  hist    : List (List Nat) := []    -- retry buffer, oldest first: clock, command, rank, BG, BA, address, time
  deriving DecidableEq, Repr

/-- One channel beside its DRC_ registers. -/
structure Chan where
  subs     : List (Nat × Sub) := []
  wmb      : List (Nat × Nat × Nat × Bool) := []   -- write-merge buffer: line, and time, port and hint of its oldest write,
                                         -- oldest first (R244, R245, R247)
  frozenAt : Option Nat := none          -- time of the third failed attempt (R267)
  cool     : Nat := 0                    -- consecutive polls with every device at 85 °C or less (R253)
  owes     : List (Nat × Nat) := []      -- refreshes postponed by logical rank (R254)
  down     : List Nat := []              -- logical ranks in power-down (R258)
  ce       : List (Nat × Nat × Nat) := []    -- corrected symbols: time, key (subchannel, rank, device), count (R263)
  eyes     : List (Nat × Nat) := []      -- eye samples of a rank toward its next estimate (R271)
  eyeAge   : List (Nat × Nat) := []      -- samples the channel took since a rank's estimate was published
  drift    : List (Nat × Int) := []      -- write DQS delay moved, in steps, by rank (R270)
  geom     : Nat := 0                    -- DRC_GEOM in force (R239): log2 ranks + 4 × log2 stack + 16 × X8 + 32 × D32 + 64 × RATE
  trfc     : Nat := 0                    -- TRFC_NS of DRC_TIMING in force (R239)
  lastReq  : List (Nat × Nat) := []      -- time a request of a logical rank was last queued or issued (R258)
  hotPlan  : Bool := false               -- the beat's plan refreshes at the hot interval (R252, R253)
  lastRef  : List (Nat × Nat) := []      -- colony time + 1 of the last refresh slot of a logical rank, before any shift (R252)
  busy     : List (Nat × Nat) := []      -- time until which a logical rank is in refresh (R252, R255)
  xsUntil  : Nat := 0                    -- time until which its ranks leave self-refresh (R254, R259)
  rhAt     : Nat := 0                    -- time its activate-count tables were last cleared (R256)
  hostLine : List (Nat × Nat × Nat) := []   -- line that host traffic last read from a logical rank, and its beat (R271)
  eyeTurn  : Nat := 0                    -- logical rank whose turn to be sampled comes next (R271)
  trained  : List (Nat × Nat) := []      -- trained setting of a logical rank: the number of the training that found it (R269, R272)
  trainings : Nat := 0                   -- trainings of the channel so far
  scrubbed : List Nat := []              -- lines read in the present scrub period (R265)
  scrubAt  : Nat := 0                    -- when that period began
  deriving DecidableEq, Repr

/-! ## Rails and power domains (chapters 15 and 16) -/

/-- One rail beside its PSQ_ registers: lengths of its present runs of samples (R385). -/
structure Rail where
  low     : Nat := 0
  high    : Nat := 0
  inside  : Nat := 0
  goodRun : Nat := 0          -- consecutive good scans of the present power-up (R382)
  timed   : Bool := false     -- its deadline of the present power-up has passed
  leaving : Bool := false     -- being switched off, or switched off (R383)
  judged  : Bool := false     -- good once, or past its deadline, since it was switched on
  onS     : Nat := 0          -- slots, timeout and class in force (R392)
  offS    : Nat := 0
  tmo     : Nat := 0
  cls     : Nat := 0
  deriving DecidableEq, Repr

/-- The sequencer beside its registers. -/
structure PsqState where
  rails   : List (Nat × Rail) := []
  startAt : Nat := 0                 -- start event of the running sequence
  failed  : Bool := false            -- the running power-down follows a failed power-up (R382)
  retryAt : Option Nat := none       -- when the failed power-up's power-down completed
  detect  : Bool := false            -- a detection beat has come: DRAM-class samples count (R387)
  okSince : List (Nat × Nat) := []   -- reset outputs (8 the core reset) whose condition holds: since
  holdRec : Option Nat := none       -- journal sequence of the hold-up record (R391)
  por     : Bool := false            -- the power-on reset of core power is asserted (R450)
  deriving DecidableEq, Repr

/-- One power domain beside PDM_MODE. -/
structure Dom where
  pend     : Option (Nat × Nat) := none   -- pending request: mode, class
  since    : Nat := 0                     -- time of its WAIT
  window   : Option (Nat × Nat) := none   -- mode and class in the commit window
  next     : Option (Nat × Nat) := none   -- request that acts after the switch (R398)
  wakeNext : Bool := false                -- a level wake source acts after the switch (R404)
  waking   : Bool := false                -- returning to ON, not yet ready (R401)
  wasOff   : Bool := false                -- it returns from OFF
  isolated : Bool := false                -- held by fault isolation
  mode     : Nat := 0                     -- 0 ON, 1 RETENTION, 2 OFF: where its switch stands
  modeAt   : Nat := 0                     -- time up to which its residency is counted (R406)
  winAt    : Nat := 0                     -- time its idle point was reached (R397)
  wakeAt   : Nat := 0                     -- time of its wake event (R401)
  deriving DecidableEq, Repr

/-! ## The cistern (chapter 04) -/

/-- A copy of a pack's learned record (R96). HEALTH follows from the learned capacity (R93) and is not kept twice. -/
structure LRec where
  q      : Nat            -- learned capacity, µAh
  cycles : Nat
  loadF  : Nat
  z      : List Nat       -- impedance table, 40 entries of 10 µΩ
  seq    : Nat
  deriving DecidableEq, Repr

/-- One battery pack beside its CIS_ registers. Charge is in results of the shunt converter (R87). -/
structure Pack where
  q       : Nat := 0            -- learned capacity, µAh
  qDes    : Nat := 0            -- Q_DESIGN, µAh, from the last valid OCV table (R463)
  count   : Int := 0            -- charge count, 48 bits signed (R87)
  cur     : Int := 0            -- last shunt conversion
  resid   : Int := 0            -- charge not yet a step of SOC (R88)
  dis     : Nat := 0            -- charge discharged since the last CYCLES increment (R96)
  restAt  : Option Nat := none  -- time the current fell below C/50
  uncAt   : Nat := 0            -- time of the last anchor, insertion or growth of SOC_UNC (R89)
  heldAt  : Nat := 0            -- time PKp_PRES_N went low (R86)
  swapDue : Bool := true        -- SWAP_POLICY applies at the next start (R107, R464)
  stopped : Bool := false       -- CHG_TARGET was reached (R104)
  pulse   : Option Nat := none  -- light pulse since (R97)
  pulseAt : Option Nat := none  -- time of the last light pulse
  zSaved  : List Nat := []      -- impedance entries as last written to flash
  zAt     : Option Nat := none  -- time of the last flash write for impedance
  chrysR  : Option LRec := none -- copy in chrysalis memory
  flashR  : Option LRec := none -- copy in the configuration region
  recDue  : Bool := false       -- a flash write of the record is due
  fullAt  : Option Nat := none  -- current below C/20 at the full voltage since (R94)
  full    : Bool := false
  inCal   : Bool := false       -- takes part in the calibration
  calOut  : Int := 0            -- Q_out
  calN    : Nat := 0            -- conversions during the discharge
  calTemp : Bool := false       -- left 10 °C to 45 °C during it (R92)
  vIn     : Option Nat := none  -- voltage at its insertion, while SWAP_POLICY has still to be applied (R107)
  v0      : Nat := 0            -- at the start of the rehearsal (R98)
  i0      : Int := 0            -- mA
  deriving DecidableEq, Repr

/-- The cistern's own state. -/
structure CisState where
  packs    : List (Nat × Pack) := []
  calPack  : Nat := 0
  pauseFm  : Bool := false
  pauseT   : Bool := false
  pausedAt : Option Nat := none
  longPause : Bool := false       -- an interruption lasted longer than 10 minutes (R92)
  rehReq   : Bool := false        -- GO waits (R98)
  rehRetry : Option Nat := none   -- time of the last failed start
  rehFrom  : Option Nat := none   -- beat from which P_SPILL × 2 s is deducted
  rehAt    : Option Nat := none   -- time it started
  rehLoad  : Bool := false        -- load raised to spill level
  rehEnd   : Option (Nat × List Int × List Int) := none   -- power in 0.1 W, voltages, currents: to be published
  rehLast  : Nat := 0             -- elapsed µs of the last completed rehearsal
  alarmDone : Bool := false       -- CIS_ALARM has been reached since it was written (R112)
  deriving DecidableEq, Repr

/-! ## Start and update (chapter 13) -/

/-- An LD's place as the configuration region keeps it (R282): bound or not, port, LD-ID and extent. -/
structure Binding where
  ld      : Nat
  bound   : Bool
  port    : Nat
  ldId    : Nat
  extBase : Nat
  extSize : Nat
  deriving DecidableEq, Repr

/-- One half of a configuration copy (R232): its SEQ, the RWB fields it holds by bit address, the default impedance table
(R107), the protection table by bit address (R233), the digest of the password (R234), its STATE word, whether its header and
content CRCs pass, whether it counts until the next start, and the place of every LD that has one (R282). -/
structure CfgHalf where
  seq    : Nat
  fields : List (Nat × Nat)
  zTable : List Nat
  prot   : List (Nat × Nat)
  digest : Option (List (BitVec 64))
  state  : BitVec 32
  crcOk  : Bool
  live   : Bool           -- the last start, or the KX7180's own write since, found it usable
  binds  : List Binding
  deriving DecidableEq, Repr

/-- What validation found (R173 to R176), kept from stage 6 for the mapping: the sealed image when the newest generation is
sealed and not rejected, the reason when it is not, the LDs whose key does not unwrap, and whether R191 applies. -/
structure Found where
  img      : Option Seal
  reason   : Nat
  keysFail : List Nat
  empty    : Bool
  lostCkpts : List (Nat × Nat)      -- LD and identifier of checkpoints whose CKPT_RECORD cannot be read (R175)
  deriving DecidableEq, Repr

/-- An open or propagating transfer (R347 to R349). -/
structure Xfer where
  lastAt : Nat                          -- time of the last part
  last   : Option (Nat × Nat × Word)    -- its offset, length and content digest
  img    : Option Image                 -- the image, once End has checked it
  left   : List Nat                     -- copies still to be written, the present one first
  deriving DecidableEq, Repr

/-- What the loader and the start keep beside the BOOT_ registers. -/
structure BootState where
  copies  : List (Nat × Image) := []    -- boot copies by number, unlisted blank
  byPort  : List Nat := []              -- copies the maintenance port has written since they were last checked
  loaded  : Option Image := none        -- the image the housekeeper runs; none: its ROM
  kind    : Nat := 0                    -- kind of the running or last start (Table 13-1)
  startAt : Nat := 0                    -- when its resets were released
  found   : Option Found := none
  xfer    : Option Xfer := none
  repair  : List Nat := []              -- copies to be rewritten, the present one first (R338)
  retried : Bool := false               -- its rewrite has failed once
  xip     : Option Nat := none          -- boot copy of the fetch mapping (R236, R344)
  hist    : List (Nat × Nat × Nat × Nat × Nat) := []   -- BOOT_HIST as written to the configuration region, newest first
  resv    : Nat := 256                  -- RESV_MB in force: the FM-defined area of the last TRAINING (LOG_CFG)
  spares  : Nat := 48                   -- SPARE_BLOCKS in force: of the last TRAINING (LOG_CFG)
  romVer  : Nat := 0                    -- ROM microcode version
  outBeat : Nat := 0                    -- beat in which the device last left service: T of a spill, or a warm reset (R314)
  locate  : Bool := true                -- the last loss of core power found chrysalis memory without content (R173)
  deriving DecidableEq, Repr

/-! ## The maintenance port (chapter 09) -/

/-- A plane page as the port programmed it: bytes by offset in the buffer's order (data, then spare from 0x4000), what its
other bytes read as (`base` of the data, `spareBase` of the spare bytes; see FlmState.base), and programs since its erase
(R231). -/
structure RawPage where
  bytes     : List (Nat × Byte)
  base      : Nat
  spareBase : Nat
  progs     : Nat
  deriving DecidableEq, Repr

/-- A port program or erase under way (R229): the page, word or block it works on, and what a program stores. -/
structure FlmOp where
  opcode : Nat
  ds     : Nat
  key    : Nat
  value  : BitVec 32
  page   : RawPage
  issued : Bool          -- the die has it
  deriving DecidableEq, Repr

/-- The port beside the FLM_ registers. Unlisted bytes read as a base says: 0 zeros, 1 all ones, k + 2 the content drawn at
draw k. -/
structure FlmState where
  buf       : List (Nat × Byte) := []         -- the port buffer by offset
  base      : Nat := 0                        -- of the data bytes, offsets below 0x4000
  spareBase : Nat := 0                        -- of the spare bytes
  raw       : List (Nat × RawPage) := []      -- plane pages the port programmed (unlisted erased)
  filled    : List Nat := []                  -- boot region blocks whose content the port does not know
  words     : List (Nat × BitVec 32) := []    -- words of word areas, by page and word (unlisted all ones)
  nops      : List (Nat × Nat) := []          -- word programs of a page by the port since its erase
  keyAt     : Nat := 0                        -- time of the first key write
  cmdAt     : Nat := 0                        -- time the running command started
  readTill  : Nat := 0                        -- time until which the last READ command is BUSY (R225)
  password  : Option (List (BitVec 64)) := none   -- SHA-384 digest of the password set (R234)
  session   : Option Nat := none              -- time the protection session opened
  op        : Option FlmOp := none
  deriving DecidableEq, Repr

/-! ## The two-wire target (chapter 17) -/

/-- The target beside the TWB_ registers. -/
structure TwbState where
  nakAt  : Option Nat := none          -- first start that found domain 7 not ON (R413)
  cur    : Option Nat := none          -- address of the transaction being received
  stopAt : Option Nat := none          -- its stop, until AWAKE_MS has passed (R414)
  parts  : List (Nat × Nat) := []      -- messages being reassembled: source, bytes so far (R418)
  queue  : List Instr := []            -- complete FM API messages, at most 4
  tx     : Option (Nat × Nat) := none  -- packet that lost arbitration: retries so far, time of the first loss (R417)
  waiting : Nat := 0                   -- MCTP messages that wait to be sent
  deriving DecidableEq, Repr

/-! ## The whole -/

/-- The state of the KX7180. The queue of waiting commands is `pending`, first in first out. -/
structure State where
  pending : List Instr := []
  now : Nat := 0 -- always-on time since VAON appeared, ns
  colTime : Nat := 0 -- colony time, ns (R4, R11)
  beat : Nat := 0 -- number of the last beat boundary processed
  freeCtr : Nat := 0 -- the model's own counter of free values drawn
  out : List Out := [] -- what left the device, oldest first
  regs : List (Nat × Nat) := [] -- register fields by bit address (Table 18-8), unlisted at their reset value
  staged : List (Nat × Nat) := [] -- staged RWB fields by bit address (R432)
  captured : List (Nat × List (Nat × Nat)) := [] -- staged set of each COMMIT register as it stood at its last write (R433)
  commitHeld : List Nat := [] -- COMMIT registers written while SPILLING or SEALED, held (R170)
  snaps : List (Nat × Nat) := [] -- snapshots of 64-bit registers by offset (R436, R437)
  heldLow : List (Nat × Nat) := [] -- held low halves by offset (R429)
  cfgHalf : List (Nat × CfgHalf) := [] -- halves of the configuration region: 2 × copy + half (R232), unlisted erased
  cfgDue : Option Nat := none -- time of the first accepted set not yet written (R435)
  dev : DevState := .off -- device state (R31)
  col : ColState := { }
  tx : List (Nat × TxPort) := [] -- Thobor transmitters by port (R51)
  flt : FltState := { }
  fab : FabState := { }
  lds : List (Nat × Ld) := [] -- tenant LDs by number
  mbx : List (Nat × Mbx) := [] -- mailbox state by LD, 32 the FM-owned LD
  pages : List (Nat × PageRec) := [] -- page records (R114), unlisted as their LD's default
  dram : List Host.Cell := [] -- DRAM content by device physical address, unlisted bytes 0
  poison : List (Nat × Bool) := [] -- poisoned lines by DPA ÷ 64, unlisted as their LD's default
  flash : List (Nat × Form) := [] -- stored forms on flash by log address (R200)
  recIdx : List (Nat × Nat) := [] -- record index: log address of the newest record page by group (R205), unlisted 0
  stripesOn : List (Nat × FStripe) := [] -- stripes on flash by sequence (R203)
  eddy : List (Nat × Eddy) := [] -- eddy slots in use
  rill : RillState := { }
  log : LogState := { }
  rfl_ : RflState := { }
  rings : List (Nat × Ring) := [] -- ring n of LD ld at 256 ld + n
  accSeq : Nat := 0 -- ring commands accepted so far
  rngAt : Nat := 0 -- key of the ring whose turn to fetch came last (R308)
  molt : Option Nat := none -- time the service pause of a molt began (R351)
  spill : SpillState := { }
  sealedImg : Option Seal := none -- the newest sealed image as flash holds it (R165)
  elys : List (Nat × Elytra) := [] -- Elytra 0 (A) and 1 (B)
  targets : List (Nat × Target) := [] -- command targets of the Elytra by TARGET (Table 06-3)
  chans : List (Nat × Chan) := [] -- DRAM channels by number
  mapGrain : Nat := 0 -- GRAIN of DRC_MAP in force (R239)
  mapHash : Bool := true -- HASH_EN of DRC_MAP in force (R239)
  reservePm : Nat := 20 -- RESERVE_PM of EDDY_CFG in force, 0.1 % (R140)
  psq : PsqState := { }
  doms : List (Nat × Dom) := [] -- power domains by number
  pdmLock : Bool := false -- a spill trigger was detected and the device has not left SEALED since (R400)
  vaonAt : Nat := 0 -- time VAON last appeared (R109)
  chrys : Bool := false -- chrysalis memory holds what the chapters place there
  chrysPsq : List (Nat × Nat) := [] -- the copy of the PSQ_ fields in chrysalis memory, by bit address (R392)
  timeLost : Bool := true -- domain 0 lost power since the last start (R110, R447)
  cis : CisState := { }
  boot : BootState := { }
  flm : FlmState := { }
  twb : TwbState := { }
  deriving DecidableEq, Repr

/-- The machine when VAON has just appeared (R442, R447): every register at its Reset column value, the device OFF,
nothing queued. Log entry 3. -/
def State.reset : State := { }

end Sys2Proof.Machine
end

