-- ==== Sys2Proof/Machine/Flags.lean ====
section
/-! DEFINITION. Register fields as the units read and set them (R2), and the flags that go with counters: saturation and
overflow (R438). -/

namespace Sys2Proof.Machine

/-! ## Register fields -/

/-- The value a register field holds. -/
def State.fget (s : State) (f : Field) : Nat := tabGet f.reset f.bit s.regs

/-- A field takes a value, cut to its width. -/
def State.fset (s : State) (f : Field) (v : Nat) : State :=
  { s with regs := tabSet f.reset f.bit (v % 2 ^ f.width) s.regs }

/-- Largest value of a field. -/
def Field.max (f : Field) : Nat := 2 ^ f.width - 1

/-- A one-bit field reads 1. -/
def State.on (s : State) (f : Field) : Bool := s.fget f == 1

/-- A one-bit field takes a truth value. -/
def State.fput (s : State) (f : Field) (b : Bool) : State := s.fset f (if b then 1 else 0)

/-- A field takes a value that stops at all ones instead of wrapping. -/
def State.fsat (s : State) (f : Field) (v : Nat) : State := s.fset f (min v f.max)

/-- An event counter with a companion SAT bit rises by `n` (R438). -/
def State.bump (s : State) (cnt sat : Field) (n : Nat := 1) : State :=
  if s.fget cnt + n ≤ cnt.max then s.fset cnt (s.fget cnt + n)
  else (s.fset cnt cnt.max).fset sat 1

/-- A counter with a companion OVF bit rises by `n` and wraps (R438). -/
def State.wrap (s : State) (cnt ovf : Field) (n : Nat := 1) : State :=
  if s.fget cnt + n ≤ cnt.max then s.fset cnt (s.fget cnt + n)
  else (s.fset cnt ((s.fget cnt + n) % 2 ^ cnt.width)).fset ovf 1

/-- A saturating counter with no companion bit rises by `n` (R438). -/
def State.satUp (s : State) (cnt : Field) (n : Nat := 1) : State := s.fsat cnt (s.fget cnt + n)

/-- A signed value as a field of `w` bits stores it. -/
def toField (w : Nat) (i : Int) : Nat := (i % (2 ^ w : Nat)).toNat

/-- A field of `w` bits read as two's complement. -/
def ofField (w v : Nat) : Int := if v < 2 ^ (w - 1) then (v : Int) else (v : Int) - (2 ^ w : Nat)

end Sys2Proof.Machine
end

