-- ==== Sys2Proof/Machine/Ops.lean ====
section
/-! DEFINITION. The operations every unit shares: colony time (R4, R11),
what leaves the device, fault messages (R354 to R357), event records (R299) and the journal's intake (R372). -/

namespace Sys2Proof.Machine

/-! ## Output -/

/-- Something leaves the device. -/
def State.emit (s : State) (o : Out) : State := { s with out := s.out ++ [o] }

/-- Several things leave the device, in order. -/
def State.emits (s : State) (os : List Out) : State := { s with out := s.out ++ os }

/-! ## Time -/

/-- One beat of colony time, ns (R4). -/
def beatNs : Nat := 8192

/-- The beat number on the module's own colony time (R11, R70). -/
def State.curBeat (s : State) : Nat := s.colTime / beatNs

/-- Units of colony time, 1/128,000,000 ns, that pass in a ns of the always-on clock: at the trim in force, and with the slew
spread over the beat (R53). -/
def State.colRate (s : State) : Int := 128000000 + 2 * s.col.trim64 + 15625 * s.col.slew

/-- A Thobor transmitter. -/
def TxPort.new : TxPort := { }
def State.txPort (s : State) (p : Nat) : TxPort := tabGet TxPort.new p s.tx
/-- The oldest pending frame of the lowest-numbered class (R51). -/
def TxPort.next (x : TxPort) : Option Frame :=
  x.wait.foldl (fun best f => match best with
    | none => some f
    | some b => if f.cls < b.cls then some f else some b) none
/-- Colony time at a moment of the always-on clock not after the present one, at the rate in force. -/
def State.timeAt (s : State) (t : Nat) : Nat := ((s.colTime : Int) - ((s.now - t : Nat) : Int) * s.colRate / 128000000).toNat
/-- A transmitter as a frame starts at `at_` with colony time `t`, `rest` waiting on: the time t3 of a FIREFLY is kept, of the last 4
(R53; DESIGN CHOICE, log entry 92). -/
def TxPort.start (x : TxPort) (f : Frame) (at_ t : Nat) (rest : List Frame) : TxPort :=
  { freeAt := at_ + f.ns
    wait := rest
    t3 := match f.fireflySeq with
      | some q => ((q, t % 2 ^ 32) :: x.t3).take 4
      | none => x.t3 }
/-- A frame starts on the line of a port at a moment not after the present one (R51): it carries the colony time of that moment where
Table 03-5 gives it one. -/
def State.startFrame (s : State) (p : Nat) (f : Frame) (at_ : Nat) (rest : List Frame) : State :=
  let t := s.timeAt at_
  ({ s with tx := tabSet TxPort.new p ((s.txPort p).start f at_ t rest) s.tx } : State).emit (.frame p (f.stamped t))
/-- A transmitter whose line is free sends its next frame (R51). -/
def State.txStep (s : State) (p : Nat) : State :=
  let x := s.txPort p
  match x.next with
  | some f => if x.freeAt ≤ s.now then s.startFrame p f x.freeAt (x.wait.erase f) else s
  | none => s
/-- Frames whose turn has come by now go out. -/
def State.txDrain (s : State) : State :=
  s.tx.foldl (fun s e => forUpto e.2.wait.length (fun _ s => s.txStep e.1) s) s
/-- A frame is handed to a port's transmitter: it goes out at once on a free line, and waits its turn otherwise (R51). -/
def State.sendFrame (s : State) (p : Nat) (f : Frame) : State :=
  let x := s.txPort p
  if x.wait.isEmpty && decide (x.freeAt ≤ s.now) then s.startFrame p f s.now []
  else { s with tx := tabSet TxPort.new p { x with wait := x.wait ++ [f] } s.tx }

/-- Time passes: `dt` ns of the always-on clock; colony time runs at its rate (R53), and frames that waited go out (R51). -/
def State.elapse (dt : Nat) (s : State) : State :=
  let raw : Int := (dt : Int) * s.colRate + s.col.frac
  ({ s with
    now := s.now + dt
    colTime := s.colTime + (raw / 128000000).toNat
    col := { s.col with frac := raw % 128000000 } } : State).txDrain

/-- The elapsed-time counter, µs since VAON (R108). -/
def State.nowUs (s : State) : Nat := (s.now - s.vaonAt) / 1000

/-! ## Device state -/

/-- The STATE codes of Table 02-6. -/
def DevState.code : DevState → Nat
  | .off => 0 | .training => 1 | .refilling => 2 | .serving => 3 | .spilling => 4 | .sealed => 5 | .basin => 6

/-- The LD state codes of Table 02-8. -/
def LdState.code : LdState → Nat
  | .unbound => 0 | .refilling => 1 | .serving => 2 | .quiesced => 3 | .spilling => 4 | .sealed => 5

/-- REFILLING or SERVING: the sluice is open. -/
def State.isOpen (s : State) : Bool := s.dev == .refilling || s.dev == .serving

/-- SPILLING or SEALED. -/
def State.isCut (s : State) : Bool := s.dev == .spilling || s.dev == .sealed

/-- The device changes state, and SPL_STATE shows it (R31). -/
def State.setDev (s : State) (d : DevState) : State :=
  ({ s with dev := d } : State).fset Fld.SPL_STATE.STATE d.code

/-- BASIN, or a TRAINING that offers the services of Table 13-4 in its place (R341). -/
def State.basinLike (s : State) : Bool := s.dev == .basin || (s.dev == .training && s.on Fld.BOOT_STS.BASIN_DEFERRED)

/-- Blocks whose registers may be written in Basin mode (Table 13-4): BOOT_, FLM_ and TWB_; with the recovery code also CIS_,
PSQ_, PDM_ and FLT_. -/
def State.basinBlock (s : State) (off : Nat) : Bool :=
  let b := off / 65536
  b == 0x1E || b == 0x15 || b == 0x1F ||
  (s.on Fld.BOOT_STS.RECOVERY_XIP && (b == 0x1A || b == 0x1B || b == 0x1C || (b == 0x1D && decide (off % 65536 < 0x8000))))

/-- A register at an offset of the FM-owned LD's BAR0 may be written: the device is on, and Table 13-4 allows its block. -/
def State.fmWritable (s : State) (off : Nat) : Bool := s.dev != .off && (!s.basinLike || s.basinBlock off)

/-- The effect of a command that is a write to the register at an offset. -/
def State.viaReg (s : State) (off : Nat) (f : State → State) : State := if s.fmWritable off then f s else s

/-- A register access over the two-wire path is refused and counted (R421). -/
def State.deny (s : State) : State := s.bump Fld.TWB_CNT_C.DENIED Fld.TWB_CNT_C.DN_SAT

/-! ## Logical devices and mailboxes -/

/-- An LD at the values of a part that has never been configured. -/
def Ld.new : Ld := { }
/-- The mailbox state at reset. -/
def Mbx.new : Mbx := { }

/-- LD `n`. -/
def State.ld (s : State) (n : Nat) : Ld := tabGet Ld.new n s.lds
/-- LD `n` becomes `l`. -/
def State.setLd (s : State) (n : Nat) (l : Ld) : State := { s with lds := tabSet Ld.new n l s.lds }
/-- LD `n` changes. -/
def State.modLd (s : State) (n : Nat) (f : Ld → Ld) : State := s.setLd n (f (s.ld n))
/-- Every tenant LD number (R277). -/
def allLds : List Nat := List.range 32
/-- The persistence class of an LD (Table 02-5): 0 PERSISTENT, 1 CHECKPOINTED, 2 VOLATILE. -/
def State.cls (s : State) (n : Nat) : Nat := s.fget (Fld.SLU_LD_PCFG.CLASS n)
/-- The LD is bound. -/
def State.bound (s : State) (n : Nat) : Bool := (s.ld n).st != .unbound
/-- The LD enters a state, and SLU_LD_BIND shows it. -/
def State.setLdState (s : State) (n : Nat) (st : LdState) : State :=
  (s.modLd n (fun l => { l with st := st })).fset (Fld.SLU_LD_BIND.STATE n) st.code

/-- Mailbox state of key `k` (32 the FM-owned LD). -/
def State.mb (s : State) (k : Nat) : Mbx := tabGet Mbx.new k s.mbx
/-- Mailbox state of key `k` changes. -/
def State.modMb (s : State) (k : Nat) (f : Mbx → Mbx) : State :=
  { s with mbx := tabSet Mbx.new k (f (s.mb k)) s.mbx }
/-- The FM-owned LD's key. -/
def fmLd : Nat := 32
/-- The key of a mailbox. -/
def mboxKey : Mbox → Nat
  | .fm => fmLd
  | .tenant n => n

/-! ## Event records (R299) -/

/-- The event MSI-X vector of an LD: 256 on a tenant LD (R332), the only one of the FM-owned LD (R427). -/
def eventVector (k : Nat) : Nat := if k = fmLd then 0 else 256

/-- The UUIDs of the two vendor records, in the order they are written (Tables 14-7, 11-8). -/
def faultUuid : List Nat :=
  [0xC9, 0x3F, 0x6A, 0x08, 0x2D, 0x51, 0x47, 0xBE, 0x9E, 0x0C, 0x8B, 0x4A, 0x71, 0xF5, 0xD2, 0xE6]
def sealUuid : List Nat :=
  [0x7A, 0x1E, 0x55, 0xC2, 0x9B, 0x04, 0x4D, 0x1F, 0xB6, 0xA3, 0x5E, 0x2C, 0x0D, 0x9F, 0x44, 0x71]
/-- What Get Event Records answers of a record: of a vendor record its UUID, bytes 0x00 to 0x0F, and its bytes 0x30 to 0x7F (Tables
14-7, 11-8); of a DRAM Event Record, whose layout is the standard's, the values it is made from. The standard's header fields
between are left out but for the handle (log entry 114). -/
def EvRec.bytes (r : EvRec) : List Nat :=
  match r.kind, r.words with
  | 0, [msg, sev, reactions, dev, lost, beat, jseq] => faultUuid ++ leBytes 8 msg ++ leBytes 1 sev ++ leBytes 1 reactions ++
    leBytes 1 dev ++ [0] ++ leBytes 4 lost ++ leBytes 8 beat ++ leBytes 8 jseq ++ List.replicate 48 0
  | 2, [flags, origin, root, cut, gen, inc, beat] => sealUuid ++ [1] ++ leBytes 1 flags ++ leBytes 2 (origin % 2 ^ 14) ++
    leBytes 2 (root % 2 ^ 14) ++ [0, 0] ++ leBytes 8 (cut % 2 ^ 48) ++ leBytes 8 gen ++ leBytes 4 inc ++ [0, 0, 0, 0] ++
    leBytes 8 beat ++ List.replicate 40 0
  | _, ws => ws

/-- A new record enters one event log of an LD: a full log of 256 records drops it and counts the overflow. It
raises the event vector under the event interrupt policy, whose byte for the log holds the mode in bits 1:0, 1 being
MSI. -/
def State.postEvent (s : State) (k log kind : Nat) (words : List Nat) : State :=
  let m := s.mb k
  let l := tabGet ({ } : EvLog) log m.logs
  let full := decide (256 ≤ l.recs.length)
  let l' := if full then { l with overflow := l.overflow + 1 }
    else { l with recs := l.recs ++ [EvRec.mk l.next kind words], next := l.next + 1 }
  let s := s.modMb k (fun m => { m with logs := tabSet ({ } : EvLog) log l' m.logs })
  if !full && (m.policy.toNat / 2 ^ (8 * log)) % 4 == 1 then s.emit (.msix k (eventVector k)) else s

/-! ## Fault messages (R354 to R357) -/

/-- The fault collector's own state changes. -/
def State.modFlt (s : State) (f : FltState → FltState) : State := { s with flt := f s.flt }
/-- The colony's own state changes. -/
def State.modCol (s : State) (f : ColState → ColState) : State := { s with col := f s.col }
/-- The fabric's own state changes. -/
def State.modFab (s : State) (f : FabState → FabState) : State := { s with fab := f s.fab }

/-- A message of source `src` is counted in LOST: in FLT_SRC_CNT, and in the counts of the present beat that the
storm summary takes (R357, R358, R374). -/
def State.countLost (s : State) (src : Nat) : State :=
  (s.bump (Fld.FLT_SRC_CNT.LOST src) (Fld.FLT_SRC_CNT.LOST_SAT src)).modFlt
    (fun f => { f with lostBeat := tabSet 0 src (tabGet 0 src f.lostBeat + 1) f.lostBeat })

/-- A checker writes its message (R357): into its source's holding register, or to LOST when that is full. Sources that
are never sent (R355) send nothing. -/
def State.sendMsg (s : State) (src kind addr : Nat) (cleared injected : Bool) : State :=
  if !Rst.sent src then s
  else if s.flt.hold.any (fun e => e.1 == src) then s.countLost src
  else s.modFlt (fun f => { f with
    hold := tabIns src (FMsg.mk src kind addr s.isCut injected cleared) f.hold })

/-- What a checker of source `src` examines is a codeword whose check bits the armed injection inverts (R369): its unit, its
class and WEIGHT, and for a DRAM MEDIA target its line. -/
def State.injects (s : State) (src addr : Nat) : Bool :=
  let k := src % 8
  let w := s.flt.injWeight
  let c := s.flt.injClass
  decide (0 < s.fget Fld.FLT_INJ_STS.LEFT) && src / 8 == s.flt.injUnit &&
  ((c == 0 && k == w) || (c == 1 && k == 2) || (c == 2 && k == 5 + w)) &&
  (!(c == 2 && decide (32 ≤ src / 8) && decide (src / 8 ≤ 39)) || addr % 2 ^ 36 == s.flt.injLine)

/-- A checker reports (R354): the message carries INJECTED when the error came from injection, which counts LEFT down. -/
def State.fault (s : State) (src kind addr : Nat) (cleared : Bool := false) : State :=
  if s.injects src addr && !cleared then
    (s.fset Fld.FLT_INJ_STS.LEFT (s.fget Fld.FLT_INJ_STS.LEFT - 1)).sendMsg src kind addr false true
  else s.sendMsg src kind addr cleared false

/-- STATE of FLT_UNIT_STS of a unit: 0 in service, 1 isolating, 2 isolated, 3 recovering. -/
def State.unitSt (s : State) (u : Nat) : Nat := s.fget (Fld.FLT_UNIT_STS.STATE u)

/-- A unit's isolation state changes, and FLT_STS shows it (R366, Table 14-11). -/
def State.setUnit (s : State) (u st : Nat) : State :=
  let s := s.fset (Fld.FLT_UNIT_STS.STATE u) st
  let l := (List.range 88).map s.unitSt
  (s.fput Fld.FLT_STS.FAULTED (l.any (fun x => x != 0))).fset Fld.FLT_STS.ISOLATED (l.filter (fun x => x == 2)).length

/-- Source number of checker class `k` of unit `u` (R355). -/
def srcOf (u k : Nat) : Nat := 8 * u + k

/-- PLAN_OVERRUN (R65): a reserved activity of a resource still runs; its excess, in the resource's units, is taken from the beat that
begins. -/
def State.overrun (s : State) (x : Nat × Nat) : State :=
  if x.1 < 25 then
    ((s.bump (Fld.COL_OVERRUN.COUNT x.1) (Fld.COL_OVERRUN.SAT x.1)).fault (srcOf 77 4) 0x22 x.1).modCol (fun c => { c with
      overBy := tabSet 0 x.1 (tabGet 0 x.1 c.overBy + x.2) c.overBy })
  else s

/-! ## Power domains -/

/-- A domain as it stands at reset. -/
def Dom.new : Dom := { }
/-- Power domain `d`. -/
def State.dom (s : State) (d : Nat) : Dom := tabGet Dom.new d s.doms

/-! ## Resets of a block's latches -/

/-- The registers at the offsets of `p` are reset: the low halves held of them go (R429), and their snapshots (R436). -/
def State.blockReset (s : State) (p : Nat → Bool) : State :=
  { s with
    heldLow := s.heldLow.filter (fun e => !p e.1)
    snaps := s.snaps.filter (fun e => !p e.1) }
/-- The offset lies in a block of domains 0 and 94, which no reset of the core reaches (R440, R441): SCB_, CIS_, PSQ_, PDM_ but for
PDM_RES, and FLT_. -/
def inVaon (off : Nat) : Bool :=
  (decide (0x180000 ≤ off) && decide (off < 0x190000)) || (decide (0x1A0000 ≤ off) && decide (off < 0x1C1000)) ||
    (decide (0x1C2000 ≤ off) && decide (off < 0x1D8000))

/-! ## The journal's intake (R372) -/

/-- The generation a record names when it concerns none: the newest sealed generation. -/
def State.newestGen (s : State) : Nat := s.fget Fld.SPL_GEN.GENERATION

/-- JNL_STS shows how many records wait (Table 14-17). -/
def State.showJnl (s : State) : State := s.fset Fld.JNL_STS.STAGED s.flt.staging.length

/-- A record of `kind` is made, of an event in beat `b`: it takes the next journal sequence and enters staging, or counts in
DROPPED while journaling is STOPPED (R378) or staging is full. Kinds 0x0001 to 0x0007 may use all 64 slots; 8 are kept for
them (R372). -/
def State.journalAt (s : State) (b kind gen : Nat) (payload : List (Nat × Nat)) : State :=
  let room := if kind ≤ 7 then 64 else 56
  if s.fget Fld.JNL_STS.MODE == 2 || decide (room ≤ s.flt.staging.length) then
    s.bump Fld.JNL_CNT.DROPPED Fld.JNL_CNT.DR_SAT
  else
    let n := s.fget Fld.JNL_SEQ.NEXT_SEQ
    let r := JRec.mk n kind (s.fget Fld.JNL_STS.MODE == 1) b gen payload .staged [] [] []
    let s := s.modFlt (fun f => { f with staging := f.staging ++ [r] })
    (s.fset Fld.JNL_SEQ.NEXT_SEQ (n + 1)).showJnl

/-- A record of an event of the present beat. -/
def State.journal (s : State) (kind gen : Nat) (payload : List (Nat × Nat)) : State :=
  s.journalAt s.curBeat kind gen payload

end Sys2Proof.Machine
end

