-- ==== Sys2Proof/Machine/Pages.lean ====
section
/-! DEFINITION. DRAM as the hosts see it, page records and their owed counts (R114 to R117), the weir's shares (R123)
and the throttling ladder (R124), eddy slots (R134) and the content of pages. -/

namespace Sys2Proof.Machine

/-! ## DRAM -/

/-- Bytes of a page, of a line, of an extent unit. -/
def pageBytes : Nat := 4096
def lineBytes : Nat := 64
def extUnit : Nat := 268435456
/-- Pages of an extent unit. -/
def extPages : Nat := 65536

/-- The byte of DRAM at a device physical address: the latest accepted write (R20), 0 where nothing was written
(R191). -/
def State.byte (s : State) (a : Nat) : Byte := tabGet 0 a s.dram
/-- A byte of DRAM takes a value. -/
def State.setByte (s : State) (a : Nat) (v : Byte) : State := { s with dram := tabSet 0 a v s.dram }

/-- Byte `i` of a line. -/
def lineByte (d : Line) (i : Nat) : Byte := (d >>> (8 * i)).truncate 8

/-- The bytes of a line that `mask` enables go to DRAM at line address `a`. -/
def State.writeBytes (s : State) (a : Nat) (d : Line) (mask : ByteMask) : State :=
  { s with dram := forUpto lineBytes (fun i m =>
      if mask.getLsbD i then tabSet (0 : Byte) (a + i) (lineByte d i) m else m) s.dram }

/-- The line of DRAM at `a`. -/
def State.readLine (s : State) (a : Nat) : Line :=
  forUpto lineBytes (fun i acc => acc ||| ((s.byte (a + i)).zeroExtend 512 <<< (8 * i))) 0

/-- The tenant LD whose extent holds a device physical page. -/
def State.ldOfPage (s : State) (p : Nat) : Option Nat :=
  allLds.find? (fun n => let l := s.ld n
    decide (l.extBase * extPages ≤ p) && decide (p < (l.extBase + l.extSize) * extPages))

/-- A line is poisoned (R15, R201). -/
def State.linePoison (s : State) (n : Nat) : Bool :=
  let d := match s.ldOfPage (n / 64) with
    | some l => (s.ld l).poisoned
    | none => false
  tabGet d n s.poison
/-- A line's poison is set or cleared. -/
def State.setPoison (s : State) (n : Nat) (b : Bool) : State :=
  let d := match s.ldOfPage (n / 64) with
    | some l => (s.ld l).poisoned
    | none => false
  { s with poison := tabSet d n b s.poison }

/-- A page's lines all become zero and lose their poison. -/
def State.zeroPage (s : State) (p : Nat) : State :=
  let s := { s with dram := s.dram.filter (fun e => e.1 / pageBytes ≠ p) }
  forUpto 64 (fun i s => if s.linePoison (p * 64 + i) then s.setPoison (p * 64 + i) false else s) s

/-- The content of a page as an engine reads it: a poisoned line counts as 64 bytes of zero (R201). -/
def State.content (s : State) (p : Nat) : Content :=
  let ps := (List.range 64).filter (fun i => s.linePoison (p * 64 + i))
  { bytes := ((s.dram.filter (fun e => e.1 / pageBytes = p)).map (fun e => (e.1 % pageBytes, e.2))).filter
      (fun e => !ps.contains (e.1 / 64))
    poison := ps }

/-- A restore writes a content to DRAM (R201): poisoned lines poisoned, every other line with its data. -/
def State.restore (s : State) (p : Nat) (c : Content) : State :=
  let s := s.zeroPage p
  let s := { s with dram := c.bytes.foldl (fun m e => tabSet (0 : Byte) (p * pageBytes + e.1) e.2 m) s.dram }
  c.poison.foldl (fun s i => s.setPoison (p * 64 + i) true) s

/-! ## CRC-32C and stored length (R6, R7) -/

/-- CRC-32C over the 4,096 plaintext bytes of a page content. -/
def Content.crc (c : Content) : Nat :=
  (forUpto pageBytes (fun i r => crc32cByte r (tabGet (0 : Byte) i c.bytes).toNat) 0xFFFFFFFF) ^^^ 0xFFFFFFFF

/-- The stored length of a content (R7, R201, R462): 0 for a page of zeros with no poisoned line, else what the engines
make of it, at most 4,096. -/
def Content.len (c : Content) : Nat :=
  if c.bytes = [] ∧ c.poison = [] then 0 else max 1 (min 4096 (Config.storedLen c.bytes))

/-! ## Page records -/

/-- The record of a page that has none listed: by its LD (R29, R30, R190). -/
def State.dfltRec (s : State) (p : Nat) : PageRec :=
  match s.ldOfPage p with
  | some n =>
    let st := match (s.ld n).dflt with
      | 0 => PState.clean | 1 => PState.unfilled | 2 => PState.poisoned | _ => PState.volatile
    PageRec.mk st n 0 0 0 0
  | none => PageRec.mk .clean 0 0 0 0 0

/-- The record of a page (R114). -/
def State.page (s : State) (p : Nat) : PageRec := tabGet (s.dfltRec p) p s.pages

/-- EPOCH_TAG of a record is older than the LD's newest cut: the tag is always a cut sequence the LD has had, and at
most 1,024 cuts are pending (R135), so it differs from the low 16 bits of the cut sequence exactly then. -/
def State.oldTag (s : State) (r : PageRec) : Bool := r.tag != (s.ld r.ld).cutSeq % 65536

/-- What a page adds to its LD's owed count beside its eddy copies (Table 05-2, R117). -/
def State.owedOf (s : State) (r : PageRec) : Nat :=
  match r.st with
  | .dirty | .cleaning | .forked =>
    match s.cls r.ld with
    | 0 => 1
    | 1 => if s.oldTag r then 1 else 0
    | _ => 0
  | _ => 0

/-- A record takes its place in the table, in the same step as the owed count (R117). -/
def State.setPage (s : State) (p : Nat) (r : PageRec) : State :=
  let old := s.page p
  let s' := { s with pages := tabSet (s.dfltRec p) p r s.pages }
  if s.owedOf old = s.owedOf r then s'
  else s'.modLd r.ld (fun l => { l with owed := l.owed + s.owedOf r - s.owedOf old })

/-- A page changes state. -/
def State.setPState (s : State) (p : Nat) (st : PState) : State := s.setPage p { s.page p with st := st }

/-- The pages of an LD with a listed record. -/
def State.pagesOf (s : State) (n : Nat) : List (Nat × PageRec) := s.pages.filter (fun e => e.2.ld == n)

/-- Eddy copies of an LD not yet on flash (R117). -/
def State.eddiesOf (s : State) (n : Nat) : List (Nat × Eddy) :=
  s.eddy.filter (fun e => e.2.ld == n && e.2.filled)

/-- The owed count of an LD counted afresh from its pages (R117): what a cut leaves for a CHECKPOINTED LD, and the
meaning of the count the device keeps. -/
def State.countOwed (s : State) (n : Nat) : Nat :=
  sumNat ((s.pagesOf n).map (fun e => s.owedOf e.2)) + (s.eddiesOf n).length

/-- The owed count of an LD is taken afresh. -/
def State.recount (s : State) (n : Nat) : State := s.modLd n (fun l => { l with owed := s.countOwed n })

/-- The device owed count (R117): bound LDs that are not VOLATILE. -/
def State.devOwed (s : State) : Nat :=
  sumNat (allLds.map (fun n => if s.bound n && s.cls n != 2 then (s.ld n).owed else 0))

/-- UNFILLED and DRAWING pages of an LD (RFL_LD_STS). -/
def State.unfilled (s : State) (n : Nat) : Nat :=
  let ps := s.pagesOf n
  let listed := (ps.filter (fun e => e.2.st == .unfilled || e.2.st == .drawing)).length
  if (s.ld n).dflt = 1 then (s.ld n).extSize * extPages - ps.length + listed else listed

/-! ## Shares and the ladder (R123, R124) -/

/-- W in force. -/
def State.weirW (s : State) : Nat := s.fget Fld.WEIR_STS.WEIR_PAGES
/-- W_hard in force. -/
def State.weirHard (s : State) : Nat := s.fget Fld.WEIR_STS.HARD_PAGES
/-- LDs that have a share: bound and not VOLATILE. -/
def State.shareLds (s : State) : List Nat := allLds.filter (fun n => s.bound n && s.cls n != 2)
/-- The guaranteed share of an LD. -/
def State.gshare (s : State) (n : Nat) : Nat := s.weirW * s.fget (Fld.WEIR_LD_CFG.GUAR n) / 65536
/-- What an LD borrows. -/
def State.borrowed (s : State) (n : Nat) : Nat := (s.ld n).owed - s.gshare n
/-- The common pool. -/
def State.pool (s : State) : Nat := s.weirW - sumNat (s.shareLds.map s.gshare)
/-- What is left of the pool. -/
def State.poolFree (s : State) : Nat := s.pool - sumNat (s.shareLds.map s.borrowed)
/-- The allowance of an LD. -/
def State.allow (s : State) (n : Nat) : Nat :=
  if s.on (Fld.WEIR_LD_CFG.BORROW_EN n) then
    s.gshare n + min (s.borrowed n + s.poolFree) (s.pool * s.fget (Fld.WEIR_LD_CFG.BORROW_CAP n) / 128)
  else s.gshare n

/-- The device is in deficit (R120). -/
def State.deficit (s : State) : Bool := s.on Fld.WEIR_STS.DEFICIT

/-- Ladder level 1 or 2 of an LD at a beat boundary (R124): 75 and 90 %, left 5 points lower. -/
def ladder (owed allow was : Nat) : Nat :=
  if allow = 0 then (if 0 < owed then 2 else 0)
  else if 90 * allow ≤ 100 * owed then 2
  else if was = 2 ∧ 85 * allow < 100 * owed then 2
  else if 75 * allow ≤ 100 * owed then 1
  else if was ≠ 0 ∧ 70 * allow < 100 * owed then 1
  else 0

/-- Ladder level of an LD, 3 included (Table 05-5). An LD of allowance 0 is held at level 3 with nothing owed too, whether or not a
write that would raise its count is there (DESIGN CHOICE, log entry 105). -/
def State.level (s : State) (n : Nat) : Nat :=
  if s.cls n == 2 then 0
  else if s.allow n ≤ (s.ld n).owed then 3
  else (s.ld n).lad

/-- The ladder's DevLoad contribution (Table 05-5): 0 Light, 1 Optimal, 2 Moderate, 3 Severe. -/
def ladderLoad (level : Nat) : Nat := match level with | 0 => 0 | 1 => 2 | 2 => 2 | _ => 3

/-! ## Checkpoints pending, eddy slots and forks (R133, R134) -/

/-- Pending checkpoints of an LD to which page `p` is owed, by number. -/
def State.owedTo (s : State) (n p : Nat) : List Nat :=
  ((s.ld n).ckpts.filter (fun c => !c.complete && c.left.contains p)).map (·.no)

/-- The identifier of an LD's checkpoint of a number, 0 with none. -/
def State.ckptId (s : State) (n no : Nat) : Nat := (((s.ld n).ckpts.find? (fun c => c.no == no)).map (·.id)).getD 0

/-- The page is owed to a pending cut by its live content (R133, R134): DIRTY, CLEANING or FORKED with a tag older than a
pending cut, so not yet copied for it. -/
def State.owedPage (s : State) (p : Nat) : Bool :=
  let r := s.page p
  match r.st with
  | .dirty | .cleaning | .forked => s.oldTag r && !(s.owedTo r.ld p).isEmpty &&
      !((s.owedTo r.ld p).all (fun id => s.eddy.any (fun e => e.2.page == p && e.2.cuts.contains id)))
  | _ => false

/-- Eddy slots of the reserve in force (R140). -/
def State.slotsTotal (s : State) : Nat := s.fget Fld.EDDY_STS.SLOTS_TOTAL
/-- The lowest free slot. -/
def State.freeSlot (s : State) : Option Nat :=
  (List.range (s.eddy.length + 1)).find? (fun i => decide (i < s.slotsTotal) && !(s.eddy.any (fun e => e.1 == i)))
/-- An empty slot, as an unlisted one reads. -/
def Eddy.none : Eddy := Eddy.mk 0 0 0 [] ⟨[], []⟩ false false false
/-- SLOTS_FREE shows the slots not in use. -/
def State.showSlots (s : State) : State := s.fset Fld.EDDY_STS.SLOTS_FREE (s.slotsTotal - s.eddy.length)

/-- The rill's own state changes. -/
def State.modRill (s : State) (f : RillState → RillState) : State := { s with rill := f s.rill }
/-- The log's own state changes. -/
def State.modLog (s : State) (f : LogState → LogState) : State := { s with log := f s.log }
/-- The refill sequencer's own state changes. -/
def State.modRfl (s : State) (f : RflState → RflState) : State := { s with rfl_ := f s.rfl_ }

/-- A live copy of page `p` in flight becomes stale (R131). -/
def Item.markStale (p : Nat) (i : Item) : Item :=
  if i.form.page == p && i.form.kind == 1 && i.src.isNone && i.slot.isNone then { i with stale := true } else i

/-- Every live copy of page `p` in flight becomes stale (R131): the page has been written, selected again or lost since. -/
def State.staleCopies (s : State) (p : Nat) : State :=
  (s.modRill (fun x => { x with sel := x.sel.map (Item.markStale p) })).modLog (fun x => { x with
    stripes := x.stripes.map (fun t => { t with items := t.items.map (Item.markStale p) }) })

/-- A live copy of page `p` in flight becomes the pre-cut copy of slot `i` for `cuts` (R131). -/
def Item.serve (p i : Nat) (cuts : List Nat) (t : Item) : Item :=
  if t.form.page == p && t.form.kind == 1 && !t.stale then { t with slot := some i, cuts := cuts } else t

/-- The pending cuts that page `p` is owed to and that no other slot than `i` serves: what a copy in slot `i` serves
(R134). -/
def State.forkCuts (s : State) (p i : Nat) : List Nat :=
  let served := (s.eddy.filter (fun e => e.2.page == p && e.1 != i)).flatMap (fun e => e.2.cuts)
  (s.owedTo (s.page p).ld p).filter (fun id => !served.contains id)

/-- A fork begins (R134): slot `i` is taken for the pre-cut content of page `p`. A page whose rill copy is in flight is served
by that copy (R131). -/
def State.forkBegin (s : State) (p i : Nat) : State :=
  let r := s.page p
  let e := Eddy.mk p r.ld r.tag (s.forkCuts p i) (s.content p) false false (r.st == .cleaning)
  ({ s with eddy := tabSet Eddy.none i e s.eddy } : State).showSlots

/-- The copy is in its slot (R134): it serves every pending cut the page is owed to by now, the page becomes FORKED with the
current cut sequence, and the owed count rises by the eddy copy (Table 05-3). A live copy in flight that does not serve the
cuts is stale. -/
def State.forkDone (s : State) (i : Nat) : State :=
  let e := tabGet Eddy.none i s.eddy
  let r := s.page e.page
  let cuts := s.forkCuts e.page i
  let s := { s with eddy := tabSet Eddy.none i { e with filled := true, cuts := cuts } s.eddy }
  let s := if e.byItem then
      (s.modRill (fun x => { x with sel := x.sel.map (Item.serve e.page i cuts) })).modLog (fun x =>
        { x with stripes := x.stripes.map (fun t => { t with items := t.items.map (Item.serve e.page i cuts) }) })
    else s.staleCopies e.page
  let s := if r.st == .poisoned then s
    else s.setPage e.page { r with st := .forked, tag := (s.ld r.ld).cutSeq % 65536 }
  s.modLd r.ld (fun l => { l with owed := l.owed + 1 })

/-- A slot whose copy has not ended is given back. -/
def State.forkDrop (s : State) (i : Nat) : State := ({ s with eddy := tabDel i s.eddy } : State).showSlots

/-- The slot of a page whose fork copy is under way. -/
def State.forkSlot (s : State) (p : Nat) : Option Nat :=
  (s.eddy.find? (fun e => e.2.page == p && !e.2.filled)).map (·.1)

/-- An eddy slot is freed: its copy is on flash, or no longer wanted; the owed count falls by it. The last one of a
FORKED page returns it to DIRTY (Table 05-3). -/
def State.freeEddy (s : State) (i : Nat) : State :=
  let e := tabGet Eddy.none i s.eddy
  if s.eddy.any (fun x => x.1 == i) then
    let s := { s with eddy := tabDel i s.eddy }
    let s := s.modLd e.ld (fun l => { l with owed := l.owed - 1 })
    let s := if (s.page e.page).st == .forked && !(s.eddy.any (fun x => x.2.page == e.page)) then
        s.setPState e.page .dirty else s
    s.showSlots
  else s

/-- A write is about to change page `p`: would it raise the owed count (R124)? A CLEAN or POISONED page of a PERSISTENT
LD does; of a CHECKPOINTED LD the page it makes carries the newest tag and is not owed. A fork of a PERSISTENT LD's page
does. -/
def State.raises (s : State) (p : Nat) : Bool :=
  let r := s.page p
  s.cls r.ld == 0 && (r.st == .clean || r.st == .poisoned || s.owedPage p)

/-- Writes past the ladder that are still to raise the owed count of LD `n`, each by its page: fork copies under way, and writes
that wait for a place or a line in a write-merge buffer; `p` is left out (R125). -/
def State.raising (s : State) (n : Nat) (p : Option Nat) : Nat :=
  let forks := s.eddy.filter (fun e => e.2.ld == n && !e.2.filled && s.cls n == 0 && some e.2.page != p)
  let writes := s.fab.reqs.filter (fun r => r.ld == n && r.kind == .write && (r.at_ == .wmb || r.at_ == .merge) &&
    some (r.dpa / 4096) != p && s.raises (r.dpa / 4096))
  forks.length + writes.length

/-- A write to page `p` that raises the owed count of the LD by `k` pages finds no room (R125): with the writes already on their
way it would pass the allowance, of which a ZERO_RANGE may hold part in reserve (R318). -/
def State.noRoom (s : State) (n k : Nat) (p : Option Nat) : Bool :=
  decide (s.allow n < (s.ld n).owed + s.raising n p + (s.ld n).resv + k)
/-- Such a write must wait (R124, R125): it finds no room, or the device is in deficit (R120). -/
def State.mustHold (s : State) (n k : Nat) (p : Option Nat) : Bool := s.deficit || s.noRoom n k p

/-- Waits of ring commands' line writes of a kind, 0 for room (R125) and 1 for a slot (R127): LD, page, and time + 1, 0 once
counted. -/
def State.ringWaits (s : State) (kind : Nat) : List (Nat × Nat × Nat) :=
  s.rings.flatMap (fun e => (e.2.accs.filter (fun a => a.st == .running)).flatMap (fun a =>
    (a.waits.filter (fun w => w.2.1 == kind)).map (fun w => (e.1 / 256, w.1, w.2.2))))

/-- A write to page `p` of LD `n` that waits for room since `t` (time + 1, 0 once counted), request `rid`, has an earlier one of its
LD before it: held writes are released in arrival order (R125). -/
def State.heldAhead (s : State) (n p t rid : Nat) : Bool :=
  s.fab.reqs.any (fun q => q.ld == n && q.dpa / 4096 != p && (match q.at_ with
    | .weir u => decide (u < t) || (u == t && decide (q.rid < rid))
    | _ => false) && s.raises (q.dpa / 4096)) ||
  (s.ringWaits 0).any (fun w => w.1 == n && w.2.1 != p && decide (w.2.2 < t) && s.raises w.2.1)

/-- A fork of page `p` that waits for a slot since `t`, request `rid`, has an earlier one of any LD before it: slots go first come,
first served (R140). -/
def State.slotAhead (s : State) (p t rid : Nat) : Bool :=
  s.fab.reqs.any (fun q => q.dpa / 4096 != p && (match q.at_ with
    | .slot u => decide (u < t) || (u == t && decide (q.rid < rid))
    | _ => false) && s.owedPage (q.dpa / 4096)) ||
  (s.ringWaits 1).any (fun w => w.2.1 != p && decide (w.2.2 < t) && s.owedPage w.2.1)

/-- A write is about to reach a page: the lines of a POISONED page are poisoned, and those it does not write stay so
(Table 05-3, R15). -/
def State.keepLost (s : State) (p : Nat) : State :=
  if (s.page p).st == .poisoned then forUpto 64 (fun i s => s.setPoison (p * 64 + i) true) s else s

/-- The page takes the state an accepted write leaves it in (Table 05-3), its fork if any being done. A copy in flight
becomes stale (R131). -/
def State.pageWritten (s : State) (p : Nat) : State :=
  let r := s.page p
  let cut := (s.ld r.ld).cutSeq % 65536
  match r.st with
  | .clean | .poisoned => s.setPage p { r with st := .dirty, tag := cut }
  | .cleaning => (s.staleCopies p).setPage p { r with st := .dirty }
  | _ => s

/-- A page's record reads POISONED (Table 05-3): its own part of the owed count falls, it enters the poison list, and its
group's record page is due (R204, R290). -/
def State.markPoisoned (s : State) (p : Nat) : State :=
  let s := s.setPage p { s.page p with st := .poisoned }
  (s.modFab (fun f => { f with poison := setIns p f.poison })).modLog (fun l => { l with
    poisonDue := setIns (p / 256) l.poisonDue })

/-! ## LDs and pages together -/

/-- Every listed record of an LD goes, and its unlisted pages become `d` (Ld.dflt). -/
def State.clearPages (s : State) (n d : Nat) : State :=
  let s := { s with
    pages := s.pages.filter (fun e => e.2.ld ≠ n)
    eddy := s.eddy.filter (fun e => e.2.ld ≠ n) }
  (s.modLd n (fun l => { l with dflt := d, owed := 0, fromStart := false })).showSlots

/-- DRAM bytes and poison of an LD's extent are dropped: it reads zeros, or poison when `poisoned`. -/
def State.wipeExtent (s : State) (n : Nat) (poisoned : Bool) : State :=
  let l := s.ld n
  let inExt := fun (p : Nat) => decide (l.extBase * extPages ≤ p) && decide (p < (l.extBase + l.extSize) * extPages)
  let s := { s with
    dram := s.dram.filter (fun e => !inExt (e.1 / pageBytes))
    poison := s.poison.filter (fun e => !inExt (e.1 / 64)) }
  s.modLd n (fun l => { l with poisoned := poisoned })

/-- The start policy applied to every page of an LD outside a refill (R30, R278): ZERO writes zeros and the pages become
CLEAN, POISON makes them POISONED; a VOLATILE LD's pages stay VOLATILE with zero or poisoned lines (Table 07-5). -/
def State.applyPolicy (s : State) (n : Nat) : State :=
  let poison := s.on (Fld.RFL_LD_CFG.START_POLICY n)
  if s.cls n == 2 then (s.clearPages n 3).wipeExtent n poison
  else if poison then s.clearPages n 2
  else (s.clearPages n 0).wipeExtent n false

end Sys2Proof.Machine
end

