-- ==== Sys2Proof/Machine/Address.lean ====
section
/-! DEFINITION. The DRAM address map (R240 to R242) and the write-merge buffers and request queues of the channels
(R243 to R248). -/

namespace Sys2Proof.Machine

/-- A channel with nothing queued. -/
def Chan.new : Chan := { }
/-- DRAM channel `c`. -/
def State.chan (s : State) (c : Nat) : Chan := tabGet Chan.new c s.chans
/-- DRAM channel `c` changes. -/
def State.modChan (s : State) (c : Nat) (f : Chan → Chan) : State :=
  { s with chans := tabSet Chan.new c (f (s.chan c)) s.chans }
/-- A subchannel with nothing queued. -/
def Sub.new : Sub := { }
/-- Subchannel `i` of a channel. -/
def Chan.sub (c : Chan) (i : Nat) : Sub := tabGet Sub.new i c.subs
/-- A subchannel changes. -/
def Chan.modSub (c : Chan) (i : Nat) (f : Sub → Sub) : Chan := { c with subs := tabSet Sub.new i (f (c.sub i)) c.subs }

/-! ## Addresses -/

/-- w: log2 of the populated channels (R240). -/
def State.ways (s : State) : Nat := s.fget Fld.DRC_MAP.WAYS
/-- The channel of a line (R240). -/
def State.lineChan (s : State) (line : Nat) : Nat := line * 64 / 2 ^ (8 + s.mapGrain) % 2 ^ s.ways
/-- The channel address of a line: its DPA without the channel bits (R240). -/
def State.lineCa (s : State) (line : Nat) : Nat :=
  let g := 8 + s.mapGrain
  let a := line * 64
  a % 2 ^ g + a / 2 ^ (g + s.ways) * 2 ^ g

/-- The fields of Table 10-2, with the bank group and bank as issued (R242). -/
structure CellAddr where
  sub  : Nat
  bg   : Nat
  col  : Nat
  ba   : Nat
  rank : Nat
  row  : Nat
  deriving DecidableEq, Repr

/-- log2 physical ranks, log2 stack height, ×8 and 32 Gb of a channel, as in force (R239). -/
def Chan.ranks2 (c : Chan) : Nat := c.geom % 4
def Chan.stack2 (c : Chan) : Nat := c.geom / 4 % 4
def Chan.x8 (c : Chan) : Bool := c.geom / 16 % 2 == 1
def Chan.d32 (c : Chan) : Bool := c.geom / 32 % 2 == 1
/-- Data rate in force, MT/s (Table 10-9). -/
def Chan.rate (c : Chan) : Nat := 4800 + 800 * (c.geom / 64)
/-- A request of a logical rank is queued or issued at a time (R258). -/
def Chan.touch (c : Chan) (rank t : Nat) : Chan := { c with lastReq := tabSet 0 rank t c.lastReq, down := setDel rank c.down }
/-- Logical ranks of a channel. -/
def Chan.logRanks (c : Chan) : Nat := 2 ^ (c.ranks2 + c.stack2)

/-- Where a line lies in its channel (R241, R242). -/
def State.cellOf (s : State) (line : Nat) : CellAddr :=
  let c := s.chan (s.lineChan line)
  let ca := s.lineCa line
  let cb := if c.x8 then 6 else 7
  let l := c.ranks2 + c.stack2
  let bg := ca / 2 ^ 7 % 8
  let ba := ca / 2 ^ (10 + cb) % 4
  let row := ca / 2 ^ (12 + cb + l) % 2 ^ (if c.d32 then 17 else 16)
  { sub := ca / 2 ^ 6 % 2
    bg := if s.mapHash then bg ^^^ row % 8 else bg
    col := ca / 2 ^ 10 % 2 ^ cb * 16
    ba := if s.mapHash then ba ^^^ row / 8 % 4 else ba
    rank := ca / 2 ^ (12 + cb) % 2 ^ l
    row := row }

/-- The bank of a cell address within its subchannel. -/
def CellAddr.bank (a : CellAddr) : Nat := a.rank * 32 + a.bg * 4 + a.ba

/-! ## The line code (R260 to R262) -/

/-- The device that carries a symbol of the codeword, in its rank and subchannel. -/
def symDevice (x8 : Bool) (i : Nat) : Nat := if x8 then i / 16 else i / 8
/-- Symbol `i` of the codeword of a line: 64 data symbols, then 16 check symbols, which carry the poison pattern on a poisoned
line. -/
def codeSymbol (d : Line) (poisoned : Bool) (i : Nat) : Byte :=
  if i < 64 then lineByte d i
  else Config.rsCheck d (i - 64) ^^^ (if poisoned then Config.poisonPattern (i - 64) else 0)
/-- What device `dev` drives in beat `b` of the burst: 8 bits of a ×8 device, 4 of a ×4 one, the low half of a symbol first (log
entry 90). -/
def burstBits (x8 : Bool) (word : Nat → Byte) (dev b : Nat) : Nat :=
  if x8 then (word (16 * dev + b)).toNat
  else
    let v := (word (8 * dev + b / 2)).toNat
    if b % 2 = 0 then v % 16 else v / 16

/-- What the decoder makes of a line (R261, R262): a codeword; a corrected one, with how many symbols of each device; the poison
pattern; or nothing. -/
inductive LineDecode where
  | clean
  | corrected (symbols : List (Nat × Nat))
  | poisoned
  | uncorrectable
  deriving DecidableEq, Repr

/-- The symbols of a codeword that arrive wrong. -/
def wrongSymbols (r : LineRead) : List Nat := (List.range 80).filter (fun i => tabGet 0 i r.errs != 0)

/-- The decoder (R261, R262), with the marked device erased: symbols that it corrects elsewhere, up to 8, or 4 with a marked ×4
device, or none with a marked ×8 one; on a poisoned line up to 4, 2 or none (log entry 90). -/
def decodeWord (x8 : Bool) (mark : Option Nat) (poisoned : Bool) (wrong : List Nat) : LineDecode :=
  let out := wrong.filter (fun i => some (symDevice x8 i) != mark)
  let most := match mark with | none => 8 | some _ => if x8 then 0 else 4
  if poisoned then (if 2 * out.length ≤ most then .poisoned else .uncorrectable)
  else if most < out.length then .uncorrectable
  else if out.isEmpty then .clean
  else .corrected ((out.map (symDevice x8)).dedup.map (fun d => (d, (out.filter (fun i => symDevice x8 i == d)).length)))

/-- The device marked in a rank of a subchannel (R261, R263). -/
def State.markOf (s : State) (c i rank : Nat) : Option Nat :=
  if s.on (Fld.DRC_MARK.VALID c i) && s.fget (Fld.DRC_MARK.RANK c i) == rank then some (s.fget (Fld.DRC_MARK.DEVICE c i))
  else none

/-- The check symbols that an armed injection inverts as the checker receives this line (R369): 1, or 9 of them. -/
def State.injected (s : State) (line : Nat) : List (Nat × BitVec 8) :=
  if decide (0 < s.fget Fld.FLT_INJ_STS.LEFT) && s.flt.injClass == 2 && s.flt.injUnit == 32 + s.lineChan line &&
      s.flt.injLine == line then
    (List.range (if s.flt.injWeight = 0 then 1 else 9)).map (fun i => (64 + i, BitVec.ofNat 8 255))
  else []
/-- A read with the inversions of an armed injection upon what the devices returned. -/
def State.received (s : State) (line : Nat) (r : LineRead) : LineRead :=
  let inj := s.injected line
  { r with errs := (List.range 80).filterMap (fun i =>
      let b := tabGet 0 i r.errs ^^^ tabGet 0 i inj
      if b = 0 then none else some (i, b)) }
/-- The first decoding of a line as read. -/
def State.decodeRead (s : State) (line : Nat) (r : LineRead) : LineDecode :=
  let a := s.cellOf line
  decodeWord (s.chan (s.lineChan line)).x8 (s.markOf (s.lineChan line) a.sub a.rank) (s.linePoison line) (wrongSymbols (s.received line r))

/-! ## Regions of DRAM (R8, R140) -/

/-- Bytes of data a populated channel holds (Table 10-1). -/
def Chan.bytes (c : Chan) : Nat :=
  2 * (if c.x8 then 4 else 8) * (if c.d32 then 4294967296 else 2147483648) * c.logRanks
/-- Installed DRAM: every populated channel carries the same devices (R238). -/
def State.installed (s : State) : Nat := (s.chan 0).bytes * 2 ^ s.ways
/-- The page-record reserve begins after the 64 MiB control area. -/
def recordBase : Nat := 67108864
/-- The eddy reserve begins after the page-record reserve. -/
def State.eddyBase (s : State) : Nat := recordBase + s.installed / 4096 * 16
/-- MiB of an eddy reserve of `pm` tenths of a percent, rounded up. -/
def State.eddyMib (s : State) (pm : Nat) : Nat := (s.installed * pm + 1000 * 1048576 - 1) / (1000 * 1048576)
/-- The host-visible region begins where the reserve ends, for a reserve of `pm`. -/
def State.hostBaseAt (s : State) (pm : Nat) : Nat := s.eddyBase + s.eddyMib pm * 1048576
/-- The host-visible region in force. -/
def State.hostBase (s : State) : Nat := s.hostBaseAt s.reservePm

/-! ## Channel states (Table 10-14) -/

/-- The channel is frozen or recovering: it issues nothing (R267). -/
def State.chanStopped (s : State) (c : Nat) : Bool :=
  let st := s.fget (Fld.DRC_STS.STATE c)
  st == 3 || st == 5 || st == 4

/-! ## Write-merge buffer (R247, R248) -/

/-- A request is a write. -/
def DReq.isWrite (q : DReq) : Bool := match q.kind with | .write | .page _ true => true | _ => false
/-- A line is in the write-merge buffer. -/
def State.inWmb (s : State) (line : Nat) : Bool := (s.chan (s.lineChan line)).wmb.any (fun e => e.1 == line)
/-- Partial writes of a channel whose line read is under way: each will take a place. -/
def Chan.fills (c : Chan) : Nat :=
  sumNat (c.subs.map (fun e => ((e.2.queue ++ e.2.flight).filter (fun q =>
    match q.kind with | .fill _ => true | _ => false)).length))
/-- The buffer has a place for one line more. -/
def State.wmbRoom (s : State) (line : Nat) : Bool :=
  let c := s.chan (s.lineChan line)
  decide (c.wmb.length + c.fills < 512)
/-- A line enters the buffer for a port with a hint, or merges into the line already there. -/
def State.enterWmb (s : State) (line port : Nat) (ap : Bool) : State :=
  if s.inWmb line then s
  else
    let t := s.now
    s.modChan (s.lineChan line) (fun c => { c with wmb := c.wmb ++ [(line, t, port, ap)] })

/-- A request joins the queue of its subchannel (R243 to R245). -/
def State.queueRead (s : State) (kind : DKind) (line port : Nat) (ap : Bool) : State :=
  let t := s.now
  let a := s.cellOf line
  s.modChan (s.lineChan line) (fun c => (c.touch a.rank t).modSub a.sub (fun x => { x with
    queue := x.queue ++ [DReq.mk kind line t port ap] }))

/-- Lines leave the buffer for their write queue, in the order of their oldest write, while the queue has room. -/
def drainOne (s : State) (c : Nat) (e : Nat × Nat × Nat × Bool) : State :=
  let a := s.cellOf e.1
  let t := s.now
  let x := (s.chan c).sub a.sub
  if (x.queue.filter (fun q => q.isWrite)).length < 64 then
    s.modChan c (fun k => ({ (k.touch a.rank t) with wmb := k.wmb.filter (fun w => w.1 != e.1) } : Chan).modSub a.sub
      (fun x => { x with queue := x.queue ++ [DReq.mk .write e.1 e.2.1 e.2.2.1 e.2.2.2] }))
  else s
/-- The write-merge buffer of a channel moves into its write queues. -/
def State.moveWmb (s : State) (c : Nat) : State := (s.chan c).wmb.foldl (fun s e => drainOne s c e) s

/-- Every write-merge buffer and write queue is drained to DRAM (R40, R148). -/
def State.drainAll (s : State) : State :=
  { s with chans := s.chans.map (fun e => (e.1, { e.2 with
      wmb := []
      subs := e.2.subs.map (fun x => (x.1, { x.2 with queue := x.2.queue.filter (fun q => !q.isWrite) })) })) }

/-! ## Requests of the Scarab engines (Table 10-4) -/

/-- Ports of the Scarab engines and of the housekeeper. -/
def scarabPort : Nat := 2
def urgentPort : Nat := 3
def hkPort : Nat := 4
/-- The 64 lines that an engine reads, or writes, for page `p` are queued: the lines from `base`, at the urgent port with
AUTO_PRECHARGE for draws and forks, at the background port with KEEP_OPEN for other work (R243, R245). -/
def State.queuePage (s : State) (p base : Nat) (w urgent : Bool) : State :=
  forUpto 64 (fun i s => s.queueRead (.page p w) (base + i) (if urgent then urgentPort else scarabPort) urgent) s
/-- Requests leave the queues and what is in flight. -/
def State.dropReqs (s : State) (which : DReq → Bool) : State :=
  let cut : Sub → Sub := fun x => { x with
    queue := x.queue.filter (fun q => !which q)
    flight := x.flight.filter (fun q => !which q) }
  { s with chans := s.chans.map (fun e => (e.1, { e.2 with subs := e.2.subs.map (fun x => (x.1, cut x.2)) })) }
/-- A read of one of the 64 lines from `base` for an engine's work at a port. -/
def DReq.readsFor (base port : Nat) (q : DReq) : Bool :=
  (match q.kind with | .page _ w => !w | _ => false) && q.port == port && q.line / 64 == base / 64
/-- First line of an eddy slot (R140). -/
def State.slotLine (s : State) (i : Nat) : Nat := (s.eddyBase + i * pageBytes) / lineBytes
/-- A channel that holds one of 64 lines is stopped: work that needs them waits (R267). -/
def State.linesStopped (s : State) (base : Nat) : Bool := (List.range 64).any (fun i => s.chanStopped (s.lineChan (base + i)))

end Sys2Proof.Machine
end

