-- ==== Sys2Proof/Machine/Channel.lean ====
section
/-! DEFINITION. A DRAM channel's scheduler (R244, R246, R249 to R252, R255 to R258, R266): which request it takes, what its commands
leave in the banks, in the activate-count tables and in the retry buffer, and when a refresh slot is due. -/

namespace Sys2Proof.Machine

/-! ## Scheduling (R244, R249 to R251) -/

/-- Urgency level of a request (R244). -/
def State.urgency (s : State) (c : Nat) (q : DReq) : Nat :=
  let age := s.now - q.since
  let t := s.fget (Fld.DRC_QOS.TARGET_NS c q.port)
  if t ≤ age then 3 else if 3 * t ≤ 4 * age then 2 else if t ≤ 2 * age then 1 else 0

/-- The 64 reads and 64 writes that stand in the queues, oldest first (R249). -/
def Sub.window (x : Sub) : List DReq :=
  let rs := (x.queue.filter (fun q => !q.isWrite)).take 64
  let ws := (x.queue.filter (fun q => q.isWrite)).take 64
  x.queue.filter (fun q => if q.isWrite then ws.contains q else rs.contains q)

/-- Write mode at a command decision (R250). -/
def State.writeMode (s : State) (c : Nat) (x : Sub) : Bool :=
  let ws := x.window.filter (fun q => q.isWrite)
  let w3 := ws.any (fun q => s.urgency c q == 3)
  let r3 := x.window.any (fun q => !q.isWrite && s.urgency c q == 3)
  if x.writing then !(decide (ws.length ≤ 16) && !w3) && !r3
  else decide (48 ≤ ws.length) || w3

/-- Row of the bank of a request that is open: not closed by ROW_IDLE clocks without a hit (R246). -/
def State.openRow (s : State) (c : Nat) (x : Sub) (bank : Nat) : Option Nat :=
  match x.rows.find? (fun e => e.1 == bank) with
  | some e =>
    if (s.now - e.2.2) * (s.chan c).rate < 4000 * s.fget (Fld.DRC_SCHED.ROW_IDLE c) then some e.2.1 else none
  | none => none

/-- R251: the bank of a request is in order, and the request is not the first of its bank. -/
def State.blocked (s : State) (l : List DReq) (q : DReq) : Bool :=
  let a := s.cellOf q.line
  let same := l.filter (fun r => (s.cellOf r.line).bank == a.bank)
  let clash := same.zipIdx.any (fun e => !e.1.isWrite && (same.take e.2).any (fun w =>
    w.isWrite && (s.cellOf w.line).row == (s.cellOf e.1.line).row))
  clash && same.head? != some q

/-- Rank of a candidate in the order of R249: higher is taken first; equal ranks by age. -/
def State.issueRank (s : State) (c : Nat) (x : Sub) (writing : Bool) (q : DReq) : Nat :=
  let a := s.cellOf q.line
  let hit := s.openRow c x a.bank == some a.row
  4 * s.urgency c q + (if q.isWrite == writing then 2 else 0) + (if hit then 1 else 0)

/-- A logical rank's requests may issue: it is not in refresh, has left self-refresh, and is not to be retrained (R255, R259,
R272). -/
def State.rankReady (s : State) (c rank : Nat) : Bool :=
  decide (tabGet 0 rank (s.chan c).busy ≤ s.now) && decide ((s.chan c).xsUntil ≤ s.now) &&
    !(s.fget (Fld.DRC_STS.RETRAINING c)).testBit rank

/-- The request the scheduler takes (R249). -/
def State.pick (s : State) (c : Nat) (x : Sub) (writing : Bool) : Option DReq :=
  let l := x.window
  (l.filter (fun q => !s.blocked l q && s.rankReady c (s.cellOf q.line).rank)).foldl (fun best q => match best with
    | none => some q
    | some b => if s.issueRank c x writing b < s.issueRank c x writing q then some q else some b) none

/-! ## Commands to the devices -/

/-- Controller clock, low 16 bits: the data rate ÷ 4 (Table 10-17). -/
def State.clockOf (s : State) (c : Nat) : Nat :=
  (Config.clockPhase c + s.now * (s.chan c).rate / 4000) % 65536
/-- The controller clock and the time of a command. -/
def State.tick (s : State) (c : Nat) : Nat × Nat := (s.clockOf c, s.now)
/-- A command enters the retry buffer of the last 64 (R266): 1 activate, 2 read, 3 write, 4 precharge, 5 refresh, 6 mode register,
7 other (Table 10-17). -/
def Sub.push (x : Sub) (clk : Nat × Nat) (cmd : Nat) (a : CellAddr) (addr : Nat) : Sub :=
  let h := x.hist ++ [[clk.1, cmd, a.rank, a.bg, a.ba, addr, clk.2]]
  { x with hist := h.drop (h.length - 64) }
/-- The cell address of a command that names only a logical rank. -/
def rankCell (rank : Nat) : CellAddr := ⟨0, 0, 0, 0, rank, 0⟩

/-- One activate in a bank's table (R256): the new table, and whether the neighbours are refreshed. -/
def rhActivate (thresh row : Nat) (t : List (Nat × Nat)) : List (Nat × Nat) × Bool :=
  let low := fun (l : List (Nat × Nat)) => match l with
    | [] => 0
    | e :: r => r.foldl (fun m x => min m x.2) e.2
  let t' := if t.any (fun e => e.1 == row) then t.map (fun e => if e.1 == row then (row, e.2 + 1) else e)
    else if t.length < 16 then t ++ [(row, 1)]
    else
      let m := low t
      let k := t.findIdx (fun e => e.2 == m)
      t.eraseIdx k ++ [(row, m + 1)]
  let m := if t'.length < 16 then 0 else low t'
  let hitIt := t'.any (fun e => e.1 == row && decide (thresh ≤ e.2))
  (if hitIt then t'.map (fun e => if e.1 == row then (row, m) else e) else t', hitIt)

/-- Activates of a bank, the next one first, counted in its table; each row that reaches RH_THRESH has its two neighbours on each side
refreshed at once, the bank precharged first and then four activate-precharge pairs, which are activates too (R256, R257). The
second part counts the neighbour refreshes; `fuel` bounds the chain of their own triggers. -/
def Sub.activates (x : Sub) (thresh rows : Nat) (clk : Nat × Nat) (a : CellAddr) : Nat → List Nat → Sub × Nat
  | 0, _ => (x, 0)
  | _, [] => (x, 0)
  | fuel + 1, r :: rest =>
    let rh := rhActivate thresh r (tabGet [] a.bank x.acts)
    let x := { x with acts := tabIns a.bank rh.1 (tabDel a.bank x.acts) }
    if rh.2 then
      let near := (if 2 ≤ r then [r - 2] else []) ++ (if 1 ≤ r then [r - 1] else []) ++ [r + 1, r + 2].filter (· < rows)
      let x := if tabGet false a.bank (x.rows.map (fun e => (e.1, true))) then x.push clk 4 a 0 else x
      let x := near.foldl (fun x n => (x.push clk 1 a n).push clk 4 a 0) { x with rows := tabDel a.bank x.rows }
      let y := x.activates thresh rows clk a fuel (near ++ rest)
      (y.1, y.2 + 1)
    else x.activates thresh rows clk a fuel rest

/-- Refresh management (R257): `n` activates of a bank enter its rolling count, and at the devices' RAAIMT a refresh-management
command goes to the precharged bank and takes RAAIMT from the count (log entry 109). -/
def Sub.manage (x : Sub) (imt : Nat) (clk : Nat × Nat) (a : CellAddr) (n : Nat) : Sub :=
  let v := tabGet 0 a.bank x.raa + n
  if imt ≤ v then
    { (x.push clk 4 a 0).push clk 7 a 0 with
      raa := tabSet 0 a.bank (v - imt) x.raa
      rows := tabDel a.bank x.rows }
  else { x with raa := tabSet 0 a.bank v x.raa }

/-- Every bank of a logical rank is precharged, by one command that names no bank. -/
def Sub.closeRank (x : Sub) (clk : Nat × Nat) (rank : Nat) : Sub :=
  { (x.push clk 4 (rankCell rank) 0) with rows := x.rows.filter (fun e => e.1 / 32 != rank) }
/-- One all-bank refresh of a logical rank, or several; each takes `imt` from the rank's rolling activate counts. -/
def Sub.refreshes (x : Sub) (clk : Nat × Nat) (rank n imt : Nat) : Sub :=
  let y := (List.range n).foldl (fun x _ => x.push clk 5 (rankCell rank) 0) (x.closeRank clk rank)
  { y with raa := (y.raa.map (fun e => if e.1 / 32 = rank then (e.1, e.2 - n * imt) else e)).filter (fun e => e.2 != 0) }

/-- RAAIMT of a channel's devices (R257). -/
def raaimt (c : Nat) : Nat := max 1 (Config.raaimt c)

/-- A request issues: precharge and activate on a row miss, the column command, and then what the activates ask for: neighbour
refreshes and refresh management, which leave the bank closed (R246, R256, R257). -/
def State.issueReq (s : State) (c i : Nat) (q : DReq) : State :=
  let a := s.cellOf q.line
  let x := (s.chan c).sub i
  let clk := s.tick c
  let openNow := s.openRow c x a.bank
  let hit := openNow == some a.row
  let x1 := if hit then x
    else (if openNow.isSome then x.push clk 4 a 0 else x).push clk 1 a a.row
  let x2 := x1.push clk (if q.isWrite then 3 else 2) a a.col
  let rest := x2.queue.erase q
  let keepOpen := !q.ap || rest.any (fun r => (s.cellOf r.line).bank == a.bank && (s.cellOf r.line).row == a.row)
  let t := s.now
  let w := if q.isWrite then x2.wrote ++ [(t, q.line)] else x2.wrote
  let x3 : Sub := { x2 with
    queue := rest
    flight := if q.isWrite then x2.flight else x2.flight ++ [q]
    rows := if keepOpen then tabIns a.bank (a.row, t) (tabDel a.bank x2.rows) else tabDel a.bank x2.rows
    wrote := w.drop (w.length - 64) }
  let rh := if hit then (x3, 0) else
    x3.activates (s.fget (Fld.DRC_RH.RH_THRESH c)) (if (s.chan c).d32 then 2 ^ 17 else 2 ^ 16) clk a 64 [a.row]
  let x4 := if Config.rfmRequired c && !hit then rh.1.manage (raaimt c) clk a (1 + 4 * rh.2) else rh.1
  let b := s.curBeat
  let seen : Chan → Chan := fun k => match q.kind with
    | .read _ => { k with hostLine := tabIns a.rank (q.line, b) (tabDel a.rank k.hostLine) }
    | _ => k
  (s.modChan c (fun k => ((seen k).touch a.rank t).modSub i (fun _ => x4))).bump (Fld.DRC_MAINT_CNT.NEIGHBOUR c)
    (Fld.DRC_MAINT_CNT.NB_SAT c) rh.2

/-- A read that the controller makes and gets back at once: a scrub read, a sample. -/
def State.passRead (s : State) (line : Nat) : State :=
  let q := DReq.mk (.page (line / 64) false) line s.now scarabPort false
  let c := s.lineChan line
  let i := (s.cellOf line).sub
  (s.issueReq c i q).modChan c (fun k => k.modSub i (fun x => { x with flight := x.flight.erase q }))

/-- The reads of 64 lines for an engine's work at a port have come back: what still waited is issued first, and they leave. -/
def State.pageRead (s : State) (base port : Nat) : State :=
  let todo := (List.range 8).flatMap (fun c => (List.range 2).flatMap (fun i =>
    (((s.chan c).sub i).queue.filter (DReq.readsFor base port)).map (fun q => (c, i, q))))
  (todo.foldl (fun s e => s.issueReq e.1 e.2.1 e.2.2) s).dropReqs (DReq.readsFor base port)

/-! ## Refresh slots (R252 to R254) -/

/-- tREFI of the plan in force. -/
def Chan.trefi (k : Chan) : Nat := if k.hotPlan then 1950 else 3900
/-- The maintenance slot: the first 256 ns of a beat (Table 03-9). -/
def maintNs : Nat := 256
/-- Where a refresh slot of a length lies whose place is colony time `t`: at the end of the maintenance slot where it would overlap
one. -/
def slotMoved (trfc t : Nat) : Nat :=
  if t % beatNs < maintNs then t / beatNs * beatNs + maintNs
  else if beatNs < t % beatNs + trfc then (t / beatNs + 1) * beatNs + maintNs
  else t
/-- The place of a logical rank's latest refresh slot: multiples of tREFI from its offset j × tREFI ÷ L. -/
def State.slotPlace (s : State) (c rank : Nat) : Nat :=
  let k := s.chan c
  let off := rank * k.trefi / k.logRanks
  off + (s.colTime - off) / k.trefi * k.trefi
/-- A refresh slot of a logical rank has come and has not been taken. -/
def State.slotDue (s : State) (c rank : Nat) : Bool :=
  let t := s.slotPlace c rank
  decide (rank < (s.chan c).logRanks) && decide (slotMoved (s.chan c).trfc t ≤ s.colTime) &&
    tabGet 0 rank (s.chan c).lastRef != t + 1
/-- The start of a logical rank's next slot. -/
def State.nextSlot (s : State) (c rank : Nat) : Nat :=
  slotMoved (s.chan c).trfc (if s.slotPlace c rank ≤ s.colTime then s.slotPlace c rank + (s.chan c).trefi else s.slotPlace c rank)

/-- POSTPONED shows the most refreshes postponed in any rank. -/
def State.showPostponed (s : State) (c : Nat) : State :=
  s.fsat (Fld.DRC_STS.POSTPONED c) (((s.chan c).owes.map (·.2)).foldl max 0)

/-- The slot of a logical rank in both subchannels (R252, R254): an all-bank refresh with those postponed before. It is postponed
while the rank is in an ALERT_n replay or leaves self-refresh, unless two are postponed already: then the replay stops, the rank is
refreshed first and the replay goes on. The extra time of postponed refreshes is an overrun. -/
def State.takeSlot (s : State) (c rank : Nat) : State :=
  let t := s.slotPlace c rank
  let s := s.modChan c (fun k => { k with lastRef := tabSet 0 rank (t + 1) k.lastRef })
  let owes := tabGet 0 rank (s.chan c).owes
  let late := (s.chan c).subs.any (fun e => e.2.replay == some rank) || decide (s.now < (s.chan c).xsUntil)
  if late && decide (owes < 2) then
    (s.modChan c (fun k => { k with owes := tabSet 0 rank (owes + 1) k.owes })).showPostponed c
  else
    let clk := s.tick c
    let f : Sub → Sub := fun x => x.refreshes clk rank (owes + 1) (raaimt c)
    let now := s.now
    let s := s.modChan c (fun k => { k with
      owes := tabSet 0 rank 0 k.owes
      down := setDel rank k.down
      busy := tabSet 0 rank (now + (owes + 1) * k.trfc) k.busy
      subs := tabSet Sub.new 1 (f (k.sub 1)) (tabSet Sub.new 0 (f (k.sub 0)) k.subs) })
    let s := if owes = 0 then s else s.overrun (c, owes * (s.chan c).trfc)
    s.showPostponed c
/-- Refresh slots that are due go before every request (R249). -/
def State.refreshDue (s : State) (c : Nat) : State :=
  (List.range (s.chan c).logRanks).foldl (fun s r => if s.slotDue c r then s.takeSlot c r else s) s

end Sys2Proof.Machine
end

