-- ==== Sys2Proof/Machine/Ckpt.lean ====
section
/-! DEFINITION. The checkpoints of an LD: taking the cut, retention and release (R133 to R138). -/

namespace Sys2Proof.Machine

/-- Pending checkpoints of an LD. -/
def Ld.pending (l : Ld) : List Ckpt := l.ckpts.filter (fun c => !c.complete)
/-- Complete, unreleased checkpoints of an LD. -/
def Ld.done (l : Ld) : List Ckpt := l.ckpts.filter (fun c => c.complete)
/-- The number of the newest complete checkpoint of an LD, 0 when there is none (R135); checkpoints stand in the order of their
cuts. -/
def Ld.newestNo (l : Ld) : Nat := (l.done.getLast?.map (·.no)).getD 0
/-- Its identifier, 0 when there is none. -/
def Ld.newestDone (l : Ld) : Nat := (l.done.getLast?.map (·.id)).getD 0
/-- The checkpoint of an LD that an identifier names. A binding restarts the cut sequence (R133, R279) and retained checkpoints of
an earlier one stay (R281), so that two may carry one identifier: the newest is meant (DESIGN CHOICE, log entry 99). -/
def Ld.ckpt? (l : Ld) (id : Nat) : Option Ckpt := l.ckpts.reverse.find? (fun c => c.id == id)
/-- A checkpoint of an LD by its number. -/
def Ld.ckptNo? (l : Ld) (no : Nat) : Option Ckpt := l.ckpts.find? (fun c => c.no == no)
/-- Retained checkpoints of an LD: complete or pending ones marked so (R137). -/
def Ld.retained (l : Ld) : List Ckpt := l.ckpts.filter (fun c => c.retain)

/-- EDDY_CKPT_STS shows the LD's checkpoints. -/
def State.showCkpts (s : State) (n : Nat) : State :=
  let l := s.ld n
  let s := s.fset (Fld.EDDY_CKPT_STS.PENDING n) l.pending.length
  let s := s.fset (Fld.EDDY_CKPT_STS.RETAINED n) l.retained.length
  let s := s.fset (Fld.EDDY_CKPT_STS.NEWEST_DONE n) l.newestDone
  s.fput (Fld.EDDY_CKPT_STS.OVER_WEIR n) (match l.pending.getLast? with | some c => c.overWeir | none => false)

/-- The checkpoint of a number changes. -/
def State.modCkpt (s : State) (n no : Nat) (f : Ckpt → Ckpt) : State :=
  s.modLd n (fun l => { l with ckpts := l.ckpts.map (fun c => if c.no == no then f c else c) })

/-- The checkpoint is named as the LD's refill source (R138, R176). -/
def State.namedSource (s : State) (n id : Nat) : Bool :=
  s.fget (Fld.RFL_LD_SRC.MODE n) == 1 && s.fget (Fld.RFL_LD_SRC.VALUE n) % 2 ^ 32 == id

/-- A complete checkpoint is released: its copies are free for garbage collection unless otherwise referenced (R138). -/
def State.dropCkpt (s : State) (n no : Nat) : State :=
  (s.modLd n (fun l => { l with ckpts := l.ckpts.filter (fun c => !(c.complete && c.no == no)) })).showCkpts n

/-- The LD's pages owed to the cut now taken (R133): DIRTY, CLEANING or FORKED. -/
def State.owedNow (s : State) (n : Nat) : List Nat :=
  ((s.pagesOf n).filter (fun e => e.2.st == .dirty || e.2.st == .cleaning || e.2.st == .forked)).map (·.1)

/-- Whether a cut takes a new checkpoint with retention (R137, R211): asked for, not suspended, and fewer than RETAIN_MAX
retained or a plunge or colony checkpoint to release for it. Causes: 0 CHECKPOINT_AT, 1 colony, 2 plunge. -/
def State.retainRoom (s : State) (n : Nat) : Option (Option Nat) :=
  let l := s.ld n
  if s.log.noRetain then none
  else if l.retained.length < s.fget Fld.EDDY_CFG.RETAIN_MAX then some none
  else match l.retained.find? (fun c => !c.kept && !(s.namedSource n c.id)) with
    | some c => some (some c.no)
    | none => none

/-- A retained checkpoint gives up its retention: released at once when complete, else when it completes (R137,
R138). -/
def State.giveUp (s : State) (n no : Nat) : State :=
  match (s.ld n).ckptNo? no with
  | some c => if c.complete then s.dropCkpt n no else s.modCkpt n no (fun c => { c with retain := false, release := true })
  | none => s

/-- Retention for a checkpoint that asks for it (R137): whether there is room for it, a plunge or colony checkpoint giving up
its own where RETAIN_MAX is reached. -/
def State.takeRetain (s : State) (n : Nat) (want : Bool) : State × Bool :=
  match want, s.retainRoom n with
  | true, some (some no) => (s.giveUp n no, true)
  | true, some none => (s, true)
  | _, _ => (s, false)

/-- The cut of one LD (R133 to R137): the cut sequence rises, the checkpoint takes it as identifier and holds every page
as it stands. A CHECKPOINTED LD's owed count is taken afresh, and past its allowance the checkpoint is OVER_WEIR.
A cut that would make more than 1,024 pending is not taken. -/
def State.takeCkpt (s : State) (n cause : Nat) (want late report : Bool) (rings : List (Nat × Nat)) : State × Bool :=
  let l := s.ld n
  if 1024 ≤ l.pending.length then (s, false)
  else
    let x := s.takeRetain n want
    let s := x.1
    let retain := x.2
    let l := s.ld n
    let id := (l.cutSeq + 1) % 2 ^ 32
    let no := l.cuts + 1
    let left := s.owedNow n
    let recs := ((s.pagesOf n).filter (fun e => !left.contains e.1)).map (fun e => (e.1, e.2))
    let c := Ckpt.mk no id s.curBeat cause s.newestGen retain false false false left recs l.dflt (l.extBase, l.extSize)
      none 0 rings false late report [] (cause == 0 && retain) [] [] false
    let s := s.modLd n (fun l => { l with cutSeq := id, cuts := no, ckpts := l.ckpts ++ [c] })
    let s := if s.cls n == 1 then s.recount n else s
    let tooBig : Bool := s.cls n == 1 && decide (s.allow n < (s.ld n).owed)
    let s := s.modCkpt n no (fun c => { c with overWeir := tooBig })
    (s.showCkpts n, true)

/-- OVER_WEIR of a checkpoint clears once its owed pages fit the allowance (R136). -/
def State.refitOverWeir (s : State) (n : Nat) : State :=
  let a := s.allow n
  if (s.ld n).ckpts.any (fun c => c.overWeir && decide (c.left.length ≤ a)) then
    (s.modLd n (fun l => { l with ckpts := l.ckpts.map (fun c =>
      if c.left.length ≤ a then { c with overWeir := false } else c) })).showCkpts n
  else s

/-- DEFICIT_ENTRY (R120): the device owed count against W_hard. -/
def State.checkDeficit (s : State) : State :=
  let deep := decide (s.weirHard < s.devOwed)
  if deep && !s.deficit then
    ((s.fset Fld.WEIR_STS.DEFICIT 1).bump Fld.WEIR_EVT.DEFICITS Fld.WEIR_EVT.SAT).fault (srcOf 14 7) 0x45 0
  else if !deep && s.deficit then
    (s.fset Fld.WEIR_STS.DEFICIT 0).fault (srcOf 14 7) 0x45 0 true
  else s

/-- WEIR_LD_STS and WEIR_OWED show the owed counts, allowances and levels as they stand (R117, R124). -/
def State.showOwed (s : State) : State :=
  let s := s.shareLds.foldl (fun s n =>
    ((s.fsat (Fld.WEIR_LD_STS.ALLOW n) (s.allow n)).fsat (Fld.WEIR_LD_STS.OWED n) (s.ld n).owed).fset
      (Fld.WEIR_LD_STS.LEVEL n) (s.level n)) s
  (s.fsat Fld.WEIR_OWED.POOL_FREE s.poolFree).fsat Fld.WEIR_OWED.OWED s.devOwed

/-- What follows from the owed counts as they stand: deficit (R120), OVER_WEIR (R136), the levels (R124), and what shows
them. -/
def State.showWeir (s : State) : State := (allLds.foldl (fun s n => s.refitOverWeir n) s.checkDeficit).showOwed

/-- A copy of page `p` at the cut of the checkpoint of a number is on flash: the checkpoint holds it and owes the page no more
(R135). -/
def State.ckptCopied (s : State) (n no p : Nat) (r : PageRec) : State :=
  s.modCkpt n no (fun c => { c with
    left := c.left.filter (· ≠ p)
    recs := tabIns p r (tabDel p c.recs) })

/-- A page is lost in DRAM and becomes POISONED (Table 05-3, R264): copies in flight are stale, its eddy copies stay, and what no
slot holds of it is poison to the cuts it was owed to, which it is owed to no more (Table 05-2). -/
def State.poisonPage (s : State) (p : Nat) : State :=
  let r := s.page p
  let served := (s.eddy.filter (fun e => e.2.page == p)).flatMap (fun e => e.2.cuts)
  let s := ((s.owedTo r.ld p).filter (fun no => !served.contains no)).foldl
    (fun s no => s.ckptCopied r.ld no p { r with st := .poisoned }) (s.staleCopies p)
  s.markPoisoned p

/-- CHECKPOINT_RELEASE of a retained or pending checkpoint (R138, R315): at once when complete, at completion when
pending. `none` when it names no such checkpoint, `some false` when a refill source names it. -/
def State.releaseCkpt (s : State) (n id : Nat) : Option (Bool × Bool × State) :=
  match (s.ld n).ckpt? id with
  | none => none
  | some c =>
    if c.release then none
    else if s.namedSource n id then some (false, false, s)
    else if c.complete then some (true, false, s.dropCkpt n c.no)
    else some (true, true, s.modCkpt n c.no (fun c => { c with release := true }))

end Sys2Proof.Machine
end

