-- ==== Sys2Proof/Machine/Colony.lean ====
section
/-! DEFINITION. Colony time, the Thobor link and the plunge (chapter 03): the commands FM_CHECKPOINT, COLONY_CHECKPOINT,
PLUNGE_N_EDGE to EPOCH_ANNOUNCE_SEND, and the operations other units use. -/

namespace Sys2Proof.Machine

/-! ## Roles, ports and times -/

/-- ROLE of COL_CTL (R41). -/
def State.isStandalone (s : State) : Bool := s.fget Fld.COL_CTL.ROLE == 0
def State.isMember (s : State) : Bool := s.fget Fld.COL_CTL.ROLE == 1
def State.isRoot (s : State) : Bool := s.fget Fld.COL_CTL.ROLE == 2
/-- MODULE_ID (R44). -/
def State.moduleId (s : State) : Nat := s.fget Fld.COL_ID.MODULE_ID

/-- Thobor port `p`. -/
def State.port (s : State) (p : Nat) : Port := tabGet ({ } : Port) p s.col.ports
/-- Thobor port `p` changes. -/
def State.modPort (s : State) (p : Nat) (f : Port → Port) : State :=
  s.modCol (fun c => { c with ports := tabSet ({ } : Port) p (f (tabGet ({ } : Port) p c.ports)) c.ports })
/-- Role of a port (Table 03-1): 0 DISABLED, 1 UPSTREAM, 2 DOWNSTREAM, 3 BACKUP. -/
def State.portRole (s : State) (p : Nat) : Nat := s.fget (Fld.COL_PORT_CFG.ROLE p)
def State.portUp (s : State) (p : Nat) : Bool := s.on (Fld.COL_PORT_STS.LINK_UP p)
def State.portIso (s : State) (p : Nat) : Bool := s.on (Fld.COL_PORT_STS.ISOLATED p)
def State.portSilent (s : State) (p : Nat) : Bool := s.on (Fld.COL_PORT_STS.SILENT p)
/-- The four ports. -/
def allPorts : List Nat := [0, 1, 2, 3]
/-- The selected port (R41). -/
def State.selPort (s : State) : Option Nat := allPorts.find? (fun p => s.on (Fld.COL_PORT_STS.SELECTED p))
/-- Domain 92 is ON: in RETENTION no frame is sent or received (Table 16-1). -/
def State.thoborOn (s : State) : Bool := s.fget (Fld.PDM_MODE.STATE 92) == 0
/-- The PLUNGE_N edge detector runs: it keeps running in the RETENTION of domain 92 (Table 16-1). -/
def State.edgeOn (s : State) : Bool := s.fget (Fld.PDM_MODE.STATE 92) != 2
/-- A port may send ordinary frames: the module is in a colony, the port is not DISABLED, up and not isolated (R82). -/
def State.canSend (s : State) (p : Nat) : Bool :=
  !s.isStandalone && s.portRole p != 0 && s.portUp p && !s.portIso p && s.thoborOn

/-- GUARD in force (R67, R80). -/
def State.guardNow (s : State) : Nat := s.col.guardNow.getD (s.fget Fld.COL_EPOCH_CFG.GUARD)
/-- K in force (R5, R67). -/
def State.kNow (s : State) : Nat := s.col.kNow.getD (s.fget Fld.COL_EPOCH_CFG.K)
/-- K in force at a beat to come. -/
def State.kAt (s : State) (b : Nat) : Nat :=
  match s.col.pend with
  | some p => if p.beat ≤ b then p.k else s.kNow
  | none => s.kNow
/-- The beat is an epoch boundary (R5). -/
def State.isEpoch (s : State) (b : Nat) : Bool := b % 2 ^ s.kAt b == 0

/-- Time state codes of COL_TIME_STS as frames send them (Table 03-5): 0 LOCKED, 1 ROOT, 2 ACQUIRING or FREE,
3 HOLDOVER. -/
def State.timeStateCode (s : State) : Nat :=
  match s.fget Fld.COL_TIME_STS.STATE with
  | 2 => 0 | 4 => 1 | 3 => 3 | _ => 2
/-- The module's depth (R43). -/
def State.depth (s : State) : Nat := s.fget Fld.COL_TIME_STS.DEPTH
/-- ROOT_ID this module sends and compares: its own on a root or standalone module. -/
def State.rootId (s : State) : Nat := if s.isMember then s.fget Fld.COL_TIME_STS.ROOT_ID else s.moduleId

/-- A frame of this module's own. -/
def State.mkFrame (s : State) (hops : Nat) (b : FrameBody) : Frame := b.frame hops s.moduleId

/-- A frame goes out on every port of a set. -/
def State.sendOn (s : State) (ps : List Nat) (f : Frame) : State := ps.foldl (fun s p => s.sendFrame p f) s
/-- Ports that may send ordinary frames whether or not they are up: ROLE frames go out on them (Table 03-6), without which no port
would come up (R47). -/
def State.rolePorts (s : State) : List Nat :=
  allPorts.filter (fun p => !s.isStandalone && s.portRole p != 0 && !s.portIso p && s.thoborOn)
/-- DOWNSTREAM ports able to send. -/
def State.downPorts (s : State) : List Nat := allPorts.filter (fun p => s.portRole p == 2 && s.canSend p)

/-- The time state of Table 03-7 changes. -/
def State.setTime (s : State) (st : Nat) : State := s.fset Fld.COL_TIME_STS.STATE st

/-! ## Link errors and isolation (R81, R82) -/

/-- The number of the present window of 1,024 beats, 8,388,608 ns: windows follow one another on the always-on clock, which steps of
colony time leave alone (DESIGN CHOICE, log entry 93). -/
def State.errWindow (s : State) : Nat := s.now / 8388608
/-- The errors of a port in the present window count from 0 again, and it starts here. -/
def State.newErrWindow (s : State) (p : Nat) : State :=
  let w := s.errWindow
  s.modPort p (fun q => { q with errWin := 0, winStart := w })

/-- Port `p` is isolated for ordinary traffic (R82): counted; of the frames that wait for its line only PLUNGE frames stay, and the
clean window that lifts it begins after this one. -/
def State.isolatePort (s : State) (p : Nat) : State :=
  let w := s.errWindow
  let s := s.modPort p (fun q => { q with winStart := w })
  let x := s.txPort p
  let s : State := { s with tx := tabSet TxPort.new p { x with wait := x.wait.filter (fun f => f.type == 3) } s.tx }
  if s.portIso p then s.setUnit (72 + p) 2
  else ((s.setUnit (72 + p) 2).fset (Fld.COL_PORT_STS.ISOLATED p) 1).bump (Fld.COL_PORT_ERRB.ISO_EVENTS p)
    (Fld.COL_PORT_ERRB.ISO_SAT p)

/-- One CRC failure or malformed frame on port `p` falls into the present window; past THRESH the port is isolated. -/
def State.portError (s : State) (p : Nat) : State :=
  let w := s.errWindow
  let q := s.port p
  let n := (if q.errWin != 0 && q.winStart == w then q.errWin else 0) + 1
  let s := s.modPort p (fun q => { q with errWin := n, winStart := w })
  if s.fget Fld.COL_ISO_CFG.THRESH < n && !s.portIso p then
    (s.isolatePort p).fault (srcOf (72 + p) 7) 0x4C p
  else s

/-- A malformed frame is counted (R81). -/
def State.malformed (s : State) (p : Nat) : State :=
  (s.bump (Fld.COL_PORT_ERRB.MALFORMED p) (Fld.COL_PORT_ERRB.MAL_SAT p)).portError p
/-- A frame that fails its CRC is counted (R50) and reported (Table 14-4, LINK_CRC). -/
def State.crcFail (s : State) (p : Nat) : State :=
  ((s.bump (Fld.COL_PORT_ERRA.CRC_ERR p) (Fld.COL_PORT_ERRA.CRC_SAT p)).fault (srcOf (72 + p) 2) 0x05 0).portError p

/-- Isolation of port `p` lifts (R82); errors of the present window count from 0 again (DESIGN CHOICE, log entry 93). -/
def State.liftIsolation (s : State) (p : Nat) : State :=
  if s.portIso p then
    (((s.setUnit (72 + p) 0).fset (Fld.COL_PORT_STS.ISOLATED p) 0).newErrWindow p).fault (srcOf (72 + p) 7) 0x4C p true
  else s

/-- Code violations of a port are counted (R81). -/
def State.codeErrors (s : State) (p n : Nat) : State :=
  if n = 0 then s else s.bump (Fld.COL_PORT_ERRA.CODE_ERR p) (Fld.COL_PORT_ERRA.CODE_SAT p) n

/-- What becomes of a received frame before its own rule: dropped with the state the drop leaves, or taken. `entitled`
says whether R52 lets this port receive it. Code violations before it are counted. -/
def State.rxFrame (s : State) (p : Nat) (f : Frame) (entitled plunge : Bool) (take : State → State) : State :=
  if s.isStandalone || s.portRole p == 0 || !s.thoborOn then s
  else
  let s := s.codeErrors p f.codeErrs
  if !f.crcOk then s.crcFail p
  else if !f.headerOk then s.malformed p
  else if !entitled then s.malformed p
  else if s.portIso p && !plunge then s
  else take s

/-- The ROOT_ID of the selected port: that of its last BEACON, or before one that of its last FIREFLY or ROLE (R59). -/
def State.selRoot (s : State) : Option Nat :=
  s.selPort.bind (fun p => ((s.port p).beacon.map (·.rootId)).or (s.port p).rootSeen)

/-- ROOT_CONFLICT (R59): a member hears a root other than its selected port's, once that port has named one; a root hears any
BEACON. -/
def State.checkRoot (s : State) (root : Nat) (beacon : Bool) : State :=
  let bad := if s.isMember then s.selRoot.any (· != root) else s.isRoot && beacon
  if bad then (s.fset Fld.COL_TIME_STS.ROOT_CONFLICT 1).fault (srcOf 76 7) 0x49 root else s

/-! ## The plunge window (R70 to R75) -/

/-- The cut beat of the open window. -/
def State.windowT (s : State) : Option Nat := s.col.window.map (·.tw)
/-- T of the open window has passed locally (R70). With no window open there is none, and PASSED of COL_PLUNGE_INFO reads 0, though
CUT_BEAT keeps the last window's T (DESIGN CHOICE, log entry 101). -/
def State.windowPassed (s : State) : Bool :=
  match s.col.window with
  | some w => decide (w.tw ≤ s.curBeat)
  | none => false

/-- An announcement with cut beat `t` lies outside 64 beats of local time (R71). -/
def State.farAnnounce (s : State) (t : Nat) : Bool := decide (s.curBeat + 64 < t) || decide (t + 64 < s.curBeat)

/-- An announcement opens the window or replaces its T (R71). -/
def State.annWins (s : State) (t : Nat) : Bool :=
  match s.col.window with
  | none => true
  | some w => decide (s.curBeat < w.tw) && decide (t < w.tw)

/-- The merging rule of R71, for an announcement it does not drop: cut beat, cause, originator, group mask, and
whether the event is this module's own. A window's group mask and ownership grow only before its T has passed
(R74). A spill of this module's own that waits for the window's T moves with it (R72). -/
def State.mergeAnn (s : State) (t cause origin groups : Nat) (own : Bool) : State :=
  let now := s.curBeat
  let wins := s.annWins t
  let late := wins && decide (t ≤ now)
  let t' := if decide (now < t) then t else now + 1
  let opening := s.col.window.isNone
  let w0 : PlungeWin := s.col.window.getD (PlungeWin.mk s.colTime t' false 0 false none 0 false)
  let open_ := opening || decide (now < w0.tw)
  let w : PlungeWin :=
    { w0 with
      tw := if wins then t' else w0.tw
      ownSpill := w0.ownSpill.map (fun x => if wins then t' else x)
      late := w0.late || late
      groups := if open_ then w0.groups ||| groups else w0.groups
      own := w0.own || (open_ && own) }
  let s := s.modCol (fun c => { c with window := some w })
  let s := if opening then
      ((s.bump Fld.COL_PLUNGE_CNT.WINDOWS Fld.COL_PLUNGE_CNT.WIN_SAT).fset Fld.COL_PLUNGE_INFO.MERGED 0).fset
        Fld.COL_PLUNGE_INFO.OWN_SPILL 0
    else s
  let s := s.satUp Fld.COL_PLUNGE_INFO.MERGED
  let s := if late then s.bump Fld.COL_PLUNGE_CNT.LATE_CUTS Fld.COL_PLUNGE_CNT.LATE_SAT else s
  let s := (s.fset Fld.COL_PLUNGE_STS.OPEN 1).fput Fld.COL_PLUNGE_STS.LATE w.late
  if wins then
    ((s.fset Fld.COL_PLUNGE_STS.ORIGIN origin).fset Fld.COL_PLUNGE_STS.CUT_BEAT w.tw).fset
      Fld.COL_PLUNGE_INFO.CAUSE cause
  else s

/-- Ports a PLUNGE goes out on (Table 03-6): every port that is not DISABLED, isolated or not; none of a STANDALONE module, whose
ports are ignored (R41; DESIGN CHOICE, log entry 93). -/
def State.plungePorts (s : State) : List Nat :=
  if s.isStandalone then [] else allPorts.filter (fun p => s.portRole p != 0)

/-- This module announces a PLUNGE frame of its own, REP 0, and will repeat it (R73, R76). -/
def State.announce (s : State) (cause cut groups : Nat) : State :=
  (s.sendOn s.plungePorts (s.mkFrame 0 (.plunge 0 cause cut (BitVec.ofNat 64 groups)))).modCol
    (fun c => { c with reps := c.reps ++ [PlungeRep.mk 0 cause cut groups] })

/-- An event of this module's own announces a plunge at current beat + GUARD (Table 03-10, R73): merged, and sent as
a frame when its T opens a window or replaces the window's. -/
def State.ownPlunge (s : State) (cause : Nat) : State :=
  let t := s.curBeat + s.guardNow
  let g := s.fget Fld.COL_GROUP_MASK.GROUPS
  let wins := s.annWins t
  let s := s.mergeAnn t cause s.moduleId g true
  if wins then s.announce cause t g else s

/-- PLUNGE_N is pulled low by this module (R73, R77). -/
def State.pullPlungeN (s : State) : State :=
  ((s.modCol (fun c => { c with driveLow := true })).fset Fld.COL_PLUNGE_INFO.PLUNGEN_LOW 1).emit (.pin .plungeN false)

/-- PLUNGE_N is released by this module (R77). The line rises when every holder has released it, which an edge reports (R78). -/
def State.releasePlungeN (s : State) : State :=
  if s.col.driveLow then (s.modCol (fun c => { c with driveLow := false })).emit (.pin .plungeN true) else s

/-- An own event that makes the module spill (R72): at the window's T when that has not passed, else at its own
detection beat + GUARD, which it then announces. -/
def State.ownSpill (s : State) (cause : Nat) : State :=
  let t := s.curBeat + s.guardNow
  let g := s.fget Fld.COL_GROUP_MASK.GROUPS
  let s := if s.windowPassed then
      let s := s.mergeAnn t cause s.moduleId g true
      (s.announce cause t g).modCol (fun c => { c with window := c.window.map (fun w =>
        { w with ownSpill := some (w.ownSpill.getD t), spillCause := if w.ownSpill.isNone then cause else w.spillCause }) })
    else
      let s := s.ownPlunge cause
      s.modCol (fun c => { c with window := c.window.map (fun w =>
        { w with ownSpill := some w.tw, spillCause := if w.ownSpill.isNone then cause else w.spillCause }) })
  (s.fset Fld.COL_PLUNGE_INFO.OWN_SPILL 1).pullPlungeN

/-! ## Plunge commands -/

/-- FM_CHECKPOINT (R74, Table 03-10): COL_PLUNGE_CMD with SPILL 0. -/
def fmCheckpoint (s : State) : State := if s.dev == .off then s else s.ownPlunge 2
def execFmCheckpoint (dt : Nat) (s : State) : Host.Outcome State Fault Refusal := .next ((s.elapse dt).viaReg 0x1900A0 fmCheckpoint)

/-- COLONY_CHECKPOINT (R69): COL_CKPT_CMD with GO. A module that is its own root takes it as a root does (log entry
14). -/
def colonyCheckpoint (boundary : Nat) (s : State) : State :=
  if !s.isMember && decide (s.curBeat + 16 ≤ boundary) && s.isEpoch boundary then
    let m := s.fget Fld.COL_CKPT_MASK.GROUPS
    s.modCol (fun c => { c with
      announce := tabIns boundary m (tabDel boundary c.announce)
      ckpts := tabIns boundary m (tabDel boundary c.ckpts)
      ckptTaken := setIns boundary c.ckptTaken })
  else s.bump Fld.COL_CKPT_CNT.IGNORED Fld.COL_CKPT_CNT.IG_SAT
def execColonyCheckpoint (dt boundary : Nat) (s : State) : Host.Outcome State Fault Refusal :=
  .next ((s.elapse dt).viaReg 0x1900B0 (colonyCheckpoint boundary))

/-- PLUNGE_N_EDGE (R78): the line's level changes. A fall that stays low for 100 ns is an announcement of cause PLUNGE_N at the
beat of the edge + GUARD, with COL_PLUNGEN_MASK. A module acts on it only in REFILLING or SERVING (R74). -/
def plungeNEdge (low : Bool) (s : State) : State :=
  let s := s.fput Fld.COL_PLUNGE_INFO.PLUNGEN_LOW (low || s.col.driveLow)
  if low && s.on Fld.COL_CTL.PLUNGEN_EN && s.edgeOn && s.isOpen then
    let t := s.curBeat + s.guardNow
    let g := s.fget Fld.COL_PLUNGEN_MASK.GROUPS
    let wins := s.annWins t
    let s := s.mergeAnn t 5 s.moduleId g false
    if wins then s.announce 5 t g else s
  else s

/-- PLUNGE_REPEAT (R76): at a boundary before T, each own frame is sent again with REP 1, 2, 3. -/
def plungeRepeat (s : State) : State :=
  let b := s.curBeat
  let due := s.col.reps.filter (fun r => decide (b < r.cutBeat) && decide (r.rep < 3))
  let s := due.foldl (fun s r => s.sendOn s.plungePorts
    (s.mkFrame 0 (.plunge (r.rep + 1) r.cause r.cutBeat (BitVec.ofNat 64 r.groups)))) s
  s.modCol (fun c => { c with reps := due.map (fun r => { r with rep := r.rep + 1 }) })
def execPlungeRepeat (s : State) : Host.Outcome State Fault Refusal := .next (plungeRepeat s)

/-- The window closes: PLUNGE_N is released and the status keeps the last T (R71, R77). A spill of this module's own that is
still to come stays due (R144). -/
def State.closeWindow (s : State) : State :=
  let due : Option OwnCut := match s.col.window with
    | some w => (match w.ownSpill with
      | some t => if s.curBeat ≤ t || !w.cut then some (OwnCut.mk t w.spillCause w.late) else none
      | none => none)
    | none => none
  let s := (s.modCol (fun c => { c with window := none, ownCut := (due.or c.ownCut) })).fset Fld.COL_PLUNGE_STS.OPEN 0
  s.releasePlungeN

/-- PLUNGE_WINDOW_CLOSE (R71): 64 beats of colony time after the window opened. -/
def plungeWindowClose (s : State) : State :=
  match s.col.window with
  | some w => if decide (w.openAt + 64 * beatNs ≤ s.colTime) then s.closeWindow else s
  | none => s
def execPlungeWindowClose (dt : Nat) (s : State) : Host.Outcome State Fault Refusal :=
  .next (plungeWindowClose (s.elapse dt))

/-- A PLUNGE frame is forwarded once for each (ORIGIN, CUT_BEAT, REP) on every port but its arrival port (R76). -/
def State.forwardPlunge (s : State) (p : Nat) (f : Frame) (rep cut : Nat) : State :=
  let b := s.curBeat
  let kept := s.col.fwd.filter (fun x => decide (b < x.2.2.2 + 64))
  let seen := kept.any (fun x => x.1 == f.origin && x.2.1 == cut && x.2.2.1 == rep)
  if seen || f.hops == 15 then s.modCol (fun c => { c with fwd := kept })
  else (s.sendOn (s.plungePorts.filter (· != p)) (f.withHops (f.hops + 1))).modCol
    (fun c => { c with fwd := kept ++ [(f.origin, cut, rep, b)] })

/-- PLUNGE_RX (R76, R71, R74): forwarded in every device state, merged in REFILLING and SERVING; a CUT_BEAT that R71
drops is malformed in every state. -/
def plungeRx (p : Nat) (f : Frame) (s : State) : State :=
  s.rxFrame p f true true (fun s =>
    match f.body with
    | .plunge rep cause cut groups =>
      let s := s.forwardPlunge p f rep cut
      if s.farAnnounce cut then s.malformed p
      else if s.isOpen then s.mergeAnn cut cause f.origin groups.toNat false
      else s
    | _ => s)
def execPlungeRx (dt port : Nat) (f : Frame) (s : State) : Host.Outcome State Fault Refusal :=
  .next (plungeRx port f (s.elapse dt))

/-! ## Time transfer (R53 to R57) -/

/-- A time difference of 32-bit stamps, signed (R53). -/
def diff32 (a b : Int) : Int := ofField 32 ((a - b) % (2 ^ 32 : Nat)).toNat

/-- Colony time steps by `-offset` (R56). A plunge T, or a later cut of this module's own, that a forward step skips is late and comes at the next
boundary (R57, R75). -/
def State.stepTime (s : State) (offset : Int) : State :=
  let old := s.curBeat
  let s := ({ s with colTime := ((s.colTime : Int) - offset).toNat } : State).fset Fld.COL_TIME_STS.STEPPED 1
  let new := s.curBeat
  let s := if new < old then { s with beat := min s.beat new } else s
  let skips := fun (t : Nat) => decide (old < t) && decide (t ≤ new)
  let w' := s.col.window.map (fun w =>
    let a := skips w.tw && !w.cut
    let b := w.ownSpill.any skips
    { w with
      tw := if a then new + 1 else w.tw
      ownSpill := if b then some (new + 1) else w.ownSpill
      late := w.late || a || b })
  let o' := s.col.ownCut.map (fun o => if skips o.beat then { o with beat := new + 1, late := true } else o)
  let late := decide (w' ≠ s.col.window) || decide (o' ≠ s.col.ownCut)
  let s := s.modCol (fun c => { c with window := w', ownCut := o' })
  if late then
    let s := (s.fset Fld.COL_PLUNGE_STS.LATE 1).bump Fld.COL_PLUNGE_CNT.LATE_CUTS Fld.COL_PLUNGE_CNT.LATE_SAT
    match w' with
    | some w => if w.cut then s else s.fset Fld.COL_PLUNGE_STS.CUT_BEAT w.tw
    | none => s
  else s

/-- The step rule (R56) for an offset beyond 1,000 ns, by device state. -/
def State.stepRule (s : State) (offset : Int) : State :=
  match s.dev with
  | .training | .basin => (s.stepTime offset).fset Fld.COL_TIME_STS.TIME_FAR 0
  | .refilling | .serving =>
    if offset < 0 then (s.stepTime offset).fset Fld.COL_TIME_STS.TIME_FAR 0
    else if offset ≤ 1000000 then
      (s.modCol (fun c => { c with trim64 := -12800, slewNext := 0 })).fset Fld.COL_TIME_STS.TIME_FAR 0
    else s.fset Fld.COL_TIME_STS.TIME_FAR 1
  | _ => s

/-- The servo (R53): trim by a 64th of the offset within ±200 ppm, slew a quarter, toward zero (DESIGN CHOICE, log entry 92), over
the next beat. -/
def State.servo (s : State) (offset : Int) : State :=
  (s.modCol (fun c => { c with
    trim64 := max (-12800) (min 12800 (c.trim64 - offset))
    slewNext := -(offset.tdiv 4) })).fset Fld.COL_TIME_STS.TIME_FAR 0

/-- LOCKED and ACQUIRING by the measured offset (R54): 16 consecutive beats within 8 ns, 4 beyond 64 ns. A beat without a
measurement breaks the run. -/
def State.lockRule (s : State) (offset : Int) : State :=
  let now := s.curBeat
  let was := s.col.measAt
  let run := fun (ok : Bool) (n : Nat) => if !ok then 0 else if was = now + 1 then max 1 n else if was = now then n + 1 else 1
  let g := run (decide (offset.natAbs ≤ 8)) s.col.good
  let b := run (decide (64 < offset.natAbs)) s.col.bad
  let s := s.modCol (fun c => { c with good := g, bad := b, measAt := now + 1 })
  match s.fget Fld.COL_TIME_STS.STATE with
  | 1 => if 16 ≤ g then (s.setTime 2).modCol (fun c => { c with good := 0, bad := 0 }) else s
  | 2 => if 4 ≤ b then (s.setTime 1).modCol (fun c => { c with good := 0, bad := 0 }) else s
  | _ => s

/-- What a measurement on the selected port does: COL_SYNC, then step or servo (R53), then the time state (R54). -/
def State.measured (s : State) (delay offset : Int) : State :=
  let s := (s.fset Fld.COL_SYNC.DELAY_NS (toField 16 delay)).fset Fld.COL_SYNC.OFFSET_NS (toField 32 offset)
  let s := if 1000 < offset.natAbs then s.stepRule offset else s.servo offset
  s.lockRule offset

/-- Depth and root of the selected port's BEACON (R43). -/
def State.takeDepth (s : State) (depth root : Nat) : State :=
  let s := (s.fsat Fld.COL_TIME_STS.DEPTH (depth + 1)).fset Fld.COL_TIME_STS.ROOT_ID root
  if 10 < depth + 1 then s.fset Fld.COL_TIME_STS.DEPTH_EXCEEDED 1 else s

/-- BEACON_RX (R53, R52, R59): the BEACON of the selected port disciplines time; those of BACKUP ports are measured
only; an UPSTREAM port may receive one before it is selected (Table 03-1, log entry 14). Halves are rounded toward zero (DESIGN
CHOICE, log entry 92). -/
def beaconRx (p t2 : Nat) (f : Frame) (s : State) : State :=
  let entitled := s.isMember && (s.portRole p == 1 || s.portRole p == 3)
  let hears := f.crcOk && f.headerOk && !s.isStandalone && s.portRole p != 0 && !s.portIso p
  match f.body with
  | .beacon txTime senderState root echoT4 echoSeq =>
    (if hears then s.checkRoot root true else s).rxFrame p f entitled false (fun s =>
      let sel := s.selPort == some p
      let s := s.modPort p (fun q => { q with
        beacon := some (BeaconInfo.mk f.hops root senderState)
        rootSeen := some root })
      let s := if sel then s.takeDepth f.hops root else s
      match (s.txPort p).t3.find? (fun e => e.1 == echoSeq) with
      | some e =>
        let fwd : Int := (t2 : Int) - (txTime : Int)
        let delay := (diff32 (diff32 fwd 0 + diff32 (echoT4 : Int) (e.2 : Int)) 0).tdiv 2
        let offset := fwd - delay - ofField 8 (s.fget (Fld.COL_PORT_CFG.ASYM_NS p))
        if sel then s.measured delay offset else s
      | none => s)
  | _ => s.rxFrame p f true false id
def execBeaconRx (dt port t2 : Nat) (f : Frame) (s : State) : Host.Outcome State Fault Refusal :=
  .next (beaconRx port t2 f (s.elapse dt))

/-- FIREFLY_RX (R53, R47): its stamp t4 goes back in the next BEACON, and the port stops being silent. -/
def fireflyRx (p t4 : Nat) (f : Frame) (s : State) : State :=
  s.rxFrame p f true false (fun s =>
    match f.body with
    | .firefly _ _ _ seq root =>
      let s := s.checkRoot root false
      let b := s.curBeat
      (s.modPort p (fun q => { q with
        lastFirefly := b
        echoT4 := t4 % 2 ^ 32
        echoSeq := seq
        rootSeen := some root })).fset (Fld.COL_PORT_STS.SILENT p) 0
    | _ => s)
def execFireflyRx (dt port t4 : Nat) (f : Frame) (s : State) : Host.Outcome State Fault Refusal :=
  .next (fireflyRx port t4 f (s.elapse dt))

/-- ROLE_RX (R47, R44): the neighbour's entry, and ID_CONFLICT when it carries this module's MODULE_ID. -/
def roleRx (p : Nat) (f : Frame) (s : State) : State :=
  s.rxFrame p f true false (fun s =>
    match f.body with
    | .role depth _ _ _ root =>
      let s := s.checkRoot root false
      let s := (s.fset (Fld.COL_PORT_STS.NEIGH_ID p) f.origin).fset (Fld.COL_PORT_STS.NEIGH_DEPTH p) depth
      let s := s.modPort p (fun q => { q with rootSeen := some root })
      if f.origin == s.moduleId then (s.fset Fld.COL_TIME_STS.ID_CONFLICT 1).fault (srcOf 76 7) 0x4A p else s
    | _ => s)
def execRoleRx (dt port : Nat) (f : Frame) (s : State) : Host.Outcome State Fault Refusal :=
  .next (roleRx port f (s.elapse dt))

/-! ## Configuration and epochs (R67 to R69) -/

/-- GUARD and K that wait come into force once their EFFECTIVE_BEAT has begun (R67). -/
def State.applyConfig (s : State) : State :=
  match s.col.pend with
  | some p => if p.beat ≤ s.curBeat then
      s.modCol (fun c => { c with guardNow := some p.guard, kNow := some p.k, pend := none }) else s
  | none => s

/-- CONFIG_RX (R67, R81): a member takes GUARD and K from its selected port and passes the frame on. -/
def configRx (p : Nat) (f : Frame) (s : State) : State :=
  match f.body with
  | .config gen guard k eff =>
    let ok := s.isMember && s.selPort == some p && decide (2 ≤ guard) && decide (guard ≤ 15) && decide (7 ≤ k) &&
      decide (k ≤ 21)
    s.rxFrame p f ok false (fun s =>
      let s := s.modCol (fun c => { c with
        pend := some (PendCfg.mk guard k eff)
        cfgLast := some gen })
      (s.sendOn (s.downPorts.filter (· != p)) f).applyConfig)
  | _ => s.rxFrame p f true false id
def execConfigRx (dt port : Nat) (f : Frame) (s : State) : Host.Outcome State Fault Refusal :=
  .next (configRx port f (s.elapse dt))

/-- EPOCH_ANNOUNCE_RX (R68, R69): checked against the member's own arithmetic, passed on, and taken as a colony
checkpoint once when CKPT is 1. -/
def epochAnnounceRx (p : Nat) (f : Frame) (s : State) : State :=
  s.rxFrame p f true false (fun s =>
    match f.body with
    | .epochAnnounce ckpt k boundary groups =>
      if s.isMember && s.selPort == some p then
        let s := if k != s.kAt boundary || !s.isEpoch boundary then
          s.fault (srcOf 76 7) 0x4B (boundary % 2 ^ 40) else s
        let s := s.sendOn (s.downPorts.filter (· != p)) f
        if ckpt && !s.col.ckptTaken.contains boundary then
          s.modCol (fun c => { c with
            ckpts := tabIns boundary groups.toNat (tabDel boundary c.ckpts)
            ckptTaken := setIns boundary c.ckptTaken })
        else s
      else s
    | _ => s)
def execEpochAnnounceRx (dt port : Nat) (f : Frame) (s : State) : Host.Outcome State Fault Refusal :=
  .next (epochAnnounceRx port f (s.elapse dt))

/-- A SEAL_REPORT as the event record of Table 11-8: flags, origin, receiver's root, cut beat, generation, incomplete
LDs, beat of receipt. -/
def State.postSealReport (s : State) (complete late : Bool) (kind cut gen : Nat) (inc : BitVec 32) (origin : Nat)
    (relayed : Bool) : State :=
  let flags := kind % 2 + (if late then 2 else 0) + (if complete then 4 else 0) + (if relayed then 8 else 0)
  s.postEvent fmLd (if complete then 0 else 1) 2
    [flags, origin, s.rootId, cut % 2 ^ 48, gen, inc.toNat, s.curBeat]

/-- This module creates a SEAL_REPORT (R52): a member sends it on its selected port, a root or standalone module
delivers it to the FM. -/
def State.sendSealReport (s : State) (complete late : Bool) (kind cut gen : Nat) (inc : BitVec 32) : State :=
  if s.isMember then
    match s.selPort with
    | some p => if s.canSend p then s.sendFrame p (s.mkFrame 0 (.sealReport complete late kind cut gen inc)) else s
    | none => s
  else s.postSealReport complete late kind cut gen inc s.moduleId false

/-- SEAL_REPORT_RX (R52): a member forwards it on its selected port, the root delivers it. -/
def sealReportRx (p : Nat) (f : Frame) (s : State) : State :=
  s.rxFrame p f true false (fun s =>
    match f.body with
    | .sealReport complete late kind cut gen inc =>
      if s.isMember then
        match s.selPort with
        | some q => if s.canSend q && q != p then s.sendFrame q f else s
        | none => s
      else s.postSealReport complete late kind cut gen inc f.origin true
    | _ => s)
def execSealReportRx (dt port : Nat) (f : Frame) (s : State) : Host.Outcome State Fault Refusal :=
  .next (sealReportRx port f (s.elapse dt))

/-! ## Ports and selection -/

/-- ISOLATION_AUTO_LIFT (R82): a whole window without an errored frame has passed and AUTO_LIFT is 1. -/
def isolationAutoLift (p : Nat) (s : State) : State :=
  if s.on Fld.COL_ISO_CFG.AUTO_LIFT && decide ((s.port p).winStart + 2 ≤ s.errWindow) then s.liftIsolation p else s
def execIsolationAutoLift (port : Nat) (s : State) : Host.Outcome State Fault Refusal :=
  .next (isolationAutoLift port s)

/-- ISOLATION_LIFT (R82): the FM writes bit 16 + p of COL_ISO_CFG. -/
def execIsolationLift (dt port : Nat) (s : State) : Host.Outcome State Fault Refusal :=
  .next ((s.elapse dt).viaReg 0x190060 (fun s => if port < 4 then s.liftIsolation port else s))

/-- The ROLE frame of a port (Table 03-5). -/
def State.roleFrame (s : State) (p : Nat) : Frame :=
  s.mkFrame 0 (.role s.depth p (s.portRole p) (s.fget Fld.COL_CTL.ROLE) s.rootId)

/-- A port sends its ROLE frame. -/
def State.sendRole (s : State) (p : Nat) : State := if s.rolePorts.contains p then s.sendFrame p (s.roleFrame p) else s

/-- PORT_UP (R47): symbol lock, 16 IDLE sets and one ROLE frame. A ROLE frame goes out at link-up (Table 03-6). -/
def portUp (p : Nat) (s : State) : State :=
  if s.isStandalone || s.portRole p == 0 || !s.thoborOn then s
  else
    let b := s.curBeat
    (((s.fset (Fld.COL_PORT_STS.LINK_UP p) 1).fset (Fld.COL_PORT_STS.SILENT p) 0).modPort p
      (fun q => { q with lastFirefly := b })).sendRole p
def execPortUp (dt port : Nat) (s : State) : Host.Outcome State Fault Refusal := .next (portUp port (s.elapse dt))

/-- PORT_DOWN (R47). -/
def portDown (p : Nat) (s : State) : State := s.fset (Fld.COL_PORT_STS.LINK_UP p) 0
def execPortDown (dt port : Nat) (s : State) : Host.Outcome State Fault Refusal := .next (portDown port (s.elapse dt))

/-- PORT_SILENT (R47): 3 consecutive beats, those after the beat of the last valid FIREFLY, have passed without one. -/
def portSilentRow (p : Nat) (s : State) : State :=
  if s.portUp p && decide ((s.port p).lastFirefly + 3 < s.curBeat) then s.fset (Fld.COL_PORT_STS.SILENT p) 1 else s
def execPortSilent (port : Nat) (s : State) : Host.Outcome State Fault Refusal := .next (portSilentRow port s)

/-- A port becomes the selected port; time states FREE and HOLDOVER become ACQUIRING (R54). -/
def State.select (s : State) (p : Nat) : State :=
  let s := allPorts.foldl (fun s q => s.fput (Fld.COL_PORT_STS.SELECTED q) (q == p)) s
  let s := match (s.port p).beacon with
    | some b => s.takeDepth b.depth b.rootId
    | none => s
  let s := s.modCol (fun c => { c with lost := false })
  if s.fget Fld.COL_TIME_STS.STATE == 0 || s.fget Fld.COL_TIME_STS.STATE == 3 then
    (s.setTime 1).modCol (fun c => { c with good := 0, bad := 0 }) else s

/-- A BACKUP port is eligible (R60): up, not silent, not isolated, the same root, a sender LOCKED or ROOT, and a depth
no greater than the member's own before the loss. -/
def State.eligible (s : State) (root depth p : Nat) : Bool :=
  s.portRole p == 3 && s.portUp p && !s.portSilent p && !s.portIso p &&
  (match (s.port p).beacon with
   | some b => b.rootId == root && (b.state == 0 || b.state == 1) && decide (b.depth ≤ depth)
   | none => false)

/-- The selected port is lost (R60): the module's depth and root before the loss are kept. -/
def State.loseSelected (s : State) : State :=
  match s.selPort with
  | some p =>
    let d := s.depth
    let r := s.fget Fld.COL_TIME_STS.ROOT_ID
    (s.fset (Fld.COL_PORT_STS.SELECTED p) 0).modCol (fun c => { c with lost := true, mayUp := false, depthWas := d, rootWas := r })
  | none => s

/-- BACKUP_SELECT (R60, R54): the selected port has gone silent or down; the eligible BACKUP port of lowest depth, then
lowest number, is selected, or the module enters HOLDOVER. -/
def backupSelect (s : State) : State :=
  if !s.isMember then s
  else
    let s := match s.selPort with
      | some p => if !s.portUp p || s.portSilent p then s.loseSelected else s
      | none => s
    if s.col.lost then
      let cands := allPorts.filter (s.eligible s.col.rootWas s.col.depthWas)
      let depthOf := fun p => match (s.port p).beacon with | some b => b.depth | none => 16
      match cands.foldl (fun best p => match best with
          | none => some p
          | some q => if depthOf p < depthOf q then some p else some q) none with
      | some p => s.select p
      | none => if s.fget Fld.COL_TIME_STS.STATE == 1 || s.fget Fld.COL_TIME_STS.STATE == 2 then s.setTime 3 else s
    else s
def execBackupSelect (s : State) : Host.Outcome State Fault Refusal := .next (backupSelect s)

/-- UPSTREAM_SELECT (R42, R61): the UPSTREAM port is up with the roles committed; a member that lost it selects it
again only after a COMMIT of its roles. -/
def upstreamSelect (s : State) : State :=
  if s.isMember && s.col.mayUp then
    match allPorts.find? (fun p => s.portRole p == 1 && s.portUp p) with
    | some p => if s.selPort == some p then s else s.select p
    | none => s
  else s
def execUpstreamSelect (s : State) : Host.Outcome State Fault Refusal := .next (upstreamSelect s)

/-- ROLE_PERIODIC (R52): every 1,024 beats, on every port. -/
def rolePeriodic (s : State) : State := allPorts.foldl (fun s p => s.sendRole p) s
def execRolePeriodic (s : State) : Host.Outcome State Fault Refusal := .next (rolePeriodic s)

/-- The root sends CONFIG on its DOWNSTREAM ports: the values that come into force at EFFECTIVE_BEAT, or with no change pending
those in force and the present beat as EFFECTIVE_BEAT (DESIGN CHOICE, log entry 93). -/
def State.sendConfig (s : State) : State :=
  let b := match s.col.pend with
    | some p => FrameBody.config s.col.cfgGen p.guard p.k p.beat
    | none => FrameBody.config s.col.cfgGen s.guardNow s.kNow s.curBeat
  s.sendOn s.downPorts (s.mkFrame 0 b)
/-- CONFIG_PERIODIC (R52): every 1,024 beats. -/
def configPeriodic (s : State) : State := if s.isRoot then s.sendConfig else s
/-- After a change the root sends CONFIG in 3 consecutive beats (R52). -/
def State.configBeat (s : State) : State :=
  if s.isRoot && decide (0 < s.col.cfgLeft) then (s.sendConfig).modCol (fun c => { c with cfgLeft := c.cfgLeft - 1 }) else s
def execConfigPeriodic (s : State) : Host.Outcome State Fault Refusal := .next (configPeriodic s)

/-- EPOCH_ANNOUNCE_SEND (R68, R69): 8 beats before each epoch boundary, and 16, 12 and 8 before a colony
checkpoint. -/
def epochAnnounceSend (s : State) : State :=
  if s.isRoot then
    let b := s.curBeat
    let send := fun (s : State) (ckpt : Bool) (t m : Nat) =>
      s.sendOn s.downPorts (s.mkFrame 0 (.epochAnnounce ckpt (s.kAt t) t (BitVec.ofNat 64 m)))
    let due := s.col.announce.filter (fun e => e.1 == b + 16 || e.1 == b + 12 || e.1 == b + 8)
    let s := due.foldl (fun s e => send s true e.1 e.2) s
    let s := if s.isEpoch (b + 8) && !(due.any (fun e => e.1 == b + 8)) then send s false (b + 8) 0 else s
    s.modCol (fun c => { c with announce := c.announce.filter (fun e => decide (b + 8 < e.1)) })
  else s
def execEpochAnnounceSend (s : State) : Host.Outcome State Fault Refusal := .next (epochAnnounceSend s)

/-! ## What every beat sends (R52) -/

/-- BEACON on every DOWNSTREAM port that is up, once per beat. TX_TIME is filled in as the frame starts. -/
def State.sendBeacons (s : State) : State :=
  s.downPorts.foldl (fun s p =>
    let q := s.port p
    s.sendFrame p (s.mkFrame s.depth (.beacon s.colTime s.timeStateCode s.rootId q.echoT4 q.echoSeq))) s

/-- FIREFLY on every port that is up, once per beat. -/
def State.sendFireflies (s : State) : State :=
  (allPorts.filter s.canSend).foldl (fun s p =>
    let q := s.port p
    let s := s.sendFrame p (s.mkFrame 0 (.firefly s.timeStateCode s.dev.code (min s.depth 7) q.seq s.rootId))
    s.modPort p (fun q => { q with seq := (q.seq + 1) % 256 })) s

/-- A committed ROLE of ROOT or STANDALONE makes the module's time its own (R54), at its own crystal's rate (R58); a module that was
its own root and becomes a MEMBER is FREE (DESIGN CHOICE, log entry 93), may select its UPSTREAM port (R42), and uses its own
COL_EPOCH_CFG until a CONFIG frame comes (R67). -/
def State.rolesCommitted (s : State) : State :=
  if s.isMember then
    if s.fget Fld.COL_TIME_STS.STATE == 4 then
      ((s.setTime 0).fset Fld.COL_TIME_STS.DEPTH 0).modCol (fun c => { c with
        mayUp := true
        guardNow := none
        kNow := none
        pend := none
        cfgLeft := 0 })
    else s
  else
    (((allPorts.foldl (fun s q => s.fset (Fld.COL_PORT_STS.SELECTED q) 0) (s.setTime 4)).fset
      Fld.COL_TIME_STS.DEPTH 0).fset Fld.COL_TIME_STS.ROOT_ID s.moduleId).modCol (fun c => { c with
        trim64 := 0
        slew := 0
        slewNext := 0 })

end Sys2Proof.Machine
end

