-- ==== Sys2Proof/Machine/Ring.lean ====
section
/-! DEFINITION. Command rings (chapter 12): doorbells, acceptance, execution checks and opcodes, completion entries and
notices, ring control. -/

namespace Sys2Proof.Machine

/-! ## Rings and their registers -/

/-- A ring as a cold start leaves it. -/
def Ring.new : Ring := { }
/-- Ring `n` of LD `ld`. -/
def State.ring (s : State) (ld n : Nat) : Ring := tabGet Ring.new (256 * ld + n) s.rings
/-- A ring changes. -/
def State.modRing (s : State) (ld n : Nat) (f : Ring → Ring) : State :=
  { s with rings := tabSet Ring.new (256 * ld + n) (f (s.ring ld n)) s.rings }
/-- The bit address is that of STATE of a RNG_STS register (Table 12-15). -/
def isRingState (bit : Nat) : Bool :=
  decide (0x200000 ≤ bit / 8) && decide (bit / 8 < 0x400000) && decide (0x1000 ≤ bit / 8 % 0x10000) &&
    decide (bit / 8 % 0x10000 < 0x5000) && decide (bit % 0x200 = 318)
/-- STATE of RNG_STS: 0 DISABLED, 1 ACTIVE, 2 HALTED. -/
def State.ringSt (s : State) (ld n : Nat) : Nat := s.fget (Fld.RNG_STS.STATE ld n)
/-- DEPTH (R302). -/
def State.depthOf (s : State) (ld n : Nat) : Nat := 2 ^ s.fget (Fld.RNG_CFG.DEPTH_LOG2 ld n)

/-- Accepted descriptors of a ring that have not completed: one that has finished completes when every earlier one of its
ring has (R321, Table 12-10; log entry 8). -/
def Ring.open_ (r : Ring) : Nat := (r.accs.dropWhile (fun a => a.st == .done)).length
/-- Accepted descriptors of an LD that have not completed (R306). -/
def State.inFlight (s : State) (ld : Nat) : Nat :=
  sumNat ((s.rings.filter (fun e => e.1 / 256 == ld)).map (fun e => e.2.open_))
/-- Accepted descriptors of the device that have not completed (R9). -/
def State.ringPool (s : State) : Nat := sumNat (s.rings.map (fun e => e.2.open_))
/-- RNG_LD_STS shows the descriptors in flight. -/
def State.showFlight (s : State) (ld : Nat) : State := s.fset (Fld.RNG_LD_STS.IN_FLIGHT ld) (s.inFlight ld)

/-- The engine runs: the device is not SPILLING or SEALED and no molt pause is running (R303, R306). -/
def State.engineRuns (s : State) : Bool := s.isOpen && s.molt.isNone
/-- Entries may be written to the ring: ACTIVE, or HALTED for another reason than CQ_DOORBELL (Table 12-7). -/
def State.canPost (s : State) (ld n : Nat) : Bool :=
  s.isOpen && (s.ringSt ld n == 1 || (s.ringSt ld n == 2 && s.fget (Fld.RNG_STS.HALT_REASON ld n) != 2))

/-! ## Entries, notices and interrupts (R310, R321, R324, R332) -/

/-- Words of a CQ entry as Table 12-4 lists them: slot, TAG, SQ_HEAD, STATUS, FLAGS, RESULT. -/
def State.cqWords (s : State) (ld n tag status flags result : Nat) : List Nat :=
  let r := s.ring ld n
  [r.cqTail, tag, s.fget (Fld.RNG_STS.HEAD ld n), status, flags + (if r.phase then 1 else 0), result]

/-- One 16-byte entry is written at the CQ tail, which moves on; PHASE inverts at each wrap (R310). -/
def State.writeCq (s : State) (ld n tag status flags result : Nat) : State :=
  let s := s.emit (.hostWrite ld n 0 (s.cqWords ld n tag status flags result))
  let d := s.depthOf ld n
  s.modRing ld n (fun r =>
    let t := if r.cqTail + 1 < d then r.cqTail + 1 else 0
    { r with cqTail := t, written := r.written + 1, phase := if t = 0 then !r.phase else r.phase })

/-- An entry without NO_IRQ counts toward COAL_CNT and may signal the ring's vector (R332). -/
def State.coalesce (s : State) (ld n : Nat) : State :=
  let s := s.modRing ld n (fun r => { r with coal := r.coal + 1, coalAt := some (r.coalAt.getD s.now) })
  if s.fget (Fld.RNG_CFG.COAL_CNT ld n) ≤ (s.ring ld n).coal then
    (s.modRing ld n (fun r => { r with coal := 0, coalAt := none })).emit (.msix ld n)
  else s

/-- Finished descriptors whose entries are held: those at the front of their ring while it cannot be written (R324). -/
def Ring.heldCount (r : Ring) : Nat := (r.accs.takeWhile (fun a => a.st == .done)).length

/-- HELD shows the entries held. -/
def State.showHeld (s : State) (ld n : Nat) : State := s.fset (Fld.RNG_STS.HELD ld n) (s.ring ld n).heldCount

/-- Entries of finished descriptors are written in SQ order (R321), at most `k` of them, and none over an entry that the host has not
consumed (R310): after an ENABLE with a smaller DEPTH more may be held than the CQ takes. -/
def State.postEntries (s : State) (ld n : Nat) : Nat → State
  | 0 => s
  | k + 1 =>
    match (s.ring ld n).accs with
    | a :: rest =>
      if a.st == .done && s.canPost ld n && decide ((s.ring ld n).written < s.depthOf ld n) then
        let s := s.writeCq ld n a.desc.tag.toNat a.status a.flags a.result
        let s := s.modRing ld n (fun r => { r with accs := rest, lastTag := a.desc.tag.toNat })
        let s := if a.desc.flags.getLsbD 0 then s else s.coalesce ld n
        s.postEntries ld n k
      else s
    | [] => s

/-- Every entry that may be written is written, and with shadow doorbells the engine reads the shadow block after the
batch (R304). -/
def State.postRing (s : State) (ld n : Nat) : State :=
  let before := (s.ring ld n).written
  let s := s.postEntries ld n (s.ring ld n).accs.length
  let s := if before < (s.ring ld n).written && s.on (Fld.RNG_SHD_BASE.SHADOW_DB ld n) then
      (s.modRing ld n (fun r => { r with shadowDue := true })).emit (.shadowRead ld n)
    else s
  s.showHeld ld n

/-- Waiting notices are written while the CQ has a free slot and may be written, in the order of their causes, and signal at
once, for the entries written before them too (R310, R332). -/
def State.postNotices (s : State) (ld n : Nat) : Nat → State
  | 0 => s
  | k + 1 =>
    match (s.ring ld n).notices with
    | (st, res) :: rest =>
      if decide ((s.ring ld n).written < s.depthOf ld n) && s.canPost ld n then
        let s := s.writeCq ld n 0 st 2 res
        let s := s.modRing ld n (fun r => { r with
          notices := rest
          outNotes := r.outNotes ++ [(st, r.written)]
          coal := 0
          coalAt := none })
        let s := (s.bump (Fld.RNG_LD_CNT.NOTICES ld) (Fld.RNG_LD_CNT.NT_SAT ld)).emit (.msix ld n)
        s.postNotices ld n k
      else s
    | [] => s

/-- A notice is raised; one cause is never repeated until the host has consumed its notice (R310). -/
def State.notice (s : State) (ld n status result : Nat) : State :=
  let r := s.ring ld n
  if r.notices.any (fun e => e.1 == status) || r.outNotes.any (fun e => e.1 == status) then s
  else (s.modRing ld n (fun r => { r with notices := r.notices ++ [(status, result)] })).postNotices ld n
    ((s.ring ld n).notices.length + 1)

/-! ## Completing (R17, R321) -/

/-- An accepted descriptor of a ring that has not finished, by the number of its acceptance: an SQ index comes again after
ENABLE or a wrap, the number never does. -/
def State.acc? (s : State) (ld n ord : Nat) : Option Acc := (s.ring ld n).accs.find? (fun a => a.order == ord && a.st != .done)
/-- The accepted descriptor that an SQ index means to a command: the oldest of that index that satisfies `p`. -/
def State.accAt (s : State) (ld n idx : Nat) (p : Acc → Bool) : Option Acc :=
  (s.ring ld n).accs.find? (fun a => a.idx == idx && p a)
/-- An accepted descriptor changes. -/
def State.modAcc (s : State) (ld n ord : Nat) (f : Acc → Acc) : State :=
  s.modRing ld n (fun r => { r with accs := r.accs.map (fun a => if a.order == ord && a.st != .done then f a else a) })

/-- An accepted descriptor completes with a status: its entry is written in its turn, or held (R321, R324). -/
def State.finish (s : State) (ld n ord status flags result : Nat) : State :=
  let s := s.modAcc ld n ord (fun a => { a with
    st := .done
    status := status
    flags := flags
    result := result
    cut := none })
  let s := if status = 1 then s.bump (Fld.RNG_CNT.DUPLICATES ld n) (Fld.RNG_CNT.DU_SAT ld n)
    else if status = 6 then s.bump (Fld.RNG_CNT.STALE ld n) (Fld.RNG_CNT.ST_SAT ld n) else s
  (s.showFlight ld).postRing ld n

/-! ## Halts (R330) -/

/-- A ring halts: 1 SQ_DOORBELL, 2 CQ_DOORBELL, 3 FETCH_ERROR. -/
def State.haltRing (s : State) (ld n reason : Nat) : State :=
  ((s.fset (Fld.RNG_STS.STATE ld n) 2).fset (Fld.RNG_STS.HALT_REASON ld n) reason).fault (srcOf 13 3) 0x12
    (ld * 2 ^ 35 + n * 2 ^ 27)

/-- Rule 5 of R306: the pool has a free entry and the LD is below CMD_CAP. -/
def State.roomFor (s : State) (ld : Nat) : Bool :=
  decide (s.ringPool < 65536) && decide (s.inFlight ld < s.fget (Fld.RNG_LD_CFG.CMD_CAP ld))

/-- Rules 1 to 4 and 6 of R306. -/
def State.mayAccept (s : State) (ld n : Nat) : Bool :=
  let r := s.ring ld n
  let l := s.ld ld
  s.ringSt ld n == 1 && (l.st == .refilling || l.st == .serving || l.st == .quiesced) && s.engineRuns && !l.unbinding &&
  !l.resetting && !r.fetched.isEmpty && decide (r.accs.length + r.written ≤ s.depthOf ld n - 2)

/-- The descriptor at HEAD begins to wait at rule 5 of R306 (R307). -/
def State.waitRoom (s : State) (ld n : Nat) : State :=
  if s.mayAccept ld n && !s.roomFor ld then s.modRing ld n (fun r => { r with waitRes := some (r.waitRes.getD s.now) }) else s
/-- Every fetched descriptor that now waits at rule 5 begins its wait: after a fetch, and after an acceptance, which can take the last
room of other rings (R307). -/
def State.waitRooms (s : State) : State := s.rings.foldl (fun s e => s.waitRoom (e.1 / 256) (e.1 % 256)) s

/-- SQ index of the next descriptor to fetch. -/
def State.nextFetch (s : State) (ld n : Nat) : Nat :=
  (s.fget (Fld.RNG_STS.HEAD ld n) + (s.ring ld n).fetched.length) % s.depthOf ld n
/-- Descriptors between what is fetched and the tail. -/
def State.leftToFetch (s : State) (ld n : Nat) : Nat :=
  (s.fget (Fld.RNG_STS.TAIL ld n) + s.depthOf ld n - s.nextFetch ld n) % s.depthOf ld n
/-- A ring has a pending tail and may fetch. -/
def State.wantsFetch (s : State) (ld n : Nat) : Bool :=
  s.ringSt ld n == 1 && decide (0 < s.leftToFetch ld n) && s.engineRuns

/-- How far ring key `k` stands behind key `a` in round-robin order. -/
def turnDist (a k : Nat) : Nat := (k + 8192 - a - 1) % 8192
/-- The key whose turn comes first after that of `a`. -/
def nextTurn (a : Nat) : List Nat → Option Nat
  | [] => none
  | k :: r => some (r.foldl (fun b x => if turnDist a x < turnDist a b then x else b) k)

/-- Rings with a pending tail, ring `n` of LD `ld` among them, take turns in round-robin order across all LDs, at most 8
descriptors a turn (R308); a turn ends when its descriptors are there (log entry 81). -/
def State.fetchMore (s : State) (ld n : Nat) : State :=
  if s.rings.any (fun e => e.2.fetching) then s
  else match nextTurn s.rngAt (((256 * ld + n) :: s.rings.map (·.1)).filter (fun k => s.wantsFetch (k / 256) (k % 256))) with
    | some k =>
      ({ s.modRing (k / 256) (k % 256) (fun r => { r with fetching := true }) with rngAt := k } : State).emit
        (.sqFetch (k / 256) (k % 256) (s.nextFetch (k / 256) (k % 256)) (min (s.leftToFetch (k / 256) (k % 256)) 8))
    | none => s

/-- An SQ tail value, from a doorbell or the shadow block (R303, R304, R330). -/
def State.takeSq (s : State) (ld n v : Nat) : State :=
  if s.depthOf ld n ≤ v then (s.haltRing ld n 1).notice ld n 0x0C v
  else ((s.modRing ld n (fun r => { r with sqDb := v })).fset (Fld.RNG_STS.TAIL ld n) v).fetchMore ld n

/-- A CQ head value (R303, R330): it must not consume entries that were not written. -/
def State.takeCq (s : State) (ld n v : Nat) : State :=
  let d := s.depthOf ld n
  let r := s.ring ld n
  let used := (v + d - r.cqHead) % d
  if d ≤ v || r.written < used then s.haltRing ld n 2
  else
    let s := s.modRing ld n (fun r => { r with
      cqHead := v
      cqDb := v
      written := r.written - used
      outNotes := (r.outNotes.map (fun e => (e.1, e.2 - used))).filter (fun e => e.2 != 0) })
    ((s.postRing ld n).postNotices ld n (s.ring ld n).notices.length).waitRooms

/-! ## Doorbells (R303) -/

/-- A doorbell write: dropped and counted when its size or offset is not a doorbell's or the ring is DISABLED or HALTED,
kept while the engine does not run, else taken. -/
def State.doorbell (s : State) (ld n offset width v : Nat) (sq : Bool) : State :=
  let place := if sq then 0 else 4
  if width != 32 || offset != place || s.ringSt ld n != 1 then
    s.bump (Fld.RNG_LD_CNT.DB_DROP ld) (Fld.RNG_LD_CNT.DB_SAT ld)
  else if !s.engineRuns then
    s.modRing ld n (fun r => if sq then { r with keptSq := some v } else { r with keptCq := some v })
  else if sq then s.takeSq ld n v else s.takeCq ld n v

/-- A read of a doorbell page (R303, R426): each doorbell returns the last value the engine has taken for it. No command of the table
reads one. -/
def State.doorbellRead (s : State) (ld n offset : Nat) : Nat :=
  if offset = 0 then (s.ring ld n).sqDb else if offset = 4 then (s.ring ld n).cqDb else 0

def execSqTailDoorbell (dt ld ring offset width : Nat) (value : BitVec 32) (s : State) :
    Host.Outcome State Fault Refusal := .next ((s.elapse dt).doorbell ld ring offset width value.toNat true)
def execCqHeadDoorbell (dt ld ring offset width : Nat) (value : BitVec 32) (s : State) :
    Host.Outcome State Fault Refusal := .next ((s.elapse dt).doorbell ld ring offset width value.toNat false)

/-- Kept doorbell values are acted on when the engine runs again (R303), and the turns go on (R308). -/
def State.takeKept (s : State) : State :=
  (s.rings.foldl (fun s e =>
    let ld := e.1 / 256
    let n := e.1 % 256
    let s := s.modRing ld n (fun r => { r with keptSq := none, keptCq := none })
    let s := match e.2.keptCq with | some v => if s.ringSt ld n == 1 then s.takeCq ld n v else s | none => s
    match e.2.keptSq with | some v => if s.ringSt ld n == 1 then s.takeSq ld n v else s | none => s) s).waitRooms.fetchMore 0 0

/-- The values read from the shadow block, each checked like a doorbell's (R304, R330). -/
def State.takeShadow (s : State) (ld n tail head : Nat) : State :=
  let s := (s.modRing ld n (fun r => { r with shadowDue := false })).takeCq ld n head
  if s.ringSt ld n == 1 then s.takeSq ld n tail else s

/-- Descriptors that a fetch returned join those fetched (R308). -/
def State.addFetched (s : State) (ld n : Nat) (ds : List Descriptor) : State :=
  let d := s.depthOf ld n
  let next := s.nextFetch ld n
  let new := (ds.take (min (s.leftToFetch ld n) 8)).zipIdx.map (fun e => ((next + e.2) % d, e.1))
  s.modRing ld n (fun r => { r with fetched := r.fetched ++ new })

/-- A ring fetched up to the last tail it knows, with shadow doorbells (R304): the shadow block is read, EVENT_TAIL is
written with that tail, and SQ_TAIL is read once more. -/
def State.caughtUp (s : State) (ld n tail1 head1 tail2 : Nat) : State :=
  let known := s.fget (Fld.RNG_STS.TAIL ld n)
  let s := s.takeShadow ld n tail1 head1
  if s.ringSt ld n == 1 then
    ((s.modRing ld n (fun r => { r with eventTail := known })).emit (.hostWrite ld n 2 [known])).takeSq ld n tail2
  else s.fetchMore ld n

/-- DESCRIPTOR_FETCH_DONE (R308, R304): the descriptors join those fetched, and an error halts the ring. With no fetch under
way it returns the read of the shadow block that follows a batch of entries. -/
def descriptorFetchDone (ld n : Nat) (r : FetchResult) (tail1 head1 tail2 : Nat) (s : State) : State :=
  if !(s.ring ld n).fetching then
    if (s.ring ld n).shadowDue && s.ringSt ld n == 1 then s.takeShadow ld n tail1 head1 else s
  else
    let s := s.modRing ld n (fun r => { r with fetching := false })
    match r with
    | .error => (s.haltRing ld n 3).fetchMore ld n
    | .data ds =>
      let s := s.addFetched ld n ds
      if s.leftToFetch ld n == 0 && s.on (Fld.RNG_SHD_BASE.SHADOW_DB ld n) && s.ringSt ld n == 1 then
        (s.caughtUp ld n tail1 head1 tail2).waitRooms
      else s.waitRooms.fetchMore ld n
def execDescriptorFetchDone (dt ld ring : Nat) (r : FetchResult) (shadowTail shadowHead shadowTail2 : Nat) (s : State) :
    Host.Outcome State Fault Refusal :=
  .next (descriptorFetchDone ld ring r shadowTail shadowHead shadowTail2 (s.elapse dt))

/-! ## Execution checks (R311) -/

/-- The reserved bytes of a descriptor are 0 (Table 12-2, Table 12-3), for the opcodes that exist; else only the header's. -/
def descClean (d : Descriptor) : Bool :=
  !d.rsvd && d.flags.toNat / 2 == 0 &&
  (match d.opcode.toNat with
   | 0 | 7 | 8 => d.arg0 == 0 && d.arg1 == 0 && d.arg2 == 0
   | 1 | 6 => d.arg2 == 0
   | 2 => d.arg0.toNat / 2 ^ 48 == 0 && d.arg1.toNat / 256 == 0 && d.arg2 == 0
   | 3 | 4 => d.arg0.toNat / 2 ^ 32 == 0 && d.arg1 == 0 && d.arg2 == 0
   | 5 => true
   | 9 => d.arg0 == 0 && d.arg1 == 0
   | _ => true)

/-- Bytes of the LD's extent. -/
def State.extBytes (s : State) (ld : Nat) : Nat := (s.ld ld).extSize * extUnit

/-- Check 5: argument values and ranges (Table 12-3, R312, R314, R315). 3 INVALID_FIELD, 5 RANGE, 0 passes. -/
def State.checkArgs (s : State) (ld : Nat) (d : Descriptor) : Nat :=
  let a := d.arg0.toNat
  let b := d.arg1.toNat
  match d.opcode.toNat with
  | 1 => if b == 0 then 3 else if s.extBytes ld < a + b then 5 else 0
  | 2 =>
    let t := a
    if 1 < b then 3
    else if !s.isEpoch t || t < s.curBeat + 2 || s.curBeat + 2 ^ 31 < t then 3 else 0
  | 3 =>
    match (s.ld ld).ckpt? a with
    | some c => if c.release || (c.complete && !c.retain) then 3 else 0
    | none => 3
  | 5 => if d.arg2.toNat % 64 != 0 then 3 else if s.extBytes ld < a + b then 5 else 0
  | 6 => if a % 64 != 0 || b % 64 != 0 || b < 64 || 2 ^ 30 < b then 3 else if s.extBytes ld < a + b then 5 else 0
  | 9 => if d.arg2.toNat % 64 != 0 then 3 else 0
  | _ => 0

/-- Check 6: class and state (Table 12-5). 11 NOT_PERMITTED. -/
def State.checkState (s : State) (ld : Nat) (d : Descriptor) : Nat :=
  let l := s.ld ld
  match d.opcode.toNat with
  | 1 => if s.cls ld == 2 then 11 else 0
  | 2 => if s.cls ld == 2 then 11 else 0
  | 3 => if s.namedSource ld d.arg0.toNat then 11 else 0
  | 4 => if l.st != .quiesced then 11 else 0
  | 7 => if l.st != .quiesced || !l.pending.isEmpty || l.ckpts.any (fun c => s.namedSource ld c.id) then 11 else 0
  | _ => 0

/-- The first execution check that fails, as a status; 0 when all pass (R311). -/
def State.execCheck (s : State) (ld : Nat) (a : Acc) : Nat :=
  let d := a.desc
  if d.tag.toNat ≤ a.tagWas then 1
  else if d.roleGen.toNat != (s.ld ld).gen % 65536 then 6
  else if !(descClean d) then 4
  else if 9 < d.opcode.toNat then 2
  else if s.checkArgs ld d != 0 then s.checkArgs ld d
  else s.checkState ld d

/-! ## Order (R322, R323) -/

/-- The pages a descriptor's range covers for R322, `none` for no range: first page and one past the last, as byte
offsets in the extent. -/
def State.rangeOf (s : State) (ld : Nat) (d : Descriptor) : Option (Nat × Nat) :=
  let a := d.arg0.toNat
  let b := d.arg1.toNat
  match d.opcode.toNat with
  | 1 | 6 => some (a, a + b)
  | 5 => if b == 0 then some (0, s.extBytes ld) else some (a, a + b)
  | 2 | 3 | 4 | 7 => some (0, s.extBytes ld)
  | _ => none

/-- Two descriptors' ranges overlap. -/
def State.overlap (s : State) (ld : Nat) (d e : Descriptor) : Bool :=
  match s.rangeOf ld d, s.rangeOf ld e with
  | some x, some y => decide (x.1 < y.2) && decide (y.1 < x.2)
  | _, _ => false

/-- The effect of an earlier descriptor has finished for R322: done, or a CHECKPOINT_AT whose cut is registered. -/
def Acc.effectDone (a : Acc) : Bool := a.st == .done || (a.desc.opcode.toNat == 2 && a.st == .running)

/-- A descriptor may begin (R322, R323): no earlier unfinished descriptor of its ring overlaps it, and no FENCE before it
is incomplete. -/
def State.mayBegin (s : State) (ld n : Nat) (a : Acc) : Bool :=
  ((s.ring ld n).accs.takeWhile (fun b => b.order != a.order)).all (fun b =>
    b.effectDone || (b.desc.opcode.toNat != 8 && !s.overlap ld b.desc a.desc))

/-- What begins a descriptor's execution: it waits, the device serves and its LD is not frozen, and the order rules let
it. -/
def State.begins (s : State) (ld n idx opcode : Nat) : Option Acc :=
  match s.accAt ld n idx (fun a => a.st == .waiting) with
  | some a => if a.desc.opcode.toNat == opcode && s.isOpen && s.mayBegin ld n a then some a else none
  | none => none

/-- Run one opcode: the checks of R311, then its own execution. -/
def State.runOp (s : State) (ld n idx opcode : Nat) (go : Acc → State → State) : State :=
  match s.begins ld n idx opcode with
  | some a =>
    let c := s.execCheck ld a
    if c != 0 then s.finish ld n a.order c 0 0
    else go a (s.modAcc ld n a.order (fun a => { a with st := .running }))
  | none => s

/-! ## Acceptance (R306 to R309) -/

/-- DESCRIPTOR_ACCEPT (R306, R309): HEAD is written past the descriptor and TAG_HIGH raised. An opcode of no row of
Table 12-5 is refused at once under R311. -/
def descriptorAccept (ld n : Nat) (s : State) : State :=
  match (s.ring ld n).fetched with
  | [] => s
  | (idx, d) :: rest =>
    if !s.mayAccept ld n then s
    else if !s.roomFor ld then s.waitRoom ld n
    else
      let was := s.fget (Fld.RNG_TAG.TAG_HIGH ld n)
      let order := s.accSeq + 1
      let a := Acc.mk d idx order was .waiting 0 0 0 [] 0 none 0 none 0 [] []
      let head := (idx + 1) % s.depthOf ld n
      let s := { s with accSeq := order }
      let s := s.modRing ld n (fun r => { r with fetched := rest, accs := r.accs ++ [a], waitRes := none })
      let s := s.fset (Fld.RNG_TAG.TAG_HIGH ld n) (max was d.tag.toNat)
      let s := (s.fset (Fld.RNG_STS.HEAD ld n) head).emit (.hostWrite ld n 1 [head])
      let s := s.showFlight ld
      let s := if 9 < d.opcode.toNat then s.finish ld n order (s.execCheck ld a) 0 0 else s
      s.waitRooms.fetchMore ld n
def execDescriptorAccept (dt ld ring : Nat) (s : State) : Host.Outcome State Fault Refusal :=
  .next (descriptorAccept ld ring (s.elapse dt))

/-- NO_RESOURCE_NOTICE (R307): a fetched descriptor has waited 100 µs at rule 5, and the host has consumed every notice of the
ring. -/
def noResourceNotice (ld n : Nat) (s : State) : State :=
  match (s.ring ld n).waitRes with
  | some t =>
    let r := s.ring ld n
    if decide (t + 100000 ≤ s.now) && !s.roomFor ld && r.notices.isEmpty && r.outNotes.isEmpty then s.notice ld n 7 0 else s
  | none => s
def execNoResourceNotice (dt ld ring : Nat) (s : State) : Host.Outcome State Fault Refusal :=
  .next (noResourceNotice ld ring (s.elapse dt))

/-! ## Simple opcodes -/

/-- NOP (Table 12-5). -/
def execNop (dt ld ring sqIndex : Nat) (s : State) : Host.Outcome State Fault Refusal :=
  .next ((s.elapse dt).runOp ld ring sqIndex 0 (fun a s => s.finish ld ring a.order 0 0 0))

/-- CHECKPOINT_RELEASE (R315, R138): at once; DEFERRED when the checkpoint was pending. -/
def checkpointRelease (ld n : Nat) (a : Acc) (s : State) : State :=
  match s.releaseCkpt ld a.desc.arg0.toNat with
  | some (true, deferred, t) => t.finish ld n a.order 0 (if deferred then 8 else 0) 0
  | some (false, _, t) => t.finish ld n a.order 11 0 0
  | none => s.finish ld n a.order 3 0 0
def execCheckpointRelease (dt ld ring sqIndex : Nat) (s : State) : Host.Outcome State Fault Refusal :=
  .next ((s.elapse dt).runOp ld ring sqIndex 3 (checkpointRelease ld ring))

/-- CHECKPOINT_AT (R314): its cut is registered at BOUNDARY; a cut that R135 refuses gives NOT_PERMITTED when it is
taken. -/
def execCheckpointAt (dt ld ring sqIndex : Nat) (s : State) : Host.Outcome State Fault Refusal :=
  .next ((s.elapse dt).runOp ld ring sqIndex 2 (fun a s =>
    s.modAcc ld ring a.order (fun x => { x with cut := some a.desc.arg0.toNat })))

/-- Listed pages of a byte range of an LD's extent, by page number. -/
def State.rangePages (s : State) (ld off len : Nat) : Nat × Nat :=
  let base := (s.ld ld).extBase * extPages
  (base + off / pageBytes, base + (off + len + pageBytes - 1) / pageBytes)

/-- QUERY_PAGES (R317): the result block of Table 12-6 goes to RESULT_ADDR, and RESULT counts the pages. -/
def queryPages (ld n : Nat) (a : Acc) (s : State) : State :=
  let off := if a.desc.arg1 == 0 then 0 else a.desc.arg0.toNat
  let len := if a.desc.arg1 == 0 then s.extBytes ld else a.desc.arg1.toNat
  let r := s.rangePages ld off len
  let ps := s.pages.filter (fun e => decide (r.1 ≤ e.1) && decide (e.1 < r.2))
  let rest := r.2 - r.1 - ps.length
  let d := (s.ld ld).dflt
  let count := fun (st : PState) (k : Nat) => (ps.filter (fun e => e.2.st == st)).length + (if d == k then rest else 0)
  let s := s.emit (.hostWrite ld n 3 ([a.desc.arg2.toNat, count .clean 0, count .dirty 9, count .cleaning 9,
    count .forked 9, count .unfilled 1, count .drawing 9, count .poisoned 2, count .volatile 3,
    (s.ld ld).owed, s.allow ld, s.level ld, (s.ld ld).newestDone, s.curBeat]))
  s.finish ld n a.order 0 0 (r.2 - r.1)
def execQueryPages (dt ld ring sqIndex : Nat) (s : State) : Host.Outcome State Fault Refusal :=
  .next ((s.elapse dt).runOp ld ring sqIndex 5 (queryPages ld ring))

/-! ## Opcodes that run on: PERSIST_RANGE, FENCE (R313, R323) -/

/-- PERSIST_RANGE begins (R313): the set of its pages that are DIRTY, CLEANING or FORKED; those the rill has not selected
become directed cleans, and RESULT counts them. -/
def persistBegin (ld n : Nat) (a : Acc) (s : State) : State :=
  let r := s.rangePages ld a.desc.arg0.toNat a.desc.arg1.toNat
  let ps := s.pages.filter (fun e => decide (r.1 ≤ e.1) && decide (e.1 < r.2) &&
    (e.2.st == .dirty || e.2.st == .cleaning || e.2.st == .forked))
  let dir := (ps.filter (fun e => e.2.st != .cleaning)).map (·.1)
  let s := s.modAcc ld n a.order (fun x => { x with pages := ps.map (·.1), count := dir.length })
  s.modRill (fun x => { x with directed := dir.foldl (fun l p => setIns p l) x.directed })

/-- The number from which copies serve a PERSIST_RANGE: that of its acceptance (R313), or of the end of an earlier overlapping
ZERO_RANGE of its ring (R322). -/
def Acc.servedFrom (a : Acc) : Nat := max a.order a.step
/-- A stale copy of page `p` taken after acceptance number `stamp` succeeded: it serves the PERSIST_RANGE descriptors
accepted before it was taken (R313). -/
def State.persistCopied (s : State) (p stamp : Nat) : State :=
  { s with rings := s.rings.map (fun e => (e.1, { e.2 with accs := e.2.accs.map (fun a =>
      if a.desc.opcode.toNat == 1 && a.servedFrom ≤ stamp then { a with pages := a.pages.filter (· ≠ p) } else a) })) }

/-! ## Ring control (R328, R331) -/

/-- A tenant LD's BAR0 is there: the LD is bound and its port's link up, outside BASIN (Tables 11-5, 13-4). -/
def State.tenantBar (s : State) (ld : Nat) : Bool :=
  decide (ld < 32) && s.bound ld && (s.ld ld).reach && s.dev != .off && !s.basinLike

/-- A write to the RNG_ registers reaches them: from either window (R333) while their domain is not OFF (R440), and never over
the two-wire path, where it is refused (R421). -/
def State.viaRing (s : State) (path : Path) (ld n : Nat) (f : State → State) : State :=
  if decide (32 ≤ ld) || decide (256 ≤ n) || (tabGet ({ } : Dom) 95 s.doms).mode == 2 then s
  else match path with
    | .fm => if s.dev == .off || s.basinLike then s else f s
    | .twoWire => if s.dev == .off then s else s.deny
    | .tenant t => if t == ld && s.tenantBar ld then f s else s

/-- A RNG_CTL write that is not allowed changes nothing but CTL_REJECT (R331). -/
def State.ctlReject (s : State) (ld n : Nat) : State := s.fset (Fld.RNG_STS.CTL_REJECT ld n) 1

/-- RNG_CFG and the bases hold allowed values (Table 12-14). -/
def State.ringCfgOk (s : State) (ld n : Nat) : Bool :=
  let d := s.fget (Fld.RNG_CFG.DEPTH_LOG2 ld n)
  decide (4 ≤ d) && decide (d ≤ 16) && s.fget (Fld.RNG_SHD_BASE.ADDR ld n) != 0

/-- ENABLE (R328): heads and tails at 0, PHASE 1, held entries written first; CLEAR_TAGS with nothing held or running
clears TAG_HIGH. -/
def ringEnable (ld n : Nat) (clearTags : Bool) (s : State) : State :=
  if s.ringSt ld n == 0 && s.ringCfgOk ld n then
    let idle := (s.ring ld n).accs.isEmpty
    let s := s.modRing ld n (fun r => { Ring.new with accs := r.accs, lastTag := r.lastTag })
    let s := ((s.fset (Fld.RNG_STS.STATE ld n) 1).fset (Fld.RNG_STS.HEAD ld n) 0).fset (Fld.RNG_STS.TAIL ld n) 0
    let s := ((s.fset (Fld.RNG_STS.HALT_REASON ld n) 0).fset (Fld.RNG_STS.LOST ld n) 0).fset
      (Fld.RNG_STS.CTL_REJECT ld n) 0
    let s := if clearTags && idle then s.fset (Fld.RNG_TAG.TAG_HIGH ld n) 0 else s
    s.postRing ld n
  else s.ctlReject ld n
def execRingEnable (dt : Nat) (path : Path) (ld ring : Nat) (clearTags : Bool) (s : State) :
    Host.Outcome State Fault Refusal :=
  .next ((s.elapse dt).viaRing path ld ring (ringEnable ld ring clearTags))

/-- A ring stops fetching and writing entries; what it had fetched and not accepted is dropped (R16, R331). -/
def State.disableRing (s : State) (ld n : Nat) : State :=
  let s := s.fset (Fld.RNG_STS.STATE ld n) 0
  let s := s.modRing ld n (fun r => { r with
    fetched := []
    fetching := false
    waitRes := none
    notices := []
    outNotes := []
    keptSq := none
    keptCq := none
    shadowDue := false })
  s.showHeld ld n

/-- DISABLE, in any state (R331). -/
def ringDisable (ld n : Nat) (s : State) : State :=
  ((s.disableRing ld n).fset (Fld.RNG_STS.CTL_REJECT ld n) 0).fetchMore ld n
def execRingDisable (dt : Nat) (path : Path) (ld ring : Nat) (s : State) : Host.Outcome State Fault Refusal :=
  .next ((s.elapse dt).viaRing path ld ring (ringDisable ld ring))

/-- RESUME (R331): a HALTED ring is ACTIVE again with its positions as before; a FETCH_ERROR refetches from HEAD. -/
def ringResume (ld n : Nat) (s : State) : State :=
  if s.ringSt ld n == 2 then
    let refetch := s.fget (Fld.RNG_STS.HALT_REASON ld n) == 3
    let s := ((s.fset (Fld.RNG_STS.STATE ld n) 1).fset (Fld.RNG_STS.HALT_REASON ld n) 0).fset
      (Fld.RNG_STS.CTL_REJECT ld n) 0
    let s := if refetch then s.modRing ld n (fun r => { r with fetched := [], fetching := false }) else s
    (((s.postRing ld n).postNotices ld n (s.ring ld n).notices.length).waitRoom ld n).fetchMore ld n
  else s.ctlReject ld n
def execRingResume (dt : Nat) (path : Path) (ld ring : Nat) (s : State) : Host.Outcome State Fault Refusal :=
  .next ((s.elapse dt).viaRing path ld ring (ringResume ld ring))

/-- MSIX_COALESCE_TIMEOUT (R332): COAL_US has passed since the first unsignalled entry. -/
def msixCoalesceTimeout (ld n : Nat) (s : State) : State :=
  match (s.ring ld n).coalAt with
  | some t => if t + 1000 * s.fget (Fld.RNG_CFG.COAL_US ld n) ≤ s.now then
      (s.modRing ld n (fun r => { r with coal := 0, coalAt := none })).emit (.msix ld n) else s
  | none => s
def execMsixCoalesceTimeout (dt ld ring : Nat) (s : State) : Host.Outcome State Fault Refusal :=
  .next (msixCoalesceTimeout ld ring (s.elapse dt))

/-! ## LD resets (R325) and unbinding (R281) -/

/-- CHECKPOINT_AT descriptors of an LD whose cut has not passed complete ABORTED_RESET, and their cuts are cancelled. -/
def State.abortCuts (s : State) (ld : Nat) : State :=
  (s.rings.filter (fun e => e.1 / 256 == ld)).foldl (fun s e =>
    e.2.accs.foldl (fun s a =>
      if a.st != .done && a.desc.opcode.toNat == 2 && (a.cut.isSome || a.st == .waiting) then
        s.finish ld (e.1 % 256) a.order 8 0 0 else s) s) s

/-- STATE of every RNG_STS register returns to DISABLED, of rings never used too (Table 12-7). -/
def State.ringsDisabled (s : State) : State :=
  { s with regs := s.regs.filter (fun e => !isRingState e.1) }

/-- Every ring of an LD is disabled. -/
def State.disableRings (s : State) (ld : Nat) : State :=
  ((s.rings.filter (fun e => e.1 / 256 == ld)).foldl (fun s e => s.disableRing ld (e.1 % 256))
    ((List.range 256).foldl (fun s n => if s.ringSt ld n == 0 then s else s.disableRing ld n) s)).fetchMore ld 0

end Sys2Proof.Machine
end

