-- ==== Sys2Proof/Machine/Aes.lean ====
section
/-! DEFINITION. AES-256-XTS, the cipher of the stored forms (R6, R201): bytes are numbers below 256. -/

namespace Sys2Proof.Machine

/-- Product by x in GF(2^8) of AES. -/
def aesX (a : Nat) : Nat := if a < 128 then 2 * a else (2 * a) % 256 ^^^ 0x1B
/-- Product in GF(2^8) of AES. -/
def aesMul (a b : Nat) : Nat :=
  ((List.range 8).foldl (fun (r : Nat × Nat) i => (if b.testBit i then r.1 ^^^ r.2 else r.1, aesX r.2)) (0, a)).1
/-- The inverse of AES, 0 for 0: the 254th power. -/
def aesInv (a : Nat) : Nat :=
  let p2 := aesMul a a
  let p3 := aesMul p2 a
  let p12 := aesMul (aesMul p3 p3) (aesMul p3 p3)
  let p15 := aesMul p12 p3
  let p30 := aesMul p15 p15
  let p60 := aesMul p30 p30
  let p120 := aesMul p60 p60
  aesMul (aesMul p120 p120) (aesMul p12 p2)
/-- A byte turned left. -/
def rotByte (a k : Nat) : Nat := a * 2 ^ k % 256 + a / 2 ^ (8 - k)
/-- SubBytes of one byte. -/
def aesSub (a : Nat) : Nat :=
  let i := aesInv a
  i ^^^ rotByte i 1 ^^^ rotByte i 2 ^^^ rotByte i 3 ^^^ rotByte i 4 ^^^ 0x63
/-- XOR byte by byte. -/
def xorBytes (a b : List Nat) : List Nat := (a.zip b).map (fun e => e.1 ^^^ e.2)
/-- Round constant `k`, from 1. -/
def aesRcon : Nat → Nat
  | 0 => 0
  | 1 => 1
  | k + 1 => aesX (aesRcon k)

/-- The key schedule of a 32-byte key: 60 words, the newest first. -/
def aesSchedule (key : List Nat) : List (List Nat) :=
  let start := (List.range 8).foldl (fun l i => ((key.drop (4 * i)).take 4) :: l) []
  (List.range 52).foldl (fun l n =>
    let i := n + 8
    let t := l.headD []
    let t := if i % 8 = 0 then xorBytes ((t.drop 1 ++ t.take 1).map aesSub) [aesRcon (i / 8), 0, 0, 0]
      else if i % 8 = 4 then t.map aesSub else t
    xorBytes (l.getD 7 []) t :: l) start
/-- Round keys 0 to 14 of 16 bytes. -/
def aesRoundKeys (key : List Nat) : List (List Nat) :=
  let w := (aesSchedule key).reverse
  (List.range 15).map (fun r => ((w.drop (4 * r)).take 4).flatten)

/-- ShiftRows of a block kept by columns. -/
def aesShift (b : List Nat) : List Nat := (List.range 16).map (fun i => b.getD (4 * ((i / 4 + i % 4) % 4) + i % 4) 0)
/-- MixColumns. -/
def aesMix (b : List Nat) : List Nat :=
  (List.range 16).map (fun i =>
    let c := fun k => b.getD (i / 4 * 4 + (i + k) % 4) 0
    aesX (c 0) ^^^ (aesX (c 1) ^^^ c 1) ^^^ c 2 ^^^ c 3)
/-- AES-256 of one block. -/
def aesBlock (keys : List (List Nat)) (b : List Nat) : List Nat :=
  let s := (List.range 13).foldl (fun s r => xorBytes (aesMix (aesShift (s.map aesSub))) (keys.getD (r + 1) [])) (xorBytes b (keys.headD []))
  xorBytes (aesShift (s.map aesSub)) (keys.getD 14 [])

/-- The tweak of the block after one of tweak `t` (IEEE 1619): times x in GF(2^128). -/
def xtsNext (t : Nat) : Nat := (2 * t) % 2 ^ 128 ^^^ (if t < 2 ^ 127 then 0 else 0x87)
/-- The tweak of block `j` from that of block 0. -/
def xtsTweak (t : Nat) : Nat → Nat
  | 0 => t
  | j + 1 => xtsNext (xtsTweak t j)
/-- One block under the data key and a tweak. -/
def xtsBlock (keys : List (List Nat)) (t : Nat) (b : List Nat) : List Nat :=
  xorBytes (aesBlock keys (xorBytes b (leBytes 16 t))) (leBytes 16 t)

/-- AES-256-XTS of at least 16 bytes under a 64-byte key, `unit` the number of the data unit; a last part of a block is stolen from
the block before it. -/
def aesXts (key : List Nat) (unit : Nat) (p : List Nat) : List Nat :=
  let keys := aesRoundKeys (key.take 32)
  let t0 := ofLe (aesBlock (aesRoundKeys (key.drop 32)) (leBytes 16 unit))
  let m := p.length / 16
  let r := p.length % 16
  let block := fun j => (p.drop (16 * j)).take 16
  let enc := fun j b => xtsBlock keys (xtsTweak t0 j) b
  if r = 0 then (List.range m).flatMap (fun j => enc j (block j))
  else
    let last := enc (m - 1) (block (m - 1))
    (List.range (m - 1)).flatMap (fun j => enc j (block j)) ++ enc m (p.drop (16 * m) ++ last.drop r) ++ last.take r

end Sys2Proof.Machine
end

