-- ==== Sys2Proof/Machine/Stored.lean ====
section
/-! DEFINITION. What flash holds, byte for byte (chapter 08): log addresses, sector headers and stored forms, stripe headers and
parity, and the contents of record pages, checkpoint maps and META forms. -/

namespace Sys2Proof.Machine

/-! ## Bytes -/

/-- The page content that begins with these bytes and is 0 after them. -/
def Content.ofBytes (bs : List Nat) : Content :=
  ⟨((List.range bs.length).zip bs).filterMap (fun e => if e.2 % 256 = 0 then none else some (e.1, BitVec.ofNat 8 e.2)), []⟩
/-- `k` bytes of a content from an offset, as a value. -/
def Content.le (c : Content) (off k : Nat) : Nat := ofLe ((List.range k).map (fun i => (tabGet (0 : Byte) (off + i) c.bytes).toNat))

/-! ## Log addresses (R200) -/

/-- A log address from its parts (R200). -/
def logKey (ds block page offset : Nat) : Nat := ds * 2 ^ 35 + block * 2 ^ 21 + page * 2 ^ 10 + offset
/-- The band of a log address: BLOCK. -/
def keyBand (k : Nat) : Nat := k / 2 ^ 21 % 2 ^ 14
/-- The die stream of a log address. -/
def keyDs (k : Nat) : Nat := k / 2 ^ 35 % 2 ^ 9
/-- The multi-plane program unit of a log address (R182). -/
def keyUnit (k : Nat) : Nat := k / 2 ^ 10
/-- PAGE and OFFSET of a log address. -/
def keyPage (k : Nat) : Nat := k / 2 ^ 10 % 2 ^ 11
def keyOffset (k : Nat) : Nat := k % 2 ^ 10

/-! ## Stored forms (R201, Table 08-2) -/

/-- 64-byte units a form takes: sector header and stored bytes (R201). -/
def unitsOf (len : Nat) : Nat := 1 + (len + 63) / 64

/-- What an unlisted log address reads as: no form. -/
def Form.none : Form := Form.mk 0 0 0 0 0 0 0 0 0 ⟨[], []⟩ 0 false
/-- The form at a log address. -/
def State.formAt (s : State) (k : Nat) : Form := tabGet Form.none k s.flash
/-- The log owner of device-wide forms (Table 08-2). -/
def wideLd : Nat := 255

/-- POISON_MASK of a form's header. -/
def Form.mask (f : Form) : Nat := f.body.poison.foldl (fun m i => m ||| 2 ^ i) 0
/-- FLAGS of a form's header: COMPRESSED, ELIDED, RELOCATED. -/
def Form.flags (f : Form) : Nat :=
  (if 0 < f.len ∧ f.len < 4096 then 1 else 0) + (if f.len = 0 then 2 else 0) + (if f.reloc then 4 else 0)
/-- The 64 bytes of a sector header (Table 08-2). -/
def Form.header (f : Form) : List Nat :=
  let b := leBytes 2 0x5354 ++ [f.kind, f.flags] ++ leBytes 4 f.page ++ [f.ld, f.keyGen % 256] ++ leBytes 2 f.len ++
    leBytes 4 f.cut ++ leBytes 8 f.seq ++ leBytes 8 f.gen ++ leBytes 4 f.crc ++ leBytes 8 f.mask ++ List.replicate 16 0
  b ++ leBytes 4 (crc32c b)
/-- What the engines encrypt of a form: its compressed stream, or its plaintext when that is not shorter than 4,096 bytes (R6, R7). -/
def Form.stream (f : Form) : List Nat :=
  (List.range f.len).map (fun i => if f.len = pageBytes then (tabGet (0 : Byte) i f.body.bytes).toNat
    else (Config.stream f.body.bytes i).toNat)
/-- The stored bytes of a form (R6, R201): AES-256-XTS under its LD's data key, the page number as tweak. -/
def Form.stored (f : Form) : List Nat :=
  if f.len < 16 then (List.range f.len).map (fun i => (Config.shortByte f.ld f.keyGen f.page f.body.bytes i).toNat)
  else aesXts ((List.range 64).map (fun i => (Config.dataKey f.ld f.keyGen i).toNat)) f.page f.stream
/-- Byte `i` of a stored form: sector header, stored bytes, padding (R201). -/
def Form.byte (f : Form) (i : Nat) : Nat :=
  if i < 64 then f.header.getD i 0
  else f.stored.getD (i - 64) 0

/-- A form of a content (R6, R7, R462): CRC of the plaintext and stored length. The stripe sequence comes with its place. -/
def State.newForm (s : State) (kind page ld keyGen cut : Nat) (c : Content) : Form :=
  Form.mk kind page ld keyGen cut 0 s.newestGen c.crc c.len c 0 false
/-- The form of a page content of an LD, under its data key (R6, R201). -/
def State.formOf (s : State) (kind p ld cut : Nat) (c : Content) : Form := s.newForm kind p ld (s.ld ld).keyGen cut c
/-- A form on its way into a stripe, from no other place on flash. -/
def State.fresh (s : State) (f : Form) (cuts : List Nat) : Item := Item.mk f 0 none cuts false none 0 s.accSeq

/-- What a restoring engine makes of a form (R6): its plaintext under the data key it was written under, else what decryption
under another key yields (log entry 82). -/
def State.plain (s : State) (f : Form) : Content :=
  if f.ld = wideLd ∨ f.keyGen = (s.ld f.ld).keyGen then f.body
  else ⟨(List.range pageBytes).filterMap (fun i =>
    let b := Config.garbled (f.keyGen * 2 ^ 32 + f.page) i
    if b = 0 then none else some (i, b)), f.body.poison⟩

/-- The form a record names is the one it describes (R188): page, LD and key generation of its header, and the CRC of its
restored plaintext. -/
def State.formValid (s : State) (p : Nat) (r : PageRec) : Bool :=
  let f := s.formAt r.loc
  f.kind != 0 && f.page == p && f.ld == r.ld && f.keyGen % 256 == (s.ld r.ld).keyGen % 256 && (s.plain f).crc == r.crc

/-! ## Stripes on flash (R198, R202, R203) -/

/-- Data members of a stripe of sequence `q` over member channels (R198): every member but the one at the parity position. -/
def dataOf (members : List Nat) (q : Nat) : List Nat := members.eraseIdx (q % members.length)
/-- The channel of the parity member. -/
def parityOf (members : List Nat) (q : Nat) : Nat := members.getD (q % members.length) 0

/-- Offset of a log address from the start of data member 0, in 64-byte units (UNIT, Table 08-4). -/
def unitOf (data : List Nat) (k : Nat) : Nat := data.idxOf (keyDs k / 32) * 1024 + keyOffset k

/-- A stripe header entry (Table 08-4). -/
def Form.entry (f : Form) (unit : Nat) : List Nat :=
  leBytes 12 (f.crc * 2 ^ 64 + f.kind % 8 * 2 ^ 61 + f.ld % 32 * 2 ^ 56 + unit * 2 ^ 42 + f.len * 2 ^ 29 + f.page % 2 ^ 29)

/-- The stripe header of a stripe of sequence `q` (Table 08-3). -/
def FStripe.header (t : FStripe) (q : Nat) : List Nat :=
  let data := dataOf t.members q
  let n := t.members.length - 1
  let forms := if t.writer = 7 then [] else t.forms
  let b := leBytes 4 0x50534C53 ++ [t.writer, n] ++ leBytes 2 forms.length ++ leBytes 8 q ++ leBytes 8 t.gen ++
    leBytes 4 t.band ++ leBytes 4 t.erases ++ leBytes 2 (t.members.foldl (fun m c => m ||| 2 ^ c) 0) ++
    [parityOf t.members q] ++ List.replicate 25 0
  let e := forms.flatMap (fun x => x.2.entry (unitOf data x.1))
  let body := b ++ leBytes 4 (crc32c b) ++ e
  let all := body ++ List.replicate (256 * n - 4 - body.length) 0
  all ++ leBytes 4 (crc32c all)

/-- XOR over the data members of a byte of each (R198). -/
def xorOver (data : List Nat) (f : Nat → Nat) : Nat := data.foldl (fun x c => x ^^^ f c) 0

/-- Byte `o` of the 64 KiB of a data member: of the form that lies there, else 0 (R202). -/
def FStripe.dataByte (t : FStripe) (q c o : Nat) : Nat :=
  let data := dataOf t.members q
  let u := data.idxOf c * 65536 + o
  match t.forms.find? (fun x =>
      let a := 64 * unitOf data x.1
      decide (a ≤ u) && decide (u < a + 64 * unitsOf x.2.len)) with
  | some x => x.2.byte (u - 64 * unitOf data x.1)
  | none => 0

/-- Byte `o` of a member's 64 KiB. A seal stripe holds the seal record once on every member (R207), which stands as the body of
its one form. -/
def FStripe.byte (t : FStripe) (q c o : Nat) : Nat :=
  if t.writer = 7 then (t.forms.head?.map (fun x => (tabGet (0 : Byte) o x.2.body.bytes).toNat)).getD 0
  else if c = parityOf t.members q then xorOver (dataOf t.members q) (fun d => t.dataByte q d o)
  else t.dataByte q c o

/-- Byte `i` of a member's header fragment (R203): of the stripe header, or their XOR on the parity member. -/
def FStripe.fragment (t : FStripe) (q c i : Nat) : Nat :=
  let data := dataOf t.members q
  let h := t.header q
  let frag := fun (d : Nat) => h.getD (data.idxOf d * 256 + i) 0
  if c = parityOf t.members q then xorOver data frag else frag c

/-- The stripe on flash that has a member on a die stream at a block of the log and a multi-plane page, of `sets` die sets
(R197): its sequence and contents. -/
def State.stripeAt (s : State) (sets ds band page : Nat) : Option (Nat × FStripe) :=
  s.stripesOn.find? (fun e => e.2.band == band && e.2.unit == page * sets + ds % 32 && e.2.members.contains (ds / 32))

/-! ## Record pages (R204) -/

/-- STATE of a page record as flash holds it (R204). -/
def PState.onFlash : PState → Nat
  | .poisoned => 6
  | _ => 0

/-- A page record as a record page holds it: Table 05-1 with EPOCH_TAG 0 and STATE as R204 says. -/
def PageRec.onFlash (r : PageRec) : Nat :=
  r.st.onFlash * 2 ^ 124 + r.ld % 32 * 2 ^ 119 + r.loc % 2 ^ 44 * 2 ^ 59 + r.len % 2 ^ 13 * 2 ^ 46 + r.crc % 2 ^ 32
/-- A page record read back from a record page. -/
def PageRec.ofFlash (v : Nat) : PageRec :=
  PageRec.mk (if v / 2 ^ 124 % 16 = 6 then .poisoned else .clean) (v / 2 ^ 119 % 32) 0 (v / 2 ^ 59 % 2 ^ 44) (v / 2 ^ 46 % 2 ^ 13)
    (v % 2 ^ 32)

/-- The content of the record page of group `g` for records `rec` (R204). -/
def recordPage (rec : Nat → PageRec) (g : Nat) : Content :=
  Content.ofBytes ((List.range 256).flatMap (fun i => leBytes 16 (rec (256 * g + i)).onFlash))

/-- The record of page `p` as the newest record page of its group holds it, `none` where there is no record page (R204,
R205). -/
def State.flashRec (s : State) (p : Nat) : Option PageRec :=
  match tabGet 0 (p / 256) s.recIdx with
  | 0 => none
  | k => some (PageRec.ofFlash ((s.formAt k).body.le (16 * (p % 256)) 16))

/-! ## Checkpoint records (R206; layouts log entry 84) -/

/-- Log addresses in a map form. -/
def mapSize : Nat := 496

/-- The contents of the CKPT_MAP forms that list `addrs`, 496 each. -/
def mapPages (addrs : List Nat) : List Content :=
  (List.range ((addrs.length + mapSize - 1) / mapSize)).map (fun j =>
    Content.ofBytes (((addrs.drop (mapSize * j)).take mapSize).flatMap (leBytes 8)))

/-- The content of a CKPT_RECORD (R206): LD, cause, retention flag, levels of maps, identifier, cut beat, completion beat and
the addresses of its maps. -/
def Ckpt.record (c : Ckpt) (ld beat levels : Nat) (maps : List Nat) : Content :=
  Content.ofBytes ([ld, c.cause, (if c.retain then 1 else 0), levels] ++ leBytes 4 c.id ++ leBytes 8 c.cutBeat ++ leBytes 8 beat ++
    leBytes 4 maps.length ++ leBytes 4 0 ++ maps.flatMap (leBytes 8))

/-! ## META forms (R205, Table 08-5; layouts the table leaves open: log entry 84) -/

/-- META forms of one type: `n` entries to a form after 8 bytes with TYPE and ENTRIES. -/
def metaPages (type n : Nat) (entries : List (List Nat)) : List Content :=
  (List.range ((entries.length + n - 1) / n)).map (fun j =>
    let e := (entries.drop (n * j)).take n
    Content.ofBytes (leBytes 4 type ++ leBytes 4 e.length ++ e.flatten))

/-- LD state codes of Table 02-8 as META type 0x04 keeps them. -/
def SealLd.metaState (l : SealLd) : Nat := match l.prior with
  | .unbound => 0 | .refilling => 1 | .serving => 2 | .quiesced => 3 | .spilling => 4 | .sealed => 5

/-- An entry of META type 0x04: cut sequence, owed counters, key generation, wrapped key, LD state, newest and oldest checkpoint
identifiers and how many are pending and retained. -/
def SealLd.metaEntry (l : SealLd) : List Nat :=
  let pend := l.ckpts.filter (fun c => !c.complete)
  let ret := l.ckpts.filter (fun c => c.retain)
  leBytes 4 l.cutSeq ++ leBytes 4 l.owedT ++ leBytes 4 l.pages ++ leBytes 4 l.keyGen ++
  (List.range 32).map (fun i => (Config.wrappedKey l.ld l.keyGen i).toNat) ++
  leBytes 4 ((pend.getLast?.map (·.id)).getD 0) ++ leBytes 4 ((ret.getLast?.map (·.id)).getD 0) ++
  leBytes 2 pend.length ++ leBytes 2 ret.length ++ [l.ld, l.metaState, (if l.held then 1 else 0), 0]

/-- An entry of META type 0x05. -/
def Ckpt.metaEntry (c : Ckpt) (ld : Nat) : List Nat :=
  [ld, (if c.complete then 1 else 0), (if c.retain then 1 else 0), 0] ++ leBytes 4 c.id ++ leBytes 8 c.cutBeat ++
    leBytes 8 (c.recAddr.getD 0) ++ leBytes 8 0

/-- An entry of META type 0x08: a record page written for a checkpoint (R206). -/
def metaRecEntry (id group addr : Nat) : List Nat := leBytes 4 id ++ leBytes 4 group ++ leBytes 8 addr

/-- The parts of a ring state record (Table 12-8): the header of a ring, then its images, 51 to a META form. A ring whose TAG_HIGH
is 0 and that holds no image is left out (R326). -/
def Acc.image (a : Acc) : List Nat :=
  a.desc.bytes ++ leBytes 4 a.idx ++ [bit1 (a.st == .done), a.status, a.flags, a.step] ++ leBytes 4 a.result ++ leBytes 4 0
def ringParts (key gen tagHigh : Nat) (halted : Bool) (r : Ring) : List (List Nat) :=
  if tagHigh = 0 ∧ r.accs = [] then []
  else
    ([key / 256, key % 256, bit1 halted, 0] ++ leBytes 4 r.accs.length ++ leBytes 8 tagHigh ++ leBytes 8 r.lastTag ++
      leBytes 4 gen ++ leBytes 4 0) :: r.accs.map Acc.image

/-! ## The seal record (R165, Tables 06-4, 06-5) -/

/-- The CUT word of the seal record and of SPILL_OPEN (Table 06-4, Table 08-7). -/
def cutWord (cut origin : Nat) : Nat := cut % 2 ^ 48 + origin % 2 ^ 14 * 2 ^ 48

/-- A mask of LDs. -/
def ldMask (l : List Nat) : Nat := l.foldl (fun m n => m ||| 2 ^ n) 0

/-- LD_IN_IMAGE and LD_COMPLETE of a seal. -/
def Seal.inImage (g : Seal) : Nat := ldMask ((g.lds.filter (·.inImage)).map (·.ld))
def Seal.complete (g : Seal) : Nat := ldMask ((g.lds.filter (fun l => l.inImage && l.complete)).map (·.ld))

/-- An LD entry (Table 06-5). -/
def SealLd.bytes (l : SealLd) : List Nat :=
  leBytes 4 l.newest ++ leBytes 4 l.cutSeq ++ leBytes 4 l.pages ++
  leBytes 2 (l.cls % 4 * 2 ^ 14 + l.prio % 16 * 2 ^ 10 + (if l.inImage && l.complete then 512 else 0) +
    (if l.overWeir then 256 else 0) + (if l.poisoned then 128 else 0)) ++
  leBytes 2 (l.scope % 4 * 2 ^ 14 + l.group % 64 * 256 + l.keyGen % 256)

/-- The first 1,020 bytes of a seal record as a caller may read it: `only` keeps one LD's entry and mask bits (R320). -/
def Seal.body (g : Seal) (serial : Nat) (only : Option Nat) : List Nat :=
  let m := match only with | some n => 2 ^ n | none => 2 ^ 32 - 1
  let metaFirst := keyDs g.metaKey + keyBand g.metaKey * 2 ^ 9 + g.metaKey / 2 ^ 10 % 2 ^ 11 * 2 ^ 23
  let head := leBytes 4 0x4C414553 ++ leBytes 2 1 ++ leBytes 2 1024 ++ leBytes 8 g.gen ++ leBytes 8 g.prev ++
    leBytes 8 (cutWord g.cut g.origin) ++ leBytes 8 g.sealBeat ++ leBytes 2 g.moduleId ++ leBytes 2 g.rootId ++
    [g.cause, g.flags] ++ leBytes 2 0 ++ leBytes 4 (g.complete &&& m) ++ leBytes 4 (g.inImage &&& m) ++
    leBytes 8 metaFirst ++ leBytes 8 g.metaB ++ leBytes 8 g.written ++ leBytes 8 g.stored ++ leBytes 8 g.headAtT ++
    leBytes 8 serial ++ List.replicate 152 0
  let entry := fun (n : Nat) => match g.lds.find? (fun l => l.ld == n) with
    | some l => if only.isNone || only == some n then l.bytes else List.replicate 16 0
    | none => List.replicate 16 0
  head ++ allLds.flatMap entry ++ List.replicate 252 0

/-- The seal record's 1,024 bytes. -/
def Seal.record (g : Seal) (serial : Nat) (only : Option Nat) : List Nat :=
  let b := g.body serial only
  b ++ leBytes 4 (crc32c b)

end Sys2Proof.Machine
end

