-- ==== Sys2Proof/Machine/Log.lean ====
section
/-! DEFINITION. The weir (R118 to R121), the rill (R128 to R132), stripes and the spillway log (chapter 08), and the
completion of checkpoints (R135). -/

namespace Sys2Proof.Machine

/-! ## Geometry and addresses (R195 to R200) -/

/-- D (R195). -/
def State.dieSets (s : State) : Nat := s.fget Fld.LOG_GEOM.DIE_SETS
/-- Stripes a band holds (R197). -/
def State.bandStripes (s : State) : Nat := s.dieSets * s.fget Fld.LOG_GEOM.PSLC_PAGES
/-- Channel `c` is in service (R217). -/
def State.chIn (s : State) (c : Nat) : Bool := !((s.fget Fld.LOG_CH_STS.OUT_OF_SERVICE).testBit c)
/-- A die is in service. -/
def State.dieIn (s : State) (ds : Nat) : Bool := s.fget (Fld.LOG_DIE_STS.STATE ds) == 1
/-- Member channels of a stripe on die set `j` (R198). -/
def State.membersOf (s : State) (j : Nat) : List Nat :=
  (List.range 16).filter (fun c => s.chIn c && s.dieIn (32 * c + j))
/-- Data members of a stripe (R198): every member but the one at the parity position. -/
def Stripe.dataMembers (t : Stripe) : List Nat := dataOf t.members t.seq
/-- Die set of a stripe (R197). -/
def State.stripeSet (s : State) (t : Stripe) : Nat := if s.dieSets = 0 then 0 else t.unit % s.dieSets
/-- Die streams of a stripe's members. -/
def State.stripeDies (s : State) (t : Stripe) : List Nat := t.members.map (fun c => 32 * c + s.stripeSet t)
/-- N_DATA for new stripes (Table 05-4): 14 while a flash channel is out of service, else 15. -/
def State.nData (s : State) : Nat := if s.fget Fld.LOG_CH_STS.OUT_OF_SERVICE = 0 then 15 else 14

/-! ## Fixed regions and spare blocks (R196, R197) -/

/-- Pages per pSLC block; what the recovery code knows while no start has read the geometry (log entry 34). -/
def State.flmP (s : State) : Nat :=
  let p := s.fget Fld.LOG_GEOM.PSLC_PAGES
  if p = 0 then max 1 Config.dieTableP else p
/-- Blocks that hold `mib` MiB in pSLC. -/
def State.blocksOf (s : State) (mib : Nat) : Nat := (mib * 16 + s.flmP - 1) / s.flmP
/-- Blocks of the journal region and of the FM-defined area (Table 08-1). -/
def State.jnlRegion (s : State) : Nat := (4096 + s.flmP - 1) / s.flmP + 1
def State.fmArea (s : State) : Nat := s.blocksOf s.boot.resv
/-- Blocks of the region a die stream carries (Table 08-1). -/
def State.regionBlocks (s : State) (ds : Nat) : Nat :=
  if [0, 128, 256, 384].contains ds then s.blocksOf 8
  else if ds = 64 ∨ ds = 320 then 2 * s.blocksOf 8
  else if ds = 1 ∨ ds = 257 then s.jnlRegion
  else if ds = 96 ∨ ds = 352 then s.fmArea
  else 0
/-- Key of a block. -/
def blockKey (ds block : Nat) : Nat := ds * 2 ^ 14 + block
/-- A block is bad or retired. -/
def State.isBad (s : State) (ds block : Nat) : Bool := s.log.bad.contains (blockKey ds block)
/-- How many good blocks of a die lie below a block, which is the block's number in the region it belongs to. -/
def State.goodIdx (s : State) (ds block : Nat) : Nat :=
  block - (s.log.bad.filter (fun k => k / 2 ^ 14 == ds && decide (k % 2 ^ 14 < block))).length
/-- The good block of a number. -/
def State.goodBlock (s : State) (ds i : Nat) : Nat :=
  ((List.range (i + s.log.bad.length + 1)).filter (fun b => !s.isBad ds b)).getD i 0
/-- The lowest block that may be a band's: above the spare blocks, and above every region that is larger (R196). -/
def State.firstBand (s : State) : Nat :=
  [0, 128, 256, 384, 64, 320, 1, 257, 96, 352].foldl (fun m ds =>
    if s.regionBlocks ds = 0 then m else max m (s.goodBlock ds (s.regionBlocks ds - 1) + 1)) s.boot.spares
/-- A block number is a band of the log's. -/
def State.isBand (s : State) (b : Nat) : Bool :=
  s.log.used.contains b || s.log.free.contains b || s.log.tlc.contains b || s.log.erasing == some b
/-- The spare blocks of a die that are left, ascending: good, above its region, not in use, and no band's since before SPARE_BLOCKS
was raised (R196; log entry 86). -/
def State.spareBlocks (s : State) (ds : Nat) : List Nat :=
  let used := (s.log.remap.filter (fun e => e.1 / 2 ^ 14 == ds)).map (·.2)
  (List.range (s.boot.spares)).filter (fun b =>
    !s.isBad ds b && decide (s.regionBlocks ds ≤ s.goodIdx ds b) && !used.contains b && !s.isBand b)
/-- The spare block of a die that would be taken next. -/
def State.nextSpare (s : State) (ds : Nat) : Option Nat := (s.spareBlocks ds).head?
/-- Spare blocks of a die left (R196). -/
def State.sparesLeft (s : State) (ds : Nat) : Nat := (s.spareBlocks ds).length
/-- The block of the die that a block of the log stands for (R197). -/
def State.physBlock (s : State) (ds block : Nat) : Nat := tabGet block (blockKey ds block) s.log.remap
/-- A spare block takes the place of a block of the log through the remap table (R197, R215); the block it replaces is bad. A fixed
region goes on in the next good block. -/
def State.remapBlock (s : State) (ds block : Nat) : State :=
  let s := s.modLog (fun l => { l with bad := setIns (blockKey ds (s.physBlock ds block)) l.bad })
  match (if s.isBand block || decide (s.firstBand ≤ block) then s.nextSpare ds else none) with
  | some b => s.modLog (fun l => { l with remap := tabIns (blockKey ds block) b (tabDel (blockKey ds block) l.remap) })
  | none => s

/-! ## The weir (R118, R120, R121) -/

/-- Scarab clusters in service (Table 05-4): STATE of SCB_CL_STS 0. -/
def State.clustersOk (s : State) : Nat :=
  ((List.range 16).filter (fun k => s.fget (Fld.SCB_CL_STS.STATE k) == 0)).length
/-- P_SPILL in 0.1 W: the greater of P_SPILL_W and P_MEAS (R101). -/
def State.pSpillDw (s : State) : Nat := max (10 * s.fget Fld.CIS_CFG.P_SPILL_W) (s.fget Fld.CIS_REH_STS.P_MEAS)
/-- c in force, 1/128 units. -/
def State.creditC (s : State) : Nat := if s.on Fld.WEIR_CFG.CREDIT_EN then s.fget Fld.WEIR_CREDIT.RATIO_NOW else 128

/-- The sums of R118 as exact fractions: bw_flash is `a ÷ b` bytes/s, t_page is `n ÷ d` s. -/
structure WeirSum where
  a : Nat
  b : Nat
  n : Nat
  d : Nat
  deriving DecidableEq, Repr

/-- bw_flash and t_page (R118); the program-time correction is ignored while TPROG_RATED_US is 0. -/
def State.weirSum (s : State) : WeirSum :=
  let rated := s.fget Fld.WEIR_FIXED.TPROG_RATED_US
  let meas := s.fget Fld.LOG_GEOM.TPROG_US
  let raw := s.fget Fld.WEIR_FIXED.BW_CH_MBS * 1000000 * s.nData
  let corr := rated != 0 && decide (rated < meas)
  let a := if corr then raw * rated else raw
  let b := if corr then meas else 1
  let scarab := 10000000000 * s.clustersOk
  let n1 := (32 * s.creditC + s.fget Fld.WEIR_FIXED.PAGE_OVH) * b
  if n1 * scarab < 4096 * a then ⟨a, b, 4096, scarab⟩ else ⟨a, b, n1, a⟩

/-- The numerator of f over 10^10 × a (J): fixed allowance, serving through the guard, metadata and final programs. -/
def State.overheadNum (s : State) (w : WeirSum) : Nat :=
  s.fget Fld.WEIR_FIXED.FIXED_J * 10 ^ 10 * w.a +
  s.fget Fld.WEIR_FIXED.P_SERVE_W * (s.guardNow + 1) * 8192 * 10 * w.a +
  s.pSpillDw * 67108864 * w.b * 10 ^ 9 + s.pSpillDw * 2 * 10 ^ 6 * w.a

/-- W and W_hard (R118): 0 when a bandwidth or the spill power is 0, saturating at 2^31 − 1. -/
def State.weirPages (s : State) : Nat × Nat :=
  let w := s.weirSum
  if w.a = 0 ∨ w.d = 0 ∨ s.clustersOk = 0 ∨ s.pSpillDw = 0 then (0, 0)
  else
    let avail := s.fget Fld.CIS_USABLE.USABLE_J * 10 ^ 10 * w.a - s.overheadNum w
    let m := 100 + s.fget Fld.WEIR_CFG.MARGIN_PCT
    let den := 10 ^ 10 * w.a * s.pSpillDw * w.n
    (min (avail * 10 * w.d * 100 / (den * m)) (2 ^ 31 - 1), min (avail * 10 * w.d / den) (2 ^ 31 - 1))

/-- WEIR_COMPUTE (R118): W and W_hard come into force 2 µs after the boundary (R119); WEIR_CALC shows the sums, rounded
down (log entry 15). -/
def State.computeWeir (s : State) : State :=
  let w := s.weirSum
  let p := s.weirPages
  let s := s.modRill (fun r => { r with pendW := some p, pendAt := s.now + 2000 })
  if w.a = 0 ∨ w.d = 0 then s
  else
    let f := s.overheadNum w
    let avail := s.fget Fld.CIS_USABLE.USABLE_J * 10 ^ 10 * w.a - f
    let s := s.fsat Fld.WEIR_CALC.F_J (f / (10 ^ 10 * w.a))
    let s := s.fsat Fld.WEIR_CALC.E_WEIR_J (avail * 100 / (10 ^ 10 * w.a * (100 + s.fget Fld.WEIR_CFG.MARGIN_PCT)))
    s.fsat Fld.WEIR_CALC.E_PAGE (s.pSpillDw * w.n * 10 ^ 10 / w.d)

/-- The weir computed last comes into force once 2 µs have passed since its boundary (R119). -/
def State.weirForce (s : State) : State :=
  match s.rill.pendW with
  | some (w, h) =>
    if s.rill.pendAt ≤ s.now then
      let s := s.modRill (fun r => { r with pendW := none })
      ((s.fset Fld.WEIR_STS.WEIR_PAGES w).fset Fld.WEIR_STS.HARD_PAGES h).showWeir
    else s
  | none => s

/-- CREDIT_UPDATE (R121): the beat just ended is a sampled beat when the rill stored MIN_PAGES pages in it; c is the largest
ratio of the window, at least the floor, and 1 while fewer than 64 beats are sampled. A ratio is kept in 1/128, rounded up (DESIGN
CHOICE, log entry 15). -/
def State.updateCredit (s : State) : State :=
  let r := s.rill
  let win := 1024 * 2 ^ s.fget Fld.WEIR_CREDIT.WINDOW
  let sampled := decide (s.fget Fld.WEIR_CREDIT.MIN_PAGES ≤ r.beatPgs) && decide (0 < r.beatPgs)
  let ratio := min 255 ((r.beatLen + 32 * r.beatPgs - 1) / (32 * max 1 r.beatPgs))
  let keep := r.samples.filter (fun e => decide (s.curBeat < e.1 + win))
  let samples := if sampled then keep ++ [(s.curBeat, ratio)] else keep
  let s := s.modRill (fun r => { r with samples := samples, beatPgs := 0, beatLen := 0 })
  let s := if sampled then s.fset Fld.WEIR_CREDIT.RATIO_BEAT ratio else s
  let c := if s.on Fld.WEIR_CFG.CREDIT_EN && decide (64 ≤ samples.length) then
      max (s.fget Fld.WEIR_CFG.CREDIT_FLOOR) ((samples.map (·.2)).foldl max 0)
    else 128
  s.fset Fld.WEIR_CREDIT.RATIO_NOW (min c 128)

/-! ## The wear governor (R132) -/

/-- r_rill × WINDOW_S, bytes, and r_rill in bytes/s, both rounded down. -/
def State.govRate (s : State) (secs : Nat) : Nat :=
  let den := 100 * s.fget Fld.RILL_GOV.LIFE_DAYS * 86400 * 100
  if den = 0 then 0
  else s.fget Fld.LOG_CAP.PSLC_BYTES * s.fget Fld.RILL_GOV.CYCLES * s.fget Fld.RILL_GOV.USE_PCT *
    (100 - s.fget Fld.RILL_GOV.RELOC_PCT) * secs / den

/-- Bytes the rill programmed in the current slice and the 63 before it. -/
def State.govUsed (s : State) : Nat := sumNat (s.rill.slices.take 64)

/-- The governor is ignored for the rill as a whole: a deficit (R120). -/
def State.govOff (s : State) : Bool := s.deficit
/-- Pages that an LD reset waits for (R325), cleaned without the governor: of an LD whose reset waits, those owed to passed cuts
and those of its running PERSIST_RANGE descriptors. -/
def State.resetOwes (s : State) (n p : Nat) : Bool :=
  (s.ld n).resetting && (!(s.owedTo n p).isEmpty || (s.rings.filter (fun e => e.1 / 256 == n)).any (fun e =>
    e.2.accs.any (fun a => a.st == .running && a.desc.opcode.toNat == 1 && a.pages.contains p)))
/-- A form on its way to flash is one that an LD reset waits for: an eddy copy of a passed cut, or the live copy of such a page. -/
def State.resetItem (s : State) (i : Item) : Bool :=
  i.src.isNone && ((i.form.kind == 2 && (s.ld i.form.ld).resetting && !i.cuts.isEmpty) ||
    (i.form.kind == 1 && s.resetOwes i.form.ld i.form.page))
/-- Physical bytes of a stripe (R132). -/
def Stripe.bytesOn (t : Stripe) : Nat := 65536 * t.members.length
/-- Of the physical bytes of a stripe, the share of its forms that LD resets wait for, by their units (log entry 115). -/
def State.resetBytes (s : State) (t : Stripe) : Nat :=
  let units := fun (is : List Item) => sumNat (is.map (fun i => unitsOf i.form.len))
  if units t.items = 0 then 0 else t.bytesOn * units (t.items.filter s.resetItem) / units t.items

/-- Bytes the governor still lets the rill program. -/
def State.govLeft (s : State) : Nat := s.govRate (s.fget Fld.RILL_GOV.WINDOW_S) - s.govUsed

/-- The governor lets the rill start a stripe of so many members (R132): the bytes of the current slice and the 63 before it, with
the stripes already started and this one, do not exceed the budget. -/
def State.govAllows (s : State) (members : Nat) : Bool :=
  let started := sumNat ((s.log.stripes.filter (fun t => (t.writer == 1 || t.writer == 6) && !t.closed)).map (·.bytesOn))
  s.govOff || decide (s.govUsed + started + 65536 * members ≤ s.govRate (s.fget Fld.RILL_GOV.WINDOW_S))

/-- Bytes are charged to the current slice. -/
def RillState.charge (r : RillState) (n : Nat) : RillState :=
  { r with slices := match r.slices with | [] => [n] | a :: l => (a + n) :: l }

/-! ## Bands (R208, R209, R211) -/

/-- A writer whose stripes are programmed by command of the Elytra (R152): the stages of a spill. -/
def byElytra (writer : Nat) : Bool := writer == 2 || writer == 5 || writer == 7

/-- A band's bytes on its 16 members. -/
def State.bandBytes (s : State) : Nat := s.bandStripes * 16 * 65536

/-- FREE_MIN (R209): bands for W_hard pages, stage C and a seal stripe, and 2 bands. -/
def State.freeMin (s : State) : Nat :=
  let b := s.bandBytes
  if b = 0 then 2
  else (s.weirHard * 4160 * 16 / s.nData + 67108864 + 1048576 + b - 1) / b + 2

/-- Log addresses something still references: page records, the record index, checkpoints, their forms and the record pages that
their maps name, sealed images and their META forms (R208). -/
def State.refs (s : State) : List Nat :=
  let ofRecs := fun (l : List (Nat × PageRec)) => l.map (fun e => e.2.loc)
  let ofCkpts := fun (l : List Ckpt) => l.flatMap (fun c => ofRecs c.recs ++ c.forms ++ c.named ++ c.old ++ c.recAddr.toList)
  (ofRecs s.pages ++ s.recIdx.map (·.2) ++ allLds.flatMap (fun n => ofCkpts (s.ld n).ckpts) ++
    (match s.sealedImg with
     | some g => ofRecs g.recs ++ g.metas ++ g.index.map (·.2) ++ g.lds.flatMap (fun l => ofCkpts l.ckpts)
     | none => [])).filter (· ≠ 0)

/-- The tail (R208): the oldest band in use that holds a referenced copy, the head when none does. -/
def State.tailBand (s : State) : Nat :=
  let refs := s.refs
  ((s.log.used.find? (fun b => refs.any (fun k => keyBand k == b))).getD (s.log.used.getLastD 0))

/-- LOG_WINDOW shows the ring of bands. -/
def State.showWindow (s : State) : State :=
  let s := (s.fsat Fld.LOG_WINDOW.FREE_BANDS s.log.free.length).fsat Fld.LOG_WINDOW.FREE_MIN s.freeMin
  (s.fset Fld.LOG_WINDOW.TAIL s.tailBand).fset Fld.LOG_WINDOW.HEAD (s.log.used.getLastD 0)

/-- Bands in the order of the ring from the head on (R208). -/
def State.ringOrder (s : State) (l : List Nat) : List Nat :=
  let h := s.log.used.getLastD 0
  sortBy (fun b => (b + 2 ^ 14 - h) % 2 ^ 14) l
/-- The next free band, when a writer may take it (R209): the rill, checkpoints and fold leave FREE_MIN of them to the spill and to
relocation (log entry 112). -/
def State.bandFor (s : State) (writer : Nat) : Option Nat :=
  if byElytra writer || writer == 3 || decide (s.freeMin < s.log.free.length) then
    s.log.free.find? (fun b => !s.log.reErase.contains b)
  else none
/-- A band with room for a stripe is at the head; the next free band becomes the head when the head's band is full. -/
def State.needBand (s : State) (writer : Nat) : State :=
  if s.log.used.isEmpty || s.bandStripes ≤ s.log.unit then
    match s.bandFor writer with
    | some b => (s.modLog (fun l => { l with used := l.used ++ [b], free := l.free.erase b, unit := 0 })).showWindow
    | none => s
  else s

/-- Stripes a TLC band holds (R214). -/
def State.tlcStripes (s : State) : Nat := s.dieSets * s.fget Fld.LOG_GEOM.TLC_PAGES

/-- Where a writer's next stripe goes, band and stripe number: the head, or for fold the open TLC band (R208, R213); `none` where
no room is left. -/
def State.stripePlace (s : State) (writer : Nat) : Option (Nat × Nat) :=
  if writer = 4 then
    match s.log.tlc.getLast? with
    | some b => if s.log.tlcUnit < s.tlcStripes then some (b, s.log.tlcUnit) else none
    | none => none
  else if s.log.used.isEmpty || s.bandStripes ≤ s.log.unit then none
  else some (s.log.used.getLastD 0, s.log.unit)

/-- The stripe the next sequence gives a writer (R199), when a band has room, the die set two members at least, and the governor
lets the rill start it or `free` says that it does not count (R132, R325). A rill stripe takes the record groups that are due
(R204), at most 200 of them. -/
def State.newStripe (s : State) (writer : Nat) (free : Bool) : State × Option Nat :=
  let s := if writer = 4 then s else s.needBand writer
  match s.stripePlace writer with
  | none => (s, none)
  | some (b, u) =>
    let j := if s.dieSets = 0 then 0 else u % s.dieSets
    let m := s.membersOf j
    if m.length < 2 then (s, none)
    else if (writer = 1 ∨ writer = 6) ∧ !(free || s.govAllows m.length) then (s, none)
    else
      let q := s.log.seq
      let t := Stripe.mk q writer b u m 0 [] false 0 0
      let due := if writer = 1 then s.log.poisonDue.take 200 else []
      let s := s.modLog (fun l => { l with
        seq := q + 1
        unit := if writer = 4 then l.unit else l.unit + 1
        tlcUnit := if writer = 4 then l.tlcUnit + 1 else l.tlcUnit
        stripes := l.stripes ++ [t]
        written := true
        poisonDue := l.poisonDue.drop due.length
        recDue := l.recDue ++ due.map (fun g => (q, g)) })
      (s.fset Fld.LOG_SEQ.NEXT_SEQ (q + 1), some q)

/-- A stripe changes. -/
def State.modStripe (s : State) (q : Nat) (f : Stripe → Stripe) : State :=
  s.modLog (fun l => { l with stripes := l.stripes.map (fun t => if t.seq == q then f t else t) })
/-- A stripe by its sequence. -/
def State.stripe? (s : State) (q : Nat) : Option Stripe := s.log.stripes.find? (fun t => t.seq == q)
/-- A writer's open stripe: its last that is not being programmed. -/
def State.openStripe (s : State) (writer : Nat) : Option Stripe :=
  (s.log.stripes.filter (fun t => t.writer == writer && !t.closed)).getLast?
/-- Stripes that carry the record pages of the groups they change (R204): the rill's, relocation's and fold's. -/
def Stripe.carriesRecs (t : Stripe) : Bool := t.writer == 1 || t.writer == 3 || t.writer == 4
/-- The record groups whose record pages a stripe carries: those of its DATA forms, those of relocated copies of another kind that
a page record names, and those due (R204). -/
def State.stripeGroups (s : State) (t : Stripe) : List Nat :=
  if t.carriesRecs then
    let own := (t.items.filter (fun (i : Item) => i.form.kind == 1 ||
      (i.form.kind == 2 && i.src.any (fun k => (s.page i.form.page).loc == k)))).map (fun i => i.form.page / 256)
    let due := (s.log.recDue.filter (fun e => e.1 == t.seq)).map (fun e => e.2)
    (own ++ due).dedup
  else []

/-- The log address of the next form of a stripe (R202). -/
def State.nextKey (s : State) (t : Stripe) : Nat :=
  let ch := t.dataMembers.getD (t.used / 1024) 0
  let page := if s.dieSets = 0 then 0 else t.unit / s.dieSets
  logKey (32 * ch + s.stripeSet t) t.band page (t.used % 1024)

/-- A scan counts a stripe as written (R221): its header fragments decode, at most one of them rebuilt from parity. What a program
that completed left on flash passes every header check; a program that a loss of power interrupted left no stripe. -/
def State.scanned (s : State) (t : FStripe) : Bool :=
  let set := if s.dieSets = 0 then 0 else t.unit % s.dieSets
  decide ((t.members.filter (fun c => !(s.chIn c && s.dieIn (32 * c + set)))).length ≤ 1)

/-- The stripes a scan of the window takes, in the order of their sequence (R205): stage B stripes only of generations up to `gen`,
and none of CKPT stripes, whose record pages describe checkpoints. -/
def State.scanStripes (s : State) (gen : Nat) : List (Nat × FStripe) :=
  s.stripesOn.filter (fun e => s.scanned e.2 && e.2.writer != 6 && (!byElytra e.2.writer || decide (e.2.gen ≤ gen)))

/-- The record index a scan of the stripe headers finds (R205): of every group the record page in the latest stripe that
carries one. -/
def State.scanIndex (s : State) : List (Nat × Nat) :=
  (s.scanStripes s.newestGen).foldl (fun m e =>
    e.2.forms.foldl (fun m x => if x.2.kind = 3 then tabSet 0 x.2.page x.1 m else m) m) []

/-- The page records a scan of the stripe headers finds (R205): each page's entry in the latest stripe, then the record pages that
are newer. -/
def State.scanRecs (s : State) (gen : Nat) : List (Nat × PageRec) :=
  (s.scanStripes gen).foldl (fun m e => e.2.forms.foldl (fun m x =>
    match x.2.kind with
    | 1 => tabIns x.2.page (PageRec.mk .clean x.2.ld 0 x.1 x.2.len x.2.crc) (tabDel x.2.page m)
    | 3 => (List.range 256).foldl (fun m i =>
        let r := PageRec.ofFlash (x.2.body.le (16 * i) 16)
        if r.loc = 0 && r.st != .poisoned then m else tabIns (256 * x.2.page + i) r (tabDel (256 * x.2.page + i) m)) m
    | _ => m) m) []

/-- A page record as the record page of stripe `t` describes it (R204): where this stripe, or an earlier one not yet programmed,
puts the page's copy, else as it stands. -/
def State.recOf (s : State) (t : Stripe) (p : Nat) : PageRec :=
  let r := s.page p
  let its := ((s.log.stripes.filter (fun x => x.closed && decide (x.seq < t.seq))) ++ [t]).flatMap (fun x => x.items)
  let mine := fun (i : Item) => i.form.page == p && i.slot.isNone &&
    (match i.src with | some k => k == r.loc && (i.form.kind == 1 || i.form.kind == 2) | none => i.form.kind == 1 && !i.stale)
  match (its.filter mine).getLast? with
  | some i => { r with loc := i.key, len := i.form.len, crc := i.form.crc }
  | none => r

/-- The record page of a group that stripe `t` carries. -/
def State.recForm (s : State) (t : Stripe) (g : Nat) : Form := s.newForm 3 g wideLd 0 0 (recordPage (s.recOf t) g)

/-- A stripe with one form more. -/
def State.withItem (s : State) (t : Stripe) (i : Item) : Stripe :=
  let i := { i with
    key := s.nextKey t
    form := { i.form with seq := if i.form.reloc then i.form.seq else t.seq } }
  { t with
    items := t.items ++ [i]
    used := t.used + unitsOf i.form.len
    bytes := t.bytes + i.form.len }

/-- Forms and record pages fit a stripe (R202): within its data members, and within its header's entries. Where even forms of
4,096 stored bytes fit, nothing needs measuring. -/
def State.stripeFits (s : State) (t : Stripe) : Bool :=
  let n := t.members.length - 1
  let g := s.stripeGroups t
  decide (t.items.length + g.length ≤ (256 * n - 68) / 12) &&
    (decide (65 * (t.items.length + g.length) ≤ 1024 * n) ||
      decide (t.used + sumNat (g.map (fun x => unitsOf (s.recForm t x).len)) ≤ 1024 * n))
/-- A form fits in a stripe, with the record pages the stripe will carry (R202, R204). -/
def State.fits (s : State) (t : Stripe) (i : Item) : Bool := s.stripeFits (s.withItem t i)

/-- The record pages of the groups a stripe changes are its last forms (R204). -/
def State.addRecs (s : State) (q : Nat) : State :=
  match s.stripe? q with
  | none => s
  | some t => (s.stripeGroups t).foldl (fun s g => s.modStripe q (fun x => s.withItem x (s.fresh (s.recForm t g) []))) s

/-- Log addresses of the forms of every stripe that has a member on a die. -/
def State.dieForms (s : State) (ds : Nat) : List Nat :=
  (s.stripesOn.filter (fun (e : Nat × FStripe) => e.2.members.contains (ds / 32) && s.dieSets != 0 &&
    e.2.unit % s.dieSets == ds % 32)).flatMap (fun e => e.2.forms.map (fun (x : Nat × Form) => x.1))

/-- Every copy that a relocation stripe moves comes from a stripe of a retired die (R216). -/
def State.fromRetired (s : State) (t : Stripe) : Bool :=
  let keys := (s.log.dieCause.filter (fun e => !s.log.dieDone.contains e.1)).flatMap (fun e => s.dieForms e.1)
  let srcs := t.items.filterMap (·.src)
  !srcs.isEmpty && srcs.all keys.contains

/-! ## Operations at dies (R207, R220, R229) -/

/-- The die stream of a journal copy (Table 08-1). -/
def jnlDs (copy : Nat) : Nat := if copy = 0 then 1 else 257

/-- The order in which records go to the copies (R372, R376): after STAGING_FAILED kinds 0x0001 to 0x0007, the open summary,
then fault records, each in arrival order. -/
def JRec.rank (r : JRec) : Nat :=
  if r.kind == 0x103 then 0 else if r.kind ≤ 7 then 1 else if r.kind == 0x101 then 2 else 3

/-- The record a copy works on, or takes next. -/
def State.jnlNext (s : State) (copy : Nat) : Option JRec :=
  let l := s.flt.staging.filter (fun r => !r.sealedOn.contains copy)
  match l.find? (fun r => r.progOn.contains copy) with
  | some r => some r
  | none => (sortBy JRec.rank l).head?

/-- The journal region is found and the copy in service (R372, Table 13-2). -/
def State.jnlWrites (s : State) (copy : Nat) : Bool :=
  s.dev != .off && decide (copy < 2) && (s.fget Fld.JNL_STS.COPY_OK).testBit copy &&
  !(s.dev == .training && decide (s.fget Fld.BOOT_STS.STAGE < 5))

/-- The port's operation is with its die: issued, or nothing of the log's own is there (R229). -/
def State.flmIssued (s : State) (o : FlmOp) : Bool := o.issued || !(s.log.dieOps.any (fun e => e.1 == o.ds))

/-- An operation that no draw suspends stands at a die (R220, R229): a program of the journal, which is under way as long as its
copy has a record to write, or one of the maintenance port. -/
def State.holdsDie (s : State) (ds : Nat) : Bool :=
  [0, 1].any (fun c => jnlDs c == ds && s.jnlWrites c && (s.jnlNext c).isSome) ||
    s.flm.op.any (fun o => o.ds == ds && s.flmIssued o)

/-- What a die does for the log next: the program of a stripe other than `q` that waits for it, else its part of a band's erase. -/
def State.dieNext (s : State) (q ds : Nat) : Option DieOp :=
  if s.log.stripes.any (fun t => t.closed && t.seq != q && (s.stripeDies t).contains ds) then some (DieOp.mk false s.now false [])
  else if s.log.erasing.isSome && s.chIn (ds / 32) && s.dieIn ds then some (DieOp.mk true s.now false [])
  else none

/-- The log's operations at dies end, those of stripe `q` or of an erase: what waits there for them begins, else an operation of the
port that is queued behind them (R229). -/
def State.opOff (s : State) (q : Nat) (dies : List Nat) : State :=
  let ops := dies.foldl (fun m d => match s.dieNext q d with
    | some o => tabIns d o (tabDel d m)
    | none => tabDel d m) s.log.dieOps
  let go : FlmOp → FlmOp := fun o => { o with issued := o.issued || !(ops.any (fun e => e.1 == o.ds)) }
  { s.modLog (fun l => { l with dieOps := ops }) with flm := { s.flm with op := s.flm.op.map go } }

/-- The erase of a band begins, on every die in service that does nothing else (R212, R220). -/
def State.startErase (s : State) (b : Nat) : State :=
  let now := s.now
  let dies := ((List.range 16).flatMap (fun c => (List.range s.dieSets).map (fun j => 32 * c + j))).filter (fun ds =>
    s.chIn (ds / 32) && s.dieIn ds && !(s.log.dieOps.any (fun e => e.1 == ds)))
  s.modLog (fun l => { l with
    erasing := some b
    dieOps := dies.foldl (fun m d => tabIns d (DieOp.mk true now false []) (tabDel d m)) l.dieOps })

/-- No flash program of the log begins under the load of a rehearsal (Table 04-4; log entry 94). -/
def State.holdPrograms (s : State) : Bool := s.cis.rehLoad

/-- A stripe closes and its programs begin: its members' dies are busy, and its physical bytes count for the wear of its
writer (R132, R210), a fold's three times over (R214). What a retired die makes necessary counts for no share (R216). -/
def State.closeStripe (s : State) (q : Nat) : State :=
  match s.stripe? q with
  | none => s
  | some t =>
    if t.closed || s.holdPrograms then s
    else
      let now := s.now
      let s := (s.addRecs q).modStripe q (fun t => { t with closed := true, started := now })
      let bytes := t.bytesOn
      let s := s.modLog (fun l => { l with dieOps := (s.stripeDies t).foldl (fun m d =>
        if m.any (fun e => e.1 == d && e.2.erase) then m else tabIns d (DieOp.mk false now false []) (tabDel d m)) l.dieOps })
      match t.writer with
      | 1 | 6 =>
        let s := s.modRill (fun r => r.charge bytes)
        let n := s.rill.ovrBytes + (if s.govOff then bytes else s.resetBytes t)
        let s := s.modRill (fun r => { r with ovrBytes := n % 1000000 })
        s.satUp Fld.RILL_OVR.OVERRIDE_MB (n / 1000000)
      | 3 | 4 =>
        let w := if t.writer = 4 then 3 * bytes else bytes
        let share := s.fget Fld.LOG_CAP.PSLC_BYTES * s.fget Fld.RILL_GOV.CYCLES * s.fget Fld.RILL_GOV.USE_PCT *
          s.fget Fld.RILL_GOV.RELOC_PCT * s.fget Fld.RILL_GOV.WINDOW_S /
          (max 1 (10000 * s.fget Fld.RILL_GOV.LIFE_DAYS * 86400) * 64)
        let free := s.fromRetired t
        let over_ := if free then 0 else s.rill.relocBytes + w - max share s.rill.relocBytes
        let n := s.rill.relBytes + bytes
        let x := s.rill.excBytes + over_
        let s := s.modRill (fun r => { (r.charge over_) with
          relocBytes := if free then r.relocBytes else r.relocBytes + w
          relBytes := n % 1000000
          excBytes := x % 1000000 })
        (s.satUp Fld.LOG_RELOC.RELOC_MB (n / 1000000)).satUp Fld.LOG_RELOC.EXCESS_MB (x / 1000000)
      | _ => s

/-- A form goes into a writer's open stripe, or into a new one when it does not fit; `none` when no stripe can be
started. A stripe of the spill that is full waits for its PROGRAM commands. -/
def State.place (s : State) (writer : Nat) (i : Item) : State × Option Nat :=
  let r : State × Option Nat := match s.openStripe writer with
    | some t =>
      if s.fits t i then (s, some t.seq)
      else if s.holdPrograms then (s, none)
      else (if byElytra writer then s else s.closeStripe t.seq).newStripe writer (s.resetItem i)
    | none => s.newStripe writer (s.resetItem i)
  match r.2 with
  | none => r
  | some q => (r.1.modStripe q (fun t => r.1.withItem t i), some q)

/-- The log address of the last form placed in a stripe. -/
def State.lastKey (s : State) (q : Nat) : Nat := (((s.stripe? q).bind (fun t => t.items.getLast?)).map (·.key)).getD 0

/-- Forms placed one after another for a writer: their log addresses, or `none` when a stripe cannot be started. -/
def State.placeAll (s : State) (writer : Nat) : List Item → State × Option (List Nat)
  | [] => (s, some [])
  | i :: rest =>
    let r := s.place writer i
    match r.2 with
    | none => (r.1, none)
    | some q =>
      let x := r.1.placeAll writer rest
      (x.1, x.2.map (fun ks => r.1.lastKey q :: ks))

/-! ## Page operations (R9) and selection (R128) -/

/-- Page operations in flight: draws and refill reads, fork copies, and cleans and spill copies until their stripes are
programmed. -/
def State.pageOps (s : State) : Nat :=
  let own := fun (i : Item) => i.src.isNone && (i.form.kind == 1 || i.form.kind == 2)
  s.rfl_.draws.length + (s.eddy.filter (fun e => !e.2.filled)).length + s.rill.sel.length +
    sumNat (s.log.stripes.map (fun t => (t.items.filter own).length)) + s.log.scrubOn.length +
    s.spill.asked.length + s.spill.ready.length
/-- Page-operation entries not in use. -/
def State.opsLeft (s : State) : Nat := 65536 - s.pageOps
/-- A page-operation entry is free. -/
def State.opFree (s : State) : Bool := decide (0 < s.opsLeft)

/-- A live copy of a DIRTY page is selected (R128): the page is CLEANING, and its lines are read after the mark. Any copy of it
still in flight from before is stale. -/
def State.selectLive (s : State) (p : Nat) : State :=
  let s := s.staleCopies p
  let r := s.page p
  let c := s.content p
  let i := Item.mk (s.formOf 1 p r.ld 0 c) r.tag none [] false none 0 s.accSeq
  ((s.setPage p { r with st := .cleaning }).modRill (fun x => { x with
    sel := x.sel ++ [i]
    directed := x.directed.filter (· ≠ p) })).queuePage p (p * 64) false false

/-- An eddy copy is selected. -/
def State.selectEddy (s : State) (i : Nat) : State :=
  let e := tabGet Eddy.none i s.eddy
  let it := Item.mk (s.formOf 2 e.page e.ld (s.ckptId e.ld (e.cuts.headD 0)) e.body) e.tag (some i) e.cuts false none 0 s.accSeq
  (({ s with eddy := tabSet Eddy.none i { e with onWay := true } s.eddy } : State).modRill
    (fun x => { x with sel := x.sel ++ [it] })).queuePage e.page (s.slotLine i) false false

/-! ## The rill's pace and choice (R129, R130) -/

/-- Some LD is at ladder level 2 or 3, or unbinding with pages owed: the rill takes those at level 2 priority (R281). -/
def State.priority (s : State) : Bool :=
  s.shareLds.any (fun n => decide (2 ≤ s.level n) || ((s.ld n).unbinding && decide (0 < (s.ld n).owed)))

/-- The target of R129 before the governor and the plan. -/
def State.rillGoal (s : State) : Nat :=
  let w := s.weirW
  let o := s.devOwed
  let q := s.fget Fld.RILL_CFG.QUOTA
  let low := s.fget Fld.RILL_CFG.LOW_PCT
  if s.priority || s.deficit || decide (w = 0 ∧ 0 < o) || (decide (0 < w) && decide (90 * w ≤ 100 * o)) || s.govOff then q
  else if w = 0 then 0
  else
    let num := 100 * o - low * w
    let den := (90 - low) * w
    min q ((q * num + den - 1) / den)

/-- `x` units are taken from the lowest of some reservations first, then from the next (R65). -/
def takeLowest (x : Nat) (l : List Nat) : List Nat :=
  ((sortBy (fun i => l.getD i 0) (List.range l.length)).foldl (fun (a : Nat × List Nat) i =>
    let n := min a.1 (a.2.getD i 0)
    (a.1 - n, a.2.set i (a.2.getD i 0 - n))) (x, l)).2

/-- A resource's reservations and the host share left of `all` in the present beat: the excess of an overrun comes first from the
host share, then from the lowest reservation (R65). -/
def State.sharesOf (s : State) (r all : Nat) (mins : List Nat) : List Nat × Nat :=
  let x := tabGet 0 r s.col.overBy
  let host := all - sumNat mins
  (takeLowest (x - host) mins, host - x)

/-- Flash bus reservations of a channel in 128 ns units, DRAW, RILL and GC, and the unowned remainder (Table 03-9). -/
def State.flashShares (s : State) (c : Nat) : List Nat × Nat :=
  s.sharesOf (8 + c) 64 [s.fget Fld.COL_PLAN_FLASH.DRAW_MIN, s.fget Fld.COL_PLAN_FLASH.RILL_MIN, s.fget Fld.COL_PLAN_FLASH.GC_MIN]
/-- Scarab reservations, RESTORE, CLEAN, COPY and CHECK, and the rest (Table 03-9). -/
def State.scarabShares (s : State) : List Nat × Nat :=
  s.sharesOf 24 128 [s.fget Fld.COL_PLAN_SCARAB.RESTORE_MIN, s.fget Fld.COL_PLAN_SCARAB.CLEAN_MIN,
    s.fget Fld.COL_PLAN_SCARAB.COPY_MIN, s.fget Fld.COL_PLAN_SCARAB.CHECK_MIN]

/-- Draws and refill reads are queued; garbage collection's reservation has work queued (R63): relocation, fold and scrub, an
operation of the maintenance port (R229), and records that complete checkpoints still lack (R206). -/
def State.drawWork (s : State) : Bool := !s.rfl_.draws.isEmpty
def State.gcWork (s : State) : Bool :=
  !s.log.reloc.isEmpty || !s.log.scrubLeft.isEmpty || s.log.stripes.any (fun t => t.writer == 3 || t.writer == 4) ||
    s.flm.op.isSome || allLds.any (fun n => (s.ld n).ckpts.any (fun c => c.complete && (c.recAddr.isNone || c.moved || !c.old.isEmpty)))

/-- Pages that units of one channel's bus time carry, the channels of a stripe in parallel. -/
def State.pagesOfSlots (s : State) (slots : Nat) : Nat :=
  slots * 128 * s.fget Fld.WEIR_FIXED.BW_CH_MBS * s.nData / 1000 / 4160

/-- The least over the channels in service. -/
def State.leastChan (s : State) (f : Nat → Nat) : Nat :=
  match ((List.range 16).filter s.chIn).map f with
  | [] => 0
  | a :: l => l.foldl min a

/-- Pages the rill may get in lent flash time (R63): none while draws or refill reads are queued, which come first; else what
the draw class does not use, the unowned remainder, and what garbage collection does not use. -/
def State.lendable (s : State) : Nat :=
  if s.drawWork then 0
  else s.pagesOfSlots (s.leastChan (fun c =>
    let x := s.flashShares c
    x.1.getD 0 0 + x.2 + (if s.gcWork || s.priority then 0 else x.1.getD 2 0)))

/-- Pages the beat plan carries (R62, R63): the rill's flash time at BW_CH_MBS, plus the pages lent to it as far as they may be;
at level 2 or 3 it takes the garbage-collection reservation too; within its Scarab quota, to which unused quota comes while no
restore, copy or check is queued, whose work is older than what the rill takes at the boundary (log entry 16). -/
def State.planPages (s : State) (lent : Nat) : Nat :=
  let flash := s.pagesOfSlots (s.leastChan (fun c =>
    let x := s.flashShares c
    x.1.getD 1 0 + (if s.priority then x.1.getD 2 0 else 0)))
  let q := s.scarabShares.1
  let older := s.drawWork || s.eddy.any (fun e => !e.2.filled) || !s.log.scrubOn.isEmpty
  let spare := if older then 0 else q.getD 0 0 + q.getD 2 0 + q.getD 3 0
  min (flash + min lent s.lendable) ((q.getD 1 0 + spare) * 10240 / 4096)

/-- Pages the governor allows: the room of the open rill stripe, and whole stripes within the budget, a page taking 65 units of 64
bytes (DESIGN CHOICE, log entry 107). -/
def State.govPages (s : State) : Nat :=
  let room := match s.openStripe 1 with
    | some t => (1024 * (t.members.length - 1) - t.used) / 65
    | none => 0
  room + s.govLeft / (65536 * (s.nData + 1)) * (1024 * s.nData / 65)

/-- RILL_TARGET (R129). -/
def State.setRillTarget (s : State) (lent : Nat) : State :=
  let goal := min s.rillGoal (s.planPages lent)
  let most := min (s.fget Fld.RILL_CFG.QUOTA) (s.planPages lent)
  let t := if s.govOff then goal else min goal s.govPages
  let s := (s.modRill (fun r => { r with target := t, started := 0, most := most })).fput Fld.RILL_STS.GOV_LIMITED
    (decide (t < goal))
  (s.fput Fld.RILL_STS.PRIORITY s.priority).fput Fld.RILL_STS.OVERRIDE (s.govOff || allLds.any (fun n => (s.ld n).resetting))

/-- The earliest beat of a list. -/
def oldest (l : List Nat) : Nat := l.foldl min (2 ^ 48)

/-- The cut beat of the oldest pending checkpoint to which page `p` is owed. -/
def State.oldestCut (s : State) (n p : Nat) : Nat :=
  oldest (((s.ld n).pending.filter (fun c => c.left.contains p)).map (·.cutBeat))

/-- DIRTY pages the rill may select by the order of R130, after the eddy copies: owed to a pending cut oldest first, of
LDs at level 2 or 3, then LDs by owed ÷ allowance, each from its cursor. Unowed pages of a CHECKPOINTED
LD are left while f is 0.25 or more. -/
def State.rillOrder (s : State) : List Nat :=
  let dirty := s.pages.filter (fun e => e.2.st == .dirty && s.bound e.2.ld && s.cls e.2.ld != 2)
  let owed := sortBy (fun e => s.oldestCut e.2.ld e.1) (dirty.filter (fun e => !(s.owedTo e.2.ld e.1).isEmpty))
  let busy := decide (25 * s.weirW ≤ 100 * s.devOwed)
  let free := dirty.filter (fun e => s.cls e.2.ld == 0 || s.oldTag e.2 || !busy)
  let high := free.filter (fun e => decide (2 ≤ s.level e.2.ld) || (s.ld e.2.ld).unbinding)
  let key := fun (e : Nat × PageRec) =>
    let n := e.2.ld
    let ratio := if s.allow n = 0 then 1000000 else min 1000000 ((s.ld n).owed * 1000000 / s.allow n)
    let cur := tabGet 0 n s.rill.cursors
    ((1000000 - ratio) * 32 + n) * 2 ^ 33 + (if cur ≤ e.1 then e.1 else e.1 + 2 ^ 32)
  let rest := sortBy key free
  ((owed ++ high ++ rest).map (·.1)).dedup

/-- The beat of the oldest cut an eddy copy serves. -/
def State.eddyCut (s : State) (e : Eddy) : Nat :=
  oldest (((s.ld e.ld).ckpts.filter (fun c => e.cuts.contains c.no)).map (·.cutBeat))

/-- Eddy copies not yet on their way, oldest cut first (R130). -/
def State.eddyOrder (s : State) : List Nat :=
  (sortBy (fun (e : Nat × Eddy) => s.eddyCut e.2) (s.eddy.filter (fun e => e.2.filled && !e.2.onWay && !e.2.byItem))).map
    (·.1)

/-- How many directed cleans an LD may still have of this beat's target (R313). -/
def State.directedCap (s : State) (n : Nat) : Nat := s.rill.target * s.fget (Fld.RNG_LD_CFG.DIRECT_PCT n) / 100

/-- What an LD reset waits for is selected without the governor, up to the rill's quota and the plan (R325): eddy copies first,
then pages. -/
def State.selectReset (s : State) : State :=
  let t := min (s.rill.most - s.rill.started) s.opsLeft
  let eds := (s.eddyOrder.filter (fun i => (s.ld (tabGet Eddy.none i s.eddy).ld).resetting)).take t
  let s1 := eds.foldl (fun s i => s.selectEddy i) s
  let ps := ((s1.pages.filter (fun e => e.2.st == .dirty && s1.resetOwes e.2.ld e.1)).map (·.1)).take (t - eds.length)
  let s2 := ps.foldl (fun s p => s.selectLive p) s1
  s2.modRill (fun r => { r with started := r.started + eds.length + ps.length })

/-- RILL_PAGE_SELECT (R130, R313): what LD resets wait for, then directed cleans within their share of the target, then eddy
copies, then the order above; never more than page operations are free (R9). -/
def State.rillSelect (s : State) : State :=
  let was := s.rill.started
  let s := s.selectReset
  let t := min (s.rill.target - s.rill.started) s.opsLeft
  let dirs := allLds.flatMap (fun n =>
    ((s.pages.filter (fun e => e.2.ld == n && e.2.st == .dirty && s.rill.directed.contains e.1)).map (·.1)).take
      (s.directedCap n))
  let dirs := dirs.take t
  let s1 := dirs.foldl (fun s p => s.selectLive p) s
  let eds := s1.eddyOrder.take (t - dirs.length)
  let s2 := eds.foldl (fun s i => s.selectEddy i) s1
  let rest := s2.rillOrder.take (t - dirs.length - eds.length)
  let s3 := rest.foldl (fun s p =>
    (s.selectLive p).modRill (fun r => { r with cursors := tabSet 0 (s.page p).ld (p + 1) r.cursors })) s2
  let n := dirs.length + eds.length + rest.length
  let s4 := s3.modRill (fun r => { r with started := r.started + n })
  s4.fsat Fld.RILL_STS.PACE (s4.rill.started - was)

/-! ## Copies that reach flash -/

/-- A copy moved from `a` to `b`: every record, index and map that named `a` names `b` (R209), those that a held LD may still be
mapped from too (R177). A checkpoint whose stored maps or record named `a` writes them anew (log entry 84). -/
def State.moveRefs (s : State) (a b : Nat) : State :=
  let mv := fun (l : List (Nat × PageRec)) => l.map (fun e => if e.2.loc = a then (e.1, { e.2 with loc := b }) else e)
  let mk := fun (k : Nat) => if k = a then b else k
  let mx := fun (l : List (Nat × Nat)) => l.map (fun e => (e.1, mk e.2))
  let mvC := fun (c : Ckpt) => { c with
    recs := mv c.recs
    forms := c.forms.map mk
    named := c.named.map mk
    old := c.old.map mk
    recAddr := c.recAddr.map mk
    moved := c.moved || c.forms.contains a || c.named.contains a }
  { s with
    pages := mv s.pages
    recIdx := mx s.recIdx
    lds := s.lds.map (fun e => (e.1, { e.2 with ckpts := e.2.ckpts.map mvC }))
    sealedImg := s.sealedImg.map (fun g => { g with
      recs := mv g.recs
      index := mx g.index
      metas := g.metas.map mk
      lds := g.lds.map (fun l => { l with ckpts := l.ckpts.map mvC }) })
    boot := { s.boot with found := s.boot.found.map (fun f => { f with img := f.img.map (fun g => { g with
      recs := mv g.recs
      lds := g.lds.map (fun l => { l with ckpts := l.ckpts.map mvC }) }) }) } }

/-- The spill's own state changes. -/
def State.modSpill (s : State) (f : SpillState → SpillState) : State := { s with spill := f s.spill }
/-- A META form of the spill is on flash (R205). -/
def State.modSpillMeta (s : State) (k : Nat) : State := s.modSpill (fun x => { x with metas := x.metas ++ [k] })
/-- A stage B stripe of the spill is on flash (R150): its sequence and the address of its data member 0. -/
def State.modSpillList (s : State) (q k : Nat) : State := s.modSpill (fun x => { x with list := x.list ++ [(q, k)] })
/-- A spill copy that found no stripe waits, transformed, at the head of the order (R161). -/
def State.modSpillBack (s : State) (i : Item) : State :=
  s.modSpill (fun x => { x with
    order := (i.form.ld, i.form.page, i.slot) :: x.order
    ready := SpillForm.mk i.form.page i.slot i 0 false :: x.ready })

/-- A form stands on flash. -/
def State.onFlash (s : State) (i : Item) : State := { s with flash := tabSet Form.none i.key i.form s.flash }

/-- A record page is on flash: the index names it unless a later stripe's stands there (R199, R205). -/
def State.recCopied (s : State) (i : Item) : State :=
  let g := i.form.page
  let k := tabGet 0 g s.recIdx
  let s := s.onFlash i
  if k = 0 || decide ((s.formAt k).seq ≤ i.form.seq) then { s with recIdx := tabSet 0 g i.key s.recIdx } else s

/-- PAGE_CLEANED (R128, R131, R204): a live copy is on flash. A stale one is discarded; else the page is CLEAN at its new
location, its record page goes with it, and every pending checkpoint it was owed to takes it. -/
def State.liveCopied (s : State) (i : Item) : State :=
  let p := i.form.page
  let r := s.page p
  if i.stale || r.st != .cleaning then
    (s.wrap Fld.RILL_STALE.STALE Fld.RILL_STALE.OVF).persistCopied p i.stamp
  else
    let r' := { r with st := .clean, loc := i.key, len := i.form.len, crc := i.form.crc }
    ((s.owedTo r.ld p).foldl (fun s id => s.ckptCopied r.ld id p r') (s.onFlash i)).setPage p r'

/-- EDDY_COPY_WRITTEN (R116, R131): a pre-cut copy is on flash; its checkpoints take it and its slot is free. -/
def State.eddyCopied (s : State) (i : Item) (slot : Nat) : State :=
  let p := i.form.page
  let r' := PageRec.mk .clean i.form.ld i.tag i.key i.form.len i.form.crc
  (i.cuts.foldl (fun s id => s.ckptCopied i.form.ld id p r') (s.onFlash i)).freeEddy slot

/-- A copy of the spill is on flash (R150, R151): counted, and kept for the seal and the return (R36). -/
def State.spillCopied (s : State) (i : Item) : State :=
  let f := i.form
  let r' := PageRec.mk .clean f.ld i.tag i.key f.len f.crc
  let s := { s with
    flash := tabSet Form.none i.key f s.flash
    spill := { s.spill with
      wrote := s.spill.wrote ++ [(f.page, r', i.slot, i.cuts)]
      written := tabSet 0 f.ld (tabGet 0 f.ld s.spill.written + 1) s.spill.written
      stored := s.spill.stored + 64 + f.len } }
  s.fset Fld.SPL_PROGRESS.PAGES_DONE (s.fget Fld.SPL_PROGRESS.PAGES_DONE + 1)

/-- A relocated copy is on flash (R209): every reference moves while its source is still referenced, else it is discarded. The
source stays on flash until its band is erased. -/
def State.relocCopied (s : State) (i : Item) (src : Nat) : State :=
  if s.refs.contains src then (s.onFlash i).moveRefs src i.key else s

/-! ## Completing checkpoints (R135, R137, R138, R206) -/

/-- A checkpoint waits for its record: it owes nothing more, or it is complete and its image's seal gave it no record (R206), and
its CKPT_RECORD is not yet on its way; or it is complete and what its record or its maps name has moved (R209). -/
def State.ckptReady (s : State) (n : Nat) (c : Ckpt) : Bool :=
  (!c.recDue && c.recAddr.isNone &&
    (c.complete || (c.left.isEmpty && !(s.eddy.any (fun e => e.2.ld == n && e.2.cuts.contains c.no))))) ||
  (c.moved && c.complete && c.recAddr.any (· ≠ 0) && c.old.isEmpty)

/-- What a checkpoint holds of a page. -/
def Ckpt.recAt (c : Ckpt) (n p : Nat) : PageRec :=
  tabGet (PageRec.mk (if c.dflt = 2 then .poisoned else .clean) n 0 0 0 0) p c.recs

/-- The record groups of a checkpoint's extent. -/
def Ckpt.groups (c : Ckpt) : List Nat := (List.range (256 * c.ext.2)).map (fun i => 256 * c.ext.1 + i)

/-- The record page that describes a checkpoint's content of a group (R206): the current one where it still does, 0 where neither
lists anything (log entry 84), else `none`: one has to be written. -/
def State.ckptRecPage (s : State) (n : Nat) (c : Ckpt) (g : Nat) : Option Nat :=
  let want := recordPage (c.recAt n) g
  let k := tabGet 0 g s.recIdx
  if k = 0 then (if c.dflt ≠ 2 && !(c.recs.any (fun e => e.1 / 256 == g)) then some 0 else none)
  else if (s.formAt k).body = want then some k else none

/-- The CKPT_MAP and CKPT_RECORD forms of a checkpoint go into CKPT stripes, with record pages of its content where the current
ones describe later content (R206); nothing is placed when a stripe cannot be started. -/
def State.writeCkptRec (s : State) (n : Nat) (c : Ckpt) : State :=
  let key := (s.ld n).keyGen
  let gs := c.groups.map (fun g => (g, s.ckptRecPage n c g))
  let due := (gs.filter (fun e => e.2.isNone)).map (·.1)
  let pages := due.map (fun g => s.fresh (s.newForm 3 g wideLd 0 0 (recordPage (c.recAt n) g)) [])
  let maps := fun (addrs : List Nat) => ((List.range (mapPages addrs).length).zip (mapPages addrs)).map (fun e =>
    s.fresh (s.newForm 5 e.1 n key c.id e.2) [])
  let a := s.placeAll 6 pages
  let done := a.2.bind (fun ks =>
    let addrs := gs.map (fun e => e.2.getD (ks.getD (due.idxOf e.1) 0))
    let b := a.1.placeAll 6 (maps addrs)
    b.2.bind (fun ms =>
      let d := if ms.length ≤ mapSize then (b.1, some []) else b.1.placeAll 6 (maps ms)
      d.2.bind (fun tops =>
        let top := if tops.isEmpty then ms else tops
        let beat := if c.complete then c.doneBeat else s.curBeat
        let f := s.newForm 6 0 n key c.id (c.record n beat (if tops.isEmpty then 1 else 2) top)
        let r := d.1.place 6 (s.fresh f [c.no])
        r.2.map (fun q => (r.1.closeStripe q).modCkpt n c.no (fun c => { c with
          recDue := true
          moved := false
          old := if c.recAddr.isSome then c.forms ++ c.named ++ c.recAddr.toList else []
          named := (gs.filterMap (fun e => e.2)).filter (· ≠ 0)
          forms := ks ++ ms ++ tops })))))
  done.getD s

/-- Every checkpoint that owes nothing gets its record. -/
def State.writeCkptRecs (s : State) : State :=
  allLds.foldl (fun s n => (s.ld n).ckpts.foldl (fun s c => if s.ckptReady n c then s.writeCkptRec n c else s) s) s

/-- CHECKPOINT_RELEASED (R137, R138): once the checkpoint of a number is complete, older complete ones that are not retained go,
and so does one whose release waited, unless a refill source names it. -/
def State.releaseOld (s : State) (n no : Nat) : State :=
  let gone := (s.ld n).ckpts.filter (fun c => c.complete && !(s.namedSource n c.id) &&
    (c.release || (decide (c.no < no) && !c.retain)))
  gone.foldl (fun s c => s.dropCkpt n c.no) s

/-- SEAL_REPORT of a plunge or colony cut whose every checkpoint is complete (R52, R135). GENERATION carries the highest
checkpoint identifier of the cut (log entry 17). -/
def State.reportCuts (s : State) : State :=
  let doneC := fun (c : PlungeCut) => c.ckpts.all (fun e => match (s.ld e.1).ckptNo? e.2.1 with
    | some k => k.complete | none => true)
  let ready := s.col.cuts.filter doneC
  let s := s.modCol (fun x => { x with cuts := x.cuts.filter (fun c => !doneC c) })
  ready.foldl (fun s c =>
    let inc : BitVec 32 := c.refused.foldl (fun m n => m ||| BitVec.twoPow 32 n) 0
    s.sendSealReport c.refused.isEmpty c.late 1 c.beat ((c.ckpts.map (·.2.2)).foldl max 0) inc) s

/-- Completion FLAGS of a CHECKPOINT_AT of checkpoint `c` (R314): NOT_RETAINED when it asked for retention in vain. -/
def Ckpt.flagsFor (c : Ckpt) (a : Acc) : Nat := if a.desc.arg1.getLsbD 0 && !c.retain then 4 else 0

/-- CHECKPOINT_COMPLETE (R135): a checkpoint, by its number, is complete once its record is on flash and every older one of its LD
is; its CHECKPOINT_AT descriptors complete (R314). -/
def State.completeCkpt (s : State) (n no : Nat) : State :=
  match (s.ld n).ckptNo? no with
  | none => s
  | some c =>
    let b := s.curBeat
    let s := s.modCkpt n no (fun c => { c with complete := true, doneBeat := b })
    let s := c.rings.foldl (fun s e => match s.acc? n e.1 e.2 with
      | some a => s.finish n e.1 e.2 0 (c.flagsFor a) c.id
      | none => s) s
    (s.releaseOld n no).showCkpts n

/-- Checkpoints whose record is on flash complete in order of identifier (R135). -/
def State.completeCkpts (s : State) (n : Nat) : Nat → State
  | 0 => s
  | k + 1 =>
    match (s.ld n).pending.head? with
    | some c =>
      if c.recAddr.isSome && c.left.isEmpty && c.forms.all (fun k => (s.formAt k).kind != 0) then
        (s.completeCkpt n c.no).completeCkpts n k
      else s
    | none => s

/-- A form of a CKPT stripe is on flash: a record page, a map or a CKPT_RECORD. -/
def State.ckptFormCopied (s : State) (i : Item) : State :=
  let s := s.onFlash i
  if i.form.kind = 6 then i.cuts.foldl (fun s no => s.modCkpt i.form.ld no (fun c => { c with
      recAddr := some i.key
      old := [] })) s else s

/-- Every LD's checkpoints complete as far as they can. -/
def State.completeAll (s : State) : State :=
  allLds.foldl (fun s n => s.completeCkpts n (s.ld n).pending.length) s

/-! ## The ring of bands: relocation, erase, LOG_LOW (R209 to R214) -/

/-- Folding goes on (R213, R214): it is permitted, the rill has no priority, and no die has passed a tenth of its pSLC
cycles, which every band's erase count stands for (log entry 85). -/
def State.mayFold (s : State) : Bool :=
  s.on Fld.LOG_CFG.FOLD_EN && !s.priority &&
    decide (1000 * ((s.log.erases.map (·.2)).foldl max 0) ≤ s.fget Fld.RILL_GOV.USE_PCT * s.fget Fld.RILL_GOV.CYCLES)

/-- A copy is already on its way to another place in a stripe that is not yet programmed. -/
def State.moving (s : State) (k : Nat) : Bool := s.log.stripes.any (fun t => t.items.any (fun i => i.src == some k))
/-- A folded copy of a form waits for its read-back (R213): the source is relocated like any other, and not folded again. -/
def State.folded (s : State) (k : Nat) : Bool := s.log.fold.any (fun e => e.2.src == some k)

/-- A referenced copy is relocated to the head (R209), or folded when it has been relocated FOLD_LAPS times and folding is
permitted (R213). -/
def State.relocate (s : State) (k : Nat) (tail : Bool) : State :=
  let f := s.formAt k
  if f.kind = 0 || s.moving k then s
  else
    let foldIt := tail && s.mayFold && !s.folded k && decide (s.fget Fld.LOG_CFG.FOLD_LAPS ≤ f.laps) && (s.stripePlace 4).isSome
    let f' := { f with reloc := true, laps := if tail then f.laps + 1 else f.laps }
    (s.place (if foldIt then 4 else 3) (Item.mk f' 0 none [] false (some k) 0 s.accSeq)).1

/-- The relocation and fold stripes close once nothing more waits for them. -/
def State.closeReloc (s : State) : State :=
  [3, 4].foldl (fun s w => match s.openStripe w with | some t => s.closeStripe t.seq | none => s) s

/-- A free band becomes the open TLC band when folding is permitted and none has room (R213). -/
def State.needTlc (s : State) : State :=
  if s.mayFold && (s.stripePlace 4).isNone then
    match s.bandFor 4 with
    | some b => s.modLog (fun l => { l with tlc := l.tlc ++ [b], free := l.free.erase b, tlcUnit := 0 })
    | none => s
  else s

/-- Draw or refill reads are in flight in a band (R184). -/
def State.bandRead (s : State) (b : Nat) : Bool :=
  s.rfl_.draws.any (fun d => keyBand d.from_ == b && (d.step == .reading || d.step == .queued || d.step == .rebuild))

/-- Nothing of a band is in use: no copy in it is referenced, no stripe of it is being programmed or read back, every relocation out
of it has completed, and no read is in flight (R212). -/
def State.bandIdle (s : State) (refs : List Nat) (b : Nat) : Bool :=
  let out := fun (i : Item) => i.src.any (fun k => keyBand k == b)
  !refs.any (fun k => keyBand k == b) && !(s.log.stripes.any (fun x => x.band == b || x.items.any out)) &&
    !(s.log.fold.any (fun e => e.1 == b || out e.2)) && !s.bandRead b

/-- Fewer than 25 % of a TLC band's bytes are still referenced (R214). -/
def State.tlcSparse (s : State) (refs : List Nat) (b : Nat) : Bool :=
  decide (4 * 64 * sumNat ((refs.filter (fun k => keyBand k == b)).map (fun k => unitsOf (s.formAt k).len)) <
    s.tlcStripes * 16 * 65536)

/-- A TLC band that is full and sparse gives its copies back to the pSLC head, and is erased once none is left (R214). -/
def State.tlcReclaim (s : State) : State :=
  let refs := s.refs.dedup
  match s.log.tlc.find? (fun b => (some b != s.log.tlc.getLast? || (s.stripePlace 4).isNone) && s.tlcSparse refs b) with
  | none => s
  | some b =>
    if s.bandIdle refs b then (if s.log.erasing.isNone then s.startErase b else s)
    else (refs.filter (fun k => keyBand k == b)).foldl (fun s k => s.relocate k false) s

/-- TAIL_ADVANCE (R209, R212): with free bands below FREE_MIN + GC_SLACK the tail band's referenced copies move to the
head; once none is left and no read is in flight the band is erased. Scheduled copies (R216, R219) go the same way. A band whose
erase a loss of power interrupted is erased again first (Table 08-10). -/
def State.tailAdvance (s : State) : State :=
  if s.isCut then s
  else
  let s := match s.log.reErase.head? with
    | some b => if s.log.erasing.isNone then s.startErase b else s
    | none => s
  let s := s.needTlc.tlcReclaim
  let refs := s.refs.dedup
  let due := s.log.reloc.filter (fun k => refs.contains k)
  let s := (due.foldl (fun s k => s.relocate k false) s).modLog (fun l => { l with reloc := [] })
  let s := match s.log.used with
    | t :: _ :: _ =>
      if decide (s.log.free.length < s.freeMin + s.fget Fld.LOG_CFG.GC_SLACK) && s.log.erasing.isNone then
        let here := refs.filter (fun k => keyBand k == t)
        if s.bandIdle refs t then s.startErase t
        else here.foldl (fun s k => s.relocate k true) s
      else s
    | _ => s
  s.closeReloc.showWindow

/-- LOG_LOW (R211): at FREE_MIN free bands, plunge and colony checkpoints give up retention oldest first, new ones are
taken without it, and LOG_LOW is raised; it ends when space returns. -/
def State.logLow (s : State) : State :=
  if decide (s.log.free.length ≤ s.freeMin) && !s.log.used.isEmpty then
    if s.on Fld.LOG_WINDOW.LOG_LOW then s
    else
      let s := allLds.foldl (fun s n => ((s.ld n).retained.filter (fun c => !c.kept)).foldl
        (fun s c => if s.namedSource n c.id then s else s.giveUp n c.no) s) s
      let s := s.modLog (fun l => { l with noRetain := true })
      ((s.fset Fld.LOG_WINDOW.LOG_LOW 1).fault (srcOf 83 7) 0x4D s.log.free.length).showWindow
  else if s.on Fld.LOG_WINDOW.LOG_LOW then
    (s.fset Fld.LOG_WINDOW.LOG_LOW 0).modLog (fun l => { l with noRetain := false })
  else s

/-- DIE_REDUNDANCY_RESTORED (R216): the last stripe of a retired die is rewritten; the phase 1 record repeats the cause. -/
def State.dieRestored (s : State) : State :=
  let refs := s.refs
  s.log.dieCause.foldl (fun s e =>
    if s.fget (Fld.LOG_DIE_STS.STATE e.1) == 3 && !((s.dieForms e.1).any refs.contains) then
      ((s.fset (Fld.LOG_DIE_STS.STATE e.1) 2).modLog (fun l => { l with dieDone := setIns e.1 l.dieDone })).journal 6 s.newestGen
        [(0x20, e.1), (0x22, 0xFFFF), (0x24, e.2), (0x25, 1)]
    else s) s

/-! ## Stripes programmed (R128, R215) -/

/-- The longest pSLC page program time of the last 65,536 (Table 05-4). The members of a stripe program together and their ends
come as one command, so that a stripe counts as one program (DESIGN CHOICE, log entry 104). -/
def State.measure (s : State) (us : Nat) : State :=
  let l := (us :: s.log.tprog).take 65536
  (s.modLog (fun x => { x with tprog := l })).fsat Fld.LOG_GEOM.TPROG_US (l.foldl max 0)

/-- The dies of a stripe are free again. -/
def State.freeDies (s : State) (t : Stripe) : State := s.opOff t.seq (s.stripeDies t)

/-- One form of a programmed stripe takes effect. -/
def State.itemDone (s : State) (w : Nat) (i : Item) : State :=
  if w = 4 then s.modLog (fun l => { l with fold := l.fold ++ [(keyBand i.key, i)] })
  else match i.src with
  | some k => s.relocCopied i k
  | none =>
    if w = 6 then s.ckptFormCopied i
    else if i.form.kind = 3 then s.recCopied i
    else if i.form.kind = 4 then (s.onFlash i).modSpillMeta i.key
    else if w = 2 then s.spillCopied i
    else if w = 7 then s
    else match i.slot with
    | some e => s.eddyCopied i e
    | none => s.liveCopied i

/-- The generation a stripe's header names (Table 08-3). -/
def State.headerGen (s : State) (w : Nat) : Nat := if w = 2 ∨ w = 5 ∨ w = 7 then s.spill.gen else s.newestGen

/-- A stripe as it stands on flash. -/
def State.onFlashStripe (s : State) (t : Stripe) : FStripe :=
  FStripe.mk t.writer (s.headerGen t.writer) t.band t.unit (tabGet 0 t.band s.log.erases) t.members
    (t.items.map (fun i => (i.key, i.form)))

/-- A programmed stripe is on flash: it leaves the stripes being filled, its forms take effect, and the record groups that were due
with it are no more (R204). -/
def State.land (s : State) (t : Stripe) : State :=
  let f := s.onFlashStripe t
  let s := { s.modLog (fun l => { l with
      stripes := l.stripes.filter (fun x => x.seq != t.seq)
      recDue := l.recDue.filter (fun e => e.1 != t.seq) }) with
    stripesOn := tabIns t.seq f (tabDel t.seq s.stripesOn) }
  t.items.foldl (fun s i => s.itemDone t.writer i) s

/-- The log address at which a stripe's data member 0 begins. -/
def State.stripeKey (s : State) (t : Stripe) : Nat :=
  logKey (32 * (t.dataMembers.headD 0) + s.stripeSet t) t.band (if s.dieSets = 0 then 0 else t.unit / s.dieSets) 0

/-- STRIPE_PROGRAM_DONE: every member, parity included, reported success (R128). -/
def State.stripeDone (s : State) (q us : Nat) : State :=
  match ((s.closeStripe q).stripe? q).filter (·.closed) with
  | none => s
  | some t =>
    let s := (s.closeStripe q).freeDies t
    let s := (if t.writer = 4 then s else s.measure us).land t
    let cleaned := (t.items.filter (fun i => i.src.isNone && i.slot.isNone && i.form.kind = 1 && !i.stale)).length
    let s := if t.writer = 1 then
        (s.wrap Fld.RILL_CNT.CLEANED Fld.RILL_CNT.OVF cleaned).modRill (fun r => { r with
          beatPgs := r.beatPgs + (t.items.filter (fun i => i.form.kind != 3)).length
          beatLen := r.beatLen + sumNat ((t.items.filter (fun i => i.form.kind != 3)).map (fun i => i.form.len)) })
      else if t.writer = 2 then s.modSpillList t.seq (s.stripeKey t)
      else s
    if s.isCut then s
    else ((s.completeAll.writeCkptRecs.reportCuts.tailAdvance).logLow).dieRestored.showWeir

/-- Processed pages whose stripe could not be started are placed, oldest first, as far as it goes now (R132). -/
def State.placeReady (s : State) : State :=
  if !s.isOpen then s
  else
    let x := s.rill.ready.foldl (fun (x : State × Bool) p =>
      if x.2 then x
      else match x.1.rill.sel.find? (fun i => i.form.page == p) with
        | none => (x.1.modRill (fun r => { r with ready := r.ready.erase p }), false)
        | some i =>
          let y := x.1.place 1 i
          match y.2 with
          | none => (y.1, true)
          | some _ => (y.1.modRill (fun r => { r with sel := r.sel.erase i, ready := r.ready.erase p }), false)) (s, false)
    let s := x.1
    match s.openStripe 1 with
    | some t => if s.rill.sel.isEmpty then s.closeStripe t.seq else s
    | none => s

/-- SCARAB_PAGE_DONE (R6, R7): an engine of a cluster has read and processed a page; its form is placed in the rill's open stripe,
which closes when nothing more is selected (R202). A read that a stopped channel holds does not end (R267). -/
def State.scarabDone (s : State) (p cluster : Nat) : State :=
  match (s.rill.sel.filter (fun i => i.form.page == p)).drop (s.rill.ready.count p) with
  | [] => s
  | i :: _ =>
    let base := match i.slot with | some e => if i.form.kind = 2 then s.slotLine e else p * 64 | none => p * 64
    if s.linesStopped base then s
    else
    let s := s.pageRead base scarabPort
    let s := s.modRill (fun r => { r with ready := r.ready ++ [p] })
    (s.wrap (Fld.SCB_CL_CNT.PAGES cluster) (Fld.SCB_CL_CNT.OVF cluster)).placeReady

/-- GOVERNOR_SLICE (R132): a 64th of WINDOW_S has passed and a new slice begins; what waited for the governor is placed. -/
def State.govSlice (s : State) : State :=
  let s := s.modRill (fun r => { r with slices := (0 :: r.slices).take 64, sliceNo := r.sliceNo + 1, relocBytes := 0 })
  let s := (s.fsat Fld.RILL_RATE.RATE_KBS (s.govRate 1 / 1000)).fsat Fld.RILL_RATE.USED_WIN_MB (s.govUsed / 1000000)
  (s.placeReady).writeCkptRecs
def execGovernorSlice (dt : Nat) (s : State) : Host.Outcome State Fault Refusal := .next ((s.elapse dt).govSlice)

/-! ## Failures of programs, blocks, dies and channels (R215 to R217) -/

/-- Slots of records sealed on every copy in service are free (R372). -/
def State.jnlFree (s : State) : State :=
  let ok := s.fget Fld.JNL_STS.COPY_OK
  let done := fun (r : JRec) => !r.sealedOn.isEmpty && [0, 1].all (fun c => !ok.testBit c || r.sealedOn.contains c)
  (s.modFlt (fun f => { f with staging := f.staging.filter (fun r => !done r) })).showJnl

/-- A journal copy fails (R377): JOURNAL_COPY, and when both have failed journaling stops (R378). -/
def State.jnlCopyFail (s : State) (copy : Nat) : State :=
  let ok := s.fget Fld.JNL_STS.COPY_OK
  if !ok.testBit copy then s
  else
    let left := ok - 2 ^ copy
    let s := (s.fset Fld.JNL_STS.COPY_OK left).fault (srcOf 82 6) 0x3E copy
    if left = 0 then
      let n := (s.flt.staging.filter (fun r => r.sealedOn.isEmpty)).length
      let s := if n = 0 then s else s.bump Fld.JNL_CNT.DROPPED Fld.JNL_CNT.DR_SAT n
      (((s.fset Fld.JNL_STS.MODE 2).modFlt (fun f => { f with staging := [] })).showJnl).fault (srcOf 82 6) 0x3F 0
    else s.jnlFree

/-- A journal copy whose channel or die serves again resumes at the ring's head (R377, R378). -/
def State.jnlCopyBack (s : State) (copy : Nat) : State :=
  let ok := s.fget Fld.JNL_STS.COPY_OK
  if ok.testBit copy then s
  else
    let s := s.fset Fld.JNL_STS.COPY_OK (ok + 2 ^ copy)
    if s.fget Fld.JNL_STS.MODE == 2 then s.fset Fld.JNL_STS.MODE 0 else s

/-- The journal copy a die stream carries (Table 08-1). -/
def jnlCopyOf (ds : Nat) : Option Nat := if ds = 1 then some 0 else if ds = 257 then some 1 else none

/-- The journal copy a flash channel carries (Table 08-1). -/
def jnlChan (c : Nat) : Option Nat := if c = 0 then some 0 else if c = 8 then some 1 else none

/-- LOG_CAP.PSLC_BYTES (R132): the pSLC capacity of the good blocks of the dies in service. -/
def State.showCap (s : State) : State :=
  let blocks := s.fget Fld.LOG_GEOM.BLOCKS
  let dies := (List.range 512).filter (fun ds => s.dieIn ds && s.chIn (ds / 32))
  let good := (dies.map (fun ds => blocks - (s.log.bad.filter (fun k => k / 2 ^ 14 == ds)).length)).sum
  s.fset Fld.LOG_CAP.PSLC_BYTES (good * s.fget Fld.LOG_GEOM.PSLC_PAGES * 65536)

/-- A die leaves service for good (R216): DIE_RETIRED with its cause and phase 0; every stripe with a member on it is relocated, its
journal copy fails, and PSLC_BYTES falls at the next beat boundary. -/
def State.retireDie (s : State) (ds cause : Nat) : State :=
  if !s.dieIn ds then s
  else
    let s := s.fset (Fld.LOG_DIE_STS.STATE ds) 3
    let s := s.journal 6 s.newestGen [(0x20, ds), (0x22, 0xFFFF), (0x24, cause), (0x25, 0)]
    let s := s.fault (srcOf 83 7) 0x4F ds
    let refs := s.refs
    let keys := (s.dieForms ds).filter refs.contains
    let s := s.modLog (fun l => { l with
      dieCause := tabIns ds cause (tabDel ds l.dieCause)
      reloc := l.reloc ++ keys
      dieOps := tabDel ds l.dieOps })
    match jnlCopyOf ds with | some c => s.jnlCopyFail c | none => s

/-- BLOCK_RETIRED (R215): a spare of the same die takes the block's place; with none left the die retires. -/
def State.retireBlock (s : State) (ds block cause : Nat) : State :=
  let sp := s.fget (Fld.LOG_DIE_STS.SPARES ds)
  if sp = 0 then s.retireDie ds 5
  else
    let s := (s.fset (Fld.LOG_DIE_STS.SPARES ds) (sp - 1)).satUp (Fld.LOG_DIE_STS.RETIRED ds)
    let s := s.modLog (fun l => { l with retired := setIns (blockKey ds (s.physBlock ds block)) l.retired })
    let s := (s.remapBlock ds block).showCap
    (s.journal 5 s.newestGen [(0x20, ds), (0x22, block), (0x24, cause)]).fault (srcOf 83 7) 0x4E
      (ds * 2 ^ 25 + block * 2 ^ 11)

/-- Checkpoints whose record, maps or record pages stand among `keys`, or whose CKPT_RECORD is among `items`, write their forms
anew (R206). -/
def State.redoCkpts (s : State) (keys : List Nat) (items : List Item) : State :=
  let redo : Nat → Ckpt → Ckpt := fun n c =>
    if c.forms.any keys.contains || items.any (fun i => i.form.ld == n && i.cuts.contains c.no) then
      if c.recDue && c.recAddr.isNone then { c with recDue := false, forms := [], named := [] }
      else if !c.old.isEmpty then { c with moved := true, forms := c.old, named := [], old := [] }
      else c
    else c
  allLds.foldl (fun s n => s.modLd n (fun l => { l with ckpts := l.ckpts.map (redo n) })) s

/-- A stripe is rewritten at the head (R215, R161): its forms go into stripes of the same writer, as they fit; what finds no stripe
waits where it came from. A CKPT stripe's checkpoints write their forms anew, and record groups that were due are due again. -/
def State.rewriteStripe (s : State) (q : Nat) : State :=
  match s.stripe? q with
  | none => s
  | some t =>
    let due := (s.log.recDue.filter (fun e => e.1 == q)).map (·.2)
    let s := (s.freeDies t).modLog (fun l => { l with
      stripes := l.stripes.filter (fun x => x.seq != q)
      recDue := l.recDue.filter (fun e => e.1 != q)
      poisonDue := due.foldl (fun m g => setIns g m) l.poisonDue })
    if t.writer = 6 then
      (s.redoCkpts (t.items.map (·.key)) t.items).writeCkptRecs
    else if t.writer = 7 then
      let r := s.newStripe 7 true
      match r.2 with
      | some n => r.1.modStripe n (fun x => { x with items := t.items })
      | none => r.1
    else
      let its := t.items.filter (fun i => i.form.kind != 3 || i.src.isSome)
      let s := its.foldl (fun s i =>
        let r := s.place t.writer i
        match r.2, i.src with
        | some _, _ => r.1
        | none, some k => r.1.modLog (fun l => { l with reloc := l.reloc ++ [k] })
        | none, none =>
          if t.writer = 2 then r.1.modSpillBack i
          else if t.writer = 1 then r.1.modRill (fun x => { x with sel := x.sel ++ [i], ready := x.ready ++ [i.form.page] })
          else r.1) s
      match s.openStripe t.writer with
      | some x => if byElytra t.writer then s else s.closeStripe x.seq
      | none => s

/-- A stripe of the housekeeper's that fails in SPILLING (R161): the Elytra write what it owes. Its pages are DIRTY again and its
eddy copies go back to their slots, and they come next in the order; relocations are dropped, their sources stand (R212). -/
def State.stripeToSpill (s : State) (q : Nat) : State :=
  match s.stripe? q with
  | none => s
  | some t =>
    let due := (s.log.recDue.filter (fun e => e.1 == q)).map (·.2)
    let s := (s.freeDies t).modLog (fun l => { l with
      stripes := l.stripes.filter (fun x => x.seq != q)
      recDue := l.recDue.filter (fun e => e.1 != q)
      poisonDue := due.foldl (fun m g => setIns g m) l.poisonDue
      reloc := l.reloc ++ t.items.filterMap (fun i => i.src) })
    let s := s.redoCkpts (t.items.map (·.key)) t.items
    let eds := t.items.filterMap (fun i => i.slot.map (fun e => (i.form.ld, i.form.page, some e)))
    let back : Nat × Eddy → Nat × Eddy := fun e =>
      (e.1, if eds.any (fun x => x.2.2 == some e.1) then { e.2 with onWay := false, byItem := false } else e.2)
    let s : State := { s with eddy := s.eddy.map back }
    let s := t.items.foldl (fun s i =>
      if i.form.kind == 1 && i.src.isNone && i.slot.isNone && !i.stale && (s.page i.form.page).st == .cleaning then
        s.setPState i.form.page .dirty
      else s) s
    s.modSpill (fun x => { x with order := eds ++ x.order.filter (fun e => !eds.contains e) })

/-- STRIPE_PROGRAM_FAIL (R215, R161): a member reports FAIL or no ready status within 4 ms; every stripe that has a member in flight
on the block is written anew. -/
def State.stripeFail (s : State) (q c : Nat) (st : MediaStatus) : State :=
  match ((s.closeStripe q).stripe? q).filter (·.closed) with
  | none => s
  | some t =>
    if st == .ok || !t.members.contains c then s
    else
      let s := s.closeStripe q
      let ds := 32 * c + s.stripeSet t
      let s := s.bump Fld.LOG_ERR_CNT.PROGRAM_FAIL Fld.LOG_ERR_CNT.PF_SAT
      let page := if s.dieSets = 0 then 0 else t.unit / s.dieSets
      let s := if st == .timeout then s.fault (srcOf (40 + c) 4) 0x24 (ds * 2 ^ 25 + t.band * 2 ^ 11)
        else s.fault (srcOf (40 + c) 6) 0x3C (ds * 2 ^ 25 + t.band * 2 ^ 11 + page)
      let s := s.retireBlock ds t.band (if st == .timeout then 4 else 1)
      let with_ := s.log.stripes.filter (fun x => x.closed && x.seq != q && x.band == t.band && (s.stripeDies x).contains ds)
      (t :: with_).foldl (fun s x =>
        let s := if s.dev == .spilling then s.bump Fld.SPL_CNTB.STRIPE_REWRITES Fld.SPL_CNTB.RW_SAT else s
        if s.dev == .spilling && !byElytra x.writer then s.stripeToSpill x.seq else s.rewriteStripe x.seq) s

/-- BAND_ERASE_DONE (R212, R215): the band is erased and takes its place among the free ones of the ring (R208), unless its blocks
are spare blocks now (R196); a failed member's block is retired first. -/
def State.bandErased (s : State) (b : Nat) (failed : List Nat) (st : MediaStatus) : State :=
  if s.log.erasing != some b then s
  else
    let s := if st == .ok then s else failed.foldl (fun s ds =>
      let s := s.bump Fld.LOG_ERR_CNT.ERASE_FAIL Fld.LOG_ERR_CNT.EF_SAT
      let s := if st == .timeout then s.fault (srcOf (40 + ds / 32) 4) 0x24 (ds * 2 ^ 25 + b * 2 ^ 11)
        else s.fault (srcOf (40 + ds / 32) 6) 0x3D (ds * 2 ^ 25 + b * 2 ^ 11)
      s.retireBlock ds b (if st == .timeout then 4 else 2)) s
    let wasTlc := s.log.tlc.contains b
    let s := { s with
      flash := s.flash.filter (fun e => keyBand e.1 ≠ b)
      stripesOn := s.stripesOn.filter (fun e => e.2.band ≠ b) }
    let s := s.modLog (fun l => { l with
      erasing := none
      used := l.used.filter (· ≠ b)
      tlc := l.tlc.filter (· ≠ b)
      free := if s.firstBand ≤ b then s.ringOrder (b :: l.free.erase b) else l.free.erase b
      reErase := l.reErase.erase b
      erases := tabSet 0 b (tabGet 0 b l.erases + (if wasTlc then 3 else 1)) l.erases })
    let dies := (s.log.dieOps.filter (fun e => e.2.erase)).map (·.1)
    (s.opOff 0 dies).showWindow.logLow.tailAdvance

/-- The three pages of a word line of TLC cells (log entry 112): every stripe of the word-line group that holds a log address is on
flash. -/
def State.groupWhole (s : State) (k : Nat) : Bool :=
  let page := k / 2 ^ 10 % 2 ^ 11
  [0, 1, 2].all (fun i => s.stripesOn.any (fun (e : Nat × FStripe) => e.2.band == keyBand k &&
    e.2.unit == (page / 3 * 3 + i) * s.dieSets + keyDs k % 32))

/-- FOLD_READBACK_DONE (R213): the word-line groups of a TLC band whose last page has been programmed have been read back; their
forms' records move only when every codeword decoded at level 0. -/
def State.foldRead (s : State) (b : Nat) (r : ReadResult) : State :=
  let due := fun (e : Nat × Item) => e.1 == b && s.groupWhole e.2.key
  let mine := s.log.fold.filter due
  let s := s.modLog (fun l => { l with fold := l.fold.filter (fun e => !due e) })
  if r == .decoded 0 then
    mine.foldl (fun s e => match e.2.src with | some k => s.relocCopied e.2 k | none => s.recCopied e.2) s
  else s

/-! ## Reads (R218, R219) -/

/-- The stripe that holds a log address is to be rewritten elsewhere, with all its forms (R219, R188). -/
def State.relocStripe (s : State) (k : Nat) : State :=
  let keys := match s.stripesOn.find? (fun (e : Nat × FStripe) => e.2.forms.any (fun x => x.1 == k)) with
    | some e => e.2.forms.map (fun (x : Nat × Form) => x.1)
    | none => [k]
  s.modLog (fun l => { l with reloc := l.reloc ++ keys.filter (fun x => !l.reloc.contains x) })

/-- Scrub reads that wait are issued as page-operation entries come free (R219, R9). -/
def State.scrubMore (s : State) : State :=
  let n := s.log.scrubLeft.take s.opsLeft
  (s.modLog (fun l => { l with scrubLeft := l.scrubLeft.drop n.length, scrubOn := l.scrubOn ++ n })).emits
    (n.map (fun k => .flashOp [0, k]))

/-- The counters and messages of a codeword read that decoded at a level, or not at all (Table 08-9, Table 14-4); at
RR_RELOC or above the form's stripe is scheduled for relocation. -/
def State.ladderRead (s : State) (k : Nat) (r : ReadResult) : State :=
  let ch := keyDs k / 32
  let addr := keyDs k * 2 ^ 25 + keyBand k * 2 ^ 11 + k / 2 ^ 10 % 2 ^ 11
  match r with
  | .decoded l =>
    let s := if l = 0 then s
      else
        let s := if l ≤ 8 then
            (if s.fget Fld.LOG_READ_CNT.RETRY < Fld.LOG_READ_CNT.RETRY.max then s.satUp Fld.LOG_READ_CNT.RETRY
             else (s.fset Fld.LOG_READ_CNT.RETRY 0).fset Fld.LOG_READ_CNT.OVF
               (s.fget Fld.LOG_READ_CNT.OVF ||| 2))
          else
            (if s.fget Fld.LOG_READ_CNT.SOFT < Fld.LOG_READ_CNT.SOFT.max then s.satUp Fld.LOG_READ_CNT.SOFT
             else (s.fset Fld.LOG_READ_CNT.SOFT 0).fset Fld.LOG_READ_CNT.OVF
               (s.fget Fld.LOG_READ_CNT.OVF ||| 1))
        s.fault (srcOf (40 + ch) 5) 0x31 addr
    if decide (s.fget Fld.LOG_CFG.RR_RELOC ≤ l) then s.relocStripe k else s
  | .failed => s.relocStripe k

end Sys2Proof.Machine
end

