-- ==== Sys2Proof/Machine/Media.lean ====
section
/-! DEFINITION. What stands on flash beside the log's stripes as the maintenance port sees it (Table 08-1, R196, R207, R230 to R232): the
fixed regions, plane pages, words of word areas, and what the port's own operations leave there. -/

namespace Sys2Proof.Machine

/-- The loader's own state changes. -/
def State.modBoot (s : State) (f : BootState → BootState) : State := { s with boot := f s.boot }
/-- The port's own state changes. -/
def State.modFlm (s : State) (f : FlmState → FlmState) : State := { s with flm := f s.flm }
/-- Key of a plane page and of a word of the word area. -/
def planeKey (ds block page plane : Nat) : Nat := (blockKey ds block * 2 ^ 11 + page) * 4 + plane
def wordKey (plane word : Nat) : Nat := plane * 16 + word

/-- Pages of a journal copy's ring and of one of its blocks (R207); 0 before the geometry is known. -/
def State.jnlBlock (s : State) : Nat := s.fget Fld.LOG_GEOM.PSLC_PAGES
def State.jnlBlocks (s : State) : Nat := (4096 + s.jnlBlock - 1) / s.jnlBlock + 1

/-- A byte of content kept as explicit bytes over two bases. -/
def contentByte (bytes : List (Nat × Byte)) (base spare off : Nat) : Byte :=
  match bytes.find? (fun e => e.1 == off) with
  | some e => e.2
  | none =>
    let b := if off < 0x4000 then base else spare
    if b = 0 then 0 else if b = 1 then 255 else Config.rawByte (b - 2) off
/-- A value of `n` bytes, least significant first. -/
def bytesOf (n v : Nat) : List Byte := (List.range n).map (fun i => BitVec.ofNat 8 (v / 256 ^ i))

/-- The region of a block: 0 boot, 1 configuration, 2 journal, 3 FM-defined area, 4 any other. -/
def State.regionAt (s : State) (ds block : Nat) : Nat :=
  if s.isBad ds block || s.regionBlocks ds ≤ s.goodIdx ds block then 4
  else if [0, 128, 256, 384].contains ds then 0
  else if ds = 64 || ds = 320 then 1
  else if ds = 1 || ds = 257 then 2
  else 3

/-! ## What stands on flash -/

/-- A value the model does not hold is drawn. -/
def State.draw (s : State) : State × Nat :=
  let k := s.freeCtr
  ({ s with freeCtr := k + 1 }, k)

/-- The bytes of a journal record (Table 08-6). -/
def JRec.bytes (r : JRec) : List Byte :=
  let put := fun (m : List (Nat × Byte)) (off n v : Nat) =>
    ((List.range n).zip (bytesOf n v)).foldl (fun m e => tabIns (off + e.1) e.2 (tabDel (off + e.1) m)) m
  let head := put (put (put (put (put (put [] 0 4 0x4A524E4C) 4 2 r.kind) 6 2 r.direct.toNat) 8 8 r.seq) 0x10 8 r.beat) 0x18 8 r.gen
  let all := (sortBy (·.1) r.payload).foldl (fun m e => put m e.1 8 e.2) head
  let body := (List.range 252).map (fun i => tabGet 0 i all)
  body ++ bytesOf 4 (crc32c (body.map (·.toNat)))

/-- The journal record on a page of a copy (R207). -/
def State.jnlOn (s : State) (copy n : Nat) : Option JRec :=
  let p := s.jnlBlock
  if p = 0 then none
  else s.flt.flashJnl.find? (fun r =>
    r.progOn.contains copy && decide (r.seq % (s.jnlBlocks * p) = n))

/-- A page that reads as erased. -/
def erasedPage : RawPage := RawPage.mk [] 1 1 0

/-- The block of the log that a block of a die stands for (R197), none for a block remapped out or not yet in use. -/
def State.logBlock (s : State) (ds block : Nat) : Option Nat :=
  match s.log.remap.find? (fun e => e.1 / 2 ^ 14 == ds && e.2 == block) with
  | some e => some (e.1 % 2 ^ 14)
  | none => if s.log.remap.any (fun e => e.1 == blockKey ds block) then none else some block

/-- A plane page of a log stripe, byte for byte (R198, R201 to R203): its data, and on plane 0 the header fragment, in the spare
area; the LDPC parity there is not the model's to say. -/
def State.stripePlane (s : State) (ds block page plane : Nat) (tlc : Bool) : Option (Nat → RawPage) :=
  (s.logBlock ds block).bind (fun b =>
    if s.log.tlc.contains b != tlc then none
    else (s.stripeAt s.dieSets ds b page).map (fun (e : Nat × FStripe) k =>
      let c := ds / 32
      let data := (List.range 0x4000).map (fun i => (i, BitVec.ofNat 8 (e.2.byte e.1 c (plane * 0x4000 + i))))
      let frag := if plane = 0 then (List.range 256).map (fun i =>
          (0x4000 + Config.fragmentAt + i, BitVec.ofNat 8 (e.2.fragment e.1 c i))) else []
      RawPage.mk (data ++ frag) 0 (k + 2) 1))

/-- A plane page as a port read finds it. -/
def State.rawAt (s : State) (ds block page plane : Nat) (tlc : Bool := false) : State × RawPage :=
  match s.flm.raw.find? (fun e => e.1 == planeKey ds block page plane) with
  | some e => (s, e.2)
  | none =>
    let d := s.draw
    let free := (d.1, RawPage.mk [] (d.2 + 2) (d.2 + 2) 1)
    match s.regionAt ds block with
    | 0 => if s.flm.filled.contains (blockKey ds block) then free else (s, erasedPage)
    | 2 =>
      match (if plane = 0 then s.jnlOn (if ds = 1 then 0 else 1) (s.goodIdx ds block * s.flmP + page) else none) with
      | some r => (d.1, RawPage.mk ((List.range 256).zip r.bytes) 1 (d.2 + 2) 1)
      | none => (s, erasedPage)
    | 3 => (s, erasedPage)
    | 1 => free
    | _ =>
      match s.stripePlane ds block page plane tlc with
      | some p => (d.1, p d.2)
      | none => free

/-- Spare bytes of a plane page, 1,488 where no start has read them (R194), and where its word area begins in the buffer. -/
def State.flmSpare (s : State) : Nat :=
  let n := s.fget Fld.LOG_GEOM.SPARE_BYTES
  if n = 0 then 1488 else n
def State.wordArea (s : State) : Nat := 0x4000 + s.flmSpare - 64

/-- The half of the configuration region whose header page this is: 2 × copy + half (R232). -/
def State.headerOf (s : State) (ds block page plane : Nat) : Option Nat :=
  let h := s.blocksOf 8
  let block := s.goodIdx ds block
  if (ds = 64 || ds = 320) && page = 0 && plane = 0 && block < 2 * h && block % h = 0 then
    some ((if ds = 64 then 0 else 2) + block / h)
  else none

/-- A word of a page's word area as it stands (R231). -/
def State.wordAt (s : State) (ds block page plane w : Nat) : State × BitVec 32 :=
  let pk := planeKey ds block page plane
  match s.flm.words.find? (fun e => e.1 == wordKey pk w) with
  | some e => (s, e.2)
  | none =>
    match s.regionAt ds block with
    | 1 => (s, match s.headerOf ds block page plane with
        | some h => if w = 0 then ((s.cfgHalf.find? (fun e => e.1 == h)).map (fun e => e.2.state)).getD 0xFFFFFFFF else 0xFFFFFFFF
        | none => 0xFFFFFFFF)
    | 2 =>
      let c := if ds = 1 then 0 else 1
      (s, match (if plane = 0 then s.jnlOn c (s.goodIdx ds block * s.flmP + page) else none) with
        | some r => if w = 0 && r.sealedOn.contains c then 0 else 0xFFFFFFFF
        | none => 0xFFFFFFFF)
    | 3 =>
      let x := s.rawAt ds block page plane
      (x.1, BitVec.ofNat 32 (((List.range 4).map (fun i =>
        (contentByte x.2.bytes x.2.base x.2.spareBase (s.wordArea + 4 * w + i)).toNat * 256 ^ i)).foldl (· + ·) 0))
    | _ =>
      let d := s.draw
      (d.1, Config.rawWord d.2)

/-- Programs a page has received since its erase (R231). -/
def State.progsAt (s : State) (ds block page plane : Nat) : Nat :=
  let pk := planeKey ds block page plane
  let own := match s.regionAt ds block with
    | 1 => (match s.headerOf ds block page plane with
        | some h => if s.cfgHalf.any (fun e => e.1 == h) then 2 else 0
        | none => 1)
    | 2 =>
      let c := if ds = 1 then 0 else 1
      (match (if plane = 0 then s.jnlOn c (s.goodIdx ds block * s.flmP + page) else none) with
        | some r => if r.sealedOn.contains c then 2 else 1
        | none => 0)
    | _ => ((s.flm.raw.find? (fun e => e.1 == pk)).map (fun e => e.2.progs)).getD 0
  own + tabGet 0 pk s.flm.nops

/-- The boot copy on a die stream has been changed by the port: what it holds is checked at the next start (R336). -/
def State.bootTouched (s : State) (ds : Nat) : State :=
  if [0, 128, 256, 384].contains ds then
    s.modBoot (fun b => { b with byPort := setIns (ds / 128) b.byPort, copies := tabDel (ds / 128) b.copies })
  else s

/-- A word takes a value (R231): the STATE word of a configuration half with it. -/
def State.setWord (s : State) (key : Nat) (v : BitVec 32) : State :=
  let pk := key / 16
  let s := s.modFlm (fun f => { f with
    words := tabIns key v (tabDel key f.words)
    nops := tabSet 0 pk (tabGet 0 pk f.nops + 1) f.nops })
  let ds := pk / 2 ^ 27
  let block := pk / 2 ^ 13 % 2 ^ 14
  match s.headerOf ds block (pk / 4 % 2 ^ 11) (pk % 4) with
  | some h =>
    if key % 16 = 0 then
      let set : Nat × CfgHalf → Nat × CfgHalf := fun e => if e.1 == h then (e.1, { e.2 with state := v }) else e
      { s with cfgHalf := s.cfgHalf.map set }
    else s
  | none => s

/-- What a program or erase of the port leaves (R230, R231): its effect, or, where it failed or power was lost during it, content that
the model does not know, a word at any value between old and new (Table 08-10). Bits once programmed stay programmed. -/
def State.flmEffect (s : State) (o : FlmOp) (ok : Bool) : State :=
  let d := s.draw
  if o.opcode = 0x10 then
    let block := o.key / 2 ^ 13 % 2 ^ 14
    let page := o.key / 4 % 2 ^ 11
    let old := (s.rawAt o.ds block page (o.key % 4)).2
    let now := fun (p : RawPage) (off : Nat) => contentByte p.bytes p.base p.spareBase off
    let area := (List.range 64).map (fun i =>
      (s.wordArea + i, now o.page (s.wordArea + i) &&& now old (s.wordArea + i)))
    let p := if ok then { o.page with
        bytes := o.page.bytes.filter (fun e => !(area.any (fun x => x.1 == e.1))) ++ area
        progs := old.progs + 1 }
      else RawPage.mk [] (d.2 + 2) (d.2 + 2) (old.progs + 1)
    let word := fun (w : Nat) => BitVec.ofNat 32 (sumNat ((List.range 4).map (fun i =>
      (now o.page (s.wordArea + 4 * w + i)).toNat * 256 ^ i)))
    (d.1.modFlm (fun f => { f with
      raw := tabIns o.key p (tabDel o.key f.raw)
      words := f.words.map (fun e => if e.1 / 16 == o.key then (e.1, e.2 &&& word (e.1 % 16)) else e) })).bootTouched o.ds
  else if o.opcode = 0x11 then
    let pk := o.key / 16
    let x := s.wordAt o.ds (pk / 2 ^ 13 % 2 ^ 14) (pk / 4 % 2 ^ 11) (pk % 4) (o.key % 16)
    let y := x.1.draw
    y.1.setWord o.key (if ok then x.2 &&& o.value else x.2 &&& (o.value ||| Config.rawWord y.2))
  else
    let s := d.1.modFlm (fun f => { f with
      raw := f.raw.filter (fun e => e.1 / 2 ^ 13 != o.key)
      words := f.words.filter (fun e => e.1 / 2 ^ 17 != o.key)
      nops := f.nops.filter (fun e => e.1 / 2 ^ 13 != o.key)
      filled := if ok then setDel o.key f.filled else setIns o.key f.filled })
    s.bootTouched o.ds

/-- Blocks of a die are erased by the KX7180: nothing the port programmed in their word areas is left. -/
def State.wordsErased (s : State) (bs : List Nat) : State :=
  s.modFlm (fun f => { f with
    words := f.words.filter (fun e => !bs.contains (e.1 / 2 ^ 17))
    nops := f.nops.filter (fun e => !bs.contains (e.1 / 2 ^ 13)) })

/-- A loss of power cuts off the port's operation: one that its die had leaves what Table 08-10 says (R231). -/
def State.flmCut (s : State) : State :=
  match s.flm.op with
  | some o => (if s.flmIssued o then s.flmEffect o false else s).modFlm (fun f => { f with op := none })
  | none => s

end Sys2Proof.Machine
end

