-- ==== Sys2Proof/Machine/Send.lean ====
section
/-! DEFINITION. What the Elytra send in a spill (R151 to R153): the order of stage B, the PAGE commands to the Scarab clusters, the
packing of what they report into stripes, and the PROGRAM commands of the stripes. -/

namespace Sys2Proof.Machine

/-! ## The two Elytra and their targets -/

/-- An Elytra as it stands at reset. -/
def Elytra.new : Elytra := { }
/-- Elytra `e`: 0 A, 1 B. -/
def State.ely (s : State) (e : Nat) : Elytra := tabGet Elytra.new e s.elys
/-- Elytra `e` changes. -/
def State.modEly (s : State) (e : Nat) (f : Elytra → Elytra) : State :=
  { s with elys := tabSet Elytra.new e (f (s.ely e)) s.elys }
/-- Role of an Elytra: 0 SHADOW, 1 DUAL, 2 SOLE, 3 OUT. -/
def State.elyRole (s : State) (e : Nat) : Nat := s.fget (Fld.ELY_STS.ROLE e)
/-- The Elytra is in service. -/
def State.elyIn (s : State) (e : Nat) : Bool := s.elyRole e != 3
/-- The Elytra sends spill commands: in service, and not on its way back (R159). -/
def State.elySends (s : State) (e : Nat) : Bool := s.elyIn e && !(s.ely e).rejoining
/-- A target before any frame. -/
def Target.new : Target := { }
/-- A command target (Table 06-3). -/
def State.target (s : State) (t : Nat) : Target := tabGet Target.new t s.targets
/-- A command target changes. -/
def State.modTarget (s : State) (t : Nat) (f : Target → Target) : State :=
  { s with targets := tabSet Target.new t (f (s.target t)) s.targets }
/-- Role generation of a target: die streams and clusters share the one of R149; journal and rail sequencer keep 0 (log
entry 27). -/
def State.targetGen (s : State) (t : Nat) : Nat := if t < 0x300 then s.spill.roleGen % 65536 else 0
/-- TARGET of a Scarab cluster, the journal and the rail sequencer (Table 06-3). -/
def clusterTarget (k : Nat) : Nat := 0x200 + k
def journalTarget : Nat := 0x300
def railTarget : Nat := 0x301

/-- A command goes out from each Elytra that sends spill commands. -/
def State.elyEmit (s : State) (f : ElyFrame) : State :=
  s.emits (([0, 1].filter s.elySends).map (fun e => .ely (f.from_ e)))

/-- Both Elytra send a command under the target's next SEQ (R152, R153). -/
def State.elySend (s : State) (opcode target : Nat) (args : List Nat) : State :=
  let q := tabGet 1 target s.spill.seqs
  let f := ElyFrame.make opcode 0 false (s.targetGen target) q target args
  (s.modSpill (fun x => { x with seqs := tabSet 1 target (q + 1) x.seqs, sent := x.sent ++ [f] })).elyEmit f

/-- A record is staged, and the Elytra command its programming (R150, R163). -/
def State.elyRecord (s : State) (kind gen : Nat) (payload : List (Nat × Nat)) : State :=
  let q := s.fget Fld.JNL_SEQ.NEXT_SEQ
  let t := s.journal kind gen payload
  if t.fget Fld.JNL_SEQ.NEXT_SEQ == q then t else t.elySend 4 journalTarget (journalArgs q)

/-! ## The order of stage B -/

/-- STAGE of SPL_STATE (Table 06-2, Table 06-10). -/
def State.stage (s : State) : Nat := s.fget Fld.SPL_STATE.STAGE
def State.setStage (s : State) (k : Nat) : State := s.fset Fld.SPL_STATE.STAGE k

/-- LD_NOW shows the LD of the next item of stage B. -/
def State.showLdNow (s : State) : State :=
  s.fset Fld.SPL_STATE.LD_NOW (if s.stage == 4 then (s.spill.order.head?.map (·.1)).getD 255 else 255)

/-- An item of the order still wants writing: an eddy copy that holds its slot, or a page that is DIRTY, CLEANING or FORKED
(R151). -/
def State.stillOwed (s : State) (e : Nat × Nat × Option Nat) : Bool :=
  match e.2.2 with
  | some i => s.eddy.any (fun x => x.1 == i)
  | none => (s.page e.2.1).st == .dirty || (s.page e.2.1).st == .cleaning || (s.page e.2.1).st == .forked

/-- A transformed item of the order. -/
def State.readyFor (s : State) (e : Nat × Nat × Option Nat) : Option SpillForm :=
  s.spill.ready.find? (fun f => f.page == e.2.1 && f.slot == e.2.2)

/-- Transformed items go into stripes strictly in the order (R152), as far as the order goes without a gap; an item that owes
nothing any more is passed over. -/
def State.elyPlace (s : State) : List (Nat × Nat × Option Nat) → State
  | [] => s.modSpill (fun x => { x with order := [] })
  | e :: rest =>
    if !s.stillOwed e then s.elyPlace rest
    else match s.readyFor e with
      | none => s.modSpill (fun x => { x with order := e :: rest })
      | some f =>
        let r := s.place 2 f.item
        match r.2 with
        | none => r.1.modSpill (fun x => { x with order := e :: rest })
        | some q =>
          let s := r.1.modSpill (fun x => { x with
            ready := x.ready.erase f
            suspects := if f.suspect then setIns q x.suspects else x.suspects })
          (s.modEly f.src (fun x => { x with firstOf := setIns q x.firstOf })).elyPlace rest

/-- Scarab clusters in service. -/
def State.clustersIn (s : State) : List Nat := (List.range 16).filter (fun k => s.fget (Fld.SCB_CL_STS.STATE k) == 0)

/-- The PAGE command of an item, to the clusters in service in turn (log entry 91). -/
def State.askPage (s : State) (e : Nat × Nat × Option Nat) : State :=
  let n := s.spill.pageNo
  let k := s.clustersIn.getD (n % s.clustersIn.length) 0
  (s.elySend 1 (clusterTarget k) (pageArgs e.2.1 e.2.2 n 0)).modSpill (fun x => { x with
    asked := x.asked ++ [(e.2.1, e.2.2, k)]
    pageNo := n + 1 })

/-- PAGE commands go out for the items of the order, as page operations are free (R9); what a cluster that has left service owes
is asked of another. -/
def State.elyAsk (s : State) : State :=
  if s.stage != 4 || s.spill.shortfall || s.clustersIn.isEmpty then s
  else
    let s := s.modSpill (fun x => { x with asked := x.asked.filter (fun a => s.clustersIn.contains a.2.2) })
    let due := s.spill.order.filter (fun e => s.stillOwed e && (s.readyFor e).isNone &&
      !(s.spill.asked.any (fun a => a.1 == e.2.1 && a.2.1 == e.2.2)))
    (due.take s.opsLeft).foldl (fun s e => s.askPage e) s

/-! ## Stripes -/

/-- The page of a stripe's members in their blocks. -/
def State.stripePage (s : State) (t : Stripe) : Nat := if s.dieSets = 0 then 0 else t.unit / s.dieSets
/-- BUFFER, block and page of a stripe's commands. -/
def State.stripeArgs (s : State) (t : Stripe) : List Nat := programArgs (t.seq % 65536) t.band (s.stripePage t)

/-- The PROGRAM commands of a stripe, one to the die stream of each member. -/
def State.sendPrograms (s : State) (t : Stripe) : State :=
  ((s.stripeDies t).foldl (fun s d => s.elySend 2 d (s.stripeArgs t)) s).modSpill
    (fun x => { x with progSent := x.progSent ++ [t.seq] })

/-- Nothing more goes into stage B's stripes: the order is written, or a shortfall ends the stage (R162). -/
def State.orderDone (s : State) : Bool := s.spill.shortfall || !(s.spill.order.any s.stillOwed)

/-- The SEAL commands of the seal stripe, and the SEAL journal record that names it (R150, R165). -/
def State.sendSeal (s : State) (t : Stripe) : State :=
  let key := s.stripeKey t
  let crc := (s.spill.record.map (fun g => crc32c (g.body Config.otpSerial.toNat none))).getD 0
  let load := [(0x20, key), (0x28, t.seq), (0x30, crc)]
  let r := JRec.mk (s.fget Fld.JNL_SEQ.NEXT_SEQ) 2 false s.curBeat s.spill.gen load .sealed [] [] []
  let s := ((s.stripeDies t).foldl (fun s d => s.elySend 3 d (s.stripeArgs t)) s).modSpill (fun x => { x with
    progSent := x.progSent ++ [t.seq]
    sealKey := some key
    sealSeq := t.seq })
  (s.elyRecord 2 s.spill.gen load).modFlt (fun f => { f with sealCopies := (r :: f.sealCopies).take 2 })

/-- PROGRAM commands go out for the stripes that are full; for the last one of stage B once nothing more goes into it; and the
SEAL commands for the seal stripe. -/
def State.elyPrograms (s : State) : State :=
  let last := (s.openStripe 2).map (·.seq)
  let due := s.log.stripes.filter (fun t => byElytra t.writer && !t.closed && !s.spill.progSent.contains t.seq &&
    (t.writer != 2 || s.orderDone || last != some t.seq))
  due.foldl (fun s t => if t.writer = 7 then s.sendSeal t else s.sendPrograms t) s

/-- The Elytra go on as the reports of clusters and dies allow (R152); with a shortfall nothing more is placed (R162), and once
the spill is abandoned nothing more is sent (R163). -/
def State.elyPump (s : State) : State :=
  if s.dev != .spilling || s.spill.abandoned then s
  else
    let s := if s.spill.shortfall then s else s.elyPlace s.spill.order
    (s.elyAsk.elyPrograms).showLdNow

end Sys2Proof.Machine
end

