-- ==== Sys2Proof/Machine/Draw.lean ====
section
/-! DEFINITION. Draws, the refill sequencer's reads and their ends (R181 to R192), as operations. -/

namespace Sys2Proof.Machine

/-! ## The page-operation pool (R9) -/

/-- The draw or refill read of a page. -/
def State.drawOf (s : State) (p : Nat) : Option Draw := s.rfl_.draws.find? (fun d => d.page == p)
/-- The draw of a page changes. -/
def State.modDraw (s : State) (p : Nat) (f : Draw → Draw) : State :=
  s.modRfl (fun r => { r with draws := r.draws.map (fun d => if d.page == p then f d else d) })

/-! ## Counts -/

/-- RFL_LD_STS, RFL_STS and the states they decide show the UNFILLED pages as they stand. -/
def State.showUnfilled (s : State) : State :=
  let s := allLds.foldl (fun s n => s.fsat (Fld.RFL_LD_STS.UNFILLED n) (s.unfilled n)) s
  s.fsat Fld.RFL_STS.UNFILLED (sumNat ((allLds.filter s.bound).map s.unfilled))

/-- Table 02-6 counts the LD for REFILLING: it has UNFILLED or DRAWING pages and is not QUIESCED, or is held (R177). -/
def State.countsRefill (s : State) (n : Nat) : Bool :=
  let l := s.ld n
  l.st != .unbound && ((l.st == .quiesced && l.held) || (l.st != .quiesced && decide (0 < s.unfilled n)))

/-- An LD leaves REFILLING with its own last page (R34); the device leaves REFILLING when no LD counts for it
(Table 02-7). -/
def State.checkFilled (s : State) : State :=
  if !s.isOpen then s
  else
    let s := s.showUnfilled
    let s := allLds.foldl (fun s n =>
      let l := s.ld n
      let s := if l.st == .refilling && s.unfilled n = 0 then s.setLdState n .serving else s
      if l.restoring && s.unfilled n = 0 then s.modLd n (fun l => { l with restoring := false }) else s) s
    if s.dev == .refilling && !(allLds.any s.countsRefill) then (s.setDev .serving).fset Fld.RFL_STS.PHASE 5 else s

/-! ## Issuing -/

/-- The die stream of the data member on which the form at a log address continues (R202). -/
def State.secondDie (s : State) (k : Nat) : Option Nat :=
  if keyOffset k + unitsOf (s.formAt k).len ≤ 1024 then none
  else (s.stripesOn.find? (fun (e : Nat × FStripe) => e.2.band == keyBand k && e.2.forms.any (fun x => x.1 == k))).bind (fun e =>
    let data := dataOf e.2.members e.1
    (data[data.idxOf (keyDs k / 32) + 1]?).map (fun c => 32 * c + keyDs k % 32))

/-- The dies that a draw or refill read reads: two for a form that is split across two data members (R202). -/
def Draw.dies (d : Draw) : List Nat := keyDs d.from_ :: d.also.toList
/-- A draw or refill read reads at a die. -/
def Draw.atDie (d : Draw) (ds : Nat) : Bool := d.dies.contains ds

/-- A die stream still serves reads: its channel and itself in service (R188). -/
def State.dieReads (s : State) (ds : Nat) : Bool := s.chIn (ds / 32) && s.dieIn ds

/-- A program or erase of the log is suspended for the draws at its die (R220). -/
def State.suspend (s : State) (ds : Nat) : State :=
  (s.modLog (fun l => { l with dieOps := l.dieOps.map (fun e =>
    if e.1 == ds then (e.1, { e.2 with suspended := true }) else e) })).bump Fld.LOG_SUSP_CNT.SUSPENDS
    Fld.LOG_SUSP_CNT.SU_SAT

/-- An operation at a die is never suspended (R220, R229): the journal's, the maintenance port's or a seal's. -/
def State.neverSuspend (s : State) (ds : Nat) : Bool :=
  s.holdsDie ds || s.log.stripes.any (fun t => t.writer == 7 && t.closed && (s.stripeDies t).contains ds)

/-- The read of a page reaches its die (R185, R220): a draw suspends a log operation that has run long enough, or waits for that
point. Refill reads never suspend. -/
def State.atDie (s : State) (p ds : Nat) (refill : Bool) : State :=
  match s.log.dieOps.find? (fun e => e.1 == ds) with
  | none => s
  | some e =>
    if e.2.suspended || refill || s.neverSuspend ds then s
    else if e.2.since + 1000 * s.fget Fld.LOG_CFG.MIN_RUN_US ≤ s.now then s.suspend ds
    else
      (s.modLog (fun l => { l with dieOps := l.dieOps.map (fun x =>
        if x.1 == ds then (x.1, { x.2 with waiting := setIns p x.2.waiting }) else x) })).bump
          Fld.LOG_SUSP_CNT.MIN_RUN_WAITS Fld.LOG_SUSP_CNT.MW_SAT

/-- The first step of the restore of a page from a copy of length `len` at the dies given: parity where one of them does not
read. -/
def State.firstStep (s : State) (p len : Nat) (dies : List Nat) (refill : Bool) : State × DrawStep :=
  if len = 0 then (s, .zero)
  else if !dies.all s.dieReads then (s, .rebuild)
  else (dies.foldl (fun s ds => s.atDie p ds refill) s, .queued)

/-- The domains of a flash channel are ON; an operation queued for it waits until they are (R402). -/
def State.chAwake (s : State) (c : Nat) : Bool := (s.dom (28 + 2 * c)).mode == 0 && (s.dom (29 + 2 * c)).mode == 0

/-- A die can take a read: its channel is awake, it reads nothing, and it is free or, for a draw, suspended. -/
def State.dieOpen (s : State) (refill : Bool) (ds : Nat) : Bool :=
  s.chAwake (ds / 32) && !s.holdsDie ds && !(s.rfl_.draws.any (fun d => d.atDie ds && d.step == .reading)) &&
  (match s.log.dieOps.find? (fun e => e.1 == ds) with
   | none => true
   | some e => e.2.suspended && !refill)

/-- The next read at a die (R185): the draw that came first, else every refill read of the unit that came first. The two reads of a
split form are issued together, once both dies can take them (R202). -/
def State.nextRead (s : State) (ds : Nat) : State :=
  let here := s.rfl_.draws.filter (fun d => d.atDie ds)
  if !s.dieOpen false ds then s
  else match here.find? (fun d => d.step == .queued && !d.refill) with
  | some d => if d.dies.all (s.dieOpen false) then s.modDraw d.page (fun d => { d with step := .reading }) else s
  | none =>
    match here.find? (fun d => d.step == .queued && d.dies.all (s.dieOpen true)) with
    | some d => (here.filter (fun x => x.step == .queued && keyUnit x.from_ == keyUnit d.from_ && x.dies.all (s.dieOpen true))).foldl
        (fun s x => s.modDraw x.page (fun x => { x with step := .reading })) s
    | none => s

/-- A page is to be read back: it becomes DRAWING and takes a page-operation entry (R181, R185). -/
def State.issue (s : State) (p : Nat) (refill : Bool) : State :=
  let r := s.page p
  let also := if r.len = 0 then none else s.secondDie r.loc
  let x := s.firstStep p r.len (keyDs r.loc :: also.toList) refill
  let t := s.now
  let s := (x.1.setPage p { r with st := .drawing }).modRfl (fun f =>
    { f with draws := f.draws ++ [Draw.mk p refill x.2 t false r.loc also] })
  if refill then s else s.wrap Fld.RFL_DRAW_CNT.DRAWS Fld.RFL_DRAW_CNT.OVF

/-- A host access to an UNFILLED page (R185): `false` when every page-operation entry is in use. -/
def State.startDraw (s : State) (p : Nat) : State × Bool :=
  if s.opFree then
    let s := s.issue p false
    (((s.drawOf p).map Draw.dies).getD [] |>.foldl (fun s ds => s.nextRead ds) s, true)
  else (s, false)

/-- A request joins the read under way (R186); a refill read not yet issued to its die is promoted to a draw. RFL_DRAW_LAT counts
a promoted read from its issue by refill, and a page of the zero-fill pass is promoted too (DESIGN CHOICE, log entry 108). -/
def State.joinDraw (s : State) (p : Nat) : State :=
  match s.drawOf p with
  | some d =>
    if d.refill && (d.step == .queued || d.step == .zero) then
      let s := if d.step == .zero then s else d.dies.foldl (fun s ds => s.atDie p ds false) s
      let s := s.modRfl (fun r => { r with draws := r.draws.filter (fun x => x.page != p) ++ [{ d with refill := false }] })
      (d.dies.foldl (fun s ds => s.nextRead ds) s).wrap Fld.RFL_DRAW_CNT.DRAWS Fld.RFL_DRAW_CNT.OVF
    else s
  | none => s

/-- A suspended operation resumes once no draw is queued or being read at its die (R220). -/
def State.resumeDie (s : State) (ds : Nat) : State :=
  let busy := s.rfl_.draws.any (fun d => d.atDie ds && (d.step == .reading || (d.step == .queued && !d.refill)))
  let t := s.now
  if busy then s
  else s.modLog (fun l => { l with dieOps := l.dieOps.map (fun x =>
    if x.1 == ds && x.2.suspended then (x.1, { x.2 with suspended := false, since := t }) else x) })

/-- A read at a die has ended: the next one is issued, or a suspended operation resumes. -/
def State.dieFree (s : State) (ds : Nat) : State := (s.nextRead ds).resumeDie ds

/-- MIN_RUN_REACHED (R220): the operation at a die has run long enough; it is suspended and the draws that wait there are
read. -/
def State.minRun (s : State) (ds : Nat) : State :=
  match s.log.dieOps.find? (fun e => e.1 == ds) with
  | some e =>
    if !e.2.suspended && !e.2.waiting.isEmpty && decide (e.2.since + 1000 * s.fget Fld.LOG_CFG.MIN_RUN_US ≤ s.now) then
      ((s.suspend ds).modLog (fun l => { l with dieOps := l.dieOps.map (fun x =>
        if x.1 == ds then (x.1, { x.2 with waiting := [] }) else x) })).nextRead ds
    else s
  | none => s

/-- Reads at a die that no longer answers go to parity (R188). -/
def State.drawsToParity (s : State) (ds : Nat) : State :=
  s.rfl_.draws.foldl (fun s d =>
    if (d.step == .queued || d.step == .reading) && d.atDie ds then
      s.modDraw d.page (fun d => { d with step := .rebuild })
    else s) s

/-- An operation at a die has ended, or the die has left service: the reads queued there are issued, wait for the operation that
follows, or go to parity. -/
def State.releaseDie (s : State) (ds : Nat) : State :=
  if !s.dieReads ds then s.drawsToParity ds
  else if s.log.dieOps.any (fun e => e.1 == ds) then
    (s.rfl_.draws.filter (fun d => d.atDie ds && d.step == .queued && !d.refill)).foldl (fun s d => s.atDie d.page ds false) s
  else s.nextRead ds

/-! ## Fork copies (R134) -/

/-- A fork copy begins: its page's lines are read on the urgent port (Table 10-4). -/
def State.forkStart (s : State) (p i : Nat) : State := (s.forkBegin p i).queuePage p (p * 64) false true
/-- A fork copy goes: its slot is given back and its reads leave. -/
def State.forkGone (s : State) (p i : Nat) : State := (s.forkDrop i).dropReqs (DReq.readsFor (p * 64) urgentPort)
/-- A fork copy ends: its reads have come back and its slot's lines are written. -/
def State.forkEnd (s : State) (p i : Nat) : State :=
  ((s.pageRead (p * 64) urgentPort).queuePage p (s.slotLine i) true true).forkDone i

/-! ## Ending -/

/-- A draw ends and gives its page operation back; the time of a draw goes into RFL_DRAW_LAT. -/
def State.endDraw (s : State) (p : Nat) : State :=
  match s.drawOf p with
  | some d =>
    let us := (s.now - d.since) / 1000
    let s := s.modRfl (fun r => { r with draws := r.draws.filter (fun x => x.page != p) })
    let s := if d.refill then s
      else (s.fsat Fld.RFL_DRAW_LAT.LAST_US us).fsat Fld.RFL_DRAW_LAT.MAX_US (max us (s.fget Fld.RFL_DRAW_LAT.MAX_US))
    d.dies.foldl (fun s ds => s.dieFree ds) s
  | none => s

/-- The page is restored (R181, R188): every line written from the plaintext of its stored form, or zeros for LENGTH 0, on the urgent port
for a draw and the background port for refill (R182, R183, R185); it becomes CLEAN. -/
def State.restorePage (s : State) (p : Nat) : State :=
  let r := s.page p
  let s := s.queuePage p (p * 64) true ((s.drawOf p).any (fun d => !d.refill))
  let s := if r.len = 0 then s.zeroPage p else s.restore p (s.plain (s.formAt r.loc))
  (s.endDraw p).setPage p { r with st := .clean }

/-- A count of 32 bits saturates (R38). -/
def sat32 (n : Nat) : Nat := min n (2 ^ 32 - 1)

/-- The start has found a loss of an LD: its dirty shutdown count and the device's rise, each once a start (R39). -/
def State.noteLoss (s : State) (n : Nat) : State :=
  let s := if (s.ld n).dscUp then s else s.modLd n (fun l => { l with
    dsc := sat32 (l.dsc + 1)
    dscUp := true })
  if s.fab.dscUp then s else s.modFab (fun x => { x with
    devDsc := sat32 (x.devDsc + 1)
    dscUp := true })

/-- The page cannot be rebuilt (R188): POISONED, in the poison list, FLASH_LOST sent, RFL_ERR counted, and where it is one that a
start mapped its LD's dirty shutdown count notes it (R39). -/
def State.lostPage (s : State) (p : Nat) : State :=
  let r := s.page p
  let s := (s.endDraw p).markPoisoned p
  let s := (s.bump Fld.RFL_ERR.POISONED Fld.RFL_ERR.PZ_SAT).fault (srcOf (40 + keyDs r.loc / 32) 6) 0x3B p
  let s := if (s.ld r.ld).fromStart then s.noteLoss r.ld else s
  forUpto 64 (fun i s => s.setPoison (p * 64 + i) true) s

/-! ## The refill sequencer (R182) -/

/-- LDs the sequencer works through, in the order of R182, as groups of one rank: LDs open to hosts by PRIO, then held LDs
returned to service, then QUIESCED LDs restoring. -/
def State.refillRank (s : State) (n : Nat) : Option Nat :=
  let l := s.ld n
  if s.unfilled n = 0 || l.held then none
  else match l.st with
    | .refilling => some (if l.returned then 1000 else s.fget (Fld.WEIR_LD_CFG.PRIO n))
    | .quiesced => if l.restoring then some 2000 else none
    | _ => none

/-- The group whose pages are restored now: the LDs of lowest rank. -/
def State.refillGroup (s : State) : List Nat :=
  let rs := allLds.filterMap s.refillRank
  match rs with
  | [] => []
  | a :: l => let m := l.foldl min a
              allLds.filter (fun n => s.refillRank n == some m)

/-- UNFILLED pages of the group with a stored copy, listed. -/
def State.refillPages (s : State) (g : List Nat) : List (Nat × PageRec) :=
  s.pages.filter (fun e => e.2.st == .unfilled && e.2.len != 0 && g.contains e.2.ld)

/-- The next page of the zero-fill pass: the lowest UNFILLED page of the group with LENGTH 0. -/
def State.nextZero (s : State) (g : List Nat) : Option Nat :=
  let listed := (s.pages.filter (fun e => e.2.st == .unfilled && e.2.len == 0 && g.contains e.2.ld)).map (·.1)
  let free := g.filterMap (fun n =>
    let l := s.ld n
    if l.dflt = 1 then
      let b := l.extBase * extPages
      (List.range ((s.pagesOf n).length + 1)).findSome? (fun i =>
        if decide (i < l.extSize * extPages) && !(s.pages.any (fun e => e.1 == b + i)) then some (b + i) else none)
    else none)
  match listed ++ free with
  | [] => none
  | a :: l => some (l.foldl min a)

/-- The lowest program unit of a die stream that holds an UNFILLED page of the group. -/
def lowUnit (ps : List (Nat × PageRec)) : Option Nat :=
  match ps.map (fun e => keyUnit e.2.loc) with
  | [] => none
  | a :: l => some (l.foldl min a)

/-- Refill reads in flight. -/
def State.refillOps (s : State) : Nat := (s.rfl_.draws.filter (fun d => d.refill)).length

/-- Refill may take one more page-operation entry (Table 07-2). -/
def State.refillFree (s : State) : Bool := s.opFree && decide (s.refillOps < 256 * s.fget Fld.RFL_CFG.REFILL_OPS)

/-- One die stream's next read: every UNFILLED page of the group in its next program unit, LDs in ascending number (R182). -/
def State.refillDie (s : State) (g : List Nat) (ds : Nat) : State :=
  let busy := s.rfl_.draws.any (fun d => d.refill && d.step != .zero && d.atDie ds)
  if busy then s
  else
    let ps := (s.refillPages g).filter (fun e => keyDs e.2.loc == ds)
    match lowUnit ps with
    | some u => ((sortBy (fun e => e.2.ld) (ps.filter (fun e => keyUnit e.2.loc == u))).foldl (fun s e =>
        if s.refillFree then s.issue e.1 true else s) s).nextRead ds
    | none => s

/-- The sequencer issues what it may: one read at every die stream that has none, and one page of the zero-fill pass
(R182, R183); it stops while the sluice is closed. -/
def State.refill (s : State) : State :=
  if !s.isOpen then s
  else
    let g := s.refillGroup
    if g.isEmpty then s
    else
      let dies := ((s.refillPages g).map (fun e => keyDs e.2.loc)).dedup
      let s := dies.foldl (fun s ds => s.refillDie g ds) s
      if s.rfl_.draws.any (fun d => d.refill && d.step == .zero) then s
      else match s.nextZero g with
        | some p => if s.refillFree then s.issue p true else s
        | none => s

end Sys2Proof.Machine
end

