-- ==== Sys2Proof/Machine/RingRun.lean ====
section
/-! DEFINITION. Ring commands that run on (R139, R313, R318, R319, R323): PERSIST_RANGE, ROLLBACK_TO, ZERO_RANGE, SANITIZE_LD
and FENCE, each moved on as far as it can go whenever something it waits for may have come. -/

namespace Sys2Proof.Machine

/-! ## PERSIST_RANGE and FENCE -/

/-- A page of a PERSIST_RANGE set is done by its state (R313): CLEAN, POISONED, or its record replaced. -/
def State.persistDone (s : State) (p : Nat) : Bool :=
  match (s.page p).st with
  | .dirty | .cleaning | .forked => false
  | _ => true

/-- A copy of page `p` taken after acceptance number `ord` is on its way to flash. -/
def State.copyUnderway (s : State) (p ord : Nat) : Bool :=
  let mine := fun (i : Item) => i.form.page == p && i.form.kind == 1 && i.src.isNone && decide (ord ≤ i.stamp)
  s.rill.sel.any mine || s.log.stripes.any (fun t => t.items.any mine)

/-- PERSIST_RANGE completes when its pages are done; a page of its set that the rill has not selected becomes a directed
clean (R313). -/
def State.persistRun (s : State) (ld n : Nat) (a : Acc) : State :=
  let left := a.pages.filter (fun p => !s.persistDone p)
  let more := left.filter (fun p => (s.page p).st != .cleaning && !s.rill.directed.contains p && !s.copyUnderway p a.servedFrom)
  if left.isEmpty then s.finish ld n a.order 0 0 a.count
  else (s.modAcc ld n a.order (fun x => { x with pages := left, count := x.count + more.length })).modRill (fun x =>
    { x with directed := more.foldl (fun l p => setIns p l) x.directed })

/-- FENCE completes when every descriptor of its LD accepted before it has completed (R323). -/
def State.fenceRun (s : State) (ld n : Nat) (a : Acc) : State :=
  if (s.rings.filter (fun e => e.1 / 256 == ld)).all (fun e =>
      e.2.accs.all (fun b => b.st == .done || decide (a.order ≤ b.order))) then s.finish ld n a.order 0 0 0
  else s

/-! ## An LD's records replaced (R139 step 3, R319 step 4) -/

/-- A copy of LD `n` in flight serves nothing any more. -/
def Item.void (n : Nat) (i : Item) : Item :=
  if i.form.ld == n && (i.form.kind == 1 || i.form.kind == 2) && i.src.isNone then
    { i with stale := true, slot := none, cuts := [] }
  else i

/-- What was under way for an LD's pages ends: copies in flight, draws and refill reads, and fork copies. -/
def State.dropWork (s : State) (n : Nat) : State :=
  let s := (s.modRill (fun x => { x with
    sel := x.sel.map (Item.void n)
    directed := x.directed.filter (fun p => (s.page p).ld != n) })).modLog (fun x =>
      { x with stripes := x.stripes.map (fun t => { t with items := t.items.map (Item.void n) }) })
  let gone := s.rfl_.draws.filter (fun d => (s.page d.page).ld == n)
  let s := s.modRfl (fun r => { r with draws := r.draws.filter (fun d => !gone.contains d) })
  let ids := gone.map (fun d => d.page)
  let s := s.modLog (fun l => { l with dieOps := l.dieOps.map (fun e =>
    (e.1, { e.2 with waiting := e.2.waiting.filter (fun p => !ids.contains p) })) })
  (gone.flatMap Draw.dies).dedup.foldl (fun s ds => s.dieFree ds) s

/-- The record a checkpoint gives one of its pages (R139): none for a page stored with length 0. -/
def State.rolledRec (s : State) (n : Nat) (r : PageRec) : Option PageRec :=
  let tag := (s.ld n).cutSeq % 65536
  match r.st with
  | .poisoned => some { r with st := .poisoned, tag := tag }
  | _ => if r.len = 0 then none else some { r with st := .unfilled, tag := tag }

/-- Every page record of LD `n` takes checkpoint `c`'s content (R139 step 3); the second part counts the pages made
UNFILLED. -/
def State.rollRecs (s : State) (n : Nat) (c : Ckpt) : State × Nat :=
  let s := ((s.dropWork n).clearPages n (if c.dflt = 2 then 2 else 0)).wipeExtent n false
  let new := c.recs.filterMap (fun e => (s.rolledRec n e.2).map (fun r => (e.1, r)))
  let zero := (c.recs.filter (fun e => (s.rolledRec n e.2).isNone)).map (·.1)
  let s := new.foldl (fun s e => s.setPage e.1 e.2) s
  let s := if c.dflt = 2 then zero.foldl (fun s p => s.setPage p (PageRec.mk .clean n 0 0 0 0)) s else s
  let s := (new.filter (fun e => e.2.st == .poisoned)).foldl (fun s e => s.markPoisoned e.1) s
  (s.modLd n (fun l => { l with owed := 0 }), (new.filter (fun e => e.2.st == .unfilled)).length)

/-- The LD's UNFILLED pages are restored behind every LD that serves (R182, R192). -/
def State.restores (s : State) (n : Nat) : State :=
  let b := decide (0 < s.unfilled n)
  s.modLd n (fun l => { l with restoring := b })

/-! ## ROLLBACK_TO (R139) -/

/-- The target of a rollback: a complete, unreleased checkpoint of the LD, the newest of that identifier (log entry 99). -/
def State.rollTarget (s : State) (n id : Nat) : Option Ckpt := (s.ld n).done.reverse.find? (fun c => c.id == id)

/-- Steps 2 to 4 (R139). -/
def State.rollRun (s : State) (ld n : Nat) (a : Acc) : State :=
  let id := a.desc.arg0.toNat
  if !(s.ld ld).pending.isEmpty then s
  else
    let aim := ((s.ld ld).rollback.bind (fun no => (s.ld ld).ckptNo? no)).filter (·.complete)
    let s := s.modLd ld (fun l => { l with rollback := none })
    match aim with
    | none => s.finish ld n a.order 3 0 0
    | some c =>
      let x := s.rollRecs ld c
      let s := x.1.journal 4 x.1.newestGen [(0x20, ld), (0x24, id), (0x28, n), (0x30, a.desc.tag.toNat)]
      ((s.restores ld).showSlots).finish ld n a.order 0 0 x.2

/-! ## SANITIZE_LD (R319) -/

/-- Step 1: a new data key. Step 2 begins: the configuration region is due to be written. -/
def State.newKey (s : State) (n : Nat) : State :=
  let t := s.now
  let g := s.spill.usedGen
  { s.modLd n (fun l => { l with keyGen := l.keyGen + 1, saniGen := some g }) with cfgDue := some (s.cfgDue.getD t) }

/-- Steps 3 and 4 (R319, R190): retained checkpoints go, and every page takes the start policy. -/
def State.sanitizePages (s : State) (n : Nat) : State :=
  let s := ((s.modLd n (fun l => { l with ckpts := [] })).showCkpts n).dropWork n
  let bad := s.on (Fld.RFL_LD_CFG.START_POLICY n)
  let s := if s.cls n == 2 then (s.clearPages n 3).wipeExtent n bad
    else if bad then s.clearPages n 2 else s.clearPages n 1
  s.restores n

/-- SANITIZE_LD ends once the configuration region has been written twice. -/
def State.sanitizeRun (s : State) (ld n : Nat) (a : Acc) : State :=
  if a.step < 3 then s else (s.sanitizePages ld).finish ld n a.order 0 0 ((s.ld ld).keyGen % 256)

/-! ## ZERO_RANGE (R318, R126) -/

/-- A zero write of ZERO_RANGE can raise the owed count at this page (R124): of a PERSISTENT LD, unless the page is owed
already and to no cut. -/
def State.canRaise (s : State) (n p : Nat) : Bool :=
  s.cls n == 0 &&
  (match (s.page p).st with
   | .clean | .poisoned | .unfilled | .drawing => true
   | .volatile => false
   | _ => s.owedPage p)

/-- Pages of a range its writes can raise. -/
def State.raiseCount (s : State) (n lo hi : Nat) : Nat :=
  if s.cls n != 0 then 0
  else
    let ps := s.pages.filter (fun e => decide (lo ≤ e.1) && decide (e.1 < hi))
    hi - lo - ps.length + (ps.filter (fun e => s.canRaise n e.1)).length

/-- The room of a ZERO_RANGE that waits since `t` is not there (R126), or writes of its LD held before it come first (R125). -/
def State.zeroHolds (s : State) (n k t : Nat) : Bool := s.mustHold n k none || s.heldAhead n (2 ^ 64) (t + 1) 0

/-- Room is reserved, and the writes may begin. -/
def State.zeroReserve (s : State) (ld n ord k : Nat) : State :=
  (s.modLd ld (fun l => { l with resv := l.resv + k })).modAcc ld n ord (fun x => { x with
    resv := k
    step := 1
    since := none })

/-- One page of the reservation is used. -/
def State.useResv (s : State) (ld n ord : Nat) : State :=
  (s.modLd ld (fun l => { l with resv := l.resv - 1 })).modAcc ld n ord (fun x => { x with resv := x.resv - 1 })

/-- Lines of page `p` that a byte range covers, by line number. -/
def zeroLines (base off len p : Nat) : List Nat :=
  let lo := max (base + off) (p * pageBytes)
  let hi := min (base + off + len) ((p + 1) * pageBytes)
  (List.range ((hi - lo) / lineBytes)).map (fun i => lo / lineBytes + i)

/-- The write-merge buffers have room for every line. -/
def State.wmbRoomAll (s : State) (ls : List Nat) : Bool :=
  ls.all (fun l =>
    let c := s.lineChan l
    decide ((s.chan c).wmb.length + (s.chan c).fills + (ls.filter (fun k => s.lineChan k == c && !s.inWmb k)).length ≤ 512))

/-- A line write of the descriptor begins to wait at a page, for room (kind 0, R125) or for a slot (kind 1, R127): counted
once. -/
def State.waitAt (s : State) (ld n : Nat) (a : Acc) (p kind : Nat) : State :=
  if a.waits.any (fun w => w.1 == p && w.2.1 == kind) then s
  else
    let t := s.now
    (if kind = 0 then s.bump (Fld.WEIR_LD_CNTA.WAITS ld) (Fld.WEIR_LD_CNTA.SAT ld)
      else s.bump Fld.EDDY_STALL.STALLS Fld.EDDY_STALL.ST_SAT).modAcc ld n a.order (fun x => { x with
        waits := x.waits ++ [(p, kind, t + 1)] })

/-- What the descriptor waited for at a page is there. -/
def State.waitOver (s : State) (ld n ord p : Nat) : State :=
  s.modAcc ld n ord (fun x => { x with waits := x.waits.filter (fun w => w.1 != p) })

/-- Usable bytes of a port per beat (Table 11-2): raw × 121 ÷ 128 with 256-byte flits, raw × 128/130 × 64/68 with 68-byte
flits (log entry 7). -/
def State.portBeatBytes (s : State) (p : Nat) : Nat :=
  let rate := 64 / 2 ^ s.fget (Fld.FAB_PORT_STS.RATE p)
  let raw := s.fget (Fld.FAB_PORT_STS.WIDTH p) * rate * 1024
  if s.on (Fld.FAB_PORT_STS.FLIT256 p) then raw * 121 / 128 else raw * 128 * 64 / (130 * 68)

/-- Lines that an LD may still admit at step 5 in this beat, out of `k` (R288): none past a host request that waits there. -/
def State.linesAdmitted (s : State) (n k : Nat) : Nat :=
  let lim := s.fget (Fld.SLU_LD_PCFG.BW_LIMIT n)
  let l := s.ld n
  if lim = 0 then k
  else if s.fab.reqs.any (fun q => q.ld == n && q.at_ == .bandwidth) then 0
  else min k ((lim * s.portBeatBytes l.port / 256 - l.bwUsed) / 64)

/-- Step 5 for the line writes of a descriptor at a page (R318, R288): `adm` lines have passed it, of `all`. Those it admits now are
charged; where some still wait the LD has waited at step 5 (R289). -/
def State.zeroStep5 (s : State) (ld n ord p adm wr all : Nat) : State × Nat :=
  let k := s.linesAdmitted ld (all - adm)
  let w := decide (adm + k < all)
  let s := if k = 0 then s
    else (s.modLd ld (fun l => { l with bwUsed := l.bwUsed + 64 * k })).modAcc ld n ord (fun x => { x with
      lines := tabIns p (adm + k, wr) (tabDel p x.lines) })
  (if w then s.modLd ld (fun l => { l with waited5 := true }) else s, adm + k)

/-- The zero writes at one page, through steps 4 to 7 of Table 11-3; the second part says whether the last of them was made. -/
def State.zeroPageRun (s : State) (ld n : Nat) (a : Acc) (p : Nat) : State × Bool :=
  let all := zeroLines ((s.ld ld).extBase * extUnit) a.desc.arg0.toNat a.desc.arg1.toNat p
  let was := tabGet (0, 0) p a.lines
  let behind := s.fab.reqs.any (fun q => q.dpa / 4096 == p && q.at_ != .ingress)
  let x := if behind then (s, was.1) else s.zeroStep5 ld n a.order p was.1 was.2 all.length
  let s := x.1
  let ls := (all.drop was.2).take (x.2 - was.2)
  if behind || ls.isEmpty then (s, false)
  else match (s.page p).st with
  | .unfilled => ((s.startDraw p).1, false)
  | .drawing => (s.joinDraw p, false)
  | _ =>
    let up := s.raises p
    let since := fun (kind : Nat) => ((a.waits.find? (fun w => w.1 == p && w.2.1 == kind)).map (·.2.2)).getD (s.now + 1)
    if up && (s.deficit || (a.resv = 0 && (s.noRoom ld 1 (some p) || s.heldAhead ld p (since 0) 0))) then
      (s.waitAt ld n a p 0, false)
    else if s.owedPage p then
      if (s.forkSlot p).isSome then (s, false)
      else match (if s.slotAhead p (since 1) 0 then none else s.freeSlot) with
        | some i =>
          if s.opFree then
            let s := (s.forkStart p i).waitOver ld n a.order p
            (if up && a.resv != 0 then s.useResv ld n a.order else s, false)
          else (s, false)
        | none => (s.waitAt ld n a p 1, false)
    else if !s.wmbRoomAll ls then (s, false)
    else
      let s := if up && a.resv != 0 then s.useResv ld n a.order else s
      let s := s.keepLost p
      let s := ls.foldl (fun s l => ((s.enterWmb l (s.ld ld).port (s.on (Fld.SLU_LD_PCFG.HINT ld))).writeBytes (l * 64) 0 (BitVec.allOnes 64)).setPoison l false) s
      let s := s.modAcc ld n a.order (fun y => { y with lines := tabIns p (x.2, x.2) (tabDel p y.lines) })
      ((s.pageWritten p).waitOver ld n a.order p, decide (all.length ≤ x.2))

/-- The pages still to be zeroed, each as far as it goes. -/
def State.zeroPages (s : State) (ld n ord : Nat) : List Nat → State
  | [] => s
  | p :: rest =>
    match s.acc? ld n ord with
    | none => s
    | some a =>
      let x := s.zeroPageRun ld n a p
      let s := if x.2 then x.1.modAcc ld n ord (fun y => { y with
          pages := y.pages.filter (· ≠ p)
          lines := tabDel p y.lines
          count := y.count + 1 })
        else x.1
      s.zeroPages ld n ord rest

/-- A ZERO_RANGE has written: every later PERSIST_RANGE of its ring that overlaps it covers these writes too (R322), so that only
copies taken from now on serve it. -/
def State.coveredBy (s : State) (ld n : Nat) (z : Acc) : State :=
  let k := s.accSeq + 1
  ({ s with accSeq := k } : State).modRing ld n (fun r => { r with accs := r.accs.map (fun b =>
    if b.desc.opcode.toNat == 1 && decide (z.order < b.order) && s.overlap ld z.desc b.desc then { b with step := k } else b) })

/-- ZERO_RANGE moves on: it takes its room when there is room, writes what it can, and completes after its last page; the
reservation it did not use goes back. -/
def State.zeroRun (s : State) (ld n : Nat) (a : Acc) : State :=
  let s : State := if a.step = 0 then
      let r := s.rangePages ld a.desc.arg0.toNat a.desc.arg1.toNat
      let k := s.raiseCount ld r.1 r.2
      if k != 0 && s.zeroHolds ld k (a.since.getD s.now) then s else s.zeroReserve ld n a.order k
    else s
  match s.acc? ld n a.order with
  | none => s
  | some a =>
    if a.step = 0 then s
    else
      let s := s.zeroPages ld n a.order a.pages
      match s.acc? ld n a.order with
      | none => s
      | some a =>
        if a.pages.isEmpty then
          ((s.modLd ld (fun l => { l with resv := l.resv - a.resv })).coveredBy ld n a).finish ld n a.order 0 0 a.count
        else s

/-! ## Moving on -/

/-- A running descriptor moves on as far as it can. -/
def State.advance (s : State) (ld n : Nat) (a : Acc) : State :=
  if a.st != .running then s
  else match a.desc.opcode.toNat with
  | 1 => s.persistRun ld n a
  | 4 => s.rollRun ld n a
  | 6 => if s.isOpen then s.zeroRun ld n a else s
  | 7 => s.sanitizeRun ld n a
  | 8 => s.fenceRun ld n a
  | _ => s

/-- Every running descriptor of the device moves on, FENCEs after the others. -/
def State.kickOnly (s : State) (fences : Bool) : State :=
  (s.rings.flatMap (fun e => (e.2.accs.filter (fun a => (a.desc.opcode.toNat == 8) == fences)).map
    (fun a => (e.1, a.order)))).foldl (fun s k =>
      match s.acc? (k.1 / 256) (k.1 % 256) k.2 with
      | some a => s.advance (k.1 / 256) (k.1 % 256) a
      | none => s) s
/-- Every running descriptor moves on, and what follows from the owed counts that its writes change (R117, R120). -/
def State.kick (s : State) : State := ((s.kickOnly false).kickOnly true).showWeir

/-- PERSIST_RANGE (R313). -/
def execPersistRange (dt ld ring sqIndex : Nat) (s : State) : Host.Outcome State Fault Refusal :=
  .next (((s.elapse dt).runOp ld ring sqIndex 1 (persistBegin ld ring)).kick)

/-- FENCE (R323). -/
def execFence (dt ld ring sqIndex : Nat) (s : State) : Host.Outcome State Fault Refusal :=
  .next (((s.elapse dt).runOp ld ring sqIndex 8 (fun _ s => s)).kick)

end Sys2Proof.Machine
end

