-- ==== Sys2Proof/Machine/Sluice.lean ====
section
/-! DEFINITION. The sluice (R284 to R291): tracker entries, the steps of Table 11-3, holds and their ends, and the ends of
draws. -/

namespace Sys2Proof.Machine

/-! ## Load (R289) -/

/-- Entries a port holds: requests past step 1. -/
def State.trkUsed (s : State) (p : Nat) : Nat :=
  (s.fab.reqs.filter (fun r => r.port == p && r.at_ != .ingress)).length
/-- Entries an LD holds. -/
def State.trkLd (s : State) (n : Nat) : Nat := (s.fab.reqs.filter (fun r => r.ld == n && r.port != 2 && r.at_ != .ingress)).length
/-- A request waits at step 6. -/
def Step.isSix : Step → Bool
  | .draw | .weir _ | .fork | .slot _ | .pool => true
  | _ => false
/-- SLU_TRK_STS shows the entries. -/
def State.showTrk (s : State) : State :=
  let s := (s.fsat Fld.SLU_TRK_STS.USED0 (s.trkUsed 0)).fsat Fld.SLU_TRK_STS.USED1 (s.trkUsed 1)
  s.fsat Fld.SLU_TRK_STS.HELD (s.fab.reqs.filter (fun r => r.at_.isSix)).length

/-- DEVLOAD_UPDATE (R289): a port's traffic DevLoad from the share of its maximum entries in use. -/
def State.trafficLoad (s : State) (p : Nat) : Nat :=
  let used := 100 * s.trkUsed p
  let m := 8192 - s.fget Fld.SLU_TRK_CFG.PORT_RESV
  if s.fget Fld.FAB_DEVLOAD_CFG.LOAD_SEV * m ≤ used then 3
  else if s.fget Fld.FAB_DEVLOAD_CFG.LOAD_MOD * m ≤ used then 2
  else if s.fget Fld.FAB_DEVLOAD_CFG.LOAD_OPT * m ≤ used then 1
  else 0

/-- What a response says of the two metadata bits, which the KX7180 does not store (Table 11-1). -/
inductive MetaField where
  | noOp
  deriving DecidableEq, Repr

/-- The MetaField of every NDR and DRS is No-Op (R274). -/
def Out.metaField : Out → Option MetaField
  | .ndr .. => some .noOp
  | .drs .. => some .noOp
  | _ => none

/-- The DevLoad of a response to an LD: the higher of the port's traffic load, Moderate Overload when its requests waited
at step 5 in the last beat, and its ladder contribution. A request that names no LD has the port's alone. -/
def State.devLoadOf (s : State) (p n : Nat) : Nat :=
  max (tabGet 0 p s.fab.devLoad) (max (if (s.ld n).waited5L then 2 else 0) (if n < 32 then ladderLoad (s.level n) else 0))

/-! ## Answers -/

/-- A request leaves the sluice; its tracker entry frees (R287). -/
def State.dropReq (s : State) (rid : Nat) : State :=
  s.modFab (fun f => { f with
    reqs := f.reqs.filter (fun r => r.rid != rid)
    granted := f.granted.filter (· ≠ rid) })
/-- A request moves to a step. -/
def State.setAt (s : State) (rid : Nat) (st : Step) : State :=
  s.modFab (fun f => { f with reqs := f.reqs.map (fun r => if r.rid == rid then { r with at_ := st } else r) })

/-- The port number of a line write that a mailbox asked for (Inject and Clear Poison): its tag is the mailbox key. -/
def mboxPort : Nat := 2
/-- The mailbox of a key. -/
def mboxOf (k : Nat) : Mbox := if k = fmLd then .fm else .tenant k
/-- NDR Cmp with DevLoad; a mailbox's line write answers its command. -/
def State.ndr (s : State) (r : Req) : State :=
  (s.dropReq r.rid).emit (if r.port = mboxPort then .mbox (mboxOf r.tag) 0 [] else .ndr r.port r.tag (s.devLoadOf r.port r.ld))
/-- DRS with data, or with poison. -/
def State.drs (s : State) (r : Req) (d : Option Line) : State :=
  (s.dropReq r.rid).emit (.drs r.port r.tag d (s.devLoadOf r.port r.ld))

/-- The data a read of a line returns, none for poison (R290). -/
def State.lineData (s : State) (line : Nat) : Option Line :=
  if (s.page (line / 64)).st == .poisoned || s.linePoison line then none else some (s.readLine (line * 64))

/-- The port and page-policy hint of a request (R243, R245): its LD's; a mailbox's line write is the housekeeper's. -/
def State.reqHint (s : State) (r : Req) : Nat × Bool :=
  if r.port = mboxPort then (hkPort, true) else (r.port, s.on (Fld.SLU_LD_PCFG.HINT r.ld))

/-- WRITE_ACCEPTED (R12, R15, R247): the write is in the write-merge buffer, page state and owed count have changed and
the completion goes out. Poison is stored with the line, until an accepted write overwrites the whole line. -/
def State.acceptWrite (s : State) (r : Req) : State :=
  let line := r.dpa / 64
  let h := s.reqHint r
  let s := ((s.keepLost (r.dpa / 4096)).enterWmb line h.1 h.2).writeBytes (line * 64) r.data r.mask
  let s := if r.poison then s.setPoison line true
    else if r.mask == BitVec.allOnes 64 then (s.setPoison line false).modFab (fun f => { f with found := setDel line f.found }) else s
  (s.pageWritten (r.dpa / 4096)).ndr r

/-! ## Steps 7 and 8 -/

/-- Step 7: a write enters the write-merge buffer, a partial one after its line is read; a read is served from the buffer
or from DRAM, behind its write where that still waits in the write queue (R247, R248, R251). -/
def State.step7 (s : State) (r : Req) : State :=
  let line := r.dpa / 64
  let h := s.reqHint r
  match r.kind with
  | .write =>
    if s.inWmb line then s.acceptWrite r
    else if !s.wmbRoom line then s.setAt r.rid .wmb
    else if r.mask == BitVec.allOnes 64 then s.acceptWrite r
    else (s.queueRead (.fill r.rid) line h.1 h.2).setAt r.rid .merge
  | .read =>
    if (s.page (r.dpa / 4096)).st == .poisoned then s.drs r none
    else if s.inWmb line then s.drs r (s.lineData line)
    else (s.queueRead (.read r.rid) line h.1 h.2).setAt r.rid .dram

/-! ## Step 6: page state, ladder, fork (R125, R127, R134, R185 to R187) -/

/-- A page not in DRAM: the request issues a draw or joins the one under way. -/
def State.needPage (s : State) (r : Req) : State :=
  let p := r.dpa / 4096
  match (s.page p).st with
  | .unfilled =>
    let x := s.startDraw p
    if x.2 then x.1.setAt r.rid .draw else s.setAt r.rid .pool
  | _ => (s.joinDraw p).setAt r.rid .draw

/-- A fork before it waits for a slot (R140). -/
def State.slotBehind (s : State) (r : Req) : Bool :=
  s.slotAhead (r.dpa / 4096) (match r.at_ with | .slot t => t | _ => s.now + 1) r.rid

/-- PAGE_FORK (R134): an owed page forks before the write; with no free slot, or earlier forks waiting for one, the write is held
(R127, R140). -/
def State.needFork (s : State) (r : Req) : State :=
  let p := r.dpa / 4096
  if s.owedPage p then
    match (if s.slotBehind r then none else s.freeSlot) with
    | some i => if s.opFree then (s.forkStart p i).setAt r.rid .fork else s.setAt r.rid .pool
    | none => (s.bump Fld.EDDY_STALL.STALLS Fld.EDDY_STALL.ST_SAT).setAt r.rid (.slot (s.now + 1))
  else s.step7 r

/-- An earlier write of the LD is held (R125); one past the ladder is not held behind others again. -/
def State.heldBehind (s : State) (r : Req) : Bool :=
  match r.at_ with
  | .wmb | .merge => false
  | .weir t | .slot t => s.heldAhead r.ld (r.dpa / 4096) t r.rid
  | _ => s.heldAhead r.ld (r.dpa / 4096) (s.now + 1) r.rid

/-- The write must wait at the ladder (R125): it raises the owed count, and the device is in deficit (R120); or it finds no room or
earlier writes held, and its bound has not let it pass. -/
def State.held (s : State) (r : Req) : Bool :=
  s.raises (r.dpa / 4096) && (s.deficit ||
    ((s.noRoom r.ld 1 (some (r.dpa / 4096)) || s.heldBehind r) && !s.fab.granted.contains r.rid))

/-- The page-state check; WEIR_HOLD (R125) when a write must wait at the ladder. -/
def State.step6 (s : State) (r : Req) : State :=
  let p := r.dpa / 4096
  match (s.page p).st with
  | .unfilled | .drawing => s.needPage r
  | _ =>
    match r.kind with
    | .read => s.step7 r
    | .write =>
      if s.held r then
        (s.bump (Fld.WEIR_LD_CNTA.WAITS r.ld) (Fld.WEIR_LD_CNTA.SAT r.ld)).setAt r.rid (.weir (s.now + 1))
      else s.needFork r

/-! ## Steps 1 to 5 -/

/-- Step 5 (R288): admission under the LD's bandwidth limit, measured over the beat. -/
def State.step5 (s : State) (r : Req) : State :=
  let l := s.ld r.ld
  let lim := s.fget (Fld.SLU_LD_PCFG.BW_LIMIT r.ld)
  let before := s.fab.reqs.any (fun q => q.ld == r.ld && q.at_ == .bandwidth && decide (q.rid < r.rid))
  if r.port = mboxPort then s.step6 r
  else if lim != 0 && (before || decide (lim * s.portBeatBytes r.port / 256 < l.bwUsed + 64)) then
    (s.modLd r.ld (fun l => { l with waited5 := true })).setAt r.rid .bandwidth
  else (s.modLd r.ld (fun l => { l with bwUsed := l.bwUsed + 64 })).step6 r

/-- Step 4 (R286): behind any earlier request to the same page. -/
def State.step4 (s : State) (r : Req) : State :=
  if s.fab.reqs.any (fun q => q.dpa / 4096 == r.dpa / 4096 && decide (q.rid < r.rid) && q.at_ != .ingress) then
    s.setAt r.rid .order
  else s.step5 r

/-- A read or write of a QUIESCED LD, or out of range, is counted (R284, R285). -/
def State.countOor (s : State) (n : Nat) (k : ReqKind) : State :=
  match k with
  | .read => s.bump (Fld.SLU_LD_CNTA.OOR_RD n) (Fld.SLU_LD_CNTA.RD_SAT n)
  | .write => s.bump (Fld.SLU_LD_CNTA.OOR_WR n) (Fld.SLU_LD_CNTA.WR_SAT n)

/-- A request is answered without effect: poison, or a completion. -/
def State.noEffect (s : State) (r : Req) : State :=
  match r.kind with
  | .read => s.drs r none
  | .write => s.ndr r

/-- Step 3: LD state. A quiesce under way holds (R34); QUIESCED answers without effect; SPILLING and SEALED hold. -/
def State.step3 (s : State) (r : Req) : State :=
  let l := s.ld r.ld
  if s.isCut then s.setAt r.rid .ldState
  else if r.port = mboxPort then s.step4 r
  else match l.st with
  | .quiesced => (s.countOor r.ld r.kind).noEffect r
  | .refilling | .serving => if l.quiesce.isSome then s.setAt r.rid .ldState else s.step4 r
  | _ => s.setAt r.rid .ldState

/-- The DPA a decoder yields for a host address, when it lies in its range and in this device's way of the interleave
(R283). `base` is the DPA the decoder begins at. -/
def Dec.dpa (d : Dec) (base hpa : Nat) : Option Nat :=
  if d.base ≤ hpa ∧ hpa < d.base + d.size then
    let off := hpa - d.base
    if off / d.gran % d.ways = d.way then some (base + off / (d.gran * d.ways) * d.gran + off % d.gran) else none
  else none
/-- DPA bytes a decoder takes, skip included. -/
def Dec.span (d : Dec) : Nat := d.skip + d.size / d.ways
/-- The DPA of a host address through an LD's committed decoders, in index order. -/
def findDpa (hpa : Nat) : Nat → List (Nat × Dec) → Option Nat
  | _, [] => none
  | base, e :: rest =>
    match e.2.dpa (base + e.2.skip) hpa with
    | some a => some a
    | none => findDpa hpa (base + e.2.span) rest
/-- The DPA of a host address of an LD (R283). -/
def State.decode (s : State) (n hpa : Nat) : Option Nat :=
  findDpa hpa ((s.ld n).extBase * extUnit) (s.ld n).decs
/-- The LD bound under an LD-ID on a port. -/
def State.ldAt (s : State) (p id : Nat) : Option Nat :=
  allLds.find? (fun n => s.bound n && (s.ld n).port == p && (s.ld n).ldId == id)

/-- OUT_OF_RANGE_REQUEST (R284): poison or an effectless completion, logged and counted. -/
def State.outOfRange (s : State) (r : Req) (n : Option Nat) : State :=
  let s := match n with | some n => s.countOor n r.kind | none => s
  let s := (s.fset Fld.SLU_OOR_LAST.WRITE (if r.kind == .write then 1 else 0)).fset Fld.SLU_OOR_LAST.PORT r.port
  let s := (s.fput Fld.SLU_OOR_LAST.NO_LD n.isNone).fset Fld.SLU_OOR_LAST.LD (n.getD 0)
  let s := (s.fset Fld.SLU_OOR_LAST.LD_ID r.ldId).fset Fld.SLU_OOR_LAST.HPA (r.hpa / 64 * 64)
  (s.fault (srcOf (11 + r.port) 3) 0x10 (r.hpa / 4096 % 2 ^ 40)).noEffect r

/-- Step 2: LD-ID and address. In Basin mode each port exposes only the FM-owned LD, and every request is out of range (Table
13-4). -/
def State.step2 (s : State) (r : Req) : State :=
  if r.port = mboxPort then s.step3 r
  else if s.basinLike then s.outOfRange r none
  else match s.ldAt r.port r.ldId with
  | none => s.outOfRange r none
  | some n =>
    match s.decode n r.hpa with
    | none => s.outOfRange { r with ld := n } (some n)
    | some a =>
      let r' := { r with ld := n, dpa := a }
      (s.modFab (fun f => { f with reqs := f.reqs.map (fun q => if q.rid == r.rid then { r' with at_ := .order } else q) })).step3
        r'

/-- A tracker entry may be taken (R287): the pool, the port's share and the LD's cap. -/
def State.trkFree (s : State) (p : Nat) : Bool :=
  decide (s.trkUsed 0 + s.trkUsed 1 < 8192) && decide (s.trkUsed p < 8192 - s.fget Fld.SLU_TRK_CFG.PORT_RESV)
def State.capFree (s : State) (n : Nat) : Bool := decide (s.trkLd n < s.fget Fld.SLU_TRK_CFG.LD_CAP)

/-- The number no LD has: the LD of a request whose LD-ID names none. -/
def noLd : Nat := 63

/-- The sluice takes requests: not in a start, before stage 7 opens it (R335). -/
def State.sluiceOpen (s : State) : Bool := s.isOpen || s.isCut || s.basinLike

/-- Every request that has come to wait at its LD's LD_CAP is counted, once (R287). -/
def State.countCaps (s : State) : State :=
  let at_ := fun (r : Req) => r.at_ == .ingress && r.ld != noLd && !s.capFree r.ld
  let new := s.fab.reqs.filter (fun r => at_ r && !r.capped)
  let s := s.modFab (fun f => { f with reqs := f.reqs.map (fun r => if at_ r then { r with capped := true } else r) })
  new.foldl (fun s r => s.bump (Fld.SLU_LD_CNTB.CAP_WAITS r.ld) (Fld.SLU_LD_CNTB.CW_SAT r.ld)) s

/-- Step 1 (R287): a request arrives; without an entry, or before the sluice opens, it waits in the ingress buffer of 256. With the
buffer full the port has returned no credit, so nothing arrives. -/
def State.arrive (s : State) (port ldId hpa tag : Nat) (kind : ReqKind) (data : Line) (mask : ByteMask) (poison : Bool) :
    State :=
  let here := s.fab.reqs.filter (fun r => r.port == port && r.at_ == .ingress)
  if !s.on (Fld.FAB_PORT_STS.LINK_UP port) || decide (256 ≤ here.length) then s
  else
    let n := (s.ldAt port ldId).getD noLd
    let rid := s.fab.nextRid
    let r := Req.mk rid port ldId n kind (hpa / 64 * 64) 0 data mask poison tag .ingress false
    let cap := n == noLd || s.capFree n
    let behind := here.any (fun q => q.ld == n)
    let s := s.modFab (fun f => { f with reqs := f.reqs ++ [r], nextRid := rid + 1 })
    (if s.trkFree port && cap && !behind && s.sluiceOpen then s.step2 r else s).countCaps.showTrk

/-! ## Waking what waits -/

/-- A request that waited goes on from its step, when what it waited for is there. -/
def State.wakeReq (s : State) (rid : Nat) : State :=
  match s.fab.reqs.find? (fun r => r.rid == rid) with
  | some r =>
    match r.at_ with
    | .order => s.step4 r
    | .draw =>
      match (s.page (r.dpa / 4096)).st with
      | .drawing => s
      | _ => s.step6 r
    | .pool => s.step6 r
    | .wmb => s.step6 r
    | .bandwidth => s.step5 r
    | .ldState => s.step3 r
    | _ => s
  | none => s

/-- The requests to a page go on in their order (R286). -/
def State.wakePage (s : State) (p : Nat) : State :=
  (s.fab.reqs.filter (fun r => r.dpa / 4096 == p && r.at_ != .ingress && (r.at_ == .order || r.at_ == .draw))).foldl
    (fun s r => s.wakeReq r.rid) s

/-- Every request that waits at a step of a kind goes on, each followed by those behind it on its page. -/
def State.wakeAll (s : State) (which : Req → Bool) : State :=
  (s.fab.reqs.filter which).foldl (fun s r => (s.wakeReq r.rid).wakePage (r.dpa / 4096)) s
/-- Requests that wait for a page-operation entry (R185). -/
def State.wakePool (s : State) : State := s.wakeAll (fun r => r.at_ == .pool)
/-- Writes that wait for a place in a channel's write-merge buffer (R247). -/
def State.wakeWmb (s : State) : State := s.wakeAll (fun r => r.at_ == .wmb)
/-- Requests of an LD that wait at step 3. -/
def State.wakeLd (s : State) (n : Nat) : State := s.wakeAll (fun r => r.ld == n && r.at_ == .ldState)

/-- After a page's requests moved: pages and pool, refill and rings. -/
def State.settle (s : State) : State := ((s.wakePool.refill).checkFilled.kick).showTrk

/-! ## Discarding (R14) -/

/-- Held requests are discarded without response: entries free, queued reads and fork copies go, DISCARDED counts. -/
def State.discard (s : State) (which : Req → Bool) : State :=
  let gone := s.fab.reqs.filter which
  let ids := gone.map (·.rid)
  let s := gone.foldl (fun s r =>
    let s := if r.port = mboxPort then s.emit (.mbox (mboxOf r.tag) 4 [])
      else if r.ld == noLd then s else s.bump (Fld.SLU_LD_CNTB.DISCARDED r.ld) (Fld.SLU_LD_CNTB.DS_SAT r.ld)
    match r.at_, s.forkSlot (r.dpa / 4096) with
    | .fork, some i => s.forkGone (r.dpa / 4096) i
    | _, _ => s) s
  let keep := fun (q : DReq) => match q.kind with
    | .read i | .fill i => !ids.contains i
    | _ => true
  let cut : Chan → Chan := fun c => { c with
    subs := c.subs.map (fun x => (x.1, { x.2 with queue := x.2.queue.filter keep })) }
  let s : State := { s with chans := s.chans.map (fun e => (e.1, cut e.2)) }
  let s := s.modFab (fun f => { f with
    reqs := f.reqs.filter (fun r => !ids.contains r.rid)
    granted := f.granted.filter (fun i => !ids.contains i) })
  (gone.map (fun r => r.dpa / 4096)).dedup.foldl (fun s p => s.wakePage p) s

/-! ## Uncorrectable lines (R264) -/

/-- A line that stays uncorrectable, by the state of its page. With every page-operation entry in use (R9) the redraw of a CLEAN page waits
for the next request to it: the page is UNFILLED until then (DESIGN CHOICE, log entry 110). -/
def State.ueLine (s : State) (line : Nat) : State :=
  let p := line / 64
  let c := s.lineChan line
  let s := s.bump (Fld.DRC_ECC_CNT.UNCORRECTABLE c) (Fld.DRC_ECC_CNT.UE_SAT c)
  match (s.page p).st with
  | .clean =>
    (if s.opFree then (s.issue p false).nextRead (keyDs (s.page p).loc) else s.setPState p .unfilled).bump
      (Fld.DRC_ECC_CNT.REDRAWS c) (Fld.DRC_ECC_CNT.RD_SAT c)
  | .unfilled | .drawing => s
  | .dirty | .cleaning | .forked =>
    let s := (s.poisonPage p).fault (srcOf (32 + c) 6) 0x38 (line + (s.cellOf line).rank * 2 ^ 36)
    forUpto 64 (fun i s => s.setPoison (p * 64 + i) true) s
  | .poisoned | .volatile => s.setPoison line true

/-! ## CXL.mem commands -/

/-- MEM_WRITE (R285). -/
def execMemWrite (dt port ldId hpa : Nat) (data : Line) (mask : ByteMask) (poison : Bool) (tag : Nat) (s : State) :
    Host.Outcome State Fault Refusal := .next ((s.elapse dt).arrive port ldId hpa tag .write data mask poison).showWeir
/-- MEM_READ (R285). -/
def execMemRead (dt port ldId hpa tag : Nat) (s : State) : Host.Outcome State Fault Refusal :=
  .next ((s.elapse dt).arrive port ldId hpa tag .read 0 0 false)
/-- MEM_INV (R285): Cmp and no other effect. -/
def memInv (port ldId tag : Nat) (s : State) : State :=
  if s.on (Fld.FAB_PORT_STS.LINK_UP port) && s.sluiceOpen then
    s.emit (.ndr port tag (match s.ldAt port ldId with
      | some n => s.devLoadOf port n
      | none => tabGet 0 port s.fab.devLoad))
  else s
def execMemInv (dt port ldId _hpa tag : Nat) (s : State) : Host.Outcome State Fault Refusal :=
  .next (memInv port ldId tag (s.elapse dt))
/-- MEM_SPEC_RD (R285): the hint is dropped. -/
def execMemSpecRd (dt _port _ldId _hpa _tag : Nat) (s : State) : Host.Outcome State Fault Refusal := .next (s.elapse dt)
/-- UNSUPPORTED_REQUEST (R291). -/
def unsupportedRequest (port channel opcode : Nat) (s : State) : State :=
  (s.bump (Fld.FAB_ERR_B.UNSUP port) (Fld.FAB_ERR_B.UN_SAT port)).fault (srcOf (11 + port) 3) 0x11
    (opcode % 16 + channel % 8 * 256)
def execUnsupportedRequest (dt port channel opcode : Nat) (s : State) : Host.Outcome State Fault Refusal :=
  .next (unsupportedRequest port channel opcode (s.elapse dt))

/-- TRACKER_ENTRY_FREE (R287): the oldest request of the port's ingress buffer that can take an entry takes one; requests
of other LDs pass one that waits at its LD's cap. -/
def trackerEntryFree (port : Nat) (s : State) : State :=
  let ok := fun (r : Req) => r.port == port && r.at_ == .ingress && (r.ld == noLd || s.capFree r.ld)
  if s.trkFree port && s.sluiceOpen then
    match s.fab.reqs.find? ok with
    | some r => (s.step2 r).countCaps.showTrk.showWeir
    | none => s
  else s
def execTrackerEntryFree (dt port : Nat) (s : State) : Host.Outcome State Fault Refusal :=
  .next (trackerEntryFree port (s.elapse dt))

/-! ## The line code (R261 to R263) -/

/-- 24 h in ns. -/
def dayNs : Nat := 86400000000000

/-- Key of a device in the corrected-symbol counts. -/
def devKey (i rank dev : Nat) : Nat := i * 256 + rank * 16 + dev
/-- Corrected symbols of a device within the 24 h before a time. -/
def Chan.symbolsOf (k : Chan) (now key : Nat) : Nat :=
  sumNat ((k.ce.filter (fun e => e.2.1 == key && decide (now < e.1 + dayNs))).map (·.2.2))

/-- A device is marked in its subchannel, or refused when one is marked already (R263). -/
def State.markDevice (s : State) (c i rank dev : Nat) : State :=
  let addr := dev + rank * 16 + i * 256
  if s.on (Fld.DRC_MARK.VALID c i) then
    if s.fget (Fld.DRC_MARK.RANK c i) == rank && s.fget (Fld.DRC_MARK.DEVICE c i) == dev then s
    else
      ((((s.fset (Fld.DRC_MARK_CAND.SECOND c i) 1).fset (Fld.DRC_MARK_CAND.RANK c i) rank).fset
        (Fld.DRC_MARK_CAND.DEVICE c i) dev).fsat (Fld.DRC_MARK_CAND.COUNT c i) ((s.chan c).symbolsOf s.now (devKey i rank dev))).fault
          (srcOf (32 + c) 7) 0x42 addr
  else
    (((s.fset (Fld.DRC_MARK.VALID c i) 1).fset (Fld.DRC_MARK.RANK c i) rank).fset (Fld.DRC_MARK.DEVICE c i) dev).fault
      (srcOf (32 + c) 7) 0x41 addr

/-- DRC_MARK_CAND shows the leading candidate of a subchannel: the device with most corrected symbols within 24 h, or the second
device that was refused a mark while SECOND stands (Table 10-13). -/
def State.showCand (s : State) (c i : Nat) : State :=
  let k := s.chan c
  let shown := devKey i (s.fget (Fld.DRC_MARK_CAND.RANK c i)) (s.fget (Fld.DRC_MARK_CAND.DEVICE c i))
  let lead := if s.on (Fld.DRC_MARK_CAND.SECOND c i) then shown
    else ((k.ce.filter (fun e => e.2.1 / 256 == i)).map (·.2.1)).foldl (fun b x =>
      if k.symbolsOf s.now b < k.symbolsOf s.now x then x else b) shown
  ((s.fsat (Fld.DRC_MARK_CAND.COUNT c i) (k.symbolsOf s.now lead)).fset (Fld.DRC_MARK_CAND.RANK c i) (lead / 16)).fset
    (Fld.DRC_MARK_CAND.DEVICE c i) lead

/-- `n` corrected symbols of one device: charged to it, the leading candidate shown, and the device marked at MARK_THRESH within
24 h or at 5 symbols of one ×4 device in one read (R263). -/
def State.chargeDevice (s : State) (line dev n : Nat) : State :=
  let c := s.lineChan line
  let a := s.cellOf line
  let i := a.sub
  let t := s.now
  let s := s.modChan c (fun k => { k with
    ce := (k.ce.filter (fun e => decide (t < e.1 + dayNs))) ++ [(t, devKey i a.rank dev, n)] })
  let mine := (s.chan c).symbolsOf t (devKey i a.rank dev)
  let s := s.showCand c i
  if s.fget (Fld.DRC_ECC.MARK_THRESH c) ≤ mine || (!(s.chan c).x8 && decide (5 ≤ n)) then s.markDevice c i a.rank dev
  else s

/-- A corrected line: counted and reported, and its symbols charged to their devices (R263). -/
def State.corrected (s : State) (line : Nat) (symbols : List (Nat × Nat)) : State :=
  let c := s.lineChan line
  let s := (s.bump (Fld.DRC_ECC_CNT.CORRECTED c) (Fld.DRC_ECC_CNT.CE_SAT c)).fault (srcOf (32 + c) 5) 0x30
    (line + (s.cellOf line).rank * 2 ^ 36)
  symbols.foldl (fun s e => s.chargeDevice line e.1 e.2) s

/-- The read of a line (R261 to R263): decoded; what is corrected is charged; and where nothing decodes, the locate step marks
the one failing device, the line being decoded again with it erased where no device was marked before. -/
def State.decodeLine (s : State) (line : Nat) (r : LineRead) : State × LineDecode :=
  let c := s.lineChan line
  let a := s.cellOf line
  let x8 := (s.chan c).x8
  match s.decodeRead line r with
  | .corrected l => (s.corrected line l, .corrected l)
  | .uncorrectable =>
    match (r.failing.filter (fun d => decide (d < (if x8 then 5 else 10)))).dedup with
    | [dev] =>
      let was := s.on (Fld.DRC_MARK.VALID c a.sub)
      let d := decodeWord x8 (some dev) (s.linePoison line) (wrongSymbols (s.received line r))
      let s := s.markDevice c a.sub a.rank dev
      if was then (s, .uncorrectable)
      else match d with
        | .corrected l => (s.corrected line l, d)
        | _ => (s, d)
    | _ => (s, .uncorrectable)
  | d => (s, d)

/-- A line the channel has read arrives, corrected or poisoned or uncorrectable: what the read does to the page. The second
part says whether the line came back readable. -/
def State.lineBack (s : State) (line : Nat) (d : LineDecode) : State × Bool :=
  match d with
  | .clean | .corrected _ => (s, true)
  | .poisoned => (s.setPoison line true, true)
  | .uncorrectable => (s.ueLine line, false)

/-- WMB_PARTIAL_FILL (R247): the line of a partial write is there: its bytes merge and the write is accepted. A line that
stays uncorrectable is handled by its page's state. A write that its page's state, the ladder or a cut taken meanwhile now
turns away goes on from the page-state check (R125, R133). -/
def wmbPartialFill (rid : Nat) (d : LineDecode) (s : State) : State :=
  match s.fab.reqs.find? (fun r => r.rid == rid && r.at_ == .merge) with
  | some r =>
    let line := r.dpa / 64
    let cut : Sub → Sub := fun x => { x with
      queue := x.queue.filter (fun q => q.kind != .fill rid)
      flight := x.flight.filter (fun q => q.kind != .fill rid) }
    let s := s.modChan (s.lineChan line) (fun c => { c with subs := c.subs.map (fun e => (e.1, cut e.2)) })
    let x := s.lineBack line d
    let s := match (x.1.page (r.dpa / 4096)).st with
      | .drawing | .unfilled => x.1.step6 r
      | _ => if x.1.held r || x.1.owedPage (r.dpa / 4096) then x.1.step6 r else x.1.acceptWrite r
    ((s.wakePage (r.dpa / 4096)).settle).showWeir
  | none => s
/-- The read of a command's line is decoded, and marked devices and counts follow (R261, R263). -/
def execWmbPartialFill (dt rid : Nat) (result : LineRead) (s : State) : Host.Outcome State Fault Refusal :=
  let s := s.elapse dt
  match s.fab.reqs.find? (fun r => r.rid == rid && r.at_ == .merge) with
  | some r =>
    let x := s.decodeLine (r.dpa / 64) result
    .next (wmbPartialFill rid x.2 x.1)
  | none => .next s

/-! ## Held writes (R125, R127) -/

/-- A write held at the ladder or for a slot goes on from the page-state check, where the ladder judges it again. -/
def State.passHold (s : State) (r : Req) : State := ((s.step6 r).wakePage (r.dpa / 4096)).settle.showWeir

/-- A held write of an LD can go on: there is room, or a slot. -/
def State.canPass (s : State) (n : Nat) (r : Req) : Bool :=
  r.ld == n && (match r.at_ with
    | .weir _ => !s.held r
    | .slot _ => (s.freeSlot.isSome && !s.slotBehind r) || !(s.owedPage (r.dpa / 4096))
    | _ => false)

/-- WEIR_WAIT_EXPIRY (R125): at its bound a held write completes over the cap when the pool has room, else it stays held
and counts once. -/
def weirWaitExpiry (rid : Nat) (s : State) : State :=
  match s.fab.reqs.find? (fun r => r.rid == rid) with
  | some r =>
    match r.at_ with
    | .weir t =>
      if t != 0 && decide (t + 1000 * s.fget Fld.WEIR_CFG.WAIT_US ≤ s.now + 1) then
        if 1 ≤ s.poolFree && !s.deficit then
          ((s.bump (Fld.WEIR_LD_CNTB.OVER_CAP r.ld) (Fld.WEIR_LD_CNTB.OC_SAT r.ld)).modFab (fun f => { f with
            granted := setIns rid f.granted })).passHold r
        else (s.bump (Fld.WEIR_LD_CNTB.TIMEOUTS r.ld) (Fld.WEIR_LD_CNTB.TO_SAT r.ld)).setAt rid (.weir 0)
      else s
    | _ => s
  | none => s
def execWeirWaitExpiry (dt rid : Nat) (s : State) : Host.Outcome State Fault Refusal :=
  .next (weirWaitExpiry rid (s.elapse dt))

/-- FORK_SLOT_WAIT_EXPIRY (R127): the bound never completes the write; it counts once and the write stays held. -/
def forkSlotWaitExpiry (rid : Nat) (s : State) : State :=
  match s.fab.reqs.find? (fun r => r.rid == rid) with
  | some r =>
    match r.at_ with
    | .slot t =>
      if t != 0 && decide (t + 1000 * s.fget Fld.WEIR_CFG.WAIT_US ≤ s.now + 1) then
        (s.bump Fld.EDDY_STALL.TIMEOUTS Fld.EDDY_STALL.TO_SAT).setAt rid (.slot 0)
      else s
    | _ => s
  | none => s
def execForkSlotWaitExpiry (dt rid : Nat) (s : State) : Host.Outcome State Fault Refusal :=
  .next (forkSlotWaitExpiry rid (s.elapse dt))

/-- FORK_COPY_DONE (R134): the copy is in its slot; the page is FORKED and the waiting write is applied and completed. When
the page's copy for the cut reached flash meanwhile, the slot is given back and the write goes on as to any page. A stopped channel
holds the copy (R267). -/
def forkCopyDone (p : Nat) (s : State) : State :=
  match s.forkSlot p with
  | some i =>
    if s.linesStopped (p * 64) || s.linesStopped (s.slotLine i) then s
    else
    let owedStill := !(s.forkCuts p i).isEmpty
    let s := if owedStill then s.forkEnd p i else s.forkGone p i
    let s := match s.fab.reqs.find? (fun r => r.dpa / 4096 == p && r.at_ == .fork) with
      | some r => if owedStill then s.step7 r else s.step6 r
      | none => s
    (s.wakePage p).settle.showWeir
  | none => s
def execForkCopyDone (dt page : Nat) (s : State) : Host.Outcome State Fault Refusal :=
  .next (forkCopyDone page (s.elapse dt))

/-! ## The ends of draws and refill reads (R181 to R188) -/

/-- After a draw: the waiting requests of the page, the sequencer's next read, and what counts the unfilled pages. -/
def State.drawn (s : State) (p : Nat) : State := ((s.wakePage p).settle).showWeir

/-- The copy whose read FLASH_READ_DONE ends for a page: that of its draw or refill read; else of its scrub reads in flight that of
its live copy, or the oldest of a copy that a checkpoint, an image or the record index names (R219). -/
def State.readOf (s : State) (p : Nat) : Nat :=
  let live := (s.page p).loc
  match s.drawOf p with
  | some d => d.from_
  | none => if s.log.scrubOn.contains live then live
    else (s.log.scrubOn.find? (fun k => (s.formAt k).page == p)).getD live

/-- FLASH_READ_DONE (R218): the codewords of a page's copy decoded at a level of the ladder, or went to parity; its dies serve
the next read. A scrub read of the copy ends with it (R219). -/
def flashReadDone (p : Nat) (res : ReadResult) (s : State) : State :=
  let k := s.readOf p
  let s := ((s.ladderRead k res).modLog (fun l => { l with scrubOn := l.scrubOn.filter (· ≠ k) })).scrubMore
  match s.drawOf p with
  | some d =>
    if d.step == .reading then
      match res with
      | .decoded _ => d.dies.foldl (fun s ds => s.dieFree ds) (s.modDraw p (fun d => { d with step := .restoring }))
      | .failed => (d.dies.foldl (fun s ds => s.dieFree ds) (s.modDraw p (fun d => { d with step := .rebuild }))).fault
          (srcOf (40 + keyDs k / 32) 6) 0x3A (keyDs k * 2 ^ 25 + keyBand k * 2 ^ 11 + k / 2 ^ 10 % 2 ^ 11)
    else s
  | none => s
def execFlashReadDone (dt page : Nat) (result : ReadResult) (s : State) : Host.Outcome State Fault Refusal :=
  .next (flashReadDone page result (s.elapse dt))

/-- A restored form is checked (R188): `formOk` says that what the codewords yield is the form as it was stored; its header must
name the page, LD and key generation, and its restored plaintext have the record's CRC. A first failure goes to parity, a second
loses the page. -/
def State.endRestore (s : State) (d : Draw) (formOk : Bool) : State :=
  if formOk && s.formValid d.page (s.page d.page) then s.restorePage d.page
  else if d.rebuilt then s.lostPage d.page
  else s.modDraw d.page (fun d => { d with step := .rebuild, rebuilt := true })

/-- PARITY_REBUILD_DONE (R188): the page from the 15 other members is restored and counted, its copy's stripe is scheduled
for relocation with all its forms; or the page is lost. -/
def parityRebuildDone (p : Nat) (ok : Bool) (s : State) : State :=
  match s.drawOf p with
  | some d =>
    if d.step == .rebuild && !s.linesStopped (p * 64) then
      let s := s.satUp Fld.LOG_READ_CNT.PARITY
      let r := s.page p
      if ok && s.formValid p r then
        let s := (s.restorePage p).bump Fld.RFL_ERR.REBUILDS Fld.RFL_ERR.RB_SAT
        (s.relocStripe r.loc).drawn p
      else (s.lostPage p).drawn p
    else s
  | none => s
def execParityRebuildDone (dt page : Nat) (ok : Bool) (s : State) : Host.Outcome State Fault Refusal :=
  .next (parityRebuildDone page ok (s.elapse dt))

/-- DRAW_DONE (R185): the page is decrypted, checked and written to DRAM, unless a stopped channel holds its lines (R267). -/
def drawDone (p : Nat) (formOk : Bool) (s : State) : State :=
  match s.drawOf p with
  | some d => if s.linesStopped (p * 64) then s
    else if !d.refill && (d.step == .restoring || d.step == .reading) then (s.endRestore d formOk).drawn p
    else if !d.refill && d.step == .zero then (s.restorePage p).drawn p else s
  | none => s
def execDrawDone (dt page : Nat) (formOk : Bool) (s : State) : Host.Outcome State Fault Refusal :=
  .next (drawDone page formOk (s.elapse dt))

/-- REFILL_READ_DONE (R181): the pages of a refill read go from DRAWING to CLEAN. -/
def refillReadDone (ps : List Nat) (formOk : Bool) (s : State) : State :=
  (ps.foldl (fun s p => match s.drawOf p with
    | some d => if d.refill && (d.step == .restoring || d.step == .reading) && !s.linesStopped (p * 64) then
        (s.endRestore d formOk).wakePage p else s
    | none => s) s).settle.showWeir
def execRefillReadDone (dt : Nat) (pages : List Nat) (formOk : Bool) (s : State) : Host.Outcome State Fault Refusal :=
  .next (refillReadDone pages formOk (s.elapse dt))

/-- ZERO_FILL_DONE (R182): a page of LENGTH 0 has its zeros. -/
def zeroFillDone (p : Nat) (s : State) : State :=
  match s.drawOf p with
  | some d => if d.step == .zero && !s.linesStopped (p * 64) then (s.restorePage p).drawn p else s
  | none => s
def execZeroFillDone (dt page : Nat) (s : State) : Host.Outcome State Fault Refusal :=
  .next (zeroFillDone page (s.elapse dt))

/-- MIN_RUN_REACHED (R220). -/
def execMinRunReached (dt ds : Nat) (s : State) : Host.Outcome State Fault Refusal := .next ((s.elapse dt).minRun ds)

end Sys2Proof.Machine
end

