-- ==== Sys2Proof/Machine/Dram.lean ====
section
/-! DEFINITION. The commands of the DRAM channels (chapter 10): issue, lines that come back, refresh, the row-disturbance guard,
training, replay and freeze, and the scrub. -/

namespace Sys2Proof.Machine

/-! ## Issue (R249, R266) -/

/-- Nothing issues for requesters: the maintenance slot, and the excess of an overrun that is taken from this beat's host share
(R62, R65). -/
def State.reserved (s : State) (c : Nat) : Bool := decide (s.colTime % beatNs < maintNs + tabGet 0 c s.col.overBy)

/-- A command of a replay is issued again (R266): it enters the retry buffer, and a bank's row is open after an activate. -/
def Sub.replayOne (x : Sub) (clk : Nat × Nat) (e : List Nat) (rest : List (List Nat)) : Sub :=
  let a : CellAddr := ⟨0, e.getD 3 0, 0, e.getD 4 0, e.getD 2 0, 0⟩
  { x.push clk (e.getD 1 0) a (e.getD 5 0) with
    again := rest
    rows := if e.getD 1 0 = 1 then tabIns a.bank (e.getD 5 0, clk.2) (tabDel a.bank x.rows) else x.rows }

/-- The next request of a subchannel: lines move from the write-merge buffer to their queue, the mode is decided, and it issues. -/
def State.nextIssue (s : State) (c i : Nat) : State :=
  let s := s.moveWmb c
  let x := (s.chan c).sub i
  let w := s.writeMode c x
  let s := s.modChan c (fun k => k.modSub i (fun x => { x with writing := w, replay := none, redo := [], tries := 0 }))
  match s.pick c x w with
  | some q => ((s.issueReq c i q).wakeWmb).showTrk
  | none => s.wakeWmb.showTrk

/-- DRAM_REQUEST_ISSUE (R249): refresh slots that are due go first; then the next command of a replay, or the next request. A frozen or
sleeping channel issues nothing. -/
def dramRequestIssue (c i : Nat) (s : State) : State :=
  if s.fget (Fld.DRC_STS.STATE c) != 2 || s.reserved c then s
  else
    let s := s.refreshDue c
    let x := (s.chan c).sub i
    match x.again with
    | e :: rest =>
      if s.rankReady c (x.replay.getD 0) then
        let clk := s.tick c
        s.modChan c (fun k => k.modSub i (fun x => x.replayOne clk e rest))
      else s
    | [] => s.nextIssue c i
def execDramRequestIssue (dt ch sub : Nat) (s : State) : Host.Outcome State Fault Refusal :=
  .next (dramRequestIssue ch sub (s.elapse dt))

/-! ## Lines that come back (R261 to R264) -/

/-- A page's record is lost (R264): its location comes from the newest record page on flash; the page is POISONED, or on a SERVING LD
DIRTY with the newest tag, and every pending checkpoint takes the named copy. -/
def State.recordGone (s : State) (p : Nat) : State :=
  match s.ldOfPage p with
  | none => s
  | some n =>
    let old := s.page p
    let f := (s.flashRec p).getD (PageRec.mk .clean n 0 0 0 0)
    if (s.ld n).st == .serving then
      let s := s.setPage p { f with st := .dirty, ld := n, tag := (s.ld n).cutSeq % 65536 }
      ((s.ld n).pending).foldl (fun s c => s.ckptCopied n c.no p { f with st := .clean }) s
    else
      (s.setPage p { old with loc := f.loc, len := f.len, crc := f.crc }).markPoisoned p

/-- A record goes with its line of the page-record reserve, unless the page-state cache holds it (R264). -/
def State.lostRecord (s : State) (p : Nat) : State :=
  let held := Config.cacheHolds p s.freeCtr
  let s := { s with freeCtr := s.freeCtr + 1 }
  if held then s else s.recordGone p

/-- An uncorrectable line outside the host-visible region (R264): control area, page records, eddy slots. -/
def State.ueReserve (s : State) (line : Nat) : State :=
  let a := line * 64
  let c := s.lineChan line
  let s := s.bump (Fld.DRC_ECC_CNT.UNCORRECTABLE c) (Fld.DRC_ECC_CNT.UE_SAT c)
  if a < recordBase then s.fault (srcOf (32 + c) 6) 0x39 (line + (s.cellOf line).rank * 2 ^ 36)
  else if a < s.eddyBase then
    let p := (a - recordBase) / 16
    forUpto 4 (fun i s => s.lostRecord (p + i)) s
  else
    let slot := (a - s.eddyBase) / 4096
    let e := tabGet Eddy.none slot s.eddy
    if s.eddy.any (fun x => x.1 == slot) then
      let l := (a - s.eddyBase) / 64 % 64
      let b := Content.mk (e.body.bytes.filter (fun x => x.1 / 64 != l)) (setIns l e.body.poison)
      ({ s with eddy := tabSet Eddy.none slot { e with body := b } s.eddy } : State).modRill
        (fun r => { r with sel := r.sel.map (fun x =>
          if x.slot == some slot && x.form.kind == 2 then { x with form := { x.form with body := b, crc := b.crc, len := b.len } } else x) })
    else s

/-- A line that an engine read for page `p` (R264), decoded: a host-visible line as any read, its poison passing to the fork copy that
reads it; another one as its place. -/
def State.engineLine (s : State) (line port : Nat) (d : LineDecode) : State :=
  if d != .uncorrectable then (s.lineBack line d).1
  else if line * 64 < s.hostBase then s.ueReserve line
  else
    let s := (s.lineBack line d).1
    match s.forkSlot (line / 64) with
    | some i =>
      if port = urgentPort then
        let e := tabGet Eddy.none i s.eddy
        let b := Content.mk (e.body.bytes.filter (fun x => x.1 / 64 != line % 64)) (setIns (line % 64) e.body.poison)
        { s with eddy := tabSet Eddy.none i { e with body := b } s.eddy }
      else s
    | none => s

/-- The oldest read issued by a subchannel returns, decoded as `decode` says. -/
def State.readBack (s : State) (c i : Nat) (decode : State → Nat → State × LineDecode) : State :=
  match ((s.chan c).sub i).flight with
  | [] => s
  | q :: rest =>
    let s := s.modChan c (fun k => k.modSub i (fun x => { x with flight := rest }))
    let x := decode s q.line
    match q.kind with
    | .fill rid => wmbPartialFill rid x.2 x.1
    | .read rid =>
      match s.fab.reqs.find? (fun r => r.rid == rid && r.at_ == .dram) with
      | some r =>
        let y := x.1.lineBack q.line x.2
        let s := if y.2 then y.1.drs r (y.1.lineData q.line)
          else match (y.1.page (q.line / 64)).st with
            | .drawing => y.1.setAt rid .draw
            | .unfilled => y.1.setAt rid .pool
            | _ => y.1.drs r none
        (s.wakePage (q.line / 64)).settle.showWeir
      | none => (x.1.lineBack q.line x.2).1
    | .page _ _ => (x.1.engineLine q.line q.port x.2).settle.showWeir
    | .write => x.1
/-- DRAM_READ_DONE (R261). -/
def dramReadDone (c i : Nat) (r : LineRead) (s : State) : State := s.readBack c i (fun s line => s.decodeLine line r)
def execDramReadDone (dt ch sub : Nat) (result : LineRead) (s : State) : Host.Outcome State Fault Refusal :=
  .next (dramReadDone ch sub result (s.elapse dt))

/-- A scrub read of a line of a channel is due (R265): its period goes on and the line has not been read in it, or a new period
begins (the order within a period: DESIGN CHOICE, log entry 110). -/
def State.scrubTurn (s : State) (c line : Nat) : Option State :=
  let k := s.chan c
  let t := s.now
  if k.scrubAt + s.fget (Fld.DRC_ECC.SCRUB_HOURS c) * 3600000000000 ≤ t then
    some (s.modChan c (fun k => { k with scrubAt := t, scrubbed := [line] }))
  else if k.scrubbed.contains line then none
  else some (s.modChan c (fun k => { k with scrubbed := setIns line k.scrubbed }))

/-- DRAM_SCRUB_READ (R265): while REFILLING or SERVING, with a page operation, on the background port of a channel that is not stopped;
a corrected line is rewritten, an uncorrectable one handled under R264. -/
def dramScrubRead (line : Nat) (d : LineRead) (s : State) : State :=
  if !s.isOpen || !s.opFree || s.chanStopped (s.lineChan line) || s.installed ≤ line * 64 then s
  else match s.scrubTurn (s.lineChan line) line with
  | none => s
  | some s =>
    let x := (s.passRead line).decodeLine line d
    let s := if line * 64 < s.hostBase then
        match x.2 with
        | .uncorrectable => x.1.ueReserve line
        | _ => x.1
      else (x.1.lineBack line x.2).1
    s.settle
def execDramScrubRead (dt line : Nat) (result : LineRead) (s : State) : Host.Outcome State Fault Refusal :=
  .next (dramScrubRead line result (s.elapse dt))

/-! ## Refresh, heat, row disturbance, power-down -/

/-- REFRESH_SLOT (R252, R254): the slot of a rank that is due. In self-refresh the slot is idle (R259). -/
def refreshSlot (c rank : Nat) (s : State) : State :=
  if s.fget (Fld.DRC_STS.STATE c) == 4 || s.fget (Fld.DRC_STS.STATE c) == 3 || !s.slotDue c rank then s
  else s.takeSlot c rank
def execRefreshSlot (dt ch rank : Nat) (s : State) : Host.Outcome State Fault Refusal :=
  .next (refreshSlot ch rank (s.elapse dt))

/-- Commands that the controller itself sends to a logical rank, in both subchannels. -/
def State.sendRank (s : State) (c rank cmd : Nat) : State :=
  let clk := s.tick c
  let f : Sub → Sub := fun x => x.push clk cmd (rankCell rank) 0
  s.modChan c (fun k => { k with subs := tabSet Sub.new 1 (f (k.sub 1)) (tabSet Sub.new 0 (f (k.sub 0)) k.subs) })

/-- MR4_POLL (R253, R270): in the maintenance slot of every 16th beat, of a channel that is not stopped, every rank is read. The channel is
hot above 85 °C or when the read fails; two consecutive cool polls end it. -/
def mr4Poll (c : Nat) (readOk : Bool) (hottest : Int) (s : State) : State :=
  if s.curBeat % 16 != 0 || s.chanStopped c then s
  else
  let s := (List.range (s.chan c).logRanks).foldl (fun s r => s.sendRank c r 6) s
  if !readOk || decide (85 < hottest) then
    let s := s.modChan c (fun k => { k with cool := 0 })
    if s.on (Fld.DRC_STS.HOT c) then s else (s.fset (Fld.DRC_STS.HOT c) 1).fault (srcOf (32 + c) 7) 0x40 0
  else
    let n := (s.chan c).cool + 1
    let s := s.modChan c (fun k => { k with cool := min n 2 })
    if s.on (Fld.DRC_STS.HOT c) && decide (2 ≤ n) then
      (s.fset (Fld.DRC_STS.HOT c) 0).fault (srcOf (32 + c) 7) 0x40 0 true else s
def execMr4Poll (ch : Nat) (readOk : Bool) (hottest : Int) (s : State) : Host.Outcome State Fault Refusal :=
  .next (mr4Poll ch readOk hottest s)

/-- RH_TABLE_CLEAR (R256): once every 8,192 × tREFI. -/
def rhTableClear (c : Nat) (s : State) : State :=
  let f : Sub → Sub := fun x => { x with acts := [] }
  let t := s.now
  if (s.chan c).rhAt + 8192 * (s.chan c).trefi ≤ t then
    s.modChan c (fun k => { k with rhAt := t, subs := k.subs.map (fun e => (e.1, f e.2)) })
  else s
def execRhTableClear (dt ch : Nat) (s : State) : Host.Outcome State Fault Refusal := .next (rhTableClear ch (s.elapse dt))

/-- tXP, ns: 7.5 ns of JESD79-5, rounded up (PRESUMED, log entry 109). -/
def txpNs : Nat := 8
/-- RANK_POWER_DOWN (R258): no request for the rank is queued, nor has one been for PD_TIMER controller clocks, and no refresh slot of
its own starts within tXP. -/
def rankPowerDown (c rank : Nat) (s : State) : State :=
  if (s.chan c).subs.any (fun e => e.2.queue.any (fun q => (s.cellOf q.line).rank == rank)) ||
      s.fget (Fld.DRC_STS.STATE c) != 2 || s.slotDue c rank || decide (s.nextSlot c rank ≤ s.colTime + txpNs) ||
      decide ((s.now - tabGet 0 rank (s.chan c).lastReq) * (s.chan c).rate < 4000 * s.fget (Fld.DRC_SCHED.PD_TIMER c)) then s
  else
    let clk := s.tick c
    let f : Sub → Sub := fun x => x.closeRank clk rank
    s.modChan c (fun k => { k with down := setIns rank k.down, subs := k.subs.map (fun e => (e.1, f e.2)) })
def execRankPowerDown (dt ch rank : Nat) (s : State) : Host.Outcome State Fault Refusal :=
  .next (rankPowerDown ch rank (s.elapse dt))

/-! ## Training in service (R270 to R272) -/

/-- DQS_TRACK (R270): in beats with b mod 64 = 8 the oscillators of a rank are started and read, and its write DQS delay moves by a drift
of more than one step. -/
def dqsTrack (c rank : Nat) (drift : Int) (s : State) : State :=
  if s.curBeat % 64 != 8 || s.chanStopped c then s
  else
    let s := (s.sendRank c rank 7).sendRank c rank 6
    if 1 < drift.natAbs then
      s.modChan c (fun k => { k with drift := tabSet 0 rank (tabGet 0 rank k.drift + drift) k.drift })
    else s
def execDqsTrack (ch rank : Nat) (drift : Int) (s : State) : Host.Outcome State Fault Refusal :=
  .next (dqsTrack ch rank drift s)

/-- A rank's RETRAINING bit. -/
def State.setRetrain (s : State) (c rank : Nat) (b : Bool) : State :=
  let v := s.fget (Fld.DRC_STS.RETRAINING c)
  let w := if v.testBit rank then v - 2 ^ rank else v
  s.fset (Fld.DRC_STS.RETRAINING c) (if b then w + 2 ^ rank else w)

/-- The line that an eye sample of a rank reads (R271): host traffic read it in the last beat. -/
def State.eyeLine (s : State) (c rank : Nat) : Option Nat :=
  ((s.chan c).hostLine.find? (fun e => e.1 == rank && e.2.2 + 1 == s.curBeat)).map (fun e => e.2.1)
/-- The rank whose turn it is: the next, round the ranks, that has such a line. -/
def State.eyeRank (s : State) (c : Nat) : Option Nat :=
  let n := (s.chan c).logRanks
  ((List.range n).map (fun i => ((s.chan c).eyeTurn + i) % n)).find? (fun r => (s.eyeLine c r).isSome)

/-- EYE_SAMPLE (R270, R271): in the maintenance slots of the other beats, the line of the rank whose turn it is is read four times. The
rank's 1,024th sample publishes the estimate, ages of the others go on, and a margin below its limit schedules a rank retrain (log
entry 20). -/
def eyeSample (c rank left right vref : Nat) (s : State) : State :=
  if s.curBeat % 16 == 0 || s.curBeat % 64 == 8 || s.chanStopped c || s.eyeRank c != some rank then s
  else
  let line := (s.eyeLine c rank).getD 0
  let s := forUpto 4 (fun _ s => s.passRead line) s
  let n := tabGet 0 rank (s.chan c).eyes + 1
  let publish := decide (1024 ≤ n)
  let ranks := List.range (s.chan c).logRanks
  let s := s.modChan c (fun k => { k with
    eyeTurn := (rank + 1) % k.logRanks
    eyes := tabSet 0 rank (if publish then 0 else n) k.eyes
    eyeAge := ranks.foldl (fun m r => tabSet 0 r (if publish && r == rank then 0 else tabGet 0 r m + 1) m) k.eyeAge })
  let s := ranks.foldl (fun s r => s.fsat (Fld.DRC_EYE.SAMPLES c r) (tabGet 0 r (s.chan c).eyeAge / 1024)) s
  if publish then
    let s := ((s.fsat (Fld.DRC_EYE.RD_LEFT c rank) left).fsat (Fld.DRC_EYE.RD_RIGHT c rank) right).fsat
      (Fld.DRC_EYE.VREF_MARGIN c rank) vref
    if left + right < s.fget (Fld.DRC_EYE_CFG.EYE_MIN_PCT c) || vref < s.fget (Fld.DRC_EYE_CFG.VREF_MIN c) then
      s.setRetrain c rank true else s
  else s
def execEyeSample (ch rank left right vref : Nat) (s : State) : Host.Outcome State Fault Refusal :=
  .next (eyeSample ch rank left right vref s)

/-- A training of a channel has found new settings for some logical ranks (R269, R272). -/
def State.settings (s : State) (c : Nat) (ranks : List Nat) : State :=
  s.modChan c (fun k => { k with
    trainings := k.trainings + 1
    trained := ranks.foldl (fun m r => tabSet 0 r (k.trainings + 1) m) k.trained })

/-- RANK_RETRAIN_DONE (R272): a retrain of a rank for which one was scheduled ends; with no more margin than before the old setting
stays and RETRAIN_FAIL is sent. Its requests go on. -/
def rankRetrainDone (c rank : Nat) (better : Bool) (s : State) : State :=
  if !(s.fget (Fld.DRC_STS.RETRAINING c)).testBit rank then s
  else
    let s := (s.setRetrain c rank false).bump (Fld.DRC_MAINT_CNT.RETRAINS c) (Fld.DRC_MAINT_CNT.RT_SAT c)
    if better then s.settings c [rank] else s.fault (srcOf (32 + c) 7) 0x43 rank
def execRankRetrainDone (dt ch rank : Nat) (better : Bool) (s : State) : Host.Outcome State Fault Refusal :=
  .next (rankRetrainDone ch rank better (s.elapse dt))

/-! ## Replay and freeze (R266 to R268) -/

/-- The capture of a freeze (Tables 10-16 and 10-17). -/
def State.captureFreeze (s : State) (c i rank cause : Nat) : State :=
  let k := s.freeCtr
  let s := { s with freeCtr := k + 1 }
  let s := ((s.fset (Fld.DRC_FRZ_INFO.BEAT c) s.curBeat).fset (Fld.DRC_FRZ_INFO.RANK c) rank).fset
    (Fld.DRC_FRZ_INFO.SUB c) i
  let s := (s.fset (Fld.DRC_FRZ_INFO.CAUSE c) cause).fput (Fld.DRC_FRZ_INFO.MR_OK c) (Config.mrReadOk k)
  let s := forUpto 2 (fun j s => forUpto 64 (fun n s =>
    let e := ((s.chan c).sub j).hist.getD n [0, 0, 0, 0, 0, 0]
    let s := ((s.fset (Fld.DRC_FRZ_HIST.CLK c j n) (e.getD 0 0)).fset (Fld.DRC_FRZ_HIST.CMD c j n) (e.getD 1 0)).fset
      (Fld.DRC_FRZ_HIST.RANK c j n) (e.getD 2 0)
    ((s.fset (Fld.DRC_FRZ_HIST.BG c j n) (e.getD 3 0)).fset (Fld.DRC_FRZ_HIST.BA c j n) (e.getD 4 0)).fset
      (Fld.DRC_FRZ_HIST.ADDR c j n) (e.getD 5 0)) s) s
  forUpto 2 (fun j s => forUpto 16 (fun n s =>
    let mr := fun m => (Config.deviceMr (2 * c + j) rank (4 * n + m) k).toNat
    (((s.fset (Fld.DRC_FRZ_MR.MR_0 c j n) (mr 0)).fset (Fld.DRC_FRZ_MR.MR_1 c j n) (mr 1)).fset
      (Fld.DRC_FRZ_MR.MR_2 c j n) (mr 2)).fset (Fld.DRC_FRZ_MR.MR_3 c j n) (mr 3)) s) s

/-- Reads in flight on a channel go back to the head of their queues. -/
def Chan.recall (c : Chan) : Chan :=
  let f : Sub → Sub := fun x => { x with
    queue := x.flight ++ x.queue
    flight := []
    rows := []
    replay := none
    redo := []
    again := []
    tries := 0 }
  { c with subs := c.subs.map (fun e => (e.1, f e.2)) }

/-- The channel freezes (R267). -/
def State.freeze (s : State) (c i rank cause : Nat) : State :=
  let s := s.captureFreeze c i rank cause
  let t := s.now
  let s := s.modChan c (fun k => { k.recall with frozenAt := some t })
  (((s.setUnit (32 + c) 2).fset (Fld.DRC_STS.STATE c) 3).bump (Fld.DRC_ALERT_CNT.FREEZES c)
    (Fld.DRC_ALERT_CNT.FZ_SAT c)).fault (srcOf (32 + c) 2) 0x09 (rank + 16 * i)

/-- The commands of a replay complete as uncorrectable (R268): the reads in flight, and the lines of its writes, which their pages' state
decides (R160, R264). -/
def State.failAll (s : State) (c i : Nat) : State :=
  let lines := (((s.chan c).sub i).wrote.map (·.2)).dedup
  let s := ((s.chan c).sub i).flight.foldl (fun s _ => s.readBack c i (fun s _ => (s, .uncorrectable))) s
  lines.foldl (fun s l => if l * 64 < s.hostBase then s.ueReserve l else s.ueLine l) s

/-- A replay begins, or its next attempt (R266): the rank's banks are precharged, and every command within the devices' alert latency
before the fall is to be issued again. -/
def Sub.startReplay (x : Sub) (clk : Nat × Nat) (latency rank tries : Nat) : Sub :=
  let first := x.replay.isNone
  let redo := if first then x.hist.filter (fun e => decide (clk.2 ≤ e.getD 6 0 + latency)) else x.redo
  { x.closeRank clk rank with
    replay := some rank
    tries := tries
    redo := redo
    again := redo
    wrote := if first then x.wrote.filter (fun e => decide (clk.2 ≤ e.1 + latency)) else x.wrote }

/-- ALERT_FALL (R266): the commands before the fall are replayed; a fall during a replay is a failed attempt, and the third
in a row freezes the channel. While SPILLING the rank is retrained and replayed once more, and a fourth completes the
commands as uncorrectable (R268). -/
def alertFall (c i rank cause : Nat) (s : State) : State :=
  if s.fget (Fld.DRC_STS.STATE c) != 2 then s
  else
    let x := (s.chan c).sub i
    let tries := if x.replay.isSome then x.tries + 1 else 0
    let clk := s.tick c
    let s := s.modChan c (fun k => k.modSub i (fun x => x.startReplay clk (Config.alertNs c) rank tries))
    if tries < 3 then s.bump (Fld.DRC_ALERT_CNT.REPLAYS c) (Fld.DRC_ALERT_CNT.RP_SAT c)
    else if s.dev == .spilling then
      if tries = 3 then (s.setRetrain c rank true).bump (Fld.DRC_ALERT_CNT.REPLAYS c) (Fld.DRC_ALERT_CNT.RP_SAT c)
      else
        (s.failAll c i).modChan c (fun k => k.modSub i (fun x => { x with
          replay := none
          redo := []
          again := []
          tries := 0
          wrote := [] }))
    else s.freeze c i rank cause
def execAlertFall (dt ch sub rank cause : Nat) (s : State) : Host.Outcome State Fault Refusal :=
  .next (alertFall ch sub rank cause (s.elapse dt))

/-- The rill's pages whose reads a channel frozen since `t` has held for 2 ms return to DIRTY, and its eddy copies to their slots
(R267). -/
def State.rillFails (s : State) (c t : Nat) : State :=
  let held := (s.chan c).subs.flatMap (fun e => (e.2.queue.filter (fun q =>
    q.port == scarabPort && decide (max q.since t + 2000000 ≤ s.now))).filterMap (fun q =>
      match q.kind with | .page p false => some p | _ => none))
  let on := fun (p : Nat) => held.contains p
  let gone := s.rill.sel.filter (fun i => on i.form.page)
  let s := (s.modRill (fun r => { r with
    sel := r.sel.filter (fun i => !on i.form.page)
    ready := r.ready.filter (fun p => !on p) })).dropReqs (fun q => match q.kind with
      | .page p false => on p && q.port == scarabPort
      | _ => false)
  gone.foldl (fun s i => match i.slot with
    | some e => if (tabGet Eddy.none e s.eddy).byItem then s
        else { s with eddy := tabSet Eddy.none e { tabGet Eddy.none e s.eddy with onWay := false } s.eddy }
    | none => if (s.page i.form.page).st == .cleaning then s.setPState i.form.page .dirty else s) s

/-- FREEZE_HOLD_EXPIRY (R267): every read held for 2 ms by a frozen channel is answered with poison, which is not stored; rill reads held
that long fail. -/
def freezeHoldExpiry (c : Nat) (s : State) : State :=
  match (s.chan c).frozenAt with
  | none => s
  | some t =>
    let late := fun (q : DReq) => match q.kind with
      | .read _ => decide (max q.since t + 2000000 ≤ s.now)
      | _ => false
    let gone := (s.chan c).subs.flatMap (fun e => e.2.queue.filter late)
    let f : Sub → Sub := fun x => { x with queue := x.queue.filter (fun q => !late q) }
    let s := s.modChan c (fun k => { k with subs := k.subs.map (fun e => (e.1, f e.2)) })
    let s := gone.foldl (fun s q => match q.kind with
      | .read rid => match s.fab.reqs.find? (fun r => r.rid == rid) with
        | some r => (s.drs r none).wakePage (r.dpa / 4096)
        | none => s
      | _ => s) s
    let s := s.rillFails c t
    s.settle
def execFreezeHoldExpiry (dt ch : Nat) (s : State) : Host.Outcome State Fault Refusal :=
  .next (freezeHoldExpiry ch (s.elapse dt))

/-! ## Self-refresh, recovery and what T does (R259, R267, R268) -/

/-- Every rank of a channel goes into self-refresh. -/
def State.selfRefresh (s : State) (c : Nat) : State :=
  (s.modChan c Chan.recall).fset (Fld.DRC_STS.STATE c) 4
/-- tXS, ns: TRFC_NS + 10 ns of JESD79-5 (PRESUMED, log entry 109). -/
def Chan.txs (k : Chan) : Nat := k.trfc + 10
/-- The ranks of a channel begin to come out of self-refresh (R254, R259). -/
def State.exitRefresh (s : State) (c : Nat) : State :=
  let t := s.now
  s.modChan c (fun k => { k with xsUntil := t + k.txs })
/-- The ranks come out of self-refresh. -/
def State.leaveRefresh (s : State) (c : Nat) : State := (s.exitRefresh c).fset (Fld.DRC_STS.STATE c) 2
/-- The recovery of a frozen channel begins (R267). -/
def State.chanRecovering (s : State) (c : Nat) : State := (s.exitRefresh c).fset (Fld.DRC_STS.STATE c) 5
/-- The recovery ends: every rank retrained, the write-merge buffer drained, held requests served; or frozen again. -/
def State.chanRecovered (s : State) (c : Nat) (ok : Bool) : State :=
  if ok then
    let s := (s.fset (Fld.DRC_STS.STATE c) 2).modChan c (fun k => { k with frozenAt := none })
    ((s.settings c (List.range (s.chan c).logRanks)).moveWmb c).wakeWmb.settle
  else (s.fset (Fld.DRC_STS.STATE c) 3).bump (Fld.DRC_ALERT_CNT.RECOVER_FAIL c) (Fld.DRC_ALERT_CNT.RF_SAT c)
/-- A channel FROZEN or RECOVERING leaves that state at T, at once (R268). -/
def State.unfreezeAll (s : State) : State :=
  (List.range 8).foldl (fun s c =>
    if s.fget (Fld.DRC_STS.STATE c) == 3 || s.fget (Fld.DRC_STS.STATE c) == 5 then
      (((s.setUnit (32 + c) 0).fset (Fld.DRC_STS.STATE c) 2).modChan c (fun k => { k with frozenAt := none })).exitRefresh c
    else s) s

end Sys2Proof.Machine
end

