-- ==== Sys2Proof/Machine/Flash.lean ====
section
/-! DEFINITION. The commands of the rill and the spillway log: ends of Scarab work, programs, erases and read-backs, the
scrub, and dies and channels leaving and returning (R6, R128, R212 to R219). -/

namespace Sys2Proof.Machine

/-- What follows any end of a program: reads queued at its dies, rings, requests, refill. -/
def State.afterFlash (s : State) (dies : List Nat) : State :=
  ((dies.foldl (fun s d => s.releaseDie d) s).settle.elyPump).showWeir

/-- SCARAB_PAGE_DONE (R6, R7). -/
def execScarabPageDone (dt page cluster : Nat) (s : State) : Host.Outcome State Fault Refusal :=
  .next (((s.elapse dt).scarabDone page cluster).settle)

/-- Die streams of a stripe and of the others being programmed in its band, by its sequence. -/
def State.diesOfStripe (s : State) (q : Nat) : List Nat :=
  match s.stripe? q with
  | some t => ((s.log.stripes.filter (fun x => x.band == t.band)).flatMap s.stripeDies).dedup
  | none => []

/-- STRIPE_PROGRAM_DONE (R128). -/
def stripeProgramDone (q us : Nat) (s : State) : State :=
  let dies := s.diesOfStripe q
  (s.stripeDone q us).afterFlash dies
def execStripeProgramDone (dt stripe tprogUs : Nat) (s : State) : Host.Outcome State Fault Refusal :=
  .next (stripeProgramDone stripe tprogUs (s.elapse dt))

/-- STRIPE_PROGRAM_FAIL (R215). -/
def stripeProgramFail (q c : Nat) (st : MediaStatus) (s : State) : State :=
  let dies := s.diesOfStripe q
  (s.stripeFail q c st).afterFlash dies
def execStripeProgramFail (dt stripe channel : Nat) (status : MediaStatus) (s : State) : Host.Outcome State Fault Refusal :=
  .next (stripeProgramFail stripe channel status (s.elapse dt))

/-- BAND_ERASE_DONE (R212). -/
def execBandEraseDone (dt band : Nat) (failed : List Nat) (status : MediaStatus) (s : State) :
    Host.Outcome State Fault Refusal :=
  let s := s.elapse dt
  .next ((s.bandErased band failed status).afterFlash ((s.log.dieOps.filter (fun e => e.2.erase)).map (·.1)))

/-- DIE_POLL_TIMEOUT (R216): a die silent for 100 ms leaves service for good. -/
def diePollTimeout (ds : Nat) (s : State) : State :=
  if s.dieIn ds then
    (((s.fault (srcOf (40 + ds / 32) 4) 0x24 (ds * 2 ^ 25)).retireDie ds 4).drawsToParity ds).settle
  else s
def execDiePollTimeout (dt ds : Nat) (s : State) : Host.Outcome State Fault Refusal :=
  .next (diePollTimeout ds (s.elapse dt))

/-- FOLD_READBACK_DONE (R213). -/
def execFoldReadbackDone (dt band : Nat) (level : ReadResult) (s : State) : Host.Outcome State Fault Refusal :=
  .next (((s.elapse dt).foldRead band level).tailAdvance)

/-- SCRUB_PERIOD (R219): SCRUB_DAYS of elapsed time have passed while SERVING or REFILLING; each referenced copy is read, of live
pages, checkpoints, sealed images and record pages alike, as page operations are free (R9), and its reads end under R218. -/
def scrubPeriod (s : State) : State :=
  if s.isOpen && decide (s.log.scrubAt + s.fget Fld.LOG_CFG.SCRUB_DAYS * dayNs ≤ s.now) then
    let t := s.now
    let all := s.refs.dedup
    (s.modLog (fun l => { l with scrubAt := t, scrubLeft := all, scrubOn := [] })).scrubMore
  else s
def execScrubPeriod (dt : Nat) (s : State) : Host.Outcome State Fault Refusal := .next (scrubPeriod (s.elapse dt))

/-- A CHANNEL_SERVICE record (Table 08-7): `what` 0 out, 1 back, 2 verify done. -/
def State.serviceRecord (s : State) (c what : Nat) : State :=
  let k := s.freeCtr
  ({ s with freeCtr := k + 1 } : State).journal 7 s.newestGen
    [(0x20, c), (0x21, what), (0x22, (Config.serviceCause k).toNat)]

/-- A second channel may not leave service while one is out (R217). -/
def State.channelMayLeave (s : State) (c : Nat) : Bool :=
  s.chIn c && s.fget Fld.LOG_CH_STS.OUT_OF_SERVICE == 0 && s.log.chOut.isEmpty

/-- CHANNEL_OUT (R217): channel `c` leaves service at the next beat boundary; while another is out the write is
ignored and counted (no register shows the count: log entry 112). -/
def channelOut (c : Nat) (s : State) : State :=
  if c < 16 && s.channelMayLeave c then (s.modLog (fun l => { l with chOut := [c] })).serviceRecord c 0
  else if c < 16 && s.chIn c then s.modLog (fun l => { l with outRefused := l.outRefused + 1 })
  else s
def execChannelOut (dt c : Nat) (s : State) : Host.Outcome State Fault Refusal := .next ((s.elapse dt).viaReg 0x140030 (channelOut c))

/-- Channels leaving service do so at a beat boundary (R217); reads on them go to parity, and a journal copy on one fails
(R377). -/
def State.channelsLeave (s : State) : State :=
  s.log.chOut.foldl (fun s c =>
    let s := s.fset Fld.LOG_CH_STS.OUT_OF_SERVICE (s.fget Fld.LOG_CH_STS.OUT_OF_SERVICE ||| 2 ^ c)
    let s := s.showCap
    let s := if s.unitSt (40 + c) == 1 then s.setUnit (40 + c) 2 else s
    let s := match jnlChan c with | some k => s.jnlCopyFail k | none => s
    forUpto 32 (fun j s => s.drawsToParity (32 * c + j)) s) (s.modLog (fun l => { l with chOut := [] }))

/-- CHANNEL_IN (R217): the channel returns and every member on it is verify-read. -/
def channelIn (c : Nat) (s : State) : State :=
  if c < 16 && !s.chIn c then
    let s := s.fset Fld.LOG_CH_STS.OUT_OF_SERVICE (s.fget Fld.LOG_CH_STS.OUT_OF_SERVICE - 2 ^ c)
    let s := s.showCap
    let s := (s.modLog (fun l => { l with verifying := setIns c l.verifying })).setUnit (40 + c) 0
    let back := match jnlChan c with | some k => if s.dieIn (32 * c + 1) then some k else none | none => none
    let s := match back with | some k => s.jnlCopyBack k | none => s
    (s.fset Fld.LOG_CH_STS.VERIFYING (s.fget Fld.LOG_CH_STS.VERIFYING ||| 2 ^ c)).serviceRecord c 1
  else s
def execChannelIn (dt c : Nat) (s : State) : Host.Outcome State Fault Refusal := .next ((s.elapse dt).viaReg 0x140030 (channelIn c))

/-- CHANNEL_VERIFY_DONE (R217): stripes whose member failed to decode, named by a log address each, are relocated;
CHANNEL_SERVICE records the end. -/
def channelVerifyDone (c : Nat) (bad : List Nat) (s : State) : State :=
  if s.log.verifying.contains c then
    let s := bad.foldl (fun s k => s.relocStripe k) (s.modLog (fun l => { l with verifying := setDel c l.verifying }))
    ((s.fset Fld.LOG_CH_STS.VERIFYING (s.fget Fld.LOG_CH_STS.VERIFYING - 2 ^ c)).serviceRecord c 2).tailAdvance
  else s
def execChannelVerifyDone (dt c : Nat) (bad : List Nat) (s : State) : Host.Outcome State Fault Refusal :=
  .next (channelVerifyDone c bad (s.elapse dt))

end Sys2Proof.Machine
end

