-- ==== Sys2Proof/Machine/Domains.lean ====
section
/-! DEFINITION. Power domains (chapter 16): the gate controllers' checks, pending requests and commit windows, wake sources
and restores. Modes: 0 ON, 1 RETENTION, 2 OFF. Classes: 0 FM, 1 LD policy, 2 firmware, 3 hardware. -/

namespace Sys2Proof.Machine

/-- Power domain `d` changes. -/
def State.modDom (s : State) (d : Nat) (f : Dom → Dom) : State :=
  { s with doms := tabSet Dom.new d (f (s.dom d)) s.doms }

/-- The gate unit that decides for a domain (Table 16-1). -/
def gateUnit (d : Nat) : Nat :=
  if d = 0 then 8 else if d = 1 then 6 else if d = 2 then 7
  else if d ≤ 6 then d - 2
  else if d = 7 then 5
  else if d ≤ 11 then (if d % 2 = 0 then 9 + (d - 8) / 2 else 11 + (d - 9) / 2)
  else if d ≤ 27 then 32 + (d - 12) / 2
  else if d ≤ 59 then 40 + (d - 28) / 2
  else if d ≤ 75 then 56 + (d - 60)
  else if d ≤ 91 then 16 + (d - 76)
  else if d = 92 then 76 else if d = 93 then 81 else if d = 94 then 79 else 13

/-- Domains whose residency PDM_RES counts (R406). -/
def hasRes (d : Nat) : Bool := d == 8 || d == 10 || (28 ≤ d && d ≤ 75)

/-- The residency of a domain is counted up to now, whole microseconds (R406). -/
def State.resTouch (s : State) (d : Nat) : State :=
  if hasRes d then
    let x := s.dom d
    let us := (s.now - x.modeAt) / 1000
    if us = 0 then s
    else (s.wrap (Fld.PDM_RES.RESIDENT_US d x.mode) (Fld.PDM_RES.OVF d x.mode) us).modDom d
      (fun x => { x with modeAt := x.modeAt + 1000 * us })
  else s

/-- The switch of a domain moves to a mode (R395); STATE shows it, 3 while it returns to ON. Domain 92 without power lets go of
PLUNGE_N (R77) and of the frames that wait; the ranks of a DRAM channel go into self-refresh with its domain 13 + 2ch (R259). SCB_CL_STS shows a cluster's mode, or that it is isolated (Table 18-6). -/
def State.switchDom (s : State) (d mode : Nat) : State :=
  let s := ((s.resTouch d).modDom d (fun x => { x with mode := mode, waking := false })).fset (Fld.PDM_MODE.STATE d) mode
  let s := if 60 ≤ d ∧ d ≤ 75 then
      s.fset (Fld.SCB_CL_STS.STATE (d - 60)) (if (s.dom d).isolated then 2 else if mode = 2 then 3 else mode)
    else s
  if d = 92 ∧ mode = 2 then { s.releasePlungeN with tx := [] }
  else if mode = 1 ∧ 13 ≤ d ∧ d ≤ 27 ∧ d % 2 = 1 ∧ s.fget (Fld.DRC_STS.STATE ((d - 13) / 2)) = 2 then s.selfRefresh ((d - 13) / 2)
  else s

/-- The domains of a DRAM channel are on while it is populated, and off while it is not (R238). -/
def State.dramPower (s : State) (c : Nat) (on : Bool) : State :=
  [12 + 2 * c, 13 + 2 * c].foldl (fun s d =>
    if (s.dom d).mode == 2 || !on then (s.switchDom d (if on then 0 else 2)).fset (Fld.PDM_MODE.MODE d) (if on then 0 else 2) else s) s

/-- A domain begins its return to ON (R401); it is ready at DOMAIN_READY. -/
def State.wakeDom (s : State) (d : Nat) : State :=
  let x := s.dom d
  let t := s.now
  if x.mode = 0 || x.waking then s
  else (s.modDom d (fun x => { x with waking := true, wasOff := decide (x.mode = 2), wakeAt := t })).fset (Fld.PDM_MODE.STATE d) 3

/-- The save of a domain's list to its chrysalis slot, ns, at 1 KiB per µs (R397, Table 16-1). -/
def saveNs (d : Nat) : Nat :=
  if 3 ≤ d ∧ d ≤ 6 then 4000 else if d = 7 then 1000 else if d = 8 ∨ d = 10 then 2000
  else if 12 ≤ d ∧ d ≤ 27 then (if d % 2 = 0 then 4000 else 2000)
  else if 28 ≤ d ∧ d ≤ 59 then 1000 else if 60 ≤ d ∧ d ≤ 75 then 500 else if 76 ≤ d ∧ d ≤ 91 then 250
  else if d = 92 then 1000 else if d = 95 then 2000 else 0
/-- The commit window, ns (R397). -/
def commitNs : Nat := 4000
/-- The row of a domain is ready so many ns after its wake event (Table 16-3); domains without a row at once (log entry 118). -/
def readyNs (d : Nat) : Nat :=
  if 3 ≤ d ∧ d ≤ 6 then 22000 else if d = 7 then 5000 else if d = 8 ∨ d = 10 then 120000
  else if 12 ≤ d ∧ d ≤ 27 then 116000 else if 28 ≤ d ∧ d ≤ 59 then 68000 else if 60 ≤ d ∧ d ≤ 75 then 36000
  else if 76 ≤ d ∧ d ≤ 91 then 28000 else if d = 92 then 121000 else if d = 95 then 24000 else 0

/-- A pending request goes, with what PENDING shows. -/
def State.clearPend (s : State) (d : Nat) : State :=
  (s.modDom d (fun x => { x with pend := none })).fset (Fld.PDM_MODE.PENDING d) 0

/-- A refusal or an abort is reported (R399, R405): PDM_MODE, and for FM and LD policy PDM_REQ_CNT and PDM_REQ_LAST. -/
def State.pdmReport (s : State) (d cls mode reason : Nat) (refused : Bool) : State :=
  let u := gateUnit d
  let s := ((s.fset (Fld.PDM_MODE.LAST_UNIT d) u).fset (Fld.PDM_MODE.LAST_REASON d) reason).fset
    (Fld.PDM_MODE.LAST_CLASS d) cls
  if cls ≤ 1 then
    let s := if refused then s.bump (Fld.PDM_REQ_CNT.REFUSALS cls) (Fld.PDM_REQ_CNT.RF_SAT cls)
      else s.bump (Fld.PDM_REQ_CNT.ABORTS cls) (Fld.PDM_REQ_CNT.AB_SAT cls)
    let s := ((s.fset (Fld.PDM_REQ_LAST.DOMAIN cls) d).fset (Fld.PDM_REQ_LAST.UNIT cls) u).fset
      (Fld.PDM_REQ_LAST.REASON cls) reason
    (s.fset (Fld.PDM_REQ_LAST.MODE cls) mode).fset (Fld.PDM_REQ_LAST.BEAT cls) s.curBeat
  else s

/-- A pending request is aborted for a reason. -/
def State.pdmAbort (s : State) (d reason : Nat) : State :=
  match (s.dom d).pend with
  | some (mode, cls) => (s.clearPend d).pdmReport d cls mode reason false
  | none => s

/-! ## Conditions of Table 16-1 -/

/-- A ring of some LD is in use: ACTIVE or HALTED, never used yet though it may be, an entry held, or a descriptor in flight. -/
def State.ringsInUse (s : State) : Bool :=
  s.regs.any (fun e => isRingState e.1 && e.2 != 0) || s.rings.any (fun e => !e.2.accs.isEmpty)
/-- Clusters but that of domain `d` that are ON with no request pending or in its window. -/
def State.clustersOn (s : State) (d : Nat) : Nat :=
  ((List.range 16).filter (fun k =>
    let x := s.dom (60 + k)
    60 + k != d && x.mode == 0 && x.pend.isNone && x.window.isNone)).length
/-- An LD is bound on port `p`. -/
def State.portBound (s : State) (p : Nat) : Bool := allLds.any (fun n => s.bound n && (s.ld n).port == p)
/-- An LD is bound. -/
def State.anyBound (s : State) : Bool := allLds.any s.bound
/-- DRAM channel `ch` is populated (R238). -/
def State.populated (s : State) (ch : Nat) : Bool := decide (ch < 2 ^ s.ways)
/-- A domain is in a mode, or a request to it waits. -/
def State.isOrWill (s : State) (d mode : Nat) : Bool :=
  let x := s.dom d
  x.mode == mode || x.pend.map (·.1) == some mode || x.window.map (·.1) == some mode
/-- The device is SEALED or in BASIN. -/
def State.quietDev (s : State) : Bool := s.dev == .sealed || s.dev == .basin

/-- Reason 1, FIXED: the domain never switches, or never takes this mode, or not from this class. -/
def pdmFixed (d cls mode : Nat) : Bool :=
  d ≤ 2 || d == 94 || 2 < mode ||
  (mode == 1 && (d == 9 || d == 11 || d == 93)) ||
  (mode == 2 && ((3 ≤ d && d ≤ 7) || d == 92)) ||
  (cls == 1 && !((8 ≤ d && d ≤ 11) || d == 92 || d == 95)) ||
  (cls == 1 && mode == 1 && (d == 8 || d == 10)) ||
  (cls == 0 && ((12 ≤ d && d ≤ 27) || 76 ≤ d)) ||
  (cls == 2 && !((3 ≤ d && d ≤ 8) || d == 10 || (28 ≤ d && d ≤ 75))) ||
  (cls == 2 && mode == 2)

/-- Reason 5, AUTONOMOUS: an FM request for a firmware-managed domain outside its OFF cases; its return to ON where OFF is
its own (log entry 23). -/
def pdmAutonomous (d cls mode : Nat) : Bool :=
  cls == 0 && ((3 ≤ d && d ≤ 7) || (60 ≤ d && d ≤ 75) || (mode == 1 && (d == 8 || d == 10 || (28 ≤ d && d ≤ 59))))

/-- Reason 7, DEVICE_STATE: the device state forbids the mode (Table 16-1, R400). -/
def State.pdmDevState (s : State) (d mode : Nat) : Bool :=
  (mode != 0 && s.pdmLock && !(d == 92 && s.dev == .sealed)) ||
  (mode == 1 && d == 92 && !(s.isStandalone || s.quietDev)) ||
  (mode == 1 && 28 ≤ d && d ≤ 59 && s.dev == .refilling)

/-- The check of R399: the first reason that refuses a request, 0 when none does; hardware requests are never refused
(R400). The reasons are tried in the order of their codes (log entry 23). -/
def State.pdmCheck (s : State) (d cls mode : Nat) : Nat :=
  let ch := (d - 12) / 2
  if cls == 3 then 0
  else if pdmFixed d cls mode then 1
  else if mode == 2 && 12 ≤ d && d ≤ 27 && s.populated ch then 2
  else if mode == 2 && ((28 ≤ d && d ≤ 59 && s.chIn ((d - 28) / 2)) ||
      (60 ≤ d && d ≤ 75 && !(s.dom d).isolated)) then 3
  else if (mode == 2 && 8 ≤ d && d ≤ 11 && s.portBound ((d - 8) / 2)) || (mode == 2 && d == 95 && s.anyBound) ||
      (mode == 1 && d == 95 && s.ringsInUse) then 4
  else if pdmAutonomous d cls mode then 5
  else if (s.dom d).isolated then 6
  else if s.pdmDevState d mode then 7
  else if (mode == 1 && d == 7 && decide (((List.range 4).filter (fun i => !(s.isOrWill (3 + i) 1))).length > 1)) ||
      (mode == 2 && (d == 9 || d == 11) && !(s.isOrWill (d - 1) 2)) then 11
  else if mode == 1 && 60 ≤ d && d ≤ 75 && decide (s.clustersOn d < s.fget Fld.PDM_POLICY.MIN_ON) then 12
  else 0

/-- The domain is at an idle point for the mode it waits for (R397, Table 16-1). -/
def State.idleOk (s : State) (d mode : Nat) : Bool :=
  if 3 ≤ d && d ≤ 6 then true
  else if d == 7 then s.twb.cur.isNone && s.twb.stopAt.isNone && (List.range 4).all (fun i => (s.dom (3 + i)).mode == 1)
  else if d == 8 || d == 10 then
    let p := (d - 8) / 2
    if mode == 1 then !s.on (Fld.FAB_PORT_STS.LINK_UP p) && decide (tabGet 1 p s.fab.downAt + 1000000000 ≤ s.now + 1)
    else !s.portBound p
  else if d == 9 || d == 11 then !s.portBound ((d - 9) / 2)
  else if 28 ≤ d && d ≤ 59 then
    let c := (d - 28) / 2
    !(s.log.dieOps.any (fun e => e.1 / 32 == c)) &&
    !(s.rfl_.draws.any (fun x => x.dies.any (fun ds => ds / 32 == c) && (x.step == .reading || x.step == .queued)))
  else if 60 ≤ d && d ≤ 75 then mode == 2 || decide (s.fget Fld.PDM_POLICY.MIN_ON ≤ s.clustersOn d)
  else if d == 95 then !s.ringsInUse && (mode == 1 || !s.anyBound)
  else true

/-! ## Requests -/

/-- PDM_POLICY lets the housekeeper ask for the mode (Table 16-11): the firmware for RETENTION of flash channels and clusters, LD
policy for domain 92, the ring engine and the ports. -/
def State.policyAllows (s : State) (d cls mode : Nat) : Bool :=
  if cls = 2 && mode = 1 && 28 ≤ d && d ≤ 59 then s.on Fld.PDM_POLICY.FLASH_RET
  else if cls = 2 && mode = 1 && 60 ≤ d && d ≤ 75 then s.on Fld.PDM_POLICY.SCARAB_RET
  else if cls = 1 && mode = 1 && d = 92 then s.on Fld.PDM_POLICY.THOBOR_RET
  else if cls = 1 && mode = 1 && d = 95 then s.on Fld.PDM_POLICY.RING_RET
  else if cls = 1 && mode = 2 && d = 95 then s.on Fld.PDM_POLICY.RING_OFF
  else if cls = 1 && mode = 2 && 8 ≤ d && d ≤ 11 then (s.fget Fld.PDM_POLICY.PORT_OFF).testBit ((d - 8) / 2)
  else true

/-- A mode that no request gives a DRAM channel's domain (R238): OFF while the channel is populated, another while it is not. -/
def State.dramFixed (s : State) (d mode : Nat) : Bool :=
  decide (12 ≤ d) && decide (d ≤ 27) && ((mode == 2) == s.populated ((d - 12) / 2))

/-- DOMAIN_WAIT (R397, R398, R399): MODE is set, the request checked at once, then pending, or kept for after the switch.
A request to ON needs no idle point. One that PDM_POLICY keeps the housekeeper from is not made. -/
def domainWait (d cls mode : Nat) (s : State) : State :=
  if 95 < d || !s.policyAllows d cls mode then s
  else
    let s := s.fset (Fld.PDM_MODE.MODE d) mode
    let why := s.pdmCheck d cls mode
    if why != 0 then s.pdmReport d cls mode why true
    else if (cls == 3 && pdmFixed d 3 mode) || s.dramFixed d mode then s
    else if (s.dom d).window.isSome then s.modDom d (fun x => { x with next := some (mode, cls) })
    else if mode = 0 then (s.clearPend d).wakeDom d
    else if (s.dom d).mode = mode && !(s.dom d).waking then s.clearPend d
    else
      let t := s.now
      (s.modDom d (fun x => { x with pend := some (mode, cls), since := t })).fset (Fld.PDM_MODE.PENDING d) 1
def execDomainWait (dt d cls mode : Nat) (s : State) : Host.Outcome State Fault Refusal :=
  if cls = 0 then .next ((s.elapse dt).viaReg 0x1C0200 (domainWait d cls mode)) else .next (domainWait d cls mode (s.elapse dt))

/-- DOMAIN_CANCEL (R398): a pending request goes as an abort; once its window has begun it is not cancelled. -/
def domainCancel (d : Nat) (s : State) : State := if (s.dom d).window.isSome then s else s.pdmAbort d 10
def execDomainCancel (dt d : Nat) (s : State) : Host.Outcome State Fault Refusal := .next ((s.elapse dt).viaReg 0x1C0200 (domainCancel d))

/-- DOMAIN_IDLE_POINT (R397): the clamps close, the save list is written and the commit window begins. -/
def domainIdlePoint (d : Nat) (s : State) : State :=
  match (s.dom d).pend with
  | some (mode, cls) =>
    let t := s.now
    if s.idleOk d mode && (s.dom d).window.isNone then
      ((s.clearPend d).modDom d (fun x => { x with window := some (mode, cls), wakeNext := false, next := none, winAt := t })).fset
        (Fld.PDM_MODE.STATE d) 3
    else s
  | none => s
def execDomainIdlePoint (dt d : Nat) (s : State) : Host.Outcome State Fault Refusal :=
  .next (domainIdlePoint d (s.elapse dt))

/-- Word `d` of a wake mask (Table 16-8). -/
def State.wakes (s : State) (w d : Nat) : Bool := (s.fget (Fld.PDM_WAKE_MASK.DOMAINS w (d / 32))).testBit (d % 32)

/-- The commit window of a domain ends, so many ns after its idle point: the save comes first, of a domain that enters RETENTION
(R397). -/
def windowNs (d mode : Nat) : Nat := (if mode = 1 then saveNs d else 0) + commitNs

/-- DOMAIN_COMMIT_WINDOW_END (R397, R398, R404): the switch moves; then an active level of its mask, or the next request,
acts. -/
def domainCommitWindowEnd (d : Nat) (s : State) : State :=
  match (s.dom d).window with
  | some (mode, _) =>
    let x := s.dom d
    if s.now < x.winAt + windowNs d mode then s
    else
      let s := (s.modDom d (fun x => { x with window := none, next := none, wakeNext := false })).switchDom d mode
      let level := x.wakeNext || [0, 1, 2].any (fun w => s.wakes w d && (s.fget Fld.PDM_WAKE_STS.LEVEL).testBit w)
      let s := if level && mode = 1 then s.wakeDom d else s
      match x.next with
      | some (m, c) => domainWait d c m s
      | none => s
  | none => s
def execDomainCommitWindowEnd (dt d : Nat) (s : State) : Host.Outcome State Fault Refusal :=
  .next (domainCommitWindowEnd d (s.elapse dt))

/-- DOMAIN_NO_IDLE_TIMEOUT (R397): no idle point within 10 ms of WAIT. -/
def domainNoIdleTimeout (d : Nat) (s : State) : State :=
  if (s.dom d).pend.isSome && decide ((s.dom d).since + 10000000 ≤ s.now) then s.pdmAbort d 8 else s
def execDomainNoIdleTimeout (dt d : Nat) (s : State) : Host.Outcome State Fault Refusal :=
  .next (domainNoIdleTimeout d (s.elapse dt))

/-! ## Wakes -/

/-- What one source does to one domain of its mask (R403, R404). -/
def State.wakeOne (s : State) (w d : Nat) : State :=
  let x := s.dom d
  if x.window.isSome then
    if w ≤ 2 then s.modDom d (fun x => { x with wakeNext := true })
    else if w = 3 then s.bump Fld.PDM_WAKE_CNT.LOST_TWO_WIRE Fld.PDM_WAKE_CNT.TW_SAT
    else s.bump Fld.PDM_WAKE_CNT.LOST_THOBOR Fld.PDM_WAKE_CNT.TH_SAT
  else
    let s := s.pdmAbort d 9
    if x.mode = 1 then s.wakeDom d else s

/-- WAKE_SOURCE (R403, R404): the source is latched; outside OFF it wakes the domains of its mask in RETENTION and aborts
their pending requests. -/
def wakeSource (w : Nat) (s : State) : State :=
  if 4 < w then s
  else
    let s := s.fset Fld.PDM_WAKE_STS.LATCHED (s.fget Fld.PDM_WAKE_STS.LATCHED ||| 2 ^ w)
    let s := if w ≤ 2 then s.fset Fld.PDM_WAKE_STS.LEVEL (s.fget Fld.PDM_WAKE_STS.LEVEL ||| 2 ^ w) else s
    if s.dev == .off then s
    else ((List.range 96).filter (fun d => s.wakes w d)).foldl (fun s d => s.wakeOne w d) s
def execWakeSource (dt w : Nat) (s : State) : Host.Outcome State Fault Refusal := .next (wakeSource w (s.elapse dt))

/-- A wake source stops being active. -/
def State.levelOff (s : State) (w : Nat) : State :=
  let l := s.fget Fld.PDM_WAKE_STS.LEVEL
  if l.testBit w then s.fset Fld.PDM_WAKE_STS.LEVEL (l - 2 ^ w) else s

/-- PLUNGE_N low is wake source 2, a level (Table 16-4); the line's edge then acts as R78 states. -/
def plungeNWake (low : Bool) (s : State) : State :=
  if low then wakeSource 2 s else if s.col.driveLow then s else s.levelOff 2
def execPlungeNEdge (edge : PinEdge) (s : State) : Host.Outcome State Fault Refusal :=
  .next (plungeNWake edge.low (plungeNEdge edge.low (s.elapse edge.dt)))

/-- Registers with a byte offset in a range return to their reset values. -/
def State.resetRange (s : State) (lo hi : Nat) : State :=
  { s with regs := s.regs.filter (fun e => decide (e.1 / 8 < lo) || decide (hi ≤ e.1 / 8)) }

/-- The registers of a domain that kept nothing return to their reset values (R395): a port's FAB_ registers, the ring
engine's RNG_ registers and rings. -/
def State.domReset (s : State) (d : Nat) : State :=
  if d == 9 || d == 11 then s.resetRange (0x100000 + 0x80 * (d - 9)) (0x100100 + 0x80 * (d - 9))
  else if d == 95 then { s.resetRange 0x200000 0x400000 with rings := [] } else s

/-- DOMAIN_READY (R401): the restore is complete. A slot that fails its CRC leaves reset values and a SRAM_UE message; a
DRAM channel then retrains its ranks, and leaves self-refresh in either case. A flash channel whose domains are both ON takes the
reads that waited (R402). -/
def domainReady (d : Nat) (crcOk : Bool) (failWord : Nat) (s : State) : State :=
  let x := s.dom d
  if !x.waking || decide (s.now < x.wakeAt + readyNs d) then s
  else
    let s := s.switchDom d 0
    let bad := !x.wasOff && !crcOk
    let s := if x.wasOff || bad then s.domReset d else s
    let s := if bad then s.fault (srcOf 8 1) 0x02 failWord else s
    if 12 ≤ d && d ≤ 27 && d % 2 = 1 then
      let ch := (d - 13) / 2
      let s := if s.fget (Fld.DRC_STS.STATE ch) == 4 then s.leaveRefresh ch else s
      if bad then forUpto (s.chan ch).logRanks (fun r s => s.setRetrain ch r true) s else s
    else if 28 ≤ d && d ≤ 59 && s.chAwake ((d - 28) / 2) then
      (List.range 32).foldl (fun s i => s.nextRead (32 * ((d - 28) / 2) + i)) s
    else s
def execDomainReady (dt d : Nat) (slotCrcOk : Bool) (failWord : Nat) (s : State) : Host.Outcome State Fault Refusal :=
  .next (domainReady d slotCrcOk failWord (s.elapse dt))

/-- A domain needed by the device's own work is woken by hardware (R402). -/
def State.need (s : State) (d : Nat) : State :=
  if (s.dom d).mode = 1 then (s.clearPend d).wakeDom d else s

/-- A domain in its commit window as a spill trigger is detected (R398, R400): the request kept for after the switch is cancelled, and
a domain other than the fabric PHYs that goes into RETENTION returns to ON as soon as its switch has moved. -/
def State.pdmWindowSpill (s : State) (d : Nat) : State :=
  match (s.dom d).window with
  | none => s
  | some (_, c) =>
    let s := match (s.dom d).next with
      | some (m, k) => if k < 3 then (s.modDom d (fun x => { x with next := none })).pdmReport d k m 7 false else s
      | none => s
    if c < 3 && d != 8 && d != 10 then s.modDom d (fun x => { x with wakeNext := true }) else s

/-- What a spill trigger does to the domains (R400): pending requests of FM, LD policy and firmware are cancelled, domains
in RETENTION but the fabric PHYs return to ON, and later requests are refused until the device leaves SEALED. -/
def State.pdmSpill (s : State) : State :=
  let s : State := (List.range 96).foldl (fun s d =>
    let s := match (s.dom d).pend with
      | some (_, c) => if c < 3 then s.pdmAbort d 7 else s
      | none => s
    let s := s.pdmWindowSpill d
    if (s.dom d).mode = 1 && d != 8 && d != 10 then s.wakeDom d else s) s
  { s with pdmLock := true }

/-- Hardware moves a domain at once (R400): fault isolation and hold-up. -/
def State.hwDom (s : State) (d mode : Nat) (held : Bool) : State :=
  (((s.clearPend d).modDom d (fun x => { x with window := none, next := none, isolated := held })).switchDom d mode)

end Sys2Proof.Machine
end

