-- ==== Sys2Proof/Machine/Rails.lean ====
section
/-! DEFINITION. The rail sequencer and supervisor (chapter 15): slots, judgement, resets, hold-up, VAON and the power-on
reset. Sequencer states: 0 OFF, 1 POWERING_UP, 2 ON, 3 POWERING_DOWN, 4 HOLDUP, 5 LOCKED_OFF. -/

namespace Sys2Proof.Machine

/-- The sequencer's own state changes. -/
def State.modPsq (s : State) (f : PsqState → PsqState) : State := { s with psq := f s.psq }
/-- A rail as it stands before any sequence. -/
def Rail.new : Rail := { }
/-- Rail `r`. -/
def State.rail (s : State) (r : Nat) : Rail := tabGet Rail.new r s.psq.rails
/-- Rail `r` changes. -/
def State.modRail (s : State) (r : Nat) (f : Rail → Rail) : State :=
  s.modPsq (fun q => { q with rails := tabSet Rail.new r (f (tabGet Rail.new r q.rails)) q.rails })
/-- The 32 rails. -/
def allRails : List Nat := List.range 32
/-- State of the sequencer. -/
def State.seqSt (s : State) : Nat := s.fget Fld.PSQ_STS.STATE
def State.setSeq (s : State) (st : Nat) : State := s.fset Fld.PSQ_STS.STATE st
/-- A rail is sequenced: in use, of a class that is (Table 15-2). -/
def State.sequenced (s : State) (r : Nat) : Bool :=
  s.on (Fld.PSQ_RAIL_CFG.EN r) && (s.rail r).cls != 4 && decide ((s.rail r).cls ≤ 5)
/-- F (R382). -/
def State.railF (s : State) (r : Nat) : Nat := s.fget (Fld.PSQ_RAIL_CFG.FILTER r) + 1
/-- RAIL_EN[r] is driven. -/
def State.driveRail (s : State) (r : Nat) (high : Bool) : State :=
  if s.on (Fld.PSQ_RAIL_STS.ENABLED r) == high then s
  else (s.fput (Fld.PSQ_RAIL_STS.ENABLED r) high).emit (.pin (.railEn r) high)

/-! ## Reset outputs (R389) -/

/-- Rails of a reset output's mask, 8 being the core reset: every CORE-class rail in use. -/
def State.rstMask (s : State) (i : Nat) : List Nat :=
  if i = 8 then allRails.filter (fun r => s.on (Fld.PSQ_RAIL_CFG.EN r) && (s.rail r).cls == 1)
  else allRails.filter (fun r => (s.fget (Fld.PSQ_RST_CFG.MASK i)).testBit r)
/-- A reset output is asserted. -/
def State.rstLow (s : State) (i : Nat) : Bool :=
  if i = 8 then s.on Fld.PSQ_RST_STS.CORE_RST else (s.fget Fld.PSQ_RST_STS.ASSERTED).testBit i
/-- In reset or without core power both links are down and every LD vanishes from the fabric with the requests it held (Table
11-5, R293). That is no link down of R292: nothing is counted and no fault is sent. -/
def State.linksGone (s : State) : State :=
  let s := [0, 1].foldl (fun s p => s.fset (Fld.FAB_PORT_STS.LINK_UP p) 0) s
  let gone : Nat × Ld → Nat × Ld := fun e => (e.1, { e.2 with reach := false, decs := [] })
  { s with
    lds := s.lds.map gone
    fab := { s.fab with reqs := [], granted := [], gpf := [] } }

/-- A reset output is driven low. -/
def State.rstAssert (s : State) (i : Nat) : State :=
  let s := s.modPsq (fun q => { q with okSince := tabDel i q.okSince })
  if i = 8 then (s.fset Fld.PSQ_RST_STS.CORE_RST 1).linksGone
  else if s.rstLow i then s
  else (s.fset Fld.PSQ_RST_STS.ASSERTED (s.fget Fld.PSQ_RST_STS.ASSERTED ||| 2 ^ i)).emit (.pin (.modRst i) false)
/-- A reset output is released. -/
def State.rstRelease (s : State) (i : Nat) : State :=
  if i = 8 then s.fset Fld.PSQ_RST_STS.CORE_RST 0
  else if s.rstLow i then
    (s.fset Fld.PSQ_RST_STS.ASSERTED (s.fget Fld.PSQ_RST_STS.ASSERTED - 2 ^ i)).emit (.pin (.modRst i) true)
  else s
/-- The condition of a release: the sequencer is ON and every rail of the mask is good. -/
def State.rstOk (s : State) (i : Nat) : Bool :=
  s.seqSt == 2 && (s.rstMask i).all (fun r => s.on (Fld.PSQ_RAIL_STS.GOOD r))
/-- The stretch of each asserted output runs from when its condition begins to hold. -/
def State.rstWatch (s : State) : State :=
  (List.range 9).foldl (fun s i =>
    if s.rstOk i then
      if s.psq.okSince.any (fun e => e.1 == i) then s
      else
        let t := s.now
        s.modPsq (fun q => { q with okSince := tabIns i t q.okSince })
    else s.modPsq (fun q => { q with okSince := tabDel i q.okSince })) s
/-- Every reset is asserted. -/
def State.rstAll (s : State) : State := (List.range 9).foldl (fun s i => s.rstAssert i) s

/-! ## The device loses core power -/

/-! ## Charger outputs (R104, R105) -/

/-- PKp_CHG_LIM carries CHG_LIM_PCT while PKp_CHG_EN is high, and is low otherwise (R105). -/
def State.driveLim (s : State) (p : Nat) : State :=
  s.emit (.chgLim p (if s.on (Fld.CIS_PACK_STS.CHARGING p) then s.fget (Fld.CIS_PACK_CFG.CHG_LIM_PCT p) else 0))
/-- PKp_CHG_EN, and PKp_CHG_LIM with it (R104, R105). -/
def State.driveChg (s : State) (p : Nat) (high : Bool) : State :=
  if s.on (Fld.CIS_PACK_STS.CHARGING p) == high then s
  else ((s.fput (Fld.CIS_PACK_STS.CHARGING p) high).emit (.pin (.chgEn p) high)).driveLim p
/-- No pack is charged while the device is OFF (R104). -/
def State.chargersOff (s : State) : State :=
  [0, 1, 2, 3].foldl (fun s p =>
    if s.on (Fld.CIS_PACK_STS.CHARGING p) then (s.driveChg p false).fset (Fld.CIS_PACK_STS.CHG_BLOCK p) 4 else s) s

/-! ## OFF -/

/-- The device is OFF (R31): requests for FM, LD policy and firmware are allowed again (R400), held COMMITs are gone (R170),
PLUNGE_N is released with domain 92 (R77), and the LDs vanish from the fabric (R292). -/
def State.goOff (s : State) : State :=
  let s := ((s.setDev .off).chargersOff.releasePlungeN.linksGone).modCol (fun c => { c with window := none, ownCut := none, reps := [] })
  let s := s.modPsq (fun q => { q with detect := false })
  { s.blockReset (fun o => !inVaon o) with
    pdmLock := false
    tx := []
    staged := []
    captured := []
    commitHeld := [] }

/-! ## Sequences (R381 to R384) -/

/-- Slot and timeout fields and classes come into force with a sequence (R392). -/
def State.latchSlots (s : State) : State :=
  allRails.foldl (fun s r =>
    let a := s.fget (Fld.PSQ_RAIL_CFG.ON_SLOT r)
    let b := s.fget (Fld.PSQ_RAIL_CFG.OFF_SLOT r)
    let c := s.fget (Fld.PSQ_RAIL_CFG.TIMEOUT r)
    let d := s.fget (Fld.PSQ_RAIL_CFG.CLASS r)
    s.modRail r (fun x => { x with onS := a, offS := b, tmo := c, cls := d })) s

/-- Slots begun since the start event of the running sequence. -/
def State.slotNow (s : State) : Nat := (s.now - s.psq.startAt) / 32000

/-- Rails whose on-slot has come are switched on, in a power-up; off by their off-slot, in a power-down (R381, R383). -/
def State.slotAct (s : State) : State :=
  let k := s.slotNow
  let s := s.fsat Fld.PSQ_STS.SLOT k
  let due := fun (r : Nat) => s.sequenced r && decide ((if s.seqSt == 1 then (s.rail r).onS else (s.rail r).offS) ≤ k)
  let up := s.seqSt == 1
  if s.seqSt == 1 || s.seqSt == 3 then
    (allRails.filter due).foldl (fun s r => s.driveRail r up) s
  else s

/-- A rail with EN clear is not enabled: its RAIL_EN stays low (R380), from the beat in which a COMMIT clears EN on. -/
def State.railsUnused (s : State) : State :=
  allRails.foldl (fun s r =>
    if s.on (Fld.PSQ_RAIL_CFG.EN r) then s else (s.driveRail r false).fset (Fld.PSQ_RAIL_STS.GOOD r) 0) s

/-- The rails of class INPUT, which no sequence switches, are high (Table 15-2). -/
def State.inputRails (s : State) : State :=
  allRails.foldl (fun s r => if s.on (Fld.PSQ_RAIL_CFG.EN r) && (s.rail r).cls == 4 then s.driveRail r true else s) s

/-- A power-up starts; a hold-up before it had driven the INPUT rails low too (DEDUCED, log entry 98). -/
def State.powerUp (s : State) : State :=
  let t := s.now
  let s := ((s.latchSlots.inputRails.setSeq 1).fset Fld.PSQ_STS.PENDING 0).modPsq (fun q => { q with
    startAt := t
    failed := false
    retryAt := none })
  let s := allRails.foldl (fun s r => (s.modRail r (fun x => { x with
    goodRun := 0
    timed := false
    leaving := false
    judged := false
    low := 0
    high := 0
    inside := 0 })).fset (Fld.PSQ_RAIL_STS.GOOD r) 0) s
  s.slotAct

/-- A power-down starts: every reset low first, then rails by their off-slots; rails leaving are not judged (R383). -/
def State.powerDown (s : State) (failed : Bool) : State :=
  let t := s.now
  let s := (((s.rstAll.latchSlots).setSeq 3).fset Fld.PSQ_STS.PENDING 0).modPsq (fun q => { q with
    startAt := t
    failed := failed
    okSince := [] })
  let s := allRails.foldl (fun s r => if s.sequenced r then
    (s.modRail r (fun x => { x with leaving := true })).fset (Fld.PSQ_RAIL_STS.GOOD r) 0 else s) s
  s.slotAct

/-- The last on-slot, or off-slot, of the sequenced rails. -/
def State.lastSlot (s : State) (up : Bool) : Nat :=
  ((allRails.filter s.sequenced).map (fun r => if up then (s.rail r).onS else (s.rail r).offS)).foldl max 0

/-- POWER_UP_COMPLETE (R382, R384): the last on-slot has passed and every REQUIRED rail is good or timed out. -/
def State.upDone (s : State) : State :=
  let req := allRails.filter (fun r => s.sequenced r && s.on (Fld.PSQ_RAIL_CFG.REQUIRED r))
  let good := fun (r : Nat) => s.on (Fld.PSQ_RAIL_STS.GOOD r)
  if s.psq.startAt + 32000 * s.lastSlot true ≤ s.now ∧ req.all (fun r => good r || (s.rail r).timed) then
    if req.any (fun r => (s.rail r).timed) then
      (s.satUp Fld.PSQ_STS.RETRIES).powerDown true
    else if s.fget Fld.PSQ_STS.PENDING == 2 then (s.fset Fld.PSQ_STS.RETRIES 0).powerDown false
    else (((s.setSeq 2).fset Fld.PSQ_STS.PENDING 0).fset Fld.PSQ_STS.RETRIES 0).rstWatch
  else s

/-- POWER_DOWN_COMPLETE (R384, R382): the last off-slot has passed; with its rails down the device is OFF (Table 02-7). -/
def State.downDone (s : State) : State :=
  if s.psq.startAt + 32000 * s.lastSlot false ≤ s.now then
    let on_ := s.fget Fld.PSQ_STS.PENDING == 1 && s.on Fld.PSQ_STS.INPUT_GOOD
    let s := if s.dev == .off then s else s.goOff
    let s := s.fset Fld.PSQ_STS.PENDING 0
    let spent := s.psq.failed && decide (s.fget Fld.PSQ_SEQ_CFG.SEQ_RETRIES ≤ s.fget Fld.PSQ_STS.RETRIES)
    if on_ then (if spent then s.fset Fld.PSQ_STS.RETRIES 0 else s).powerUp
    else if spent then s.setSeq 5
    else
      let t := s.now
      (s.setSeq 0).modPsq (fun q => { q with retryAt := if q.failed then some t else none })
  else s

/-- Whichever sequence runs completes when it can. -/
def State.seqCheck (s : State) : State :=
  if s.seqSt == 1 then s.upDone else if s.seqSt == 3 then s.downDone else s.rstWatch

/-- An off request (R381, R384): a power-down starts, or waits for the running power-up; one running already covers it. -/
def State.offRequest (s : State) : State :=
  match s.seqSt with
  | 2 => s.powerDown false
  | 1 => s.fset Fld.PSQ_STS.PENDING 2
  | 3 => if s.fget Fld.PSQ_STS.PENDING == 1 then s.fset Fld.PSQ_STS.PENDING 2 else s
  | _ => s

/-- An on request: the rise of INPUT_GOOD (R381, R382, R384). -/
def State.onRequest (s : State) : State :=
  match s.seqSt with
  | 0 => s.powerUp
  | 5 => (s.fset Fld.PSQ_STS.RETRIES 0).powerUp
  | 1 => if s.fget Fld.PSQ_STS.PENDING == 2 then s.fset Fld.PSQ_STS.PENDING 1 else s
  | 3 => s.fset Fld.PSQ_STS.PENDING 1
  | 4 => s.fset Fld.PSQ_STS.PENDING 1
  | _ => s

/-- RAIL_SLOT (R381): the slot that has come switches its rails. -/
def railSlot (s : State) : State := s.slotAct.seqCheck
def execRailSlot (dt : Nat) (s : State) : Host.Outcome State Fault Refusal := .next (railSlot (s.elapse dt))

/-- A counter of PSQ_RAIL_CNT has risen: RAIL_FAULT (R386). -/
def State.railFault (s : State) (r : Nat) : State := s.fault (srcOf 79 7) 0x50 r

/-- RAIL_TIMEOUT (R382): the rail is not good by its deadline. -/
def railTimeout (r : Nat) (s : State) : State :=
  if s.seqSt == 1 && s.sequenced r && !s.on (Fld.PSQ_RAIL_STS.GOOD r) && !(s.rail r).timed &&
      decide (s.psq.startAt + 32000 * ((s.rail r).onS + (s.rail r).tmo) ≤ s.now) then
    let s := s.modRail r (fun x => { x with timed := true, judged := true })
    ((s.bump (Fld.PSQ_RAIL_CNT.SEQ_TIMEOUT r) (Fld.PSQ_RAIL_CNT.TO_SAT r)).railFault r).seqCheck
  else s
def execRailTimeout (dt rail : Nat) (s : State) : Host.Outcome State Fault Refusal :=
  .next (railTimeout rail (s.elapse dt))

/-- POWER_UP_RETRY (R382): 1 s after a failed power-up's power-down, while INPUT_GOOD is 1. -/
def powerUpRetry (s : State) : State :=
  match s.psq.retryAt with
  | some t => if s.seqSt == 0 && s.on Fld.PSQ_STS.INPUT_GOOD && decide (t + 1000000000 ≤ s.now) then s.powerUp else s
  | none => s
def execPowerUpRetry (dt : Nat) (s : State) : Host.Outcome State Fault Refusal := .next (powerUpRetry (s.elapse dt))

/-! ## Judgement (R385 to R387) -/

/-- A loss on a rail drives the outputs whose mask holds it and whose ASSERT_ON_LOSS is 1 (R389). -/
def State.railLoss (s : State) (r : Nat) : State :=
  let s := s.fset (Fld.PSQ_RAIL_STS.GOOD r) 0
  ((List.range 8).foldl (fun s i =>
    if s.on (Fld.PSQ_RST_CFG.ASSERT_ON_LOSS i) && (s.fget (Fld.PSQ_RST_CFG.MASK i)).testBit r then s.rstAssert i else s)
    s).rstWatch

/-- DRAM_UV (R387). -/
def State.dramUv (s : State) (r : Nat) : State :=
  if s.psq.detect && (s.rail r).cls == 2 then s.fset Fld.SPL_STATE.DRAM_UV 1 else s

/-- The rail enters UV. -/
def State.railUv (s : State) (r : Nat) : State :=
  if s.on (Fld.PSQ_RAIL_STS.UV_NOW r) then s
  else (((s.fset (Fld.PSQ_RAIL_STS.UV_NOW r) 1).bump (Fld.PSQ_RAIL_CNT.UV r) (Fld.PSQ_RAIL_CNT.UV_SAT r)).railFault
    r).railLoss r

/-- What a sample does once its runs are counted (R385, R382): entry into UV or OV, the end of either, the rail good. -/
def State.judge (s : State) (r : Nat) : State :=
  let x := s.rail r
  let f := s.railF r
  let s := if x.judged && f ≤ x.low then s.railUv r else s
  let s := if x.judged && f ≤ x.high && !s.on (Fld.PSQ_RAIL_STS.OV_NOW r) then
      ((s.fset (Fld.PSQ_RAIL_STS.OV_NOW r) 1).bump (Fld.PSQ_RAIL_CNT.OV r) (Fld.PSQ_RAIL_CNT.OV_SAT r)).railFault r
    else s
  let s := if f ≤ x.inside then (s.fset (Fld.PSQ_RAIL_STS.UV_NOW r) 0).fset (Fld.PSQ_RAIL_STS.OV_NOW r) 0 else s
  if f ≤ x.goodRun then
    (s.fset (Fld.PSQ_RAIL_STS.GOOD r) 1).modRail r (fun x => { x with judged := true })
  else s

/-- RAIL_SAMPLE (R385): one conversion of a rail's voltage. For DRAM_UV every sample counts, of a rail that is being switched off too
(R169, R387). -/
def railSample (r : Nat) (code : Nat) (s : State) : State :=
  if 31 < r || !s.on (Fld.PSQ_RAIL_CFG.EN r) then s
  else
    let s := s.fset (Fld.PSQ_RAIL_STS.CODE r) code
    let s := if decide (code < s.fget (Fld.PSQ_RAIL_CFG.UV_CODE r)) then s.dramUv r else s
    if !s.on (Fld.PSQ_RAIL_STS.ENABLED r) || (s.rail r).leaving then s
    else
      let lo := decide (code < s.fget (Fld.PSQ_RAIL_CFG.UV_CODE r))
      let hi := decide (s.fget (Fld.PSQ_RAIL_CFG.OV_CODE r) < code)
      let inn := !lo && !hi
      let s := if inn then s.fset (Fld.PSQ_RAIL_STS.PG_PIN r) 1 else s
      let pg := !s.on (Fld.PSQ_RAIL_CFG.PG_EN r) || s.on (Fld.PSQ_RAIL_STS.PG_PIN r)
      let s := s.modRail r (fun x => { x with
        low := if lo then x.low + 1 else 0
        high := if hi then x.high + 1 else 0
        inside := if inn then x.inside + 1 else 0
        goodRun := if inn && pg then x.goodRun + 1 else 0 })
      (s.judge r).seqCheck
def execRailSample (dt rail : Nat) (code : BitVec 12) (s : State) : Host.Outcome State Fault Refusal :=
  .next (railSample rail code.toNat (s.elapse dt))

/-- RAIL_PG_LOSS (R386): RAIL_PG low for 2 µs on a rail that is on: counted, and an immediate UV judgement. -/
def railPgLoss (r : Nat) (s : State) : State :=
  let s := s.fset (Fld.PSQ_RAIL_STS.PG_PIN r) 0
  if s.on (Fld.PSQ_RAIL_CFG.EN r) && s.on (Fld.PSQ_RAIL_CFG.PG_EN r) && s.on (Fld.PSQ_RAIL_STS.ENABLED r) &&
      (s.rail r).judged && !(s.rail r).leaving then
    let s := (s.bump (Fld.PSQ_RAIL_CNT.PG_LOSS r) (Fld.PSQ_RAIL_CNT.PGL_SAT r)).railFault r
    let s := s.modRail r (fun x => { x with inside := 0, goodRun := 0 })
    (((s.railUv r).railLoss r).dramUv r).seqCheck
  else if s.on (Fld.PSQ_RAIL_CFG.EN r) && s.on (Fld.PSQ_RAIL_CFG.PG_EN r) then s.dramUv r
  else s
def execRailPgLoss (dt rail : Nat) (s : State) : Host.Outcome State Fault Refusal :=
  .next (if rail < 32 then railPgLoss rail (s.elapse dt) else s.elapse dt)

/-- RESET_STRETCH_EXPIRY (R389): the stretch has passed with the condition holding; the core reset stays while POR_N is low
(R450). -/
def resetStretchExpiry (i : Nat) (s : State) : State :=
  let ms := if i = 8 then 1 else s.fget (Fld.PSQ_RST_CFG.STRETCH_MS i)
  match s.psq.okSince.find? (fun e => e.1 == i) with
  | some e => if s.rstOk i && decide (e.2 + 1000000 * ms ≤ s.now) && !(i == 8 && s.psq.por) then s.rstRelease i else s
  | none => s
def execResetStretchExpiry (dt out : Nat) (s : State) : Host.Outcome State Fault Refusal :=
  .next (resetStretchExpiry out (s.elapse dt))

/-! ## Hold-up (R391, R163) -/

/-- Some pack is counted (R86). -/
def State.anyPack (s : State) : Bool := (List.range 4).any (fun p => s.on (Fld.CIS_PACK_STS.COUNTED p))

/-- The SPILL_ABANDONED record (R163): its stage, the pages written and the LD being written. -/
def State.abandon (s : State) : State :=
  let n := s.fget Fld.JNL_SEQ.NEXT_SEQ
  let s := (s.modPsq (fun q => { q with holdRec := some n })).elyRecord 3 s.spill.gen
    [(0x20, s.fget Fld.SPL_STATE.STAGE), (0x24, s.fget Fld.SPL_PROGRESS.PAGES_DONE), (0x28, s.fget Fld.SPL_STATE.LD_NOW)]
  if s.dev == .spilling then { s with spill := { s.spill with abandoned := true } } else s

/-- HOLDUP_ENTRY (R391): the input has collapsed and no pack is counted. DRAM-class rails go below their limits with the others
(R169). -/
def holdupEntry (s : State) : State :=
  if s.on Fld.PSQ_STS.INPUT_LOW && !s.anyPack && s.seqSt != 4 && s.seqSt != 0 && s.seqSt != 5 then
    let s := (s.setSeq 4).rstAll
    let s := allRails.foldl (fun s r =>
      if (s.rail r).cls != 5 && s.on (Fld.PSQ_RAIL_STS.ENABLED r) then
        (((s.modRail r (fun x => { x with leaving := true })).driveRail r false).fset (Fld.PSQ_RAIL_STS.GOOD r) 0).dramUv r
      else s) s
    let s := (List.range 96).foldl (fun s d =>
      if [0, 1, 2, 28, 29, 44, 45, 93, 94].contains d then s else s.hwDom d 2 (s.dom d).isolated) s
    if s.isCut then s.abandon else s
  else s
def execHoldupEntry (dt : Nat) (s : State) : Host.Outcome State Fault Refusal := .next (holdupEntry (s.elapse dt))

/-- HOLDUP_END (R391): every rail goes low and the sequencer is OFF; an on request kept meanwhile is taken up. -/
def holdupEnd (s : State) : State :=
  if s.seqSt == 4 then
    let on_ := s.fget Fld.PSQ_STS.PENDING == 1 && s.on Fld.PSQ_STS.INPUT_GOOD
    let s := (allRails.foldl (fun s r => s.driveRail r false) s).goOff
    let s := (s.setSeq 0).fset Fld.PSQ_STS.PENDING 0
    if on_ then s.powerUp else s
  else s
def execHoldupEnd (dt : Nat) (s : State) : Host.Outcome State Fault Refusal := .next (holdupEnd (s.elapse dt))

/-! ## VAON and POR_N (R392, R442, R447, R450) -/

/-- Registers of domains 0 and 94 (R440): SCB_, CIS_, PSQ_, PDM_ and FLT_. -/
def State.reset094 (s : State) : State :=
  (((s.resetRange 0x180000 0x190000).resetRange 0x1A0000 0x1C0000).resetRange 0x1C0000 0x1D0000).resetRange 0x1D0000
    0x1D8000

/-- Writes a 64-bit register from a table value, by its fields. -/
def State.loadRail (s : State) (r v : Nat) : State :=
  let put := fun (s : State) (f : Field) => s.fset f (v / 2 ^ (f.bit % 64))
  [Fld.PSQ_RAIL_CFG.EN r, Fld.PSQ_RAIL_CFG.REQUIRED r, Fld.PSQ_RAIL_CFG.PG_EN r, Fld.PSQ_RAIL_CFG.CLASS r,
    Fld.PSQ_RAIL_CFG.FILTER r, Fld.PSQ_RAIL_CFG.TIMEOUT r, Fld.PSQ_RAIL_CFG.OFF_SLOT r, Fld.PSQ_RAIL_CFG.ON_SLOT r,
    Fld.PSQ_RAIL_CFG.OV_CODE r, Fld.PSQ_RAIL_CFG.UV_CODE r].foldl put s
/-- As `loadRail`, of a reset output. -/
def State.loadRst (s : State) (i v : Nat) : State :=
  let put := fun (s : State) (f : Field) => s.fset f (v / 2 ^ (f.bit % 64))
  [Fld.PSQ_RST_CFG.MASK i, Fld.PSQ_RST_CFG.STRETCH_MS i, Fld.PSQ_RST_CFG.ASSERT_ON_LOSS i].foldl put s

/-- Domain 0 and 94 lose power (R447): their registers, chrysalis memory, the seal copies and the time kept there; every
rail is off and the device with it. -/
def State.vaonGone (s : State) : State :=
  let s := (allRails.foldl (fun s r => s.driveRail r false) s.rstAll).goOff
  let s := s.reset094.blockReset (fun _ => true)
  let lost : Pack → Pack := fun k => { flashR := k.flashR }
  { s with
    cis := { packs := s.cis.packs.map (fun e => (e.1, lost e.2)) }
    psq := { }
    doms := []
    chrys := false
    chrysPsq := []
    timeLost := true
    flt := { s.flt with
      hold := []
      queue := []
      seen := []
      staging := []
      lastSrc := 1023
      sealCopies := [] } }

/-- VAON_LOSS (R447). -/
def execVaonLoss (dt : Nat) (s : State) : Host.Outcome State Fault Refusal := .next (s.elapse dt).vaonGone

/-- VAON_POWER_ON (R392, R442): domains 0 and 94 take their Reset column, then PSQ_ loads from chrysalis memory when its
copy passes its CRC, else from OTP; the rail class INPUT is driven high (Table 15-2). -/
def vaonPowerOn (chrysalisOk : Bool) (s : State) : State :=
  let copy := s.chrysPsq
  let ok := chrysalisOk && s.chrys && !copy.isEmpty
  let g := s.vaonGone
  let t := s.now
  let s := { g with
    vaonAt := t
    chrys := ok
    chrysPsq := if ok then copy else [] }
  let s : State := if ok then { s with regs := copy.foldl (fun m e => tabIns e.1 e.2 (tabDel e.1 m)) s.regs }
    else (List.range 8).foldl (fun s i => s.loadRst i (Config.otpRstCfg i).toNat)
      (allRails.foldl (fun s r => s.loadRail r (Config.otpRailCfg r).toNat) s)
  s.latchSlots.inputRails
def execVaonPowerOn (chrysalisOk : Bool) (s : State) : Host.Outcome State Fault Refusal :=
  .next (vaonPowerOn chrysalisOk s)

/-- POR_ASSERT (R450): the core reset is asserted; rails stay as they are, and what DRAM held unsaved is discarded. -/
def porAssert (s : State) : State :=
  let s := (s.modPsq (fun q => { q with por := true })).fset Fld.PSQ_RST_STS.CORE_RST 1
  s.goOff
def execPorAssert (dt : Nat) (s : State) : Host.Outcome State Fault Refusal := .next (porAssert (s.elapse dt))

/-- POR_RELEASE (R450): the core reset is released once its own condition has held for its stretch; a cold start follows. -/
def porRelease (s : State) : State := resetStretchExpiry 8 (s.modPsq (fun q => { q with por := false }))
def execPorRelease (dt : Nat) (s : State) : Host.Outcome State Fault Refusal := .next (porRelease (s.elapse dt))

end Sys2Proof.Machine
end

