-- ==== Sys2Proof/Machine/Cistern.lean ====
section
/-! DEFINITION. The cistern (chapter 04): packs, state of charge, usable energy, charging, calibration, the spill rehearsal
and elapsed time. Quotients round down (log entry 28). -/

namespace Sys2Proof.Machine

/-- The cistern's own state changes. -/
def State.modCis (s : State) (f : CisState → CisState) : State := { s with cis := f s.cis }
/-- A pack never seen. -/
def Pack.new : Pack := { }
/-- Pack `p`. -/
def State.pack (s : State) (p : Nat) : Pack := tabGet Pack.new p s.cis.packs
/-- Pack `p` changes. -/
def State.modPack (s : State) (p : Nat) (f : Pack → Pack) : State :=
  s.modCis (fun c => { c with packs := tabSet Pack.new p (f (tabGet Pack.new p c.packs)) c.packs })
/-- The four packs. -/
def allPacks : List Nat := [0, 1, 2, 3]
/-- A pack is counted (R86). -/
def State.counted (s : State) (p : Nat) : Bool := s.on (Fld.CIS_PACK_STS.COUNTED p)
def State.countedPacks (s : State) : List Nat := allPacks.filter s.counted
/-- Pack temperature, °C. -/
def State.packTemp (s : State) (p : Nat) : Int := ofField 8 (s.fget (Fld.CIS_PACK_STS.TEMP_C p))

/-! ## The configuration in force (R232) and the default impedance table (R107) -/

/-- Bits at 1 in a word. -/
def ones32 (w : BitVec 32) : Nat := sumNat ((List.range 32).map (fun i => if w.getLsbD i then 1 else 0))

/-- A half's STATE reads written, with at most 4 bits in error (R232). -/
def CfgHalf.written (h : CfgHalf) : Bool := decide (ones32 (h.state ^^^ 0xFFFF0000) ≤ 4)
/-- A half that a start may use: written, and its CRCs pass (R232). -/
def CfgHalf.usable (h : CfgHalf) : Bool := h.written && h.crcOk

/-- The configuration in force: of the halves that the last start found usable, or that were written since, the one with the highest
SEQ; a STATE word that the port sets counts from the next start (R232). -/
def State.cfgBest (s : State) : Option CfgHalf :=
  ((s.cfgHalf.map (·.2)).filter (fun h => h.live)).foldl (fun b h => match b with
    | none => some h
    | some x => if x.seq < h.seq then some h else some x) none

/-- Entry `i` of the default impedance table, 10 µΩ: the configuration region's, or while it holds no written half that of the
image's DEFAULT_CONFIG section (R107). -/
def State.defaultZ (s : State) (i : Nat) : Nat :=
  let t := match s.cfgBest with
    | some h => h.zTable
    | none => (s.boot.loaded.map (fun (i : Image) => i.zTable)).getD []
  t.getD i (Config.defaultZ i).toNat

/-! ## Tables (R88, R97, R463) -/

/-- Linear interpolation between points of rising abscissa, held at the ends. -/
def interp (x : Int) : List (Int × Int) → Int
  | [] => 0
  | [e] => e.2
  | e :: f :: r =>
    if x ≤ e.1 then e.2
    else if x ≤ f.1 then e.2 + (f.2 - e.2) * (x - e.1) / (f.1 - e.1)
    else interp x (f :: r)

/-- Points of CIS_OCV, 0.1 % (Table 04-22). -/
def ocvAt : List Nat := [0, 50, 100, 200, 300, 400, 500, 600, 700, 800, 850, 900, 950, 970, 990, 1000]
/-- CIS_OCV, mV. -/
def State.ocv (s : State) : List Nat :=
  (List.range 8).flatMap (fun j => [s.fget (Fld.CIS_OCV.OCV_LO j), s.fget (Fld.CIS_OCV.OCV_HI j)])
/-- The table is valid: its voltages rise strictly (R463). -/
def ocvValid (t : List Nat) : Bool := (t.zip t.tail).all (fun e => decide (e.1 < e.2))
/-- V_MEAN × 2,000,000, in mV (R463). -/
def vMean (t : List Nat) : Nat :=
  sumNat (((t.zip t.tail).zip (ocvAt.zip ocvAt.tail)).map (fun e => (e.1.1 + e.1.2) * (e.2.2 - e.2.1)))
/-- Cell open-circuit voltage at a state of charge in 0.1 %, µV. -/
def ocvOf (t : List Nat) (soc : Int) : Int :=
  interp soc ((ocvAt.zip t).map (fun e => ((e.1 : Int), (e.2 : Int) * 1000)))
/-- State of charge of an open-circuit cell voltage in µV, 0.1 % (R88). -/
def socOf (t : List Nat) (uv : Int) : Nat :=
  (interp uv ((ocvAt.zip t).map (fun e => ((e.2 : Int) * 1000, (e.1 : Int))))).toNat

/-- Entry `i` of a pack's impedance table, 10 µΩ. -/
def State.zEntry (s : State) (p i : Nat) : Nat :=
  if i % 2 = 0 then s.fget (Fld.CIS_ZTAB.Z_LO p (i / 2)) else s.fget (Fld.CIS_ZTAB.Z_HI p (i / 2))
def State.setZ (s : State) (p i v : Nat) : State :=
  if i % 2 = 0 then s.fsat (Fld.CIS_ZTAB.Z_LO p (i / 2)) v else s.fsat (Fld.CIS_ZTAB.Z_HI p (i / 2)) v
def State.zTable (s : State) (p : Nat) : List Nat := (List.range 40).map (s.zEntry p)
/-- State-of-charge points of the impedance table, 0.1 %, and its temperatures (R97). -/
def zSocs : List Nat := [1000, 900, 750, 500, 300, 200, 100, 50]
def zTemps : List Int := [-20, 0, 25, 45, 60]
/-- 2^(k ÷ 10) × 10^9 for k below 10. -/
def pow10th : List Int := [1000000000, 1071773462, 1148698354, 1231144413, 1319507910, 1414213562, 1515716566, 1624504792,
  1741101126, 1866065983]
/-- Impedance at one temperature of the table, nΩ (R97). -/
def zRow (z : List Nat) (ti : Nat) (soc : Int) : Int :=
  let at_ := fun (k : Nat) => (z.getD (8 * ti + k) 0 : Int) * 10000
  if soc < 50 then max (at_ 7) (at_ 7 + (at_ 7 - at_ 6) * (50 - soc) / 50)
  else interp soc ((List.range 8).reverse.map (fun k => ((zSocs.getD k 0 : Int), at_ k)))
/-- Impedance at a state of charge in 0.1 % and a temperature, nΩ (R97). -/
def zOf (z : List Nat) (soc t : Int) : Int :=
  if t < -20 then
    let k := (-20 - t).toNat
    zRow z 0 soc * 2 ^ (k / 10) * pow10th.getD (k % 10) 0 / 1000000000
  else interp t (((List.range 5).map (fun i => (zTemps.getD i 0, zRow z i soc))))

/-- Q_DESIGN of every pack is computed again while the table is valid (R463), and HEALTH with it (R93). -/
def State.healthShow (s : State) (p : Nat) : State :=
  let k := s.pack p
  s.fset (Fld.CIS_PACK_EST.HEALTH p) (if k.qDes = 0 then 0 else min 1000 (1000 * k.q / k.qDes))
def State.reDesign (s : State) : State :=
  let t := s.ocv
  let s : State := if ocvValid t then
    allPacks.foldl (fun s p =>
      let den := s.fget (Fld.CIS_PACK_CFG.CELLS p) * vMean t
      let q := s.fget (Fld.CIS_PACK_CFG.DESIGN_DWH p) * 20000000000 * 10 / den
      s.modPack p (fun k => { k with qDes := q })) s
  else s
  allPacks.foldl (fun s p => s.healthShow p) s

/-! ## Learned records (R96) -/

/-- The learned record changes: its chrysalis copy is updated. -/
def State.recTouch (s : State) (p : Nat) : State :=
  let c := s.fget (Fld.CIS_PACK_EST.CYCLES p)
  let l := s.fget (Fld.CIS_PACK_EST.LOAD_F p)
  let z := s.zTable p
  s.modPack p (fun k =>
    let n := max ((k.chrysR.map (·.seq)).getD 0) ((k.flashR.map (·.seq)).getD 0) + 1
    { k with chrysR := some (LRec.mk k.q c l z n) })
/-- The flash copy is to be written. -/
def State.recWrite (s : State) (p : Nat) : State :=
  let t := s.now
  let s := (s.recTouch p).modPack p (fun k => { k with recDue := true })
  { s with cfgDue := some (s.cfgDue.getD t) }
/-- An impedance entry has moved by more than 5 % since the last flash write, and that write is 24 h old (R96). -/
def State.zStale (s : State) (p : Nat) : Bool :=
  let k := s.pack p
  (match k.zAt with | some t => decide (t + dayNs ≤ s.now) | none => true) &&
  (List.range 40).any (fun i =>
    let a := k.zSaved.getD i 0
    let b := s.zEntry p i
    decide (5 * a < 100 * (if a ≤ b then b - a else a - b)))
/-- The flash copy is written for the impedance table where R96 asks for it. -/
def State.zFlash (s : State) (p : Nat) : State :=
  if s.zStale p then
    let u := s.now
    (s.recWrite p).modPack p (fun k => { k with zAt := some u })
  else s
/-- The impedance table has changed (R96). -/
def State.zChanged (s : State) (p : Nat) : State := (s.recTouch p).zFlash p
/-- The flash copies that were due are written (R96, R232). -/
def State.recFlashed (s : State) : State :=
  allPacks.foldl (fun s p => s.modPack p (fun k => if k.recDue then
    { k with flashR := k.chrysR, recDue := false, zSaved := (k.chrysR.map (·.z)).getD [] } else k)) s
/-- The copies of a pack's learned record that pass their CRC, chrysalis and flash: `bad` lists pack and copy, 0 chrysalis and
1 flash, of those that do not. -/
def State.goodRecs (s : State) (bad : List (Nat × Nat)) (p : Nat) : Option LRec × Option LRec :=
  let k := s.pack p
  (if s.chrys && !bad.contains (p, 0) then k.chrysR else none, if bad.contains (p, 1) then none else k.flashR)
/-- An enabled pack has copies of its learned record, and none passes its CRC (R108). It fails the start whether or not the pack is
present: that absent packs do not fail a start is taken of their absence alone (DESIGN CHOICE, log entry 103). -/
def State.recsLost (s : State) (bad : List (Nat × Nat)) (p : Nat) : Bool :=
  let k := s.pack p
  let g := s.goodRecs bad p
  s.on (Fld.CIS_PACK_CFG.ENABLE p) && (k.flashR.isSome || (s.chrys && k.chrysR.isSome)) && g.1.isNone && g.2.isNone
/-- At start a pack takes the chrysalis copy of its learned record when it passes its CRC and is not older than the flash copy, or
else the flash copy (R96). -/
def State.loadRecords (s : State) (bad : List (Nat × Nat)) : State :=
  allPacks.foldl (fun s p =>
    let r := match s.goodRecs bad p with
      | (some c, some f) => if f.seq ≤ c.seq then some c else some f
      | (some c, none) => some c
      | (none, f) => f
    match r with
    | none => s
    | some r =>
      let s := (s.modPack p (fun k => { k with q := r.q, zSaved := (k.flashR.map (·.z)).getD r.z })).fset (Fld.CIS_PACK_EST.CYCLES p) r.cycles
      let s := s.fset (Fld.CIS_PACK_EST.LOAD_F p) r.loadF
      ((List.range 40).foldl (fun s i => s.setZ p i (r.z.getD i 0)) s).healthShow p) s

/-! ## State of charge (R88, R89) -/

/-- SOC is set from a voltage through the OCV table. -/
def State.socFrom (s : State) (p mv : Nat) : State :=
  let t := s.ocv
  let n := max 1 (s.fget (Fld.CIS_PACK_CFG.CELLS p))
  (s.modPack p (fun k => { k with resid := 0 })).fset (Fld.CIS_PACK_EST.SOC p)
    (if ocvValid t then socOf t (1000 * mv / n : Nat) else 0)

/-- Charge in converter results: 1 Ah is 7,372,800 results times the shunt in µΩ. -/
def lsbOf (q shunt : Nat) : Nat := q * shunt * 73728 / 10000
/-- Charge in µAh of a count of results. -/
def uahOf (n shunt : Nat) : Nat := n * 10000 / (73728 * max 1 shunt)
/-- The current of a result against C ÷ d: below it. -/
def belowC (lsb : Int) (q shunt d : Nat) : Bool := decide (lsb.natAbs * 1953125 * d < q * shunt)
/-- A discharge at more than C ÷ d. -/
def aboveC (lsb : Int) (q shunt d : Nat) : Bool := decide (0 < lsb) && decide (q * shunt < lsb.natAbs * 1953125 * d)

/-- The charge counted moves SOC in whole steps of 0.1 %, its remainder kept (R88). -/
def State.socCount (s : State) (p : Nat) : State :=
  let k := s.pack p
  let cap : Int := lsbOf k.q (s.fget (Fld.CIS_PACK_CFG.SHUNT_UOHM p))
  if cap = 0 then s
  else
    let steps := -((-(k.resid * 1000)) / cap)
    let soc : Int := (s.fget (Fld.CIS_PACK_EST.SOC p) : Int) - steps
    let rest := k.resid - steps * cap / 1000
    let clip := max 0 (min 1000 soc)
    (s.modPack p (fun k => { k with resid := if clip = soc then rest else 0 })).fset (Fld.CIS_PACK_EST.SOC p) clip.toNat

/-- CYCLES increments when the charge discharged since the last increment reaches the learned capacity (R96). -/
def State.cyclesUp (s : State) (p : Nat) : State :=
  let k := s.pack p
  let cap := lsbOf k.q (s.fget (Fld.CIS_PACK_CFG.SHUNT_UOHM p))
  if cap = 0 || k.dis < cap then s
  else
    ((s.modPack p (fun k => { k with dis := k.dis - cap })).satUp (Fld.CIS_PACK_EST.CYCLES p)).recWrite p

/-- Calibration states (Table 04-17). -/
def State.calState (s : State) : Nat := s.fget Fld.CIS_CAL_STS.STATE
def State.calRuns (s : State) : Bool := 1 ≤ s.calState && s.calState ≤ 4

/-- One shunt conversion of a pack (R87). -/
def State.coulomb (s : State) (p : Nat) (v : Int) : State :=
  let v := max (-32768) (min 32767 v)
  let sh := s.fget (Fld.CIS_PACK_CFG.SHUNT_UOHM p)
  let t := s.now
  let cal := s.calState == 2
  let mv := s.fget (Fld.CIS_PACK_STS.VOLT_MV p)
  let cells := s.fget (Fld.CIS_PACK_CFG.CELLS p)
  let s := s.fset (Fld.CIS_PACK_STS.CURRENT p) (toField 16 (if sh = 0 then 0 else v * 15625 / (80 * sh : Nat)))
  let here := s.on (Fld.CIS_PACK_STS.PRESENT p)
  let s := s.modPack p (fun k =>
    let low := here && belowC v k.q sh 50
    let lowC20 := here && belowC v k.q sh 20 && decide (4150 * cells ≤ mv)
    { k with
      cur := v
      count := ofField 48 (toField 48 (k.count + v))
      resid := if here then k.resid + v else k.resid
      dis := k.dis + (if here then v.toNat else 0)
      restAt := if low then some (k.restAt.getD t) else none
      fullAt := if lowC20 then some (k.fullAt.getD t) else none
      calOut := if cal && k.inCal then k.calOut + v else k.calOut
      calN := if cal && k.inCal then k.calN + 1 else k.calN })
  let s := if (s.pack p).restAt.isNone then s.fset (Fld.CIS_PACK_STS.AT_REST p) 0 else s
  if here then (s.socCount p).cyclesUp p else s

/-- COULOMB_SAMPLE (R87, R88, R464). -/
def coulombSample (shunt : List Int) (s : State) : State :=
  allPacks.foldl (fun s p => match shunt[p]? with | some v => s.coulomb p v | none => s) s
def execCoulombSample (dt : Nat) (shunt : List Int) (s : State) : Host.Outcome State Fault Refusal :=
  .next (coulombSample shunt (s.elapse dt))

/-! ## Packs, faults and chargers (R86, R104, R106, R107) -/

/-- COUNTED is judged again (R86). -/
def State.judgePack (s : State) (p : Nat) : State :=
  let t := s.packTemp p
  let ok := s.on (Fld.CIS_PACK_CFG.ENABLE p) && s.on (Fld.CIS_PACK_STS.PRESENT p) && !(s.pack p).swapDue &&
    decide ((s.pack p).heldAt + 1000000000 ≤ s.now) && !s.on (Fld.CIS_PACK_STS.VOLT_FAULT p) &&
    (s.on (Fld.CIS_PACK_STS.NTC_FAULT p) || decide (-40 ≤ t ∧ t ≤ 70))
  s.fput (Fld.CIS_PACK_STS.COUNTED p) ok

/-- Rehearsal in progress, from its start until its results are published (R98). -/
def State.rehearsing (s : State) : Bool := s.cis.rehAt.isSome || s.cis.rehEnd.isSome

/-- The charge target, 0.1 %: 100 % in step 2 of a calibration (R104). -/
def State.chgTarget (s : State) (p : Nat) : Nat :=
  if s.calState == 1 then 1000 else 10 * s.fget (Fld.CIS_PACK_CFG.CHG_TARGET p)

/-- CHG_BLOCK: the first failing condition of R104, 0 when all hold. -/
def State.chgBlock (s : State) (p : Nat) : Nat :=
  let t := s.packTemp p
  let soc := s.fget (Fld.CIS_PACK_EST.SOC p)
  let done := (s.pack p).stopped || decide (s.chgTarget p ≤ soc)
  let st := s.dev == .training || s.isOpen || s.dev == .basin
  if !s.counted p then 1
  else if s.on (Fld.CIS_PACK_STS.NTC_FAULT p) || s.on (Fld.CIS_PACK_STS.VOLT_FAULT p) then 2
  else if t < 0 ∨ 45 < t then 3
  else if !(s.on Fld.PSQ_STS.INPUT_GOOD && st) then 4
  else if done then 5
  else if (s.pack p).pulse.isSome || s.rehearsing || (s.calRuns && s.calState != 1) then 6
  else if s.on (Fld.CIS_PACK_CFG.CHG_OFF p) then 7
  else 0

/-- A COMMIT changed CHG_LIM_PCT: the charging packs' duty follows (R105). -/
def State.limAccepted (s was : State) : State :=
  allPacks.foldl (fun s p =>
    if s.on (Fld.CIS_PACK_STS.CHARGING p) &&
        was.fget (Fld.CIS_PACK_CFG.CHG_LIM_PCT p) != s.fget (Fld.CIS_PACK_CFG.CHG_LIM_PCT p) then s.driveLim p else s) s

/-- CHARGER_CONTROL (R104). -/
def State.charge (s : State) (p : Nat) : State :=
  let soc := s.fget (Fld.CIS_PACK_EST.SOC p)
  let top := s.chgTarget p
  let s := s.modPack p (fun k => { k with
    stopped := if top ≤ soc then true else if soc + 30 ≤ top then false else k.stopped })
  let b := s.chgBlock p
  (s.fset (Fld.CIS_PACK_STS.CHG_BLOCK p) b).driveChg p (b == 0)
def State.chargeAll (s : State) : State := allPacks.foldl (fun s p => s.charge p) s

/-! ## Calibration (R92 to R95) -/

/-- RAIL_EN[INPUT_RAIL]. -/
def State.inputPath (s : State) (high : Bool) : State := s.driveRail (s.fget Fld.CIS_CFG.INPUT_RAIL) high

/-- A rejected or ended calibration counts (R93). -/
def State.learnReject (s : State) : State := s.bump Fld.CIS_EVT_CNT.LEARN_REJECT Fld.CIS_EVT_CNT.REJ_SAT

/-- A running calibration ends, its input path restored. -/
def State.calEnd (s : State) (st reason : Nat) : State :=
  if s.calRuns then
    let s := if s.calState == 2 then s.inputPath true else s
    let s := (s.fset Fld.CIS_CAL_STS.STATE st).fset Fld.CIS_CAL_STS.REASON reason
    (allPacks.foldl (fun s p => s.modPack p (fun k => { k with inCal := false })) s).learnReject
  else s

/-- CALIBRATION_GO (R94): starts a calibration, or resumes a paused one. -/
def calibrationGo (pack : Nat) (s : State) : State :=
  if s.calState == 3 then
    let s := s.modCis (fun c => { c with pauseFm := false })
    if s.cis.pauseT then s
    else
      let t := s.now
      let s := s.modCis (fun c => { c with
        pausedAt := none
        longPause := c.longPause || (match c.pausedAt with | some u => decide (u + 600000000000 < t) | none => false) })
      (s.inputPath false).fset Fld.CIS_CAL_STS.STATE 2
  else if s.calRuns then s
  else
    let s := (s.fset Fld.CIS_CAL_STS.INTERRUPTIONS 0).modCis (fun c => { c with
      calPack := pack % 4
      pauseFm := false
      pauseT := false
      pausedAt := none
      longPause := false })
    if s.col.window.isSome || s.rehearsing || s.dev != .serving then
      ((s.fset Fld.CIS_CAL_STS.STATE 6).fset Fld.CIS_CAL_STS.REASON 9).learnReject
    else
      let s := (s.fset Fld.CIS_CAL_STS.STATE 1).fset Fld.CIS_CAL_STS.REASON 0
      allPacks.foldl (fun s p =>
        let c := s.counted p
        s.modPack p (fun k => { k with
          inCal := c
          stopped := false
          full := false
          fullAt := none
          calOut := 0
          calN := 0
          calTemp := false })) s
def execCalibrationGo (dt pack : Nat) (s : State) : Host.Outcome State Fault Refusal :=
  .next ((s.elapse dt).viaReg 0x1A0090 (calibrationGo pack))

/-- The discharge pauses (R94 step 4). -/
def State.calPause (s : State) : State :=
  let t := s.now
  ((s.modCis (fun c => { c with pausedAt := some t })).inputPath true).fset Fld.CIS_CAL_STS.STATE 3
    |>.satUp Fld.CIS_CAL_STS.INTERRUPTIONS

/-- CALIBRATION_PAUSE (R94). -/
def calibrationPause (s : State) : State :=
  if s.calState == 2 then (s.modCis (fun c => { c with pauseFm := true })).calPause
  else if s.calState == 3 then s.modCis (fun c => { c with pauseFm := true })
  else s
def execCalibrationPause (dt : Nat) (s : State) : Host.Outcome State Fault Refusal := .next ((s.elapse dt).viaReg 0x1A0090 calibrationPause)

/-- CALIBRATION_ABORT (Table 04-16). -/
def calibrationAbort (s : State) : State := s.calEnd 7 8
def execCalibrationAbort (dt : Nat) (s : State) : Host.Outcome State Fault Refusal := .next ((s.elapse dt).viaReg 0x1A0090 calibrationAbort)

/-- CALIBRATION_FULL (R94 steps 2 and 3): packs whose current has stayed below C/20 for 60 s at the full voltage are full;
with every pack full the discharge begins. -/
def calibrationFull (s : State) : State :=
  if s.calState == 1 then
    let s := allPacks.foldl (fun s p =>
      let k := s.pack p
      let ok := match k.fullAt with | some t => decide (t + 60000000000 ≤ s.now) | none => false
      if k.inCal && !k.full && ok then
        (s.modPack p (fun k => { k with full := true, resid := 0 })).fset (Fld.CIS_PACK_EST.SOC p) 1000
      else s) s
    if allPacks.all (fun p => !(s.pack p).inCal || (s.pack p).full) then
      ((s.fset Fld.CIS_CAL_STS.STATE 2).inputPath false).chargeAll
    else s
  else s
def execCalibrationFull (dt : Nat) (s : State) : Host.Outcome State Fault Refusal := .next (calibrationFull (s.elapse dt))

/-- CALIBRATION_DISCHARGE_END (R94 step 5, R95). -/
def calibrationDischargeEnd (s : State) : State :=
  if s.calState == 2 && decide (s.fget Fld.CIS_USABLE.USABLE_J ≤ 500 * s.fget Fld.CIS_CFG.CAL_RESERVE) then
    ((s.inputPath true).fset Fld.CIS_CAL_STS.STATE 4)
  else s
def execCalibrationDischargeEnd (dt : Nat) (s : State) : Host.Outcome State Fault Refusal :=
  .next (calibrationDischargeEnd (s.elapse dt))

/-- The rules of level 2 a pack's discharge breaks (R92): 0 none, else the REASON. -/
def State.calBroken (s : State) (p : Nat) : Nat :=
  let k := s.pack p
  let sh := s.fget (Fld.CIS_PACK_CFG.SHUNT_UOHM p)
  let out := k.calOut.toNat * 1953125
  if !s.on Fld.CIS_CFG.LEVEL then 0
  else if k.calTemp then 1
  else if out * 20 < k.q * sh * k.calN ∨ k.q * sh * k.calN < out then 2
  else if 2 < s.fget Fld.CIS_CAL_STS.INTERRUPTIONS then 3
  else if s.cis.longPause then 4
  else 0

/-- CAPACITY_LEARN (R93): what a pack's anchor at the end of a calibration yields: the REASON of a rejection, or 0. -/
def State.learn (s : State) (p : Nat) : State × Nat :=
  let k := s.pack p
  let why := s.calBroken p
  let left := 1000 - s.fget (Fld.CIS_PACK_EST.SOC p)
  let q := uahOf k.calOut.toNat (s.fget (Fld.CIS_PACK_CFG.SHUNT_UOHM p)) * 1000 / left
  let why := if why != 0 then why else if left = 0 ∨ 2 * q < k.qDes ∨ 11 * k.qDes < 10 * q then 7 else 0
  let s := s.modPack p (fun k => { k with inCal := false })
  if why = 0 then
    (((s.modPack p (fun k => { k with q := (k.q + q) / 2 })).healthShow p).recWrite p, 0)
  else (s.learnReject, why)

/-- A pack that ends a calibration at rest learns; the calibration ends when its packs have (R94 step 6). REASON is that of the pack
that PACK names: where it names one that is not counted the calibration runs all the same, REASON stays 0 and STATE ends DONE,
whatever the other packs' results (DESIGN CHOICE, log entry 102). -/
def State.calAnchor (s : State) (p : Nat) : State :=
  if s.calState == 4 && (s.pack p).inCal then
    let r := s.learn p
    let s := if p = s.cis.calPack then r.1.fset Fld.CIS_CAL_STS.REASON r.2 else r.1
    if allPacks.all (fun p => !(s.pack p).inCal) then
      s.fset Fld.CIS_CAL_STS.STATE (if s.fget Fld.CIS_CAL_STS.REASON = 0 then 5 else 6)
    else s
  else s

/-- SOC_ANCHOR (R88, R89): a rest of 20 minutes sets SOC from the OCV table, while the table is valid (R463). -/
def socAnchor (p : Nat) (s : State) : State :=
  let due := match (s.pack p).restAt with | some t => decide (t + 1200000000000 ≤ s.now) | none => false
  if p < 4 && s.on (Fld.CIS_PACK_STS.PRESENT p) && due && !s.on (Fld.CIS_PACK_STS.AT_REST p) && ocvValid s.ocv then
    let t := s.now
    let s := (s.socFrom p (s.fget (Fld.CIS_PACK_STS.VOLT_MV p))).modPack p (fun k => { k with uncAt := t })
    let s := (s.fset (Fld.CIS_PACK_EST.SOC_UNC p) 20).fset (Fld.CIS_PACK_STS.AT_REST p) 1
    (s.fset (Fld.CIS_PACK_STS.INSERT_EST p) 0).calAnchor p
  else s
def execSocAnchor (dt pack : Nat) (s : State) : Host.Outcome State Fault Refusal := .next (socAnchor pack (s.elapse dt))

/-- SOC_UNC_GROWTH (R89): 1.0 % for each 24 h without an anchor, up to 20.0 %. -/
def socUncGrowth (p : Nat) (s : State) : State :=
  if p < 4 && s.on (Fld.CIS_PACK_STS.PRESENT p) && decide ((s.pack p).uncAt + dayNs ≤ s.now) then
    (s.modPack p (fun k => { k with uncAt := k.uncAt + dayNs })).fset (Fld.CIS_PACK_EST.SOC_UNC p)
      (min 200 (s.fget (Fld.CIS_PACK_EST.SOC_UNC p) + 10))
  else s
def execSocUncGrowth (dt pack : Nat) (s : State) : Host.Outcome State Fault Refusal :=
  .next (socUncGrowth pack (s.elapse dt))

/-! ## The rehearsal (R98, R99) -/

/-- The conditions of a rehearsal (R98). -/
def State.rehOk (s : State) : Bool :=
  s.dev == .serving && s.col.window.isNone && !s.calRuns &&
  s.countedPacks.all (fun p => decide (10 * s.fget Fld.CIS_REH_CFG.MIN_SOC ≤ s.fget (Fld.CIS_PACK_EST.SOC p)) &&
    decide (0 ≤ s.packTemp p ∧ s.packTemp p ≤ 45))
/-- A rehearsal is due: asked for, or INTERVAL_DAYS have passed. -/
def State.rehDue (s : State) : Bool :=
  let d := s.fget Fld.CIS_REH_CFG.INTERVAL_DAYS
  s.cis.rehReq || (d != 0 && decide (s.cis.rehLast + d * 86400000000 ≤ s.nowUs))
/-- A condition failed: NOT_STARTED, and the next attempt an hour later. -/
def State.rehFail (s : State) : State :=
  let t := s.now
  (s.modCis (fun c => { c with rehRetry := some t, rehFrom := none })).fset Fld.CIS_REH_STS.RESULT 4
/-- At a beat boundary a rehearsal that is due is announced one beat ahead by its deduction, or fails its conditions. -/
def State.rehPlan (s : State) : State :=
  let s := s.fsat Fld.CIS_REH_STS.DAYS_SINCE ((s.nowUs - s.cis.rehLast) / 86400000000)
  let wait := match s.cis.rehRetry with | some t => decide (s.now < t + 3600000000000) | none => false
  if s.rehDue && !s.rehearsing && s.cis.rehFrom.isNone && !wait then
    if s.rehOk then
      let b := s.curBeat
      s.modCis (fun c => { c with rehFrom := some b })
    else s.rehFail
  else s

/-- REHEARSAL_GO (R98): the FM asks for a rehearsal. -/
def rehearsalGo (s : State) : State :=
  if s.rehearsing then s
  else
    let s := s.modCis (fun c => { c with rehReq := true, rehRetry := none })
    if s.rehOk then s else s.rehFail
def execRehearsalGo (dt : Nat) (s : State) : Host.Outcome State Fault Refusal := .next ((s.elapse dt).viaReg 0x1A0098 rehearsalGo)

/-- REHEARSAL_START (R98): at least one beat after the deduction began. -/
def rehearsalStart (s : State) : State :=
  match s.cis.rehFrom with
  | some b =>
    if s.rehearsing || s.curBeat < b + 1 then s
    else if !s.rehOk then s.rehFail
    else
      let s := allPacks.foldl (fun s p =>
        let v := s.fget (Fld.CIS_PACK_STS.VOLT_MV p)
        let i := ofField 16 (s.fget (Fld.CIS_PACK_STS.CURRENT p)) * 10
        s.modPack p (fun k => { k with v0 := v, i0 := i })) s
      let t := s.now
      ((s.modCis (fun c => { c with rehAt := some t, rehLoad := false })).inputPath false).chargeAll
  | none => s
def execRehearsalStart (dt : Nat) (s : State) : Host.Outcome State Fault Refusal := .next (rehearsalStart (s.elapse dt))

/-- REHEARSAL_LOAD (Table 04-4): one beat after the start the load rises to spill level. -/
def rehearsalLoad (s : State) : State :=
  match s.cis.rehAt with
  | some t =>
    if t + beatNs ≤ s.now && !s.cis.rehLoad then (s.modCis (fun c => { c with rehLoad := true })).emit (.spillLoad true) else s
  | none => s
def execRehearsalLoad (s : State) : Host.Outcome State Fault Refusal := .next (rehearsalLoad s)

/-- The load of a rehearsal stops: the read streams end (Table 04-4). -/
def State.rehUnload (s : State) : State :=
  if s.cis.rehLoad then (s.modCis (fun c => { c with rehLoad := false })).emit (.spillLoad false) else s

/-- A rehearsal stops, and its load with it. -/
def State.rehStop (s : State) : State :=
  (s.modCis (fun c => { c with rehAt := none, rehFrom := none, rehReq := false })).rehUnload

/-- The input path is restored after a rehearsal, and the programs that were held off begin. -/
def State.rehPath (s : State) : State := s.log.stripes.foldl (fun s t => s.closeStripe t.seq) (s.inputPath true)

/-- A rehearsal ends without results; `path` says that the input path is restored: a spill goes on from the packs (R99). -/
def State.rehAbort (s : State) (result : Nat) (path : Bool) : State :=
  if s.cis.rehAt.isSome then
    let s := s.rehStop.fset Fld.CIS_REH_STS.RESULT result
    if path then s.rehPath else s
  else s

/-- REHEARSAL_SAMPLE (R99): a pack below CELLS × V_CUT_MV × 1.05 ends the rehearsal, after which the flash copies of the learned
records are written (R96). -/
def rehearsalSample (mv : List Int) (s : State) : State :=
  if s.cis.rehAt.isSome then
    let sag := s.countedPacks.filter (fun p =>
      let lim := s.fget (Fld.CIS_PACK_CFG.CELLS p) * s.fget (Fld.CIS_PACK_CFG.V_CUT_MV p) * 105
      match mv[p]? with | some v => decide (v * 100 < (lim : Int)) | none => false)
    if sag.isEmpty then s
    else
      let ps := s.countedPacks
      let s := sag.foldl (fun s p => (s.fset (Fld.CIS_PACK_EST.LOAD_F p) 255).fault (srcOf 78 7) 0x48 p) (s.rehAbort 2 true)
      ps.foldl (fun s p => s.recWrite p) s
  else s
def execRehearsalSample (dt : Nat) (mv _ma : List Int) (s : State) : Host.Outcome State Fault Refusal :=
  .next (rehearsalSample mv (s.elapse dt))

/-- REHEARSAL_END (Table 04-4): 2 s after the start. -/
def rehearsalEnd (powerDw : Nat) (mv ma : List Int) (s : State) : State :=
  match s.cis.rehAt with
  | some t =>
    if t + 2000000000 ≤ s.now then
      (s.rehStop.modCis (fun c => { c with rehRetry := none, rehEnd := some (powerDw, mv, ma) })).rehPath
    else s
  | none => s
def execRehearsalEnd (dt powerDw : Nat) (mv ma : List Int) (s : State) : Host.Outcome State Fault Refusal :=
  .next (rehearsalEnd powerDw mv ma (s.elapse dt))

/-- The load factor of a pack after a rehearsal, in steps of LOAD_F (R99). -/
def State.rehFactor (s : State) (p : Nat) (v i : Int) : State :=
  let k := s.pack p
  let z := zOf (s.zTable p) (s.fget (Fld.CIS_PACK_EST.SOC p)) (s.packTemp p)
  let di := i - k.i0
  let n := s.freeCtr
  let s := if di = 0 ∨ z = 0 then
    let s := s.fset (Fld.CIS_PACK_EST.LOAD_F p) (Config.rehLoadF n).toNat
    { s with freeCtr := n + 1 }
  else
    s.fset (Fld.CIS_PACK_EST.LOAD_F p)
      (max 0 (min 255 (((k.v0 : Int) - v) * 1000000000 * 64 / (di * z) - 64))).toNat
  s.recWrite p

/-- REHEARSAL_PUBLISH (R99, Table 04-4): in the next beat the load factors, P_MEAS and the result. -/
def rehearsalPublish (s : State) : State :=
  match s.cis.rehEnd with
  | some (w, mv, ma) =>
    let ps := s.countedPacks
    let sag := (ps.map (fun p => ((s.pack p).v0 : Int) - mv.getD p 0)).foldl max 0
    let s := ps.foldl (fun s p => s.rehFactor p (mv.getD p 0) (ma.getD p 0)) s
    let t := s.nowUs
    let s := s.modCis (fun c => { c with rehEnd := none, rehLast := t })
    let s := ((s.fset Fld.CIS_REH_STS.RESULT 1).fsat Fld.CIS_REH_STS.P_MEAS w).fset Fld.CIS_REH_STS.DAYS_SINCE 0
    (s.fsat Fld.CIS_REH_STS.SAG_MV sag.toNat).chargeAll
  | none => s
def execRehearsalPublish (s : State) : Host.Outcome State Fault Refusal := .next (rehearsalPublish s)

/-- A spill trigger ends a calibration and a rehearsal (R94, R99), whose input path stays off while the spill goes on from the packs
(log entry 58); chargers follow (R104). -/
def State.cisTrigger (s : State) : State := ((s.calEnd 7 5).rehAbort 3 false).chargeAll

/-- What was under way when core power went is over at the next start: a rehearsal, and a calibration, which counts as ended
(log entry 94). -/
def State.cisCold (s : State) : State :=
  (s.calEnd 7 0).modCis (fun c => { c with rehAt := none, rehFrom := none, rehReq := false, rehLoad := false, rehEnd := none })

/-! ## Samples and light pulses (R87, R97) -/

/-- One voltage and temperature conversion of a pack. -/
def State.packSample (s : State) (p : Nat) (x : PackSample) : State :=
  let cells := s.fget (Fld.CIS_PACK_CFG.CELLS p)
  let bad := decide (x.mv < 7500 ∨ 21000 < x.mv ∨ x.mv < 2000 * cells ∨ 4350 * cells < x.mv)
  let new := bad && !s.on (Fld.CIS_PACK_STS.VOLT_FAULT p) && s.on (Fld.CIS_PACK_CFG.ENABLE p) &&
    s.on (Fld.CIS_PACK_STS.PRESENT p)
  let s := (s.fsat (Fld.CIS_PACK_STS.VOLT_MV p) x.mv).fset (Fld.CIS_PACK_STS.TEMP_C p)
    (toField 8 (max (-128) (min 127 x.tempC)))
  let s := (s.fput (Fld.CIS_PACK_STS.NTC_FAULT p) x.ntcFault).fput (Fld.CIS_PACK_STS.VOLT_FAULT p) bad
  let s := if new then s.fault (srcOf 78 7) 0x47 p else s
  let warm := decide (x.tempC < 10 ∨ 45 < x.tempC)
  let dis := s.calState == 2
  (s.modPack p (fun k => if dis && k.inCal && warm then { k with calTemp := true } else k)).judgePack p

/-- A pack of the calibration lies outside 0 °C to 50 °C. -/
def State.calHot (s : State) : Bool :=
  allPacks.any (fun p => (s.pack p).inCal && decide (s.packTemp p < 0 ∨ 50 < s.packTemp p))

/-- The discharge pauses and resumes with the packs' temperature (R94 step 4). -/
def State.calWatch (s : State) : State :=
  if s.calState == 2 && s.calHot then (s.modCis (fun c => { c with pauseT := true })).calPause
  else if s.calState == 3 && s.cis.pauseT && !s.calHot then
    let s := s.modCis (fun c => { c with pauseT := false })
    if s.cis.pauseFm then s else calibrationGo s.cis.calPack s
  else s

/-- CISTERN_SAMPLE (R87, R86, R104). -/
def cisternSample (xs : List PackSample) (s : State) : State :=
  let s := allPacks.foldl (fun s p => match xs[p]? with | some x => s.packSample p x | none => s) s
  (s.calWatch).chargeAll
def execCisternSample (samples : List PackSample) (s : State) : Host.Outcome State Fault Refusal :=
  .next (cisternSample samples s)

/-- LIGHT_PULSE (R97): once per hour, while the pack charges at C/10 or more. -/
def lightPulse (p : Nat) (s : State) : State :=
  let k := s.pack p
  let sh := s.fget (Fld.CIS_PACK_CFG.SHUNT_UOHM p)
  let due := match k.pulseAt with | some t => decide (t + 3600000000000 ≤ s.now) | none => true
  if p < 4 && s.on (Fld.CIS_PACK_STS.CHARGING p) && decide (k.cur < 0) && !belowC k.cur k.q sh 10 && due then
    let t := s.now
    (s.modPack p (fun k => { k with pulse := some t, pulseAt := some t })).charge p
  else s
def execLightPulse (dt pack : Nat) (s : State) : Host.Outcome State Fault Refusal := .next (lightPulse pack (s.elapse dt))

/-- Index of the entry nearest to `x`, the lower one of two equally near. -/
def nearest (x : Int) (l : List Int) : Nat :=
  let d := fun (i : Nat) => (l.getD i 0 - x).natAbs
  (List.range l.length).foldl (fun b i => if d i < d b then i else b) 0

/-- LIGHT_PULSE_END (R97): after 10 ms the nearest entry moves a quarter of the way toward ΔV ÷ ΔI. -/
def lightPulseEnd (p : Nat) (dv di : Int) (s : State) : State :=
  match (s.pack p).pulse with
  | some t =>
    if t + 10000000 ≤ s.now then
      let i := 8 * nearest (s.packTemp p) zTemps +
        nearest (s.fget (Fld.CIS_PACK_EST.SOC p)) (zSocs.map (fun (n : Nat) => (n : Int)))
      let n := s.freeCtr
      let z : Int := if di = 0 then ((Config.pulseZ n).toNat : Int) else dv * 100000 / di
      let s : State := if di = 0 then { s with freeCtr := n + 1 } else s
      let old : Int := s.zEntry p i
      let s := (s.setZ p i (old + (z - old) / 4).toNat).modPack p (fun k => { k with pulse := none })
      (s.zChanged p).charge p
    else s
  | none => s
def execLightPulseEnd (dt pack : Nat) (dvMv diMa : Int) (s : State) : Host.Outcome State Fault Refusal :=
  .next (lightPulseEnd pack dvMv diMa (s.elapse dt))

/-! ## Packs arriving and leaving (R106, R107) -/

/-- PACK_REMOVED (R106, Table 04-7): a running calibration or rehearsal ends, whichever pack is pulled. -/
def packRemoved (p : Nat) (s : State) : State :=
  if p < 4 && s.on (Fld.CIS_PACK_STS.PRESENT p) then
    let s := ((s.fset (Fld.CIS_PACK_STS.PRESENT p) 0).fset (Fld.CIS_PACK_STS.COUNTED p) 0).modPack p (fun k => { k with
      swapDue := true
      pulse := none
      restAt := none })
    let s := ((s.fset (Fld.CIS_PACK_STS.AT_REST p) 0).charge p).fset Fld.CIS_TIME_STS.PACK_LOST 1
    let s := (s.bump Fld.CIS_EVT_CNT.PACK_LOSS Fld.CIS_EVT_CNT.LOSS_SAT).fault (srcOf 78 7) 0x46 p
    ((s.calEnd 6 6).rehAbort 3 true).chargeAll
  else s
def execPackRemoved (dt pack : Nat) (s : State) : Host.Outcome State Fault Refusal :=
  .next (packRemoved pack (s.elapse dt))

/-- SWAP_POLICY is applied to a pack (R107): at its voltage at insertion, or for a pack that a loss of domain 0 makes count as
inserted at the one found. -/
def State.swapIn (s : State) (p : Nat) : State :=
  let t := s.now
  let v := (s.pack p).vIn.getD (s.fget (Fld.CIS_PACK_STS.VOLT_MV p))
  let s := (s.socFrom p v).modPack p (fun k => { k with
    vIn := none
    swapDue := false
    uncAt := t
    restAt := none
    pulse := none
    pulseAt := none })
  let s := ((s.fset (Fld.CIS_PACK_EST.SOC_UNC p) 50).fset (Fld.CIS_PACK_STS.INSERT_EST p) 1).fset
    (Fld.CIS_PACK_STS.AT_REST p) 0
  if s.on Fld.CIS_CFG.SWAP_POLICY then s
  else
    let s := s.modPack p (fun k => { k with q := k.qDes * 80 / 100, dis := 0 })
    let s := (s.fset (Fld.CIS_PACK_EST.LOAD_F p) 255).fset (Fld.CIS_PACK_EST.CYCLES p) 0
    let d := s.defaultZ
    let s := (List.range 40).foldl (fun s i => s.setZ p i (d i)) s
    (s.healthShow p).zChanged p

/-- At start the policy applies to every pack that changed while the device was OFF (R107, R464). -/
def State.swapAll (s : State) : State :=
  allPacks.foldl (fun s p =>
    if s.on (Fld.CIS_PACK_STS.PRESENT p) && (s.pack p).swapDue then (s.swapIn p).judgePack p else s) s

/-- PACK_INSERTED (R107): while OFF the policy waits for the next start. -/
def packInserted (p mv : Nat) (s : State) : State :=
  if p < 4 && !s.on (Fld.CIS_PACK_STS.PRESENT p) then
    let t := s.now
    let s := ((s.fset (Fld.CIS_PACK_STS.PRESENT p) 1).fsat (Fld.CIS_PACK_STS.VOLT_MV p) mv).modPack p (fun k => { k with
      heldAt := t
      vIn := some mv
      swapDue := true })
    if s.dev == .off then s else s.swapIn p
  else s
def execPackInserted (dt pack mv : Nat) (s : State) : Host.Outcome State Fault Refusal :=
  .next (packInserted pack mv (s.elapse dt))

/-- PACK_COUNTED (R86): the pack has been present for 1 s. -/
def packCounted (p : Nat) (s : State) : State := if p < 4 then s.judgePack p else s
def execPackCounted (dt pack : Nat) (s : State) : Host.Outcome State Fault Refusal :=
  .next (packCounted pack (s.elapse dt))

/-! ## Usable energy (R100 to R103) -/

/-- Integer square root, rounded down, of a number below 2^80. -/
def isqrt (n : Nat) : Nat :=
  (List.range 40).foldl (fun r k => if (r + 2 ^ (39 - k)) * (r + 2 ^ (39 - k)) ≤ n then r + 2 ^ (39 - k) else r) 0

/-- The sums e_del and e_ocv of R101 over q × 0.01, µV: `pp` the load share in µW. -/
def deratePair (ocv z : List Nat) (cells vCut loadF : Nat) (t : Int) (pp soc : Nat) : Nat × Nat :=
  let r := (List.range ((soc + 9) / 10)).foldl (fun (a : Nat × Nat × Bool) (n : Nat) =>
    let x : Int := (soc : Int) - 10 * n
    let v := (ocvOf ocv x).toNat * cells
    let zn := (zOf z x t).toNat * (64 + loadF) / 64
    let all := a.2.1 + v
    if a.2.2 then
      if v * v * 1000 < 4 * zn * pp then (a.1, all, false)
      else
        let u := (v + isqrt ((v * v * 1000 - 4 * zn * pp) / 1000)) / 2
        if u < cells * vCut * 1000 then (a.1, all, false) else (a.1 + u, all, true)
    else (a.1, all, false)) (0, 0, true)
  (r.1, r.2.1)

/-- What a pack delivers in J, and DERATE in 0.1 %, at a share in µW (R100, R101) from a state of charge in 0.1 %. A table
impedance of 0 leaves the terminal voltage at the open-circuit voltage (log entry 94). -/
def State.energyFrom (s : State) (p pp soc : Nat) : Nat × Nat :=
  let k := s.pack p
  let t := if s.on (Fld.CIS_PACK_STS.NTC_FAULT p) then -40
    else min (s.packTemp p) (ofField 8 (s.fget Fld.CIS_CFG.DERATE_FLOOR))
  let o := s.ocv
  if !ocvValid o || k.qDes = 0 then (0, 0)
  else
    let d := deratePair o (s.zTable p) (s.fget (Fld.CIS_PACK_CFG.CELLS p)) (s.fget (Fld.CIS_PACK_CFG.V_CUT_MV p))
      (s.fget (Fld.CIS_PACK_EST.LOAD_F p)) t pp soc
    let e := s.fget (Fld.CIS_PACK_CFG.DESIGN_DWH p) * 360 * soc * min k.q k.qDes * d.1
    (e / (1000 * k.qDes * max 1 d.2), 1000 * d.1 / max 1 d.2)
/-- E_p and DERATE as a pack stands: 0 J below its cut-off voltage (R86). -/
def State.energyAt (s : State) (p pp soc : Nat) : Nat × Nat :=
  let e := s.energyFrom p pp soc
  (if s.fget (Fld.CIS_PACK_STS.VOLT_MV p) < s.fget (Fld.CIS_PACK_CFG.CELLS p) * s.fget (Fld.CIS_PACK_CFG.V_CUT_MV p) then 0
    else e.1, e.2)
/-- SOC − SOC_UNC, 0.1 % (R89). -/
def State.socSafe (s : State) (p : Nat) : Nat := s.fget (Fld.CIS_PACK_EST.SOC p) - s.fget (Fld.CIS_PACK_EST.SOC_UNC p)

/-- MIXED (R85). -/
def State.mixed (s : State) : Bool :=
  let ps := allPacks.filter (fun p => s.on (Fld.CIS_PACK_CFG.ENABLE p))
  let key := fun (p : Nat) => (s.fget (Fld.CIS_PACK_CFG.CELLS p), s.fget (Fld.CIS_PACK_CFG.DESIGN_DWH p))
  ps.any (fun p => key p != key (ps.headD 0))
/-- The load share of one of `n` packs, µW (R102); P_SPILL itself with MIXED set. -/
def State.shareUw (s : State) (n : Nat) : Nat :=
  let w := max (10 * s.fget Fld.CIS_CFG.P_SPILL_W) (s.fget Fld.CIS_REH_STS.P_MEAS) * 100000
  if s.mixed then w else w / max 1 n

/-- The pack of the largest E_p, the lowest-numbered of equals. -/
def largest : List (Nat × Nat) → Option Nat
  | [] => none
  | l => some (l.foldl (fun (b : Nat × Nat) e => if b.2 < e.2 then e else b) (l.headD (0, 0))).1

/-- SOC_RPT (R90, R91): MODE 0 never rises while a counted pack discharges above C/50; in MODE 1 full charge is SOC 100.0 % with no
SOC_UNC taken off (log entry 94). -/
def State.socReport (s : State) (pps : List (Nat × Nat)) : State :=
  let ps := s.countedPacks
  let m := decide (3 ≤ ps.length)
  let s := s.fput Fld.CIS_RPT.MODE m
  if ps.isEmpty then
    let n := s.freeCtr
    { s.fset Fld.CIS_RPT.SOC_RPT (Config.socRpt n).toNat with freeCtr := n + 1 }
  else if m then
    let full := sumNat (ps.map (fun p => (s.energyFrom p (tabGet 0 p pps) 1000).1))
    let now_ := sumNat (ps.map (fun p => s.fget (Fld.CIS_PACK_ENERGY.DELIV_J p)))
    s.fsat Fld.CIS_RPT.SOC_RPT (if full = 0 then 0 else min 1000 (1000 * now_ / full))
  else
    let w := fun (p : Nat) => s.fget (Fld.CIS_PACK_CFG.DESIGN_DWH p)
    let tot := sumNat (ps.map w)
    let v := if tot = 0 then 0 else sumNat (ps.map (fun p => w p * s.socSafe p)) / tot
    let dis := ps.any (fun p => aboveC (s.pack p).cur (s.pack p).q (s.fget (Fld.CIS_PACK_CFG.SHUNT_UOHM p)) 50)
    if dis && decide (s.fget Fld.CIS_RPT.SOC_RPT < v) then s else s.fset Fld.CIS_RPT.SOC_RPT v

/-- USABLE_PUBLISH (R103): CIS_PACK_ENERGY, CIS_USABLE and what is reported with them, at a beat boundary. N1_DEDUCT_J leaves the
rehearsal's deduction out (log entry 94). -/
def State.publishUsable (s : State) : State :=
  let s := allPacks.foldl (fun s p => s.judgePack p) s
  let ps := s.countedPacks
  let n := ps.length
  let n1 := s.on Fld.CIS_CFG.N1_EN
  let plain := ps.map (fun p => (p, (s.energyAt p (s.shareUw n) (s.socSafe p)).1))
  let drop := if n1 && decide (2 ≤ n) then largest plain else none
  let share := fun (p : Nat) => if drop.isNone || drop == some p then s.shareUw n else s.shareUw (n - 1)
  let pps := ps.map (fun p => (p, share p))
  let fin := ps.map (fun p => (p, s.energyAt p (share p) (s.socSafe p)))
  let total := sumNat (plain.map (·.2))
  let use := sumNat ((fin.filter (fun e => drop != some e.1)).map (fun e => e.2.1))
  let w := max (10 * s.fget Fld.CIS_CFG.P_SPILL_W) (s.fget Fld.CIS_REH_STS.P_MEAS)
  let cut := if s.cis.rehFrom.isSome then (2 * w + 9) / 10 else 0
  let s := allPacks.foldl (fun s p =>
    let e := tabGet (0, 0) p fin
    ((s.fsat (Fld.CIS_PACK_ENERGY.DELIV_J p) e.1).fset (Fld.CIS_PACK_EST.DERATE p) e.2).fput
      (Fld.CIS_PACK_STS.N1_DROPPED p) (drop == some p)) s
  let s := (s.fput Fld.CIS_RPT.MIXED s.mixed).fput Fld.CIS_RPT.N1_UNMET (n1 && decide (n < 2))
  let s := (s.fsat Fld.CIS_USABLE.N1_DEDUCT_J (total - use)).fsat Fld.CIS_USABLE.USABLE_J (use - cut)
  s.socReport pps

/-- What the cistern does at a beat boundary (R96, R98, R103, R104). -/
def State.cisBeat (s : State) : State :=
  ((allPacks.foldl (fun s p => s.zFlash p) s.rehPlan).publishUsable).chargeAll

/-! ## Elapsed time (R109, R112) -/

/-- ALARM_HIT (R112): CIS_ELAPSED reaches CIS_ALARM; held, a level wake source. -/
def alarmHit (s : State) : State :=
  let a := s.fget Fld.CIS_ALARM.ALARM_US
  if a != 0 && decide (a ≤ s.nowUs) && !s.cis.alarmDone then
    wakeSource 0 ((s.fset Fld.CIS_TIME_STS.ALARM_HIT 1).modCis (fun c => { c with alarmDone := true }))
  else s
def execAlarmHit (dt : Nat) (s : State) : Host.Outcome State Fault Refusal := .next (alarmHit (s.elapse dt))

/-- CRYSTAL_TRIM (R109): the oscillator is trimmed against a running crystal. -/
def crystalTrim (running : Bool) (s : State) : State := s.fput Fld.CIS_TIME_STS.XTAL_OK running
def execCrystalTrim (dt : Nat) (running : Bool) (s : State) : Host.Outcome State Fault Refusal :=
  .next (crystalTrim running (s.elapse dt))

end Sys2Proof.Machine
end

