-- ==== Sys2Proof/Machine/Spill.lean ====
section
/-! DEFINITION. Cuts and spills (chapter 06; R72 to R75, R133, R35 to R37): checkpoint cuts, triggers, T, the spill order,
the stages, the seal and its record. -/

namespace Sys2Proof.Machine

/-! ## Checkpoint cuts (R133, R314, Table 03-11, R69) -/

/-- One cut of one LD at the present boundary: causes that fall on the same beat share it and its identifier (R314), and of them
PLUNGE is recorded before the others (R74). The second part is its number and identifier, `none` when R135 refuses the cut. -/
def State.cutLd (s : State) (n cause : Nat) (want late report : Bool) (rings : List (Nat × Nat)) : State × Option (Nat × Nat) :=
  let b := s.curBeat
  match (s.ld n).ckpts.getLast? with
  | some c =>
    if c.cutBeat == b && !c.complete then
      let x := s.takeRetain n (want && !c.retain)
      ((x.1.modCkpt n c.no (fun c => { c with
        rings := c.rings ++ rings
        retain := c.retain || x.2
        kept := c.kept || (cause == 0 && want && (c.retain || x.2))
        cause := max c.cause cause
        late := c.late || late
        report := c.report || report })).showCkpts n, some (c.no, c.id))
    else
      let x := s.takeCkpt n cause want late report rings
      (x.1, if x.2 then some ((x.1.ld n).cuts, (x.1.ld n).cutSeq) else none)
  | none =>
    let x := s.takeCkpt n cause want late report rings
    (x.1, if x.2 then some ((x.1.ld n).cuts, (x.1.ld n).cutSeq) else none)

/-- A plunge or colony checkpoint covers an LD (Table 03-11, R69): `mask` its groups, `own` whether the plunge is this
module's own. -/
def State.covers (s : State) (mask : Nat) (own : Bool) (n : Nat) : Bool :=
  s.bound n && s.cls n != 2 &&
  (match s.fget (Fld.SLU_LD_PCFG.SCOPE n) with
   | 0 => true
   | 1 => own || mask.testBit (s.fget (Fld.SLU_LD_PCFG.GROUP n))
   | _ => own)

/-- The cut of every covered LD, and its SEAL_REPORT to come (R52, R74). -/
def State.cutCovered (s : State) (cause beat mask : Nat) (own late : Bool) : State :=
  let want := s.on Fld.EDDY_CFG.PLUNGE_RETAIN
  let r := (allLds.filter (s.covers mask own)).foldl
    (fun (x : State × List (Nat × Nat × Nat) × List Nat) n =>
      let y := x.1.cutLd n cause want late true []
      match y.2 with
      | some c => (y.1, x.2.1 ++ [(n, c.1, c.2)], x.2.2)
      | none => (y.1, x.2.1, x.2.2 ++ [n])) (s, [], [])
  r.1.modCol (fun c => { c with cuts := c.cuts ++ [PlungeCut.mk beat late r.2.1 r.2.2] })

/-- CHECKPOINT_AT descriptors of an LD whose boundary has come: ring, acceptance number and whether retention is asked for. -/
def State.dueCuts (s : State) (n : Nat) : List (Nat × Nat × Bool) :=
  (s.rings.filter (fun e => e.1 / 256 == n)).flatMap (fun e =>
    (e.2.accs.filter (fun a => a.st == .running && a.desc.opcode.toNat == 2 &&
      (match a.cut with | some t => decide (t ≤ s.curBeat) | none => false))).map
      (fun a => (e.1 % 256, a.order, a.desc.arg1.getLsbD 0)))

/-- The cut of one LD for its CHECKPOINT_AT descriptors; a cut that R135 refuses completes them NOT_PERMITTED. -/
def State.cutAsked (s : State) (n : Nat) : State :=
  let due := s.dueCuts n
  if due.isEmpty then s
  else
    let x := s.cutLd n 0 (due.any (fun e => e.2.2)) false false (due.map (fun e => (e.1, e.2.1)))
    let s := due.foldl (fun s e => s.modAcc n e.1 e.2.1 (fun a => { a with cut := none })) x.1
    match x.2 with
    | some _ => s
    | none => due.foldl (fun s e => s.finish n e.1 e.2.1 11 0 0) s

/-- A CHECKPOINT_AT that is accepted and not begun, that no check of R311 refuses, and whose BOUNDARY has passed since the device
left service (R314, R17). -/
def State.missedCut (s : State) (n : Nat) (a : Acc) : Bool :=
  let t := a.desc.arg0.toNat
  a.st == .waiting && a.desc.opcode.toNat == 2 && decide (a.tagWas < a.desc.tag.toNat) &&
    a.desc.roleGen.toNat == (s.ld n).gen % 65536 && descClean a.desc && decide (a.desc.arg1.toNat ≤ 1) && s.isEpoch t &&
    decide (s.boot.outBeat ≤ t) && decide (t ≤ s.curBeat)

/-- Cuts whose boundary has passed while the device could not take them (R314, R69): CHECKPOINT_AT descriptors complete
ABORTED_RESET, and colony checkpoints are not taken. -/
def State.passCuts (s : State) : State :=
  let b := s.curBeat
  let s := s.modCol (fun c => { c with ckpts := c.ckpts.filter (fun e => decide (b < e.1)) })
  allLds.foldl (fun s n =>
    let missed := (s.rings.filter (fun e => e.1 / 256 == n)).flatMap (fun e =>
      (e.2.accs.filter (s.missedCut n)).map (fun a => (e.1 % 256, a.order)))
    let s := (s.dueCuts n).foldl (fun s e => s.finish n e.1 e.2.1 8 0 0) s
    missed.foldl (fun s e => s.finish n e.1 e.2 8 0 0) s) s

/-- CHECKPOINT_CUT (R133): at a boundary, the cuts of CHECKPOINT_AT descriptors and of colony checkpoints whose beat has
come; colony checkpoints only in REFILLING or SERVING (R69). -/
def checkpointCut (s : State) : State :=
  if !s.isOpen then s
  else
    let b := s.curBeat
    let due := s.col.ckpts.filter (fun e => decide (e.1 ≤ b))
    let s := s.modCol (fun c => { c with ckpts := c.ckpts.filter (fun e => decide (b < e.1)) })
    let s := due.foldl (fun s e => s.cutCovered 1 e.1 e.2 false false) s
    let s := allLds.foldl (fun s n => s.cutAsked n) s
    ((s.writeCkptRecs).reportCuts).showWeir
def execCheckpointCut (s : State) : Host.Outcome State Fault Refusal := .next (checkpointCut s)

/-! ## Triggers (R143 to R145, R73) -/

/-- DRAM holds something that is not on flash. -/
def State.unsaved (s : State) : Bool :=
  s.pages.any (fun e => s.bound e.2.ld && (e.2.st == .dirty || e.2.st == .cleaning || e.2.st == .forked)) ||
  !s.eddy.isEmpty

/-- SPILL_TRIGGER (R143, R144, R400): the module will spill at the T of R72. -/
def State.spillTrigger (s : State) (cause : Nat) : State :=
  let s := ((s.pdmSpill.modPsq (fun q => { q with detect := true })).cisTrigger).setStage 1
  s.ownSpill cause

/-- FM_SPILL (R72, R143, R145). -/
def fmSpill (s : State) : State :=
  match s.dev with
  | .refilling | .serving => s.spillTrigger 3
  | .off => s
  | .training => (s.ownPlunge 3).pullPlungeN
  | _ => ((s.bump Fld.SPL_CNTB.IGNORED Fld.SPL_CNTB.IG_SAT).ownPlunge 3).pullPlungeN
def execFmSpill (dt : Nat) (s : State) : Host.Outcome State Fault Refusal := .next (fmSpill (s.elapse dt))

/-- INPUT_COLLAPSE (R388, R143, R145, R384, Table 02-7). -/
def inputCollapse (s : State) : State :=
  let s := (((s.fset Fld.PSQ_STS.INPUT_LOW 1).fset Fld.PSQ_STS.INPUT_GOOD 0).levelOff 1).chargeAll
  match s.dev with
  | .refilling | .serving => s.spillTrigger 1
  | .training => if s.unsaved then s.spillTrigger 1 else s.offRequest.goOff
  | .off => s.offRequest
  | _ => s.bump Fld.SPL_CNTB.IGNORED Fld.SPL_CNTB.IG_SAT
def execInputCollapse (dt : Nat) (s : State) : Host.Outcome State Fault Refusal := .next (inputCollapse (s.elapse dt))

/-- INPUT_GOOD_RISE (R388, R381, R403): INPUT_GOOD becomes 1: an on request and a wake source. -/
def inputGoodRise (s : State) : State :=
  if s.on Fld.PSQ_STS.INPUT_GOOD then s
  else
    let s := (s.fset Fld.PSQ_STS.INPUT_GOOD 1).fset Fld.PSQ_STS.INPUT_LOW 0
    wakeSource 1 s.onRequest
def execInputGoodRise (dt : Nat) (s : State) : Host.Outcome State Fault Refusal := .next (inputGoodRise (s.elapse dt))

/-! ## The spill order (R151, R136) -/

/-- What the spill writes of one LD, in order: eddy copies by oldest cut, then slot; then owed pages by number (R151). Copies in a
rill stripe whose programs have begun are left to it (R149). -/
def State.spillItems (s : State) (n : Nat) : List (Nat × Nat × Option Nat) :=
  let eds := sortBy (fun (e : Nat × Eddy) => s.eddyCut e.2 * 2 ^ 32 + e.1)
    (s.eddy.filter (fun e => e.2.ld == n && e.2.filled && !e.2.onWay && !e.2.byItem))
  let owed := fun (e : Nat × PageRec) => (e.2.st == .dirty || e.2.st == .cleaning || e.2.st == .forked) &&
    (s.cls n == 0 || s.oldTag e.2)
  eds.map (fun e => (n, e.2.page, some e.1)) ++ ((s.pagesOf n).filter owed).map (fun e => (n, e.1, none))

/-- LDs in ascending PRIO, then number. -/
def State.prioLds (s : State) : List Nat := sortBy (fun n => s.fget (Fld.WEIR_LD_CFG.PRIO n) * 32 + n) s.shareLds

/-- An OVER_WEIR checkpoint is pending. -/
def Ld.overWeir (l : Ld) : Bool := l.pending.any (fun c => c.overWeir)

/-- How many of an LD's items come in their LD's turn: those within the allowance of an OVER_WEIR LD, else all (R136). -/
def State.spillPart (s : State) (n : Nat) : Nat := if (s.ld n).overWeir then s.allow n else (s.spillItems n).length
/-- What lies beyond an OVER_WEIR LD's allowance comes after every LD (R136). -/
def State.spillTail (s : State) : List (Nat × Nat × Option Nat) :=
  s.prioLds.flatMap (fun n => (s.spillItems n).drop (s.spillPart n))
/-- The order of stage B (R151, R136). -/
def State.spillOrder (s : State) : List (Nat × Nat × Option Nat) :=
  s.prioLds.flatMap (fun n => (s.spillItems n).take (s.spillPart n)) ++ s.spillTail

/-! ## T (R146 to R149, R35) -/

/-- Work the takeover stops (R149): what no begun stripe holds goes back, pages to DIRTY and copies to their slots, record groups
and relocations to where they waited; draws and fork copies are abandoned (R37). -/
def State.dropUnbegun (s : State) : State :=
  let open_ := s.log.stripes.filter (fun t => !t.closed)
  let seqs := open_.map (·.seq)
  let items := open_.flatMap (·.items)
  let due := (s.log.recDue.filter (fun e => seqs.contains e.1)).map (·.2)
  let back := s.rill.sel ++ items
  let s := (s.modRill (fun r => { r with sel := [], ready := [] })).modLog (fun l => { l with
    stripes := l.stripes.filter (fun t => t.closed)
    recDue := l.recDue.filter (fun e => !seqs.contains e.1)
    poisonDue := due.foldl (fun m g => setIns g m) l.poisonDue
    reloc := l.reloc ++ items.filterMap (fun i => i.src) })
  let s := back.foldl (fun s i =>
    let s := match i.slot with
      | some e =>
        let x := tabGet Eddy.none e s.eddy
        if s.eddy.any (fun y => y.1 == e) then
          { s with eddy := tabSet Eddy.none e { x with onWay := false, byItem := false } s.eddy }
        else s
      | none => s
    if i.form.kind == 1 && i.src.isNone && !i.stale && (s.page i.form.page).st == .cleaning then
      s.setPState i.form.page .dirty
    else s) s
  let s := s.redoCkpts (items.map (·.key)) items
  let s := s.rfl_.draws.foldl (fun s d => s.setPState d.page .unfilled) s
  let s := (s.dropReqs (fun q => match q.kind with | .page _ w => !w | _ => false)).modRfl (fun r => { r with draws := [] })
  let s := s.modLog (fun l => { l with
    dieOps := l.dieOps.map (fun e => (e.1, { e.2 with waiting := [], suspended := false })) })
  let keep := s.eddy.filter (fun e => e.2.filled)
  ({ s with eddy := keep } : State).showSlots

/-- The sluice closes (R146): reads already at a channel complete; everything else is held, a read too that was waiting for its
draw, which is abandoned (R37; log entry 54). -/
def State.closeSluice (s : State) : State :=
  let hold := fun (r : Req) => match r.at_ with
    | .ingress => r
    | .dram => r
    | _ => { r with at_ := .ldState }
  let isFill := fun (q : DReq) => match q.kind with | .fill _ => true | _ => false
  let cut : Sub → Sub := fun x => { x with
    queue := x.queue.filter (fun q => !isFill q)
    flight := x.flight.filter (fun q => !isFill q) }
  let f : Chan → Chan := fun c => { c with subs := c.subs.map (fun e => (e.1, cut e.2)) }
  let s : State := { s with chans := s.chans.map (fun e => (e.1, f e.2)) }
  (s.modFab (fun x => { x with reqs := x.reqs.map hold })).showTrk

/-- Every LD in REFILLING, SERVING or QUIESCED enters SPILLING; the state it leaves is kept (R35). -/
def State.ldsSpill (s : State) : State :=
  (allLds.filter s.bound).foldl (fun s n =>
    (s.modLd n (fun l => { l with prior := l.st, heldAtT := l.held })).setLdState n .spilling) s

/-- ROLE_TAKEOVER (R149): role generations advance, and every target's sequence begins at 1 (R153). -/
def State.advanceRoles (s : State) : State :=
  let g := s.spill.roleGen + 1
  let s := { s.modSpill (fun x => { x with roleGen := g, seqs := [], sent := [], sentS := [] }) with targets := [] }
  (List.range 16).foldl (fun s k => s.fset (Fld.SCB_CL_STS.ROLE_GEN k) g) s

/-- SPILL_OPEN (R150): stage A. -/
def State.spillOpen (s : State) : State :=
  s.elyRecord 1 s.spill.gen ((0x20, cutWord s.spill.cut s.spill.origin) ::
    allLds.map (fun n => (0x28 + 4 * n, tabGet 0 n s.spill.owedAtT)))

/-! ## The maintenance port at T (R229, R234) -/

/-- A protection session closes (R234). -/
def State.closeSession (s : State) : State :=
  (s.modFlm (fun f => { f with session := none })).fset Fld.FLM_PROT_STS.SESSION 0
/-- A port command completes with a status of Table 12-9 after `us` µs; NOT_PERMITTED, LOCKED, BUSY_SELF and
INVALID_TRANSITION count in REFUSED. -/
def State.flmEnd (s : State) (status us : Nat) : State :=
  let s := ((s.modFlm (fun f => { f with op := none })).fset Fld.FLM_STS.STATE 6).fset Fld.FLM_STS.STATUS status
  let s := s.fsat Fld.FLM_STS.TIME_US us
  if [0x0B, 0x10, 0x11, 0x12].contains status then s.bump Fld.FLM_CNT.REFUSED Fld.FLM_CNT.RF_SAT else s
/-- The running port command's time so far, µs. -/
def State.flmUs (s : State) : Nat := (s.now - s.flm.cmdAt) / 1000
/-- At T the session closes, and a port operation still queued is dropped. -/
def State.flmAtT (s : State) : State :=
  let s := s.closeSession
  match s.flm.op with
  | some o =>
    if s.flmIssued o then s.modFlm (fun f => { f with op := some { o with issued := true } })
    else (s.flmEnd 0x0B s.flmUs).fset Fld.FLM_STS.SPILL_ABORT 1
  | none => s

/-- A repair of boot copies stops at a spill's T; the next start resumes it (R338). -/
def State.repairStops (s : State) : State :=
  if s.boot.repair.isEmpty then s
  else (s.modBoot (fun b => { b with repair := [], retried := false })).fset Fld.BOOT_STS.REPAIR_ACTIVE 0

/-- The boundary of T on the module that spills (R146 to R150). -/
def State.spillBegin (s : State) (cut origin cause : Nat) (late own : Bool) : State :=
  let gen := max s.newestGen s.spill.usedGen + 1
  let was := s.dev
  let owed := s.shareLds.map (fun n => (n, (s.ld n).owed))
  let allow := s.shareLds.map (fun n => (n, s.allow n))
  let devOwed := s.devOwed
  let over_ := s.shareLds.filter (fun n => (s.ld n).overWeir)
  let s := (s.flmAtT.closeSluice.unfreezeAll).dropUnbegun
  let order := s.spillOrder
  let tail := s.spillTail
  let deficit := s.deficit
  let head := logKey 0 (s.log.used.getLastD 0) (if s.dieSets = 0 then 0 else s.log.unit / s.dieSets) 0
  let s := s.modSpill (fun x => { x with
    gen := gen
    usedGen := gen
    cut := cut
    origin := origin
    cause := cause
    late := late
    ownCut := own
    fromRefilling := was == .refilling
    deficit := deficit
    shortfall := false
    suspect := false
    drained := false
    taken := false
    owedAtT := owed
    allowAtT := allow
    overAtT := over_
    order := order
    tail := tail
    written := []
    wrote := []
    lost := []
    list := []
    metas := []
    stored := 0
    metaB := 0
    poisoned := []
    rings := s.rings
    railOff := false
    abandoned := false
    suspects := []
    rewritten := []
    asked := []
    ready := []
    doubt := []
    void := []
    reasked := []
    twice := false
    progSent := []
    pageNo := 0
    issued := false
    record := none
    sealKey := none
    checkDue := 0
    headAtT := head })
  let b := s.curBeat
  let s := { s.modCol (fun c => { c with window := c.window.map (fun w => { w with ownSpill := none }), ownCut := none }) with
    boot := { s.boot with outBeat := b } }
  let s := (s.ldsSpill.advanceRoles.repairStops).setDev .spilling
  let s := ((s.setStage 3).fset Fld.SPL_STATE.SHORTFALL 0).showLdNow
  let s := (((s.fput Fld.SPL_CUT.LATE late).fset Fld.SPL_CUT.SEALED_OK 0).fset Fld.SPL_CUT.T_ORIGIN origin).fset
    Fld.SPL_CUT.CUT_BEAT cut
  let s := (s.fsat Fld.SPL_PROGRESS.OWED_AT_T devOwed).fset Fld.SPL_PROGRESS.PAGES_DONE 0
  (s.bump Fld.SPL_CNTA.SPILLS Fld.SPL_CNTA.SP_SAT).spillOpen

/-- At the boundary of an own cut later than its window's T, whose window has closed since, the module spills (R72, R144). -/
def State.ownCutDue (s : State) : State :=
  match s.col.ownCut with
  | some o =>
    if decide (o.beat ≤ s.curBeat) && (s.isOpen || s.dev == .training) then s.spillBegin o.beat s.moduleId o.cause o.late true
    else s
  | none => s

/-- CUT_BEAT_BOUNDARY (R74, R72, R75): at the boundary of T the module spills, if its input has failed or it is the target of its
own FM_SPILL, or takes its checkpoint; at the boundary of a later own cut it spills. -/
def cutBeatBoundary (s : State) : State :=
  match s.col.window with
  | none => s.ownCutDue
  | some w =>
    let b := s.curBeat
    let spillNow := w.ownSpill.any (fun t => decide (t ≤ b))
    let able := s.isOpen || s.dev == .training
    if !w.cut && decide (w.tw ≤ b) then
      let cause := if spillNow then w.spillCause else (s.col.ownCut.map (·.cause)).getD 1
      let fails := spillNow || s.col.ownCut.isSome
      let s := s.modCol (fun c => { c with window := some { w with cut := true } })
      if fails && able then s.spillBegin w.tw (s.fget Fld.COL_PLUNGE_STS.ORIGIN) cause w.late false
      else if s.isOpen then
        ((s.cutCovered 2 w.tw w.groups w.own w.late).writeCkptRecs).reportCuts.showWeir
      else s
    else if w.cut && spillNow && able then
      s.spillBegin (w.ownSpill.getD b) s.moduleId w.spillCause w.late true
    else s.ownCutDue
def execCutBeatBoundary (s : State) : Host.Outcome State Fault Refusal := .next (cutBeatBoundary s)

/-! ## Stages (R148 to R151) -/

/-- The spill goes on: the hold-up has not ended it (R163). -/
def State.spilling (s : State) : Bool := s.dev == .spilling && !s.spill.abandoned

/-- Stage B begins once the drain and the takeover are both done. -/
def State.stageB (s : State) : State :=
  if s.spilling && s.stage == 3 && s.spill.drained && s.spill.taken then (s.setStage 4).elyPump else s

/-- SPILL_DRAIN_DONE (R148). -/
def spillDrainDone (s : State) : State :=
  if s.dev == .spilling then ((s.drainAll).modSpill (fun x => { x with drained := true })).stageB else s
def execSpillDrainDone (dt : Nat) (s : State) : Host.Outcome State Fault Refusal := .next (spillDrainDone (s.elapse dt))

/-- SPILL_TAKEOVER_DONE (R149). -/
def spillTakeoverDone (s : State) : State :=
  if s.dev == .spilling then (s.modSpill (fun x => { x with taken := true })).stageB else s
def execSpillTakeoverDone (dt : Nat) (s : State) : Host.Outcome State Fault Refusal :=
  .next (spillTakeoverDone (s.elapse dt))

/-! ## The seal record (R165) -/

/-- LDs that a shortfall leaves incomplete (R162): the one being written and every LD after it in the order of R151. -/
def State.shortLds (s : State) : List Nat :=
  match s.spill.shortfall, s.spill.order.head? with
  | true, some e =>
    let later := s.prioLds.dropWhile (· != e.1)
    if s.spill.tail.contains e then later.filter s.spill.overAtT.contains
    else later ++ (s.spill.order.map (·.1)).filter (fun n => !later.contains n)
  | _, _ => []

/-- What the seal says of an LD (R165). -/
def State.sealLd (s : State) (n : Nat) : SealLd :=
  let l := s.ld n
  let left := (s.spill.order.filter (fun e => e.1 == n)).map (·.2.1)
  SealLd.mk n (s.cls n != 2) (left.isEmpty && !s.shortLds.contains n) l.newestDone l.newestNo l.cutSeq (tabGet 0 n s.spill.written) (s.cls n)
    (s.fget (Fld.WEIR_LD_CFG.PRIO n)) (s.spill.overAtT.contains n) (s.spill.poisoned.contains n)
    (s.fget (Fld.SLU_LD_PCFG.SCOPE n)) (s.fget (Fld.SLU_LD_PCFG.GROUP n)) l.keyGen l.prior l.heldAtT left l.ckpts l.dflt
    (tabGet 0 n s.spill.owedAtT)

/-- FLAGS of the seal record. -/
def State.sealFlags (s : State) : Nat :=
  let x := s.spill
  let solo := s.elyIn 0 != s.elyIn 1
  (if x.late then 1 else 0) + (if x.fromRefilling then 2 else 0) + (if x.deficit then 4 else 0) +
  (if x.shortfall then 8 else 0) + (if solo then 16 else 0) + (if x.ownCut then 32 else 0) + (if x.suspect then 64 else 0)

/-- Page records as the image names them: what the spill wrote, CLEAN at its new place, over the records at the cut. -/
def State.sealRecs (s : State) : List (Nat × PageRec) :=
  s.spill.wrote.foldl (fun m w => match w.2.2.1 with
    | some _ => m
    | none => tabIns w.1 w.2.1 (tabDel w.1 m)) s.pages

/-- The seal as it would be written now. -/
def State.mkSeal (s : State) (beat : Nat) : Seal :=
  let x := s.spill
  Seal.mk x.gen s.newestGen x.cut x.origin beat x.cause x.late s.sealFlags ((allLds.filter s.bound).map s.sealLd)
    s.sealRecs x.rings (x.rings.map (fun e => (e.1, s.fget (Fld.RNG_TAG.TAG_HIGH (e.1 / 256) (e.1 % 256)))))
    (sumNat (x.written.map (·.2))) x.stored x.metaB x.list.length (x.sealKey.getD 0) x.headAtT
    x.metaKey s.moduleId (s.fget Fld.COL_TIME_STS.ROOT_ID) x.metas s.recIdx x.list

/-- Checkpoints the spill completes (R135, R206): their copies are taken and those that owe nothing are complete. -/
def State.sealCkpts (s : State) : State :=
  let s := s.spill.wrote.foldl (fun s w => match w.2.2.1 with
    | some _ => w.2.2.2.foldl (fun s no => s.ckptCopied w.2.1.ld no w.1 w.2.1) s
    | none => (s.owedTo w.2.1.ld w.1).foldl (fun s no => s.ckptCopied w.2.1.ld no w.1 w.2.1) s) s
  (allLds.filter s.bound).foldl (fun s n =>
    let s := (s.ld n).pending.foldl (fun s c =>
      let owes := s.eddy.any (fun e => e.2.ld == n && e.2.cuts.contains c.no &&
        !(s.spill.wrote.any (fun w => w.2.2.1 == some e.1)))
      if c.left.isEmpty && !owes then s.modCkpt n c.no (fun c => { c with recAddr := some 0 }) else s) s
    s.completeCkpts n (s.ld n).pending.length) s

/-! ## Stages C and D (R150) -/

/-- The contents of stage C (Table 08-5), form by form: record index, stage B stripes, ring state, LDs, checkpoints, eddy copies
written, poisoned pages, and record pages of pending checkpoints (layouts: log entry 84). -/
def State.metaForms (s : State) : List Content :=
  let t := s.sealCkpts
  let lds := allLds.filter s.bound
  let top := (s.recIdx.map (fun e => e.1 + 1)).foldl max 0
  let due := s.log.poisonDue ++ s.log.recDue.map (·.2)
  let lost := (s.spill.lost.map (·.2) ++
    (s.pages.filter (fun e => e.2.st == .poisoned && due.contains (e.1 / 256))).map (·.1)).dedup
  let recsOf := fun (c : Ckpt) => (c.forms.filter (fun k => (s.formAt k).kind == 3)).map (fun k =>
    metaRecEntry c.id (s.formAt k).page k)
  metaPages 1 511 ((List.range top).map (fun g => leBytes 8 (tabGet 0 g s.recIdx))) ++
  metaPages 2 255 (s.spill.list.map (fun e => leBytes 8 e.1 ++ leBytes 8 e.2)) ++
  metaPages 3 51 (s.spill.rings.flatMap (fun e => ringParts e.1 (s.ld (e.1 / 256)).gen
    (s.fget (Fld.RNG_TAG.TAG_HIGH (e.1 / 256) (e.1 % 256))) (s.fget (Fld.RNG_STS.STATE (e.1 / 256) (e.1 % 256)) == 2) e.2)) ++
  metaPages 4 63 (lds.map (fun n => (s.sealLd n).metaEntry)) ++
  metaPages 5 127 (lds.flatMap (fun n => (t.ld n).ckpts.map (fun c => c.metaEntry n))) ++
  metaPages 6 255 (s.spill.wrote.filterMap (fun w => w.2.2.1.map (fun i =>
    leBytes 4 i ++ leBytes 4 w.1 ++ leBytes 4 (s.ckptId w.2.1.ld (w.2.2.2.headD 0)) ++ leBytes 4 0))) ++
  metaPages 7 511 (lost.map (fun p => leBytes 4 p ++ leBytes 4 0)) ++
  metaPages 8 255 (lds.flatMap (fun n => (s.ld n).pending.flatMap recsOf))

/-- The META forms of stage C. -/
def State.metaItems (s : State) : List Item :=
  let cs := s.metaForms
  ((List.range cs.length).zip cs).map (fun e => s.fresh (s.newForm 4 e.1 wideLd 0 0 e.2) [])

/-- SPILL_STAGE_B_END (R151, R162): the last owed page is written, or a shortfall ends the stage once the stripes already
started are done. Stage C begins: its forms go into stripes of their own. -/
def spillStageBEnd (s : State) : State :=
  if s.spilling && s.stage == 4 && s.log.stripes.isEmpty && s.orderDone then
    let left := s.spill.order.filter s.stillOwed
    let s := if s.spill.shortfall then s.bump Fld.SPL_CNTB.SHORTFALLS Fld.SPL_CNTB.SF_SAT else s
    let s := (s.modSpill (fun x => { x with order := left, asked := [], ready := [] })).setStage 5
    let r := (s.placeAll 5 s.metaItems).1
    let mine := r.log.stripes.filter (fun t => t.writer == 5)
    let key := (mine.head?.map r.stripeKey).getD 0
    let size := sumNat (mine.map (fun t => 64 * t.used))
    (r.modSpill (fun x => { x with metaB := size, metaKey := key })).elyPump
  else s
def execSpillStageBEnd (dt : Nat) (s : State) : Host.Outcome State Fault Refusal := .next (spillStageBEnd (s.elapse dt))

/-- META_FIRST (R165): the log address of the stripe on flash that holds the first form of stage C, rewritten or not. -/
def State.metaFirst (s : State) : Nat :=
  let first := fun (x : Nat × Form) => x.2.kind == 4 && x.2.page == 0 && s.spill.metas.contains x.1
  match s.stripesOn.find? (fun e => e.2.writer == 5 && e.2.forms.any first) with
  | some e => (e.2.forms.head?.map (·.1)).getD s.spill.metaKey
  | none => s.spill.metaKey

/-- SPILL_STAGE_C_END (R150): the last stage C stripe is on flash and the Elytra issue the seal, on a seal stripe that holds the
record once on every member, with the SEAL journal record. -/
def spillStageCEnd (s : State) : State :=
  if s.spilling && s.stage == 5 then
    let s := (s.log.stripes.filter (fun t => t.writer == 5)).foldl (fun s t => ((s.closeStripe t.seq).freeDies t).land t) s
    let b := s.curBeat
    let first := s.metaFirst
    let s := s.modSpill (fun x => { x with metaKey := first })
    let g := s.sealCkpts.mkSeal b
    let body := Content.ofBytes (g.record Config.otpSerial.toNat none)
    let r := s.newStripe 7 true
    let s := (r.1.setStage 6).modSpill (fun x => { x with sealedAt := b, record := some g })
    let s := match r.2 with
      | some q => s.modStripe q (fun t => { t with items := [s.fresh (Form.mk 0 0 wideLd 0 0 q g.gen body.crc 1024 body 0 false) []] })
      | none => s
    s.elyPump
  else s
def execSpillStageCEnd (dt : Nat) (s : State) : Host.Outcome State Fault Refusal := .next (spillStageCEnd (s.elapse dt))

/-- Every Elytra in service sends RAIL_OFF (R168). -/
def State.sendRailOff (s : State) : State :=
  (s.elySend 5 railTarget []).modSpill (fun x => { x with railOff := true })

/-- SEAL_PROGRAMMED (R167): SEALED, the SEAL_REPORT, SPL_GEN, SPL_CUT and SPL_LD; the ranks go into self-refresh (R259). -/
def sealProgrammed (s : State) : State :=
  if s.spilling && s.stage == 6 then
    let s := s.sealCkpts
    let g := { s.spill.record.getD (s.mkSeal s.spill.sealedAt) with key := s.spill.sealKey.getD 0 }
    let s := (s.log.stripes.filter (fun t => t.writer == 7)).foldl (fun s t => ((s.closeStripe t.seq).freeDies t).land t) s
    let inc := g.inImage &&& (2 ^ 32 - 1 - g.complete)
    let t := s.now
    let s := { s with sealedImg := some g }
    let s := (((s.setDev .sealed).setStage 7).showLdNow).modSpill (fun x => { x with sealTime := t })
    let s := (allLds.filter s.bound).foldl (fun s n => s.setLdState n .sealed) s
    let s := if (s.dom 92).mode == 0 && !(s.dom 92).waking then
        s.sendSealReport (decide (inc = 0)) g.late 0 g.cut g.gen (BitVec.ofNat 32 inc)
      else s
    let s := ((s.fset Fld.SPL_GEN.GENERATION g.gen).fset Fld.SPL_CUT.SEALED_OK 1).fset Fld.SPL_LD.LD_IN_IMAGE g.inImage
    let s := s.fset Fld.SPL_LD.LD_COMPLETE g.complete
    let s := (List.range 8).foldl (fun s c => if s.populated c then s.selfRefresh c else s) s
    if !s.on Fld.PSQ_STS.INPUT_GOOD && s.fget Fld.SPL_CFG.SEAL_HOLD_MS == 0 then s.sendRailOff else s
  else s
def execSealProgrammed (dt : Nat) (s : State) : Host.Outcome State Fault Refusal := .next (sealProgrammed (s.elapse dt))

/-- SEAL_HOLD_EXPIRY (R168): at a boundary, SEAL_HOLD_MS after the seal with the input still failed. -/
def sealHoldExpiry (s : State) : State :=
  if s.dev == .sealed && !s.on Fld.PSQ_STS.INPUT_GOOD && !s.spill.railOff &&
      decide (s.spill.sealTime + 1000000 * s.fget Fld.SPL_CFG.SEAL_HOLD_MS ≤ s.now) then s.sendRailOff else s
def execSealHoldExpiry (s : State) : Host.Outcome State Fault Refusal := .next (sealHoldExpiry s)

/-! ## Dry return (R36, R169) -/

/-- What the spill wrote becomes CLEAN, and the slots it wrote are free (R36); the next rill stripe carries the record pages of the
groups that this changes (R204; log entry 84). -/
def State.takeWrote (s : State) : State :=
  s.spill.wrote.foldl (fun s w => match w.2.2.1 with
    | some i => s.freeEddy i
    | none =>
      let r := s.page w.1
      (s.setPage w.1 { r with st := .clean, loc := w.2.1.loc, len := w.2.1.len, crc := w.2.1.crc }).modLog
        (fun l => { l with poisonDue := setIns (w.1 / 256) l.poisonDue })) s

/-- Checkpoints that a spill completed have a CKPT_RECORD address of 0; once DRAM holds their records again their forms are due
(R206). -/
def State.ckptsToWrite (s : State) : State :=
  let due : Ckpt → Ckpt := fun c => if c.recAddr == some 0 then { c with recAddr := none } else c
  allLds.foldl (fun s n => s.modLd n (fun l => { l with ckpts := l.ckpts.map due })) s

/-- LDs take back the state they left at T (R35). -/
def State.ldsReturn (s : State) : State :=
  (allLds.filter s.bound).foldl (fun s n =>
    let l := s.ld n
    if l.st == .sealed then
      let st := if l.prior == .refilling && s.unfilled n = 0 then LdState.serving else l.prior
      (s.modLd n (fun l => { l with held := l.heldAtT })).setLdState n st
    else s) s

/-- The device has left SEALED: what its stay there held is over, the input path that a rehearsal left off when the trigger came is
restored (log entry 58), and a molt's pause that the spill found running goes on (Table 13-9), its time counted from here. -/
def State.leaveSealed (s : State) : State :=
  let s := ((s.setStage 0).showLdNow).fset Fld.SPL_STATE.DRAM_UV 0
  let off := s.fget Fld.CIS_REH_STS.RESULT == 3 && !s.on (Fld.PSQ_RAIL_STS.ENABLED (s.fget Fld.CIS_CFG.INPUT_RAIL))
  let s := if off then s.inputPath true else s
  let t := s.now
  { s.modPsq (fun q => { q with detect := false }) with
    pdmLock := false
    molt := s.molt.map (fun _ => t) }

/-- The dry return of R169 and R36. -/
def State.dryReturn (s : State) : State :=
  let s := (s.takeWrote.ckptsToWrite.ldsReturn).advanceRoles
  let s := allLds.foldl (fun s n => if s.bound n then s.recount n else s) s
  let s := s.setDev (if allLds.any s.countsRefill then .refilling else .serving)
  let s := (s.leaveSealed).bump Fld.SPL_CNTA.DRY_RETURNS Fld.SPL_CNTA.DRY_SAT
  let s := (List.range 8).foldl (fun s c =>
    if s.populated c && s.fget (Fld.DRC_STS.STATE c) == 4 && (s.dom (13 + 2 * c)).mode == 0 then s.leaveRefresh c else s) s
  let s := s.passCuts
  let s := s.rings.foldl (fun s e => s.postRing (e.1 / 256) (e.1 % 256)) s
  let s := s.takeKept
  let held := s.fab.reqs.filter (fun r => r.at_ == .ldState)
  let s := held.foldl (fun s r => match s.fab.reqs.find? (fun q => q.rid == r.rid && q.at_ == .ldState) with
    | some q => s.step2 q
    | none => s) s
  ((s.writeCkptRecs).reportCuts).settle.showWeir

end Sys2Proof.Machine
end

