-- ==== Sys2Proof/Machine/Elytra.lean ====
section
/-! DEFINITION. The two Elytra: dual send and comparison (R152 to R155), shadow passes, heartbeat and fence (R156 to R159). -/

namespace Sys2Proof.Machine

/-! ## Fencing (R157, R155, R159) -/

/-- An Elytra goes OUT with a reason; its partner, if in service, is SOLE; ELYTRA_OUT is sent. -/
def State.elyOut (s : State) (e reason : Nat) : State :=
  let s := (((s.setUnit (6 + e) 2).fset (Fld.ELY_STS.ROLE e) 3).fset (Fld.ELY_STS.REASON e) reason).fset
    (Fld.ELY_STS.MATCHES e) 0
  let s := (s.modEly e (fun x => { x with fenced := true, fencing := false, clean := 0, rejoining := false })).modSpill
    (fun x => { x with passOpen := false, passLeft := [] })
  let s := if s.elyIn (1 - e) then
      (s.fset (Fld.ELY_STS.ROLE (1 - e)) 2).modEly (1 - e) (fun x => { x with rejoining := false })
    else s
  s.fault (srcOf (6 + e) 7) 0x53 e

/-- The Elytra PREFER names (R155). -/
def State.preferred (s : State) : Nat := s.fget Fld.SPL_CFG.PREFER

/-! ## What frames do -/

/-- PAGE (R6, R7, R160): a cluster reads the DRAM page, or the eddy slot, that it was asked for and transforms it; `line` is the
line of it that the read found wrong. A page with a line that cannot be corrected becomes POISONED and is not written; an eddy
copy keeps the line as poison. The transformed item waits for its turn in the order; one whose commands differed is asked for anew
where the SELF_CHECK that followed says so (R155). A command for anything else than what was asked of the cluster writes nothing
(log entry 91). -/
def State.elyPage (s : State) (f : ElyFrame) (line : Nat) (read : LineRead) : State :=
  match s.spill.asked.find? (fun a => a.1 == f.page && a.2.1 == f.slot && clusterTarget a.2.2 == f.target) with
  | none => s
  | some a =>
    let p := f.page
    let s := s.modSpill (fun x => { x with asked := x.asked.erase a })
    let void := s.spill.void.any (fun v => v.1 == p && v.2.1 == f.slot && (v.2.2 == 2 || v.2.2 == f.src))
    let s := s.modSpill (fun x => { x with
      void := x.void.filter (fun v => !(v.1 == p && v.2.1 == f.slot))
      reasked := if void then (p, f.slot) :: x.reasked else x.reasked })
    let put := fun (s : State) (i : Item) => if void then s else s.modSpill (fun x => { x with
      ready := x.ready ++ [SpillForm.mk p f.slot i f.src (x.doubt.contains (p, f.slot))] })
    let s := match f.slot with
      | some i =>
        let at_ := (s.eddyBase + i * 4096) / 64 + line % 64
        let x := s.decodeLine at_ read
        let n := (tabGet Eddy.none i s.eddy).ld
        let s := match x.2 with
          | .uncorrectable => (x.1.ueReserve at_).modSpill (fun x => { x with poisoned := setIns n x.poisoned })
          | _ => x.1
        let e := tabGet Eddy.none i s.eddy
        if s.eddy.any (fun x => x.1 == i) then
          put s (Item.mk (s.formOf 2 p e.ld (s.ckptId e.ld (e.cuts.headD 0)) e.body) e.tag f.slot e.cuts false none 0 s.accSeq)
        else s
      | none =>
        let n := (s.page p).ld
        if s.stillOwed (n, p, none) then
          let x := s.decodeLine (p * 64 + line % 64) read
          match x.2 with
          | .uncorrectable => (x.1.ueLine (p * 64 + line % 64)).modSpill (fun x => { x with
              lost := x.lost ++ [(n, p)]
              poisoned := setIns n x.poisoned })
          | _ => put x.1 (Item.mk (s.formOf 1 p n 0 (s.content p)) (s.page p).tag none [] false none 0 s.accSeq)
        else s
    s.elyPump

/-- The stripe that a PROGRAM or SEAL frame names by its die stream, block and page. -/
def State.stripeNamed (s : State) (f : ElyFrame) : Option Stripe :=
  s.log.stripes.find? (fun t => byElytra t.writer && (t.writer == 7) == (f.opcode == 3) && (s.stripeDies t).contains f.target &&
    t.band == f.block && s.stripePage t == f.pageNo)

/-- PROGRAM and SEAL: the stripe's programs begin; its first sender is kept (R155, R158). -/
def State.elyProgram (s : State) (f : ElyFrame) : State :=
  match s.stripeNamed f with
  | none => s
  | some t =>
    let fresh := !((s.ely 0).firstOf.contains t.seq || (s.ely 1).firstOf.contains t.seq)
    let s := if fresh then s.modEly f.src (fun x => { x with firstOf := setIns t.seq x.firstOf }) else s
    (if t.writer = 7 then s.modSpill (fun x => { x with issued := true }) else s).closeStripe t.seq

/-- JOURNAL: the staged record of a sequence begins to be programmed. -/
def State.elyJournal (s : State) (q : Nat) : State :=
  s.modFlt (fun f => { f with staging := f.staging.map (fun r =>
    if r.seq == q && r.st == .staged then { r with st := .programming } else r) })

/-- The effect of a command, executed once. -/
def State.elyRun (s : State) (f : ElyFrame) (line : Nat) (read : LineRead) : State :=
  match f.opcode with
  | 1 => if s.spilling && s.stage == 4 && !s.spill.shortfall then s.elyPage f line read else s
  | 2 | 3 => if s.spilling then s.elyProgram f else s
  | 4 => s.elyJournal f.record
  | 5 => (s.modSpill (fun x => { x with railOff := true })).offRequest
  | _ => s

/-! ## Comparison (R154, R155) -/

/-- A sequence space of a target. -/
def State.space (s : State) (t : Nat) (shadow : Bool) : SeqSpace :=
  if shadow then (s.target t).shadow else (s.target t).spill
/-- A sequence space changes. -/
def State.modSpace (s : State) (t : Nat) (shadow : Bool) (g : SeqSpace → SeqSpace) : State :=
  s.modTarget t (fun x => if shadow then { x with shadow := g x.shadow } else { x with spill := g x.spill })

/-- Stripes, of those being filled or programmed and of those on flash, that hold a page or eddy copy the spill wrote. -/
def State.stripesWith (s : State) (p : Nat) (slot : Option Nat) : List Nat :=
  let keys := (s.spill.wrote.filter (fun w => w.1 == p && w.2.2.1 == slot)).map (fun w => w.2.1.loc)
  (s.log.stripes.filter (fun t => t.writer == 2 && t.items.any (fun i => i.form.page == p && i.slot == slot))).map (·.seq) ++
    (s.stripesOn.filter (fun (e : Nat × FStripe) => e.2.writer == 2 && e.2.forms.any (fun x => keys.contains x.1))).map (·.1)

/-- An Elytra that has had 3 clean passes is DUAL, and so is a partner that was SOLE (R159). -/
def State.rejoin (s : State) : State :=
  [0, 1].foldl (fun s e =>
    if s.elyRole e == 0 && decide (3 ≤ (s.ely e).clean) then
      let s := (s.fset (Fld.ELY_STS.ROLE e) 1).modEly e (fun x => { x with rejoining := false })
      if s.elyRole (1 - e) == 2 then s.fset (Fld.ELY_STS.ROLE (1 - e)) 1 else s
    else s) s

/-- The present shadow pass ends without a mismatch (R159). -/
def State.passClean (s : State) : State :=
  if s.spill.passOpen then
    (([0, 1].foldl (fun s e => (s.satUp (Fld.ELY_STS.MATCHES e)).modEly e (fun x => { x with clean := min 3 (x.clean + 1) })) s).modSpill
      (fun x => { x with passOpen := false, passLeft := [] })).rejoin
  else s

/-- The present shadow pass ends with a mismatch: no Elytra has a clean pass behind it, and both are due a SELF_CHECK (R156,
R159). -/
def State.passFails (s : State) : State :=
  ([0, 1].foldl (fun s e => (s.fset (Fld.ELY_STS.MATCHES e) 0).modEly e (fun x => { x with clean := 0 })) s).modSpill
    (fun x => { x with passOpen := false, passLeft := [], checkDue := if x.checkDue = 1 then 1 else 2 })

/-- The two copies of a shadow frame were alike; with the last of the pass it is clean (R156, R159). -/
def State.passMatch (s : State) (f : ElyFrame) : State :=
  let s := s.modSpill (fun x => { x with passLeft := x.passLeft.erase (f.target, f.seq) })
  if s.spill.passLeft.isEmpty then s.passClean else s

/-- What the first copy of a mismatched command concerns is under suspicion: a stripe, or the item that will go into one. -/
def State.suspect (s : State) (f : ElyFrame) : State :=
  match f.opcode with
  | 1 =>
    let qs := s.stripesWith f.page f.slot
    s.modSpill (fun x => { x with
      suspects := qs.foldl (fun m q => setIns q m) x.suspects
      twice := x.twice || x.reasked.contains (f.page, f.slot)
      ready := x.ready.map (fun r => if r.page == f.page && r.slot == f.slot then { r with suspect := true } else r)
      doubt := if x.asked.any (fun a => a.1 == f.page && a.2.1 == f.slot) then (f.page, f.slot) :: x.doubt else x.doubt })
  | 2 | 3 =>
    let on := (s.stripeAt s.dieSets f.target f.block f.pageNo).map (·.1)
    match (s.stripeNamed f).map (·.seq) <|> on with
    | some q => s.modSpill (fun x => { x with suspects := setIns q x.suspects })
    | none => s
  | _ => s

/-- MISMATCH (R155): the first copy's effect stays; the fault names the target and SEQ, its source the first sender; what the
first copy concerns is suspect, and both Elytra are due a SELF_CHECK. A shadow pass with a mismatch is not clean (R156, R159). -/
def State.elyMismatch (s : State) (first : ElyFrame) (shadow : Bool) : State :=
  let s := s.fault (srcOf (6 + first.src) 2) 0x06 (first.target % 65536 + first.seq % 2 ^ 24 * 65536)
  if shadow then s.passFails
  else ((s.bump Fld.ELY_CMPA.SPILL_MM Fld.ELY_CMPA.SP_SAT).suspect first).modSpill (fun x => { x with checkDue := 1 })

/-- A second copy against the first (R154, R156). -/
def State.compare (s : State) (first f : ElyFrame) (shadow : Bool) : State :=
  if first.body != f.body then s.elyMismatch first shadow else if shadow then s.passMatch f else s

/-- LAG_DROP. -/
def State.lagDrop (s : State) : State := s.bump Fld.ELY_CMPB.LAG_DROP Fld.ELY_CMPB.LAG_SAT

/-- A frame is executed, unless it is a shadow frame, and those held that follow it in sequence, at most `k` of them. -/
def State.elyExecute (s : State) (shadow : Bool) (f : ElyFrame) (line : Nat) (read : LineRead) : Nat → State
  | 0 => s
  | k + 1 =>
    let t := f.target
    let s := if shadow then s else s.elyRun f line read
    let s := s.modSpace t shadow (fun x => { x with
      next := f.seq + 1
      kept := (x.kept ++ [f]).drop (x.kept.length - 63)
      gapAt := if x.top ≤ f.seq then none else x.gapAt })
    match (s.space t shadow).hold.find? (fun h => h.1.seq == f.seq + 1) with
    | some h =>
      let s := s.modSpace t shadow (fun x => { x with hold := x.hold.filter (fun y => y.1.seq != h.1.seq) })
      s.elyExecute shadow h.1 h.2.1 h.2.2 k
    | none => s

/-- A frame in its sequence space (R154). -/
def State.elyTake (s : State) (shadow : Bool) (f : ElyFrame) (line : Nat) (read : LineRead) : State :=
  let t := f.target
  let x := s.space t shadow
  if f.seq == x.next then s.elyExecute shadow f line read 5
  else if x.next < f.seq then
    let b := s.curBeat
    let s := s.modSpace t shadow (fun x => { x with gapAt := some (x.gapAt.getD b), top := max x.top f.seq })
    match x.hold.find? (fun h => h.1.seq == f.seq) with
    | some h => s.compare h.1 f shadow
    | none =>
      if f.seq ≤ x.next + 4 && decide (x.hold.length < 4) then
        s.modSpace t shadow (fun x => { x with hold := x.hold ++ [(f, line, read)] })
      else s.lagDrop
  else if x.next ≤ f.seq + 64 then
    match x.kept.find? (fun h => h.seq == f.seq) with
    | some h => s.compare h f shadow
    | none => s.lagDrop
  else s.lagDrop

/-- A HEARTBEAT arrives (R157). -/
def State.heartbeat (s : State) (src : Nat) : State :=
  let b := s.curBeat
  s.modEly src (fun x => { x with lastBeat := b })

/-- A frame arrives (R153, R154): its CRC first, then what it is, role generation and fence. An Elytra on its way back sends no
spill commands, and none of its is taken (R159). -/
def State.elyFrame (s : State) (f : ElyFrame) (line : Nat) (read : LineRead) : State :=
  if !f.crcOk then s.bump Fld.ELY_CMPB.CRC_DROP Fld.ELY_CMPB.CRC_SAT
  else if f.opcode = 6 then (if (s.ely f.src).fenced then s else s.heartbeat f.src)
  else if !f.fits then s
  else if f.roleGen != s.targetGen f.target then s.bump Fld.ELY_CMPB.STALE_ROLE Fld.ELY_CMPB.ST_SAT
  else if (s.ely f.src).fenced || (!f.shadow && (s.ely f.src).rejoining) then s
  else s.elyTake f.shadow f line read

/-! ## Commands -/

/-- A frame of a command that reads no DRAM. -/
def State.elyPlain (s : State) (f : ElyFrame) : State := s.elyFrame f 0 ⟨[], []⟩

/-- ELYTRA_PAGE (R154). -/
def execElytraPage (dt : Nat) (f : ElyFrame) (line : Nat) (errs : List (Nat × BitVec 8)) (failing : List Nat) (s : State) :
    Host.Outcome State Fault Refusal :=
  .next ((s.elapse dt).elyFrame f line ⟨errs, failing⟩)
/-- ELYTRA_PROGRAM (R154). -/
def execElytraProgram (dt : Nat) (body : BitVec 224) (crc : BitVec 32) (s : State) : Host.Outcome State Fault Refusal :=
  .next ((s.elapse dt).elyPlain (.join body crc))
/-- ELYTRA_SEAL (R158). -/
def execElytraSeal (dt : Nat) (f : ElyFrame) (s : State) : Host.Outcome State Fault Refusal :=
  .next ((s.elapse dt).elyPlain f)
/-- ELYTRA_JOURNAL (R154). -/
def execElytraJournal (dt : Nat) (body : BitVec 224) (crc : BitVec 32) (s : State) : Host.Outcome State Fault Refusal :=
  .next ((s.elapse dt).elyPlain (.join body crc))
/-- ELYTRA_RAIL_OFF (R158). -/
def execElytraRailOff (dt : Nat) (f : ElyFrame) (s : State) : Host.Outcome State Fault Refusal :=
  .next ((s.elapse dt).elyPlain f)
/-- ELYTRA_HEARTBEAT (R157). -/
def execElytraHeartbeat (dt : Nat) (f : ElyFrame) (s : State) : Host.Outcome State Fault Refusal :=
  .next ((s.elapse dt).elyPlain f)

/-- SEQ_GAP in one sequence space (R154): NEXT is still missing 1 beat after a later frame; both Elytra resend from it. -/
def State.seqGap (s : State) (t : Nat) (shadow : Bool) : State :=
  let x := s.space t shadow
  match x.gapAt with
  | some b =>
    if b + 1 ≤ s.curBeat then
      let k := s.freeCtr
      let src := match x.hold.head? with
        | some h => h.1.src
        | none => if Config.elyUnit k then 1 else 0
      let s := { s with freeCtr := k + 1 }
      let now := s.curBeat
      let s := (s.modSpace t shadow (fun x => { x with gapAt := some now })).fault (srcOf (6 + src) 2) 0x07
        (t % 65536 + x.next % 2 ^ 24 * 65536)
      let again := (if shadow then s.spill.sentS else s.spill.sent).filter (fun f => f.target == t && decide (x.next ≤ f.seq))
      again.foldl (fun s f => s.elyEmit f) s
    else s
  | none => s
/-- SEQ_GAP (R154, R156). -/
def seqGap (t : Nat) (s : State) : State := (s.seqGap t false).seqGap t true
def execSeqGap (dt target : Nat) (s : State) : Host.Outcome State Fault Refusal := .next (seqGap target (s.elapse dt))

/-! ## SELF_CHECK (R155) -/

/-- The items of a stripe of the spill that is already on flash, to be written again: they no longer count as written. -/
def State.takeBack (s : State) (q : Nat) (t : FStripe) : State × List Item :=
  let keys := t.forms.map (fun (x : Nat × Form) => x.1)
  if t.writer = 2 then
    let mine := s.spill.wrote.filter (fun w => keys.contains w.2.1.loc)
    let item := fun (w : Nat × PageRec × Option Nat × List Nat) =>
      Item.mk (s.formAt w.2.1.loc) w.2.1.tag w.2.2.1 w.2.2.2 false none 0 s.accSeq
    let dec := fun (m : List (Nat × Nat)) (w : Nat × PageRec × Option Nat × List Nat) => tabSet 0 w.2.1.ld (tabGet 0 w.2.1.ld m - 1) m
    let t := s.modSpill (fun x => { x with
      wrote := x.wrote.filter (fun w => !keys.contains w.2.1.loc)
      written := mine.foldl dec x.written
      stored := x.stored - sumNat (mine.map (fun w => 64 + w.2.1.len))
      list := x.list.filter (fun e => e.1 != q) })
    (t.fset Fld.SPL_PROGRESS.PAGES_DONE (s.fget Fld.SPL_PROGRESS.PAGES_DONE - mine.length), mine.map item)
  else
    (s.modSpill (fun x => { x with metas := x.metas.filter (fun k => !keys.contains k) }),
      t.forms.map (fun x => s.fresh x.2 []))

/-- A suspect stripe is rewritten at a new location (R155, R161). -/
def State.rewriteSuspect (s : State) (q : Nat) : State :=
  let again := fun (s : State) (w : Nat) (its : List Item) => its.foldl (fun (s : State) i =>
    let r := s.place w i
    match r.2 with
    | some n => r.1.modSpill (fun x => { x with rewritten := setIns n x.rewritten })
    | none => if w = 2 then r.1.modSpillBack i else r.1) (s.bump Fld.SPL_CNTB.STRIPE_REWRITES Fld.SPL_CNTB.RW_SAT)
  match s.stripe? q with
  | some t =>
    if t.writer = 7 then
      let n := s.log.seq
      ((s.bump Fld.SPL_CNTB.STRIPE_REWRITES Fld.SPL_CNTB.RW_SAT).rewriteStripe q).modSpill
        (fun x => { x with rewritten := setIns n x.rewritten })
    else
      let s := if t.closed then s.freeDies t else s
      again (s.modLog (fun l => { l with stripes := l.stripes.filter (fun x => x.seq != q) })) t.writer t.items
  | none => match s.stripesOn.find? (fun e => e.1 == q) with
    | some e => if e.2.writer = 2 ∨ e.2.writer = 5 then
        let x := s.takeBack q e.2
        again x.1 e.2.writer x.2
      else s
    | none => s

/-- What is suspect is written again: of the transformed items those whose command came first from an Elytra that `from_` names
are asked for anew, those too whose command is still to be executed, and the stripes that `which` names are rewritten. -/
def State.rewriteSuspects (s : State) (which : Nat → Bool) (from_ : Nat) : State :=
  let again := fun (r : SpillForm) => r.suspect && (from_ == 2 || from_ == r.src)
  let s := s.modSpill (fun x => { x with
    ready := x.ready.filter (fun r => !again r)
    reasked := (x.ready.filter again).map (fun r => (r.page, r.slot)) ++ x.reasked
    void := x.void ++ (x.doubt.filter (fun d => x.asked.any (fun a => a.1 == d.1 && a.2.1 == d.2))).map
      (fun d => (d.1, d.2, from_)) })
  (s.spill.suspects.filter which).foldl (fun s q => s.rewriteSuspect q) s

/-- Suspicion ends, and the Elytra go on. -/
def State.clearSuspects (s : State) : State :=
  (s.modSpill (fun x => { x with
    suspects := []
    doubt := []
    twice := false
    checkDue := 0
    ready := x.ready.map (fun r => { r with suspect := false }) })).elyPump

/-- SELF_CHECK (R155, R156): one failed Elytra is fenced and what it sent first is rewritten; with both sound the stripe is
rewritten, and when a rewrite mismatches again the one PREFER does not name is fenced; with both failed the preferred one goes on
and the seal is SUSPECT. After a shadow mismatch with both sound SHADOW_MM counts. -/
def selfCheck (aOk bOk : Bool) (s : State) : State :=
  if s.spill.checkDue = 0 then s
  else if aOk && bOk then
    if s.spill.checkDue = 2 then
      let k := s.freeCtr
      let s := { s with freeCtr := k + 1 }
      (((s.bump Fld.ELY_CMPA.SHADOW_MM Fld.ELY_CMPA.SH_SAT).fault
        (srcOf (if Config.elyUnit k then 7 else 6) 2) 0x08 0)).modSpill (fun x => { x with checkDue := 0 })
    else
      let again := s.spill.twice || s.spill.suspects.any s.spill.rewritten.contains
      let s := if again then s.elyOut (1 - s.preferred) 3 else s
      (s.rewriteSuspects (fun _ => true) 2).clearSuspects
  else if !aOk && !bOk then
    ((s.elyOut (1 - s.preferred) 2).clearSuspects).modSpill (fun x => { x with suspect := true })
  else
    let e := if aOk then 1 else 0
    let bad := (s.ely e).firstOf
    ((s.elyOut e 2).rewriteSuspects (fun q => bad.contains q) e).clearSuspects
def execSelfCheck (dt : Nat) (aOk bOk : Bool) (s : State) : Host.Outcome State Fault Refusal :=
  .next (selfCheck aOk bOk (s.elapse dt))

/-! ## Shadow passes (R156, R159) -/

/-- The frames of a shadow pass, as Elytra A sends them: the PAGE commands for the head of the present spill order, in sequence
spaces that begin at 1. -/
def State.shadowFrames (s : State) : List ElyFrame :=
  let cl := s.clustersIn
  let head := s.spillOrder.take (s.fget Fld.ELY_CFG.SHADOW_PAGES)
  if cl.isEmpty then []
  else ((List.range head.length).zip head).map (fun e =>
    let t := clusterTarget (cl.getD (e.1 % cl.length) 0)
    ElyFrame.make 1 0 true (s.targetGen t) (e.1 / cl.length + 1) t (pageArgs e.2.2.1 e.2.2.2 e.1 0))

/-- SHADOW_PASS (R156): every SHADOW_INTERVAL beats while REFILLING or SERVING with both Elytra in service, until a spill is
armed: frames for the head of the spill order are sent and compared. The pass counts as clean when the last of them has compared
alike, and at the latest when the next begins with no mismatch seen (log entry 111). -/
def shadowPass (mismatch : Bool) (s : State) : State :=
  if s.isOpen && s.elyIn 0 && s.elyIn 1 && s.stage == 0 &&
      decide (s.spill.shadowAt + s.fget Fld.ELY_CFG.SHADOW_INTERVAL ≤ s.curBeat) then
    let b := s.curBeat
    let s := s.passClean
    let fs := s.shadowFrames
    let s := s.modSpill (fun x => { x with
      shadowAt := b
      sentS := fs
      passLeft := fs.map (fun f => (f.target, f.seq))
      passOpen := true })
    let s : State := { s with targets := s.targets.map (fun (e : Nat × Target) => (e.1, { e.2 with shadow := { } })) }
    let s := s.emits (fs.flatMap (fun f => [0, 1].map (fun e => .ely (f.from_ e))))
    if mismatch then s.passFails else if fs.isEmpty then s.passClean else s
  else s
def execShadowPass (dt : Nat) (mismatch : Bool) (s : State) : Host.Outcome State Fault Refusal :=
  .next (shadowPass mismatch (s.elapse dt))

/-! ## Heartbeat and fence (R157) -/

/-- The HEARTBEAT frame each Elytra in service sends in a beat, to its partner and to every target: TARGET 0xFFFF stands for all of
them (log entry 91). -/
def State.heartbeats (s : State) : State :=
  s.emits (([0, 1].filter s.elyIn).map (fun e => .ely (ElyFrame.make 6 e false 0 0 0xFFFF [])))

/-- A fence of Elytra `e` is granted, unless one against its partner was granted before. -/
def State.fence (s : State) (e : Nat) : State :=
  let t := s.now / 1000
  ((s.modEly e (fun x => { x with fencing := true, fenceTick := t })).modEly (1 - e) (fun x => { x with fencing := false })).fault
    (srcOf (6 + e) 4) 0x23 e

/-- HEARTBEAT_LOST (R157): 2 beats without the partner's heartbeat: the arbiter grants the first request, none of an Elytra
already fenced; of two in the same 1 µs tick the one of the Elytra that PREFER names. -/
def heartbeatLost (silent : Nat) (s : State) : State :=
  let e := silent % 2
  let other := s.ely (1 - e)
  if s.elyIn e && s.elyIn (1 - e) && !(s.ely e).fencing && decide ((s.ely e).lastBeat + 2 ≤ s.curBeat) &&
      (!other.fencing || (other.fenceTick == s.now / 1000 && s.preferred == 1 - e)) then s.fence e
  else s
def execHeartbeatLost (dt silent : Nat) (s : State) : Host.Outcome State Fault Refusal :=
  .next (heartbeatLost silent (s.elapse dt))

/-- FENCE_APPLIED (R157): the granted fence has reached every target. -/
def fenceApplied (e : Nat) (s : State) : State := if (s.ely (e % 2)).fencing then (s.elyOut (e % 2) 1).elyPump else s
def execFenceApplied (dt target : Nat) (s : State) : Host.Outcome State Fault Refusal :=
  .next (fenceApplied target (s.elapse dt))

/-- ELYTRA_ONLINE (R159): while SERVING an Elytra that is OUT becomes SHADOW. -/
def elytraOnline (e : Nat) (s : State) : State :=
  if e < 2 && s.dev == .serving && s.elyRole e == 3 then
    let b := s.curBeat
    ((((s.setUnit (6 + e) 0).fset (Fld.ELY_STS.ROLE e) 0).fset (Fld.ELY_STS.REASON e) 0).fset (Fld.ELY_STS.MATCHES e) 0).modEly e
      (fun x => { x with fenced := false, fencing := false, clean := 0, lastBeat := b, rejoining := true })
  else s
def execElytraOnline (dt e : Nat) (s : State) : Host.Outcome State Fault Refusal := .next (elytraOnline e (s.elapse dt))

/-- ELYTRA_OFFLINE (R159): while SERVING, unless its partner is OUT. -/
def elytraOffline (e : Nat) (s : State) : State :=
  if e < 2 && s.dev == .serving && s.elyIn e && s.elyIn (1 - e) then s.elyOut e 4 else s
def execElytraOffline (dt e : Nat) (s : State) : Host.Outcome State Fault Refusal := .next (elytraOffline e (s.elapse dt))

end Sys2Proof.Machine
end

