-- ==== Sys2Proof/Machine/Fabric.lean ====
section
/-! DEFINITION. The fabric (chapter 11 without its mailboxes; R40, R325): resets and lost links, link training, HDM
decoders, Global Persistent Flush, and the operations on extents and bindings that the vendor commands carry out. -/

namespace Sys2Proof.Machine

/-! ## Resets of an LD (R292, R325) -/

/-- The ring registers of an LD that return to their Reset column at an LD reset (Table 18-5): bases and RNG_CFG. -/
def ringBaseReg (ld bit : Nat) : Bool :=
  let w := 0x200000 + 0x10000 * ld
  let o := bit / 8
  decide (w + 0x1000 ≤ o) && decide (o < w + 0x1000 + 0x40 * 256) && decide ((o - w - 0x1000) % 0x40 < 0x1C)

/-- What the CXL side of an LD loses at its reset (R292): requests go without response, decoders are uncommitted, the
CXL.io state resets. -/
def State.ldForget (s : State) (n : Nat) : State :=
  let s := s.discard (fun r => r.ld == n)
  let s := s.modLd n (fun l => { l with decs := [] })
  s.modMb n (fun m => { m with policy := 0 })

/-- LD reset (R292, R325, Table 18-5): its requests go without response, its decoders are uncommitted, its CXL.io state
resets and its rings stop; CHECKPOINT_AT descriptors whose cut has not passed are answered, and the reset takes effect for
the ring engine once every accepted descriptor has run to its end. -/
def State.ldReset (s : State) (n : Nat) : State :=
  let s := ((s.ldForget n).disableRings n).abortCuts n
  let s : State := { s with regs := s.regs.filter (fun e => !ringBaseReg n e.1) }
  let s := s.blockReset (fun o => o / 0x10000 == 0x20 + n)
  s.modLd n (fun l => { l with resetting := s.inFlight n != 0 })

/-- The CXL Reset timeout that the KX7180 reports, in seconds (R325). The capability field that shows it is the standard's (log entry
36). -/
def cxlResetTimeout : Nat := 100

/-- CXL_RESET_LD (R292): CXL Reset or function-level reset of a bound tenant LD. -/
def cxlResetLd (n : Nat) (s : State) : State :=
  if decide (n < 32) && s.bound n && s.dev != .off then (s.ldReset n).settle.showWeir else s
def execCxlResetLd (dt ld : Nat) (s : State) : Host.Outcome State Fault Refusal := .next (cxlResetLd ld (s.elapse dt))

/-- LD_RESET_EFFECT (R325): every accepted descriptor of the LD has completed. -/
def ldResetEffect (n : Nat) (s : State) : State :=
  if (s.ld n).resetting && s.inFlight n == 0 then s.modLd n (fun l => { l with resetting := false }) else s
def execLdResetEffect (dt ld : Nat) (s : State) : Host.Outcome State Fault Refusal :=
  .next (ldResetEffect ld (s.elapse dt))

/-- LDs bound to a port. -/
def State.ldsOn (s : State) (p : Nat) : List Nat := allLds.filter (fun n => s.bound n && (s.ld n).port == p)
/-- LDS_BOUND shows the LDs bound to each port. -/
def State.showBound (s : State) : State :=
  [0, 1].foldl (fun s p => s.fset (Fld.FAB_PORT_STS.LDS_BOUND p) (s.ldsOn p).length) s

/-- The port exposes its LDs, or they are unreachable. -/
def State.reachAll (s : State) (p : Nat) (b : Bool) : State :=
  (s.ldsOn p).foldl (fun s n => s.modLd n (fun l => { l with reach := b })) s

/-- What a port loses with its link, whatever the cause (R292): every LD bound to it is reset, every request it still holds
goes, and its GPF ends. -/
def State.portLoses (s : State) (p : Nat) : State :=
  let s := (s.ldsOn p).foldl (fun s n => s.ldReset n) s
  (s.discard (fun r => r.port == p)).modFab (fun f => { f with gpf := setDel p f.gpf })

/-- The link of a port goes down (R292). -/
def State.linkDown (s : State) (p : Nat) : State :=
  if s.on (Fld.FAB_PORT_STS.LINK_UP p) then
    let s := s.fset (Fld.FAB_PORT_STS.LINK_UP p) 0
    let s := (s.bump (Fld.FAB_ERR_B.LINK_DOWN p) (Fld.FAB_ERR_B.LD_SAT p)).fault (srcOf (9 + p) 4) 0x21 0
    let t := s.now
    let s := s.modFab (fun f => { f with downAt := tabSet 1 p (t + 1) f.downAt })
    (((s.reachAll p false).portLoses p).settle).showWeir
  else s
/-- FAB_LINK_DOWN (R292). -/
def execFabLinkDown (dt port : Nat) (s : State) : Host.Outcome State Fault Refusal :=
  if port < 2 then .next ((s.elapse dt).linkDown port) else .next (s.elapse dt)

/-- FAB_HOT_RESET (R292): the effect of a link down on LDs and requests; the link stays up and nothing is counted. -/
def fabHotReset (p : Nat) (s : State) : State :=
  if p < 2 then ((s.portLoses p).settle).showWeir else s
def execFabHotReset (dt port : Nat) (s : State) : Host.Outcome State Fault Refusal :=
  .next (fabHotReset port (s.elapse dt))

/-! ## Link training (R275, R276) -/

/-- The rate code (RATE_MAX) and flit mode a port trains to, `none` where no CXL flit mode is common to both partners. -/
def State.trains (s : State) (p rate : Nat) (flit256 flit68 : Bool) : Option (Nat × Bool) :=
  let r := max rate (s.fget (Fld.FAB_PORT_CFG.RATE_MAX p))
  let r := if r = 0 && !flit256 then 1 else r
  if flit256 then some (r, true)
  else if flit68 && s.on (Fld.FAB_PORT_CFG.FLIT68_EN p) then some (r, false)
  else none

/-- FAB_LINK_UP (R275): a training ends with a partner of `width` lanes and rate code `rate`. Without a common flit mode the
link is in PCIe mode and exposes no LD. Every reference clock REFCLK names trains alike (Table 11-1); none does while the power
sequencer holds the core in reset. -/
def fabLinkUp (p width rate : Nat) (flit256 flit68 laneRev : Bool) (s : State) : State :=
  let w := min width (if s.on (Fld.FAB_PORT_CFG.X8 p) then 8 else 16)
  let lanes := if 16 ≤ w then 16 else 8
  let held := [9 + p, 11 + p].any (fun u => s.unitSt u == 1 || s.unitSt u == 2) || s.seqSt == 3 || s.seqSt == 4
  if decide (2 ≤ p) || s.dev == .off || decide (w < 8) || decide (3 < rate) || held then s
  else match s.trains p rate flit256 flit68 with
  | some (r, f256) =>
    let s := ((s.fset (Fld.FAB_PORT_STS.LINK_UP p) 1).fset (Fld.FAB_PORT_STS.RATE p) r).fput (Fld.FAB_PORT_STS.FLIT256 p)
      f256
    let s := (s.fset (Fld.FAB_PORT_STS.WIDTH p) lanes).fput (Fld.FAB_PORT_STS.LANE_REV p) laneRev
    (s.reachAll p true).showBound
  | none => s.linkDown p
def execFabLinkUp (dt port width rate : Nat) (flit256 flit68 laneRev : Bool) (s : State) :
    Host.Outcome State Fault Refusal := .next (fabLinkUp port width rate flit256 flit68 laneRev (s.elapse dt))

/-! ## Global Persistent Flush (R40) -/

/-- GPF_PHASE1: acknowledged at once. -/
def gpfPhase1 (p : Nat) (s : State) : State :=
  if s.on (Fld.FAB_PORT_STS.LINK_UP p) then s.emit (.gpf p 1 0) else s
def execGpfPhase1 (dt port : Nat) (s : State) : Host.Outcome State Fault Refusal := .next (gpfPhase1 port (s.elapse dt))
/-- GPF_PHASE2: the write-merge buffers begin to drain. -/
def gpfPhase2 (p : Nat) (s : State) : State :=
  if s.on (Fld.FAB_PORT_STS.LINK_UP p) then s.modFab (fun f => { f with gpf := setIns p f.gpf }) else s
def execGpfPhase2 (dt port : Nat) (s : State) : Host.Outcome State Fault Refusal := .next (gpfPhase2 port (s.elapse dt))
/-- GPF_DRAIN_DONE: the buffers are empty and the port responds, reporting 20 µs. -/
def gpfDrainDone (p : Nat) (s : State) : State :=
  if s.fab.gpf.contains p then
    let s := (s.drainAll.modFab (fun f => { f with gpf := setDel p f.gpf })).emit (.gpf p 2 20)
    s.wakeWmb.settle.showWeir
  else s
def execGpfDrainDone (dt port : Nat) (s : State) : Host.Outcome State Fault Refusal :=
  .next (gpfDrainDone port (s.elapse dt))

/-! ## HDM decoders (R283) -/

/-- The interleave ways an LD's decoders allow. -/
def hdmWays : List Nat := [1, 2, 3, 4, 6, 8, 12, 16]
/-- The interleave granularities, 256 B to 16 KiB. -/
def hdmGrans : List Nat := [256, 512, 1024, 2048, 4096, 8192, 16384]

/-- A commit is taken: the next decoder in ascending order, with allowed values, inside the LD's extent. -/
def State.hdmOk (s : State) (n i : Nat) (d : Dec) : Bool :=
  let l := s.ld n
  decide (i = l.decs.length) && decide (i < 8) && hdmWays.contains d.ways && hdmGrans.contains d.gran &&
  decide (d.way < d.ways) && decide (0 < d.size) &&
  decide (sumNat (l.decs.map (fun e => e.2.span)) + d.span ≤ l.extSize * extUnit)

/-- HDM_COMMIT (R283): a decoder commits, or reports Error Not Committed; a committed one is locked. HDM is disabled in
BASIN, and an LD that is not bound has no HDM. -/
def hdmCommit (n i base size ways gran way skip : Nat) (lock : Bool) (s : State) : State :=
  let d := Dec.mk base size ways gran way skip lock
  if !s.bound n || s.dev == .off || decide (32 ≤ n) then s
  else if (s.ld n).decs.any (fun e => e.1 == i) then s.emit (.hdm n i true)
  else if s.dev != .basin && s.hdmOk n i d then
    (s.modLd n (fun l => { l with decs := l.decs ++ [(i, d)] })).emit (.hdm n i true)
  else s.emit (.hdm n i false)
def execHdmCommit (dt ld decoder hpaBase size ways gran way dpaSkip : Nat) (lock : Bool) (s : State) :
    Host.Outcome State Fault Refusal :=
  .next (hdmCommit ld decoder hpaBase size ways gran way dpaSkip lock (s.elapse dt))

/-! ## Extents and bindings (R278 to R282) -/

/-- A changed extent, binding or role generation shows in SLU_LD_BIND and RNG_LD_STS, and is kept in the configuration
region (R281, R282, R435). -/
def State.bindChanged (s : State) (n : Nat) : State :=
  let l := s.ld n
  let s := (s.fset (Fld.SLU_LD_BIND.PORT n) l.port).fset (Fld.SLU_LD_BIND.LD_ID n) l.ldId
  let s := (s.fset (Fld.SLU_LD_BIND.EXT_SIZE n) l.extSize).fset (Fld.SLU_LD_BIND.EXT_BASE n) l.extBase
  let s := (s.fset (Fld.SLU_LD_BIND.GEN n) l.gen).fset (Fld.RNG_LD_STS.GEN n) l.gen
  let t := s.now
  ({ s with cfgDue := some (s.cfgDue.getD t) } : State).showBound

/-- An extent lies in the host-visible region (R8) and overlaps no other LD's (R278). -/
def State.extentOk (s : State) (n base size : Nat) : Bool :=
  decide (s.hostBase ≤ base * extUnit) && decide ((base + size) * extUnit ≤ s.installed) &&
  (allLds.filter (· ≠ n)).all (fun m =>
    let l := s.ld m
    decide (l.extSize = 0) || decide (size = 0) || decide (base + size ≤ l.extBase) ||
      decide (l.extBase + l.extSize ≤ base))

/-- The extent of an LD changes (R278): pages that leave it are CLEAN with length 0 and belong to no LD, and the start
policy applies to every page of the new one, whose class that is for an LD never bound (R30). -/
def State.setExtent (s : State) (n base size : Nat) : State :=
  let s := ((s.dropWork n).wipeExtent n false).clearPages n 0
  let c := s.cls n
  let s := s.modLd n (fun l => { l with
    extBase := base
    extSize := size
    classLast := if l.wasBound then l.classLast else some c })
  (s.applyPolicy n).bindChanged n

/-- Port and LD-ID can take the LD (R277, R279, R280): 7 NO_RESOURCE, 3 INVALID_FIELD, 0 free. -/
def State.placeCheck (s : State) (n p id : Nat) : Nat :=
  let others := (s.ldsOn p).filter (· ≠ n)
  if decide (2 ≤ p) || decide (16 ≤ id) then 3
  else if 16 ≤ others.length then 7
  else if others.any (fun m => (s.ld m).ldId == id) then 3
  else 0

/-- Page records of an LD whose cut sequence restarts at 0 carry tag 0: none of them is owed to a cut. -/
def State.clearTags (s : State) (n : Nat) : State :=
  (s.pagesOf n).foldl (fun s e =>
    { s with pages := tabSet (s.dfltRec e.1) e.1 { e.2 with tag := 0 } s.pages }) s

/-- BIND_LD takes effect (R279, R30). -/
def State.bindLd (s : State) (n p id : Nat) : State :=
  let s := if (s.ld n).classLast == some (s.cls n) then s else (s.dropWork n).applyPolicy n
  let c := s.cls n
  let g := s.spill.usedGen
  let up := s.on (Fld.FAB_PORT_STS.LINK_UP p)
  let s := s.modLd n (fun l => { l with
    port := p
    ldId := id
    classLast := some c
    wasBound := true
    bindGen := g
    cutSeq := 0
    decs := []
    reach := up
    held := false
    returned := false
    unbinding := false
    quiesce := none })
  let s := s.clearTags n
  let s := s.setLdState n (if 0 < s.unfilled n then .refilling else .serving)
  (((s.bindChanged n).refill).checkFilled).showWeir

/-- REBIND_LD takes effect (R280): the old port's requests of the LD go, its decoders start uncommitted, its rings are
disabled (Table 12-7). -/
def State.rebindLd (s : State) (n p id : Nat) : State :=
  let s := (s.discard (fun r => r.ld == n)).disableRings n
  let up := s.on (Fld.FAB_PORT_STS.LINK_UP p)
  let s := s.modLd n (fun l => { l with
    port := p
    ldId := id
    decs := []
    reach := up })
  ((s.bindChanged n).settle).showWeir

/-- UNBIND_LD begins (R281): no further acceptance; CHECKPOINT_AT descriptors whose cut has not passed are answered. -/
def State.unbindBegin (s : State) (n : Nat) : State :=
  (s.modLd n (fun l => { l with unbinding := true })).abortCuts n

/-- The three things UNBIND_LD waits for (R281). -/
def State.unbindReady (s : State) (n : Nat) : Bool :=
  let l := s.ld n
  l.unbinding && l.pending.isEmpty && l.owed == 0 && s.inFlight n == 0

/-- A ring of an unbound LD is cleared (R324, Table 12-7): its held entries are discarded unwritten and counted. -/
def State.ringUnbound (s : State) (n i : Nat) : State :=
  let k := (s.ring n i).accs.length
  let s := s.disableRing n i
  let s := if k = 0 then s else s.bump (Fld.RNG_LD_CNT.DB_DROP n) (Fld.RNG_LD_CNT.DB_SAT n) k
  let s := (s.modRing n i (fun _ => Ring.new)).fset (Fld.RNG_TAG.TAG_HIGH n i) 0
  let s := (s.fset (Fld.RNG_STS.HEAD n i) 0).fset (Fld.RNG_STS.TAIL n i) 0
  (s.fset (Fld.RNG_STS.HELD n i) 0).fset (Fld.RNG_STS.HALT_REASON n i) 0

/-- UNBIND_LD takes effect (R281): the role generation advances, the LD is UNBOUND, its rings are cleared. -/
def State.unbindLd (s : State) (n : Nat) : State :=
  let s := s.discard (fun r => r.ld == n)
  let s := (List.range 256).foldl (fun s i => s.ringUnbound n i) s
  let s := s.modLd n (fun l => { l with
    gen := (l.gen + 1) % 2 ^ 32
    unbinding := false
    decs := []
    held := false
    returned := false
    restoring := false
    resetting := false })
  (((s.setLdState n .unbound).bindChanged n).settle).showWeir

/-! ## Quiesce and resume (R34, R192) -/

/-- Requests of an LD past step 3. -/
def Req.pastThree (r : Req) : Bool :=
  match r.at_ with
  | .ingress | .ldState => false
  | _ => true
/-- A write still held at step 4, 5 or 6. -/
def Req.heldWrite (r : Req) : Bool :=
  r.kind == .write &&
  (match r.at_ with
   | .order | .bandwidth | .draw | .weir _ | .fork | .slot _ | .pool => true
   | _ => false)

/-- The quiesce ends when the sluice holds no request of the LD past step 3 (R34). -/
def State.quiesced (s : State) (n : Nat) : Bool :=
  (s.ld n).quiesce.isSome && !(s.fab.reqs.any (fun r => r.ld == n && r.pastThree))

/-- The LD enters QUIESCED, and what waits at step 3 is answered. An LD quiesced while REFILLING keeps its restore, in the
place of a restoring LD (R182, R192). -/
def State.enterQuiesced (s : State) (n : Nat) : State :=
  let rest := decide (0 < s.unfilled n)
  let s := (s.modLd n (fun l => { l with quiesce := none, restoring := rest })).setLdState n .quiesced
  ((s.wakeLd n).settle).showWeir

/-- QUIESCE_WAIT_EXPIRY (R34): WAIT_US after the command, the LD's writes held at steps 4 to 6 are discarded. -/
def quiesceWaitExpiry (n : Nat) (s : State) : State :=
  match (s.ld n).quiesce with
  | some t =>
    if t + 1000 * s.fget Fld.WEIR_CFG.WAIT_US ≤ s.now then
      ((s.discard (fun r => r.ld == n && r.heldWrite)).settle).showWeir
    else s
  | none => s
def execQuiesceWaitExpiry (dt ld : Nat) (s : State) : Host.Outcome State Fault Refusal :=
  .next (quiesceWaitExpiry ld (s.elapse dt))

/-- A sanitize of the LD runs, from a ring or a mailbox (R319, R297). -/
def State.sanitizing (s : State) (n : Nat) : Bool :=
  s.fab.bg == some (.sanitize n) ||
  s.rings.any (fun e => e.1 / 256 == n && e.2.accs.any (fun a => a.st == .running && a.desc.opcode.toNat == 7))

/-- Whether RESUME_LD is taken (R34, R192): a QUIESCED LD that is neither held (R177 names RFL_LD_GO for it) nor unbinding,
with no rollback or sanitize under way, and in SERVING one with no UNFILLED page. -/
def State.mayResume (s : State) (n : Nat) : Bool :=
  let l := s.ld n
  l.st == .quiesced && !l.held && !l.unbinding && l.rollback.isNone && !s.sanitizing n &&
  (s.dev == .refilling || s.unfilled n == 0)

/-- RESUME_LD takes effect. -/
def State.resumeLd (s : State) (n : Nat) : State :=
  let s := (s.modLd n (fun l => { l with restoring := false })).setLdState n
    (if 0 < s.unfilled n then .refilling else .serving)
  ((s.refill).checkFilled).showWeir

end Sys2Proof.Machine
end

