-- ==== Sys2Proof/Machine/Rings2.lean ====
section
/-! DEFINITION. The ring opcodes that change an LD's pages, and READ_SEAL (R139, R318 to R320), with the release of held writes
(R125) and the bound of a ring command's wait for room (R126). -/

namespace Sys2Proof.Machine

/-- ROLLBACK_TO (R139): step 1, then whatever of the rest can be done. -/
def rollbackTo (ld n : Nat) (a : Acc) (s : State) : State :=
  let id := a.desc.arg0.toNat
  match s.rollTarget ld id with
  | none => s.finish ld n a.order 3 0 0
  | some c => (s.modLd ld (fun l => { l with rollback := some c.no })).modAcc ld n a.order (fun x => { x with step := 1 })
def execRollbackTo (dt ld ring sqIndex : Nat) (s : State) : Host.Outcome State Fault Refusal :=
  .next ((((s.elapse dt).runOp ld ring sqIndex 4 (rollbackTo ld ring)).kick.settle).showWeir)

/-- ZERO_RANGE begins (R318): the pages of its range; with no room it starts to wait, counted once. -/
def zeroBegin (ld n : Nat) (a : Acc) (s : State) : State :=
  let r := s.rangePages ld a.desc.arg0.toNat a.desc.arg1.toNat
  let k := s.raiseCount ld r.1 r.2
  let t := s.now
  let s := s.modAcc ld n a.order (fun x => { x with pages := (List.range (r.2 - r.1)).map (fun i => r.1 + i) })
  if k != 0 && s.zeroHolds ld k t then
    (s.bump (Fld.WEIR_LD_CNTA.WAITS ld) (Fld.WEIR_LD_CNTA.SAT ld)).modAcc ld n a.order (fun x => { x with since := some t })
  else s.zeroReserve ld n a.order k
def execZeroRange (dt ld ring sqIndex : Nat) (s : State) : Host.Outcome State Fault Refusal :=
  .next ((((s.elapse dt).runOp ld ring sqIndex 6 (zeroBegin ld ring)).kick.settle).showWeir)

/-- The bound of a line write that a ZERO_RANGE makes (R318, R125, R127; log entry 89): of one that waits for room it passes over
the cap where the pool has room, else it counts once; of one that waits for a slot it counts once. -/
def State.zeroWaitExpiry (s : State) (ld n ord : Nat) (w : Nat × Nat × Nat) : State :=
  let counted := fun (s : State) => s.modAcc ld n ord (fun x => { x with
    waits := x.waits.map (fun y => if y.1 == w.1 && y.2.1 == w.2.1 then (y.1, y.2.1, 0) else y) })
  if w.2.1 = 1 then counted (s.bump Fld.EDDY_STALL.TIMEOUTS Fld.EDDY_STALL.TO_SAT)
  else if 1 ≤ s.poolFree && !s.deficit then
    ((((s.bump (Fld.WEIR_LD_CNTB.OVER_CAP ld) (Fld.WEIR_LD_CNTB.OC_SAT ld)).modLd ld (fun l => { l with
      resv := l.resv + 1 })).modAcc ld n ord (fun x => { x with resv := x.resv + 1 })).waitOver ld n ord w.1).kick
  else counted (s.bump (Fld.WEIR_LD_CNTB.TIMEOUTS ld) (Fld.WEIR_LD_CNTB.TO_SAT ld))

/-- What a ZERO_RANGE that would make `k` pages owed lacks of the pool (R126): the pages beyond the LD's guaranteed share and what it
has borrowed. Its allowance already counts pool_free, so that what it lacks is not taken against the allowance (DESIGN CHOICE, log
entry 106). -/
def State.zeroLack (s : State) (n k : Nat) : Nat :=
  (s.ld n).owed + s.raising n none + (s.ld n).resv + k - max (s.gshare n) (s.ld n).owed

/-- RING_WEIR_WAIT_EXPIRY (R126): the bound of a ZERO_RANGE that waits for its room, or of its line writes that wait (R318). -/
def ringWeirWaitExpiry (ld n idx : Nat) (s : State) : State :=
  let bound := 1000 * s.fget Fld.WEIR_CFG.WAIT_US
  match s.accAt ld n idx (fun a => a.st == .running && (a.since.isSome || a.waits.any (fun w => w.2.2 != 0))) with
  | none => s
  | some a =>
    match a.since with
    | none =>
      let due := a.waits.filter (fun w => w.2.2 != 0 && decide (w.2.2 + bound ≤ s.now + 1))
      if due.isEmpty then s else ((due.foldl (fun s w => s.zeroWaitExpiry ld n a.order w) s).settle).showWeir
    | some t =>
      if decide (s.now < t + bound) || a.step != 0 then s
      else
        let r := s.rangePages ld a.desc.arg0.toNat a.desc.arg1.toNat
        let k := s.raiseCount ld r.1 r.2
        if decide (s.zeroLack ld k ≤ s.poolFree) && !s.deficit then
          (((s.bump (Fld.WEIR_LD_CNTB.OVER_CAP ld) (Fld.WEIR_LD_CNTB.OC_SAT ld)).zeroReserve ld n a.order k).settle).showWeir
        else
          (((s.bump (Fld.WEIR_LD_CNTB.TIMEOUTS ld) (Fld.WEIR_LD_CNTB.TO_SAT ld)).finish ld n a.order 10 0 0).settle).showWeir
def execRingWeirWaitExpiry (dt ld ring sqIndex : Nat) (s : State) : Host.Outcome State Fault Refusal :=
  .next (ringWeirWaitExpiry ld ring sqIndex (s.elapse dt))

/-- SANITIZE_LD begins (R319): step 1; step 2 runs with the configuration writes that follow. -/
def sanitizeBegin (ld n ord : Nat) (s : State) : State :=
  (s.newKey ld).modAcc ld n ord (fun x => { x with step := 1 })
def execSanitizeLd (dt ld ring sqIndex : Nat) (s : State) : Host.Outcome State Fault Refusal :=
  .next ((s.elapse dt).runOp ld ring sqIndex 7 (fun a => sanitizeBegin ld ring a.order))

/-- READ_SEAL (R320): the caller's view of the seal record of the newest sealed generation chosen, RESULT 0 with none;
MEDIA_ERROR where no copy of it can be read. -/
def readSeal (ld n : Nat) (readable : Bool) (a : Acc) (s : State) : State :=
  match s.sealedImg.filter (fun g => g.gen == s.newestGen) with
  | none => s.finish ld n a.order 0 0 0
  | some g =>
    if readable then
      (s.emit (.hostWrite ld n 3 (a.desc.arg2.toNat :: g.record Config.otpSerial.toNat (some ld)))).finish ld n a.order 0 0
        (g.gen % 2 ^ 32)
    else s.finish ld n a.order 9 0 0
def execReadSeal (dt ld ring sqIndex : Nat) (readable : Bool) (s : State) : Host.Outcome State Fault Refusal :=
  .next (((s.elapse dt).runOp ld ring sqIndex 9 (readSeal ld ring readable)).settle)

/-- HELD_WRITE_RELEASE (R125, R127): the oldest held write of the LD that can go on does. -/
def heldWriteRelease (n : Nat) (s : State) : State :=
  match s.fab.reqs.find? (s.canPass n) with
  | some r => s.passHold r
  | none => s.settle.showWeir
def execHeldWriteRelease (dt ld : Nat) (s : State) : Host.Outcome State Fault Refusal :=
  .next (heldWriteRelease ld (s.elapse dt))

end Sys2Proof.Machine
end

