-- ==== Sys2Proof/Machine/Commit.lean ====
section
/-! DEFINITION. Where a register of Table 18-8 lies, and COMMIT (R432 to R435): the check of a staged set against the ranges
and rules of its home chapter, and what an accepted set changes. -/

namespace Sys2Proof.Machine

/-! ## Finding a register -/

/-- The indices of a register at `rem` bytes past its base. -/
def rowIndex : List (Nat × Nat) → Nat → Option (List Nat)
  | [], rem => if rem = 0 then some [] else none
  | (stride, count) :: rest, rem =>
    if rem / stride < count then (rowIndex rest (rem % stride)).map (fun l => rem / stride :: l) else none

/-- The register whose first byte is at an offset: its row and indices. -/
def regAt (off : Nat) : Option (RegRow × List Nat) :=
  regRows.findSome? (fun r => if off < r.base then none else (rowIndex r.dims (off - r.base)).map (fun l => (r, l)))

/-- The register a 32-bit offset belongs to: row, indices and base offset. -/
def regOf (off : Nat) : Option (RegRow × List Nat × Nat) :=
  match regAt off with
  | some x => some (x.1, x.2, off)
  | none =>
    if off < 4 then none
    else match regAt (off - 4) with
      | some x => if x.1.wide then some (x.1, x.2, off - 4) else none
      | none => none

/-- The fields of the register at an offset, with their access codes. -/
def fieldsAt (off : Nat) : List (Field × Access) :=
  match regOf off with
  | some x => x.1.flds x.2.1
  | none => []

/-- The bit address begins an RWB field. -/
def isRwb (bit : Nat) : Bool := (fieldsAt (bit / 32 * 4)).any (fun f => f.1.bit == bit && f.2 == .rwb)

/-! ## The COMMIT registers (Table 18-3) -/

/-- COMMIT registers with the windows of their blocks, byte offsets. -/
def commitBlocks : List (Nat × List (Nat × Nat)) := [
  (0x190004, [(0x190000, 0x1A0000)]), (0x1A0004, [(0x1A0000, 0x1B0000)]), (0x110004, [(0x110000, 0x120000)]),
  (0x120008, [(0x120000, 0x130000)]), (0x130004, [(0x130000, 0x140000)]), (0x140008, [(0x140000, 0x150000)]),
  (0x160004, [(0x160000, 0x180000)]), (0x108000, [(0x100000, 0x110000)]), (0x1E000C, [(0x1E0000, 0x1F0000)]),
  (0x1D0004, [(0x1D0000, 0x1D8000)]), (0x1B0004, [(0x1B0000, 0x1C0000)]), (0x1C0800, [(0x1C0000, 0x1D0000)]),
  (0x1F0004, [(0x1F0000, 0x200000)])]

/-- A bit address lies in a block that a COMMIT register covers. -/
def covered (c bit : Nat) : Bool :=
  commitBlocks.any (fun e => e.1 == c && e.2.any (fun w => decide (w.1 ≤ bit / 8) && decide (bit / 8 < w.2)))

/-- A COMMIT write captures the staged set of its blocks as it stands (R433); while SPILLING or SEALED it is held (R170). -/
def State.commitWrite (s : State) (c : Nat) : State :=
  if s.dev == .off || !(commitBlocks.any (fun e => e.1 == c)) then s
  else
    let set := s.staged.filter (fun e => covered c e.1)
    let held := if s.isCut then setIns c s.commitHeld else setDel c s.commitHeld
    { s with
      captured := tabIns c set (tabDel c s.captured)
      commitHeld := held }

/-! ## Ranges (R431, R433) -/

/-- Fields of one shape: the first one, stride in bits and how many, with the values allowed. -/
structure Range where
  first  : Field
  stride : Nat
  count  : Nat
  lo     : Nat
  hi     : Nat
  deriving DecidableEq, Repr

/-- A single field. -/
def one (f : Field) (lo hi : Nat) : Range := ⟨f, 1, 1, lo, hi⟩

/-- The ranges that the home chapters state for RWB fields. -/
def rwbRanges : List Range := [
  one Fld.COL_CTL.ROLE 0 2, one Fld.COL_EPOCH_CFG.GUARD 2 15, one Fld.COL_EPOCH_CFG.K 7 21,
  ⟨Fld.CIS_PACK_CFG.CELLS 0, 64, 4, 3, 5⟩, ⟨Fld.CIS_PACK_CFG.V_CUT_MV 0, 64, 4, 2500, 3300⟩,
  one Fld.WEIR_CFG.CREDIT_FLOOR 16 127, one Fld.WEIR_CFG.MARGIN_PCT 10 50, one Fld.WEIR_CFG.WAIT_US 1 2000,
  one Fld.WEIR_FIXED.PAGE_OVH 32 255, one Fld.WEIR_CREDIT.WINDOW 0 12, one Fld.WEIR_CREDIT.MIN_PAGES 1 255,
  ⟨Fld.WEIR_LD_CFG.BORROW_CAP 0, 64, 32, 0, 128⟩,
  one Fld.RILL_CFG.QUOTA 1 96, one Fld.RILL_CFG.LOW_PCT 0 89, one Fld.RILL_GOV.CYCLES 1 65535,
  one Fld.RILL_GOV.USE_PCT 1 100, one Fld.RILL_GOV.LIFE_DAYS 1 4095, one Fld.RILL_GOV.WINDOW_S 64 4095,
  one Fld.RILL_GOV.RELOC_PCT 0 50, one Fld.EDDY_CFG.RETAIN_MAX 1 32, one Fld.EDDY_CFG.RESERVE_PM 5 60,
  one Fld.SPL_CFG.SEAL_HOLD_MS 0 1000, one Fld.SPL_CFG.SAG_PM 0 100, one Fld.ELY_CFG.SHADOW_INTERVAL 1 255,
  one Fld.ELY_CFG.SHADOW_PAGES 1 255, one Fld.RFL_CFG.REFILL_OPS 16 224, ⟨Fld.RFL_LD_SRC.MODE 0, 64, 32, 0, 2⟩,
  one Fld.LOG_CFG.SPARE_BLOCKS 16 255, one Fld.LOG_CFG.GC_SLACK 1 64, one Fld.LOG_CFG.SCRUB_DAYS 1 255,
  one Fld.LOG_CFG.RR_RELOC 1 10, one Fld.LOG_CFG.FOLD_LAPS 1 3, one Fld.LOG_CFG.MIN_RUN_US 200 1000,
  one Fld.DRC_MAP.GRAIN 0 8, ⟨Fld.DRC_GEOM.RANKS 0, 65536, 8, 0, 2⟩, ⟨Fld.DRC_GEOM.STACK 0, 65536, 8, 0, 2⟩,
  ⟨Fld.DRC_GEOM.RATE 0, 65536, 8, 0, 4⟩, ⟨Fld.DRC_SCHED.PD_TIMER 0, 65536, 8, 32, 4096⟩,
  ⟨Fld.DRC_SCHED.ROW_IDLE 0, 65536, 8, 8, 1024⟩, ⟨Fld.DRC_RH.RH_THRESH 0, 65536, 8, 256, 16384⟩,
  ⟨Fld.DRC_ECC.SCRUB_HOURS 0, 65536, 8, 1, 168⟩,
  ⟨Fld.FAB_PORT_CFG.REFCLK 0, 2048, 2, 0, 2⟩, one Fld.SLU_TRK_CFG.LD_CAP 256 6144, one Fld.SLU_TRK_CFG.PORT_RESV 0 4096,
  ⟨Fld.SLU_LD_PCFG.CLASS 0, 32, 32, 0, 2⟩, ⟨Fld.SLU_LD_PCFG.SCOPE 0, 32, 32, 0, 2⟩,
  one Fld.BOOT_CFG.START_TIMEOUT_S 10 255, one Fld.BOOT_CFG.WDT_MS 100 10000, one Fld.FLT_CFG.QUIET_MS 1 10000,
  ⟨Fld.FLT_REACT.EVENT 0, 32, 5, 0, 4⟩, ⟨Fld.FLT_SRC_CFG.SEVERITY 0, 32, 1024, 0, 4⟩,
  one Fld.PSQ_CFG.GOOD_MS 1 1000, one Fld.PSQ_SEQ_CFG.SEQ_RETRIES 1 15, ⟨Fld.PSQ_RAIL_CFG.TIMEOUT 0, 64, 32, 1, 255⟩,
  ⟨Fld.PSQ_RAIL_CFG.CLASS 0, 64, 32, 0, 5⟩,
  ⟨Fld.PSQ_RST_CFG.STRETCH_MS 0, 64, 8, 1, 1000⟩, one Fld.PDM_POLICY.MIN_ON 6 16, one Fld.TWB_CFG.TX_RETRIES 1 15] ++
  (List.range 5).map (fun q => ⟨Fld.DRC_QOS.TARGET_NS 0 q, 65536, 8, 50, 65535⟩)

/-- The bit address is one of a range's fields. -/
def Range.has (r : Range) (bit : Nat) : Bool :=
  decide (r.first.bit ≤ bit) && decide ((bit - r.first.bit) % r.stride = 0) &&
  decide ((bit - r.first.bit) / r.stride < r.count)

/-- A staged value is allowed. -/
def rangeOk (e : Nat × Nat) : Bool := rwbRanges.all (fun r => !r.has e.1 || (decide (r.lo ≤ e.2) && decide (e.2 ≤ r.hi)))

/-- A set touches any of some fields. -/
def touches (set : List (Nat × Nat)) (fs : List Field) : Bool := set.any (fun e => fs.any (fun f => f.bit == e.1))

/-! ## Rules of whole sets -/

/-- The state with a set in place of the accepted values. -/
def State.withSet (s : State) (set : List (Nat × Nat)) : State :=
  set.foldl (fun s e => match (fieldsAt (e.1 / 32 * 4)).find? (fun f => f.1.bit == e.1) with
    | some f => s.fset f.1 e.2
    | none => s) s

/-- R66: the beat plan fits its resources. -/
def State.planOk (t : State) : Bool :=
  decide (t.fget Fld.COL_PLAN_FLASH.DRAW_MIN + t.fget Fld.COL_PLAN_FLASH.RILL_MIN + t.fget Fld.COL_PLAN_FLASH.GC_MIN ≤ 64) &&
  decide (t.fget Fld.COL_PLAN_SCARAB.RESTORE_MIN + t.fget Fld.COL_PLAN_SCARAB.CLEAN_MIN +
    t.fget Fld.COL_PLAN_SCARAB.COPY_MIN + t.fget Fld.COL_PLAN_SCARAB.CHECK_MIN ≤ 128)

/-- R85: every enabled pack has a shunt. -/
def State.shuntOk (t : State) : Bool :=
  (List.range 4).all (fun p => !t.on (Fld.CIS_PACK_CFG.ENABLE p) || decide (500 ≤ t.fget (Fld.CIS_PACK_CFG.SHUNT_UOHM p)))

/-- R123: the guaranteed shares of the bound LDs that are not VOLATILE fit the weir. -/
def State.sharesOk (t : State) : Bool :=
  decide (sumNat (t.shareLds.map (fun n => t.fget (Fld.WEIR_LD_CFG.GUAR n))) ≤ 65536)

/-- R141: a RESERVE_PM that the set stages reaches into no extent. -/
def State.reserveOk (t : State) (set : List (Nat × Nat)) : Bool :=
  let b := t.hostBaseAt (t.fget Fld.EDDY_CFG.RESERVE_PM)
  !touches set [Fld.EDDY_CFG.RESERVE_PM] || allLds.all (fun n => decide ((t.ld n).extSize = 0) || decide (b ≤ (t.ld n).extBase * extUnit))

/-- Table 11-13: LOAD_OPT below LOAD_MOD below LOAD_SEV. -/
def State.loadOk (t : State) : Bool :=
  decide (t.fget Fld.FAB_DEVLOAD_CFG.LOAD_OPT < t.fget Fld.FAB_DEVLOAD_CFG.LOAD_MOD) &&
  decide (t.fget Fld.FAB_DEVLOAD_CFG.LOAD_MOD < t.fget Fld.FAB_DEVLOAD_CFG.LOAD_SEV)

/-- R26, R301: an LD whose staged CLASS or SCOPE a COMMIT refuses: a reserved encoding, or a bound LD's class changed. -/
def State.badLd (s : State) (set : List (Nat × Nat)) : Option Nat :=
  allLds.find? (fun n => set.any (fun e =>
    (e.1 == (Fld.SLU_LD_PCFG.CLASS n).bit && (e.2 == 3 || (s.bound n && e.2 != s.cls n))) ||
    (e.1 == (Fld.SLU_LD_PCFG.SCOPE n).bit && e.2 == 3)))

/-- Table 15-9, Table 15-11: GOOD_DV above TRIP_DV, and UV_CODE below OV_CODE of each rail the set touches. -/
def State.psqOk (t : State) (set : List (Nat × Nat)) : Bool :=
  decide (t.fget Fld.PSQ_CFG.TRIP_DV < t.fget Fld.PSQ_CFG.GOOD_DV) &&
  (List.range 32).all (fun r => !touches set [Fld.PSQ_RAIL_CFG.UV_CODE r, Fld.PSQ_RAIL_CFG.OV_CODE r] ||
    decide (t.fget (Fld.PSQ_RAIL_CFG.UV_CODE r) < t.fget (Fld.PSQ_RAIL_CFG.OV_CODE r)))

/-- Two-wire addresses that R411 keeps free. -/
def twbReserved (a : Nat) : Bool := a ≤ 7 || a == 0x0C || 0x78 ≤ a

/-- The two-wire addresses a state answers (R411). -/
def State.twbAnswers (t : State) : List Nat :=
  if t.on Fld.TWB_CFG.MASK_MODE then
    let m := t.fget Fld.TWB_CFG.MASK
    (List.range 128).filter (fun a => (a ^^^ t.fget (Fld.TWB_ADDR.ADDR 0)) &&& (127 - m) == 0)
  else ((List.range 4).filter (fun i => t.on (Fld.TWB_ADDR.EN i))).map (fun i => t.fget (Fld.TWB_ADDR.ADDR i))

/-- R411: no reserved address, and no two entries alike. -/
def State.twbOk (t : State) : Bool := t.twbAnswers.all (fun a => !twbReserved a) && decide t.twbAnswers.Nodup

/-- The staged set of a COMMIT register passes every check of its home chapters (R433). `t` is the state with the set in
place. -/
def State.setOk (s : State) (c : Nat) (set : List (Nat × Nat)) : Bool :=
  let t := s.withSet set
  set.all rangeOk &&
  (if c = 0x190004 then t.planOk
   else if c = 0x1A0004 then t.shuntOk
   else if c = 0x110004 then t.sharesOk && t.reserveOk set
   else if c = 0x108000 then t.loadOk && (s.badLd set).isNone
   else if c = 0x1B0004 then t.psqOk set
   else if c = 0x1F0004 then t.twbOk
   else true)

/-! ## Accepting and refusing -/

/-- The refusal field of a COMMIT register (Table 18-3). SHARE_REJECT and RESERVE_REJECT stay set until a COMMIT succeeds; PLAN_REJECT
says whether the last COMMIT broke R66. -/
def State.showRefusal (s : State) (c : Nat) (set : List (Nat × Nat)) (ok : Bool) : State :=
  let t := s.withSet set
  if c = 0x190004 then s.fput Fld.COL_PLAN_FLASH.PLAN_REJECT (!ok && !t.planOk)
  else if c = 0x110004 then
    if ok then (s.fset Fld.WEIR_STS.SHARE_REJECT 0).fset Fld.EDDY_CFG.RESERVE_REJECT 0
    else
      let s := if t.sharesOk then s else s.fset Fld.WEIR_STS.SHARE_REJECT 1
      if t.reserveOk set then s else s.fset Fld.EDDY_CFG.RESERVE_REJECT 1
  else if c = 0x108000 then
    (s.fput Fld.SLU_STS.CFG_REJECT (!ok)).fset Fld.SLU_STS.REJECT_LD (if ok then 0 else (s.badLd set).getD 0)
  else if c = 0x1F0004 then s.fput Fld.TWB_CFG.CFG_REJECT (!ok)
  else s

/-- A new K or GUARD that a COMMIT on the root accepts waits for the EFFECTIVE_BEAT the root chooses (R67); a standalone module uses
its own values at once, a module that has just become the root uses its own, and a member's own wait behind the root's. `was` is
the state before the COMMIT. -/
def State.epochAccepted (s was : State) : State :=
  let g' := s.fget Fld.COL_EPOCH_CFG.GUARD
  let k' := s.fget Fld.COL_EPOCH_CFG.K
  if s.isRoot && !was.isMember && (was.fget Fld.COL_EPOCH_CFG.GUARD != g' || was.fget Fld.COL_EPOCH_CFG.K != k') then
    let g := was.guardNow
    let k := was.kNow
    let m := 2 ^ max k k'
    let eff := (s.curBeat + 64 + m - 1) / m * m
    s.modCol (fun c => { c with
      guardNow := some g
      kNow := some k
      pend := some (PendCfg.mk g' k' eff)
      cfgGen := (c.cfgGen + 1) % 256
      cfgLeft := 3 })
  else if s.isStandalone || (s.isRoot && was.isMember) then
    s.modCol (fun c => { c with guardNow := none, kNow := none, pend := none })
  else s

/-- Roles committed (R42, R54, R60): a DISABLED port is off, and a selected port that no longer faces upstream is lost. Every
port sends a ROLE frame (Table 03-6). -/
def State.portsAccepted (s : State) : State :=
  let s := allPorts.foldl (fun s p =>
    let s := if s.portRole p == 0 then s.fset (Fld.COL_PORT_STS.LINK_UP p) 0 else s
    if s.portRole p != 1 && s.portRole p != 3 && s.selPort == some p then s.loseSelected else s) s
  rolePeriodic s.rolesCommitted

/-- What an accepted set changes beside the fields themselves: a checkpoint whose release waited for its naming as a refill source to
end goes with it (R138). -/
def State.accepted (s : State) (c : Nat) (set : List (Nat × Nat)) (was : State) : State :=
  if c = 0x190004 then
    let ports := allPorts.flatMap (fun p => [Fld.COL_PORT_CFG.ROLE p, Fld.COL_PORT_CFG.ASYM_NS p])
    let roles := [Fld.COL_CTL.ROLE, Fld.COL_ID.MODULE_ID] ++ allPorts.map Fld.COL_PORT_CFG.ROLE
    let s := if touches set roles then s.portsAccepted else s
    let s := if touches set ports then s.modCol (fun x => { x with mayUp := true }) else s
    s.epochAccepted was
  else if c = 0x130004 then
    allLds.foldl (fun s n => if touches set [Fld.RFL_LD_SRC.MODE n, Fld.RFL_LD_SRC.VALUE n] then
      (s.releaseOld n (s.ld n).newestNo).showCkpts n else s) s
  else if c = 0x1A0004 then (s.reDesign).limAccepted was
  else if c = 0x1B0004 then
    let s := s.railsUnused
    { s with
      chrys := true
      chrysPsq := s.regs.filter (fun e => covered c e.1 && isRwb e.1) }
  else s

/-- One captured set is checked and accepted whole or refused whole (COMMIT_CHECK, R433, R435). -/
def State.commitCheck (s : State) (c : Nat) (set : List (Nat × Nat)) : State :=
  let gone := { s with captured := tabDel c s.captured, commitHeld := setDel c s.commitHeld }
  if s.setOk c set then
    let t := gone.withSet set
    let now := s.now
    let t := { t with
      staged := t.staged.filter (fun e => !set.contains e)
      cfgDue := if s.dev == DevState.basin then t.cfgDue else some (t.cfgDue.getD now) }
    (t.accepted c set s).showRefusal c set true
  else gone.showRefusal c set false

/-- Every captured set that is not held any more is checked at a beat boundary. -/
def State.commitChecks (s : State) : State :=
  if s.isCut then s
  else s.captured.foldl (fun s e =>
    if s.commitHeld.contains e.1 && !s.isOpen then s else s.commitCheck e.1 e.2) s

/-- A write over a path may reach a register (R343, R421, R422): over the two-wire path no RNG_ register, and no TWB_ register
while LOCK is set. -/
def State.mayWrite (s : State) (path : Path) (off : Nat) : Bool :=
  match path with
  | .fm => s.fmWritable off
  | .twoWire => s.fmWritable off && decide (off < 0x200000) && !(off / 65536 == 0x1F && s.on Fld.TWB_CFG.LOCK)
  | .tenant _ => false

/-- COMMIT_WRITE (R432): a write of 1 to a COMMIT register, by any path that may write it. -/
def commitRow (path : Path) (off : Nat) (s : State) : State :=
  if s.mayWrite path off then s.commitWrite off
  else if path == .twoWire && s.dev != .off then s.deny else s
def execCommitWrite (dt : Nat) (path : Path) (offset : Nat) (s : State) : Host.Outcome State Fault Refusal :=
  .next (commitRow path offset (s.elapse dt))

end Sys2Proof.Machine
end

