-- ==== Sys2Proof/Machine/Start.lean ====
section
/-! DEFINITION. Starts (chapter 13), the choice of every LD's source and the rebuild (R173 to R180, R190, R191), LD_GO, the
decision on leaving SEALED (R169) and Basin mode (R343 to R345). Reasons: 1 IMAGE_SIGNATURE, 2 IMAGE_BINDING,
3 DRAM_TRAINING, 4 LOG_METADATA, 5 CISTERN_FAULT, 6 WATCHDOG, 7 SELF_TEST. -/

namespace Sys2Proof.Machine

/-- STAGE of BOOT_STS. -/
def State.bootStage (s : State) : Nat := s.fget Fld.BOOT_STS.STAGE

/-! ## Boot copies (R336, R338, R344) -/

/-- The manifest tests of R336, without the section hashes. -/
def imgSigned (i : Image) : Bool := i.manifestOk && i.keyOk && i.sigOk
/-- A valid image (R336). -/
def imgValid (i : Image) : Bool := imgSigned i && i.hashesOk
/-- The image may run on this unit (R336). -/
def imgFits (i : Image) : Bool :=
  i.hwType == Config.otpHwType.toNat && (i.bindSerial == 0 || i.bindSerial == Config.otpSerial.toNat)

/-- Of copies, the one with the highest FW_VERSION, and of those the lowest number. -/
def bestCopy (l : List (Nat × Image)) : Option (Nat × Image) :=
  l.foldl (fun b e => match b with
    | none => some e
    | some x => if x.2.fwVersion < e.2.fwVersion then some e else some x) none

/-- Valid and bound copies. -/
def State.goodCopies (s : State) : List (Nat × Image) := s.boot.copies.filter (fun e => imgValid e.2 && imgFits e.2)
/-- Copy `k` is valid, bound and of the loaded version. -/
def State.copyCurrent (s : State) (k : Nat) : Bool :=
  s.goodCopies.any (fun e => e.1 == k && s.boot.loaded.any (fun i => i.fwVersion == e.2.fwVersion))

/-! ### What the maintenance port sees of the regions (Table 08-1) -/

/-- The KX7180 has written boot copy `k`: what the port knew of its blocks is gone (R338, R349). -/
def State.bootWritten (s : State) (k : Nat) : State :=
  let bs := (List.range (s.blocksOf 8)).map (fun i => blockKey (128 * k) (s.goodBlock (128 * k) i))
  { s with flm := { s.flm with
      filled := bs.foldl (fun l b => setIns b l) s.flm.filled
      raw := s.flm.raw.filter (fun e => !bs.contains (e.1 / 2 ^ 13)) } }
/-- Boot copy `k` holds an image. -/
def State.putCopy (s : State) (k : Nat) (img : Image) : State :=
  (s.modBoot (fun b => { b with copies := tabIns k img (tabDel k b.copies), byPort := setDel k b.byPort })).bootWritten k

/-- BOOT_STS, BOOT_FW, BOOT_FW_STORED and BOOT_UCODE show the copies. -/
def State.showCopies (s : State) : State :=
  let mask := fun (p : Nat → Bool) => ((List.range 4).filter p).foldl (fun m k => m ||| 2 ^ k) 0
  let s := s.fset Fld.BOOT_STS.COPIES_OK (mask (fun k => s.goodCopies.any (fun e => e.1 == k)))
  let s := s.fset Fld.BOOT_STS.COPIES_CURRENT (mask s.copyCurrent)
  let s := s.fset Fld.BOOT_FW.VERSION ((s.boot.loaded.map (·.fwVersion)).getD 0)
  let b := bestCopy s.goodCopies
  let s := s.fset Fld.BOOT_FW_STORED.VERSION ((b.map (fun e => e.2.fwVersion)).getD 0)
  (s.fset Fld.BOOT_UCODE.STORED_VER ((b.map (fun e => e.2.ucodeVer)).getD 0)).fset Fld.BOOT_UCODE.ROM_VER s.boot.romVer

/-- The fetch mapping lies on a copy, or nowhere (R236). -/
def State.setXip (s : State) (k : Option Nat) : State :=
  let s := (s.modBoot (fun b => { b with xip := k })).fput Fld.FLM_XIP.ACTIVE k.isSome
  (s.fset Fld.FLM_XIP.COPY (k.getD 0)).fset Fld.FLM_XIP.DIE_STREAM (128 * k.getD 0)

/-! ## History and failures (R340, R341, R344) -/

/-- Time since the running start's resets were released, ms. -/
def State.startMs (s : State) : Nat := (s.now - s.boot.startAt) / 1000000

/-- An entry enters BOOT_HIST, newest first (Table 13-14). -/
def State.pushHist (s : State) (kind reason copy stage ms : Nat) : State :=
  let s := (List.range 7).foldl (fun s i =>
    let j := 7 - i
    let s := (s.fset (Fld.BOOT_HIST.KIND j) (s.fget (Fld.BOOT_HIST.KIND (j - 1)))).fset (Fld.BOOT_HIST.REASON j)
      (s.fget (Fld.BOOT_HIST.REASON (j - 1)))
    let s := (s.fset (Fld.BOOT_HIST.COPY j) (s.fget (Fld.BOOT_HIST.COPY (j - 1)))).fset (Fld.BOOT_HIST.STAGE j)
      (s.fget (Fld.BOOT_HIST.STAGE (j - 1)))
    s.fset (Fld.BOOT_HIST.DURATION_MS j) (s.fget (Fld.BOOT_HIST.DURATION_MS (j - 1)))) s
  let s := ((s.fset (Fld.BOOT_HIST.KIND 0) kind).fset (Fld.BOOT_HIST.REASON 0) reason).fset (Fld.BOOT_HIST.COPY 0) copy
  (s.fset (Fld.BOOT_HIST.STAGE 0) stage).fsat (Fld.BOOT_HIST.DURATION_MS 0) ms

/-- BOOT_HIST as the configuration region keeps it after a failed start (Table 13-14). -/
def State.saveHist (s : State) : State :=
  let l := (List.range 8).map (fun i => (s.fget (Fld.BOOT_HIST.KIND i), s.fget (Fld.BOOT_HIST.REASON i),
    s.fget (Fld.BOOT_HIST.COPY i), s.fget (Fld.BOOT_HIST.STAGE i), s.fget (Fld.BOOT_HIST.DURATION_MS i)))
  s.modBoot (fun b => { b with hist := l })

/-- Every bound LD is SEALED (R35). -/
def State.ldsSeal (s : State) : State :=
  (allLds.filter s.bound).foldl (fun s n => s.setLdState n .sealed) s

/-- BASIN (R343, R344): LDs SEALED and no decoder committed; a copy with a sound RECOVERY section runs in place. -/
def State.enterBasin (s : State) : State :=
  let s := (s.setDev .basin).fset Fld.BOOT_STS.BASIN 1
  let s := allLds.foldl (fun s n => s.modLd n (fun l => { l with decs := [] })) s.ldsSeal
  let c := bestCopy (s.boot.copies.filter (fun e => imgSigned e.2 && imgFits e.2 && e.2.recoveryOk))
  let s := (s.fput Fld.BOOT_STS.RECOVERY_XIP c.isSome).setXip (c.map (·.1))
  let s := (List.range 8).foldl (fun s k => if s.fget (Fld.DRC_STS.STATE k) == 2 then s.selfRefresh k else s) s
  (s.modBoot (fun b => { b with loaded := none })).showCopies

/-! ## The beginning of a start -/

/-- The stages of a kind (Table 13-1): cold starts run them all; a device warm reset keeps its configuration, DRAM and
image; a SEALED restart keeps the housekeeper running. -/
def stagesOf (kind : Nat) : List Nat :=
  if kind = 1 then [1, 2, 3, 5, 7] else if kind = 2 then [5, 6, 7] else [1, 2, 3, 4, 5, 6, 7]

/-- The stage after `k`; 8 after the last. -/
def nextStage (kind k : Nat) : Nat := ((stagesOf kind).find? (fun x => decide (k < x))).getD 8

/-- Stage 5 trains the DRAM channels, but in a device warm reset (R269): their STATE shows it. -/
def State.showTraining (s : State) (k : Nat) : State :=
  if k = 5 && s.boot.kind != 1 then
    (List.range 8).foldl (fun s c => if s.on (Fld.DRC_GEOM.POP c) then s.fset (Fld.DRC_STS.STATE c) 1 else s) s
  else s

/-- RFL_STS PHASE follows the stage: at stage 6 LOCATE where the generation has to be searched for in the journal, VALIDATE where
chrysalis memory names it (log entry 88). -/
def State.setStart (s : State) (k : Nat) : State :=
  let s := (s.fset Fld.BOOT_STS.STAGE k).showTraining k
  if k = 6 then s.fset Fld.RFL_STS.PHASE (if s.boot.locate then 1 else 2)
  else if k = 7 then s.fset Fld.RFL_STS.PHASE 3 else s

/-- The CXL timestamp (R111): TS_BASE and the time elapsed since TS_MARK. -/
def State.timestamp (s : State) : Nat :=
  if s.on Fld.CIS_TIME_STS.TIME_LOST then 0
  else (s.fget Fld.CIS_TS_BASE.TS_BASE + 1000 * (s.nowUs - s.fget Fld.CIS_TS_MARK.TS_MARK)) % 2 ^ 64

/-- Colony time of a root or STANDALONE module at a start (R58). -/
def State.startTime (s : State) : State :=
  if s.isMember then s
  else
    let t := s.timestamp
    { s with colTime := t, beat := t / beatNs }

/-- The eddy reserve and its slots (R140, R8). -/
def State.slotsFound (s : State) : State :=
  (s.fset Fld.EDDY_STS.SLOTS_TOTAL (s.eddyMib s.reservePm * 256)).showSlots

/-- RESERVE_PM comes into force at an entry to TRAINING, unless a smaller reserve would remove a slot that holds an eddy copy
(R140, R141). -/
def State.latchReserve (s : State) : State :=
  let r := s.fget Fld.EDDY_CFG.RESERVE_PM
  let slots := s.eddyMib r * 256
  let s := if s.eddy.any (fun e => decide (slots ≤ e.1)) then s else { s with reservePm := r }
  s.slotsFound

/-- A start of a kind begins: TRAINING (R32, R334). After a loss of domain 0 it sets TIME_LOST (R110). Where the configuration is
not loaded anew, colony time starts here (R58), and a device warm reset latches the reserve (R140). -/
def State.beginStart (s : State) (kind : Nat) : State :=
  let t := s.now
  let s := if s.timeLost then ({ s with timeLost := false } : State).fset Fld.CIS_TIME_STS.TIME_LOST 1 else s
  let s := s.modBoot (fun b => { b with
    kind := kind
    startAt := t
    repair := []
    retried := false })
  let s := if kind = 1 then s.startTime.latchReserve else if kind = 2 then s.startTime else s
  (((s.setDev .training).fset Fld.BOOT_STS.START_KIND kind).fset Fld.BOOT_STS.REPAIR_ACTIVE 0).setStart
    ((stagesOf kind).headD 1)

/-- The bit address belongs to a register that keeps its value across a cold start (Table 18-5), or that shows a state
which outlives one: the device marks (R263), the die states, the protection table and its password (R233, R234), the level of
PLUNGE_N (Table 03-29). -/
def coldKept (bit : Nat) : Bool :=
  let o := bit / 8
  let in_ := fun (a b : Nat) => decide (a ≤ o) && decide (o < b)
  inVaon o || in_ 0x1E0100 0x1E0120 ||
  (in_ 0x160000 0x170000 && decide (0x150 ≤ o % 0x2000 ∧ o % 0x2000 < 0x158)) ||
  bit == Fld.COL_PLUNGE_INFO.PLUNGEN_LOW.bit || bit == Fld.BOOT_STS.FAILS.bit || bit == Fld.BOOT_STS.LAST_REASON.bit

/-- What is left of an LD across a loss of core power. -/
def Ld.cold (l : Ld) : Ld :=
  { l with
    decs := []
    held := false
    returned := false
    restoring := false
    quiesce := none
    unbinding := false
    resetting := false
    rollback := none
    reach := false
    owed := 0
    resv := 0
    bwUsed := 0
    waited5 := false
    waited5L := false
    ckpts := l.ckpts.filter (fun c => c.complete) }

/-- DRAM has lost its content: nothing of its pages, copies and requests is left; chrysalis memory keeps the governor's slices
(R132). -/
def State.dramLost (s : State) : State :=
  let drop : LogState → LogState := fun l => { l with
    stripes := []
    fold := []
    reloc := []
    chOut := []
    dieOps := []
    verifying := []
    scrubLeft := []
    scrubOn := []
    poisonDue := []
    recDue := [] }
  let kept := s.rill
  { s with
    dram := []
    poison := []
    pages := []
    eddy := []
    rill := { slices := kept.slices, sliceNo := kept.sliceNo, relocBytes := kept.relocBytes }
    log := drop s.log
    rfl_ := { }
    chans := s.chans.map (fun e => (e.1, { geom := e.2.geom, trfc := e.2.trfc }))
    fab := { s.fab with reqs := [], gpf := [], poison := [], found := [] } }

/-- The newest generation the journal names (R173, R166), in records that count as written (R207). -/
def State.jnlGen (s : State) : Nat :=
  ((s.flt.flashJnl.filter (fun r => (r.kind == 1 || r.kind == 2) && !r.sealedOn.isEmpty)).map (·.gen)).foldl max 0

/-- A start reads each seal word once (R207): one whose program a loss of power interrupted may read either way. -/
def State.readSeals (s : State) : State :=
  let k := s.freeCtr
  let torn := fun (r : JRec) => r.torn ++ r.progOn.filter (fun c => !r.sealedOn.contains c && !r.torn.contains c)
  let read : JRec → JRec := fun r => { r with
    torn := torn r
    sealedOn := r.sealedOn.filter (fun c => !r.torn.contains c) ++ (torn r).filter (fun c => Config.sealReads (k + r.seq * 2 + c)) }
  { s.modFlt (fun f => { f with flashJnl := f.flashJnl.map read }) with
    freeCtr := k + 2 * ((s.flt.flashJnl.map (fun r => r.seq + 1)).foldl max 0) }

/-- An erase that a loss of power interrupted (Table 08-10): the band is free, to be erased again before use. -/
def State.eraseCut (s : State) : State :=
  match s.log.erasing with
  | none => s
  | some b =>
    { s.modLog (fun l => { l with
        erasing := none
        used := l.used.filter (· ≠ b)
        tlc := l.tlc.filter (· ≠ b)
        free := s.ringOrder (b :: l.free.erase b)
        reErase := setIns b l.reErase }) with
      flash := s.flash.filter (fun e => keyBand e.1 ≠ b)
      stripesOn := s.stripesOn.filter (fun e => e.2.band ≠ b) }

/-- A cold start finds no core state (Table 18-5): registers at their Reset column but for those of domains 0 and 94 and
what chrysalis memory keeps; every domain ON; journal numbers going on from flash (R207). -/
def State.coldInit (s : State) : State :=
  let keep := fun (bit : Nat) => coldKept bit && (s.chrys ||
    !(bit == Fld.BOOT_STS.FAILS.bit || (0x1E0100 ≤ bit / 8 && bit / 8 < 0x1E0120)))
  let s := s.readSeals
  let usedGen := if s.chrys then max s.spill.usedGen s.jnlGen else s.jnlGen
  let coldLd : Nat × Ld → Nat × Ld := fun e => (e.1, e.2.cold)
  let keepMb : Mbx → Mbx := fun m => { shutdown := m.shutdown }
  let coldMb : Nat × Mbx → Nat × Mbx := fun e => (e.1, keepMb e.2)
  let next := (s.flt.flashJnl.map (fun r => r.seq + 1)).foldl max 0
  let lostC := !s.chrys
  let out := [0, 1].filter (fun e => s.elyRole e == 3 || (s.ely e).rejoining)
  let s := (s.releasePlungeN.flmCut.eraseCut.dramLost).blockReset (fun o => !inVaon o)
  let s := if lostC then s.modRill (fun r => { r with slices := [], sliceNo := 0, relocBytes := 0 }) else s
  let s : State := { s with
    regs := s.regs.filter (fun e => keep e.1)
    staged := []
    captured := []
    commitHeld := []
    cfgDue := none
    colTime := 0
    beat := 0
    tx := []
    col := { }
    flt := { s.flt with
      hold := []
      queue := []
      seen := []
      lostBeat := []
      summary := none
      warmAtT := false
      bistUnit := none
      staging := []
      injClass := 0 }
    fab := { devDsc := s.fab.devDsc, nextRid := s.fab.nextRid, sanitized := s.fab.sanitized }
    lds := s.lds.map coldLd
    mbx := s.mbx.map coldMb
    molt := none
    spill := { usedGen := usedGen, gen := usedGen, roleGen := s.spill.roleGen, rings := s.spill.rings }
    elys := out.map (fun e => (e, { Elytra.new with rejoining := true }))
    targets := []
    doms := s.doms.filter (fun e => e.1 == 0 || e.1 == 94)
    pdmLock := false
    chrys := true
    flm := { s.flm with session := none, op := none }
    twb := { }
    boot := { s.boot with loaded := none, found := none, xfer := none, xip := none, locate := lostC } }
  let s := (List.range 96).foldl (fun s d => if d == 0 || d == 94 then s else
    ((s.fset (Fld.PDM_MODE.MODE d) 0).fset (Fld.PDM_MODE.STATE d) 0).fset (Fld.PDM_MODE.PENDING d) 0) s
  let s := (List.range 16).foldl (fun s k =>
    if s.fget (Fld.SCB_CL_STS.STATE k) == 1 then s.fset (Fld.SCB_CL_STS.STATE k) 0 else s) s
  let s := allLds.foldl (fun s n => if s.bound n then s.setLdState n .sealed else s) s
  let s := allLds.foldl (fun s n => if (s.ld n).extSize != 0 || s.bound n then
    let l := s.ld n
    let s := (s.fset (Fld.SLU_LD_BIND.PORT n) l.port).fset (Fld.SLU_LD_BIND.LD_ID n) l.ldId
    let s := (s.fset (Fld.SLU_LD_BIND.EXT_SIZE n) l.extSize).fset (Fld.SLU_LD_BIND.EXT_BASE n) l.extBase
    (s.fset (Fld.SLU_LD_BIND.GEN n) l.gen).fset (Fld.RNG_LD_STS.GEN n) l.gen else s) s
  ((s.setUnit 6 0).setUnit 7 0).fset Fld.JNL_SEQ.NEXT_SEQ next

/-- A cold start of kind 0 or 3 begins. -/
def State.coldStart (s : State) (kind : Nat) : State := (s.coldInit.cisCold).beginStart kind

/-- COLD_START (R335): the core reset is released with the rails on, from OFF. -/
def coldStart (s : State) : State :=
  if s.dev == .off && s.seqSt == 2 && !s.on Fld.PSQ_RST_STS.CORE_RST && !s.psq.por then s.coldStart 0 else s
def execColdStart (dt : Nat) (s : State) : Host.Outcome State Fault Refusal := .next (coldStart (s.elapse dt))

/-- The restart of the steps of a kind after a failure (R334, R340). -/
def State.restart (s : State) : State :=
  let k := s.boot.kind
  if k = 1 || k = 2 then s.beginStart k else s.coldStart k

/-- START_FAIL (R340, R341). -/
def State.startFail (s : State) (reason : Nat) : State :=
  let s := (s.satUp Fld.BOOT_STS.FAILS).bump Fld.BOOT_CNT.FAILED_STARTS Fld.BOOT_CNT.FS_SAT
  let s := s.fset Fld.BOOT_STS.LAST_REASON reason
  let s := (s.pushHist s.boot.kind reason (s.fget Fld.BOOT_STS.COPY_BOOTED) s.bootStage s.startMs).saveHist
  if s.fget Fld.BOOT_STS.FAILS < 3 then s.restart
  else if s.boot.kind = 1 && s.unsaved then
    ((s.fset Fld.BOOT_STS.BASIN_DEFERRED 1).modBoot (fun b => { b with loaded := none })).showCopies
  else s.enterBasin

/-! ## Stages 1 to 5 (Table 13-2) -/

/-- Stage 1: the ROM's self-tests. At a cold start an Elytra that fails its own is OUT (R159). -/
def State.stage1 (s : State) (o : StageObs) : State × Nat :=
  let a := o.elytraRomOk.getD 0 true
  let b := o.elytraRomOk.getD 1 true
  let cold := s.boot.kind != 1
  if !o.selfTestOk || (cold && !a && !b) then (s, 7)
  else if cold then
    let s := s.modBoot (fun x => { x with romVer := o.romUcode })
    let s := if a then s else s.elyOut 0 5
    (if b then s else s.elyOut 1 5, 0)
  else (s, 0)

/-- Stage 2 (R336): the four copies are checked. At a cold start that finds FAILS at 3 or more, Basin mode follows
(R341). -/
def State.stage2 (s : State) (o : StageObs) : State × Nat :=
  let found := o.portCopies.filter (fun e => s.boot.byPort.contains e.1 && e.1 < 4)
  let s := s.modBoot (fun b => { b with
    copies := found.foldl (fun m e => tabIns e.1 e.2 (tabDel e.1 m)) (b.copies.filter (fun e => !b.byPort.contains e.1))
    byPort := [] })
  let s := s.showCopies
  if !(s.boot.copies.any (fun e => imgValid e.2)) then (s, 1)
  else if s.goodCopies.isEmpty then (s, 2)
  else (s, 0)

/-- Both Elytra load the image's microcode at a cold start, or run their ROM's (R339). -/
def State.loadUcode (s : State) (img : Image) (ok : List Bool) : State :=
  let bad := [0, 1].filter (fun e => s.elyIn e && !(ok.getD e true))
  let from_ := img.ucodeSec && bad.isEmpty
  let s := if img.ucodeSec then bad.foldl (fun s e => s.fault (srcOf 84 7) 0x52 e) s else s
  let v := if from_ then img.ucodeVer else s.boot.romVer
  let s := ((s.fset Fld.BOOT_UCODE.RUN_VER v).fput Fld.BOOT_UCODE.FROM_IMAGE from_).fput Fld.BOOT_UCODE.LOAD_FAIL
    (img.ucodeSec && !bad.isEmpty)
  [0, 1].foldl (fun s e => s.fset (Fld.ELY_STS.UCODE_VER e) v) s

/-- Stage 3: HK_CODE is loaded from the best copy whose hash matches again as it loads. -/
def State.stage3 (s : State) (o : StageObs) : State × Nat :=
  match bestCopy (s.goodCopies.filter (fun e => !o.loadFail.contains e.1)) with
  | none => (s, 1)
  | some (k, img) =>
    let s := ((s.modBoot (fun b => { b with loaded := some img })).fset Fld.BOOT_STS.COPY_BOOTED k).showCopies
    (if s.boot.kind = 1 then s else s.loadUcode img o.ucodeLoadOk, 0)

/-- The bit address begins a field that the configuration region holds (R435): an RWB field or one of RNG_LD_CFG. -/
def cfgField (bit : Nat) : Bool :=
  isRwb bit || (decide (0x200000 ≤ bit / 8) && decide (bit / 8 < 0x400000) && bit / 8 % 0x10000 < 4)

/-- The bit address begins a field of the protection table (R233). -/
def protField (bit : Nat) : Bool := decide (0x150100 ≤ bit / 8) && decide (bit / 8 < 0x150198)

/-- The protection table and the password's digest as the configuration region holds them (R233, R234, R237); with no half in use
every flag is clear, every COUNT 0 and no password set. -/
def State.loadProt (s : State) (h : Option CfgHalf) : State :=
  let prot : List (Nat × Nat) := (h.map (fun (h : CfgHalf) => h.prot)).getD []
  let digest := h.bind (fun (h : CfgHalf) => h.digest)
  let s := { s with regs := prot.foldl (fun (m : List (Nat × Nat)) (e : Nat × Nat) => tabIns e.1 e.2 (tabDel e.1 m)) (s.regs.filter (fun e => !protField e.1)) }
  (s.modFlm (fun f => { f with password := digest })).fput Fld.FLM_PROT_STS.PW_SET digest.isSome

/-- The start reads the halves (R232): those whose CRCs fail, and which it may use. -/
def State.readHalves (s : State) (bad : List Nat) : State :=
  let mark : Nat × CfgHalf → Nat × CfgHalf := fun e =>
    let h := { e.2 with crcOk := e.2.crcOk && !bad.contains e.1 }
    (e.1, { h with live := h.usable })
  { s with cfgHalf := s.cfgHalf.map mark }

/-- The configuration region's values over the Reset column; PSQ_ fields it does not hold stay as R392 loaded them. -/
def State.loadCfg (s : State) (cfg : List (Nat × Nat)) : State :=
  let old := s.regs.filter (fun e => !cfgField e.1 || (0x1B0000 ≤ e.1 / 8 && e.1 / 8 < 0x1C0000))
  { s with regs := (cfg.filter (fun e => cfgField e.1)).foldl (fun m e => tabIns e.1 e.2 (tabDel e.1 m)) old }

/-- The places of the LDs as the configuration region gives them (R282): an LD it does not name is UNBOUND and has no extent. -/
def State.loadBinds (s : State) (h : Option CfgHalf) : State :=
  let binds := (h.map (fun (h : CfgHalf) => h.binds)).getD []
  allLds.foldl (fun s n =>
    let b := (binds.find? (fun b => b.ld == n)).getD (Binding.mk n false 0 0 0 0)
    if !b.bound && b.extSize == 0 && !s.bound n && (s.ld n).extSize == 0 then s
    else
      let s := s.modLd n (fun l => { l with
        port := b.port
        ldId := b.ldId
        extBase := b.extBase
        extSize := b.extSize })
      let s := s.setLdState n (if b.bound then .sealed else .unbound)
      let s := (s.fset (Fld.SLU_LD_BIND.PORT n) b.port).fset (Fld.SLU_LD_BIND.LD_ID n) b.ldId
      (s.fset (Fld.SLU_LD_BIND.EXT_SIZE n) b.extSize).fset (Fld.SLU_LD_BIND.EXT_BASE n) b.extBase) s

/-- DRAM map and geometry in force (R239). -/
def State.latchMap (s : State) : State :=
  let geo := fun (c : Nat) => s.fget (Fld.DRC_GEOM.RANKS c) + 4 * s.fget (Fld.DRC_GEOM.STACK c) +
    16 * s.fget (Fld.DRC_GEOM.X8 c) + 32 * s.fget (Fld.DRC_GEOM.D32 c) + 64 * s.fget (Fld.DRC_GEOM.RATE c)
  let trfc := fun (c : Nat) => s.fget (Fld.DRC_TIMING.TRFC_NS c)
  let g := s.fget Fld.DRC_MAP.GRAIN
  let h := s.on Fld.DRC_MAP.HASH_EN
  let s := { s with mapGrain := g, mapHash := h }
  (List.range 8).foldl (fun s c => s.modChan c (fun k => { k with geom := geo c, trfc := trfc c })) s

/-- Stage 4: configuration, learned records, cistern, colony time. Reason 4 when the region holds written halves and none
passes. -/
def State.stage4 (s : State) (o : StageObs) : State × Nat :=
  let s := s.readHalves o.halfBad
  let best := s.cfgBest
  if best.isNone && s.cfgHalf.any (fun e => e.2.written) then (s, 4)
  else
    let cfg := match best with
      | some h => h.fields
      | none => (s.boot.loaded.map (·.config)).getD []
    let s := ((((s.loadCfg cfg).loadProt best).loadBinds best).limAccepted s).reDesign
    if !o.cisternOk || allPacks.any (s.recsLost o.recBad) then (s, 5)
    else
      let s := (s.loadRecords o.recBad).swapAll
      (s.startTime.rolesCommitted, 0)

/-- Populated channels are 0 to n − 1 with n 1, 2, 4 or 8, all alike and with at most 512 GiB each (R238, Table 10-1); the answer is
log2 n. -/
def State.population (s : State) : Option Nat :=
  let pop := (List.range 8).filter (fun c => s.on (Fld.DRC_GEOM.POP c))
  let w := if pop.length = 8 then some 3 else if pop.length = 4 then some 2 else if pop.length = 2 then some 1
    else if pop.length = 1 then some 0 else none
  let alike := pop.all (fun c => s.fget (Fld.DRC_GEOM.RANKS c) == s.fget (Fld.DRC_GEOM.RANKS 0) &&
    s.fget (Fld.DRC_GEOM.STACK c) == s.fget (Fld.DRC_GEOM.STACK 0) &&
    s.fget (Fld.DRC_GEOM.X8 c) == s.fget (Fld.DRC_GEOM.X8 0) && s.fget (Fld.DRC_GEOM.D32 c) == s.fget (Fld.DRC_GEOM.D32 0) && s.fget (Fld.DRC_GEOM.RATE c) == s.fget (Fld.DRC_GEOM.RATE 0))
  let bytes := 2 * (if s.on (Fld.DRC_GEOM.X8 0) then 4 else 8) * (if s.on (Fld.DRC_GEOM.D32 0) then 2 ^ 32 else 2 ^ 31) *
    2 ^ (s.fget (Fld.DRC_GEOM.RANKS 0) + s.fget (Fld.DRC_GEOM.STACK 0))
  if pop == List.range pop.length && alike && decide (bytes ≤ 2 ^ 39) then w else none

/-- The flash as the parameter pages and status polls show it (R194 to R198): geometry, dies, channels, and the free bands: those
above the spare blocks of LOG_CFG and above every region that nothing holds. A retired die stays so (R216). -/
def State.flashFound (s : State) (o : StageObs) : State :=
  let p := o.tlcPages / 3
  let s := ((s.fset Fld.LOG_GEOM.DIE_SETS o.dieSets).fset Fld.LOG_GEOM.BLOCKS o.blocks).fset Fld.LOG_GEOM.TLC_PAGES o.tlcPages
  let s := (s.fset Fld.LOG_GEOM.PSLC_PAGES p).fset Fld.LOG_GEOM.SPARE_BYTES o.spareBytes
  let table := (s.boot.loaded.map (·.dieTable)).getD []
  let s := ((List.range 8).zip table).foldl (fun s e =>
    (((s.fset (Fld.LOG_RR_SET.OFS_3 e.1) (e.2 / 2 ^ 24)).fset (Fld.LOG_RR_SET.OFS_2 e.1) (e.2 / 2 ^ 16)).fset
      (Fld.LOG_RR_SET.OFS_1 e.1) (e.2 / 2 ^ 8)).fset (Fld.LOG_RR_SET.OFS_0 e.1) e.2) s
  let resv := s.fget Fld.LOG_CFG.RESV_MB
  let sp := s.fget Fld.LOG_CFG.SPARE_BLOCKS
  let s := s.modBoot (fun b => { b with resv := resv, spares := sp })
  let dies := (List.range 16).flatMap (fun c => (List.range o.dieSets).map (fun j => 32 * c + j))
  let s := dies.foldl (fun s ds =>
    let gone := s.log.dieCause.any (fun e => e.1 == ds)
    let s := s.fset (Fld.LOG_DIE_STS.STATE ds) (if s.log.dieDone.contains ds then 2 else if gone then 3 else 1)
    let new := o.bad.filter (fun k => k / 2 ^ 14 == ds && !s.log.bad.contains k)
    let s := s.modLog (fun l => { l with bad := new.foldl (fun m k => setIns k m) l.bad })
    let s := new.foldl (fun s k => s.remapBlock ds (k % 2 ^ 14)) s
    let s := s.fsat (Fld.LOG_DIE_STS.RETIRED ds) (s.log.retired.filter (fun k => k / 2 ^ 14 == ds)).length
    s.fset (Fld.LOG_DIE_STS.SPARES ds) (s.sparesLeft ds)) s
  let s := s.fset Fld.LOG_CH_STS.OUT_OF_SERVICE ((o.chOut.filter (· < 16)).foldl (fun m c => m ||| 2 ^ c) 0)
  let first := s.firstBand
  let taken := s.log.used ++ s.log.tlc ++ s.log.erasing.toList ++ s.log.remap.map (·.2)
  let free := ((List.range (o.blocks - first)).map (fun i => first + i)).filter (fun b => !taken.contains b)
  let s := s.modLog (fun l => { l with free := s.ringOrder free })
  let s := s.showCap
  (s.fset Fld.LOG_SEQ.NEXT_SEQ s.log.seq).showWindow

/-- Journal copies that program are in service, the others out (R378). -/
def State.jnlFound (s : State) (ok : List Bool) : State :=
  let up := fun (k : Nat) => ok.getD k true && s.dieIn (if k = 0 then 1 else 257) && s.chIn (8 * k)
  let s := s.fset Fld.JNL_STS.COPY_OK ((if up 0 then 1 else 0) + (if up 1 then 2 else 0))
  if up 0 || up 1 then (if s.fget Fld.JNL_STS.MODE == 2 then s.fset Fld.JNL_STS.MODE 0 else s)
  else (s.fset Fld.JNL_STS.MODE 2).fault (srcOf 82 6) 0x3F 0

/-- Stage 5: DRAM and flash. A device warm reset keeps both as they are. -/
def State.stage5 (s : State) (o : StageObs) : State × Nat :=
  if s.boot.kind = 1 then (s, 0)
  else
    match s.population with
    | none => (s, 3)
    | some w =>
      if !o.dramOk then (s, 3)
      else
        let s := (s.fset Fld.DRC_MAP.WAYS w).latchMap
        let s := (List.range 8).foldl (fun s c => s.dramPower c (decide (c < 2 ^ w))) s
        let s := (List.range (2 ^ w)).foldl (fun s c =>
          (s.fset (Fld.DRC_STS.STATE c) 2).settings c (List.range (s.chan c).logRanks)) s
        let s := s.latchReserve
        if s.boot.kind = 2 then (s, 0)
        else if !o.geometryOk || o.dieSets = 0 || 32 < o.dieSets || o.tlcPages < 3 || 2048 < o.tlcPages ||
            o.spareBytes < 1488 then (s, 4)
        else ((s.flashFound o).jnlFound o.jnlOk, 0)

/-! ## Stage 6: the generation (R173, R174) -/

/-- A SEAL record of a generation is known: in chrysalis memory, or written on a journal copy. -/
def State.sealRecord (s : State) (g : Nat) : Bool :=
  s.flt.sealCopies.any (fun r => r.gen == g) || s.flt.flashJnl.any (fun r => r.kind == 2 && r.gen == g && !r.sealedOn.isEmpty)

/-- The highest generation among the SEAL records older than `g` (R174). -/
def State.olderSeal (s : State) (g : Nat) : Nat :=
  let a := (s.flt.sealCopies.filter (fun r => decide (r.gen < g))).map (·.gen)
  let b := (s.flt.flashJnl.filter (fun r => r.kind == 2 && decide (r.gen < g) && !r.sealedOn.isEmpty)).map (·.gen)
  (a ++ b).foldl max 0

/-- GENERATION_SELECT (R173, R174, R191); the second part is the failure reason. -/
def State.stage6 (s : State) (o : StageObs) : State × Nat :=
  let g := s.spill.usedGen
  let kept := s.boot.kind = 2
  if !kept && !o.journalSeals && s.flt.sealCopies.isEmpty && s.log.written then (s, 4)
  else
    let img := match s.sealedImg with
      | some x => if x.gen == g && s.sealRecord g && !o.sealCopiesOk.isEmpty then some x else none
      | none => none
    let older := s.olderSeal g
    let noJnl := s.fget Fld.JNL_STS.COPY_OK == 0 && !(s.flt.sealCopies.any (fun r => decide (r.gen < g)))
    let reason := match img with
      | none => 1
      | some x => if !o.sealAgree then 2 else if !noJnl && x.prev != older then 3 else if !o.metaOk then 4 else 0
    let empty := !s.log.written || s.fab.sanitized
    let reason := if empty then 0 else reason
    let use := if reason = 0 && !empty then img else none
    let s := (s.fset Fld.RFL_STS.GEN_REASON reason).fput Fld.RFL_STS.CHAIN_UNCHECKED (img.isSome && noJnl)
    let s := s.fset Fld.RFL_GEN.GENERATION ((use.map (·.gen)).getD 0)
    let s := s.fset Fld.SPL_GEN.GENERATION (if img.isSome && reason == 0 then g else older)
    let s := match use with
      | some x => (s.fset Fld.SPL_LD.LD_IN_IMAGE x.inImage).fset Fld.SPL_LD.LD_COMPLETE x.complete
      | none => s
    let keys := o.keysFail
    (s.modBoot (fun b => { b with found := some (Found.mk use reason keys empty o.lostCkpts) }), 0)

/-! ## Stage 7: sources and records (R175 to R178, R190) -/

/-- Where an LD's pages come from (Table 07-1), with the REASON that shows. -/
inductive Src where
  | policy (reason : Nat)
  | image (code reason : Nat) (lost : List Nat) (raise : Bool)
  | ckpt (c : Ckpt) (code reason : Nat) (raise : Bool)
  | poisoned (reason : Nat)
  | hold (reason : Nat)
  deriving DecidableEq, Repr

/-- Checkpoints of an LD that the log holds as complete and unreleased at a start (R175, R206): their CKPT_RECORD is on flash and
can be read, or the image the start restores from lists them. -/
def State.heldCkpts (s : State) (f : Found) (n : Nat) : List Ckpt :=
  let listed := fun (no : Nat) => f.img.any (fun g => g.lds.any (fun x => x.ld == n &&
    x.ckpts.any (fun y => y.no == no && y.complete)))
  (s.ld n).done.filter (fun c => !f.lostCkpts.contains (n, c.id) && match c.recAddr with
    | none | some 0 => listed c.no
    | some k => (s.formAt k).kind == 6)

/-- The checkpoint a row names, by number, or the newest older one that the log holds, or none (R175). -/
def namedOr (l : List Ckpt) (no code reason : Nat) (raise : Bool) : Src :=
  match l.find? (fun c => c.no == no) with
  | some c => .ckpt c code reason raise
  | none =>
    match (l.filter (fun c => decide (c.no < no))).getLast? with
    | some c => .ckpt c 3 7 true
    | none => .poisoned 7

/-- The checkpoint that MODE CUT names by its cut beat (R176), else the LD is held. -/
def cutSource (l : List Ckpt) (v : Nat) : Src :=
  match l.find? (fun c => c.cutBeat % 2 ^ 48 == v) with
  | some c => .ckpt c 4 0 false
  | none => .hold 6

/-- The image at the cut as a source that the FM directs (R176), what the spill did not write POISONED. Of a CHECKPOINTED LD the
image is the checkpoint that its seal entry names (R28, log entry 100). -/
def State.imageAsked (s : State) (l : List Ckpt) (n v : Nat) (e : SealLd) : Src :=
  if s.cls n == 1 then
    match l.find? (fun c => c.no == e.newestNo) with
    | some c => .ckpt c 4 0 false
    | none => cutSource l v
  else .image 4 0 (if e.complete then [] else e.unwritten) false

/-- The image as the source of its own rows (Table 07-1). -/
def State.imageRow (s : State) (l : List Ckpt) (n : Nat) (e : SealLd) : Src :=
  if s.cls n == 1 then
    if e.newestNo = 0 then .policy 0 else namedOr l e.newestNo 2 0 false
  else if e.complete then .image 1 0 [] false
  else if e.newestNo ≠ 0 then namedOr l e.newestNo 3 5 true
  else .image 7 5 e.unwritten true

/-- The source of an LD (R175, R176, Table 07-1), read top to bottom. It is bound after the cut, or its key is absent because it was
sanitized, where that happened after the newest generation had taken its number. -/
def State.srcOfLd (s : State) (f : Found) (n : Nat) : Src :=
  let l := s.ld n
  let held := s.heldCkpts f n
  let e := f.img.bind (fun g => g.lds.find? (fun x => x.ld == n))
  let v := s.fget (Fld.RFL_LD_SRC.VALUE n)
  let g := s.spill.usedGen
  let late := decide (0 < g) && decide (g ≤ l.bindGen)
  if s.cls n == 2 then .policy 0
  else if late || (f.img.isSome && !(e.any (fun x => x.inImage))) then .policy 9
  else if l.saniGen.any (fun k => decide (g ≤ k)) then .policy 0
  else match s.fget (Fld.RFL_LD_SRC.MODE n), e with
    | 1, _ =>
      match held.reverse.find? (fun c => c.id == v % 2 ^ 32) with
      | some c => .ckpt c 4 0 false
      | none => .hold 7
    | 2, some e => if f.img.any (fun g => g.cut % 2 ^ 48 == v) then s.imageAsked held n v e else cutSource held v
    | 2, none => cutSource held v
    | _, some e => if f.keysFail.contains n then .poisoned 8 else s.imageRow held n e
    | _, none =>
      match held.getLast? with
      | some c => .ckpt c 3 f.reason true
      | none => .poisoned f.reason

/-- The record a source gives a page (R178): none for a page that is UNFILLED with LENGTH 0 as its LD's unlisted pages
are. -/
def srcRec (n dflt : Nat) (lost : List Nat) (p : Nat) (r : PageRec) : Option PageRec :=
  if r.st == .poisoned || lost.contains p then
    if dflt = 2 then none else some (PageRec.mk .poisoned n 0 r.loc r.len r.crc)
  else if r.len = 0 then if dflt = 2 then some (PageRec.mk .unfilled n 0 0 0 0) else none
  else some (PageRec.mk .unfilled n 0 r.loc r.len r.crc)

/-- Every page record of an LD is rebuilt from a source's records (R178). -/
def State.mapRecs (s : State) (n : Nat) (recs : List (Nat × PageRec)) (dflt : Nat) (lost : List Nat) : State :=
  let d := if dflt = 2 then 2 else 1
  let s := (s.clearPages n d).wipeExtent n false
  let new := recs.filterMap (fun e => (srcRec n d lost e.1 e.2).map (fun r => (e.1, r)))
  let s := new.foldl (fun s e => s.setPage e.1 e.2) s
  ((new.filter (fun e => e.2.st == .poisoned)).map (·.1)).foldl (fun s p => s.markPoisoned p) s

/-- The start policy at a start (R190, Table 07-5); the answer's second part is SOURCE. -/
def State.mapPolicy (s : State) (n : Nat) : State × Nat :=
  let bad := s.on (Fld.RFL_LD_CFG.START_POLICY n)
  let s := if s.cls n == 2 then (s.clearPages n 3).wipeExtent n bad
    else if bad then s.clearPages n 2
    else (s.clearPages n 1).wipeExtent n false
  (s, if bad then 6 else 5)

/-- MODE of RFL_LD_SRC goes back to NEWEST (R176), which ends the naming of R138; the configuration region is due to be written with
it (DESIGN CHOICE, log entry 100). -/
def State.unnameSource (s : State) (n : Nat) : State :=
  let t := s.now
  ({ s.fset (Fld.RFL_LD_SRC.MODE n) 0 with cfgDue := some (s.cfgDue.getD t) } : State).releaseOld n (s.ld n).newestNo

/-- The page records of an image: under its record index, or, where a META form of the image no longer stands in the log, as a scan of
the stripe headers finds them (R205). -/
def State.imageRecs (s : State) (g : Seal) : List (Nat × PageRec) :=
  if g.metas.all (fun k => (s.formAt k).kind == 4) then g.recs else s.scanRecs g.gen

/-- An LD's source is mapped: its records, RFL_LD_STS, and MODE back to NEWEST after a CHECKPOINT (R176); the second part
says that its dirty shutdown count rises, the third that it is held for want of its source. -/
def State.mapLd (s : State) (f : Found) (n : Nat) : State × Bool × Bool :=
  let src := s.srcOfLd f n
  let named := s.fget (Fld.RFL_LD_SRC.MODE n) == 1
  let show_ := fun (s : State) (code reason : Nat) =>
    (s.fset (Fld.RFL_LD_STS.SOURCE n) code).fset (Fld.RFL_LD_STS.REASON n) reason
  let recsOf := ((f.img.map s.imageRecs).getD []).filter (fun e => e.2.ld == n)
  let dfltOf := ((f.img.bind (fun g => g.lds.find? (fun x => x.ld == n))).map (fun x => x.dflt)).getD 0
  let r : State × Bool × Bool := match src with
    | .policy reason =>
      let x := s.mapPolicy n
      (show_ x.1 x.2 reason, false, false)
    | .image code reason lost raise => (show_ (s.mapRecs n recsOf dfltOf lost) code reason, raise, false)
    | .ckpt c code reason raise =>
      let s := show_ (s.mapRecs n c.recs c.dflt []) code reason
      (if named then s.unnameSource n else s, raise, false)
    | .poisoned reason => (show_ (s.clearPages n 2) 6 reason, true, false)
    | .hold reason => (show_ (s.clearPages n 1) 0 reason, false, true)
  let src := r.1.fget (Fld.RFL_LD_SRC.MODE n) * 2 ^ 48 + r.1.fget (Fld.RFL_LD_SRC.VALUE n)
  (r.1.modLd n (fun l => { l with owed := 0, mapSrc := src, fromStart := true }), r.2.1, r.2.2)

/-- The state an LD takes when the rebuild ends (R177, R180, R35). -/
def State.openLd (s : State) (n : Nat) (hold : Bool) : State :=
  let was := (s.ld n).prior
  let rest := decide (0 < s.unfilled n)
  let s := s.fput (Fld.RFL_LD_STS.HELD n) hold
  if hold then (s.modLd n (fun l => { l with held := true, returned := false, restoring := false })).setLdState n .quiesced
  else if was == .quiesced then (s.modLd n (fun l => { l with held := false, restoring := rest })).setLdState n .quiesced
  else (s.modLd n (fun l => { l with held := false, restoring := false })).setLdState n (if rest then .refilling else .serving)

/-- REFILL_SOURCE_SELECT and the map (R175 to R178), and the dirty shutdown counts (R39): every bound LD. The record index is the
image's, or what a scan of the stripe headers finds (R205); checkpoints that the log does not hold are no more. A log without
stripes leaves every page CLEAN with LENGTH 0 and the module enters SERVING, whatever GATE says (R191, log entry 100). -/
def State.mapAll (s : State) (f : Found) : State :=
  let s := allLds.foldl (fun s n => s.modLd n (fun l => { l with dscUp := false })) (s.modFab (fun x => { x with dscUp := false }))
  let idx := if f.empty then [] else match f.img with | some g => g.index | none => s.scanIndex
  let s := { s with recIdx := idx }
  let s := allLds.foldl (fun s n => let held := s.heldCkpts f n; s.modLd n (fun l => { l with
    ckpts := l.ckpts.filter (fun c => !c.complete || held.contains c) })) s
  let s := (allLds.filter (fun n => f.empty && !s.bound n)).foldl (fun s n => (s.clearPages n 0).wipeExtent n false) s
  let s := (allLds.filter s.bound).foldl (fun s n =>
    if f.empty then
      let s := if s.cls n == 2 then (s.mapPolicy n).1 else (s.clearPages n 0).wipeExtent n false
      s.openLd n false
    else
      let y := s.mapLd f n
      let s := if y.2.1 then y.1.noteLoss n else y.1
      s.openLd n (y.2.2 || s.on (Fld.RFL_LD_CFG.GATE n))) s
  allLds.foldl (fun s n => s.showCkpts n) s

/-! ## Rings after a start (Table 12-7, R326, R327) -/

/-- A restored image of a descriptor: one that must restart from its beginning waits again (R327). -/
def Acc.resumed (a : Acc) : Acc :=
  let op := a.desc.opcode.toNat
  if a.st == .running && op != 2 && op != 4 && op != 7 then
    { a with st := .waiting, pages := [], count := 0, resv := 0, since := none, waits := [], lines := [] }
  else a

/-- A resumed CHECKPOINT_AT of a ring (R327): SUCCESS when its checkpoint is complete, ABORTED_RESET when its boundary has
passed without that; one whose checkpoint is still pending waits for it. -/
def State.resumeCuts (s : State) (ld n : Nat) : State :=
  (s.ring ld n).accs.foldl (fun s a =>
    if a.st == .running && a.desc.opcode.toNat == 2 then
      match a.cut with
      | some t => if t ≤ s.curBeat then s.finish ld n a.order 8 0 0 else s
      | none =>
        match (s.ld ld).ckpts.find? (fun c => c.rings.contains (n, a.order)) with
        | some c => if c.complete then s.finish ld n a.order 0 (c.flagsFor a) c.id else s
        | none => s.finish ld n a.order 8 0 0
    else s) s

/-- Rings are DISABLED with the images that were saved (Table 12-7). -/
def State.ringsBack (s : State) (rings tags : List (Nat × Nat)) (imgs : List (Nat × Ring)) : State :=
  let f : Ring → Ring := fun r => { accs := r.accs.map Acc.resumed, lastTag := r.lastTag }
  let s := ({ s with rings := imgs.map (fun e => (e.1, f e.2)) } : State).ringsDisabled
  let s := tags.foldl (fun s e => s.fset (Fld.RNG_TAG.TAG_HIGH (e.1 / 256) (e.1 % 256)) e.2) s
  let s := rings.foldl (fun s e => s.fset (Fld.RNG_STS.LOST (e.1 / 256) (e.1 % 256)) 1) s
  let s := s.rings.foldl (fun s e => (s.disableRing (e.1 / 256) (e.1 % 256)).resumeCuts (e.1 / 256) (e.1 % 256)) s
  allLds.foldl (fun s n => s.showFlight n) (allLds.foldl (fun s n => s.modLd n (fun l => { l with resv := 0 })) s)

/-- Rings after DRAM was lost: the seal's, or lost with the generation. -/
def State.ringsMapped (s : State) (f : Found) : State :=
  match f.img with
  | some g => s.ringsBack [] g.tags g.rings
  | none =>
    let gone := (s.rings ++ s.spill.rings).map (fun e => (e.1, 0))
    (({ s with rings := [] } : State).ringsBack gone [] [])

/-! ## The end of a start -/

/-- A start has succeeded: REFILLING or SERVING (Table 02-7), FAILS cleared (R340), copies to repair found (R338). -/
def State.startDone (s : State) : State :=
  let s := (((s.fset Fld.BOOT_STS.FAILS 0).fset Fld.BOOT_STS.LAST_REASON 0).fset Fld.BOOT_STS.BASIN_DEFERRED 0).fset
    Fld.BOOT_STS.BASIN 0
  let s := ((s.fsat Fld.BOOT_STS.START_MS s.startMs).setStart 8).pushHist s.boot.kind 0 (s.fget Fld.BOOT_STS.COPY_BOOTED) 8
    s.startMs
  let s := [1, 2, 3, 4, 5, 13].foldl (fun s u => s.setUnit u 0) s
  let s := (List.range 8).foldl (fun s c => if s.fget (Fld.DRC_STS.STATE c) == 2 then s.setUnit (32 + c) 0 else s) s
  let s := (List.range 16).foldl (fun s c => if s.chIn c then s.setUnit (40 + c) 0 else s) s
  let b := s.curBeat
  let s := [0, 1].foldl (fun s e => s.modEly e (fun x => { x with lastBeat := b })) s
  let fix := [3, 2, 1, 0].filter (fun k => !s.copyCurrent k)
  let s := (s.modBoot (fun x => { x with repair := fix, retried := false })).fput Fld.BOOT_STS.REPAIR_ACTIVE (!fix.isEmpty)
  let more := allLds.any s.countsRefill
  let s := (s.setDev (if more then .refilling else .serving)).fset Fld.RFL_STS.PHASE (if more then 4 else 5)
  let s := allLds.foldl (fun s n => if s.bound n then s.recount n else s) s
  let s := (((s.passCuts).showUnfilled.showBound).writeCkptRecs).reportCuts
  ((forUpto 256 (fun _ s => trackerEntryFree 1 (trackerEntryFree 0 s)) s).tailAdvance.settle).showWeir

/-- Stage 7 ends: after a loss of DRAM every LD is mapped and every ring restored; after a device warm reset DRAM, records and
rings are as they were, the channels leave self-refresh and decoders stay uncommitted. -/
def State.stage7 (s : State) (mapUs : Nat) : State :=
  let s := s.fsat Fld.RFL_MAP.MAP_US mapUs
  if s.boot.kind = 1 then
    let s := (List.range 8).foldl (fun s c =>
      if s.populated c && s.fget (Fld.DRC_STS.STATE c) == 4 then s.leaveRefresh c else s) s
    (s.ringsBack [] [] s.rings).startDone
  else
    let f := s.boot.found.getD (Found.mk none 1 [] false [])
    let n := (f.img.map (fun g => g.stripes)).getD 0
    let s := ((s.fsat Fld.RFL_MAP.STRIPES_REPLAYED n).mapAll f).ckptsToWrite
    ((s.ringsMapped f).modFab (fun x => { x with sanitized := false })).startDone

/-- The sequencer runs a start: in TRAINING, unless BASIN is deferred. -/
def State.starting (s : State) : Bool := s.dev == .training && !s.on Fld.BOOT_STS.BASIN_DEFERRED

/-- START_STAGE_COMPLETE (R335): the running stage's checks are judged; the next stage begins or the start fails. -/
def startStageComplete (o : StageObs) (s : State) : State :=
  if !s.starting then s
  else
    let k := s.bootStage
    if k = 7 then s.stage7 o.mapUs
    else
      let r := if k = 1 then s.stage1 o else if k = 2 then s.stage2 o else if k = 3 then s.stage3 o
        else if k = 4 then s.stage4 o else if k = 5 then s.stage5 o else if k = 6 then s.stage6 o else (s, 0)
      if r.2 ≠ 0 then r.1.startFail r.2
      else if k = 2 && r.1.boot.kind != 1 && decide (3 ≤ r.1.fget Fld.BOOT_STS.FAILS) then r.1.enterBasin
      else r.1.setStart (nextStage r.1.boot.kind k)
def execStartStageComplete (dt : Nat) (obs : StageObs) (s : State) : Host.Outcome State Fault Refusal :=
  .next (startStageComplete obs (s.elapse dt))

/-- REBUILD_DONE (R180): the rebuild of stage 7 ends. -/
def rebuildDone (mapUs : Nat) (s : State) : State := if s.starting && s.bootStage == 7 then s.stage7 mapUs else s
def execRebuildDone (dt mapUs : Nat) (s : State) : Host.Outcome State Fault Refusal :=
  .next (rebuildDone mapUs (s.elapse dt))

/-! ## Device warm reset (R334, Table 02-2, Table 18-5) -/

/-- The registers a device warm reset returns to their Reset column: ring bases and RNG_CFG, and the counters of FAB_, SLU_
and RNG_. -/
def warmCleared (bit : Nat) : Bool :=
  allLds.any (fun n => ringBaseReg n bit) ||
  (((0x100000 ≤ bit / 8 && bit / 8 < 0x110000) || (0x200000 ≤ bit / 8 && bit / 8 < 0x400000)) &&
    (fieldsAt (bit / 32 * 4)).any (fun f => f.1.bit == bit && (f.2 == .rc || f.2 == .rslW1)))

/-- DEVICE_WARM_RESET (R334): the ports reset with every request they hold, rings are disabled with their accepted
descriptors kept, the buffers drain and DRAM waits in self-refresh; staging and transfer are dropped. -/
def State.warmReset (s : State) : State :=
  if !s.isOpen then s
  else
    let s := [0, 1].foldl (fun s p => (s.fset (Fld.FAB_PORT_STS.LINK_UP p) 0).reachAll p false) s
    let s := (allLds.filter s.bound).foldl (fun s n => s.ldForget n) (s.modFab (fun f => { f with gpf := [] }))
    let s := s.discard (fun _ => true)
    let s := (List.range 8).foldl (fun s c => if s.populated c then s.selfRefresh c else s) s.drainAll
    let dropQ : Ring → Ring := fun r => { r with
      fetched := []
      fetching := false
      waitRes := none
      notices := []
      outNotes := []
      keptSq := none
      keptCq := none
      shadowDue := false }
    let dropAll : Nat × Ring → Nat × Ring := fun e => (e.1, dropQ e.2)
    let warmMb : Nat × Mbx → Nat × Mbx := fun e => (e.1, { e.2 with policy := 0 })
    let s : State := { s with
      regs := s.regs.filter (fun e => !warmCleared e.1)
      rings := s.rings.map dropAll
      staged := []
      captured := []
      molt := none
      fab := { s.fab with bg := none, bgStep := 0 }
      mbx := s.mbx.map warmMb }
    let s := allLds.foldl (fun s n => s.modLd n (fun l => { l with quiesce := none, resetting := false })) s
    let s := s.ringsDisabled.blockReset (fun o => !inVaon o)
    let s := (s.closeSession.fset Fld.FLM_STS.STATE 0).fset Fld.BOOT_STS.MOLT_ACTIVE 0
    let open_ := s.boot.xfer.isSome
    let s := if open_ then s.fset Fld.BOOT_XFER.STATE 6 else s
    let b := s.curBeat
    let s := s.modBoot (fun x => { x with xfer := none, loaded := none, outBeat := b })
    (s.modFlt (fun f => { f with warmAtT := false })).beginStart 1
def execDeviceWarmReset (dt : Nat) (s : State) : Host.Outcome State Fault Refusal := .next (s.elapse dt).warmReset

/-- WATCHDOG_EXPIRY (R342): it fails a start; in service it is recorded and resets the device. -/
def watchdogExpiry (s : State) : State :=
  if s.starting then (s.fault (srcOf 1 4) 0x20 0).startFail 6
  else if s.isOpen then
    ((s.fault (srcOf 1 4) 0x20 0).pushHist 1 6 (s.fget Fld.BOOT_STS.COPY_BOOTED) 8 0).warmReset
  else s
def execWatchdogExpiry (dt : Nat) (s : State) : Host.Outcome State Fault Refusal := .next (watchdogExpiry (s.elapse dt))

/-- START_TIMEOUT (R342). -/
def startTimeout (s : State) : State :=
  if s.starting && decide (s.boot.startAt + 1000000000 * s.fget Fld.BOOT_CFG.START_TIMEOUT_S ≤ s.now) then s.startFail 6 else s
def execStartTimeout (dt : Nat) (s : State) : Host.Outcome State Fault Refusal := .next (startTimeout (s.elapse dt))

/-- A cold start out of BASIN (R345): FAILS cleared, lockout and session gone with it. -/
def State.leaveBasin (s : State) (kind : Nat) : State := (s.fset Fld.BOOT_STS.FAILS 0).coldStart kind

/-- RETRY (R341, R345): out of BASIN by a cold start, or one more attempt of the failed kind where BASIN is deferred. -/
def retryStart (s : State) : State :=
  if s.dev == .basin then s.leaveBasin 3
  else if s.dev == .training && s.on Fld.BOOT_STS.BASIN_DEFERRED then
    ((s.fset Fld.BOOT_STS.FAILS 0).fset Fld.BOOT_STS.BASIN_DEFERRED 0).beginStart s.boot.kind
  else s
def execRetry (dt : Nat) (s : State) : Host.Outcome State Fault Refusal := .next (retryStart (s.elapse dt))

/-- BOOT_COPY_REPAIR_DONE (R338): the copy being rewritten is checked; a failure is retried once, then reported. -/
def bootCopyRepairDone (copy : Nat) (ok : Bool) (s : State) : State :=
  match s.boot.repair, s.boot.loaded with
  | k :: rest, some img =>
    if k != copy || !s.isOpen then s
    else
      let next := fun (s : State) =>
        ((s.modBoot (fun b => { b with repair := rest, retried := false })).fput Fld.BOOT_STS.REPAIR_ACTIVE
          (!rest.isEmpty)).showCopies
      if ok then next (s.putCopy k img)
      else if s.boot.retried then
        next ((s.modBoot (fun b => { b with copies := tabDel k b.copies })).fault (srcOf 84 7) 0x51 k)
      else s.modBoot (fun b => { b with retried := true, copies := tabDel k b.copies })
  | _, _ => s
def execBootCopyRepairDone (dt copy : Nat) (ok : Bool) (s : State) : Host.Outcome State Fault Refusal :=
  .next (bootCopyRepairDone copy ok (s.elapse dt))

/-! ## LD_GO (R177) -/

/-- LD_GO: a held LD is mapped again when RFL_LD_SRC names another source than its mapping used or none was found, and
returns to service. -/
def ldGo (n : Nat) (s : State) : State :=
  let l := s.ld n
  if decide (n < 32) && s.isOpen && l.st == .quiesced && l.held then
    let now_ := s.fget (Fld.RFL_LD_SRC.MODE n) * 2 ^ 48 + s.fget (Fld.RFL_LD_SRC.VALUE n)
    let f := s.boot.found.getD (Found.mk none 1 [] false [])
    let r : State × Bool × Bool := if now_ == l.mapSrc && s.fget (Fld.RFL_LD_STS.SOURCE n) != 0 then (s, false, false)
      else (s.dropWork n).mapLd f n
    let t := if r.2.1 then r.1.noteLoss n else r.1
    if r.2.2 then t.showUnfilled
    else
      let s := t.modLd n (fun l => { l with held := false, returned := true })
      let s := (s.fset (Fld.RFL_LD_STS.HELD n) 0).setLdState n .refilling
      (((s.showUnfilled).refill).checkFilled).showWeir
  else s
def execLdGo (dt ld : Nat) (s : State) : Host.Outcome State Fault Refusal := .next (ldGo ld (s.elapse dt))

/-! ## Leaving SEALED (R169) -/

/-- SEALED_RETURN_DECISION (R169): with the input good, a dry return, or a restart that retrains DRAM and discards what was
held since T (R35). Once a power-down runs it runs to its end (R384, log entry 94), and so does a hold-up (R391). -/
def sealedReturnDecision (s : State) : State :=
  if s.dev == .sealed && s.on Fld.PSQ_STS.INPUT_GOOD && s.seqSt != 3 && s.seqSt != 4 then
    if s.on Fld.SPL_STATE.DRAM_UV then
      let s := s.discard (fun _ => true)
      let done : Nat × Ld → Nat × Ld := fun e => (e.1, { e.2 with ckpts := e.2.ckpts.filter (fun c => c.complete) })
      let s : State := { s.dramLost with lds := s.lds.map done }
      (s.advanceRoles.leaveSealed).beginStart 2
    else s.dryReturn
  else s
def execSealedReturnDecision (s : State) : Host.Outcome State Fault Refusal := .next (sealedReturnDecision s)

end Sys2Proof.Machine
end

