-- ==== Sys2Proof/Machine/Faults.lean ====
section
/-! DEFINITION. The fault collector and the journal (chapter 14; R207, R449): messages and their intake, reactions, isolation
and recovery, tests in service, and the writing of journal records. -/

namespace Sys2Proof.Machine

/-! ## Messages (R354 to R357) -/

/-- The kinds of Table 14-4 with the checker class each is sent in. -/
def faultKinds : List (Nat × Nat) := [(0x01, 0), (0x02, 1), (0x03, 1), (0x04, 2), (0x05, 2), (0x06, 2), (0x07, 2), (0x08, 2),
  (0x09, 2), (0x10, 3), (0x11, 3), (0x12, 3), (0x20, 4), (0x21, 4), (0x22, 4), (0x23, 4), (0x24, 4), (0x25, 4), (0x30, 5),
  (0x31, 5), (0x38, 6), (0x39, 6), (0x3A, 6), (0x3B, 6), (0x3C, 6), (0x3D, 6), (0x3E, 6), (0x3F, 6)] ++
  (List.range 21).map (fun i => (0x40 + i, 7))

/-- The kinds whose condition is reported again, with CLEARED, when it ends. -/
def clearKinds : List Nat := [0x40, 0x45, 0x4C, 0x54]

/-- The units a kind comes from, where R356 names them: the flash channel of the die, or the spillway log. -/
def kindUnit (kind u : Nat) : Bool :=
  if [0x24, 0x25, 0x31, 0x3A, 0x3C, 0x3D].contains kind then decide (40 ≤ u) && decide (u ≤ 55)
  else if [0x4D, 0x4E, 0x4F].contains kind then u == 83
  else true
/-- A source sends the kind (R356): a code of Table 14-4, in its class, from its unit. -/
def maySend (src kind : Nat) : Bool := faultKinds.contains (kind, src % 8) && kindUnit kind (src / 8)

/-- The 64-bit message (Table 14-1). -/
def FMsg.word (m : FMsg) : Nat :=
  m.source % 2 ^ 10 * 2 ^ 54 + m.kind % 256 * 2 ^ 46 + m.address % 2 ^ 40 * 64 + m.spilling.toNat * 4 + m.injected.toNat * 2 +
    m.cleared.toNat

/-- FAULT_MESSAGE (R357): a checker of a source and class that sends the kind (R356). INJECTED needs an armed injection that
reaches the checker (R369). -/
def faultMessage (src kind addr : Nat) (injected cleared : Bool) (s : State) : State :=
  if !maySend src kind || (cleared && !clearKinds.contains kind) then s
  else if injected && !cleared && s.injects src addr then
    (s.fset Fld.FLT_INJ_STS.LEFT (s.fget Fld.FLT_INJ_STS.LEFT - 1)).sendMsg src kind addr false true
  else s.sendMsg src kind addr cleared false
def execFaultMessage (dt source kind address : Nat) (injected cleared : Bool) (s : State) : Host.Outcome State Fault Refusal :=
  .next (faultMessage source kind address injected cleared (s.elapse dt))

/-- DIE_TEMP_HIGH (R449): one of the 12 die sensors passes 125 °C, or is back below. -/
def dieTempHigh (i : Nat) (c : Int) (s : State) : State :=
  if 11 < i then s
  else if 125 < c then
    if s.flt.hot.contains i then s
    else (s.modFlt (fun f => { f with hot := setIns i f.hot })).fault (srcOf 87 7) 0x54 i
  else if s.flt.hot.contains i && decide (c < 125) then
    (s.modFlt (fun f => { f with hot := setDel i f.hot })).fault (srcOf 87 7) 0x54 i true
  else s
def execDieTempHigh (dt sensor : Nat) (tempC : Int) (s : State) : Host.Outcome State Fault Refusal :=
  .next (dieTempHigh sensor tempC (s.elapse dt))

/-! ## Intake (R358, R362, R363) -/

/-- Severity of a source (R360). -/
def State.severity (s : State) (src : Nat) : Nat := s.fget (Fld.FLT_SRC_CFG.SEVERITY src)

/-- FIRST_FAULT_LATCH (R362): the second part says that the message was latched. -/
def State.latch (s : State) (m : FMsg) (sev : Nat) : State × Bool :=
  if m.cleared || decide (sev < s.fget Fld.FLT_CFG.LATCH_MIN) then (s, false)
  else if s.on Fld.FLT_FIRST_INFO.VALID then
    ((s.fset Fld.FLT_FIRST_INFO.OVERFLOW 1).bump (Fld.FLT_SRC_CNT.AFTER_FIRST m.source) (Fld.FLT_SRC_CNT.AF_SAT m.source), false)
  else
    let s := ((s.fset Fld.FLT_FIRST.MESSAGE m.word).fset Fld.FLT_FIRST_INFO.VALID 1).fset Fld.FLT_FIRST_INFO.SEVERITY sev
    (s.fset Fld.FLT_FIRST_INFO.BEAT s.curBeat, true)

/-- Source of the latched message. -/
def State.latchedSrc (s : State) : Nat := s.fget Fld.FLT_FIRST.MESSAGE / 2 ^ 54

/-- TRANSIENT is set while the latch holds (R363). -/
def State.setTransient (s : State) (p : Nat → Bool) : State :=
  if s.on Fld.FLT_FIRST_INFO.VALID && p s.latchedSrc then s.fset Fld.FLT_FIRST_INFO.TRANSIENT 1 else s

/-- QUEUE of FLT_STS. -/
def State.showQueue (s : State) : State := s.fset Fld.FLT_STS.QUEUE s.flt.queue.length

/-- A message that passed mask and latch enters the queue, or is counted (R358, steps 3 and 4). -/
def State.enqueue (s : State) (m : FMsg) (sev : Nat) (latched : Bool) : State :=
  let b := s.curBeat
  let seen := if s.flt.seenBeat == b then s.flt.seen else []
  let key := (m.source, m.kind, m.cleared)
  if seen.contains key || decide (128 ≤ s.flt.queue.length) then s.countLost m.source
  else
    let q := QMsg.mk m sev b s.colTime latched
    (s.modFlt (fun f => { f with seen := key :: seen, seenBeat := b, queue := f.queue ++ [q] })).showQueue

/-- The source whose turn it is: the next full holding register after that of the last message, round the sources (R357). -/
def State.intakeNext (s : State) : Option Nat :=
  match s.flt.hold.find? (fun e => decide (s.flt.lastSrc < e.1)) with
  | some e => some e.1
  | none => s.flt.hold.head?.map (·.1)

/-- FAULT_INTAKE (R357, R358): the holding register of a source is taken in, when its turn is. The collector's logic runs while the
device has core power, which it has not in OFF (chapter 14, R403). -/
def faultIntake (src : Nat) (s : State) : State :=
  match s.flt.hold.find? (fun e => e.1 == src && s.intakeNext == some src && s.dev != .off) with
  | none => s
  | some e =>
    let m := e.2
    let s := s.modFlt (fun f => { f with hold := tabDel src f.hold, lastSrc := src })
    if s.on (Fld.FLT_SRC_CFG.MASK src) then s.countLost src
    else
      let sev := s.severity src
      let r := s.latch m sev
      let s := r.1.wrap Fld.FLT_TOTAL.MESSAGES Fld.FLT_TOTAL.OVF
      let s := if m.cleared then s.setTransient (fun x => x == src) else s
      let t := s.now
      let s := if 3 ≤ sev then
          (s.modFlt (fun f => { f with quietFrom := tabIns (src / 8) (t + 1) (tabDel (src / 8) f.quietFrom) })).fset
            (Fld.FLT_UNIT_STS.QUIET_LEFT (src / 8)) (s.fget Fld.FLT_CFG.QUIET_MS)
        else s
      s.enqueue m sev r.2
def execFaultIntake (dt source : Nat) (s : State) : Host.Outcome State Fault Refusal :=
  .next (faultIntake source (s.elapse dt))

/-- LATCH_CLEAR (R362). -/
def latchClear (s : State) : State :=
  ((s.fset Fld.FLT_FIRST_INFO.VALID 0).fset Fld.FLT_FIRST_INFO.OVERFLOW 0).fset Fld.FLT_FIRST_INFO.TRANSIENT 0
def execLatchClear (dt : Nat) (s : State) : Host.Outcome State Fault Refusal := .next ((s.elapse dt).viaReg 0x1D0018 latchClear)

/-! ## The journal (R207, R372 to R378) -/

/-- Direct mode (R376). -/
def State.jnlDirect (s : State) : Bool := s.fget Fld.JNL_STS.MODE == 1
/-- Journaling has stopped (R378). -/
def State.jnlStopped (s : State) : Bool := s.fget Fld.JNL_STS.MODE == 2
/-- The journal can take a fault record: a slot beside the 8 kept for kinds 0x0001 to 0x0007, or the free record register
(R359, R372, R376). -/
def State.jnlRoom (s : State) : Bool :=
  if s.jnlDirect then s.flt.staging.isEmpty else decide (s.flt.staging.length < 56)

/-- A record in staging changes. -/
def State.modRec (s : State) (seq : Nat) (f : JRec → JRec) : State :=
  s.modFlt (fun x => { x with staging := x.staging.map (fun r => if r.seq == seq then f r else r) })

/-- A record stands on the ring as `r`: one more, or in place of what stood there of it. -/
def State.jnlOnFlash (s : State) (r : JRec) : State :=
  let l := s.flt.flashJnl
  let l := if l.any (fun x => x.seq == r.seq) then l.map (fun x => if x.seq == r.seq then r else x) else l ++ [r]
  s.modFlt (fun f => { f with flashJnl := l })

/-- JOURNAL_RECORD_PROGRAMMED (R207): the first program of the copy's record ends; its seal word follows. A failure retires the
block and the record is programmed again (R215, R377). -/
def journalRecordProgrammed (seq copy : Nat) (st : MediaStatus) (s : State) : State :=
  match s.jnlNext copy with
  | none => s
  | some r =>
    if r.seq != seq || !s.jnlWrites copy || r.progOn.contains copy then s
    else if st == .ok then
      let r := { r with st := .sealing, progOn := setIns copy r.progOn }
      (s.modRec seq (fun _ => r)).jnlOnFlash r
    else
      let blk := s.goodBlock (jnlDs copy) (if s.jnlBlock = 0 then 0 else seq / s.jnlBlock % s.jnlBlocks)
      let pg := if s.jnlBlock = 0 then 0 else seq % s.jnlBlock
      let at_ := jnlDs copy * 2 ^ 25 + blk * 2 ^ 11
      let s := s.bump Fld.LOG_ERR_CNT.PROGRAM_FAIL Fld.LOG_ERR_CNT.PF_SAT
      match st with
      | .timeout => (s.fault (srcOf (40 + jnlDs copy / 32) 4) 0x24 at_).retireBlock (jnlDs copy) blk 4
      | _ => (s.fault (srcOf (40 + jnlDs copy / 32) 6) 0x3C (at_ + pg)).retireBlock (jnlDs copy) blk 1
def execJournalRecordProgrammed (dt seq copy : Nat) (status : MediaStatus) (s : State) : Host.Outcome State Fault Refusal :=
  .next (journalRecordProgrammed seq copy status (s.elapse dt))

/-- The record of a kind that counts as written for each of the `n` highest generations, in its newest copy (R375). -/
def newestRecs (l : List JRec) (kind n : Nat) : List JRec :=
  let mine := l.filter (fun r => r.kind == kind && !r.sealedOn.isEmpty)
  let gens := (sortBy (fun g => 2 ^ 64 - g) (mine.map (·.gen)).dedup).take n
  gens.filterMap (fun g => (mine.filter (fun r => r.gen == g)).foldl (fun b r => match b with
    | none => some r
    | some (x : JRec) => if x.seq < r.seq then some r else some x) none)

/-- JOURNAL_SEAL_REWRITE (R375, R207): the block ahead of the ring is erased once the ring's block is full, so that the 4,096 newest
records stay readable; before that, from the ring's first record in its block on, those of the two newest SEAL records and the
newest SPILL_OPEN record that lie in the block ahead are written again at the head. -/
def State.jnlAdvance (s : State) : State :=
  let p := s.jnlBlock
  let top := ((s.flt.flashJnl.filter (fun r => !r.sealedOn.isEmpty)).map (·.seq)).foldl max 0
  if p = 0 then s
  else
    let keep := newestRecs s.flt.flashJnl 2 2 ++ newestRecs s.flt.flashJnl 1 1
    let ahead := (top / p + 2 - s.jnlBlocks) * p
    let full := ((top + 1) / p + 1 - s.jnlBlocks) * p
    let due := keep.filter (fun r => decide (r.seq < ahead) &&
      !(s.flt.staging.any (fun x => x.kind == r.kind && x.gen == r.gen)))
    let s := due.foldl (fun s r => s.journalAt r.beat r.kind r.gen r.payload) s
    if keep.any (fun r => decide (r.seq < full)) then s
    else
      let gone := (((s.flt.flashJnl.filter (fun r => decide (r.seq < full))).map (fun r => r.seq / p % s.jnlBlocks)).dedup).flatMap
        (fun b => [0, 1].map (fun c => blockKey (jnlDs c) (s.goodBlock (jnlDs c) b)))
      (s.modFlt (fun f => { f with flashJnl := f.flashJnl.filter (fun r => decide (full ≤ r.seq)) })).wordsErased gone

/-- The summary goes to the journal when it can take it (R374). -/
def State.stormHand (s : State) : State :=
  match s.flt.summary with
  | some x =>
    if !s.jnlRoom || s.jnlStopped then s
    else
      let l := (sortBy (fun e => 2 ^ 32 - e.2) x.counts).take 24
      let list := (l.zip (List.range 24)).flatMap (fun e => [(0x38 + 8 * e.2, e.1.1), (0x3C + 8 * e.2, e.1.2)])
      let s := s.journal 0x101 s.newestGen
        ([(0x20, x.first), (0x28, x.last), (0x30, sumNat (x.counts.map (·.2))), (0x34, l.length)] ++ list)
      ((s.bump Fld.JNL_CNT.SUMMARIES Fld.JNL_CNT.SM_SAT).modFlt (fun f => { f with summary := none })).fset
        Fld.JNL_STS.SUMMARY_OPEN 0
  | none => s

/-- At a beat boundary the counts of the beat just ended enter the open summary (R374), and STORM shows whether there were any. -/
def State.stormBeat (s : State) : State :=
  let l := s.flt.lostBeat
  let b := s.curBeat - 1
  let s := s.fput Fld.FLT_STS.STORM (!l.isEmpty)
  if l.isEmpty then s.stormHand
  else
    let x := s.flt.summary.getD (StormSum.mk b b [])
    let add := l.foldl (fun m e => tabSet 0 e.1 (tabGet 0 e.1 m + e.2) m) x.counts
    ((s.modFlt (fun f => { f with lostBeat := [], summary := some (StormSum.mk x.first b add) })).fset
      Fld.JNL_STS.SUMMARY_OPEN 1).stormHand

/-- JOURNAL_SEAL_PROGRAMMED (R207, R372): the record counts as written; its slot frees with the last copy in service. -/
def journalSealProgrammed (seq copy : Nat) (s : State) : State :=
  match s.flt.staging.find? (fun r => r.seq == seq && r.progOn.contains copy && !r.sealedOn.contains copy) with
  | none => s
  | some r =>
    if !s.jnlWrites copy then s
    else
      let r := { r with st := .sealed, sealedOn := setIns copy r.sealedOn }
      ((((s.modRec seq (fun _ => r)).jnlOnFlash r).jnlAdvance).jnlFree.stormHand).releaseDie (jnlDs copy)
def execJournalSealProgrammed (dt seq copy : Nat) (s : State) : Host.Outcome State Fault Refusal :=
  .next (journalSealProgrammed seq copy (s.elapse dt))

/-- JOURNAL_DIRECT_MODE (R376): STAGING_FAILED first, then the SPILL_OPEN and SEAL records that staging held unwritten; the
others it held are lost. -/
def State.directMode (s : State) (msg : Nat) : State :=
  if s.jnlDirect then s
  else
    let lost := s.flt.staging.filter (fun r => r.sealedOn.isEmpty)
    let again := lost.filter (fun r => r.kind == 1 || r.kind == 2)
    let gone := lost.length - again.length
    let s := if gone = 0 then s else s.bump Fld.JNL_CNT.DROPPED Fld.JNL_CNT.DR_SAT gone
    let s := s.modFlt (fun f => { f with staging := [] })
    let s := (if s.jnlStopped then s else s.fset Fld.JNL_STS.MODE 1).showJnl
    let s := s.journal 0x103 s.newestGen [(0x20, lost.length), (0x21, again.length), (0x28, msg)]
    again.foldl (fun s r => s.journalAt r.beat r.kind r.gen r.payload) s

/-! ## Isolation (R364, Table 14-6) -/

/-- Clusters not isolated. -/
def State.clustersLeft (s : State) : Nat :=
  ((List.range 16).filter (fun k => s.fget (Fld.SCB_CL_STS.STATE k) != 2)).length

/-- How an isolation reaction ended. -/
inductive Iso where
  | none      -- not isolable, or already isolated
  | taken
  | refused
  | reset     -- a device warm reset isolates the unit
  deriving DecidableEq, Repr

/-- Units that isolation may reach while SPILLING (R361); staging that fails then still goes to direct mode (Table 14-10). -/
def isoInSpill (u : Nat) : Bool := u == 6 || u == 7 || (40 ≤ u && u ≤ 71) || u == 81

/-- The isolation of a unit is decided. -/
def State.isoCheck (s : State) (u : Nat) : Iso :=
  let resets := (decide (1 ≤ u) && decide (u ≤ 5)) || u == 13
  let known := (6 ≤ u && u ≤ 7) || (9 ≤ u && u ≤ 12) || (16 ≤ u && u ≤ 75) || u == 81
  if resets then .reset
  else if !known || s.unitSt u == 1 || s.unitSt u == 2 then .none
  else if s.dev == .spilling && !isoInSpill u then .refused
  else if u ≤ 7 then
    (if !s.elyIn (u - 6) || (s.ely (u - 6)).fencing then .none else if s.elyIn (7 - u) then .taken else .refused)
  else if 40 ≤ u && u ≤ 55 then
    (if !s.chIn (u - 40) then .none else if s.channelMayLeave (u - 40) then .taken else .refused)
  else if 56 ≤ u && u ≤ 71 then (if s.clustersLeft ≤ 6 then .refused else .taken)
  else .taken

/-- A channel freezes by a fault reaction; what its freeze record would say of failed replays is open. -/
def State.freezeByFault (s : State) (c : Nat) : State :=
  if s.chanStopped c then s.setUnit (32 + c) 2
  else
    let k := s.freeCtr
    let v := (Config.frzInfo k).toNat
    ({ s with freeCtr := k + 1 } : State).freeze c (v / 16 % 2) (v % 16) (v / 32)

/-- UNIT_ISOLATION (R364): what Table 14-6 states for a unit; `kind` and `msg` are of the message that led to it. -/
def State.isolate (s : State) (u kind msg : Nat) : State :=
  if u ≤ 7 then s.elyOut (u - 6) (if kind = 0x23 then 1 else 2)
  else if u ≤ 12 then (s.setUnit u 2).linkDown ((u - 9) % 2)
  else if u ≤ 31 then s.setUnit u 1
  else if u ≤ 39 then s.freezeByFault (u - 32)
  else if u ≤ 55 then channelOut (u - 40) (s.setUnit u 1)
  else if u ≤ 71 then
    ((s.hwDom (u + 4) 2 true).fset (Fld.SCB_CL_STS.STATE (u - 56)) 2).setUnit u 2
  else if u ≤ 75 then s.isolatePort (u - 72)
  else ((s.directMode msg).hwDom 93 2 true).setUnit u 2

/-- A cache bank is isolated: its domain is off (Table 14-6). -/
def State.bankOff (s : State) (u : Nat) : State := (s.hwDom (60 + u) 2 true).setUnit u 2
/-- ISOLATION_COMPLETE (R365): a cache bank's readable records are written back and its domain goes off. The records of `lost` pages
failed ECC on the way: they are lost records of the reserve (R364, R264). -/
def isolationComplete (u : Nat) (lost : List Nat) (s : State) : State :=
  if s.unitSt u == 1 && decide (16 ≤ u) && decide (u ≤ 31) then
    (lost.foldl (fun s p => s.recordGone p) s).bankOff u
  else s
def execIsolationComplete (dt : Nat) (unit : BankDone) (s : State) : Host.Outcome State Fault Refusal :=
  .next (isolationComplete unit.unit unit.lost (s.elapse dt))

/-! ## Reactions (R360, R361, R371) -/

/-- The KIND of a DRAM line report, posted as a DRAM Event Record (R371). -/
def dramKind (k : Nat) : Bool := k == 0x30 || k == 0x38 || k == 0x39

/-- EVENT_RECORD_POST (R371): the log is one less than EVENT. -/
def State.postFault (s : State) (q : QMsg) (event reactions jseq : Nat) : State :=
  if event = 0 then s
  else if dramKind q.msg.kind then
    let line := q.msg.address % 2 ^ 36
    let c := s.cellOf line
    let w := [line * 64, c.rank, c.bg, c.ba, c.row, c.col]
    let s := s.postEvent fmLd (event - 1) 1 w
    match s.ldOfPage (line / 64) with
    | some n => s.postEvent n (event - 1) 1 w
    | none => s
  else s.postEvent fmLd (event - 1) 0 [q.msg.word, q.sev, reactions, s.dev.code, s.fget (Fld.FLT_SRC_CNT.LOST q.msg.source),
    q.beat, jseq]

/-- The FAULT record (Table 14-8). -/
def State.faultRecord (s : State) (q : QMsg) (reactions : Nat) : State :=
  s.journalAt q.beat 0x100 s.newestGen [(0x20, q.msg.word), (0x28, q.sev), (0x29, reactions), (0x2A, s.dev.code),
    (0x2B, q.latched.toNat), (0x2C, s.fget (Fld.FLT_SRC_CNT.LOST q.msg.source)), (0x30, q.time)]

/-- States in which no plunge or warm reset is taken (R361). -/
def State.limited (s : State) : Bool := s.isCut || s.dev == .training || s.dev == .basin || s.dev == .off

/-- FAULT_WARM_RESET (R361): at once, or at the first boundary after the window's T when the message also plunged. -/
def State.faultReset (s : State) (plunged : Bool) : State :=
  if plunged then s.modFlt (fun f => { f with warmAtT := true }) else s.warmReset

/-- FAULT_REACTION (R359 to R361): the head of the queue takes the reactions of its severity, once the journal can take its
record, with core power (chapter 14, R403). -/
def faultReaction (s : State) : State :=
  match s.flt.queue with
  | [] => s
  | q :: rest =>
    let v := q.sev
    let staging := q.msg.source == srcOf 81 1
    let jnl := s.on (Fld.FLT_REACT.JOURNAL v)
    if s.dev == .off || (jnl && !s.jnlRoom && !s.jnlStopped && !(staging && !s.jnlDirect)) then s
    else
      let s := (s.modFlt (fun f => { f with queue := rest })).showQueue
      let severe := !q.msg.cleared && !q.msg.injected
      let u := q.msg.source / 8
      let iso := if severe && s.on (Fld.FLT_REACT.ISOLATE v) then s.isoCheck u
        else if severe && staging then s.isoCheck 81 else .none
      let wantP := severe && s.on (Fld.FLT_REACT.PLUNGE v)
      let wantR := severe && (s.on (Fld.FLT_REACT.RESET v) || iso == .reset)
      let p := wantP && !s.limited
      let r := wantR && !s.limited
      let refused := iso == .refused || (wantP && s.limited) || (wantR && s.limited)
      let irq := s.on (Fld.FLT_REACT.IRQ v)
      let taken := iso == .taken || (iso == .reset && r)
      let noIso := iso == .refused || (iso == .reset && !r)
      let has := jnl && !s.jnlStopped && q.msg.kind != 0x3F
      let bits := has.toNat + 2 * irq.toNat + 4 * taken.toNat + 8 * noIso.toNat + 16 * p.toNat + 32 * r.toNat
      let s := if staging && iso == .taken then s.isolate 81 q.msg.kind q.msg.word else s
      let jseq := if has then s.fget Fld.JNL_SEQ.NEXT_SEQ else 2 ^ 64 - 1
      let s := if jnl && q.msg.kind != 0x3F then s.faultRecord q bits else s
      let s := s.postFault q (s.fget (Fld.FLT_REACT.EVENT v)) bits jseq
      let s := if irq then s.emit (.msix fmLd (eventVector fmLd)) else s
      let s := if refused then s.fset Fld.FLT_STS.REFUSED 1 else s
      let s := if iso == .taken && !staging then s.isolate u q.msg.kind q.msg.word else s
      let s := if p then s.ownPlunge 4 else s
      if r then s.faultReset p else s
def execFaultReaction (dt : Nat) (s : State) : Host.Outcome State Fault Refusal := .next (faultReaction (s.elapse dt))

/-! ## Recovery (R365, R366) -/

/-- Units whose return is a recovery (Table 14-6). -/
def recovers (u : Nat) : Bool := (9 ≤ u && u ≤ 12) || (16 ≤ u && u ≤ 39) || (56 ≤ u && u ≤ 71) || u == 81
/-- Units that FLT_ISOLATE names (R367). -/
def fmUnit (u : Nat) : Bool := (16 ≤ u && u ≤ 31) || (56 ≤ u && u ≤ 71) || u == 81

/-- QUIET_PERIOD_EXPIRY (R365): QUIET_MS since the unit's last severe message, its isolation complete. An isolation by the FM
returns only on RETURN (R367). -/
def quietPeriodExpiry (u : Nat) (s : State) : State :=
  let from_ := tabGet 1 u s.flt.quietFrom
  if recovers u && s.unitSt u == 2 && !s.flt.byFm.contains u && s.dev != .off &&
      decide (from_ + 1000000 * s.fget Fld.FLT_CFG.QUIET_MS ≤ s.now + 1) then
    let s := (s.setUnit u 3).fset (Fld.FLT_UNIT_STS.QUIET_LEFT u) 0
    if 32 ≤ u && u ≤ 39 then s.chanRecovering (u - 32) else s
  else s
def execQuietPeriodExpiry (dt unit : Nat) (s : State) : Host.Outcome State Fault Refusal :=
  .next (quietPeriodExpiry unit (s.elapse dt))

/-- A unit is back in service: its domain on again, a cluster or channel at work, the journal staged (R366, R376). -/
def State.unitBack (s : State) (u : Nat) : State :=
  let s := (s.setUnit u 0).modFlt (fun f => { f with byFm := setDel u f.byFm })
  let wake := fun (s : State) (d : Nat) => (s.modDom d (fun x => { x with isolated := false })).wakeDom d
  if 16 ≤ u && u ≤ 31 then wake s (60 + u)
  else if 32 ≤ u && u ≤ 39 then s.chanRecovered (u - 32) true
  else if 56 ≤ u && u ≤ 71 then wake (s.fset (Fld.SCB_CL_STS.STATE (u - 56)) 0) (u + 4)
  else if u = 81 then wake (if s.jnlDirect then s.fset Fld.JNL_STS.MODE 0 else s) 93
  else s

/-- RECOVERY_FAIL is sent by the unit in its class 7. -/
def State.recoveryFail (s : State) (u : Nat) : State := s.fault (srcOf u 7) 0x44 0

/-- RECOVERY_DONE (R366). -/
def recoveryDone (u : Nat) (passed : Bool) (bistUs : Nat) (s : State) : State :=
  if s.unitSt u != 3 || s.flt.bistFor == 1 && s.flt.bistUnit == some u then s
  else
    let record := fun (s : State) => s.journal 0x102 s.newestGen [(0x20, u), (0x21, (!passed).toNat),
      (0x24, s.fget (Fld.FLT_UNIT_STS.RECOVERIES u)), (0x28, bistUs)]
    if passed then
      let s := (s.bump (Fld.FLT_UNIT_STS.RECOVERIES u) (Fld.FLT_UNIT_STS.RC_SAT u)).unitBack u
      record (s.setTransient (fun x => x / 8 == u))
    else
      let s := (s.bump (Fld.FLT_UNIT_STS.RECOVER_FAIL u) (Fld.FLT_UNIT_STS.RF_SAT u)).setUnit u 2
      let s := if 32 ≤ u && u ≤ 39 then s.chanRecovered (u - 32) false else s
      let t := s.now
      let s := (s.modFlt (fun f => { f with quietFrom := tabIns u (t + 1) (tabDel u f.quietFrom) })).fset
        (Fld.FLT_UNIT_STS.QUIET_LEFT u) (s.fget Fld.FLT_CFG.QUIET_MS)
      record (s.recoveryFail u)
def execRecoveryDone (dt unit : Nat) (passed : Bool) (bistUs : Nat) (s : State) : Host.Outcome State Fault Refusal :=
  .next (recoveryDone unit passed bistUs (s.elapse dt))

/-! ## Testing in service (R367 to R370) -/

/-- A request of the FM is refused (Table 14-11). -/
def State.fltRefuse (s : State) : State := s.fset Fld.FLT_STS.REFUSED 1

/-- A BIST of a unit starts (R368). -/
def State.bistStart (s : State) (u why : Nat) : State :=
  let t := s.now
  let s := s.modFlt (fun f => { f with bistUnit := some u, bistFor := why, bistAt := t })
  let s := (s.fset Fld.FLT_BIST_STS.STATE 1).fset Fld.FLT_BIST_STS.UNIT u
  (s.fset Fld.FLT_BIST_STS.DURATION_US 0).fset Fld.FLT_BIST_STS.FAIL_ADDR 0

/-- UNIT_ISOLATE (R367): within the limits of R364. -/
def unitIsolate (u : Nat) (s : State) : State :=
  if !s.isOpen || !fmUnit u then s.fltRefuse
  else match s.isoCheck u with
  | .taken => ((s.isolate u 0 0).modFlt (fun f => { f with byFm := setIns u f.byFm }))
  | .none => s
  | _ => s.fltRefuse
def execUnitIsolate (dt unit : Nat) (s : State) : Host.Outcome State Fault Refusal := .next ((s.elapse dt).viaReg 0x1D0040 (unitIsolate unit))

/-- UNIT_RETURN (R367): the unit's BIST runs first. -/
def unitReturn (u : Nat) (s : State) : State :=
  if !s.isOpen || !fmUnit u || s.unitSt u != 2 || s.flt.bistUnit.isSome then s.fltRefuse
  else (s.setUnit u 3).bistStart u 1
def execUnitReturn (dt unit : Nat) (s : State) : Host.Outcome State Fault Refusal := .next ((s.elapse dt).viaReg 0x1D0040 (unitReturn unit))

/-- BIST_GO (R368): a cache bank, cluster or the staging while isolated, or a flash channel out of service. -/
def bistGo (u : Nat) (s : State) : State :=
  let ok := (fmUnit u && s.unitSt u == 2) || (40 ≤ u && u ≤ 55 && !s.chIn (u - 40))
  if !ok || s.flt.bistUnit.isSome || s.dev == .off then s.fltRefuse else s.bistStart u 0
def execBistGo (dt unit : Nat) (s : State) : Host.Outcome State Fault Refusal := .next ((s.elapse dt).viaReg 0x1D0058 (bistGo unit))

/-- BIST_DONE (R368): PASS, or FAIL with the first failing word; a returning unit that passes is in service. -/
def bistDone (pass : Bool) (failAddr : Nat) (s : State) : State :=
  match s.flt.bistUnit with
  | none => s
  | some u =>
    let back := s.flt.bistFor == 1
    let us := (s.now - s.flt.bistAt) / 1000
    let s := s.modFlt (fun f => { f with bistUnit := none, bistFor := 0 })
    let s := ((s.fset Fld.FLT_BIST_STS.STATE (if pass then 2 else 3)).fsat Fld.FLT_BIST_STS.DURATION_US us).fset
      Fld.FLT_BIST_STS.FAIL_ADDR (if pass then 0 else failAddr)
    if back && s.unitSt u == 3 then (if pass then s.unitBack u else s.setUnit u 2) else s
def execBistDone (dt : Nat) (pass : Bool) (failAddr : Nat) (s : State) : Host.Outcome State Fault Refusal :=
  .next (bistDone pass failAddr (s.elapse dt))

/-- The test page: the last 4 KiB of the control area (R369). -/
def testPage (line : Nat) : Bool := line / 64 == recordBase / pageBytes - 1

/-- The fields of FLT_INJ_CTL take their values; a COUNT of 0 is outside its range and changes nothing (R431). -/
def State.injFields (s : State) (v : Nat) : State :=
  let s := (s.fset Fld.FLT_INJ_CTL.WEIGHT (v / 2 ^ 62 % 2)).fset Fld.FLT_INJ_CTL.CLASS (v / 2 ^ 60 % 4)
  let s := (s.fset Fld.FLT_INJ_CTL.UNIT (v / 2 ^ 48 % 128)).fset Fld.FLT_INJ_CTL.LINE (v % 2 ^ 36)
  if v / 2 ^ 40 % 256 = 0 then s else s.fset Fld.FLT_INJ_CTL.COUNT (v / 2 ^ 40 % 256)

/-- INJECTION_ARM (R369): the fields of FLT_INJ_CTL are written and injection is armed, or refused. -/
def injectionArm (v : Nat) (s : State) : State :=
  let cls := v / 2 ^ 60 % 4
  let u := v / 2 ^ 48 % 128
  let line := v % 2 ^ 36
  let s := s.injFields v
  let dramBad := cls == 2 && decide (32 ≤ u) && decide (u ≤ 39) && !testPage line &&
    (decide (line * 64 < s.hostBase) || (s.page (line / 64)).st != .clean)
  if cls == 3 || s.dev != .serving || s.col.window.isSome || s.unitSt u == 1 || s.unitSt u == 2 || dramBad then
    s.fset Fld.FLT_INJ_STS.REJECT 1
  else
    let s := (s.fset Fld.FLT_INJ_STS.REJECT 0).fset Fld.FLT_INJ_STS.LEFT (s.fget Fld.FLT_INJ_CTL.COUNT)
    (s.modFlt (fun f => { f with
      injClass := cls
      injUnit := u
      injWeight := v / 2 ^ 62 % 2
      injLine := line })).journal 0x104 s.newestGen [(0x20, v)]
def execInjectionArm (dt : Nat) (value : Word) (s : State) : Host.Outcome State Fault Refusal :=
  .next ((s.elapse dt).viaReg 0x1D0048 (injectionArm value.toNat))

/-- The instructions of the test access port that run at any time: 0 BYPASS, 1 IDCODE, 2 SAMPLE/PRELOAD; their codes are the
model's (log entry 33). -/
def jtagOpen (op : Nat) : Bool := op ≤ 2

/-- JTAG_INSTRUCTION (R370, R458): another instruction than these runs only with the power-on reset asserted and is BYPASS
otherwise; IDCODE shifts out 0x2718_05E3. -/
def jtagInstruction (op : Nat) (s : State) : State :=
  let eff := if jtagOpen op || s.psq.por then op else 0
  let s := (s.modFlt (fun f => { f with jtagLast := eff })).emit (.jtag eff)
  if eff = 1 then s.emit (.reg 0x271805E3) else s
def execJtagInstruction (dt opcode : Nat) (s : State) : Host.Outcome State Fault Refusal :=
  .next (jtagInstruction opcode (s.elapse dt))

end Sys2Proof.Machine
end

