-- ==== Sys2Proof/Machine/Beat.lean ====
section
/-! DEFINITION. The beat boundary (R62 to R65): what comes into force there and the computations of every beat, in the order
in which they feed each other; and the weir 2 µs later (R119). -/

namespace Sys2Proof.Machine

/-! ## Time -/

/-- Time runs to the next boundary of colony time at the rate in force (R4, R53), and frames that waited go out (R51); a boundary on
which the module already stands and has not yet processed is that boundary. -/
def State.toBoundary (s : State) : State :=
  if s.colTime % beatNs = 0 && s.beat < s.curBeat then s
  else
    let next := (s.curBeat + 1) * beatNs
    let left : Int := ((next - s.colTime : Nat) : Int) * 128000000 - s.col.frac
    let ns := ((left + s.colRate - 1) / s.colRate).toNat
    ({ s with
      now := s.now + ns
      colTime := next
      col := { s.col with frac := max 0 (min 127999999 ((ns : Int) * s.colRate - left)) } } : State).txDrain

/-! ## The parts of a boundary -/

/-- The beat's plan places the refresh slots at the interval that each channel's heat asks for (R252, R253). -/
def State.planRefresh (s : State) : State :=
  forUpto 8 (fun c s => let hot := s.on (Fld.DRC_STS.HOT c); s.modChan c (fun k => { k with hotPlan := hot })) s

/-- A beat begins: the slew computed in the last one is spread over it (R53), and no excess is owed yet. -/
def State.newBeat (s : State) : State :=
  let b := s.curBeat
  ({ s with beat := b } : State).modCol (fun c => { c with slew := c.slewNext, slewNext := 0, overBy := [] })

/-- What waited for a stripe, for the last forms of a checkpoint or for their completion goes on, and so does garbage collection
(R132, R135, R219). -/
def State.logBeat (s : State) : State :=
  if s.isOpen then (((s.placeReady.completeAll).writeCkptRecs).reportCuts).tailAdvance else s

/-- LADDER_EVALUATE (R124): levels 1 and 2 of each LD that has an allowance. -/
def State.ladderBeat (s : State) : State :=
  s.shareLds.foldl (fun s n => let a := s.allow n
    s.modLd n (fun l => { l with lad := ladder l.owed a l.lad })) s

/-- DEVLOAD_UPDATE (R289). -/
def State.devLoadBeat (s : State) : State :=
  let l := [0, 1].map (fun p => (p, s.trafficLoad p))
  s.modFab (fun f => { f with devLoad := l })

/-- LD `n` goes before LD `m` at step 5 (R288): the one whose admitted bytes of the beat are the smaller share of its allocation, LDs
without an allocation after those with one. -/
def State.admitFirst (s : State) (n m : Nat) : Bool :=
  let a := fun n => s.fget (Fld.SLU_LD_PCFG.BW_ALLOC n)
  if a m = 0 then a n != 0 else a n != 0 && decide ((s.ld n).bwUsed * a m < (s.ld m).bwUsed * a n)

/-- The request that is admitted next of those waiting at step 5 (R288): the oldest of its LD, whose limit leaves room for it. -/
def State.nextAdmitted (s : State) : Option Req :=
  let w := s.fab.reqs.filter (fun r => r.at_ == .bandwidth)
  (w.filter (fun r => decide ((s.ld r.ld).bwUsed + 64 ≤ s.fget (Fld.SLU_LD_PCFG.BW_LIMIT r.ld) * s.portBeatBytes r.port / 256) ||
      s.fget (Fld.SLU_LD_PCFG.BW_LIMIT r.ld) == 0)).foldl
    (fun b r => match b with
      | none => some r
      | some x => if s.admitFirst r.ld x.ld then some r else b) none

/-- Waiting requests are admitted one at a time, at most so many. -/
def State.admitAll (s : State) : Nat → State
  | 0 => s
  | n + 1 => match s.nextAdmitted with
    | none => s
    | some r => ((s.wakeReq r.rid).wakePage (r.dpa / 4096)).admitAll n

/-- A new beat of bandwidth (R288): what waited is remembered for DevLoad, and what waits is admitted, in proportion to the LDs'
allocations. -/
def State.bandwidthBeat (s : State) : State :=
  let turn : Nat × Ld → Nat × Ld := fun e => (e.1, { e.2 with waited5L := e.2.waited5, waited5 := false, bwUsed := 0 })
  let s : State := { s with lds := s.lds.map turn }
  let s := s.admitAll (s.fab.reqs.filter (fun r => r.at_ == .bandwidth)).length
  let still := (s.fab.reqs.filter (fun r => r.at_ == .bandwidth)).map (·.ld)
  { s with lds := s.lds.map (fun e => if still.contains e.1 then (e.1, { e.2 with waited5 := true }) else e) }

/-- The energy below which stage B ends (R162): FIXED_J + p_spill × (64 MiB ÷ bw_flash + 2 ms) has no room in USABLE_J. -/
def State.energyShort (s : State) : Bool :=
  let w := s.weirSum
  decide (s.fget Fld.CIS_USABLE.USABLE_J * 10 ^ 10 * w.a ≤
    s.fget Fld.WEIR_FIXED.FIXED_J * 10 ^ 10 * w.a + s.pSpillDw * 67108864 * w.b * 10 ^ 9 + s.pSpillDw * 2 * 10 ^ 6 * w.a)

/-- A counted pack's terminal voltage lies below its cut-off with the sag of SAG_PM (R162). -/
def State.packSags (s : State) (p : Nat) : Bool :=
  s.counted p && decide (1000 * s.fget (Fld.CIS_PACK_STS.VOLT_MV p) <
    s.fget (Fld.CIS_PACK_CFG.CELLS p) * s.fget (Fld.CIS_PACK_CFG.V_CUT_MV p) * (1000 + s.fget Fld.SPL_CFG.SAG_PM))

/-- SPILL_ENERGY_WATCH (R162): at every boundary up to the end of stage B with the input failed; a shortfall found
before stage B begins ends it at once (log entry 9). -/
def State.spillWatch (s : State) : State :=
  if s.dev == .spilling && decide (s.stage ≤ 4) && !s.on Fld.PSQ_STS.INPUT_GOOD &&
      (s.energyShort || s.countedPacks.isEmpty || s.countedPacks.any s.packSags) then
    (s.modSpill (fun x => { x with shortfall := true })).fset Fld.SPL_STATE.SHORTFALL 1
  else s

/-- Domains that queued work needs are woken (R402): flash channels with operations, clusters with pages to transform. -/
def State.needAll (s : State) : State :=
  let ofOps := s.log.dieOps.map (fun (e : Nat × DieOp) => e.1 / 32)
  let ofDraws := (s.rfl_.draws.flatMap Draw.dies).map (· / 32)
  let chans := (ofOps ++ ofDraws).dedup
  let s := chans.foldl (fun s c => (s.need (28 + 2 * c)).need (29 + 2 * c)) s
  if s.rill.sel.isEmpty && s.rfl_.draws.isEmpty && s.dev != .spilling then s
  else (List.range 16).foldl (fun s k => s.need (60 + k)) s

/-- A warm reset that waited for a plunge's T follows at the first boundary after it (R361). -/
def State.resetAtT (s : State) : State :=
  let due := match s.col.window with
    | some w => decide (w.tw < s.curBeat)
    | none => true
  if s.flt.warmAtT && due then
    let s := s.modFlt (fun f => { f with warmAtT := false })
    if s.isOpen then s.warmReset else s.fset Fld.FLT_STS.REFUSED 1
  else s

/-- What the rill does with the beat (R129, R130): while the device is REFILLING or SERVING. In a molt's pause it keeps the target of
the last beat before (R351). -/
def State.rillBeat (s : State) (lent : Nat) : State :=
  if s.isOpen then (if s.molt.isSome then s.modRill (fun r => { r with started := 0 }) else s.setRillTarget lent).rillSelect else s

/-- Everything of one boundary. -/
def State.boundary (overruns : List (Nat × Nat)) (lent : Nat) (s : State) : State :=
  let s := overruns.foldl (fun s x => s.overrun x) s.newBeat.planRefresh
  let s := ((s.commitChecks).applyConfig).stormBeat
  let s := ((s.cisBeat).channelsLeave).showCap
  let s := (((s.computeWeir).checkDeficit).updateCredit).ladderBeat
  let s := (s.bandwidthBeat).logBeat
  let s := ((s.rillBeat lent).needAll).devLoadBeat
  let s := ((s.sendBeacons).sendFireflies).configBeat
  let s := (s.heartbeats.spillWatch).elyPump
  ((s.resetAtT).settle).showWeir

/-- Flits of a fabric port that failed their CRC, and link-layer replays, are counted (R291). -/
def State.linkErrors (s : State) (e : Nat × Nat × Nat) : State :=
  (s.bump (Fld.FAB_ERR_A.CRC_FAIL e.1) (Fld.FAB_ERR_A.CRC_SAT e.1) e.2.1).bump (Fld.FAB_ERR_A.RETRIES e.1)
    (Fld.FAB_ERR_A.RT_SAT e.1) e.2.2

/-- BEAT_BOUNDARY (R62): no beat passes without core power. -/
def execBeatBoundary (overruns : List (Nat × Nat)) (obs : BeatObs) (s : State) : Host.Outcome State Fault Refusal :=
  if s.dev == .off then .next s
  else .next ((obs.linkErrs.foldl State.linkErrors s.toBoundary).boundary overruns obs.lent)

/-- WEIR_IN_FORCE (R119). -/
def execWeirInForce (dt : Nat) (s : State) : Host.Outcome State Fault Refusal := .next ((s.elapse dt).weirForce)

end Sys2Proof.Machine
end

