-- ==== Sys2Proof/Machine/Flm.lean ====
section
/-! DEFINITION. The flash maintenance port (chapter 09): the command sequence, the commands of Table 09-1, protected regions
and the protection session. Status codes are those of Table 12-9. -/

namespace Sys2Proof.Machine

/-! ## The command sequence (R224, R225) -/

/-- STATE of FLM_STS: 0 IDLE, 1 KEY1, 2 KEY2, 3 CMD, 4 ADDR, 5 BUSY, 6 DONE. -/
def State.flmSt (s : State) : Nat := s.fget Fld.FLM_STS.STATE
/-- A sequence error or an ignored write is counted. -/
def State.seqErr (s : State) : State := s.bump Fld.FLM_CNT.SEQ_ERR Fld.FLM_CNT.SE_SAT
/-- The port returns to IDLE with INVALID_FIELD (R225). -/
def State.flmBreak (s : State) : State := ((s.fset Fld.FLM_STS.STATE 0).fset Fld.FLM_STS.STATUS 3).seqErr

/-- A READ command is BUSY: its duration has not passed (R225, log entry 34). -/
def State.flmReads (s : State) : Bool := decide (s.now < s.flm.readTill)
/-- One of the four registers is written: ignored while BUSY, out of order, or the step that belongs at `at_`. -/
def State.flmStep (s : State) (ok : Bool) (go : State → State) : State :=
  if s.dev == .off then s
  else if s.flmSt = 5 || s.flmReads then s.seqErr
  else if ok then go s else s.flmBreak

/-- FLM_KEY_WRITE. -/
def flmKeyWrite (v : Nat) (s : State) : State :=
  let st := s.flmSt
  let t := s.now
  let first := (st == 0 || st == 6) && v == 0xF1A5
  s.flmStep (first || (st == 1 && v == 0x0E5A)) (fun s =>
    if first then (s.modFlm (fun f => { f with keyAt := t })).fset Fld.FLM_STS.STATE 1 else s.fset Fld.FLM_STS.STATE 2)
def execFlmKeyWrite (dt : Nat) (value : BitVec 32) (s : State) : Host.Outcome State Fault Refusal :=
  .next (flmKeyWrite value.toNat (s.elapse dt))

/-- FLM_CMD_WRITE. -/
def flmCmdWrite (v : Nat) (s : State) : State :=
  s.flmStep (s.flmSt == 2) (fun s =>
    let s := (s.fset Fld.FLM_CMD.ECC (v / 2 ^ 15 % 2)).fset Fld.FLM_CMD.TLC (v / 2 ^ 14 % 2)
    (s.fset Fld.FLM_CMD.OPCODE (v % 256)).fset Fld.FLM_STS.STATE 3)
def execFlmCmdWrite (dt : Nat) (value : BitVec 32) (s : State) : Host.Outcome State Fault Refusal :=
  .next (flmCmdWrite value.toNat (s.elapse dt))

/-- FLM_ADDR_WRITE; REGION names entry 0 to 18 and takes no other value (R431). -/
def flmAddrWrite (v : Nat) (s : State) : State :=
  s.flmStep (s.flmSt == 3) (fun s =>
    let s := if v / 2 ^ 42 % 32 ≤ 18 then s.fset Fld.FLM_ADDR.REGION (v / 2 ^ 42) else s
    let s := (s.fset Fld.FLM_ADDR.WORD (v / 2 ^ 38)).fset Fld.FLM_ADDR.PLANE (v / 2 ^ 36)
    let s := (s.fset Fld.FLM_ADDR.PAGE (v / 2 ^ 25)).fset Fld.FLM_ADDR.BLOCK (v / 2 ^ 11)
    (s.fset Fld.FLM_ADDR.DIE_STREAM v).fset Fld.FLM_STS.STATE 4)
def execFlmAddrWrite (dt : Nat) (value : Word) (s : State) : Host.Outcome State Fault Refusal :=
  .next (flmAddrWrite value.toNat (s.elapse dt))

/-- FLM_SEQUENCE_TIMEOUT: 100 ms after the first key write without FLM_DATA. -/
def flmSequenceTimeout (s : State) : State :=
  if 1 ≤ s.flmSt && s.flmSt ≤ 4 && decide (s.flm.keyAt + 100000000 ≤ s.now) then s.flmBreak else s
def execFlmSequenceTimeout (dt : Nat) (s : State) : Host.Outcome State Fault Refusal :=
  .next (flmSequenceTimeout (s.elapse dt))

/-! ## The port buffer -/

/-- Bytes of the port buffer (R237). -/
def flmBufBytes : Nat := 0x5000
/-- Bytes enter the port buffer from an offset. -/
def FlmState.put (f : FlmState) (off : Nat) (bs : List Byte) : FlmState :=
  { f with buf := ((List.range bs.length).zip bs).foldl (fun m e =>
      if off + e.1 < flmBufBytes then tabIns (off + e.1) e.2 (tabDel (off + e.1) m) else m) f.buf }
/-- A byte of the port buffer. -/
def State.bufByte (s : State) (off : Nat) : Byte := contentByte s.flm.buf s.flm.base s.flm.spareBase off
/-- FLM_BUF_WRITE (R225): 32 or 64 bits at an offset of the buffer; while a READ command is BUSY the write is ignored and counted. -/
def flmBufWrite (off v width : Nat) (s : State) : State :=
  if s.dev == .off || decide (flmBufBytes ≤ off) then s
  else if s.flmReads then s.seqErr
  else s.modFlm (fun f => f.put off (bytesOf (if width = 64 then 8 else 4) v))
def execFlmBufWrite (dt offset : Nat) (value : Word) (width : Nat) (s : State) : Host.Outcome State Fault Refusal :=
  .next (flmBufWrite offset value.toNat width (s.elapse dt))

/-! ## Dies, regions and protection (R227, R233, Table 08-1) -/

/-- A die stream the port can address: present and not retired. While no start has read the population, any that is not known
to be retired (log entry 34). -/
def State.flmDie (s : State) (ds : Nat) : Bool :=
  if s.dieSets = 0 then !(s.log.dieCause.any (fun e => e.1 == ds)) else s.dieIn ds
/-- A block and page of a die: a TLC page number only where a read asks for TLC mode. -/
def State.flmPageOk (s : State) (block page : Nat) (tlc : Bool) : Bool :=
  let n := s.fget Fld.LOG_GEOM.BLOCKS
  (n == 0 || decide (block < n)) && decide (page < (if !tlc then s.flmP else if s.dieSets = 0 then 3 * s.flmP else s.fget Fld.LOG_GEOM.TLC_PAGES))

/-- The protection entries that cover a block. -/
def State.protEntries (s : State) (ds block : Nat) : List Nat :=
  let g := s.regionAt ds block
  if g < 3 then [g]
  else if g = 3 then ((List.range 16).map (· + 3)).filter (fun r =>
    let a := s.fget (Fld.FLM_REGION.START r)
    let b := s.goodIdx ds block
    decide (a ≤ b) && decide (b < a + s.fget (Fld.FLM_REGION.COUNT r)))
  else []
def State.writeProt (s : State) (ds block : Nat) : Bool :=
  (s.protEntries ds block).any (fun r => s.on (Fld.FLM_REGION.WP r))
def State.readProt (s : State) (ds block : Nat) : Bool :=
  (s.protEntries ds block).any (fun r => s.on (Fld.FLM_REGION.RP r))

/-- The fetch mapping lies on a die stream (R236). -/
def State.xipOn (s : State) (ds : Nat) : Bool := s.dev == .basin && s.boot.xip.any (fun k => 128 * k == ds)
/-- A Transfer FW is writing the boot region (Table 09-2). -/
def State.xferWrites (s : State) : Bool :=
  let x := s.fget Fld.BOOT_XFER.STATE
  1 ≤ x && x ≤ 3

/-! ## Commands (Table 09-1) -/

/-- What the dies and the checks of a command answer: the busy die's status word, the decode of a page, its parameter page and
ID bytes, the status word of READ_STATUS and the signature check of XIP_SELECT. -/
structure FlmObs where
  dieBusy : Option (BitVec 32) := none
  result  : ReadResult := .decoded 0
  param   : List Byte := []
  id      : Word := 0
  status  : BitVec 32 := 0
  sigOk   : Bool := false
  deriving DecidableEq, Repr

/-- A command whose result is there at once: its duration is not the model's to say, and a READ command is BUSY for it (log entry
34). -/
def State.flmNow (s : State) (status : Nat) : State :=
  let d := s.draw
  let us := (Config.flmUs d.2).toNat
  let till := if [1, 2, 3, 4, 5].contains (s.fget Fld.FLM_STS.OPCODE) then s.now + 1000 * us else s.flm.readTill
  (d.1.modFlm (fun f => { f with readTill := till })).flmEnd status us

/-- The die status word (Table 09-3): `base` as the die answers, with what the KX7180 knows of its own operation. -/
def State.dieWord (s : State) (ds : Nat) (base : BitVec 32) : BitVec 32 :=
  let b := base.toNat / 2 ^ 22 * 2 ^ 22
  let x := if s.xipOn ds then 2 ^ 17 else 0
  match s.log.dieOps.find? (fun e => e.1 == ds) with
  | some e =>
    let us := min 65535 ((s.now - e.2.since) / 1000)
    BitVec.ofNat 32 (b + (if e.2.erase then 2 else 1) * 2 ^ 20 + e.2.suspended.toNat * 2 ^ 19 + x + us)
  | none =>
    if s.holdsDie ds then BitVec.ofNat 32 (b + 2 ^ 20 + x + base.toNat % 2 ^ 16)
    else BitVec.ofNat 32 (base.toNat / 2 ^ 18 * 2 ^ 18 + x + base.toNat % 2 ^ 16)

/-- The die is busy (R228): by its own answer, or with an operation of the log or a program of the journal; the word it answers. -/
def State.dieBusy (s : State) (ds : Nat) (o : Option (BitVec 32)) : State × Option (BitVec 32) :=
  match o with
  | some w => (s, some (s.dieWord ds w))
  | none =>
    if s.log.dieOps.any (fun e => e.1 == ds) || s.holdsDie ds then
      let d := s.draw
      (d.1, some (d.1.dieWord ds (Config.rawWord d.2)))
    else (s, none)

/-- A read of a busy die (R228). -/
def State.flmBusyRead (s : State) (w : BitVec 32) : State :=
  let s := ((s.modFlm (fun f => f.put 0 (bytesOf 4 w.toNat))).fset Fld.FLM_RDATA.RDATA w.toNat).fset Fld.FLM_STS.DIE_BUSY 1
  s.flmNow 0

/-- READ_PAGE's data: the page fills the buffer, its word area as the words stand. -/
def State.flmLoad (s : State) (ds block page plane : Nat) (tlc : Bool) : State :=
  let x := s.rawAt ds block page plane tlc
  let p := x.2
  let pk := planeKey ds block page plane
  let s := x.1.modFlm (fun f => { f with buf := p.bytes, base := p.base, spareBase := p.spareBase })
  let at_ := s.wordArea
  let g := s.regionAt ds block
  let ws := if g = 1 || g = 2 then (List.range 16).map (fun w => (w, (s.wordAt ds block page plane w).2))
    else (s.flm.words.filter (fun e => e.1 / 16 == pk)).map (fun e => (e.1 % 16, e.2))
  ws.foldl (fun s e => s.modFlm (fun f => f.put (at_ + 4 * e.1) (bytesOf 4 e.2.toNat))) s

/-- READ_PAGE: with ECC each codeword is decoded through the ladder, and a page that no level decodes is a MEDIA_ERROR. -/
def State.flmReadPage (s : State) (ds block page plane : Nat) (r : ReadResult) (tlc : Bool) : State :=
  if !s.on Fld.FLM_CMD.ECC then (s.flmLoad ds block page plane tlc).flmNow 0
  else match r with
  | .decoded level => ((s.flmLoad ds block page plane tlc).fset Fld.FLM_STS.LEVEL (min level 9)).flmNow 0
  | .failed => (s.fset Fld.FLM_STS.LEVEL 9).flmNow 9

/-- Where a program or erase may go (Table 09-2, R233, R236): 0 or the status that refuses it. -/
def State.flmMayWrite (s : State) (ds block : Nat) (word : Bool) : Nat :=
  let g := s.regionAt ds block
  let ok := if word then g == 1 || g == 2 || g == 3 else (g == 0 && !s.xferWrites) || g == 3
  if s.xipOn ds then 0x10 else if !ok then 0x0B else if s.writeProt ds block then 0x12 else 0

/-- A program or erase is queued at its die (R229). -/
def State.flmStart (s : State) (o : FlmOp) : State :=
  let o := { o with issued := !(s.log.dieOps.any (fun e => e.1 == o.ds)) && !s.holdsDie o.ds }
  (s.modFlm (fun f => { f with op := some o })).fset Fld.FLM_STS.STATE 5

/-- What PROGRAM_PAGE programs: the buffer; with ECC the parity takes the spare bytes but for the word area. -/
def State.pageOfBuf (s : State) : State × RawPage :=
  let f := s.flm
  let n := 0x4000 + s.flmSpare
  if s.on Fld.FLM_CMD.ECC then
    let d := s.draw
    let words := (List.range 64).map (fun i => (s.wordArea + i, s.bufByte (s.wordArea + i)))
    (d.1, RawPage.mk (f.buf.filter (fun e => decide (e.1 < 0x4000)) ++ words) f.base (d.2 + 2) 1)
  else (s, RawPage.mk (f.buf.filter (fun e => decide (e.1 < n))) f.base f.spareBase 1)

/-- Every codeword of a page reads as erased. -/
def State.pageErased (s : State) (ds block page plane : Nat) : Bool :=
  let p := (s.rawAt ds block page plane).2
  p.base == 1 && p.spareBase == 1 && p.bytes.all (fun e => e.2 == 255 || decide (s.wordArea ≤ e.1))

/-- PROGRAM_PAGE (R227, R231). -/
def State.flmProgram (s : State) (ds block page plane : Nat) : State :=
  let why := s.flmMayWrite ds block false
  if why ≠ 0 then s.flmNow why
  else if !s.pageErased ds block page plane then s.flmNow 0x11
  else
    let x := s.pageOfBuf
    x.1.flmStart (FlmOp.mk 0x10 ds (planeKey ds block page plane) 0 x.2 false)

/-- Programs a pSLC page takes (R231): of the die table of the image that runs, else as the recovery code knows it (log entry
34). -/
def State.dieNop (s : State) : Nat := (s.boot.loaded.map (·.dieNop)).getD Config.dieNop

/-- PROGRAM_WORD (R231). -/
def State.flmWord (s : State) (ds block page plane w : Nat) (new : BitVec 32) : State :=
  let why := s.flmMayWrite ds block true
  if why ≠ 0 then s.flmNow why
  else
    let x := s.wordAt ds block page plane w
    if new &&& ~~~x.2 ≠ 0 then x.1.flmNow 0x11
    else if x.1.dieNop ≤ x.1.progsAt ds block page plane then x.1.flmNow 0x0B
    else x.1.flmStart (FlmOp.mk 0x11 ds (wordKey (planeKey ds block page plane) w) new erasedPage false)

/-- ERASE_BLOCK (R227). -/
def State.flmErase (s : State) (ds block : Nat) : State :=
  let why := s.flmMayWrite ds block false
  if why ≠ 0 then s.flmNow why else s.flmStart (FlmOp.mk 0x20 ds (blockKey ds block) 0 erasedPage false)

/-- PW_UNLOCK (R234, R235): with no password set no value matches (log entry 35). -/
def State.pwUnlock (s : State) (v : Word) : State :=
  let t := s.now
  if s.flm.password == some (sha384 v) then
    (((s.modFlm (fun f => { f with session := some t })).fset Fld.FLM_PROT_STS.SESSION 1).fset
      Fld.FLM_PROT_STS.FAIL_COUNT 0).flmNow 0
  else
    let n := s.fget Fld.FLM_PROT_STS.FAIL_COUNT + 1
    ((s.fset Fld.FLM_PROT_STS.FAIL_COUNT (min n 8)).fput Fld.FLM_PROT_STS.LOCKOUT (decide (8 ≤ n))).flmNow 0x12

/-- A protection change is allowed: no password, or an open session (R234). -/
def State.mayProtect (s : State) : Bool := s.flm.password.isNone || s.flm.session.isSome

/-- Something the configuration region keeps has changed (R435). -/
def State.cfgTouched (s : State) : State :=
  let t := s.now
  { s with cfgDue := some (s.cfgDue.getD t) }

/-- PW_SET: all ones removes the password. -/
def State.pwSet (s : State) (v : Word) : State :=
  if !s.mayProtect then s.flmNow 0x12
  else
    let p := if v = BitVec.allOnes 64 then none else some (sha384 v)
    ((s.modFlm (fun f => { f with password := p })).fput Fld.FLM_PROT_STS.PW_SET p.isSome).cfgTouched.flmNow 0

/-- PROT_SET (R233): an FM region stays inside its area and overlaps no other. -/
def State.protSet (s : State) (r v : Nat) : State :=
  let start := v / 2 ^ 32 % 2 ^ 16
  let count := v / 2 ^ 16 % 2 ^ 16
  let clash := ((List.range 16).map (· + 3)).any (fun q => q != r &&
    let a := s.fget (Fld.FLM_REGION.START q)
    let c := s.fget (Fld.FLM_REGION.COUNT q)
    c != 0 && count != 0 && decide (start < a + c) && decide (a < start + count))
  let fm := decide (3 ≤ r)
  if !s.mayProtect then s.flmNow 0x12
  else if decide (18 < r) || decide (2 ^ 48 ≤ v) || decide (4 ≤ v % 2 ^ 16) || (fm && (decide (s.fmArea < start + count) || clash)) then
    s.flmNow 3
  else
    let s := (s.fset (Fld.FLM_REGION.START r) (if fm then start else 0)).fset (Fld.FLM_REGION.COUNT r) (if fm then count else 0)
    ((s.fset (Fld.FLM_REGION.RP r) (v / 2 % 2)).fset (Fld.FLM_REGION.WP r) (v % 2)).cfgTouched.flmNow 0

/-- XIP_SELECT (R236): the copy named passes its signature check; one the port has written is checked anew. -/
def State.xipSelect (s : State) (v : Nat) (sigOk : Bool) : State :=
  let k := v % 4
  let pass := if s.boot.byPort.contains k then sigOk else s.boot.copies.any (fun e => e.1 == k && imgSigned e.2)
  if s.dev != .basin then s.flmNow 0x0B
  else if pass then (s.setXip (some k)).flmNow 0 else s.flmNow 9

/-- The FLM_DATA write starts the command that FLM_CMD names (R224, R226); `v` is its value. -/
def State.flmRun (s : State) (v : Word) (o : FlmObs) : State :=
  let op := s.fget Fld.FLM_CMD.OPCODE
  let t := s.now
  let s := (s.modFlm (fun f => { f with cmdAt := t })).fset Fld.FLM_STS.OPCODE op
  let s := ((s.fset Fld.FLM_STS.DIE_BUSY 0).fset Fld.FLM_STS.SPILL_ABORT 0).fset Fld.FLM_STS.LEVEL 0
  let ds := s.fget Fld.FLM_ADDR.DIE_STREAM
  let block := s.fget Fld.FLM_ADDR.BLOCK
  let page := s.fget Fld.FLM_ADDR.PAGE
  let plane := s.fget Fld.FLM_ADDR.PLANE
  let word := s.fget Fld.FLM_ADDR.WORD
  let paged := [0x01, 0x05, 0x10, 0x11, 0x20].contains op
  let dies := paged || [0x02, 0x03, 0x04].contains op
  let tlc := op == 1 && s.on Fld.FLM_CMD.TLC
  if s.on Fld.FLM_PROT_STS.LOCKOUT then s.flmNow 0x12
  else if !(dies || [0x30, 0x31, 0x32, 0x33, 0x40].contains op) then s.flmNow 2
  else if !(s.isOpen || s.dev == .basin) && op != 4 then s.flmNow 0x0B
  else if dies && !s.flmDie ds then s.flmNow 5
  else if paged && !s.flmPageOk block (if op == 0x20 then 0 else page) tlc then s.flmNow 5
  else if (op == 1 || op == 5) && s.readProt ds block then s.flmNow 0x12
  else if [1, 2, 3, 5].contains op then
    match s.dieBusy ds o.dieBusy with
    | (s, some w) => s.flmBusyRead w
    | (s, none) =>
      if op = 1 then s.flmReadPage ds block page plane o.result tlc
      else if op = 2 then (s.modFlm (fun f => f.put 0 o.param)).flmNow 0
      else if op = 3 then
        ((s.fset Fld.FLM_RDATA.RDATA o.id.toNat).fset Fld.FLM_RDATA2.RDATA2 (o.id.toNat / 2 ^ 32)).flmNow 0
      else
        let x := s.wordAt ds block page plane word
        (x.1.fset Fld.FLM_RDATA.RDATA x.2.toNat).flmNow 0
  else if op = 4 then (s.fset Fld.FLM_RDATA.RDATA (s.dieWord ds o.status).toNat).flmNow 0
  else if op = 0x10 then s.flmProgram ds block page plane
  else if op = 0x11 then s.flmWord ds block page plane word (v.truncate 32)
  else if op = 0x20 then s.flmErase ds block
  else if op = 0x30 then s.pwUnlock v
  else if op = 0x31 then s.pwSet v
  else if op = 0x32 then s.protSet (s.fget Fld.FLM_ADDR.REGION) v.toNat
  else if op = 0x33 then s.closeSession.flmNow 0
  else s.xipSelect v.toNat o.sigOk

/-- A write to FLM_DATA. -/
def flmData (v : Word) (o : FlmObs) (s : State) : State := s.flmStep (s.flmSt == 4) (fun s => s.flmRun v o)

/-- READ_PAGE (R226, R228). -/
def execReadPage (dt : Nat) (value : Word) (dieBusy : Option (BitVec 32)) (result : ReadResult) (s : State) :
    Host.Outcome State Fault Refusal := .next (flmData value { dieBusy := dieBusy, result := result } (s.elapse dt))
/-- READ_PARAM (R226). -/
def execReadParam (dt : Nat) (value : Word) (dieBusy : Option (BitVec 32)) (param : List Byte) (s : State) :
    Host.Outcome State Fault Refusal := .next (flmData value { dieBusy := dieBusy, param := param } (s.elapse dt))
/-- READ_ID (R226). -/
def execReadId (dt : Nat) (value : Word) (dieBusy : Option (BitVec 32)) (id : Word) (s : State) :
    Host.Outcome State Fault Refusal := .next (flmData value { dieBusy := dieBusy, id := id } (s.elapse dt))
/-- READ_STATUS (R226, R228). -/
def execReadStatus (dt : Nat) (value : Word) (status : BitVec 32) (s : State) : Host.Outcome State Fault Refusal :=
  .next (flmData value { status := status } (s.elapse dt))
/-- READ_WORD (R226). -/
def execReadWord (dt : Nat) (value : Word) (dieBusy : Option (BitVec 32)) (s : State) : Host.Outcome State Fault Refusal :=
  .next (flmData value { dieBusy := dieBusy } (s.elapse dt))
/-- PROGRAM_PAGE (R227). -/
def execProgramPage (dt : Nat) (value : Word) (s : State) : Host.Outcome State Fault Refusal :=
  .next (flmData value { } (s.elapse dt))
/-- PROGRAM_WORD (R231). -/
def execProgramWord (dt : Nat) (value : Word) (s : State) : Host.Outcome State Fault Refusal :=
  .next (flmData value { } (s.elapse dt))
/-- ERASE_BLOCK (R227). -/
def execEraseBlock (dt : Nat) (value : Word) (s : State) : Host.Outcome State Fault Refusal :=
  .next (flmData value { } (s.elapse dt))
/-- PW_UNLOCK (R234). -/
def execPwUnlock (dt : Nat) (value : Word) (s : State) : Host.Outcome State Fault Refusal :=
  .next (flmData value { } (s.elapse dt))
/-- PW_SET (R234). -/
def execPwSet (dt : Nat) (value : Word) (s : State) : Host.Outcome State Fault Refusal :=
  .next (flmData value { } (s.elapse dt))
/-- PROT_SET (R233). -/
def execProtSet (dt : Nat) (value : Word) (s : State) : Host.Outcome State Fault Refusal :=
  .next (flmData value { } (s.elapse dt))
/-- PROT_LOCK (R234). -/
def execProtLock (dt : Nat) (value : Word) (s : State) : Host.Outcome State Fault Refusal :=
  .next (flmData value { } (s.elapse dt))
/-- XIP_SELECT (R236). -/
def execXipSelect (dt : Nat) (value : Word) (sigOk : Bool) (s : State) : Host.Outcome State Fault Refusal :=
  .next (flmData value { sigOk := sigOk } (s.elapse dt))
/-- FLM_INVALID_OPCODE (R226). -/
def execFlmInvalidOpcode (dt : Nat) (value : Word) (s : State) : Host.Outcome State Fault Refusal :=
  .next (flmData value { } (s.elapse dt))

/-! ## Ends of operations -/

/-- FLM_OPERATION_DONE (R230): the effect, or MEDIA_ERROR, after which the place holds what the model does not know; reads that
waited at the die go on. An operation that is still queued does not end (R229). -/
def flmOperationDone (st : MediaStatus) (s : State) : State :=
  match s.flm.op with
  | none => s
  | some o =>
    if !s.flmIssued o then s
    else
      let ok := st == .ok
      let us := s.flmUs
      let s := s.flmEffect o ok
      (if s.flmSt = 5 then s.flmEnd (if ok then 0 else 9) us else s.modFlm (fun f => { f with op := none })).releaseDie o.ds
def execFlmOperationDone (dt : Nat) (status : MediaStatus) (s : State) : Host.Outcome State Fault Refusal :=
  .next (flmOperationDone status (s.elapse dt))

/-- PROT_SESSION_TIMEOUT (R234): 60 s after it opened. -/
def protSessionTimeout (s : State) : State :=
  match s.flm.session with
  | some t => if t + 60000000000 ≤ s.now then s.closeSession else s
  | none => s
def execProtSessionTimeout (dt : Nat) (s : State) : Host.Outcome State Fault Refusal :=
  .next (protSessionTimeout (s.elapse dt))

end Sys2Proof.Machine
end

