-- ==== Sys2Proof/Machine/Operands.lean ====
section
/-! DEFINITION. The operands of a register access (R425, R428, R429, R436): offsets, sizes, the part of a field that a write
covers. -/

namespace Sys2Proof.Machine

/-- Offsets that the CXL and PCIe standards lay out: component and device registers, MSI-X table and pending bits. -/
def stdReg (off : Nat) : Bool := off < 0x100000 || (0x400000 ≤ off && off < 0x402000)
/-- Offsets of the port buffer. -/
def inFlmBuf (off : Nat) : Bool := 0x158000 ≤ off && off < 0x158000 + flmBufBytes
/-- Size and alignment of an access (R428); only a 64-bit register takes 64 bits. -/
def sizeOk (off width : Nat) (wide : Bool) : Bool :=
  (width == 32 && off % 4 == 0) || (width == 64 && off % 8 == 0 && wide)

/-- A 64-bit register whose low half snapshots its high half. -/
def hasSnap (wide : Bool) (fs : List (Field × Access)) : Bool :=
  wide && fs.any (fun f => f.2 == .rsl || f.2 == .rslW1 || f.2 == .rslSat || f.2 == .rc)

/-- A write of `width` bits at bit `sh` of a register covers a field at bit `lo`. -/
def overlaps (lo w sh width : Nat) : Bool := decide (lo < sh + width) && decide (sh < lo + w)
/-- A field of `w` bits at bit `lo` after such a write of `v`. -/
def mergeField (old lo w v sh width : Nat) : Nat :=
  let r := old * 2 ^ lo
  (r / 2 ^ (sh + width) * 2 ^ (sh + width) + v % 2 ^ width * 2 ^ sh + r % 2 ^ sh) / 2 ^ lo % 2 ^ w

/-- The numbers below `n` whose bit is set from bit `lo` of a value. -/
def bitsOf (v lo n : Nat) : List Nat := (List.range n).filter (fun i => v.testBit (lo + i))

end Sys2Proof.Machine
end

