-- ==== Sys2Proof/Machine/Registers.lean ====
section
/-! DEFINITION. Register accesses (chapter 18, R1, R2): sizes and alignment, the windows and their domains, reads with their
snapshots and clears, writes by access code, and the effect of every command register. -/

namespace Sys2Proof.Machine

/-! ## Windows and domains (R425, R426, R440) -/

/-- The power domain of a register, where R440 places it in one that switches. -/
def regDomain (off : Nat) : Option Nat :=
  if 0x100000 ≤ off && off < 0x100200 then some (9 + 2 * ((off - 0x100000) / 0x100))
  else if 0x160100 ≤ off && off < 0x180000 && 0x100 ≤ (off - 0x160000) % 0x2000 then some (13 + 2 * ((off - 0x160000) / 0x2000))
  else if 0x1F0000 ≤ off && off < 0x200000 then some 7
  else if 0x200000 ≤ off && off < 0x400000 then some 95
  else none

/-- The register's domain is OFF (R440). -/
def State.regOff (s : State) (off : Nat) : Bool := (regDomain off).any (fun d => (s.dom d).mode == 2)
/-- An access wakes a domain in RETENTION (R440, R402). -/
def State.regNeed (s : State) (off : Nat) : State := match regDomain off with | some d => s.need d | none => s

/-- The path to BAR0 is there: the FM-owned LDs answer from stage 5 of a start (R335), the two-wire target while its domain is
ON (R404, R420), a tenant's BAR0 while its LD can be reached. -/
def State.barUp (s : State) (path : Path) : Bool :=
  match path with
  | .fm => s.dev != .off && (s.dev != .training || decide (5 ≤ s.bootStage) || s.on Fld.BOOT_STS.BASIN_DEFERRED)
  | .twoWire => s.dev != .off && (s.dom 7).mode == 0
  | .tenant n => s.tenantBar n


/-! ## Reads (R2, R436, R437) -/

/-- The bits of a register as its fields stand; fields with code WO read 0. -/
def State.regBits (s : State) (base : Nat) (fs : List (Field × Access)) : Nat :=
  sumNat (fs.map (fun f => if f.2 == .wo then 0 else s.fget f.1 * 2 ^ (f.1.bit - 8 * base)))

/-- Every RC field of a register is cleared. -/
def State.clearRc (s : State) (fs : List (Field × Access)) : State :=
  fs.foldl (fun s f => if f.2 == .rc then s.fset f.1 0 else s) s

/-- QUIET_LEFT of a unit, ms (R365). -/
def State.quietLeft (s : State) (u : Nat) : Nat :=
  match s.flt.quietFrom.find? (fun e => e.1 == u) with
  | some e =>
    let ms := s.fget Fld.FLT_CFG.QUIET_MS
    ms - (s.now + 1 - e.2) / 1000000
  | none => 0

/-- HOLD_OK (R391): no row carries the voltage of HOLDUP, so whether it stands at or above 11.4 V is a free value at each read (log
entry 117). -/
def State.holdOk (s : State) : State := let d := s.draw; d.1.fput Fld.PSQ_STS.HOLD_OK (Config.holdupCharged d.2)

/-- Fields whose value runs with time, or that the model does not hold, take it as they are read. -/
def State.live (s : State) (base : Nat) (ix : List Nat) : State :=
  let i := ix.headD 0
  if base = 0x190078 then s.fset Fld.COL_TIME.TIME_NS s.colTime
  else if base = 0x114010 then
    (s.fsat Fld.RILL_RATE.RATE_KBS (s.govRate 1 / 1000)).fsat Fld.RILL_RATE.USED_WIN_MB (s.govUsed / 1000000)
  else if base = 0x190090 then
    let left := match s.col.window with
      | some w => (w.openAt + 64 * beatNs - s.colTime + beatNs - 1) / beatNs
      | none => 0
    (s.fput Fld.COL_PLUNGE_INFO.PASSED s.windowPassed).fsat Fld.COL_PLUNGE_INFO.LEFT left
  else if base = 0x1A00B0 then s.fset Fld.CIS_ELAPSED.ELAPSED_US s.nowUs
  else if base = 0x1C1000 then s.resTouch i
  else if base = 0x1B0008 then s.holdOk
  else if base = 0x1D3000 then s.fset (Fld.FLT_UNIT_STS.QUIET_LEFT i) (s.quietLeft i)
  else if base = 0x150018 then (if s.flmReads then s.fset Fld.FLM_STS.STATE 5 else s)
  else if base = 0x160158 then s.showCand i (ix.getD 1 0)
  else if base = 0x160160 then s.fput (Fld.DRC_STS.RFM i) (Config.rfmRequired i)
  else if base = 0x108010 then s.showTrk
  else if base = 0x110020 || base = 0x110200 then s.showOwed
  else if base = 0x180000 then
    let d := s.draw
    let w := (Config.clusterWork d.2).toNat
    let ok := ((List.range 8).filter (fun k => w.testBit k)).length
    -- while SPILLING every working engine has the spill role (R149)
    let r := if s.dev == .spilling then ok * 2 ^ 16 else w / 2 ^ 8
    let s := ((d.1.fset (Fld.SCB_CL_STS.ENGINES_OK i) w).fset (Fld.SCB_CL_STS.RESTORE i) r).fset (Fld.SCB_CL_STS.CLEAN i) (r / 2 ^ 4)
    ((s.fset (Fld.SCB_CL_STS.COPY i) (r / 2 ^ 8)).fset (Fld.SCB_CL_STS.CHECK i) (r / 2 ^ 12)).fset (Fld.SCB_CL_STS.SPILL i)
      (r / 2 ^ 16)
  else s

/-- A member's COL_EPOCH_CFG reads the values in force, its own being kept (R67, Table 18-3). -/
def State.inForce (s : State) (base : Nat) : State :=
  if base = 0x190018 && s.isMember then (s.fset Fld.COL_EPOCH_CFG.GUARD s.guardNow).fset Fld.COL_EPOCH_CFG.K s.kNow else s

/-- The snapshot of the register at a base is taken. -/
def State.snap (s : State) (base v : Nat) : State := { s with snaps := tabIns base v (tabDel base s.snaps) }

/-- A read of a register whose value is `v` (64 bits for a wide one): low half, high half or whole. -/
def State.readBits (s : State) (base off width v : Nat) (wide : Bool) (fs : List (Field × Access)) : State × Nat :=
  let hi := v / 2 ^ 32
  if hasSnap wide fs then
    if off = base then
      ((s.snap base hi).clearRc fs, if width = 64 then v else v % 2 ^ 32)
    else (s, ((s.snaps.find? (fun e => e.1 == base)).map (·.2)).getD hi)
  else if wide then (s, if width = 64 then v else if off = base then v % 2 ^ 32 else hi)
  else (s.clearRc fs, v)

/-- A read in BAR0 of the FM-owned LD. -/
def State.regRead (s : State) (off width : Nat) : State × Nat :=
  if !(width == 32 && off % 4 == 0) && !(width == 64 && off % 8 == 0) then (s, 0)
  else if stdReg off then
    let d := s.draw
    (d.1, (Config.cxlReg d.2).toNat % 2 ^ width)
  else if inFlmBuf off then
    (s, sumNat ((List.range (width / 8)).map (fun i => (s.bufByte (off - 0x158000 + i)).toNat * 256 ^ i)))
  else match regOf off with
  | none => (s, 0)
  | some (row, ix, base) =>
    if !sizeOk off width row.wide || s.regOff off then (s, 0)
    else
      let s := (s.regNeed off).live row.base ix
      let fs := row.flds ix
      s.readBits base off width ((s.inForce row.base).regBits base fs) row.wide fs

/-- The tenant status window (Table 11-18): SLU_TN_STS, SLU_TN_WEIR and SLU_TN_CKPT of an LD. -/
def State.tnRead (s : State) (ld off width : Nat) : State × Nat :=
  let r := off % 0x10000 / 8
  let key := 2 ^ 28 + 8 * (4 * ld + r)
  let l := s.ld ld
  let v := if r = 0 then l.st.code * 2 ^ 61 + s.cls ld * 2 ^ 59 + l.dsc
    else if r = 1 then s.showOwed.regBits (0x110200 + 8 * ld) (fieldsAt (0x110200 + 8 * ld))
    else s.regBits (0x118100 + 8 * ld) (fieldsAt (0x118100 + 8 * ld))
  if decide (2 < r) || !sizeOk off width true then (s, 0)
  else s.readBits key (key + off % 8) width v true [(Fld.RNG_TAG.TAG_HIGH 0 0, .rsl)]

/-- A tenant's view of BAR0: its RNG_ window, its status window, and the standards' registers (R426). -/
def State.tenantRead (s : State) (ld off width : Nat) : State × Nat :=
  if 0x100000 ≤ off && off < 0x110000 then s.regRead (0x200000 + 0x10000 * ld + (off - 0x100000)) width
  else if 0x110000 ≤ off && off < 0x120000 then s.tnRead ld off width
  else if off < 0x100000 || (0x120000 ≤ off && off < 0x123000) then
    let d := s.draw
    if sizeOk off width true then (d.1, (Config.cxlReg d.2).toNat % 2 ^ width) else (s, 0)
  else (s, 0)

/-- A read over a path: the value, or none where nothing answers. The two-wire path reaches 0x0010_0000 to 0x003F_FFFF, and a
refused access is counted (R421). -/
def State.pathRead (s : State) (path : Path) (off width : Nat) : State × Option Nat :=
  if !s.barUp path then (s, none)
  else match path with
  | .fm => if off < 2 ^ 28 then ((s.regRead off width).1, some (s.regRead off width).2) else (s, none)
  | .twoWire =>
    if off < 0x100000 || 0x400000 ≤ off || s.regOff off || width ≠ 32 || off % 4 ≠ 0 then (s.deny, none)
    else ((s.regRead off width).1, some (s.regRead off width).2)
  | .tenant n => if off < 2 ^ 24 then ((s.tenantRead n off width).1, some (s.tenantRead n off width).2) else (s, none)

/-- The value of a read leaves the device. -/
def State.answer (r : State × Option Nat) : State := match r.2 with | some v => r.1.emit (.reg v) | none => r.1

/-- RC_READ (R437). -/
def execRcRead (dt : Nat) (path : Path) (offset width : Nat) (s : State) : Host.Outcome State Fault Refusal :=
  .next (State.answer ((s.elapse dt).pathRead path offset width))
/-- RSL_READ (R436). -/
def execRslRead (dt : Nat) (path : Path) (offset width : Nat) (s : State) : Host.Outcome State Fault Refusal :=
  .next (State.answer ((s.elapse dt).pathRead path offset width))

/-! ## Writes by access code (R2, R429, R431, R432, R436) -/

/-- RWB fields go to staging (R432). -/
def State.stageFields (s : State) (base : Nat) (fs : List (Field × Access)) (v sh width : Nat) : State :=
  fs.foldl (fun s f =>
    let lo := f.1.bit - 8 * base
    if f.2 == .rwb && overlaps lo f.1.width sh width then
      let old := ((s.staged.find? (fun e => e.1 == f.1.bit)).map (·.2)).getD (s.fget f.1)
      { s with staged := tabIns f.1.bit (mergeField old lo f.1.width v sh width) (tabDel f.1.bit s.staged) }
    else s) s

/-- The counter that a saturation flag of DRC_ECC_CNT stands for is cleared with it (R438). -/
def State.clearPair (s : State) (ch : Nat) (f : Field) : State :=
  let cnt := if f == Fld.DRC_ECC_CNT.CE_SAT ch then Fld.DRC_ECC_CNT.CORRECTED ch
    else if f == Fld.DRC_ECC_CNT.UE_SAT ch then Fld.DRC_ECC_CNT.UNCORRECTABLE ch else Fld.DRC_ECC_CNT.REDRAWS ch
  (s.fset f 0).fset cnt 0

/-- Fields cleared by writing 1 (R2, R436, R438); VALID of FLT_FIRST_INFO acts as R362 states, and ALARM_HIT held no more is no
wake source (R112). -/
def State.clearOnes (s : State) (base : Nat) (ix : List Nat) (fs : List (Field × Access)) (v sh width : Nat) : State :=
  fs.foldl (fun s f =>
    let lo := f.1.bit - 8 * base
    let w := mergeField 0 lo f.1.width v sh width
    if !overlaps lo f.1.width sh width || w = 0 then s
    else if f.2 == .w1c then
      let s := s.fset f.1 (s.fget f.1 - (s.fget f.1 &&& w))
      if f.1 == Fld.CIS_TIME_STS.ALARM_HIT then s.levelOff 0 else s
    else if f.2 == .rslW1 then (if f.1 == Fld.FLT_FIRST_INFO.VALID then latchClear s else s.fset f.1 0)
    else if f.2 == .rslSat then s.clearPair (ix.headD 0) f.1
    else s) s

/-- RW fields take their values. -/
def State.setRw (s : State) (base : Nat) (fs : List (Field × Access)) (v : Nat) : State :=
  fs.foldl (fun s f => if f.2 == .rw then s.fset f.1 (v / 2 ^ (f.1.bit - 8 * base)) else s) s

/-! ## Command registers -/

/-- RNG_LD_CFG (Table 12-12, R431, R435). -/
def State.ringLdCfg (s : State) (n v : Nat) : State :=
  let pct := v / 2 ^ 16 % 256
  let cap := v % 2 ^ 15
  let s := if pct ≤ 100 then s.fset (Fld.RNG_LD_CFG.DIRECT_PCT n) pct else s
  let s := if 256 ≤ cap && cap ≤ 16384 then s.fset (Fld.RNG_LD_CFG.CMD_CAP n) cap else s
  if s.dev == .basin then s else s.cfgTouched

/-- RNG_CTL (R331): one of ENABLE, DISABLE and RESUME; more than one is not allowed in any state. -/
def State.ringCtl (s : State) (ld n v : Nat) : State :=
  match v % 8 with
  | 1 => ringEnable ld n (v.testBit 3) s
  | 2 => ringDisable ld n s
  | 4 => ringResume ld n s
  | 0 => s
  | _ => s.ctlReject ld n

/-- The observations of a port command that a plain register write starts: what its row would carry is drawn. -/
def State.flmFree (s : State) : State × FlmObs :=
  let d := s.draw
  (d.1, { param := (List.range 256).map (fun i => Config.rawByte d.2 i)
          id := (Config.cxlReg d.2)
          status := Config.rawWord d.2
          sigOk := (Config.rawWord d.2).getLsbD 0 })

/-- What a write of `v` to a register with RW or WO fields does, beside staging and W1C; indices `ix`. -/
def State.act (s : State) (path : Path) (base : Nat) (ix : List Nat) (v : Nat) (fs : List (Field × Access)) (at_ : Nat) : State :=
  let i := ix.headD 0
  let j := ix.getD 1 0
  if commitBlocks.any (fun e => e.1 == base) then (if v.testBit 0 then s.commitWrite base else s)
  else if base = 0x190060 then (bitsOf v 16 4).foldl (fun s p => s.liftIsolation p) (s.setRw at_ fs v)
  else if base = 0x1900A0 then (if v.testBit 0 then (if v.testBit 1 then fmSpill s else fmCheckpoint s) else s)
  else if base = 0x1900B0 then
    let s := s.fset Fld.COL_CKPT_CMD.BOUNDARY v
    if v.testBit 63 then colonyCheckpoint (v % 2 ^ 48) s else s
  else if base = 0x1A0090 then
    let s := if v.testBit 0 then calibrationGo (v / 16 % 4) s else s
    let s := if v.testBit 1 then calibrationAbort s else s
    if v.testBit 2 then calibrationPause s else s
  else if base = 0x1A0098 then
    let s := s.setRw at_ fs v
    if v.testBit 31 then rehearsalGo s else s
  else if base = 0x1A00B8 then (s.setRw at_ fs v).modCis (fun c => { c with alarmDone := false })
  else if base = 0x1A0300 then (s.setRw at_ fs v).reDesign
  else if base = 0x1A0100 then (s.setRw at_ fs v).zChanged i
  else if base = 0x128004 then
    (bitsOf v 8 2).foldl (fun s e => elytraOnline e s) ((bitsOf v 0 2).foldl (fun s e => elytraOffline e s) s)
  else if base = 0x130020 then (bitsOf v 0 32).foldl (fun s n => ldGo n s) s
  else if base = 0x140030 then
    (bitsOf v 0 16).foldl (fun s c => channelOut c s) ((bitsOf v 16 16).foldl (fun s c => channelIn c s) s)
  else if base = 0x150000 then flmKeyWrite v s
  else if base = 0x150004 then flmCmdWrite v s
  else if base = 0x150008 then flmAddrWrite v s
  else if base = 0x150010 then
    let d := s.flmFree
    flmData (BitVec.ofNat 64 v) d.2 (d.1.fset Fld.FLM_DATA.VALUE v)
  else if base = 0x1C0200 then
    let s := if v.testBit 1 then domainCancel i s else s
    if v.testBit 0 then domainWait i 0 (s.fget (Fld.PDM_MODE.MODE i)) s else s
  else if base = 0x1D0040 then
    let s := if v.testBit 30 then unitIsolate (v % 128) s else s
    if v.testBit 31 then unitReturn (v % 128) s else s
  else if base = 0x1D0048 then (if v.testBit 63 then injectionArm v s else s.injFields v)
  else if base = 0x1D0058 then (if v.testBit 31 then bistGo (v % 128) s else s)
  else if base = 0x1E0010 then (if v.testBit 0 then retryStart s else s)
  else if base = 0x200000 then
    match path with
    | .tenant _ => s
    | _ => s.ringLdCfg i v
  else if base = 0x20101C then s.ringCtl i j v
  else if 0x201000 ≤ base && base ≤ 0x201018 then (if s.ringSt i j == 0 then s.setRw at_ fs v else s)
  else s.setRw at_ fs v

/-- A 64-bit register whose writable fields are RW or WO: a low half is held, a high half applies both (R429). -/
def State.writeHalves (s : State) (path : Path) (row : RegRow) (ix : List Nat) (base off width v : Nat)
    (fs : List (Field × Access)) : State :=
  if width = 64 then
    ({ s with heldLow := tabDel base s.heldLow } : State).act path row.base ix v fs base
  else if off = base then { s with heldLow := tabIns base v (tabDel base s.heldLow) }
  else
    let now_ := sumNat (fs.map (fun f => s.fget f.1 * 2 ^ (f.1.bit - 8 * base))) % 2 ^ 32
    let low := ((s.heldLow.find? (fun e => e.1 == base)).map (·.2)).getD now_
    ({ s with heldLow := tabDel base s.heldLow } : State).act path row.base ix (v % 2 ^ 32 * 2 ^ 32 + low) fs base

/-- A write in BAR0 of the FM-owned LD that has passed its path's checks. -/
def State.regWrite (s : State) (path : Path) (off width v : Nat) : State :=
  if !(width == 32 && off % 4 == 0) && !(width == 64 && off % 8 == 0) then s
  else if stdReg off then s
  else if inFlmBuf off then flmBufWrite (off - 0x158000) v width s
  else match regOf off with
  | none => s
  | some (row, ix, base) =>
    if !sizeOk off width row.wide || s.regOff off then s
    else
      let s := s.regNeed off
      let fs := row.flds ix
      let v := v % 2 ^ width
      let sh := 8 * (off - base)
      let cmd := fs.any (fun f => f.2 == .rw || f.2 == .wo)
      let s := (s.stageFields base fs v sh width).clearOnes base ix fs v sh width
      if !cmd then s
      else if row.wide then s.writeHalves path row ix base off width v fs
      else s.act path row.base ix v fs base

/-- A write over a path (R333, R421, R422, Table 13-4). -/
def State.pathWrite (s : State) (path : Path) (off width v : Nat) : State :=
  if !s.barUp path then s
  else match path with
  | .fm =>
    let plunge := off == 0x1900A0 && v % 4 == 3      -- FM_SPILL is acted on, or counted, in every state (R73, R145)
    if off < 2 ^ 28 && (s.mayWrite .fm off || plunge) then s.regWrite .fm off width v else s
  | .twoWire =>
    if off < 0x100000 || !s.mayWrite .twoWire off || s.regOff off || width ≠ 32 || off % 4 ≠ 0 then s.deny
    else s.regWrite .twoWire off width v
  | .tenant n =>
    if 0x100000 ≤ off && off < 0x110000 then s.regWrite (.tenant n) (0x200000 + 0x10000 * n + (off - 0x100000)) width v else s

/-- REGISTER_WRITE (R2). -/
def execRegisterWrite (dt : Nat) (path : Path) (offset width : Nat) (value : Word) (s : State) :
    Host.Outcome State Fault Refusal := .next ((s.elapse dt).pathWrite path offset width value.toNat)

end Sys2Proof.Machine
end

