-- ==== Sys2Proof/Machine/Mailbox.lean ====
section
/-! DEFINITION. The mailboxes (R294 to R300, R170, R351): who may ask what and when, the standard commands of Table 11-6, the
vendor commands of Table 11-7, transfer, activation and the molt (R347 to R352), and the end of a configuration write (R232,
R435). The CXL return codes are log entry 40: 0 Success, 1 Background Command Started, 2 Invalid Input, 3 Unsupported,
4 Internal Error, 6 Busy, 8 FW Transfer in Progress, 9 FW Transfer Out of Order, 0xA FW Authentication Failed, 0xB Invalid
Slot, 0xD Activation Failed, Cold Reset Required, 0xE Invalid Handle, 0xF Invalid Physical Address. -/

namespace Sys2Proof.Machine

/-! ## Who may ask (Table 11-6, Table 13-4, R351) -/

/-- A mailbox answers its command. -/
def State.reply (s : State) (m : Mbox) (code : Nat) (payload : List Nat) : State := s.emit (.mbox m code payload)
/-- A vendor command is refused: Invalid Input with a status of Table 12-9 (R296). -/
def State.refuse (s : State) (status : Nat) : State := s.reply .fm 2 [status]

/-- A mailbox can be reached: the FM-owned LD's from stage 5 of a start, a tenant's while its LD can be and the device is not in
TRAINING. -/
def State.mboxUp (s : State) (m : Mbox) : Bool :=
  match m with
  | .fm => s.barUp .fm
  | .tenant n => s.tenantBar n && s.dev != .training

/-- The mailbox's last command, an Inject or Clear Poison, still waits for its write to be accepted (R295). -/
def State.mboxWaits (s : State) (m : Mbox) : Bool := s.fab.reqs.any (fun r => r.port == mboxPort && r.tag == mboxKey m)

/-- A command on a mailbox wakes domains 3 to 7 where they sleep (R402). It is answered Busy in a molt's pause and while the
mailbox still executes another command, which it runs one at a time (R295; log entry 113: DESIGN CHOICE), Unsupported where its mailbox or Basin mode does not offer it; a tenant waits
while the device is SPILLING or SEALED (log entry 40). -/
def State.mboxGate (s : State) (m : Mbox) (tenant basin : Bool) (f : State → State) : State :=
  let t := m != .fm
  let s := if s.mboxUp m then [3, 4, 5, 6, 7].foldl (fun s d => s.need d) s else s
  if !s.mboxUp m then s
  else if s.molt.isSome || s.mboxWaits m then s.reply m 6 []
  else if (s.basinLike && !basin) || (t && !tenant) then s.reply m 3 []
  else if t && s.isCut then s.reply m 6 []
  else f s

/-- A standard command of the FM that changes settings is Busy while the device is not REFILLING or SERVING (R170; log entry 40). -/
def State.mboxOpen (s : State) (m : Mbox) (f : State → State) : State := if s.isOpen then f s else s.reply m 6 []

/-- A value the manual leaves open, drawn for a response. -/
def State.mboxDraw (s : State) : State × Nat :=
  let d := s.draw
  (d.1, (Config.mboxFree d.2).toNat)

/-- Something of the standard's that the model holds no value for. -/
def info (i : Nat) : Nat := (Config.mboxInfo i).toNat

/-! ## Identity, background operations, events, timestamp -/

/-- IDENTIFY (R294): the serial number and component type 3, with what the standard lays out beside them. -/
def identify (m : Mbox) (s : State) : State :=
  s.mboxGate m true true (fun s => s.reply m 0 [Config.otpSerial.toNat, 3, info 0])
def execIdentify (dt : Nat) (m : Mbox) (s : State) : Host.Outcome State Fault Refusal := .next (identify m (s.elapse dt))

/-- BACKGROUND_OPERATION_STATUS (R294, R295): running, its opcode, percent complete. -/
def backgroundStatus (m : Mbox) (s : State) : State :=
  s.mboxGate m true true (fun s =>
    let x := s.mboxDraw
    let run := s.fab.bg.isSome
    x.1.reply m 0 [run.toNat, s.fab.bgLast, if run then x.2 % 100 else 100])
def execBackgroundOperationStatus (dt : Nat) (m : Mbox) (s : State) : Host.Outcome State Fault Refusal :=
  .next (backgroundStatus m (s.elapse dt))

/-- GET_RESPONSE_MESSAGE_LIMIT (R294). -/
def responseLimit (m : Mbox) (s : State) : State := s.mboxGate m true true (fun s => s.reply m 0 [info 1])
def execGetResponseMessageLimit (dt : Nat) (m : Mbox) (s : State) : Host.Outcome State Fault Refusal :=
  .next (responseLimit m (s.elapse dt))

/-- An event log of a mailbox. -/
def Mbx.log (m : Mbx) (l : Nat) : EvLog := tabGet ({ } : EvLog) l m.logs

/-- GET_EVENT_RECORDS (R299): overflow count, number of records, and each with its handle and its bytes. -/
def getEvents (m : Mbox) (l : Nat) (s : State) : State :=
  s.mboxGate m true true (fun s =>
    if 3 < l then s.reply m 2 []
    else
      let e := (s.mb (mboxKey m)).log l
      s.reply m 0 ([e.overflow, e.recs.length] ++ e.recs.flatMap (fun r => r.handle :: r.bytes)))
def execGetEventRecords (dt : Nat) (m : Mbox) (log : Nat) (s : State) : Host.Outcome State Fault Refusal :=
  .next (getEvents m log (s.elapse dt))

/-- CLEAR_EVENT_RECORDS (R299): every record, or the oldest ones by their handles in order; the overflow count with them. -/
def clearEvents (m : Mbox) (l : Nat) (hs : List Nat) (s : State) : State :=
  s.mboxGate m true true (fun s =>
    let e := (s.mb (mboxKey m)).log l
    let n := hs.length
    if 3 < l then s.reply m 2 []
    else if (e.recs.take n).map (·.handle) != hs then s.reply m 0xE []
    else
      let e' : EvLog := { e with recs := if n = 0 then [] else e.recs.drop n, overflow := 0 }
      (s.modMb (mboxKey m) (fun x => { x with logs := tabSet ({ } : EvLog) l e' x.logs })).reply m 0 [])
def execClearEventRecords (dt : Nat) (m : Mbox) (log : Nat) (handles : List Nat) (s : State) :
    Host.Outcome State Fault Refusal := .next (clearEvents m log handles (s.elapse dt))

/-- GET_EVENT_INTERRUPT_POLICY (R299). -/
def getPolicy (m : Mbox) (s : State) : State :=
  s.mboxGate m true false (fun s => s.reply m 0 [(s.mb (mboxKey m)).policy.toNat])
def execGetEventInterruptPolicy (dt : Nat) (m : Mbox) (s : State) : Host.Outcome State Fault Refusal :=
  .next (getPolicy m (s.elapse dt))
/-- SET_EVENT_INTERRUPT_POLICY (R299). -/
def setPolicy (m : Mbox) (p : BitVec 32) (s : State) : State :=
  s.mboxGate m true false (fun s => (s.modMb (mboxKey m) (fun x => { x with policy := p })).reply m 0 [])
def execSetEventInterruptPolicy (dt : Nat) (m : Mbox) (policy : BitVec 32) (s : State) :
    Host.Outcome State Fault Refusal := .next (setPolicy m policy (s.elapse dt))

/-- SET_TIMESTAMP (R111). -/
def setTimestamp (m : Mbox) (v : Word) (s : State) : State :=
  s.mboxGate m false true (fun s =>
    (((s.fset Fld.CIS_TS_BASE.TS_BASE v.toNat).fset Fld.CIS_TS_MARK.TS_MARK s.nowUs).fset
      Fld.CIS_TIME_STS.TIME_LOST 0).reply m 0 [])
def execSetTimestamp (dt : Nat) (m : Mbox) (value : Word) (s : State) : Host.Outcome State Fault Refusal :=
  .next (setTimestamp m value (s.elapse dt))
/-- GET_TIMESTAMP (R111). -/
def getTimestamp (m : Mbox) (s : State) : State := s.mboxGate m true true (fun s => s.reply m 0 [s.timestamp])
def execGetTimestamp (dt : Nat) (m : Mbox) (s : State) : Host.Outcome State Fault Refusal :=
  .next (getTimestamp m (s.elapse dt))

/-! ## Logs -/

/-- Opcodes a mailbox executes (Tables 11-6, 11-7). -/
def commandList (fm : Bool) : List Nat :=
  [0x0001, 0x0002, 0x0003, 0x0100, 0x0101, 0x0102, 0x0103, 0x0200] ++ (if fm then [0x0201, 0x0202] else []) ++ [0x0300] ++
  (if fm then [0x0301] else []) ++ [0x0400, 0x0401, 0x4000, 0x4100, 0x4200, 0x4201, 0x4202, 0x4203, 0x4204, 0x4300, 0x4301,
  0x4302, 0x4303, 0x4304, 0x4305, 0x4400, 0x4401] ++
  (if fm then [0x5400, 0x5401, 0x5403, 0x5404, 0x5405, 0x5406, 0x5407, 0x5408, 0x5409, 0xC000, 0xC001, 0xC002, 0xC003, 0xC004,
    0xC005, 0xC006, 0xC007] else [])

/-- GET_SUPPORTED_LOGS (R294): the Command Effects Log alone, with its size; in Basin mode a recovery command (R344). -/
def supportedLogs (m : Mbox) (s : State) : State :=
  s.mboxGate m true (s.on Fld.BOOT_STS.RECOVERY_XIP) (fun s => s.reply m 0 [1, 4 * (commandList (m == .fm)).length])
def execGetSupportedLogs (dt : Nat) (m : Mbox) (s : State) : Host.Outcome State Fault Refusal :=
  .next (supportedLogs m (s.elapse dt))
/-- GET_LOG (R294): the Command Effects Log, each opcode with its effects. -/
def getLog (m : Mbox) (s : State) : State :=
  s.mboxGate m true (s.on Fld.BOOT_STS.RECOVERY_XIP) (fun s =>
    s.reply m 0 ((commandList (m == .fm)).flatMap (fun op => [op, info (0x10000 + op) % 65536])))
def execGetLog (dt : Nat) (m : Mbox) (s : State) : Host.Outcome State Fault Refusal := .next (getLog m (s.elapse dt))

/-! ## Capacity, health, alerts, shutdown state -/

/-- Extents in bytes of LDs of the classes a test takes: of the mailbox's own LD, or of every LD. -/
def State.capacity (s : State) (m : Mbox) (p : Nat → Bool) : Nat :=
  let ns := match m with
    | .fm => allLds
    | .tenant n => [n]
  sumNat ((ns.filter (fun n => p (s.cls n))).map (fun n => (s.ld n).extSize * extUnit))

/-- IDENTIFY_MEMORY_DEVICE (R30, R294): persistent and volatile capacity by class, partition alignment 0. -/
def identifyMemory (m : Mbox) (s : State) : State :=
  s.mboxGate m true false (fun s =>
    s.reply m 0 [s.capacity m (· ≠ 2), s.capacity m (· = 2), 0, info 2])
def execIdentifyMemoryDevice (dt : Nat) (m : Mbox) (s : State) : Host.Outcome State Fault Refusal :=
  .next (identifyMemory m (s.elapse dt))
/-- GET_PARTITION_INFO (R294): active volatile and persistent capacity; no other is pending. -/
def partitionInfo (m : Mbox) (s : State) : State :=
  s.mboxGate m true false (fun s => s.reply m 0 [s.capacity m (· = 2), s.capacity m (· ≠ 2), 0, 0])
def execGetPartitionInfo (dt : Nat) (m : Mbox) (s : State) : Host.Outcome State Fault Refusal :=
  .next (partitionInfo m (s.elapse dt))

/-- Average erase count of some bands as a share of the rated cycles, in percent (R298). -/
def State.lifeOf (s : State) (bands : List Nat) : Nat :=
  let den := bands.length * s.fget Fld.RILL_GOV.CYCLES * s.fget Fld.RILL_GOV.USE_PCT
  if den = 0 then 0 else 10000 * sumNat (bands.map (fun b => tabGet 0 b s.log.erases)) / den
/-- Life Used: of the pSLC and the TLC bands the higher. -/
def State.lifeUsed (s : State) : Nat := max (s.lifeOf (s.log.free ++ s.log.used)) (s.lifeOf s.log.tlc)

/-- Maintenance needed (R298, Table 13-4). -/
def State.needsService (s : State) : Bool :=
  s.basinLike || s.deficit || (List.range 8).any (fun c => [0, 1].any (fun x => s.on (Fld.DRC_MARK.VALID c x))) ||
  s.fget Fld.LOG_CH_STS.OUT_OF_SERVICE != 0 || [0, 1].any (fun e => !s.elyIn e)
/-- Performance degraded (R298). -/
def State.degraded (s : State) : Bool :=
  allLds.any (fun n => s.bound n && s.level n == 3) || (List.range 8).any (fun c => s.on (Fld.DRC_STS.HOT c))

/-- GET_HEALTH_INFO (R298): status, life used, temperature, dirty shutdown count, corrected errors of DRAM and of flash. -/
def healthInfo (m : Mbox) (s : State) : State :=
  s.mboxGate m true true (fun s =>
    let x := s.mboxDraw
    let dsc := match m with
      | .fm => s.fab.devDsc
      | .tenant n => (s.ld n).dsc
    x.1.reply m 0 [s.needsService.toNat + 2 * s.degraded.toNat, s.lifeUsed, x.2, dsc,
      sumNat ((List.range 8).map (fun c => s.fget (Fld.DRC_ECC_CNT.CORRECTED c))),
      s.fget Fld.LOG_READ_CNT.RETRY + s.fget Fld.LOG_READ_CNT.SOFT])
def execGetHealthInfo (dt : Nat) (m : Mbox) (s : State) : Host.Outcome State Fault Refusal :=
  .next (healthInfo m (s.elapse dt))

/-- GET_ALERT_CONFIGURATION (R294). -/
def getAlert (m : Mbox) (s : State) : State := s.mboxGate m true false (fun s => s.reply m 0 [(s.mb (mboxKey m)).alert.toNat])
def execGetAlertConfiguration (dt : Nat) (m : Mbox) (s : State) : Host.Outcome State Fault Refusal :=
  .next (getAlert m (s.elapse dt))
/-- SET_ALERT_CONFIGURATION (R294). -/
def setAlert (m : Mbox) (v : Word) (s : State) : State :=
  s.mboxGate m true false (fun s => (s.modMb (mboxKey m) (fun x => { x with alert := v })).reply m 0 [])
def execSetAlertConfiguration (dt : Nat) (m : Mbox) (config : Word) (s : State) : Host.Outcome State Fault Refusal :=
  .next (setAlert m config (s.elapse dt))

/-- The LD a shutdown state belongs to: a tenant's own; the FM names one, or its own. -/
def shutdownKey (m : Mbox) (ld : Nat) : Nat :=
  match m with
  | .tenant n => n
  | .fm => if ld < 32 then ld else fmLd
/-- GET_SHUTDOWN_STATE (R300). -/
def getShutdown (m : Mbox) (ld : Nat) (s : State) : State :=
  s.mboxGate m true false (fun s => s.reply m 0 [(s.mb (shutdownKey m ld)).shutdown])
def execGetShutdownState (dt : Nat) (m : Mbox) (ld : Nat) (s : State) : Host.Outcome State Fault Refusal :=
  .next (getShutdown m ld (s.elapse dt))
/-- SET_SHUTDOWN_STATE (R300). -/
def setShutdown (m : Mbox) (ld v : Nat) (s : State) : State :=
  s.mboxGate m true false (fun s => (s.modMb (shutdownKey m ld) (fun x => { x with shutdown := v % 256 })).reply m 0 [])
def execSetShutdownState (dt : Nat) (m : Mbox) (ld value : Nat) (s : State) : Host.Outcome State Fault Refusal :=
  .next (setShutdown m ld value (s.elapse dt))

/-! ## Poison and media scans (R290, R294) -/

/-- Ranges between the listed pages. -/
def gapsOf : Nat → Nat → List Nat → List (Nat × Nat)
  | lo, hi, [] => if lo < hi then [(lo, hi - lo)] else []
  | lo, hi, k :: r => (if lo < k then [(lo, k - lo)] else []) ++ gapsOf (k + 1) hi r

/-- The device physical addresses a mailbox's media commands reach: a tenant's own extent, or the host-visible region. -/
def State.mediaRange (s : State) (m : Mbox) : Nat × Nat :=
  match m with
  | .fm => (s.hostBase, s.installed)
  | .tenant n => ((s.ld n).extBase * extUnit, ((s.ld n).extBase + (s.ld n).extSize) * extUnit)
/-- An address range lies within it. -/
def State.inMedia (s : State) (m : Mbox) (dpa len : Nat) : Bool :=
  decide ((s.mediaRange m).1 ≤ dpa) && decide (dpa + len ≤ (s.mediaRange m).2)

/-- The poison list: pages that are POISONED, by page or by run of unlisted pages, the poisoned lines of other pages (log
entry 10), the poisoned lines of eddy copies by their page (R264), and the lines that scans found. -/
def State.poisonList (s : State) (m : Mbox) : List (Nat × Nat) :=
  let pages := (s.fab.poison.filter (fun p => (s.page p).st == .poisoned)).map (fun p => (p * 4096, 4096))
  let runs := (allLds.filter (fun n => (s.ld n).dflt = 2)).flatMap (fun n =>
    (gapsOf ((s.ld n).extBase * extPages) (((s.ld n).extBase + (s.ld n).extSize) * extPages)
      ((s.pagesOf n).map (·.1))).map (fun g => (g.1 * 4096, g.2 * 4096)))
  let found := s.fab.found.map (fun l => (l * 64, 64))
  let copies := (s.eddy.flatMap (fun e => e.2.body.poison.map (fun l => (e.2.page * 4096 + l * 64, 64)))).dedup
  let lines := (s.poison.filter (fun e => e.2 && (s.page (e.1 / 64)).st != .poisoned)).map (fun e => (e.1 * 64, 64))
  (pages ++ runs ++ lines ++ (found ++ copies.filter (fun e => !found.contains e)).filter (fun e => !lines.contains e)).filter (fun e => s.inMedia m e.1 e.2)
/-- GET_POISON_LIST (R290). -/
def poisonListCmd (m : Mbox) (s : State) : State :=
  s.mboxGate m true false (fun s => s.reply m 0 ((s.poisonList m).flatMap (fun e => [e.1, e.2])))
def execGetPoisonList (dt : Nat) (m : Mbox) (s : State) : Host.Outcome State Fault Refusal :=
  .next (poisonListCmd m (s.elapse dt))

/-- One line written as an accepted write (R294): through steps 4 to 8 of Table 11-3 for a page of an LD, straight to DRAM for a
page of none. The command is answered when the write is accepted. -/
def State.mboxWrite (s : State) (m : Mbox) (dpa : Nat) (data : Line) (poison : Bool) : State :=
  if !s.inMedia m dpa 64 then s.reply m 0xF []
  else if dpa % 64 ≠ 0 then s.reply m 2 []
  else if !s.isOpen then s.reply m 6 []
  else
    match s.ldOfPage (dpa / 4096) with
    | none => (((s.writeBytes dpa data (BitVec.allOnes 64)).setPoison (dpa / 64) poison).modFab
        (fun f => { f with found := setDel (dpa / 64) f.found })).reply m 0 []
    | some n =>
      let rid := s.fab.nextRid
      let r := Req.mk rid mboxPort 0 n .write dpa dpa data (BitVec.allOnes 64) poison (mboxKey m) .order false
      let s := s.modFab (fun f => { f with reqs := f.reqs ++ [r], nextRid := rid + 1 })
      ((s.step4 r).settle).showWeir
/-- INJECT_POISON (R294). -/
def injectPoison (m : Mbox) (dpa : Nat) (s : State) : State :=
  s.mboxGate m true false (fun s => s.mboxWrite m dpa 0 true)
def execInjectPoison (dt : Nat) (m : Mbox) (dpa : Nat) (s : State) : Host.Outcome State Fault Refusal :=
  .next (injectPoison m dpa (s.elapse dt))
/-- CLEAR_POISON (R294). -/
def clearPoison (m : Mbox) (dpa : Nat) (data : Line) (s : State) : State :=
  s.mboxGate m true false (fun s => s.mboxWrite m dpa data false)
def execClearPoison (dt : Nat) (m : Mbox) (dpa : Nat) (data : Line) (s : State) : Host.Outcome State Fault Refusal :=
  .next (clearPoison m dpa data (s.elapse dt))

/-- GET_SCAN_MEDIA_CAPABILITIES (R294): an estimate of the time a scan takes. -/
def scanCaps (m : Mbox) (s : State) : State :=
  s.mboxGate m true false (fun s =>
    let x := s.mboxDraw
    x.1.reply m 0 [x.2])
def execGetScanMediaCapabilities (dt : Nat) (m : Mbox) (s : State) : Host.Outcome State Fault Refusal :=
  .next (scanCaps m (s.elapse dt))

/-- SCAN_MEDIA (R294, R295): every line of the range is read, and the flash copy of its CLEAN pages; `bad` are the lines that
did not read back. The model ends the background operation with the command (log entry 41). -/
def scanMedia (m : Mbox) (dpa lines : Nat) (bad : List Nat) (s : State) : State :=
  s.mboxGate m true false (fun s =>
    let lo := dpa / 64
    let inR := fun (l : Nat) => decide (lo ≤ l) && decide (l < lo + lines)
    let known := (s.poison.filter (fun e => e.2 && inR e.1)).map (·.1)
    if s.fab.bg.isSome || !s.isOpen then s.reply m 6 []
    else if dpa % 64 ≠ 0 then s.reply m 2 []
    else if !s.inMedia m dpa (64 * lines) then s.reply m 0xF []
    else
      let found := (known ++ bad.filter inR).foldl (fun l x => setIns x l) []
      let s := s.modMb (mboxKey m) (fun x => { x with
        scan := found.foldl (fun l y => setIns y l) (x.scan.filter (fun l => !inR l))
        scanDone := true })
      (s.modFab (fun f => { f with bgLast := 0x4304, found := found.foldl (fun l y => setIns y l) f.found })).reply m 1 [])
def execScanMedia (dt : Nat) (m : Mbox) (dpa lines : Nat) (bad : List Nat) (s : State) :
    Host.Outcome State Fault Refusal := .next (scanMedia m dpa lines bad (s.elapse dt))

/-- GET_SCAN_MEDIA_RESULTS (R294): the lines the last scan found. -/
def scanResults (m : Mbox) (s : State) : State :=
  s.mboxGate m true false (fun s =>
    if (s.mb (mboxKey m)).scanDone then s.reply m 0 ((s.mb (mboxKey m)).scan.flatMap (fun l => [64 * l, 64])) else s.reply m 3 [])
def execGetScanMediaResults (dt : Nat) (m : Mbox) (s : State) : Host.Outcome State Fault Refusal :=
  .next (scanResults m (s.elapse dt))

/-! ## Sanitize and Secure Erase (R297, R319) -/

/-- On a tenant LD: SANITIZE_LD as a background operation. -/
def State.sanitizeTenant (s : State) (n op : Nat) : State :=
  let l := s.ld n
  if s.fab.bg.isSome || !s.isOpen then s.reply (.tenant n) 6 []
  else if l.st != .quiesced || !l.pending.isEmpty || l.ckpts.any (fun c => s.namedSource n c.id) then s.reply (.tenant n) 2 []
  else ((s.newKey n).modFab (fun f => { f with bg := some (.sanitize n), bgStep := 1, bgLast := op })).reply (.tenant n) 1 []

/-- The keys of every LD are destroyed. -/
def State.destroyKeys (s : State) : State :=
  let s := allLds.foldl (fun s n => s.modLd n (fun l => { l with keyGen := l.keyGen + 1 })) s
  (s.modFab (fun f => { f with sanitized := true })).cfgTouched

/-- Every log band is erased and DRAM zero-filled: nothing of any LD's content is left, and every page is CLEAN with LENGTH 0,
VOLATILE ones but for their state. -/
def State.eraseAll (s : State) : State :=
  let s := allLds.foldl (fun s n => (s.dropWork n).modLd n (fun l => { l with ckpts := [], owed := 0 })) s
  let bands := sortBy id (s.log.used ++ s.log.free ++ s.log.tlc)
  let tlc := s.log.tlc
  let up := fun (m : List (Nat × Nat)) (b : Nat) => tabSet 0 b (tabGet 0 b m + (if tlc.contains b then 3 else 1)) m
  let wipe : LogState → LogState := fun l => { l with
    stripes := []
    unit := 0
    used := []
    free := bands
    tlc := []
    tlcUnit := 0
    fold := []
    reloc := []
    written := false
    erasing := none
    reErase := []
    dieOps := []
    scrubLeft := []
    scrubOn := []
    poisonDue := []
    recDue := []
    erases := bands.foldl up l.erases }
  let s : State := { s with
    log := wipe s.log
    flash := []
    recIdx := []
    stripesOn := []
    sealedImg := none
    dram := []
    poison := []
    eddy := [] }
  let s := s.modRill (fun r => { r with sel := [], ready := [], directed := [] })
  let s := allLds.foldl (fun s n => ((s.clearPages n (if s.cls n == 2 then 3 else 0)).modLd n
    (fun l => { l with poisoned := false })).showCkpts n) s
  (((s.modFab (fun f => { f with poison := [], found := [] })).showWindow).settle).showWeir

/-- On the FM-owned LD: at once (log entry 41). -/
def State.sanitizeFm (s : State) (erase : Bool) (op : Nat) : State :=
  if s.fab.bg.isSome || !s.isOpen then s.reply .fm 6 []
  else
    let s := (s.destroyKeys).modFab (fun f => { f with bgLast := op })
    (if erase then s.eraseAll else s).reply .fm 0 []

/-- SANITIZE (R297). -/
def sanitize (m : Mbox) (s : State) : State :=
  s.mboxGate m true false (fun s => match m with
    | .fm => s.sanitizeFm true 0x4400
    | .tenant n => s.sanitizeTenant n 0x4400)
def execSanitize (dt : Nat) (m : Mbox) (s : State) : Host.Outcome State Fault Refusal := .next (sanitize m (s.elapse dt))
/-- SECURE_ERASE (R297). -/
def secureErase (m : Mbox) (s : State) : State :=
  s.mboxGate m true false (fun s => match m with
    | .fm => s.sanitizeFm false 0x4401
    | .tenant n => s.sanitizeTenant n 0x4401)
def execSecureErase (dt : Nat) (m : Mbox) (s : State) : Host.Outcome State Fault Refusal :=
  .next (secureErase m (s.elapse dt))

/-! ## LD information and QoS (R288, R289) -/

/-- GET_LD_INFO (R294): memory of a port's LDs and their number. -/
def ldInfo (m : Mbox) (p : Nat) (s : State) : State :=
  s.mboxGate m false false (fun s =>
    if 2 ≤ p then s.reply m 2 []
    else s.reply m 0 [sumNat ((s.ldsOn p).map (fun n => (s.ld n).extSize * extUnit)), (s.ldsOn p).length, info 3])
def execGetLdInfo (dt : Nat) (m : Mbox) (port : Nat) (s : State) : Host.Outcome State Fault Refusal :=
  .next (ldInfo m port (s.elapse dt))
/-- GET_LD_ALLOCATIONS (R294): LD-IDs and extents of a port's bound LDs, in 256 MiB units. -/
def ldAllocations (m : Mbox) (p : Nat) (s : State) : State :=
  s.mboxGate m false false (fun s =>
    if 2 ≤ p then s.reply m 2 []
    else s.reply m 0 ((s.ldsOn p).flatMap (fun n => [(s.ld n).ldId, (s.ld n).extBase, (s.ld n).extSize])))
def execGetLdAllocations (dt : Nat) (m : Mbox) (port : Nat) (s : State) : Host.Outcome State Fault Refusal :=
  .next (ldAllocations m port (s.elapse dt))
/-- SET_LD_ALLOCATIONS (Table 11-6): unsupported. -/
def setLdAllocations (m : Mbox) (s : State) : State := s.mboxGate m true true (fun s => s.reply m 3 [])
def execSetLdAllocations (dt : Nat) (m : Mbox) (s : State) : Host.Outcome State Fault Refusal :=
  .next (setLdAllocations m (s.elapse dt))

/-- GET_QOS_CONTROL (R289). -/
def getQos (m : Mbox) (p : Nat) (s : State) : State :=
  s.mboxGate m false false (fun s =>
    if 2 ≤ p then s.reply m 2 []
    else s.reply m 0 [s.fget Fld.FAB_DEVLOAD_CFG.LOAD_MOD, s.fget Fld.FAB_DEVLOAD_CFG.LOAD_SEV, (tabGet 0 p s.fab.qosOther).toNat])
def execGetQosControl (dt : Nat) (m : Mbox) (port : Nat) (s : State) : Host.Outcome State Fault Refusal :=
  .next (getQos m port (s.elapse dt))
/-- SET_QOS_CONTROL (R289): the percentages set LOAD_MOD and LOAD_SEV where Table 11-13 allows them; the rest is stored. -/
def setQos (m : Mbox) (p modPct sevPct : Nat) (other : Word) (s : State) : State :=
  s.mboxGate m false false (fun s => s.mboxOpen m (fun s =>
    let t := (s.fset Fld.FAB_DEVLOAD_CFG.LOAD_MOD modPct).fset Fld.FAB_DEVLOAD_CFG.LOAD_SEV sevPct
    if decide (2 ≤ p) || decide (100 < modPct) || decide (100 < sevPct) || !t.loadOk then s.reply m 2 []
    else ((t.modFab (fun f => { f with qosOther := tabSet 0 p other f.qosOther })).cfgTouched).reply m 0 []))
def execSetQosControl (dt : Nat) (m : Mbox) (port modPct sevPct : Nat) (other : Word) (s : State) :
    Host.Outcome State Fault Refusal := .next (setQos m port modPct sevPct other (s.elapse dt))
/-- GET_QOS_STATUS (R289): a measured percentage. -/
def qosStatus (m : Mbox) (p : Nat) (s : State) : State :=
  s.mboxGate m false false (fun s =>
    let x := s.mboxDraw
    if 2 ≤ p then s.reply m 2 [] else x.1.reply m 0 [x.2])
def execGetQosStatus (dt : Nat) (m : Mbox) (port : Nat) (s : State) : Host.Outcome State Fault Refusal :=
  .next (qosStatus m port (s.elapse dt))

/-- A field of the LD under each LD-ID of a port, 0 where none is bound. -/
def State.byLdId (s : State) (p : Nat) (f : Nat → Field) : List Nat :=
  (List.range 16).map (fun i => match s.ldAt p i with
    | some n => s.fget (f n)
    | none => 0)
/-- Fractions are stored for the LDs bound under LD-IDs from `start` on (R288). -/
def State.setByLdId (s : State) (m : Mbox) (p start : Nat) (vs : List Nat) (f : Nat → Field) : State :=
  if decide (2 ≤ p) || decide (16 < start + vs.length) || vs.any (fun v => decide (255 < v)) then s.reply m 2 []
  else
    let s := ((List.range vs.length).zip vs).foldl (fun s e => match s.ldAt p (start + e.1) with
      | some n => s.fset (f n) e.2
      | none => s) s
    s.cfgTouched.reply m 0 []

/-- GET_QOS_ALLOCATED_BW (R288). -/
def getAlloc (m : Mbox) (p : Nat) (s : State) : State :=
  s.mboxGate m false false (fun s => if 2 ≤ p then s.reply m 2 [] else s.reply m 0 (s.byLdId p Fld.SLU_LD_PCFG.BW_ALLOC))
def execGetQosAllocatedBw (dt : Nat) (m : Mbox) (port : Nat) (s : State) : Host.Outcome State Fault Refusal :=
  .next (getAlloc m port (s.elapse dt))
/-- SET_QOS_ALLOCATED_BW (R288). -/
def setAlloc (m : Mbox) (p start : Nat) (vs : List Nat) (s : State) : State :=
  s.mboxGate m false false (fun s => s.mboxOpen m (fun s => s.setByLdId m p start vs Fld.SLU_LD_PCFG.BW_ALLOC))
def execSetQosAllocatedBw (dt : Nat) (m : Mbox) (port start : Nat) (fractions : List Nat) (s : State) :
    Host.Outcome State Fault Refusal := .next (setAlloc m port start fractions (s.elapse dt))
/-- GET_QOS_BW_LIMIT (R288). -/
def getLimit (m : Mbox) (p : Nat) (s : State) : State :=
  s.mboxGate m false false (fun s => if 2 ≤ p then s.reply m 2 [] else s.reply m 0 (s.byLdId p Fld.SLU_LD_PCFG.BW_LIMIT))
def execGetQosBwLimit (dt : Nat) (m : Mbox) (port : Nat) (s : State) : Host.Outcome State Fault Refusal :=
  .next (getLimit m port (s.elapse dt))
/-- SET_QOS_BW_LIMIT (R288). -/
def setLimit (m : Mbox) (p start : Nat) (vs : List Nat) (s : State) : State :=
  s.mboxGate m false false (fun s => s.mboxOpen m (fun s => s.setByLdId m p start vs Fld.SLU_LD_PCFG.BW_LIMIT))
def execSetQosBwLimit (dt : Nat) (m : Mbox) (port start : Nat) (fractions : List Nat) (s : State) :
    Host.Outcome State Fault Refusal := .next (setLimit m port start fractions (s.elapse dt))

/-- MAILBOX_UNSUPPORTED (R294). -/
def mailboxUnsupported (m : Mbox) (s : State) : State := s.mboxGate m true true (fun s => s.reply m 3 [])
def execMailboxUnsupported (dt : Nat) (m : Mbox) (_opcode : Nat) (s : State) : Host.Outcome State Fault Refusal :=
  .next (mailboxUnsupported m (s.elapse dt))

/-! ## Vendor commands (Table 11-7) -/

/-- GET_PERSIST_INFO (R295): device state, newest sealed generation, owed count, W and W_hard in pages. -/
def persistInfo (m : Mbox) (s : State) : State :=
  s.mboxGate m false true (fun s => s.reply m 0 [s.dev.code, s.fget Fld.SPL_GEN.GENERATION, s.fget Fld.WEIR_OWED.OWED,
    s.fget Fld.WEIR_STS.WEIR_PAGES, s.fget Fld.WEIR_STS.HARD_PAGES])
def execGetPersistInfo (dt : Nat) (m : Mbox) (s : State) : Host.Outcome State Fault Refusal :=
  .next (persistInfo m (s.elapse dt))

/-- A vendor command about an LD of the FM's is NOT_PERMITTED while the device is not REFILLING or SERVING (R296, R170); an LD number
above 31 is an INVALID_FIELD. -/
def State.vendorTurn (s : State) (n : Nat) (f : State → State) : State :=
  if !s.isOpen then s.refuse 0x0B else if 32 ≤ n then s.refuse 3 else f s
def State.vendor (s : State) (m : Mbox) (n : Nat) (f : State → State) : State :=
  s.mboxGate m false false (fun s => s.vendorTurn n f)
/-- A vendor command that runs as a background operation is Busy while another runs (R295). -/
def State.vendorBg (s : State) (m : Mbox) (n : Nat) (f : State → State) : State :=
  s.mboxGate m false false (fun s => if s.fab.bg.isSome then s.reply m 6 [] else s.vendorTurn n f)

/-- SET_LD_EXTENT (R278). -/
def setLdExtent (m : Mbox) (n base size : Nat) (s : State) : State :=
  s.vendor m n (fun s =>
    if s.bound n || !(s.ld n).ckpts.isEmpty then s.refuse 0x0B
    else if !s.extentOk n base size then s.refuse 5
    else (((s.setExtent n base size).settle).showWeir).reply m 0 [])
def execSetLdExtent (dt : Nat) (m : Mbox) (ld base size : Nat) (s : State) : Host.Outcome State Fault Refusal :=
  .next (setLdExtent m ld base size (s.elapse dt))

/-- BIND_LD (R279). -/
def bindLd (m : Mbox) (n p id : Nat) (s : State) : State :=
  s.vendor m n (fun s =>
    if s.bound n || decide ((s.ld n).extSize = 0) then s.refuse 0x0B
    else
      let c := s.placeCheck n p id
      if c ≠ 0 then s.refuse c else (s.bindLd n p id).reply m 0 [])
def execBindLd (dt : Nat) (m : Mbox) (ld port ldId : Nat) (s : State) : Host.Outcome State Fault Refusal :=
  .next (bindLd m ld port ldId (s.elapse dt))

/-- REBIND_LD (R280). -/
def rebindLd (m : Mbox) (n p id : Nat) (s : State) : State :=
  s.vendor m n (fun s =>
    if !s.bound n then s.refuse 0x0B
    else
      let c := s.placeCheck n p id
      if c ≠ 0 then s.refuse c else (s.rebindLd n p id).reply m 0 [])
def execRebindLd (dt : Nat) (m : Mbox) (ld port ldId : Nat) (s : State) : Host.Outcome State Fault Refusal :=
  .next (rebindLd m ld port ldId (s.elapse dt))

/-- A background operation of the FM's begins (R295). -/
def State.background (s : State) (m : Mbox) (b : BgOp) (op : Nat) : State :=
  (s.modFab (fun f => { f with bg := some b, bgStep := 0, bgLast := op })).reply m 1 []

/-- UNBIND_LD (R281). -/
def unbindCmd (m : Mbox) (n : Nat) (s : State) : State :=
  s.vendorBg m n (fun s =>
    if (s.ld n).st != .quiesced then s.refuse 0x0B
    else (((s.unbindBegin n).background m (.unbind n) 0xC004).settle).showWeir)
def execUnbindLd (dt : Nat) (m : Mbox) (ld : Nat) (s : State) : Host.Outcome State Fault Refusal :=
  .next (unbindCmd m ld (s.elapse dt))
/-- UNBIND_COMPLETE (R281). -/
def unbindComplete (n : Nat) (s : State) : State :=
  if decide (n < 32) && s.isOpen && s.unbindReady n then
    ((s.unbindLd n).modFab (fun f => { f with bg := none })).reply .fm 0 []
  else s
def execUnbindComplete (dt ld : Nat) (s : State) : Host.Outcome State Fault Refusal := .next (unbindComplete ld (s.elapse dt))

/-- QUIESCE_LD (R34). -/
def quiesceCmd (m : Mbox) (n : Nat) (s : State) : State :=
  s.vendorBg m n (fun s =>
    let t := s.now
    if (s.ld n).st != .refilling && (s.ld n).st != .serving then s.refuse 0x0B
    else (s.modLd n (fun l => { l with quiesce := some t })).background m (.quiesce n) 0xC005)
def execQuiesceLd (dt : Nat) (m : Mbox) (ld : Nat) (s : State) : Host.Outcome State Fault Refusal :=
  .next (quiesceCmd m ld (s.elapse dt))
/-- QUIESCE_COMPLETE (R34). -/
def quiesceComplete (n : Nat) (s : State) : State :=
  if decide (n < 32) && s.isOpen && s.quiesced n then
    ((s.enterQuiesced n).modFab (fun f => { f with bg := none })).reply .fm 0 []
  else s
def execQuiesceComplete (dt ld : Nat) (s : State) : Host.Outcome State Fault Refusal :=
  .next (quiesceComplete ld (s.elapse dt))

/-- RESUME_LD (R34, R192). -/
def resumeCmd (m : Mbox) (n : Nat) (s : State) : State :=
  s.vendor m n (fun s => if s.mayResume n then (s.resumeLd n).reply m 0 [] else s.refuse 0x0B)
def execResumeLd (dt : Nat) (m : Mbox) (ld : Nat) (s : State) : Host.Outcome State Fault Refusal :=
  .next (resumeCmd m ld (s.elapse dt))

/-- REG_ACCESS (R295): one access in the FM-owned LD's BAR0; a write that Basin mode does not take is NOT_PERMITTED. -/
def regAccess (m : Mbox) (off width : Nat) (write : Bool) (v : Nat) (s : State) : State :=
  s.mboxGate m false true (fun s =>
    if 2 ^ 28 ≤ off then s.refuse 5
    else if write then
      if !s.fmWritable off && !(off == 0x1900A0 && v % 4 == 3) then s.refuse 0x0B
      else (s.regWrite .fm off width v).reply m 0 []
    else ((s.regRead off width).1).reply m 0 [(s.regRead off width).2])
def execRegAccess (dt : Nat) (m : Mbox) (offset width : Nat) (write : Bool) (value : Word) (s : State) :
    Host.Outcome State Fault Refusal := .next (regAccess m offset width write value.toNat (s.elapse dt))

/-! ## Firmware (R346 to R352) -/

/-- GET_FW_INFO: two slots, the running and the stored version; slot 2 can be activated online. -/
def fwInfo (m : Mbox) (s : State) : State :=
  s.mboxGate m true true (fun s => s.reply m 0 [2, 1, s.fget Fld.BOOT_FW.VERSION, s.fget Fld.BOOT_FW_STORED.VERSION, 1])
def execGetFwInfo (dt : Nat) (m : Mbox) (s : State) : Host.Outcome State Fault Refusal := .next (fwInfo m (s.elapse dt))

/-- Boot copy `k` is erased. -/
def State.eraseCopy (s : State) (k : Nat) : State :=
  let bs := (List.range (s.blocksOf 8)).map (fun i => blockKey (128 * k) (s.goodBlock (128 * k) i))
  let s := s.modBoot (fun b => { b with copies := tabDel k b.copies, byPort := setDel k b.byPort })
  { s with flm := { s.flm with
      filled := s.flm.filled.filter (fun b => !bs.contains b)
      raw := s.flm.raw.filter (fun e => !bs.contains (e.1 / 2 ^ 13))
      words := s.flm.words.filter (fun e => !bs.contains (e.1 / 2 ^ 17))
      nops := s.flm.nops.filter (fun e => !bs.contains (e.1 / 2 ^ 13)) } }

/-- The target copy of a transfer (R348). -/
def State.xferTarget (s : State) : Nat := if s.dev == .basin && s.boot.xip == some 3 then 2 else 3
/-- A transfer is open, and not yet propagating. -/
def State.xferOpen (s : State) : Bool := s.boot.xfer.any (fun x => x.img.isNone)
/-- The image limit, 6 MiB (R346). -/
def imageMax : Nat := 6291456

/-- The target copy is to be rewritten from the loaded copy (R338, R348). -/
def State.repairCopy (s : State) (k : Nat) : State :=
  if s.boot.loaded.isSome && !s.boot.repair.contains k then
    (s.modBoot (fun b => { b with repair := b.repair ++ [k] })).fset Fld.BOOT_STS.REPAIR_ACTIVE 1
  else s
/-- The open transfer is abandoned (R347). -/
def State.xferAbandon (s : State) : State :=
  ((s.modBoot (fun b => { b with xfer := none })).fset Fld.BOOT_XFER.STATE 6).repairCopy (s.fget Fld.BOOT_XFER.TARGET_COPY)

/-- What a part of a transfer is judged by (R347): 0 taken, 1 an identical repeat, else the return code plus 1. -/
def State.partCheck (s : State) (first : Bool) (slot off len : Nat) (digest : Word) : Nat :=
  if slot ≠ 2 then 0xC
  else if s.fab.bg == some .transferFw then 9
  else if s.boot.xfer.any (fun x => x.last == some (off, len, digest)) then 1
  else if len % 128 ≠ 0 || imageMax < off + len then 3
  else if first then (if off ≠ 0 then 0xA else 0)
  else if !s.xferOpen || off ≠ s.fget Fld.BOOT_XFER.NEXT_OFFSET then 0xA else 0

/-- A part is programmed into the target copy. -/
def State.xferPart (s : State) (off len : Nat) (digest : Word) : State :=
  let t := s.now
  ((s.modBoot (fun b => { b with xfer := some (Xfer.mk t (some (off, len, digest)) none []) })).fset Fld.BOOT_XFER.NEXT_OFFSET
    (off + len)).bootWritten (s.fget Fld.BOOT_XFER.TARGET_COPY)
/-- A transfer opens (R348): the target copy is erased. -/
def State.xferBegin (s : State) (off len : Nat) (digest : Word) : State :=
  let k := s.xferTarget
  let s := (s.eraseCopy k).modBoot (fun b => { b with repair := b.repair.filter (· ≠ k) })
  let s := ((s.fset Fld.BOOT_XFER.STATE 1).fset Fld.BOOT_XFER.TARGET_COPY k).fset Fld.BOOT_XFER.COPIES_WRITTEN 0
  ((s.fput Fld.BOOT_STS.REPAIR_ACTIVE (!s.boot.repair.isEmpty)).xferPart off len digest).showCopies

/-- A repeat: Success, and nothing is written. -/
def State.xferRepeat (s : State) (m : Mbox) : State :=
  let t := s.now
  (s.modBoot (fun b => { b with xfer := b.xfer.map (fun x => { x with lastAt := t }) })).reply m 0 []

/-- A Transfer FW action, by how its part is judged (R347). -/
def State.transfer (s : State) (m : Mbox) (c : Nat) (f : State → State) : State :=
  if s.isCut then s.reply m 6 []
  else if c = 0 then f s
  else if c = 1 then s.xferRepeat m
  else s.reply m (c - 1) []

/-- TRANSFER_FW_INITIATE (R347, R348). -/
def transferInitiate (m : Mbox) (slot off len : Nat) (digest : Word) (s : State) : State :=
  s.mboxGate m false true (fun s => s.transfer m (s.partCheck true slot off len digest)
    (fun s => (s.xferBegin off len digest).reply m 0 []))
def execTransferFwInitiate (dt : Nat) (m : Mbox) (slot offset length : Nat) (digest : Word) (s : State) :
    Host.Outcome State Fault Refusal := .next (transferInitiate m slot offset length digest (s.elapse dt))
/-- TRANSFER_FW_CONTINUE (R347). -/
def transferContinue (m : Mbox) (slot off len : Nat) (digest : Word) (s : State) : State :=
  s.mboxGate m false true (fun s => s.transfer m (s.partCheck false slot off len digest)
    (fun s => (s.xferPart off len digest).reply m 0 []))
def execTransferFwContinue (dt : Nat) (m : Mbox) (slot offset length : Nat) (digest : Word) (s : State) :
    Host.Outcome State Fault Refusal := .next (transferContinue m slot offset length digest (s.elapse dt))

/-- The turn of a copy in the propagation (R349): before the fetch copy, the mapping moves to the target copy; the copy is
erased. -/
def State.copyTurn (s : State) (k : Nat) : State :=
  let s := if s.dev == .basin && s.boot.xip == some k then s.setXip (some (s.fget Fld.BOOT_XFER.TARGET_COPY)) else s
  (s.eraseCopy k).showCopies

/-- A copy holds the transferred image and passed its check. -/
def State.copyDone (s : State) (k : Nat) (img : Image) : State :=
  (s.putCopy k img).fset Fld.BOOT_XFER.COPIES_WRITTEN (s.fget Fld.BOOT_XFER.COPIES_WRITTEN ||| 2 ^ k)

/-- The check at End (R349, R336), and the propagation's beginning. -/
def State.xferEnd (s : State) (m : Mbox) (img : Image) : State :=
  let k := s.fget Fld.BOOT_XFER.TARGET_COPY
  if imgValid img && imgFits img then
    let rest := [3, 2, 1, 0].filter (· ≠ k)
    let fetch := fun (x : Nat) => s.dev == .basin && s.boot.xip == some x
    let left := rest.filter (fun x => !fetch x) ++ rest.filter fetch
    let s := (s.copyDone k img).fset Fld.BOOT_XFER.STATE 3
    let s := s.modBoot (fun b => { b with
      xfer := b.xfer.map (fun x => { x with img := some img, left := left })
      repair := [] })
    let s := (s.fset Fld.BOOT_STS.REPAIR_ACTIVE 0).copyTurn (left.headD 0)
    s.background m .transferFw 0x0201
  else
    let s := ((s.putCopy k img).fset Fld.BOOT_XFER.STATE 5).modBoot (fun b => { b with xfer := none })
    ((s.repairCopy k).showCopies).reply m 0xA []

/-- A background operation other than a propagation runs: End and Full, which run as one themselves, are Busy (R295). -/
def State.bgOther (s : State) : Bool := s.fab.bg.isSome && s.fab.bg != some .transferFw

/-- TRANSFER_FW_END (R347, R349). -/
def transferEnd (m : Mbox) (slot off len : Nat) (digest : Word) (img : Image) (s : State) : State :=
  s.mboxGate m false true (fun s => if s.bgOther then s.reply m 6 [] else
    s.transfer m (s.partCheck false slot off len digest) (fun s => (s.xferPart off len digest).xferEnd m img))
def execTransferFwEnd (dt : Nat) (m : Mbox) (slot offset length : Nat) (digest : Word) (img : Image) (s : State) :
    Host.Outcome State Fault Refusal := .next (transferEnd m slot offset length digest img (s.elapse dt))
/-- TRANSFER_FW_FULL (R347). -/
def transferFull (m : Mbox) (slot off len : Nat) (digest : Word) (img : Image) (s : State) : State :=
  s.mboxGate m false true (fun s => if s.bgOther then s.reply m 6 [] else
    s.transfer m (s.partCheck true slot off len digest) (fun s => (s.xferBegin off len digest).xferEnd m img))
def execTransferFwFull (dt : Nat) (m : Mbox) (slot offset length : Nat) (digest : Word) (img : Image) (s : State) :
    Host.Outcome State Fault Refusal := .next (transferFull m slot offset length digest img (s.elapse dt))
/-- TRANSFER_FW_ABORT (R347): with none open it changes nothing, and a propagation goes on. -/
def transferAbort (m : Mbox) (s : State) : State :=
  s.mboxGate m false true (fun s =>
    if s.isCut then s.reply m 6 []
    else if s.fab.bg == some .transferFw then s.reply m 8 []
    else (if s.xferOpen then s.xferAbandon else s).reply m 0 [])
def execTransferFwAbort (dt : Nat) (m : Mbox) (s : State) : Host.Outcome State Fault Refusal :=
  .next (transferAbort m (s.elapse dt))
/-- TRANSFER_IDLE_TIMEOUT (R347): 60 s without a part. -/
def transferIdle (s : State) : State :=
  if s.xferOpen && s.boot.xfer.any (fun x => decide (x.lastAt + 60000000000 ≤ s.now)) then s.xferAbandon else s
def execTransferIdleTimeout (dt : Nat) (s : State) : Host.Outcome State Fault Refusal := .next (transferIdle (s.elapse dt))

/-- The background operation of a transfer ends. -/
def State.xferOver (s : State) (st code : Nat) : State :=
  let s := (s.modBoot (fun b => { b with xfer := none })).fset Fld.BOOT_XFER.STATE st
  ((s.modFab (fun f => { f with bg := none })).showCopies).reply .fm code []
/-- FW_PROPAGATE_COPY_DONE (R349): the copy of the turn is written and checked; a copy that fails ends the transfer (log entry
42). T stops the loader (R149). -/
def propagateDone (copy : Nat) (ok : Bool) (s : State) : State :=
  match s.boot.xfer with
  | some (Xfer.mk at_ last (some img) (k :: rest)) =>
    if k != copy || s.isCut || s.dev == .off then s
    else if !ok then s.xferOver 5 4
    else
      let s := (s.copyDone k img).modBoot (fun b => { b with xfer := some (Xfer.mk at_ last (some img) rest) })
      match rest with
      | [] => s.xferOver 4 0
      | j :: _ => s.copyTurn j
  | _ => s
def execFwPropagateCopyDone (dt copy : Nat) (ok : Bool) (s : State) : Host.Outcome State Fault Refusal :=
  .next (propagateDone copy ok (s.elapse dt))

/-! ## Activation and the molt (R350 to R352) -/

/-- The best stored image. -/
def State.stored (s : State) : Option (Nat × Image) := bestCopy s.goodCopies

/-- A molt begins (R351): doorbells are kept, mailboxes are busy; the maintenance port's sequence and session end
(Table 18-5, R234). -/
def State.moltBegin (s : State) : State :=
  let t := s.now
  let st := s.flmSt
  let s := if 1 ≤ st && st ≤ 4 then s.fset Fld.FLM_STS.STATE 0 else s
  let s := (s.closeSession.fset Fld.BOOT_STS.MOLT_ACTIVE 1).fset Fld.BOOT_STS.START_KIND 4
  { s with molt := some t }

/-- Why an activation cannot molt now (R350): Busy. -/
def State.moltBusy (s : State) : Bool :=
  !s.isOpen || s.col.window.isSome || s.calRuns || s.rehearsing

/-- ACTIVATE_FW, online and offline (R350). -/
def activate (online : Bool) (m : Mbox) (slot : Nat) (s : State) : State :=
  s.mboxGate m false true (fun s =>
    if slot ≠ 2 then s.reply m 0xB []
    else if s.boot.xfer.isSome then s.reply m 8 []
    else if s.dev == .basin then (s.reply m 0 []).leaveBasin 0
    else if !online then s.reply m 0 []
    else if s.moltBusy then s.reply m 6 []
    else match s.stored with
      | none => s.reply m 0xD []
      | some (_, img) =>
        let run := s.fget Fld.BOOT_FW.VERSION
        if run = img.fwVersion then s.reply m 0 []
        else if run < img.moltFrom || s.fget Fld.BOOT_UCODE.RUN_VER < img.ucodeMin then s.reply m 0xD []
        else s.moltBegin)
/-- ACTIVATE_FW_ONLINE (R350). -/
def execActivateFwOnline (dt : Nat) (m : Mbox) (slot : Nat) (s : State) : Host.Outcome State Fault Refusal :=
  .next (activate true m slot (s.elapse dt))
/-- ACTIVATE_FW_OFFLINE (R350). -/
def execActivateFwOffline (dt : Nat) (m : Mbox) (slot : Nat) (s : State) : Host.Outcome State Fault Refusal :=
  .next (activate false m slot (s.elapse dt))

/-- Milliseconds since a molt's pause began. -/
def State.moltMs (s : State) : Nat := (s.now - s.molt.getD s.now) / 1000000

/-- MOLT_READY (R351): the new firmware runs, kept doorbells are acted on and mailboxes open. A spill runs first (Table
13-9). -/
def moltReady (s : State) : State :=
  match s.molt, s.stored with
  | some _, some (k, img) =>
    if !s.isOpen then s
    else
      let ms := s.moltMs
      let s := (s.modBoot (fun b => { b with loaded := some img })).fset Fld.BOOT_STS.COPY_BOOTED k
      let s := ({ s with molt := none } : State).fset Fld.BOOT_STS.MOLT_ACTIVE 0
      let s := ((s.bump Fld.BOOT_CNT.MOLTS Fld.BOOT_CNT.MO_SAT).pushHist 4 0 k 8 ms).showCopies
      ((s.takeKept).reply .fm 0 []).settle
  | _, _ => s
def execMoltReady (dt : Nat) (s : State) : Host.Outcome State Fault Refusal := .next (moltReady (s.elapse dt))

/-- MOLT_TIMEOUT (R352): not ready within 30 ms, or its image does not load; a device warm reset. -/
def moltTimeout (loadFailed : Bool) (s : State) : State :=
  if s.molt.isSome && s.isOpen && (loadFailed || decide (s.molt.getD 0 + 30000000 ≤ s.now)) then
    (s.pushHist 4 (if loadFailed then 1 else 6) (s.fget Fld.BOOT_STS.COPY_BOOTED) 8 s.moltMs).warmReset
  else s
def execMoltTimeout (dt : Nat) (loadFailed : Bool) (s : State) : Host.Outcome State Fault Refusal :=
  .next (moltTimeout loadFailed (s.elapse dt))

/-! ## The configuration region (R232, R435) -/

/-- SEQ of a half, 0 for one that is not written. -/
def State.halfSeq (s : State) (h : Nat) : Nat :=
  match s.cfgHalf.find? (fun e => e.1 == h) with
  | some e => if e.2.live then e.2.seq else 0
  | none => 0
/-- The newest configuration of a copy. -/
def State.copySeq (s : State) (c : Nat) : Nat := max (s.halfSeq (2 * c)) (s.halfSeq (2 * c + 1))
/-- The older half of a copy. -/
def State.olderHalf (s : State) (c : Nat) : Nat :=
  if s.halfSeq (2 * c) ≤ s.halfSeq (2 * c + 1) then 2 * c else 2 * c + 1
/-- The flash copy of something the configuration region keeps is out of date. -/
def State.cfgPending (s : State) : Bool := s.cfgDue.isSome || allPacks.any (fun p => (s.pack p).recDue)
/-- The place of every LD that is bound or has an extent (R282). -/
def State.bindings (s : State) : List Binding :=
  (allLds.filter (fun n => s.bound n || (s.ld n).extSize != 0)).map (fun n =>
    let l := s.ld n
    Binding.mk n (s.bound n) l.port l.ldId l.extBase l.extSize)
/-- What the next write of a copy holds, none when nothing is to be written. A copy behind the other catches up first; in BASIN a
write leaves the configuration as it stands but for the protection table and its password (R343); the default impedance table stays (R107). -/
def State.nextCfg (s : State) (c : Nat) : Option CfgHalf :=
  let own := s.copySeq c
  let other := s.copySeq (1 - c)
  let best := s.cfgBest
  if own < other then best.map (fun h => { h with state := 0xFFFF0000, crcOk := true })
  else if own = other && s.cfgPending then
    some (CfgHalf.mk (own + 1)
      (if s.dev == DevState.basin then (best.map (·.fields)).getD [] else s.regs.filter (fun e => cfgField e.1))
      ((List.range 40).map s.defaultZ) (s.regs.filter (fun e => protField e.1)) s.flm.password 0xFFFF0000 true true
      (if s.dev == DevState.basin then (best.map (·.binds)).getD [] else s.bindings))
  else none

/-- A half is erased: nothing the port programmed in it is left. -/
def State.halfErased (s : State) (h : Nat) : State :=
  let b := s.blocksOf 8
  let ds := if h / 2 = 0 then 64 else 320
  let bs := (List.range b).map (fun i => blockKey ds (s.goodBlock ds (h % 2 * b + i)))
  ({ s with cfgHalf := tabDel h s.cfgHalf } : State).wordsErased bs

/-- A whole write has ended, in both copies: every running sanitize has come one write further (R319), and where one still needs
a second write, that is due. -/
def State.cfgWhole (s : State) : State :=
  let t := s.now
  let up : Acc → Acc := fun a =>
    if a.st == AccSt.running && a.desc.opcode.toNat == 7 && decide (a.step < 3) then { a with step := a.step + 1 } else a
  let upRing : Nat × Ring → Nat × Ring := fun e => (e.1, { e.2 with accs := e.2.accs.map up })
  let s : State := { s with rings := s.rings.map upRing }
  let s := match s.fab.bg with
    | some (.sanitize _) => s.modFab (fun f => { f with bgStep := f.bgStep + 1 })
    | _ => s
  let again := s.rings.any (fun e => e.2.accs.any (fun a => a.st == AccSt.running && a.desc.opcode.toNat == 7 && a.step == 2)) ||
    ((match s.fab.bg with | some (.sanitize _) => true | _ => false) && s.fab.bgStep == 2)
  let s : State := if again then { s with cfgDue := some (s.cfgDue.getD t) } else s
  match s.fab.bg with
  | some (.sanitize n) =>
    if 3 ≤ s.fab.bgStep then
      ((s.sanitizePages n).modFab (fun f => { f with bg := none, bgStep := 0 })).reply (.tenant n) 0 []
    else s
  | _ => s

/-- CONFIGURATION_WRITE_DONE (R232, R435): the older half of a copy has been written, its STATE word last; a write that fails
leaves the half erased and is due again. -/
def configurationWriteDone (h : Nat) (st : MediaStatus) (s : State) : State :=
  let c := h / 2
  if decide (4 ≤ h) || s.dev == .off || s.isCut || s.molt.isSome || h != s.olderHalf c then s
  else match s.nextCfg c with
    | none => s
    | some half =>
      let new := decide (s.copySeq (1 - c) < half.seq)
      let s := s.halfErased h
      if st != .ok then s
      else
        let s := { s with cfgHalf := tabIns h half s.cfgHalf }
        let s := if new then ({ s with cfgDue := none } : State).recFlashed else s
        let s := if s.copySeq 0 = s.copySeq 1 then s.cfgWhole else s
        ((s.kick).settle).showWeir
def execConfigurationWriteDone (dt half : Nat) (status : MediaStatus) (s : State) : Host.Outcome State Fault Refusal :=
  .next (configurationWriteDone half status (s.elapse dt))

end Sys2Proof.Machine
end

