-- ==== Sys2Proof/Machine/TwoWire.lean ====
section
/-! DEFINITION. The two-wire management target (chapter 17): transactions and their wake, frames, register access, the fault
summary, and MCTP with the FM API messages it carries. -/

namespace Sys2Proof.Machine

/-- The target's own state changes. -/
def State.modTwb (s : State) (f : TwbState → TwbState) : State := { s with twb := f s.twb }

/-! ## Transactions (R410, R413, R414) -/

/-- The target runs: the device has core power and domain 7 is ON, in no commit window (R404, R409). -/
def State.twbUp (s : State) : Bool := s.dev != .off && (s.dom 7).mode == 0 && (s.dom 7).window.isNone

/-- The entry that answers an address (R411). -/
def State.twbEntry (s : State) (a : Nat) : Option Nat :=
  if s.on Fld.TWB_CFG.MASK_MODE then (if s.twbAnswers.contains a then some 0 else none)
  else (List.range 4).find? (fun i => s.on (Fld.TWB_ADDR.EN i) && s.fget (Fld.TWB_ADDR.ADDR i) == a)

/-- A transaction addressed to the target begins. -/
def State.twbOpen (s : State) (a : Nat) : State :=
  ((s.modTwb (fun x => { x with cur := some a, stopAt := none, nakAt := none })).fset Fld.TWB_STS.BUSY 1).fset
    Fld.TWB_STS.LAST_ADDR a
/-- It ends, and AWAKE_MS runs. -/
def State.twbClose (s : State) : State :=
  let t := s.now
  (s.modTwb (fun x => { x with cur := none, stopAt := some t })).fset Fld.TWB_STS.BUSY 0

/-- TWO_WIRE_START (R403, R404, R413): the start condition is a wake source; a target that sleeps, or woke less than 5 µs ago,
does not acknowledge. -/
def twoWireStart (a : Nat) (s : State) : State :=
  let up := s.twbUp
  let t := s.now
  let s := wakeSource 3 s
  if s.dev == .off then s
  else if !up || s.twb.nakAt.any (fun t0 => decide (t < t0 + 5000)) then
    let first := s.twb.nakAt.getD t
    ((s.modTwb (fun x => { x with nakAt := some first })).bump Fld.TWB_CNT_A.NAK_SLEEP Fld.TWB_CNT_A.NS_SAT).emit .nak
  else if s.twbAnswers.contains a then s.twbOpen a
  else s
def execTwoWireStart (dt addr : Nat) (s : State) : Host.Outcome State Fault Refusal := .next (twoWireStart addr (s.elapse dt))

/-- One bit step of the CRC-8 of SMBus 3.2, polynomial 0x07. -/
def crc8Bit (c : Nat) : Nat := if 128 ≤ c then (2 * c % 256) ^^^ 7 else 2 * c
/-- CRC-8 over bytes. -/
def crc8 (bs : List Nat) : Nat := bs.foldl (fun c b => forUpto 8 (fun _ x => crc8Bit x) (c ^^^ b)) 0
/-- The entry of an address asks for PEC (R415). -/
def State.pecOn (s : State) (a : Nat) : Bool := (s.twbEntry a).any (fun i => s.on (Fld.TWB_ADDR.PEC_EN i))

/-- Bytes of a frame from its command code on, PEC apart: by Table 17-1 for a REG address, by the count of an MCTP block write, whose
code is 0x0F (DSP0237); none for a code that is not acknowledged. -/
def frameWant (reg : Bool) (bs : List Nat) : Option Nat :=
  let c := bs.headD 0
  if reg then (if c = 0x30 then some 6 else if c = 0x31 then some 10 else if c = 0x40 then some 1 else none)
  else if c = 0x0F then some (bs.getD 1 0 + 2) else none

/-- How a frame of an address fails (R415). -/
inductive FrameFail where
  | none     -- it checks out
  | short    -- bytes are missing
  | byte     -- a byte that does not belong: the code, the count or a surplus byte
  | pec      -- the PEC byte is wrong
  deriving DecidableEq, Repr

/-- The check of a frame, its bytes from the command code on (R415): a write and a process call carry PEC where the entry asks for
it, SUMMARY's block read does not. -/
def State.frameFail (s : State) (a : Nat) (bs : List Nat) : FrameFail :=
  let reg := (s.twbEntry a).any (fun i => s.on (Fld.TWB_ADDR.PROTO i))
  match frameWant reg bs with
  | .none => if bs.isEmpty then .short else .byte
  | .some w =>
    let pec := s.pecOn a && w != 1
    if w + pec.toNat < bs.length || (1 < w && 1 < bs.length && bs.getD 1 0 + 2 != w) then .byte
    else if bs.length < w + pec.toNat then .short
    else if pec && crc8 (2 * a :: bs.dropLast) != bs.getLastD 0 then .pec
    else .none

/-- TWO_WIRE_FRAME_END (R415): a frame that fails has no effect and its failing byte is not acknowledged. A frame that passes is
executed by the command it carries. Either way the transaction ends. -/
def twoWireFrameEnd (a : Nat) (bs : List Nat) (s : State) : State :=
  if !s.twbUp || s.twb.cur != some a then s
  else match s.frameFail a bs with
    | .pec => ((s.bump Fld.TWB_CNT_A.PEC_ERR Fld.TWB_CNT_A.PE_SAT).emit .nak).twbClose
    | .byte => (s.emit .nak).twbClose
    | _ => s.twbClose
def execTwoWireFrameEnd (dt : Nat) (addr : Nat) (code : Option Byte) (bytes : List Byte) (s : State) :
    Host.Outcome State Fault Refusal :=
  .next (twoWireFrameEnd addr ((code.toList ++ bytes).map BitVec.toNat) (s.elapse dt))

/-- TWO_WIRE_TIMEOUT (R410). -/
def twoWireTimeout (s : State) : State :=
  if s.twbUp then
    let s := s.bump Fld.TWB_CNT_B.TIMEOUT Fld.TWB_CNT_B.TO_SAT
    if s.twb.cur.isSome then s.twbClose else s
  else s
def execTwoWireTimeout (dt : Nat) (s : State) : Host.Outcome State Fault Refusal := .next (twoWireTimeout (s.elapse dt))

/-- TWO_WIRE_AWAKE_EXPIRY (R414). -/
def twoWireAwakeExpiry (s : State) : State :=
  match s.twb.stopAt with
  | some t => if t + 1000000 * s.fget Fld.TWB_CFG.AWAKE_MS ≤ s.now then s.modTwb (fun x => { x with stopAt := none }) else s
  | none => s
def execTwoWireAwakeExpiry (dt : Nat) (s : State) : Host.Outcome State Fault Refusal :=
  .next (twoWireAwakeExpiry (s.elapse dt))

/-! ## Replies (R415) -/

/-- A reply to a frame at an address: its bytes, with PEC over the whole transaction where the entry asks for it; a process call's
frame carried its own PEC byte (R415). -/
def State.twbReply (s : State) (a : Nat) (sent reply : List Nat) : State :=
  let frame := if sent.length = 2 then sent else sent ++ [crc8 sent]
  let all := frame ++ [2 * a + 1] ++ reply
  s.emit (.twoWire (if s.pecOn a then reply ++ [crc8 all] else reply))

/-! ## Register access (R420, R421) -/

/-- The address answers register-access commands. -/
def State.twbReg (s : State) (a : Nat) : Option Nat :=
  if s.twbUp then (s.twbEntry a).filter (fun i => s.on (Fld.TWB_ADDR.PROTO i)) else none

/-- The checks of Table 17-2, in its order: the STATUS of the first that fails, 0 when none does. -/
def State.twbCheck (s : State) (entry off : Nat) (write : Bool) : Nat :=
  if off % 4 ≠ 0 then 3
  else if off < 0x100000 || 0x400000 ≤ off then 5
  else if write && !s.on (Fld.TWB_ADDR.WRITE_EN entry) then 0x0B
  else if write && decide (0x200000 ≤ off) then 0x0B
  else if write && off / 65536 == 0x1F && s.on Fld.TWB_CFG.LOCK then 0x0B
  else if write && s.basinLike && !s.basinBlock off then 0x0B
  else if s.regOff off then 0x0B
  else 0

/-- READ32 (R421): DATA of a refused read is not stated. -/
def read32 (a off : Nat) (s : State) : State :=
  match s.twbReg a with
  | none => s
  | some i =>
    let sent := [2 * a, 0x30, 4] ++ leBytes 4 off
    let c := s.twbCheck i off false
    if c ≠ 0 then
      let x := s.deny.mboxDraw
      x.1.twbReply a sent ([5, c] ++ leBytes 4 x.2)
    else
      let x := s.regRead off 32
      x.1.twbReply a sent ([5, 0] ++ leBytes 4 x.2)
def execRead32 (dt addr offset : Nat) (s : State) : Host.Outcome State Fault Refusal :=
  .next (read32 addr offset (s.elapse dt))

/-- WRITE32 (R421). -/
def write32 (a off v : Nat) (s : State) : State :=
  match s.twbReg a with
  | none => s
  | some i =>
    let sent := [2 * a, 0x31, 8] ++ leBytes 4 off ++ leBytes 4 v
    let c := s.twbCheck i off true
    if c ≠ 0 then s.deny.twbReply a sent [1, c] else (s.regWrite .twoWire off 32 v).twbReply a sent [1, 0]
def execWrite32 (dt addr offset : Nat) (value : BitVec 32) (s : State) : Host.Outcome State Fault Refusal :=
  .next (write32 addr offset value.toNat (s.elapse dt))

/-- Bits of a byte, least significant first. -/
def byteOf (bs : List Bool) : Nat := sumNat (((List.range bs.length).zip bs).map (fun e => if e.2 then 2 ^ e.1 else 0))

/-- The fault summary (Table 17-3). -/
def State.summaryBytes (s : State) : List Nat :=
  let mode := s.fget Fld.JNL_STS.MODE
  let b1 := byteOf [s.on Fld.FLT_FIRST_INFO.VALID, s.on Fld.FLT_FIRST_INFO.OVERFLOW, s.on Fld.FLT_FIRST_INFO.TRANSIENT,
    s.on Fld.FLT_STS.FAULTED, s.on Fld.FLT_STS.STORM, mode.testBit 0, mode.testBit 1, s.deficit]
  let b2 := byteOf [s.on Fld.BOOT_STS.BASIN_DEFERRED, (List.range 8).any (fun c => [0, 1].any (fun x => s.on (Fld.DRC_MARK.VALID c x))),
    s.fget Fld.LOG_CH_STS.OUT_OF_SERVICE != 0, [0, 1].any (fun e => !s.elyIn e), allLds.any (fun n => s.bound n && s.level n == 3),
    (List.range 8).any (fun c => s.on (Fld.DRC_STS.HOT c)), s.on Fld.CIS_TIME_STS.TIME_LOST, s.on Fld.COL_TIME_STS.ROOT_CONFLICT]
  let first := if s.on Fld.FLT_FIRST_INFO.VALID then s.fget Fld.FLT_FIRST.MESSAGE else 0
  [s.dev.code, b1, b2, 8 * s.fget Fld.BOOT_STS.FAILS + s.fget Fld.BOOT_STS.LAST_REASON] ++ leBytes 8 first ++
    leBytes 4 (s.fget Fld.SPL_GEN.GENERATION)
/-- SUMMARY (R423). -/
def summary (a : Nat) (s : State) : State :=
  match s.twbReg a with
  | none => s
  | some _ => s.twbReply a [2 * a, 0x40] (16 :: s.summaryBytes)
def execSummary (dt addr : Nat) (s : State) : Host.Outcome State Fault Refusal := .next (summary addr (s.elapse dt))

/-! ## MCTP (R417 to R419) -/

/-- The target runs and an address carries MCTP. -/
def State.mctpUp (s : State) : Bool :=
  s.twbUp && s.twbAnswers.any (fun a => (s.twbEntry a).any (fun i => !s.on (Fld.TWB_ADDR.PROTO i)))
/-- An MCTP packet or message is dropped. -/
def State.mctpDrop (s : State) : State := s.bump Fld.TWB_CNT_C.MCTP_DROP Fld.TWB_CNT_C.MD_SAT
/-- TX_PENDING and QUEUED show what waits. -/
def State.showMctp (s : State) : State :=
  (s.fput Fld.TWB_STS.TX_PENDING (decide (0 < s.twb.waiting))).fset Fld.TWB_STS.QUEUED s.twb.queue.length
/-- A message of the KX7180's own waits to be sent. -/
def State.mctpSend (s : State) : State := (s.modTwb (fun x => { x with waiting := x.waiting + 1 })).showMctp

/-- A control command's response (log entry 43). -/
def State.mctpAnswer (s : State) (bytes : List Nat) : State := (s.emit (.twoWire bytes)).mctpSend
/-- SET_ENDPOINT_ID (R418): 0 and 0xFF are no endpoint's. -/
def setEid (eid : Nat) (s : State) : State :=
  if !s.mctpUp then s
  else if eid % 256 = 0 || eid % 256 = 255 then s.mctpAnswer [1, 2]
  else (s.fset Fld.TWB_STS.EID eid).mctpAnswer [1, 0, 0, eid % 256, 0]
def execSetEndpointId (dt eid : Nat) (s : State) : Host.Outcome State Fault Refusal := .next (setEid eid (s.elapse dt))
/-- GET_ENDPOINT_ID (R418). -/
def getEid (s : State) : State := if s.mctpUp then s.mctpAnswer [2, 0, s.fget Fld.TWB_STS.EID, 0, 0] else s
def execGetEndpointId (dt : Nat) (s : State) : Host.Outcome State Fault Refusal := .next (getEid (s.elapse dt))
/-- GET_MCTP_VERSION_SUPPORT (R418): the versions are not stated. -/
def getVersion (s : State) : State := if s.mctpUp then s.mctpAnswer [4, 0, info 4] else s
def execGetMctpVersionSupport (dt : Nat) (s : State) : Host.Outcome State Fault Refusal := .next (getVersion (s.elapse dt))
/-- GET_MESSAGE_TYPE_SUPPORT (R418): one type beside control, the CXL FM API. -/
def getTypes (s : State) : State := if s.mctpUp then s.mctpAnswer [5, 0, 1, 7] else s
def execGetMessageTypeSupport (dt : Nat) (s : State) : Host.Outcome State Fault Refusal := .next (getTypes (s.elapse dt))

/-- A control message runs at once, whatever else is queued (R419). -/
def controlRun (i : Instr) (s : State) : State :=
  match i with
  | .setEndpointId _ eid => setEid eid s
  | .getEndpointId _ => getEid s
  | .getMctpVersionSupport _ => getVersion s
  | .getMessageTypeSupport _ => getTypes s
  | _ => s.mctpDrop

/-- MCTP_PACKET_RX (R418): types other than control (0) and the CXL FM API (7) are dropped; a message of at most 4 KiB is
reassembled from each of at most two sources, in packets of at most 64 bytes, and at most four complete ones wait. -/
def mctpPacket (src : Nat) (som eom : Bool) (ty bytes : Nat) (msg : Instr) (s : State) : State :=
  if !s.mctpUp then s
  else
    let old := if som then none else (s.twb.parts.find? (fun e => e.1 == src)).map (·.2)
    let s := if som && s.twb.parts.any (fun e => e.1 == src) then s.mctpDrop else s
    let s := s.modTwb (fun x => { x with parts := tabDel src x.parts })
    let n := old.getD 0 + bytes
    if (!som && old.isNone) || (som && ty != 0 && ty != 7) || decide (64 < bytes) || decide (4096 < n) ||
        decide (2 ≤ s.twb.parts.length) then s.mctpDrop
    else if !eom then s.modTwb (fun x => { x with parts := tabIns src n x.parts })
    else if ty = 0 then controlRun msg s
    else if 4 ≤ s.twb.queue.length then s.mctpDrop
    else (s.modTwb (fun x => { x with queue := x.queue ++ [msg] })).showMctp
def execMctpPacketRx (dt source : Nat) (som eom : Bool) (msgType bytes : Nat) (msg : Instr) (s : State) :
    Host.Outcome State Fault Refusal := .next (mctpPacket source som eom msgType bytes msg (s.elapse dt))

/-- A message as a command of the FM-owned LD (R294). -/
def mailboxRun (i : Instr) (s : State) : State :=
  match i with
  | .setTimestamp _ _ v => setTimestamp .fm v s
  | .getTimestamp _ _ => getTimestamp .fm s
  | .identify _ _ => identify .fm s
  | .backgroundOperationStatus _ _ => backgroundStatus .fm s
  | .getResponseMessageLimit _ _ => responseLimit .fm s
  | .getEventRecords _ _ l => getEvents .fm l s
  | .clearEventRecords _ _ l hs => clearEvents .fm l hs s
  | .getEventInterruptPolicy _ _ => getPolicy .fm s
  | .setEventInterruptPolicy _ _ p => setPolicy .fm p s
  | .getFwInfo _ _ => fwInfo .fm s
  | .transferFwInitiate _ _ slot off len d => transferInitiate .fm slot off len d s
  | .transferFwContinue _ _ slot off len d => transferContinue .fm slot off len d s
  | .transferFwEnd _ _ slot off len d img => transferEnd .fm slot off len d img s
  | .transferFwFull _ _ slot off len d img => transferFull .fm slot off len d img s
  | .transferFwAbort _ _ => transferAbort .fm s
  | .activateFwOnline _ _ slot => activate true .fm slot s
  | .activateFwOffline _ _ slot => activate false .fm slot s
  | .getSupportedLogs _ _ => supportedLogs .fm s
  | .getLog _ _ => getLog .fm s
  | .identifyMemoryDevice _ _ => identifyMemory .fm s
  | .getPartitionInfo _ _ => partitionInfo .fm s
  | .getHealthInfo _ _ => healthInfo .fm s
  | .getAlertConfiguration _ _ => getAlert .fm s
  | .setAlertConfiguration _ _ v => setAlert .fm v s
  | .getShutdownState _ _ ld => getShutdown .fm ld s
  | .setShutdownState _ _ ld v => setShutdown .fm ld v s
  | .getPoisonList _ _ => poisonListCmd .fm s
  | .injectPoison _ _ dpa => injectPoison .fm dpa s
  | .clearPoison _ _ dpa d => clearPoison .fm dpa d s
  | .getScanMediaCapabilities _ _ => scanCaps .fm s
  | .scanMedia _ _ dpa lines bad => scanMedia .fm dpa lines bad s
  | .getScanMediaResults _ _ => scanResults .fm s
  | .sanitize _ _ => sanitize .fm s
  | .secureErase _ _ => secureErase .fm s
  | .getLdInfo _ _ p => ldInfo .fm p s
  | .getLdAllocations _ _ p => ldAllocations .fm p s
  | .setLdAllocations _ _ => setLdAllocations .fm s
  | .getQosControl _ _ p => getQos .fm p s
  | .setQosControl _ _ p a b o => setQos .fm p a b o s
  | .getQosStatus _ _ p => qosStatus .fm p s
  | .getQosAllocatedBw _ _ p => getAlloc .fm p s
  | .setQosAllocatedBw _ _ p st vs => setAlloc .fm p st vs s
  | .getQosBwLimit _ _ p => getLimit .fm p s
  | .setQosBwLimit _ _ p st vs => setLimit .fm p st vs s
  | .getPersistInfo _ _ => persistInfo .fm s
  | .setLdExtent _ _ ld b n => setLdExtent .fm ld b n s
  | .bindLd _ _ ld p id => bindLd .fm ld p id s
  | .rebindLd _ _ ld p id => rebindLd .fm ld p id s
  | .unbindLd _ _ ld => unbindCmd .fm ld s
  | .quiesceLd _ _ ld => quiesceCmd .fm ld s
  | .resumeLd _ _ ld => resumeCmd .fm ld s
  | .regAccess _ _ off w wr v => regAccess .fm off w wr v.toNat s
  | _ => mailboxUnsupported .fm s

/-- FM_API_MESSAGE (R418, R419): the oldest complete message runs, and its response waits to be sent. -/
def fmApiMessage (s : State) : State :=
  if !s.mctpUp then s
  else match s.twb.queue with
    | [] => s
    | i :: rest => (mailboxRun i (s.modTwb (fun x => { x with queue := rest }))).mctpSend
def execFmApiMessage (dt : Nat) (s : State) : Host.Outcome State Fault Refusal := .next (fmApiMessage (s.elapse dt))

/-- A message has been sent, or is given up. -/
def State.mctpGone (s : State) : State := (s.modTwb (fun x => { x with waiting := x.waiting - 1, tx := none })).showMctp
/-- A packet is given up after lost arbitration (R417). -/
def State.mctpGiveUp (s : State) : State := ((s.bump Fld.TWB_CNT_B.ARB_LOST Fld.TWB_CNT_B.AL_SAT).mctpDrop).mctpGone

/-- MCTP_TRANSMIT (R417): a block write to the requester; when it loses arbitration to a controller that addresses the KX7180,
it goes on as a target. -/
def mctpTransmit (lost : Bool) (winner : Nat) (s : State) : State :=
  if !s.mctpUp || decide (s.twb.waiting = 0) || s.twb.tx.isSome then s
  else if lost then
    let t := s.now
    let s := s.modTwb (fun x => { x with tx := some (0, t) })
    if s.twbAnswers.contains winner then s.twbOpen winner else s
  else (s.emit (.twoWire [0x0F])).mctpGone
def execMctpTransmit (dt : Nat) (lostArbitration : Bool) (winnerAddr : Nat) (s : State) :
    Host.Outcome State Fault Refusal := .next (mctpTransmit lostArbitration winnerAddr (s.elapse dt))

/-- MCTP_RETRY (R417): the bus has been free for 50 µs; at most TX_RETRIES retries within 100 ms. -/
def mctpRetry (lost : Bool) (s : State) : State :=
  match s.twb.tx with
  | none => s
  | some (n, t) =>
    if !s.mctpUp then s
    else if t + 100000000 < s.now then s.mctpGiveUp
    else if !lost then (s.emit (.twoWire [0x0F])).mctpGone
    else if s.fget Fld.TWB_CFG.TX_RETRIES ≤ n + 1 then s.mctpGiveUp
    else s.modTwb (fun x => { x with tx := some (n + 1, t) })
def execMctpRetry (dt : Nat) (lostArbitration : Bool) (s : State) : Host.Outcome State Fault Refusal :=
  .next (mctpRetry lostArbitration (s.elapse dt))

end Sys2Proof.Machine
end

