-- ==== Sys2Proof/Machine/Dispatch.lean ====
section
/-! DEFINITION. One arm per command, each a direct call of its meaning. -/

namespace Sys2Proof.Machine

def exec (i : Instr) (s : State) : Host.Outcome State Fault Refusal :=
  match i with
  | .beatBoundary overruns obs => Sys2Proof.Machine.execBeatBoundary overruns obs s
  | .weirInForce dt => Sys2Proof.Machine.execWeirInForce dt s
  | .memWrite dt port ldId hpa data mask poison tag => Sys2Proof.Machine.execMemWrite dt port ldId hpa data mask poison tag s
  | .memRead dt port ldId hpa tag => Sys2Proof.Machine.execMemRead dt port ldId hpa tag s
  | .memInv dt port ldId hpa tag => Sys2Proof.Machine.execMemInv dt port ldId hpa tag s
  | .memSpecRd dt port ldId hpa tag => Sys2Proof.Machine.execMemSpecRd dt port ldId hpa tag s
  | .unsupportedRequest dt port channel opcode => Sys2Proof.Machine.execUnsupportedRequest dt port channel opcode s
  | .trackerEntryFree dt port => Sys2Proof.Machine.execTrackerEntryFree dt port s
  | .wmbPartialFill dt rid result => Sys2Proof.Machine.execWmbPartialFill dt rid result s
  | .heldWriteRelease dt ld => Sys2Proof.Machine.execHeldWriteRelease dt ld s
  | .weirWaitExpiry dt rid => Sys2Proof.Machine.execWeirWaitExpiry dt rid s
  | .ringWeirWaitExpiry dt ld ring sqIndex => Sys2Proof.Machine.execRingWeirWaitExpiry dt ld ring sqIndex s
  | .forkSlotWaitExpiry dt rid => Sys2Proof.Machine.execForkSlotWaitExpiry dt rid s
  | .forkCopyDone dt page => Sys2Proof.Machine.execForkCopyDone dt page s
  | .scarabPageDone dt page cluster => Sys2Proof.Machine.execScarabPageDone dt page cluster s
  | .stripeProgramDone dt stripe tprogUs => Sys2Proof.Machine.execStripeProgramDone dt stripe tprogUs s
  | .stripeProgramFail dt stripe channel status => Sys2Proof.Machine.execStripeProgramFail dt stripe channel status s
  | .bandEraseDone dt band failed status => Sys2Proof.Machine.execBandEraseDone dt band failed status s
  | .diePollTimeout dt ds => Sys2Proof.Machine.execDiePollTimeout dt ds s
  | .flashReadDone dt page result => Sys2Proof.Machine.execFlashReadDone dt page result s
  | .parityRebuildDone dt page ok => Sys2Proof.Machine.execParityRebuildDone dt page ok s
  | .drawDone dt page formOk => Sys2Proof.Machine.execDrawDone dt page formOk s
  | .refillReadDone dt pages formOk => Sys2Proof.Machine.execRefillReadDone dt pages formOk s
  | .foldReadbackDone dt band level => Sys2Proof.Machine.execFoldReadbackDone dt band level s
  | .scrubPeriod dt => Sys2Proof.Machine.execScrubPeriod dt s
  | .governorSlice dt => Sys2Proof.Machine.execGovernorSlice dt s
  | .checkpointCut => Sys2Proof.Machine.execCheckpointCut s
  | .cutBeatBoundary => Sys2Proof.Machine.execCutBeatBoundary s
  | .spillDrainDone dt => Sys2Proof.Machine.execSpillDrainDone dt s
  | .spillTakeoverDone dt => Sys2Proof.Machine.execSpillTakeoverDone dt s
  | .spillStageBEnd dt => Sys2Proof.Machine.execSpillStageBEnd dt s
  | .spillStageCEnd dt => Sys2Proof.Machine.execSpillStageCEnd dt s
  | .sealProgrammed dt => Sys2Proof.Machine.execSealProgrammed dt s
  | .sealHoldExpiry => Sys2Proof.Machine.execSealHoldExpiry s
  | .sealedReturnDecision => Sys2Proof.Machine.execSealedReturnDecision s
  | .elytraPage dt f line errs failing => Sys2Proof.Machine.execElytraPage dt f line errs failing s
  | .elytraProgram dt body crc => Sys2Proof.Machine.execElytraProgram dt body crc s
  | .elytraSeal dt f => Sys2Proof.Machine.execElytraSeal dt f s
  | .elytraJournal dt body crc => Sys2Proof.Machine.execElytraJournal dt body crc s
  | .elytraRailOff dt f => Sys2Proof.Machine.execElytraRailOff dt f s
  | .elytraHeartbeat dt f => Sys2Proof.Machine.execElytraHeartbeat dt f s
  | .seqGap dt target => Sys2Proof.Machine.execSeqGap dt target s
  | .selfCheck dt aOk bOk => Sys2Proof.Machine.execSelfCheck dt aOk bOk s
  | .shadowPass dt mismatch => Sys2Proof.Machine.execShadowPass dt mismatch s
  | .heartbeatLost dt silent => Sys2Proof.Machine.execHeartbeatLost dt silent s
  | .fenceApplied dt target => Sys2Proof.Machine.execFenceApplied dt target s
  | .elytraOnline dt e => Sys2Proof.Machine.execElytraOnline dt e s
  | .elytraOffline dt e => Sys2Proof.Machine.execElytraOffline dt e s
  | .inputCollapse dt => Sys2Proof.Machine.execInputCollapse dt s
  | .inputGoodRise dt => Sys2Proof.Machine.execInputGoodRise dt s
  | .fmCheckpoint dt => Sys2Proof.Machine.execFmCheckpoint dt s
  | .fmSpill dt => Sys2Proof.Machine.execFmSpill dt s
  | .colonyCheckpoint dt boundary => Sys2Proof.Machine.execColonyCheckpoint dt boundary s
  | .plungeNEdge edge => Sys2Proof.Machine.execPlungeNEdge edge s
  | .plungeRepeat => Sys2Proof.Machine.execPlungeRepeat s
  | .plungeWindowClose dt => Sys2Proof.Machine.execPlungeWindowClose dt s
  | .beaconRx dt port t2 f => Sys2Proof.Machine.execBeaconRx dt port t2 f s
  | .fireflyRx dt port t4 f => Sys2Proof.Machine.execFireflyRx dt port t4 f s
  | .roleRx dt port f => Sys2Proof.Machine.execRoleRx dt port f s
  | .configRx dt port f => Sys2Proof.Machine.execConfigRx dt port f s
  | .epochAnnounceRx dt port f => Sys2Proof.Machine.execEpochAnnounceRx dt port f s
  | .plungeRx dt port f => Sys2Proof.Machine.execPlungeRx dt port f s
  | .sealReportRx dt port f => Sys2Proof.Machine.execSealReportRx dt port f s
  | .isolationAutoLift port => Sys2Proof.Machine.execIsolationAutoLift port s
  | .isolationLift dt port => Sys2Proof.Machine.execIsolationLift dt port s
  | .portUp dt port => Sys2Proof.Machine.execPortUp dt port s
  | .portDown dt port => Sys2Proof.Machine.execPortDown dt port s
  | .portSilent port => Sys2Proof.Machine.execPortSilent port s
  | .backupSelect => Sys2Proof.Machine.execBackupSelect s
  | .upstreamSelect => Sys2Proof.Machine.execUpstreamSelect s
  | .rolePeriodic => Sys2Proof.Machine.execRolePeriodic s
  | .configPeriodic => Sys2Proof.Machine.execConfigPeriodic s
  | .epochAnnounceSend => Sys2Proof.Machine.execEpochAnnounceSend s
  | .cisternSample samples => Sys2Proof.Machine.execCisternSample samples s
  | .coulombSample dt shunt => Sys2Proof.Machine.execCoulombSample dt shunt s
  | .socAnchor dt pack => Sys2Proof.Machine.execSocAnchor dt pack s
  | .socUncGrowth dt pack => Sys2Proof.Machine.execSocUncGrowth dt pack s
  | .calibrationGo dt pack => Sys2Proof.Machine.execCalibrationGo dt pack s
  | .calibrationPause dt => Sys2Proof.Machine.execCalibrationPause dt s
  | .calibrationAbort dt => Sys2Proof.Machine.execCalibrationAbort dt s
  | .calibrationFull dt => Sys2Proof.Machine.execCalibrationFull dt s
  | .calibrationDischargeEnd dt => Sys2Proof.Machine.execCalibrationDischargeEnd dt s
  | .lightPulse dt pack => Sys2Proof.Machine.execLightPulse dt pack s
  | .lightPulseEnd dt pack dvMv diMa => Sys2Proof.Machine.execLightPulseEnd dt pack dvMv diMa s
  | .rehearsalGo dt => Sys2Proof.Machine.execRehearsalGo dt s
  | .rehearsalStart dt => Sys2Proof.Machine.execRehearsalStart dt s
  | .rehearsalLoad => Sys2Proof.Machine.execRehearsalLoad s
  | .rehearsalSample dt mv ma => Sys2Proof.Machine.execRehearsalSample dt mv ma s
  | .rehearsalEnd dt powerDw mv ma => Sys2Proof.Machine.execRehearsalEnd dt powerDw mv ma s
  | .rehearsalPublish => Sys2Proof.Machine.execRehearsalPublish s
  | .packRemoved dt pack => Sys2Proof.Machine.execPackRemoved dt pack s
  | .packInserted dt pack mv => Sys2Proof.Machine.execPackInserted dt pack mv s
  | .packCounted dt pack => Sys2Proof.Machine.execPackCounted dt pack s
  | .alarmHit dt => Sys2Proof.Machine.execAlarmHit dt s
  | .crystalTrim dt running => Sys2Proof.Machine.execCrystalTrim dt running s
  | .setTimestamp dt m value => Sys2Proof.Machine.execSetTimestamp dt m value s
  | .getTimestamp dt m => Sys2Proof.Machine.execGetTimestamp dt m s
  | .gpfPhase1 dt port => Sys2Proof.Machine.execGpfPhase1 dt port s
  | .gpfPhase2 dt port => Sys2Proof.Machine.execGpfPhase2 dt port s
  | .gpfDrainDone dt port => Sys2Proof.Machine.execGpfDrainDone dt port s
  | .cxlResetLd dt ld => Sys2Proof.Machine.execCxlResetLd dt ld s
  | .ldResetEffect dt ld => Sys2Proof.Machine.execLdResetEffect dt ld s
  | .fabLinkUp dt port width rate flit256 flit68 laneRev => Sys2Proof.Machine.execFabLinkUp dt port width rate flit256 flit68 laneRev s
  | .fabLinkDown dt port => Sys2Proof.Machine.execFabLinkDown dt port s
  | .fabHotReset dt port => Sys2Proof.Machine.execFabHotReset dt port s
  | .hdmCommit dt ld decoder hpaBase size ways gran way dpaSkip lock => Sys2Proof.Machine.execHdmCommit dt ld decoder hpaBase size ways gran way dpaSkip lock s
  | .identify dt m => Sys2Proof.Machine.execIdentify dt m s
  | .backgroundOperationStatus dt m => Sys2Proof.Machine.execBackgroundOperationStatus dt m s
  | .getResponseMessageLimit dt m => Sys2Proof.Machine.execGetResponseMessageLimit dt m s
  | .getEventRecords dt m log => Sys2Proof.Machine.execGetEventRecords dt m log s
  | .clearEventRecords dt m log handles => Sys2Proof.Machine.execClearEventRecords dt m log handles s
  | .getEventInterruptPolicy dt m => Sys2Proof.Machine.execGetEventInterruptPolicy dt m s
  | .setEventInterruptPolicy dt m policy => Sys2Proof.Machine.execSetEventInterruptPolicy dt m policy s
  | .getFwInfo dt m => Sys2Proof.Machine.execGetFwInfo dt m s
  | .transferFwInitiate dt m slot offset length digest => Sys2Proof.Machine.execTransferFwInitiate dt m slot offset length digest s
  | .transferFwContinue dt m slot offset length digest => Sys2Proof.Machine.execTransferFwContinue dt m slot offset length digest s
  | .transferFwEnd dt m slot offset length digest img => Sys2Proof.Machine.execTransferFwEnd dt m slot offset length digest img s
  | .transferFwFull dt m slot offset length digest img => Sys2Proof.Machine.execTransferFwFull dt m slot offset length digest img s
  | .transferFwAbort dt m => Sys2Proof.Machine.execTransferFwAbort dt m s
  | .transferIdleTimeout dt => Sys2Proof.Machine.execTransferIdleTimeout dt s
  | .fwPropagateCopyDone dt copy ok => Sys2Proof.Machine.execFwPropagateCopyDone dt copy ok s
  | .activateFwOnline dt m slot => Sys2Proof.Machine.execActivateFwOnline dt m slot s
  | .activateFwOffline dt m slot => Sys2Proof.Machine.execActivateFwOffline dt m slot s
  | .moltReady dt => Sys2Proof.Machine.execMoltReady dt s
  | .moltTimeout dt loadFailed => Sys2Proof.Machine.execMoltTimeout dt loadFailed s
  | .getSupportedLogs dt m => Sys2Proof.Machine.execGetSupportedLogs dt m s
  | .getLog dt m => Sys2Proof.Machine.execGetLog dt m s
  | .identifyMemoryDevice dt m => Sys2Proof.Machine.execIdentifyMemoryDevice dt m s
  | .getPartitionInfo dt m => Sys2Proof.Machine.execGetPartitionInfo dt m s
  | .getHealthInfo dt m => Sys2Proof.Machine.execGetHealthInfo dt m s
  | .getAlertConfiguration dt m => Sys2Proof.Machine.execGetAlertConfiguration dt m s
  | .setAlertConfiguration dt m config => Sys2Proof.Machine.execSetAlertConfiguration dt m config s
  | .getShutdownState dt m ld => Sys2Proof.Machine.execGetShutdownState dt m ld s
  | .setShutdownState dt m ld value => Sys2Proof.Machine.execSetShutdownState dt m ld value s
  | .getPoisonList dt m => Sys2Proof.Machine.execGetPoisonList dt m s
  | .injectPoison dt m dpa => Sys2Proof.Machine.execInjectPoison dt m dpa s
  | .clearPoison dt m dpa data => Sys2Proof.Machine.execClearPoison dt m dpa data s
  | .getScanMediaCapabilities dt m => Sys2Proof.Machine.execGetScanMediaCapabilities dt m s
  | .scanMedia dt m dpa lines bad => Sys2Proof.Machine.execScanMedia dt m dpa lines bad s
  | .getScanMediaResults dt m => Sys2Proof.Machine.execGetScanMediaResults dt m s
  | .sanitize dt m => Sys2Proof.Machine.execSanitize dt m s
  | .secureErase dt m => Sys2Proof.Machine.execSecureErase dt m s
  | .getLdInfo dt m port => Sys2Proof.Machine.execGetLdInfo dt m port s
  | .getLdAllocations dt m port => Sys2Proof.Machine.execGetLdAllocations dt m port s
  | .setLdAllocations dt m => Sys2Proof.Machine.execSetLdAllocations dt m s
  | .getQosControl dt m port => Sys2Proof.Machine.execGetQosControl dt m port s
  | .setQosControl dt m port modPct sevPct other => Sys2Proof.Machine.execSetQosControl dt m port modPct sevPct other s
  | .getQosStatus dt m port => Sys2Proof.Machine.execGetQosStatus dt m port s
  | .getQosAllocatedBw dt m port => Sys2Proof.Machine.execGetQosAllocatedBw dt m port s
  | .setQosAllocatedBw dt m port start fractions => Sys2Proof.Machine.execSetQosAllocatedBw dt m port start fractions s
  | .getQosBwLimit dt m port => Sys2Proof.Machine.execGetQosBwLimit dt m port s
  | .setQosBwLimit dt m port start fractions => Sys2Proof.Machine.execSetQosBwLimit dt m port start fractions s
  | .mailboxUnsupported dt m opcode => Sys2Proof.Machine.execMailboxUnsupported dt m opcode s
  | .getPersistInfo dt m => Sys2Proof.Machine.execGetPersistInfo dt m s
  | .setLdExtent dt m ld base size => Sys2Proof.Machine.execSetLdExtent dt m ld base size s
  | .bindLd dt m ld port ldId => Sys2Proof.Machine.execBindLd dt m ld port ldId s
  | .rebindLd dt m ld port ldId => Sys2Proof.Machine.execRebindLd dt m ld port ldId s
  | .unbindLd dt m ld => Sys2Proof.Machine.execUnbindLd dt m ld s
  | .unbindComplete dt ld => Sys2Proof.Machine.execUnbindComplete dt ld s
  | .quiesceLd dt m ld => Sys2Proof.Machine.execQuiesceLd dt m ld s
  | .quiesceWaitExpiry dt ld => Sys2Proof.Machine.execQuiesceWaitExpiry dt ld s
  | .quiesceComplete dt ld => Sys2Proof.Machine.execQuiesceComplete dt ld s
  | .resumeLd dt m ld => Sys2Proof.Machine.execResumeLd dt m ld s
  | .regAccess dt m offset width write value => Sys2Proof.Machine.execRegAccess dt m offset width write value s
  | .sqTailDoorbell dt ld ring offset width value => Sys2Proof.Machine.execSqTailDoorbell dt ld ring offset width value s
  | .cqHeadDoorbell dt ld ring offset width value => Sys2Proof.Machine.execCqHeadDoorbell dt ld ring offset width value s
  | .descriptorFetchDone dt ld ring r shadowTail shadowHead shadowTail2 => Sys2Proof.Machine.execDescriptorFetchDone dt ld ring r shadowTail shadowHead shadowTail2 s
  | .descriptorAccept dt ld ring => Sys2Proof.Machine.execDescriptorAccept dt ld ring s
  | .noResourceNotice dt ld ring => Sys2Proof.Machine.execNoResourceNotice dt ld ring s
  | .nop dt ld ring sqIndex => Sys2Proof.Machine.execNop dt ld ring sqIndex s
  | .persistRange dt ld ring sqIndex => Sys2Proof.Machine.execPersistRange dt ld ring sqIndex s
  | .checkpointAt dt ld ring sqIndex => Sys2Proof.Machine.execCheckpointAt dt ld ring sqIndex s
  | .checkpointRelease dt ld ring sqIndex => Sys2Proof.Machine.execCheckpointRelease dt ld ring sqIndex s
  | .rollbackTo dt ld ring sqIndex => Sys2Proof.Machine.execRollbackTo dt ld ring sqIndex s
  | .queryPages dt ld ring sqIndex => Sys2Proof.Machine.execQueryPages dt ld ring sqIndex s
  | .zeroRange dt ld ring sqIndex => Sys2Proof.Machine.execZeroRange dt ld ring sqIndex s
  | .sanitizeLd dt ld ring sqIndex => Sys2Proof.Machine.execSanitizeLd dt ld ring sqIndex s
  | .fence dt ld ring sqIndex => Sys2Proof.Machine.execFence dt ld ring sqIndex s
  | .readSeal dt ld ring sqIndex readable => Sys2Proof.Machine.execReadSeal dt ld ring sqIndex readable s
  | .ringEnable dt path ld ring clearTags => Sys2Proof.Machine.execRingEnable dt path ld ring clearTags s
  | .ringDisable dt path ld ring => Sys2Proof.Machine.execRingDisable dt path ld ring s
  | .ringResume dt path ld ring => Sys2Proof.Machine.execRingResume dt path ld ring s
  | .msixCoalesceTimeout dt ld ring => Sys2Proof.Machine.execMsixCoalesceTimeout dt ld ring s
  | .ldGo dt ld => Sys2Proof.Machine.execLdGo dt ld s
  | .rebuildDone dt mapUs => Sys2Proof.Machine.execRebuildDone dt mapUs s
  | .coldStart dt => Sys2Proof.Machine.execColdStart dt s
  | .startStageComplete dt obs => Sys2Proof.Machine.execStartStageComplete dt obs s
  | .deviceWarmReset dt => Sys2Proof.Machine.execDeviceWarmReset dt s
  | .watchdogExpiry dt => Sys2Proof.Machine.execWatchdogExpiry dt s
  | .startTimeout dt => Sys2Proof.Machine.execStartTimeout dt s
  | .retry dt => Sys2Proof.Machine.execRetry dt s
  | .bootCopyRepairDone dt copy ok => Sys2Proof.Machine.execBootCopyRepairDone dt copy ok s
  | .faultMessage dt source kind address injected cleared => Sys2Proof.Machine.execFaultMessage dt source kind address injected cleared s
  | .faultIntake dt source => Sys2Proof.Machine.execFaultIntake dt source s
  | .faultReaction dt => Sys2Proof.Machine.execFaultReaction dt s
  | .isolationComplete dt unit => Sys2Proof.Machine.execIsolationComplete dt unit s
  | .quietPeriodExpiry dt unit => Sys2Proof.Machine.execQuietPeriodExpiry dt unit s
  | .recoveryDone dt unit passed bistUs => Sys2Proof.Machine.execRecoveryDone dt unit passed bistUs s
  | .unitIsolate dt unit => Sys2Proof.Machine.execUnitIsolate dt unit s
  | .unitReturn dt unit => Sys2Proof.Machine.execUnitReturn dt unit s
  | .bistGo dt unit => Sys2Proof.Machine.execBistGo dt unit s
  | .bistDone dt pass failAddr => Sys2Proof.Machine.execBistDone dt pass failAddr s
  | .injectionArm dt value => Sys2Proof.Machine.execInjectionArm dt value s
  | .latchClear dt => Sys2Proof.Machine.execLatchClear dt s
  | .journalRecordProgrammed dt seq copy status => Sys2Proof.Machine.execJournalRecordProgrammed dt seq copy status s
  | .journalSealProgrammed dt seq copy => Sys2Proof.Machine.execJournalSealProgrammed dt seq copy s
  | .jtagInstruction dt opcode => Sys2Proof.Machine.execJtagInstruction dt opcode s
  | .dieTempHigh dt sensor tempC => Sys2Proof.Machine.execDieTempHigh dt sensor tempC s
  | .railSlot dt => Sys2Proof.Machine.execRailSlot dt s
  | .railTimeout dt rail => Sys2Proof.Machine.execRailTimeout dt rail s
  | .powerUpRetry dt => Sys2Proof.Machine.execPowerUpRetry dt s
  | .railSample dt rail code => Sys2Proof.Machine.execRailSample dt rail code s
  | .railPgLoss dt rail => Sys2Proof.Machine.execRailPgLoss dt rail s
  | .resetStretchExpiry dt out => Sys2Proof.Machine.execResetStretchExpiry dt out s
  | .holdupEntry dt => Sys2Proof.Machine.execHoldupEntry dt s
  | .holdupEnd dt => Sys2Proof.Machine.execHoldupEnd dt s
  | .vaonPowerOn chrysalisOk => Sys2Proof.Machine.execVaonPowerOn chrysalisOk s
  | .vaonLoss dt => Sys2Proof.Machine.execVaonLoss dt s
  | .porAssert dt => Sys2Proof.Machine.execPorAssert dt s
  | .porRelease dt => Sys2Proof.Machine.execPorRelease dt s
  | .domainWait dt d cls mode => Sys2Proof.Machine.execDomainWait dt d cls mode s
  | .domainCancel dt d => Sys2Proof.Machine.execDomainCancel dt d s
  | .domainIdlePoint dt d => Sys2Proof.Machine.execDomainIdlePoint dt d s
  | .domainCommitWindowEnd dt d => Sys2Proof.Machine.execDomainCommitWindowEnd dt d s
  | .domainNoIdleTimeout dt d => Sys2Proof.Machine.execDomainNoIdleTimeout dt d s
  | .wakeSource dt w => Sys2Proof.Machine.execWakeSource dt w s
  | .domainReady dt d slotCrcOk failWord => Sys2Proof.Machine.execDomainReady dt d slotCrcOk failWord s
  | .dramRequestIssue dt ch sub => Sys2Proof.Machine.execDramRequestIssue dt ch sub s
  | .dramReadDone dt ch sub result => Sys2Proof.Machine.execDramReadDone dt ch sub result s
  | .refreshSlot dt ch rank => Sys2Proof.Machine.execRefreshSlot dt ch rank s
  | .mr4Poll ch readOk hottest => Sys2Proof.Machine.execMr4Poll ch readOk hottest s
  | .rhTableClear dt ch => Sys2Proof.Machine.execRhTableClear dt ch s
  | .rankPowerDown dt ch rank => Sys2Proof.Machine.execRankPowerDown dt ch rank s
  | .dqsTrack ch rank drift => Sys2Proof.Machine.execDqsTrack ch rank drift s
  | .eyeSample ch rank left right vref => Sys2Proof.Machine.execEyeSample ch rank left right vref s
  | .rankRetrainDone dt ch rank better => Sys2Proof.Machine.execRankRetrainDone dt ch rank better s
  | .dramScrubRead dt line result => Sys2Proof.Machine.execDramScrubRead dt line result s
  | .alertFall dt ch sub rank cause => Sys2Proof.Machine.execAlertFall dt ch sub rank cause s
  | .freezeHoldExpiry dt ch => Sys2Proof.Machine.execFreezeHoldExpiry dt ch s
  | .channelOut dt c => Sys2Proof.Machine.execChannelOut dt c s
  | .channelIn dt c => Sys2Proof.Machine.execChannelIn dt c s
  | .channelVerifyDone dt c bad => Sys2Proof.Machine.execChannelVerifyDone dt c bad s
  | .flmKeyWrite dt value => Sys2Proof.Machine.execFlmKeyWrite dt value s
  | .flmCmdWrite dt value => Sys2Proof.Machine.execFlmCmdWrite dt value s
  | .flmAddrWrite dt value => Sys2Proof.Machine.execFlmAddrWrite dt value s
  | .flmSequenceTimeout dt => Sys2Proof.Machine.execFlmSequenceTimeout dt s
  | .flmBufWrite dt offset value width => Sys2Proof.Machine.execFlmBufWrite dt offset value width s
  | .readPage dt value dieBusy result => Sys2Proof.Machine.execReadPage dt value dieBusy result s
  | .readParam dt value dieBusy param => Sys2Proof.Machine.execReadParam dt value dieBusy param s
  | .readId dt value dieBusy id => Sys2Proof.Machine.execReadId dt value dieBusy id s
  | .readStatus dt value status => Sys2Proof.Machine.execReadStatus dt value status s
  | .readWord dt value dieBusy => Sys2Proof.Machine.execReadWord dt value dieBusy s
  | .programPage dt value => Sys2Proof.Machine.execProgramPage dt value s
  | .programWord dt value => Sys2Proof.Machine.execProgramWord dt value s
  | .eraseBlock dt value => Sys2Proof.Machine.execEraseBlock dt value s
  | .pwUnlock dt value => Sys2Proof.Machine.execPwUnlock dt value s
  | .pwSet dt value => Sys2Proof.Machine.execPwSet dt value s
  | .protSet dt value => Sys2Proof.Machine.execProtSet dt value s
  | .protLock dt value => Sys2Proof.Machine.execProtLock dt value s
  | .xipSelect dt value sigOk => Sys2Proof.Machine.execXipSelect dt value sigOk s
  | .flmInvalidOpcode dt value => Sys2Proof.Machine.execFlmInvalidOpcode dt value s
  | .flmOperationDone dt status => Sys2Proof.Machine.execFlmOperationDone dt status s
  | .protSessionTimeout dt => Sys2Proof.Machine.execProtSessionTimeout dt s
  | .twoWireStart dt addr => Sys2Proof.Machine.execTwoWireStart dt addr s
  | .twoWireFrameEnd dt addr code bytes => Sys2Proof.Machine.execTwoWireFrameEnd dt addr code bytes s
  | .twoWireTimeout dt => Sys2Proof.Machine.execTwoWireTimeout dt s
  | .twoWireAwakeExpiry dt => Sys2Proof.Machine.execTwoWireAwakeExpiry dt s
  | .read32 dt addr offset => Sys2Proof.Machine.execRead32 dt addr offset s
  | .write32 dt addr offset value => Sys2Proof.Machine.execWrite32 dt addr offset value s
  | .summary dt addr => Sys2Proof.Machine.execSummary dt addr s
  | .mctpPacketRx dt source som eom msgType bytes msg => Sys2Proof.Machine.execMctpPacketRx dt source som eom msgType bytes msg s
  | .fmApiMessage dt => Sys2Proof.Machine.execFmApiMessage dt s
  | .setEndpointId dt eid => Sys2Proof.Machine.execSetEndpointId dt eid s
  | .getEndpointId dt => Sys2Proof.Machine.execGetEndpointId dt s
  | .getMctpVersionSupport dt => Sys2Proof.Machine.execGetMctpVersionSupport dt s
  | .getMessageTypeSupport dt => Sys2Proof.Machine.execGetMessageTypeSupport dt s
  | .mctpTransmit dt lostArbitration winnerAddr => Sys2Proof.Machine.execMctpTransmit dt lostArbitration winnerAddr s
  | .mctpRetry dt lostArbitration => Sys2Proof.Machine.execMctpRetry dt lostArbitration s
  | .commitWrite dt path offset => Sys2Proof.Machine.execCommitWrite dt path offset s
  | .registerWrite dt path offset width value => Sys2Proof.Machine.execRegisterWrite dt path offset width value s
  | .rcRead dt path offset width => Sys2Proof.Machine.execRcRead dt path offset width s
  | .rslRead dt path offset width => Sys2Proof.Machine.execRslRead dt path offset width s
  | .minRunReached dt ds => Sys2Proof.Machine.execMinRunReached dt ds s
  | .zeroFillDone dt page => Sys2Proof.Machine.execZeroFillDone dt page s
  | .configurationWriteDone dt half status => Sys2Proof.Machine.execConfigurationWriteDone dt half status s

end Sys2Proof.Machine
end

