-- ==== Sys2Proof/Safety.lean ====
section
/-! DEFINITION. What a safe run of the block is, in the terms the claims use, and the conditions and frames that several statements
share. -/

namespace Sys2Proof

open Machine

/-- The sparse tables of a state are in canonical form: keys strictly rising, and in DRAM no entry equal to what an unlisted byte
reads as. -/
structure Canonical (s : State) : Prop where
  dram : tabWf (0 : Byte) s.dram = true
  regs : tabSorted s.regs = true
  lds : tabSorted s.lds = true
  mbx : tabSorted s.mbx = true
  doms : tabSorted s.doms = true
  rings : tabSorted s.rings = true
  pages : tabSorted s.pages = true
  eddy : tabSorted s.eddy = true
  chans : tabSorted s.chans = true
  elys : tabSorted s.elys = true
  targets : tabSorted s.targets = true
  cfgHalf : tabSorted s.cfgHalf = true
  poison : tabSorted s.poison = true
  flash : tabSorted s.flash = true

/-- The step runs a command or idles: it never stops the block. -/
def NeverStops (s : State) : Prop := ∃ t, step s = .next t

/-- Every register field of `t` but those of `fs` reads as in `s`. -/
def RegsBut (fs : List Field) (s t : State) : Prop := ∀ f : Field, f.bit ∉ fs.map Field.bit → t.fget f = s.fget f

/-- Register fields that a fault message of a source may change (R357, R369). -/
def FaultRegs (src : Nat) : List Field := [Fld.FLT_INJ_STS.LEFT, Fld.FLT_SRC_CNT.LOST src, Fld.FLT_SRC_CNT.LOST_SAT src]

/-- A message of a source and kind is in its holding register, where that stood empty (R357). -/
def Reports (src kind : Nat) (s t : State) : Prop :=
  s.flt.hold.all (fun e => e.1 != src) = true → ∃ m, (src, m) ∈ t.flt.hold ∧ m.source = src ∧ m.kind = kind

/-- The conditions under which the request of a port to host address `hpa` of LD `n` passes steps 1 to 5 of Table 11-3 at once,
at device address `a`. -/
def PassesAtOnce (s : State) (port ldId hpa n a : Nat) : Prop :=
  port < 2 ∧ n < 32 ∧ s.on (Fld.FAB_PORT_STS.LINK_UP port) = true ∧ s.isOpen = true ∧ s.ldAt port ldId = some n ∧
  s.decode n (hpa / 64 * 64) = some a ∧ ((s.ld n).st = .refilling ∨ (s.ld n).st = .serving) ∧ (s.ld n).quiesce = none ∧
  s.fget (Fld.SLU_LD_PCFG.BW_LIMIT n) = 0 ∧ s.trkFree port = true ∧ s.capFree n = true ∧
  (∀ q ∈ s.fab.reqs, q.rid < s.fab.nextRid ∧ q.dpa / 4096 ≠ a / 4096 ∧ (q.at_ = .ingress → q.port ≠ port))

/-- FLM_DATA is due for opcode `op`, and the port runs commands: no READ command is BUSY once `dt` has passed, the device is REFILLING,
SERVING or in BASIN, and no lockout stands (R224, R225, R227, R234). -/
def FlmReady (s : State) (dt op : Nat) : Prop :=
  s.flmSt = 4 ∧ s.flm.readTill ≤ s.now + dt ∧ s.fget Fld.FLM_CMD.OPCODE = op ∧ s.on Fld.FLM_PROT_STS.LOCKOUT = false ∧ (s.isOpen = true ∨ s.dev = .basin)

/-- The die stream, block, page, plane and word that FLM_ADDR names. -/
def FlmAt (s : State) (ds block page plane word : Nat) : Prop :=
  s.fget Fld.FLM_ADDR.DIE_STREAM = ds ∧ s.fget Fld.FLM_ADDR.BLOCK = block ∧ s.fget Fld.FLM_ADDR.PAGE = page ∧
  s.fget Fld.FLM_ADDR.PLANE = plane ∧ s.fget Fld.FLM_ADDR.WORD = word

/-- The port command `op` has ended DONE with a status, and no operation of the port runs. -/
def FlmEnds (t : State) (op status : Nat) : Prop :=
  t.flmSt = 6 ∧ t.fget Fld.FLM_STS.OPCODE = op ∧ t.fget Fld.FLM_STS.STATUS = status ∧ t.flm.op = none

/-- What a command of the port may change: its own state and registers, and the count of free values drawn. -/
def FlmOnly (s t : State) : Prop :=
  t = { s with regs := t.regs, flm := t.flm, freeCtr := t.freeCtr } ∧
  RegsBut [Fld.FLM_STS.STATE, Fld.FLM_STS.STATUS, Fld.FLM_STS.OPCODE, Fld.FLM_STS.DIE_BUSY, Fld.FLM_STS.SPILL_ABORT,
    Fld.FLM_STS.LEVEL, Fld.FLM_STS.TIME_US, Fld.FLM_RDATA.RDATA, Fld.FLM_RDATA2.RDATA2, Fld.FLM_CNT.REFUSED,
    Fld.FLM_CNT.RF_SAT] s t

/-- A frame of an Elytra passes its target's checks (R153, R154, R159): its CRC, an opcode that its target takes and that is no
heartbeat, its role generation, and its sender, which is not fenced nor, for a spill command, on its way back. -/
def FramePasses (s : State) (f : ElyFrame) : Prop :=
  f.crcOk = true ∧ f.opcode ≠ 6 ∧ f.fits = true ∧ f.roleGen = s.targetGen f.target ∧ (s.ely f.src).fenced = false ∧
  (f.shadow = true ∨ (s.ely f.src).rejoining = false)

/-- A spill frame that is its target's next one, with none seen ahead of it. -/
def FrameRuns (s : State) (f : ElyFrame) : Prop :=
  FramePasses s f ∧ f.shadow = false ∧ f.seq = (s.target f.target).spill.next ∧ (s.target f.target).spill.hold = [] ∧
  (s.target f.target).spill.top ≤ f.seq

/-- The frame's target goes on to the number after it, and no gap stands. -/
def FrameRan (t : State) (f : ElyFrame) : Prop :=
  (t.target f.target).spill.next = f.seq + 1 ∧ (t.target f.target).spill.gapAt = none ∧ (t.target f.target).spill.hold = []

/-- A frame that arrives on Thobor port `p` reaches its own rule (R47, R50, R81, R82): the module is in a colony, the port is in use and
not isolated, domain 92 is ON, and the frame's CRC and header pass. -/
def Hears (s : State) (p : Nat) (f : Frame) : Prop :=
  p < 4 ∧ s.isStandalone = false ∧ s.portRole p ≠ 0 ∧ s.thoborOn = true ∧ f.crcOk = true ∧ f.headerOk = true ∧
  s.portIso p = false

/-- A frame, and nothing else, was handed to the transmitters of some ports between two states (R51). -/
def Sent (s : State) (ps : List Nat) (f : Frame) (t : State) : Prop :=
  t.tx = (s.sendOn ps f).tx ∧ t.out = (s.sendOn ps f).out

/-- A frame has gone out on a port, or waits its turn there (R51). -/
def Handed (t : State) (p : Nat) (f : Frame) : Prop := Out.frame p f ∈ t.out ∨ f ∈ (t.txPort p).wait

/-- The mailbox `m` can be reached and runs commands: no molt is under way, it has answered its last command (R295), the device is not in BASIN, a tenant's is not cut off
by a spill, and no domain of 3 to 7 is in RETENTION (R402; log entry 40). -/
def MboxReady (s : State) (m : Mbox) : Prop :=
  s.mboxUp m = true ∧ s.molt = none ∧ s.basinLike = false ∧ (m ≠ .fm → s.isCut = false) ∧
  (∀ d, 3 ≤ d → d ≤ 7 → (s.dom d).mode ≠ 1) ∧ s.mboxWaits m = false

/-- A write of `path` reaches the registers of ring `n` of LD `ld` (R333, R440): over the FM register path, or from the tenant's own
window while its BAR0 is there, their domain not OFF. -/
def RingPath (s : State) (path : Path) (ld n : Nat) : Prop :=
  ld < 32 ∧ n < 256 ∧ (s.dom 95).mode ≠ 2 ∧
  ((path = .fm ∧ s.dev ≠ .off ∧ s.basinLike = false) ∨ (path = .tenant ld ∧ s.tenantBar ld = true))

/-- The FM-owned LD's mailbox is ready and the device is REFILLING or SERVING: a command that changes settings runs. -/
def FmMayChange (s : State) : Prop := MboxReady s .fm ∧ s.isOpen = true

end Sys2Proof
end

