-- ==== Sys2Proof/Certificates/Slice0/Obligations.lean ====
section
/-! DEFINITION. The statements about the KX7180 for the provers, chapter by chapter. Where a command ends by waking what waited, a
statement names the state `u` before that and says that the next state is `u` after `settle` and `showWeir`; SettlingLeavesTheRest
says what those leave alone. -/

open Sys2Proof Sys2Proof.Machine

/-! ## The whole block -/

/-- A step takes the command at the front of the queue and runs exec on it with the queue's rest; on an empty queue the block
idles (DESIGN CHOICE, log entry 6); and no step stops the block. -/
def Obligations.StepRunsTheFrontCommand : Prop :=
  (∀ (c : Instr) (s : State) (rest : List Instr), s.pending = c :: rest → step s = exec c { s with pending := rest }) ∧
  (∀ s : State, s.pending = [] → step s = .next s) ∧
  (∀ s : State, NeverStops s)

/-- After reset every register field reads its Reset column value (R442), the device is OFF with nothing queued and nothing
sent, DRAM and flash list nothing, and the tables are canonical. The values of what no register shows are the model's (DESIGN
CHOICE, log entry 3). -/
def Obligations.ResetLeavesTheResetColumn : Prop :=
  (∀ f : Field, State.reset.fget f = f.reset) ∧ State.reset.dev = .off ∧ State.reset.pending = [] ∧ State.reset.out = [] ∧
  State.reset.dram = [] ∧ State.reset.flash = [] ∧ State.reset.staged = [] ∧ State.reset.fab.reqs = [] ∧
  (∀ n, (State.reset.ld n).st = .unbound) ∧ Canonical State.reset

/-- An invariant that every step keeps, from any state that meets it: the tables of registers, DRAM, poison, LDs, mailboxes,
pages, rings, eddy slots, channels, power domains, Elytra, targets and flash stay in canonical form. It is the model's own (R8
lays out the address space that the DRAM table stands for). -/
def Obligations.EveryStepKeepsTablesCanonical : Prop :=
  ∀ s t : State, Canonical s → step s = .next t → Canonical t

/-- Whatever the command, always-on time never runs back (R109) and what has left the device is never taken back: the output of
a step extends the output before it. -/
def Obligations.TimeAndOutputOnlyGrow : Prop :=
  ∀ s t : State, step s = .next t → s.now ≤ t.now ∧ s.out <+: t.out

/-- What the wake-ups after a command (`settle`: held requests, refill, rings; `showWeir`: the ladder's status) leave unchanged:
flash, the sealed image, the sequencer, power domains, cistern, colony, boot, the maintenance port, the two-wire target,
mailboxes, the spill, staged and captured sets, the configuration region, time and the beat, and the log's erase counts, folds,
relocations and channels out of service. The wake-ups' own rules are R12, R125 to R127, R182, R313. -/
def Obligations.SettlingLeavesTheRest : Prop :=
  ∀ s t : State, t = s.settle.showWeir →
    t.flash = s.flash ∧ t.sealedImg = s.sealedImg ∧ t.psq = s.psq ∧ t.doms = s.doms ∧ t.cis = s.cis ∧ t.col = s.col ∧
    t.boot = s.boot ∧ t.flm = s.flm ∧ t.twb = s.twb ∧ t.mbx = s.mbx ∧ t.spill = s.spill ∧ t.staged = s.staged ∧
    t.captured = s.captured ∧ t.cfgHalf = s.cfgHalf ∧ t.molt = s.molt ∧ t.now = s.now ∧ t.colTime = s.colTime ∧
    t.beat = s.beat ∧ t.log.erases = s.log.erases ∧ t.log.fold = s.log.fold ∧ t.log.reloc = s.log.reloc ∧
    t.log.verifying = s.log.verifying ∧ t.log.dieCause = s.log.dieCause ∧ t.log.chOut = s.log.chOut ∧ t.log.tlc = s.log.tlc

/-! ## Colony and plunges (chapters 3 and 4) -/

/-- R69, R70, R71, R73, R74, R76, R77, R78: an FM checkpoint and an edge of PLUNGE_N open a window GUARD beats away and announce
it; an announcement no earlier than the window's T is only merged; a window's own frames are repeated with REP 1 to 3; a
received PLUNGE is forwarded once with HOPS one higher and merged; the window closes 64 beats after it opened; a colony
checkpoint is taken at an epoch boundary at least 16 beats away, else ignored and counted. -/
def Obligations.PlungesAreAnnouncedAndMerged : Prop :=
  (∀ (s : State) (dt b g : Nat), s.fmWritable 0x1900A0 = true → s.col.window = none → 0 < s.guardNow →
    b = (s.elapse dt).curBeat → g = s.fget Fld.COL_GROUP_MASK.GROUPS →
    ∃ t w, exec (.fmCheckpoint dt) s = .next t ∧ t.col.window = some w ∧ w.tw = b + s.guardNow ∧ w.late = false ∧
      w.own = true ∧ w.groups = g ∧ w.ownSpill = none ∧ w.cut = false ∧ w.openAt = t.colTime ∧
      t.fget Fld.COL_PLUNGE_STS.OPEN = 1 ∧ t.fget Fld.COL_PLUNGE_STS.CUT_BEAT = (b + s.guardNow) % 2 ^ 48 ∧
      t.fget Fld.COL_PLUNGE_STS.ORIGIN = s.moduleId % 2 ^ 14 ∧ t.fget Fld.COL_PLUNGE_INFO.CAUSE = 2 ∧
      t.fget Fld.COL_PLUNGE_CNT.WINDOWS = min (s.fget Fld.COL_PLUNGE_CNT.WINDOWS + 1) Fld.COL_PLUNGE_CNT.WINDOWS.max ∧
      t.col.reps = s.col.reps ++ [PlungeRep.mk 0 2 (b + s.guardNow) g] ∧
      Sent (s.elapse dt) s.plungePorts (s.mkFrame 0 (.plunge 0 2 (b + s.guardNow) (BitVec.ofNat 64 g))) t ∧
      t = { s.elapse dt with regs := t.regs, col := t.col, tx := t.tx, out := t.out }) ∧
  (∀ (s : State) (dt b : Nat) (w : PlungeWin), s.fmWritable 0x1900A0 = true → s.col.window = some w →
    b = (s.elapse dt).curBeat → b < w.tw → w.tw ≤ b + s.guardNow →
    ∃ t, exec (.fmCheckpoint dt) s = .next t ∧
      t.col = { (s.elapse dt).col with
        window := some { w with groups := w.groups ||| s.fget Fld.COL_GROUP_MASK.GROUPS, own := true } } ∧
      t.fget Fld.COL_PLUNGE_INFO.MERGED = min (s.fget Fld.COL_PLUNGE_INFO.MERGED + 1) 255 ∧
      t = { s.elapse dt with regs := t.regs, col := t.col } ∧
      RegsBut [Fld.COL_PLUNGE_INFO.MERGED, Fld.COL_PLUNGE_STS.OPEN, Fld.COL_PLUNGE_STS.LATE] s t) ∧
  (∀ (s : State) (dt b g : Nat), s.on Fld.COL_CTL.PLUNGEN_EN = true → s.edgeOn = true → s.isOpen = true →
    s.col.window = none → 0 < s.guardNow → b = (s.elapse dt).curBeat → g = s.fget Fld.COL_PLUNGEN_MASK.GROUPS →
    ∃ t w, exec (.plungeNEdge ⟨dt, true⟩) s = .next t ∧ t.col.window = some w ∧ w.tw = b + s.guardNow ∧ w.own = false ∧
      w.groups = g ∧ w.late = false ∧ t.fget Fld.COL_PLUNGE_INFO.PLUNGEN_LOW = 1 ∧
      t.fget Fld.COL_PLUNGE_INFO.CAUSE = 5 ∧
      Sent (s.elapse dt) s.plungePorts (s.mkFrame 0 (.plunge 0 5 (b + s.guardNow) (BitVec.ofNat 64 g))) t ∧
      t = { s.elapse dt with regs := t.regs, col := t.col, doms := t.doms, tx := t.tx, out := t.out }) ∧
  (∀ (s : State) (dt : Nat), (s.on Fld.COL_CTL.PLUNGEN_EN = false ∨ s.edgeOn = false ∨ s.isOpen = false) →
    exec (.plungeNEdge ⟨dt, true⟩) s = .next (wakeSource 2 ((s.elapse dt).fset Fld.COL_PLUNGE_INFO.PLUNGEN_LOW 1))) ∧
  (∀ (s : State) (dt : Nat),
    ∃ t, exec (.plungeNEdge ⟨dt, false⟩) s = .next t ∧ t.fget Fld.COL_PLUNGE_INFO.PLUNGEN_LOW = s.col.driveLow.toNat ∧
      t = { s.elapse dt with regs := t.regs } ∧ RegsBut [Fld.COL_PLUNGE_INFO.PLUNGEN_LOW, Fld.PDM_WAKE_STS.LEVEL] s t) ∧
  (∀ (s : State),
    ∃ t, exec .plungeRepeat s = .next t ∧
      t.col.reps = (s.col.reps.filter (fun r => decide (s.curBeat < r.cutBeat) && decide (r.rep < 3))).map
        (fun r => { r with rep := r.rep + 1 }) ∧
      (∀ r ∈ s.col.reps, s.curBeat < r.cutBeat → r.rep < 3 → ∀ p ∈ s.plungePorts,
        Handed t p (s.mkFrame 0 (.plunge (r.rep + 1) r.cause r.cutBeat (BitVec.ofNat 64 r.groups)))) ∧
      t = { s with col := t.col, tx := t.tx, out := t.out }) ∧
  (∀ (s : State) (dt p rep cause cut b : Nat) (f : Frame) (g : Word), Hears s p f → f.body = .plunge rep cause cut g →
    b = (s.elapse dt).curBeat → cut ≤ b + 64 → b ≤ cut + 64 → s.isOpen = true → s.col.window = none → f.hops < 15 →
    (∀ x ∈ s.col.fwd, ¬ (x.1 = f.origin ∧ x.2.1 = cut ∧ x.2.2.1 = rep)) →
    ∃ t w, exec (.plungeRx dt p f) s = .next t ∧ t.col.window = some w ∧
      w.tw = (if b < cut then cut else b + 1) ∧ (w.late = true ↔ cut ≤ b) ∧ w.own = false ∧ w.groups = g.toNat ∧
      t.fget Fld.COL_PLUNGE_STS.ORIGIN = f.origin % 2 ^ 14 ∧ (f.origin, cut, rep, b) ∈ t.col.fwd ∧
      Sent (s.elapse dt) (s.plungePorts.filter (· != p)) (f.withHops (f.hops + 1)) t ∧
      t = { s.elapse dt with regs := t.regs, col := t.col, tx := t.tx, out := t.out }) ∧
  (∀ (s : State) (dt : Nat) (w : PlungeWin), s.col.window = some w → w.openAt + 524288 ≤ (s.elapse dt).colTime →
    ∃ t, exec (.plungeWindowClose dt) s = .next t ∧ t.col.window = none ∧ t.col.driveLow = false ∧
      t.col = { (s.elapse dt).col with window := none, ownCut := t.col.ownCut, driveLow := false } ∧
      (w.ownSpill = none → t.col.ownCut = s.col.ownCut) ∧
      (∀ x, w.ownSpill = some x → (s.elapse dt).curBeat ≤ x ∨ w.cut = false →
        t.col.ownCut = some (OwnCut.mk x w.spillCause w.late)) ∧
      t.fget Fld.COL_PLUNGE_STS.OPEN = 0 ∧
      t.out = (s.elapse dt).out ++ (if s.col.driveLow then [.pin .plungeN true] else []) ∧
      t = { s.elapse dt with regs := t.regs, col := t.col, out := t.out } ∧ RegsBut [Fld.COL_PLUNGE_STS.OPEN] s t) ∧
  (∀ (s : State) (dt x : Nat), s.fmWritable 0x1900B0 = true → s.isMember = false →
    (s.elapse dt).curBeat + 16 ≤ x → s.isEpoch x = true →
    ∃ t, exec (.colonyCheckpoint dt x) s = .next t ∧ (x, s.fget Fld.COL_CKPT_MASK.GROUPS) ∈ t.col.announce ∧
      (x, s.fget Fld.COL_CKPT_MASK.GROUPS) ∈ t.col.ckpts ∧ x ∈ t.col.ckptTaken ∧
      t = { s.elapse dt with col := t.col }) ∧
  (∀ (s : State) (dt x : Nat), s.fmWritable 0x1900B0 = true →
    (s.isMember = true ∨ x < (s.elapse dt).curBeat + 16 ∨ s.isEpoch x = false) →
    exec (.colonyCheckpoint dt x) s = .next ((s.elapse dt).bump Fld.COL_CKPT_CNT.IGNORED Fld.COL_CKPT_CNT.IG_SAT))

/-- R43, R44, R47, R50, R52, R53, R54, R56, R59, R67, R68, R69, R81: what a frame that passes its checks does: a BEACON of the
selected port gives depth, delay and offset and trims the clock, or steps it in TRAINING; FIREFLY ends silence; ROLE names the
neighbour and an identity conflict; a FIREFLY or ROLE of another root than the selected port's sets ROOT_CONFLICT; CONFIG and EPOCH_ANNOUNCE of the selected port are taken and passed on, others of CONFIG
malformed; SEAL_REPORT goes towards the root, where it becomes an event record. A frame that fails its CRC is counted. -/
def Obligations.ThoborFramesAreTaken : Prop :=
  (∀ (s : State) (dt p t2 tx st root e4 eq t3 : Nat) (f : Frame) (delay off : Int), Hears s p f →
    f.body = .beacon tx st root e4 eq → s.isMember = true → (s.portRole p = 1 ∨ s.portRole p = 3) → s.selPort = some p →
    (∀ x, s.selRoot = some x → root = x) → ((s.elapse dt).txPort p).t3.find? (fun e => e.1 == eq) = some (eq, t3) →
    delay = (diff32 (diff32 ((t2 : Int) - tx) 0 + diff32 e4 t3) 0).tdiv 2 →
    off = (t2 : Int) - tx - delay - ofField 8 (s.fget (Fld.COL_PORT_CFG.ASYM_NS p)) →
    ∃ t, exec (.beaconRx dt p t2 f) s = .next t ∧ t.fget Fld.COL_SYNC.DELAY_NS = toField 16 delay ∧
      t.fget Fld.COL_SYNC.OFFSET_NS = toField 32 off ∧ t.fget Fld.COL_TIME_STS.DEPTH = min (f.hops + 1) 15 ∧
      (t.port p).beacon = some (BeaconInfo.mk f.hops root st) ∧
      (off.natAbs ≤ 1000 → t.colTime = (s.elapse dt).colTime ∧ t.fget Fld.COL_TIME_STS.TIME_FAR = 0 ∧
        t.col.trim64 = max (-12800) (min 12800 (s.col.trim64 - off))) ∧
      (1000 < off.natAbs → s.dev = .training →
        t.colTime = (((s.elapse dt).colTime : Int) - off).toNat ∧ t.fget Fld.COL_TIME_STS.STEPPED = 1) ∧
      (off.natAbs ≤ 8 → s.fget Fld.COL_TIME_STS.STATE = 1 → 15 ≤ s.col.good → s.col.measAt = (s.elapse dt).curBeat → t.fget Fld.COL_TIME_STS.STATE = 2) ∧
      t = { s.elapse dt with regs := t.regs, col := t.col, colTime := t.colTime, beat := t.beat }) ∧
  (∀ (s : State) (dt p t4 a b c q root : Nat) (f : Frame), Hears s p f → f.body = .firefly a b c q root →
    (s.isMember = true → ∀ x, s.selRoot = some x → root = x) →
    ∃ t, exec (.fireflyRx dt p t4 f) s = .next t ∧ t.fget (Fld.COL_PORT_STS.SILENT p) = 0 ∧
      (t.port p).lastFirefly = (s.elapse dt).curBeat ∧ (t.port p).echoT4 = t4 % 2 ^ 32 ∧ (t.port p).echoSeq = q ∧
      (f.codeErrs ≠ 0 → t.fget (Fld.COL_PORT_ERRA.CODE_ERR p) =
        min (s.fget (Fld.COL_PORT_ERRA.CODE_ERR p) + f.codeErrs) (Fld.COL_PORT_ERRA.CODE_ERR p).max) ∧
      t = { s.elapse dt with regs := t.regs, col := t.col } ∧
      RegsBut [Fld.COL_PORT_STS.SILENT p, Fld.COL_PORT_ERRA.CODE_ERR p, Fld.COL_PORT_ERRA.CODE_SAT p] s t) ∧
  (∀ (s : State) (dt p d a b c root : Nat) (f : Frame), Hears s p f → f.body = .role d a b c root →
    (s.isMember = true → ∀ x, s.selRoot = some x → root = x) →
    ∃ t, exec (.roleRx dt p f) s = .next t ∧ t.fget (Fld.COL_PORT_STS.NEIGH_ID p) = f.origin % 2 ^ 14 ∧
      t.fget (Fld.COL_PORT_STS.NEIGH_DEPTH p) = d % 16 ∧ (t.port p).rootSeen = some root ∧
      (f.origin = s.moduleId → t.fget Fld.COL_TIME_STS.ID_CONFLICT = 1 ∧ Reports (srcOf 76 7) 0x4A s t) ∧
      (f.origin ≠ s.moduleId → t.flt = s.flt ∧
        RegsBut [Fld.COL_PORT_STS.NEIGH_ID p, Fld.COL_PORT_STS.NEIGH_DEPTH p, Fld.COL_PORT_ERRA.CODE_ERR p,
          Fld.COL_PORT_ERRA.CODE_SAT p] s t) ∧
      t = { s.elapse dt with regs := t.regs, col := t.col, flt := t.flt }) ∧
  (∀ (s : State) (dt p t4 a b c d q root x : Nat) (f : Frame), Hears s p f → s.isMember = true → s.selRoot = some x →
    root ≠ x →
    (f.body = .firefly a b c q root →
      ∃ t, exec (.fireflyRx dt p t4 f) s = .next t ∧ t.fget Fld.COL_TIME_STS.ROOT_CONFLICT = 1 ∧
        Reports (srcOf 76 7) 0x49 s t ∧ t.selPort = s.selPort) ∧
    (f.body = .role d a b c root →
      ∃ t, exec (.roleRx dt p f) s = .next t ∧ t.fget Fld.COL_TIME_STS.ROOT_CONFLICT = 1 ∧ t.selPort = s.selPort)) ∧
  (∀ (s : State) (dt p gen guard k eff : Nat) (f : Frame), Hears s p f → f.body = .config gen guard k eff →
    s.isMember = true → s.selPort = some p → 2 ≤ guard → guard ≤ 15 → 7 ≤ k → k ≤ 21 →
    ∃ t, exec (.configRx dt p f) s = .next t ∧ t.col.cfgLast = some gen ∧
      ((s.elapse dt).curBeat < eff → t.col.pend = some (PendCfg.mk guard k eff) ∧ t.col.guardNow = s.col.guardNow) ∧
      (eff ≤ (s.elapse dt).curBeat → t.col.pend = none ∧ t.guardNow = guard ∧ t.kNow = k) ∧
      Sent (s.elapse dt) (s.downPorts.filter (· != p)) f t ∧
      t = { s.elapse dt with regs := t.regs, col := t.col, tx := t.tx, out := t.out } ∧
      RegsBut [Fld.COL_PORT_ERRA.CODE_ERR p, Fld.COL_PORT_ERRA.CODE_SAT p] s t) ∧
  (∀ (s : State) (dt p gen guard k eff : Nat) (f : Frame), Hears s p f → f.body = .config gen guard k eff →
    ¬ (s.isMember = true ∧ s.selPort = some p ∧ 2 ≤ guard ∧ guard ≤ 15 ∧ 7 ≤ k ∧ k ≤ 21) →
    ∃ t, exec (.configRx dt p f) s = .next t ∧
      t.fget (Fld.COL_PORT_ERRB.MALFORMED p) =
        min (s.fget (Fld.COL_PORT_ERRB.MALFORMED p) + 1) (Fld.COL_PORT_ERRB.MALFORMED p).max ∧
      t.col.pend = s.col.pend ∧ t.out = (s.elapse dt).out) ∧
  (∀ (s : State) (dt p k x : Nat) (ck : Bool) (g : Word) (f : Frame), Hears s p f → f.body = .epochAnnounce ck k x g →
    s.isMember = true → s.selPort = some p →
    ∃ t, exec (.epochAnnounceRx dt p f) s = .next t ∧
      ((k ≠ s.kAt x ∨ s.isEpoch x = false) → Reports (srcOf 76 7) 0x4B s t) ∧
      (k = s.kAt x → s.isEpoch x = true → t.flt = s.flt ∧
        RegsBut [Fld.COL_PORT_ERRA.CODE_ERR p, Fld.COL_PORT_ERRA.CODE_SAT p] s t) ∧
      (ck = true → s.col.ckptTaken.contains x = false → (x, g.toNat) ∈ t.col.ckpts ∧ x ∈ t.col.ckptTaken) ∧
      ((ck = false ∨ s.col.ckptTaken.contains x = true) → t.col = (s.elapse dt).col) ∧
      Sent (s.elapse dt) (s.downPorts.filter (· != p)) f t ∧
      t = { s.elapse dt with regs := t.regs, col := t.col, flt := t.flt, tx := t.tx, out := t.out }) ∧
  (∀ (s : State) (dt p q kind cut gen : Nat) (cp late : Bool) (inc : BitVec 32) (f : Frame), Hears s p f →
    f.body = .sealReport cp late kind cut gen inc → s.isMember = true → s.selPort = some q → s.canSend q = true → q ≠ p →
    ∃ t, exec (.sealReportRx dt p f) s = .next t ∧ Sent (s.elapse dt) [q] f t ∧
      t = { s.elapse dt with regs := t.regs, tx := t.tx, out := t.out } ∧
      RegsBut [Fld.COL_PORT_ERRA.CODE_ERR p, Fld.COL_PORT_ERRA.CODE_SAT p] s t) ∧
  (∀ (s : State) (dt p kind cut gen : Nat) (cp late : Bool) (inc : BitVec 32) (f : Frame) (l : EvLog), Hears s p f →
    f.body = .sealReport cp late kind cut gen inc → s.isMember = false →
    l = tabGet ({ } : EvLog) (if cp then 0 else 1) (s.mb fmLd).logs → l.recs.length < 256 →
    ∃ t r, exec (.sealReportRx dt p f) s = .next t ∧
      tabGet ({ } : EvLog) (if cp then 0 else 1) (t.mb fmLd).logs = { l with recs := l.recs ++ [r], next := l.next + 1 } ∧
      r.kind = 2 ∧ r.words = [kind % 2 + (if late then 2 else 0) + (if cp then 4 else 0) + 8, f.origin, s.rootId,
        cut % 2 ^ 48, gen, inc.toNat, (s.elapse dt).curBeat] ∧
      t = { s.elapse dt with regs := t.regs, mbx := t.mbx, out := t.out } ∧
      RegsBut [Fld.COL_PORT_ERRA.CODE_ERR p, Fld.COL_PORT_ERRA.CODE_SAT p] s t) ∧
  (∀ (s : State) (dt p t4 : Nat) (f : Frame), p < 4 → s.isStandalone = false → s.portRole p ≠ 0 →
    s.thoborOn = true → f.crcOk = false →
    ∃ t, exec (.fireflyRx dt p t4 f) s = .next t ∧
      t.fget (Fld.COL_PORT_ERRA.CRC_ERR p) = min (s.fget (Fld.COL_PORT_ERRA.CRC_ERR p) + 1) (Fld.COL_PORT_ERRA.CRC_ERR p).max ∧
      Reports (srcOf (72 + p) 2) 0x05 s t ∧ (t.port p).lastFirefly = (s.port p).lastFirefly ∧
      (s.portIso p = false → s.fget Fld.COL_ISO_CFG.THRESH = 0 → t.portIso p = true ∧ t.unitSt (72 + p) = 2))

/-- R42, R47, R52, R54, R60, R61, R67, R68, R82: isolation lifts by itself or by the FM; a port comes up with its ROLE frame,
goes down and falls silent; a member whose selected port is lost takes its eligible BACKUP port or enters HOLDOVER; its UPSTREAM
port is selected; what is sent every 1,024 beats and before each epoch boundary. -/
def Obligations.PortsSelectionAndPeriodicFrames : Prop :=
  (∀ (s : State) (dt p : Nat), p < 4 → s.portIso p = true →
    (∀ c, (c = Instr.isolationAutoLift p ∧ s.on Fld.COL_ISO_CFG.AUTO_LIFT = true ∧
        (s.port p).winStart + 2 ≤ s.errWindow) ∨
      (c = .isolationLift dt p ∧ s.fmWritable 0x190060 = true) →
      ∃ t, exec c s = .next t ∧ t.portIso p = false ∧ t.unitSt (72 + p) = 0 ∧ (t.port p).errWin = 0 ∧
        Reports (srcOf (72 + p) 7) 0x4C s t ∧ (∀ q, q ≠ p → t.port q = s.port q) ∧
        t = { s with regs := t.regs, flt := t.flt, col := t.col, now := t.now, colTime := t.colTime, tx := t.tx, out := t.out })) ∧
  (∀ (s : State) (dt p : Nat), p < 4 → s.isStandalone = false → s.portRole p ≠ 0 → s.thoborOn = true →
    ∃ t, exec (.portUp dt p) s = .next t ∧ t.portUp p = true ∧ t.portSilent p = false ∧
      (t.port p).lastFirefly = (s.elapse dt).curBeat ∧
      Sent (s.elapse dt) (if s.portIso p then [] else [p]) (s.roleFrame p) t ∧
      t = { s.elapse dt with regs := t.regs, col := t.col, tx := t.tx, out := t.out } ∧
      RegsBut [Fld.COL_PORT_STS.LINK_UP p, Fld.COL_PORT_STS.SILENT p] s t) ∧
  (∀ (s : State) (dt p : Nat), exec (.portDown dt p) s = .next ((s.elapse dt).fset (Fld.COL_PORT_STS.LINK_UP p) 0)) ∧
  (∀ (s : State) (p : Nat), s.portUp p = true → (s.port p).lastFirefly + 3 < s.curBeat →
    exec (.portSilent p) s = .next (s.fset (Fld.COL_PORT_STS.SILENT p) 1)) ∧
  (∀ (s : State) (p : Nat), s.isMember = true → s.selPort = some p → (s.portUp p = false ∨ s.portSilent p = true) →
    ∃ t, exec .backupSelect s = .next t ∧ t.fget (Fld.COL_PORT_STS.SELECTED p) = 0 ∧ t.col.mayUp = false ∧
      (allPorts.filter (s.eligible (s.fget Fld.COL_TIME_STS.ROOT_ID) s.depth) = [] → t.col.lost = true ∧
        ((s.fget Fld.COL_TIME_STS.STATE = 1 ∨ s.fget Fld.COL_TIME_STS.STATE = 2) → t.fget Fld.COL_TIME_STS.STATE = 3)) ∧
      (∀ q, allPorts.filter (s.eligible (s.fget Fld.COL_TIME_STS.ROOT_ID) s.depth) = [q] →
        t.fget (Fld.COL_PORT_STS.SELECTED q) = 1 ∧ t.col.lost = false ∧
        (s.fget Fld.COL_TIME_STS.STATE = 3 → t.fget Fld.COL_TIME_STS.STATE = 1) ∧
        (∀ x, (s.port q).beacon = some x → t.depth = min (x.depth + 1) 15)) ∧
      t = { s with regs := t.regs, col := t.col }) ∧
  (∀ (s : State) (p : Nat), s.isMember = true → s.col.mayUp = true →
    allPorts.find? (fun p => s.portRole p == 1 && s.portUp p) = some p → s.selPort ≠ some p →
    ∃ t, exec .upstreamSelect s = .next t ∧ (∀ q, q < 4 → t.fget (Fld.COL_PORT_STS.SELECTED q) = if q = p then 1 else 0) ∧
      t.col.lost = false ∧ (s.fget Fld.COL_TIME_STS.STATE = 0 → t.fget Fld.COL_TIME_STS.STATE = 1) ∧
      t = { s with regs := t.regs, col := t.col }) ∧
  (∀ (s : State),
    exec .rolePeriodic s = .next (s.rolePorts.foldl (fun u p => u.sendFrame p (s.roleFrame p)) s) ∧
    (∀ p, p ∈ s.rolePorts ↔ p < 4 ∧ s.isStandalone = false ∧ s.portRole p ≠ 0 ∧ s.portIso p = false ∧ s.thoborOn = true)) ∧
  (∀ (s : State) (f : Frame), s.isRoot = true →
    (∀ x, s.col.pend = some x → f = s.mkFrame 0 (.config s.col.cfgGen x.guard x.k x.beat)) →
    (s.col.pend = none → f = s.mkFrame 0 (.config s.col.cfgGen s.guardNow s.kNow s.curBeat)) →
    ∃ t, exec .configPeriodic s = .next t ∧ Sent s s.downPorts f t ∧ t = { s with tx := t.tx, out := t.out }) ∧
  (∀ (s : State), s.isRoot = true →
    ∃ t, exec .epochAnnounceSend s = .next t ∧
      t.col.announce = s.col.announce.filter (fun e => decide (s.curBeat + 8 < e.1)) ∧
      (∀ x m, (x, m) ∈ s.col.announce → x ∈ [s.curBeat + 16, s.curBeat + 12, s.curBeat + 8] → ∀ p ∈ s.downPorts,
        Handed t p (s.mkFrame 0 (.epochAnnounce true (s.kAt x) x (BitVec.ofNat 64 m)))) ∧
      (s.isEpoch (s.curBeat + 8) = true → (∀ e ∈ s.col.announce, e.1 ≠ s.curBeat + 8) → ∀ p ∈ s.downPorts,
        Handed t p (s.mkFrame 0 (.epochAnnounce false (s.kAt (s.curBeat + 8)) (s.curBeat + 8) 0))) ∧
      t = { s with col := t.col, tx := t.tx, out := t.out }) ∧
  (∀ (s : State) (p : Nat) (f : Frame),
    ((s.txPort p).wait = [] → (s.txPort p).freeAt ≤ s.now →
      (s.sendFrame p f).out = s.out ++ [.frame p (f.stamped s.colTime)] ∧
      ((s.sendFrame p f).txPort p).freeAt = s.now + f.ns ∧
      (∀ q, f.fireflySeq = some q → ((s.sendFrame p f).txPort p).t3.head? = some (q, s.colTime % 2 ^ 32))) ∧
    (s.now < (s.txPort p).freeAt → (s.sendFrame p f).out = s.out ∧ ((s.sendFrame p f).txPort p).wait = (s.txPort p).wait ++ [f])) ∧
  (∀ (s : State) (p : Nat), p < 4 →
    (s.isolatePort p).portIso p = true ∧ ((s.isolatePort p).txPort p).wait = (s.txPort p).wait.filter (fun f => f.type == 3) ∧
      (s.isolatePort p).out = s.out) ∧
  (∀ (s : State) (p : Nat) (f : Frame), (s.txPort p).next = some f → (s.txPort p).freeAt ≤ s.now →
    (s.txStep p).out = s.out ++ [.frame p (f.stamped (s.timeAt (s.txPort p).freeAt))] ∧ f ∈ (s.txPort p).wait ∧ (∀ g ∈ (s.txPort p).wait, f.cls ≤ g.cls) ∧
    ((s.txStep p).txPort p).wait = (s.txPort p).wait.erase f)

/-! ## The cistern (chapter 4) -/

/-- R86, R87, R88, R89, R112: what the converters bring: a shunt conversion sets CURRENT and adds to the 48-bit charge count; a
voltage and temperature sample sets the pack's status and VOLT_FAULT by the bounds of R86; a pack is counted while the
conditions of R86 hold; a rest of 20 minutes sets SOC from a valid OCV table with SOC_UNC 2.0 %, which grows by 1.0 % a day up
to 20.0 %; a reached alarm sets ALARM_HIT and wake source 0. Fractions round as log entry 28 says (DEDUCED). R106, R107: a pack
that leaves is excluded, its charger off, counted and reported; one that arrives while the device is off waits for the next
start, and otherwise takes SWAP_POLICY at once, KEEP_LEARNED keeping its learned record. -/
def Obligations.PacksAreMeasuredAndSwapped : Prop :=
  (∀ (s : State) (dt : Nat) (sh : List Int),
    ∃ t, exec (.coulombSample dt sh) s = .next t ∧
      (∀ p v, p < 4 → sh[p]? = some v → -32768 ≤ v → v ≤ 32767 → 0 < s.fget (Fld.CIS_PACK_CFG.SHUNT_UOHM p) →
        t.fget (Fld.CIS_PACK_STS.CURRENT p) =
          toField 16 (v * 15625 / ((80 * s.fget (Fld.CIS_PACK_CFG.SHUNT_UOHM p) : Nat) : Int)) ∧
        (t.pack p).cur = v ∧ (t.pack p).count = ofField 48 (toField 48 ((s.pack p).count + v)) ∧
        (s.on (Fld.CIS_PACK_STS.PRESENT p) = false →
          t.fget (Fld.CIS_PACK_EST.SOC p) = s.fget (Fld.CIS_PACK_EST.SOC p))) ∧
      (∀ p, p < 4 → sh[p]? = none → t.pack p = s.pack p) ∧
      t = { s.elapse dt with regs := t.regs, cis := t.cis, cfgDue := t.cfgDue } ∧
      RegsBut ([0, 1, 2, 3].flatMap (fun p => [Fld.CIS_PACK_STS.CURRENT p, Fld.CIS_PACK_STS.AT_REST p,
        Fld.CIS_PACK_EST.SOC p, Fld.CIS_PACK_EST.CYCLES p])) s t) ∧
  (∀ (s : State) (xs : List PackSample),
    ∃ t, exec (.cisternSample xs) s = .next t ∧
      (∀ p x, p < 4 → xs[p]? = some x → -128 ≤ x.tempC → x.tempC ≤ 127 →
        t.fget (Fld.CIS_PACK_STS.VOLT_MV p) = min x.mv 65535 ∧ t.packTemp p = x.tempC ∧
        t.on (Fld.CIS_PACK_STS.NTC_FAULT p) = x.ntcFault ∧
        (t.on (Fld.CIS_PACK_STS.VOLT_FAULT p) = true ↔ x.mv < 7500 ∨ 21000 < x.mv ∨
          x.mv < 2000 * s.fget (Fld.CIS_PACK_CFG.CELLS p) ∨ 4350 * s.fget (Fld.CIS_PACK_CFG.CELLS p) < x.mv) ∧
        (t.on (Fld.CIS_PACK_STS.VOLT_FAULT p) = true → t.counted p = false)) ∧
      t = { s with regs := t.regs, cis := t.cis, flt := t.flt, out := t.out }) ∧
  (∀ (s : State) (dt p : Nat), p < 4 →
    exec (.packCounted dt p) s = .next ((s.elapse dt).fput (Fld.CIS_PACK_STS.COUNTED p)
      (s.on (Fld.CIS_PACK_CFG.ENABLE p) && s.on (Fld.CIS_PACK_STS.PRESENT p) && !(s.pack p).swapDue &&
        decide ((s.pack p).heldAt + 1000000000 ≤ s.now + dt) && !s.on (Fld.CIS_PACK_STS.VOLT_FAULT p) &&
        (s.on (Fld.CIS_PACK_STS.NTC_FAULT p) || decide (-40 ≤ s.packTemp p ∧ s.packTemp p ≤ 70))))) ∧
  (∀ (s : State) (dt p u : Nat), p < 4 → s.on (Fld.CIS_PACK_STS.PRESENT p) = true → (s.pack p).restAt = some u →
    u + 1200000000000 ≤ s.now + dt → s.on (Fld.CIS_PACK_STS.AT_REST p) = false → ocvValid s.ocv = true → s.calState ≠ 4 →
    ∃ t, exec (.socAnchor dt p) s = .next t ∧
      t.fget (Fld.CIS_PACK_EST.SOC p) = socOf s.ocv ((1000 * s.fget (Fld.CIS_PACK_STS.VOLT_MV p) /
        max 1 (s.fget (Fld.CIS_PACK_CFG.CELLS p)) : Nat) : Int) % 1024 ∧
      t.fget (Fld.CIS_PACK_EST.SOC_UNC p) = 20 ∧ t.fget (Fld.CIS_PACK_STS.AT_REST p) = 1 ∧
      t.fget (Fld.CIS_PACK_STS.INSERT_EST p) = 0 ∧ (t.pack p).uncAt = s.now + dt ∧
      (∀ q, q ≠ p → t.pack q = s.pack q) ∧ t = { s.elapse dt with regs := t.regs, cis := t.cis } ∧
      RegsBut [Fld.CIS_PACK_EST.SOC p, Fld.CIS_PACK_EST.SOC_UNC p, Fld.CIS_PACK_STS.AT_REST p,
        Fld.CIS_PACK_STS.INSERT_EST p] s t) ∧
  (∀ (s : State) (dt p : Nat), p < 4 → s.on (Fld.CIS_PACK_STS.PRESENT p) = true →
    (s.pack p).uncAt + 86400000000000 ≤ s.now + dt →
    ∃ t, exec (.socUncGrowth dt p) s = .next t ∧
      t.fget (Fld.CIS_PACK_EST.SOC_UNC p) = min 200 (s.fget (Fld.CIS_PACK_EST.SOC_UNC p) + 10) ∧
      t.pack p = { s.pack p with uncAt := (s.pack p).uncAt + 86400000000000 } ∧
      t = { s.elapse dt with regs := t.regs, cis := t.cis } ∧ RegsBut [Fld.CIS_PACK_EST.SOC_UNC p] s t) ∧
  (∀ (s : State) (dt : Nat), s.fget Fld.CIS_ALARM.ALARM_US ≠ 0 →
    s.fget Fld.CIS_ALARM.ALARM_US ≤ (s.now + dt - s.vaonAt) / 1000 → s.cis.alarmDone = false →
    ∃ t, exec (.alarmHit dt) s = .next t ∧ t.fget Fld.CIS_TIME_STS.ALARM_HIT = 1 ∧ t.cis = { s.cis with alarmDone := true } ∧
      (t.fget Fld.PDM_WAKE_STS.LATCHED).testBit 0 = true ∧ (t.fget Fld.PDM_WAKE_STS.LEVEL).testBit 0 = true ∧
      t.flash = s.flash ∧ t.psq = s.psq ∧ t.dram = s.dram ∧ t.dev = s.dev) ∧
  (∀ (s : State) (dt : Nat) (b : Bool), exec (.crystalTrim dt b) s = .next ((s.elapse dt).fput Fld.CIS_TIME_STS.XTAL_OK b)) ∧
  (∀ (s : State) (dt p : Nat), p < 4 → s.on (Fld.CIS_PACK_STS.PRESENT p) = true →
    ∃ t, exec (.packRemoved dt p) s = .next t ∧ t.fget (Fld.CIS_PACK_STS.PRESENT p) = 0 ∧
      t.fget (Fld.CIS_PACK_STS.COUNTED p) = 0 ∧ t.on (Fld.CIS_PACK_STS.CHARGING p) = false ∧
      t.fget Fld.CIS_TIME_STS.PACK_LOST = 1 ∧
      (1 ≤ s.calState → s.calState ≤ 4 → t.calState = 6 ∧ t.fget Fld.CIS_CAL_STS.REASON = 6) ∧
      t.fget Fld.CIS_EVT_CNT.PACK_LOSS = min (s.fget Fld.CIS_EVT_CNT.PACK_LOSS + 1) Fld.CIS_EVT_CNT.PACK_LOSS.max ∧
      (t.pack p).swapDue = true ∧ (t.pack p).pulse = none ∧ t.cis.rehAt = none ∧ Reports (srcOf 78 7) 0x46 s t ∧
      (s.cis.rehAt = none → t.rill = s.rill ∧ t.log = s.log ∧ t.freeCtr = s.freeCtr) ∧
      t = { s.elapse dt with
        regs := t.regs, cis := t.cis, flt := t.flt, out := t.out, rill := t.rill, log := t.log, freeCtr := t.freeCtr }) ∧
  (∀ (s : State) (dt p mv : Nat), p < 4 → s.on (Fld.CIS_PACK_STS.PRESENT p) = false →
    ∃ t, exec (.packInserted dt p mv) s = .next t ∧ t.fget (Fld.CIS_PACK_STS.PRESENT p) = 1 ∧
      t.fget (Fld.CIS_PACK_STS.VOLT_MV p) = min mv 65535 ∧ (t.pack p).heldAt = s.now + dt ∧
      (s.dev = .off → (t.pack p).swapDue = true ∧ (t.pack p).vIn = some mv ∧
        t = { s.elapse dt with regs := t.regs, cis := t.cis } ∧
        RegsBut [Fld.CIS_PACK_STS.PRESENT p, Fld.CIS_PACK_STS.VOLT_MV p] s t) ∧
      (s.dev ≠ .off → (t.pack p).swapDue = false ∧ t.fget (Fld.CIS_PACK_EST.SOC_UNC p) = 50 ∧
        t.fget (Fld.CIS_PACK_STS.INSERT_EST p) = 1 ∧ (t.pack p).uncAt = s.now + dt) ∧
      (s.dev ≠ .off → s.on Fld.CIS_CFG.SWAP_POLICY = true → (t.pack p).q = (s.pack p).q ∧
        RegsBut [Fld.CIS_PACK_STS.PRESENT p, Fld.CIS_PACK_STS.VOLT_MV p, Fld.CIS_PACK_EST.SOC p, Fld.CIS_PACK_EST.SOC_UNC p,
          Fld.CIS_PACK_STS.INSERT_EST p, Fld.CIS_PACK_STS.AT_REST p] s t) ∧
      (s.dev ≠ .off → s.on Fld.CIS_CFG.SWAP_POLICY = false → (t.pack p).q = (s.pack p).qDes * 80 / 100 ∧
        t.fget (Fld.CIS_PACK_EST.LOAD_F p) = 255 ∧ t.fget (Fld.CIS_PACK_EST.CYCLES p) = 0 ∧
        (∀ i, i < 40 → t.zEntry p i = min (s.defaultZ i) 65535)) ∧
      (∀ q, q ≠ p → t.pack q = s.pack q) ∧ t = { s.elapse dt with regs := t.regs, cis := t.cis, cfgDue := t.cfgDue })

/-- R92, R94, R97: a calibration starts on GO (also from its pause), pauses, aborts, discharges when every pack of it is full
and ends its discharge at CAL_RESERVE, its input path off only while it discharges; a light pulse stops the charge of its pack
for its time and moves the nearest impedance entry a quarter of the way, rounded down (log entry 28, DEDUCED). -/
def Obligations.CalibrationsAndLightPulses : Prop :=
  (∀ (s : State) (dt p : Nat), s.fmWritable 0x1A0090 = true → p < 4 → ¬ (1 ≤ s.calState ∧ s.calState ≤ 4) →
    s.col.window = none → s.rehearsing = false → s.dev = .serving →
    ∃ t, exec (.calibrationGo dt p) s = .next t ∧ t.calState = 1 ∧ t.fget Fld.CIS_CAL_STS.REASON = 0 ∧
      t.fget Fld.CIS_CAL_STS.INTERRUPTIONS = 0 ∧ t.cis.calPack = p ∧
      (∀ q, q < 4 → (t.pack q).inCal = s.counted q ∧ (t.pack q).full = false ∧ (t.pack q).calOut = 0) ∧
      t = { s.elapse dt with regs := t.regs, cis := t.cis } ∧
      RegsBut [Fld.CIS_CAL_STS.STATE, Fld.CIS_CAL_STS.REASON, Fld.CIS_CAL_STS.INTERRUPTIONS] s t) ∧
  (∀ (s : State) (dt p : Nat), s.fmWritable 0x1A0090 = true → s.calState = 3 → s.cis.pauseT = false →
    s.fget Fld.CIS_CFG.INPUT_RAIL < 32 →
    ∃ t, exec (.calibrationGo dt p) s = .next t ∧ t.calState = 2 ∧ t.cis.pauseFm = false ∧ t.cis.pausedAt = none ∧
      t.on (Fld.PSQ_RAIL_STS.ENABLED (s.fget Fld.CIS_CFG.INPUT_RAIL)) = false ∧
      t = { s.elapse dt with regs := t.regs, cis := t.cis, out := t.out } ∧
      RegsBut [Fld.CIS_CAL_STS.STATE, Fld.PSQ_RAIL_STS.ENABLED (s.fget Fld.CIS_CFG.INPUT_RAIL)] s t) ∧
  (∀ (s : State) (dt : Nat), s.fmWritable 0x1A0090 = true → s.calState = 2 → s.fget Fld.CIS_CFG.INPUT_RAIL < 32 →
    ∃ t, exec (.calibrationPause dt) s = .next t ∧ t.calState = 3 ∧
      t.fget Fld.CIS_CAL_STS.INTERRUPTIONS = min (s.fget Fld.CIS_CAL_STS.INTERRUPTIONS + 1) 15 ∧
      t.cis = { s.cis with pauseFm := true, pausedAt := some (s.now + dt) } ∧
      t.on (Fld.PSQ_RAIL_STS.ENABLED (s.fget Fld.CIS_CFG.INPUT_RAIL)) = true ∧
      t = { s.elapse dt with regs := t.regs, cis := t.cis, out := t.out } ∧
      RegsBut [Fld.CIS_CAL_STS.STATE, Fld.CIS_CAL_STS.INTERRUPTIONS,
        Fld.PSQ_RAIL_STS.ENABLED (s.fget Fld.CIS_CFG.INPUT_RAIL)] s t) ∧
  (∀ (s : State) (dt : Nat), s.fmWritable 0x1A0090 = true → 1 ≤ s.calState → s.calState ≤ 4 →
    s.fget Fld.CIS_CFG.INPUT_RAIL < 32 →
    ∃ t, exec (.calibrationAbort dt) s = .next t ∧ t.calState = 7 ∧ t.fget Fld.CIS_CAL_STS.REASON = 8 ∧
      t.fget Fld.CIS_EVT_CNT.LEARN_REJECT = min (s.fget Fld.CIS_EVT_CNT.LEARN_REJECT + 1) Fld.CIS_EVT_CNT.LEARN_REJECT.max ∧
      (s.calState = 2 → t.on (Fld.PSQ_RAIL_STS.ENABLED (s.fget Fld.CIS_CFG.INPUT_RAIL)) = true) ∧
      (∀ q, q < 4 → (t.pack q).inCal = false) ∧ t = { s.elapse dt with regs := t.regs, cis := t.cis, out := t.out }) ∧
  (∀ (s : State) (dt : Nat), s.calState = 1 → s.fget Fld.CIS_CFG.INPUT_RAIL < 32 →
    (∀ p, p < 4 → (s.pack p).inCal = true → (s.pack p).full = false →
      ∃ u, (s.pack p).fullAt = some u ∧ u + 60000000000 ≤ s.now + dt) →
    ∃ t, exec (.calibrationFull dt) s = .next t ∧ t.calState = 2 ∧
      t.on (Fld.PSQ_RAIL_STS.ENABLED (s.fget Fld.CIS_CFG.INPUT_RAIL)) = false ∧
      (∀ p, p < 4 → (s.pack p).inCal = true → (t.pack p).full = true ∧
        ((s.pack p).full = false → t.fget (Fld.CIS_PACK_EST.SOC p) = 1000)) ∧
      (∀ p, p < 4 → t.on (Fld.CIS_PACK_STS.CHARGING p) = false) ∧
      t = { s.elapse dt with regs := t.regs, cis := t.cis, out := t.out }) ∧
  (∀ (s : State) (dt : Nat), s.calState = 2 → s.fget Fld.CIS_CFG.INPUT_RAIL < 32 →
    s.fget Fld.CIS_USABLE.USABLE_J ≤ 500 * s.fget Fld.CIS_CFG.CAL_RESERVE →
    ∃ t, exec (.calibrationDischargeEnd dt) s = .next t ∧ t.calState = 4 ∧
      t.on (Fld.PSQ_RAIL_STS.ENABLED (s.fget Fld.CIS_CFG.INPUT_RAIL)) = true ∧
      t = { s.elapse dt with regs := t.regs, out := t.out } ∧
      RegsBut [Fld.CIS_CAL_STS.STATE, Fld.PSQ_RAIL_STS.ENABLED (s.fget Fld.CIS_CFG.INPUT_RAIL)] s t) ∧
  (∀ (s : State) (dt p : Nat), p < 4 → s.on (Fld.CIS_PACK_STS.CHARGING p) = true → (s.pack p).cur < 0 →
    belowC (s.pack p).cur (s.pack p).q (s.fget (Fld.CIS_PACK_CFG.SHUNT_UOHM p)) 10 = false →
    (∀ u, (s.pack p).pulseAt = some u → u + 3600000000000 ≤ s.now + dt) →
    ∃ t, exec (.lightPulse dt p) s = .next t ∧ (t.pack p).pulse = some (s.now + dt) ∧
      (t.pack p).pulseAt = some (s.now + dt) ∧ t.on (Fld.CIS_PACK_STS.CHARGING p) = false ∧
      t.out = (s.elapse dt).out ++ [.pin (.chgEn p) false, .chgLim p 0] ∧ (∀ q, q ≠ p → t.pack q = s.pack q) ∧
      t = { s.elapse dt with regs := t.regs, cis := t.cis, out := t.out } ∧
      RegsBut [Fld.CIS_PACK_STS.CHARGING p, Fld.CIS_PACK_STS.CHG_BLOCK p] s t) ∧
  (∀ (s : State) (dt p u : Nat) (dv di : Int), p < 4 → (s.pack p).pulse = some u → u + 10000000 ≤ s.now + dt → di ≠ 0 →
    ∃ t i, exec (.lightPulseEnd dt p dv di) s = .next t ∧ (t.pack p).pulse = none ∧
      i = 8 * nearest (s.packTemp p) zTemps + nearest (s.fget (Fld.CIS_PACK_EST.SOC p)) (zSocs.map (fun (n : Nat) => (n : Int))) ∧
      t.zEntry p i = min ((s.zEntry p i : Int) + (dv * 100000 / di - s.zEntry p i) / 4).toNat 65535 ∧
      (∀ q j, q < 4 → j < 40 → (q ≠ p ∨ j ≠ i) → t.zEntry q j = s.zEntry q j) ∧
      (∀ q, q ≠ p → t.pack q = s.pack q) ∧
      t = { s.elapse dt with regs := t.regs, cis := t.cis, out := t.out, cfgDue := t.cfgDue })

/-- R98, R99: a rehearsal that GO asks for waits or fails its conditions, starts at least a beat after its deduction began with
the input path off and no charger on, takes its load a beat later, ends at a voltage below the cut-off with 5 % to spare (a
sample without one changes nothing), or after 2 s, and publishes its result. -/
def Obligations.RehearsalRunsAndPublishes : Prop :=
  (∀ (s : State) (dt : Nat), s.fmWritable 0x1A0098 = true → s.rehearsing = false →
    (s.rehOk = true →
      exec (.rehearsalGo dt) s = .next { s.elapse dt with
        cis := { s.cis with rehReq := true, rehRetry := none } }) ∧
    (s.rehOk = false →
      exec (.rehearsalGo dt) s = .next (({ s.elapse dt with
        cis := { s.cis with rehReq := true, rehRetry := some (s.now + dt), rehFrom := none } } : State).fset
          Fld.CIS_REH_STS.RESULT 4))) ∧
  (∀ (s : State) (dt b : Nat), s.cis.rehFrom = some b → s.rehearsing = false → b + 1 ≤ (s.elapse dt).curBeat →
    s.rehOk = true → s.fget Fld.CIS_CFG.INPUT_RAIL < 32 →
    ∃ t, exec (.rehearsalStart dt) s = .next t ∧ t.cis.rehAt = some (s.now + dt) ∧ t.cis.rehLoad = false ∧
      t.rehearsing = true ∧ t.on (Fld.PSQ_RAIL_STS.ENABLED (s.fget Fld.CIS_CFG.INPUT_RAIL)) = false ∧
      (∀ p, p < 4 → t.on (Fld.CIS_PACK_STS.CHARGING p) = false ∧ (t.pack p).v0 = s.fget (Fld.CIS_PACK_STS.VOLT_MV p)) ∧
      t = { s.elapse dt with regs := t.regs, cis := t.cis, out := t.out }) ∧
  (∀ (s : State) (u : Nat), s.cis.rehAt = some u → u + 8192 ≤ s.now →
    (s.cis.rehLoad = false →
      exec .rehearsalLoad s = .next { s with cis := { s.cis with rehLoad := true }, out := s.out ++ [.spillLoad true] }) ∧
    (s.cis.rehLoad = true → exec .rehearsalLoad s = .next s)) ∧
  (∀ (s : State) (dt u p : Nat) (mv ma : List Int) (v : Int), s.cis.rehAt = some u → p < 4 → s.counted p = true →
    mv[p]? = some v →
    v * 100 < ((s.fget (Fld.CIS_PACK_CFG.CELLS p) * s.fget (Fld.CIS_PACK_CFG.V_CUT_MV p) * 105 : Nat) : Int) →
    ∃ t, exec (.rehearsalSample dt mv ma) s = .next t ∧ t.cis.rehAt = none ∧ t.cis.rehReq = false ∧
      t.fget Fld.CIS_REH_STS.RESULT = 2 ∧ t.fget (Fld.CIS_PACK_EST.LOAD_F p) = 255 ∧
      Reports (srcOf 78 7) 0x48 s t ∧ (s.cis.rehLoad = true → Out.spillLoad false ∈ t.out) ∧
      t.cfgDue = some (s.cfgDue.getD (s.now + dt)) ∧
      t = { s.elapse dt with
        regs := t.regs, cis := t.cis, cfgDue := t.cfgDue, flt := t.flt, out := t.out, rill := t.rill, log := t.log
        freeCtr := t.freeCtr }) ∧
  (∀ (s : State) (dt : Nat) (mv ma : List Int), (∀ p v, p < 4 → s.counted p = true → mv[p]? = some v →
      ((s.fget (Fld.CIS_PACK_CFG.CELLS p) * s.fget (Fld.CIS_PACK_CFG.V_CUT_MV p) * 105 : Nat) : Int) ≤ v * 100) →
    exec (.rehearsalSample dt mv ma) s = .next (s.elapse dt)) ∧
  (∀ (s : State) (dt w u : Nat) (mv ma : List Int), s.cis.rehAt = some u → u + 2000000000 ≤ s.now + dt →
    s.fget Fld.CIS_CFG.INPUT_RAIL < 32 →
    ∃ t, exec (.rehearsalEnd dt w mv ma) s = .next t ∧
      t.cis = { s.cis with
        rehAt := none, rehLoad := false, rehFrom := none, rehReq := false, rehRetry := none, rehEnd := some (w, mv, ma) } ∧
      t.on (Fld.PSQ_RAIL_STS.ENABLED (s.fget Fld.CIS_CFG.INPUT_RAIL)) = true ∧
      (s.cis.rehLoad = true → Out.spillLoad false ∈ t.out) ∧
      t = { s.elapse dt with
        regs := t.regs, cis := t.cis, out := t.out, rill := t.rill, log := t.log, freeCtr := t.freeCtr } ∧
      (s.log.stripes = [] → t.rill = s.rill ∧ t.log = s.log ∧
        RegsBut [Fld.PSQ_RAIL_STS.ENABLED (s.fget Fld.CIS_CFG.INPUT_RAIL)] s t)) ∧
  (∀ (s : State) (w : Nat) (mv ma : List Int), s.cis.rehEnd = some (w, mv, ma) →
    ∃ t, exec .rehearsalPublish s = .next t ∧ t.cis.rehEnd = none ∧ t.cis.rehLast = s.nowUs ∧
      t.fget Fld.CIS_REH_STS.RESULT = 1 ∧ t.fget Fld.CIS_REH_STS.P_MEAS = min w 65535 ∧
      t.fget Fld.CIS_REH_STS.DAYS_SINCE = 0 ∧
      t = { s with regs := t.regs, cis := t.cis, out := t.out, cfgDue := t.cfgDue, freeCtr := t.freeCtr })

/-! ## Weir, rill and log (chapters 5 and 8) -/

/-- R62, R65, R118, R119, R289: a boundary is processed at the next multiple of 8,192 ns of colony time, at once when colony
time stands on one that is still due; the weir it computes comes into force 2 µs later, and DEFICIT follows it (R120). R6, R128,
R213, R215: a page the Scarab has finished leaves the rill's selection and is counted; a stripe whose every member reports
success puts its forms on flash and counts its cleaned pages; a failed member counts, and a spare takes its block's place; a
fold that does not read back at level 0 moves no record, one that does moves them all. -/
def Obligations.BoundariesAndProgramsTakeEffect : Prop :=
  (∀ (s : State) (ov : List (Nat × Nat)) (obs : BeatObs), s.dev ≠ .off → s.flt.warmAtT = false →
    ∃ t, exec (.beatBoundary ov obs) s = .next t ∧ t.colTime % 8192 = 0 ∧ t.beat = t.colTime / 8192 ∧
      (s.colTime % 8192 = 0 ∧ s.beat < s.colTime / 8192 → t.now = s.now ∧ t.colTime = s.colTime) ∧
      (¬ (s.colTime % 8192 = 0 ∧ s.beat < s.colTime / 8192) → t.colTime = (s.colTime / 8192 + 1) * 8192) ∧
      t.rill.pendW.isSome = true ∧ t.rill.pendAt = t.now + 2000 ∧ t.fab.devLoad.map (·.1) = [0, 1] ∧
      t.flash = s.flash ∧ t.psq = s.psq ∧ t.twb = s.twb) ∧
  (∀ (s : State) (ov : List (Nat × Nat)) (obs : BeatObs), s.isOpen = true → s.flt.warmAtT = true →
    s.col.window = none →
    ∃ t, exec (.beatBoundary ov obs) s = .next t ∧ t.flt.warmAtT = false ∧ t.dev = .training ∧ s.now ≤ t.now ∧
      t.flash = s.flash ∧ t.psq = s.psq) ∧
  (∀ (s : State) (ov : List (Nat × Nat)) (obs : BeatObs), s.dev = .off →
    exec (.beatBoundary ov obs) s = .next s) ∧
  (∀ (s : State) (dt w h : Nat), s.rill.pendW = some (w, h) → s.rill.pendAt ≤ s.now + dt →
    ∃ t, exec (.weirInForce dt) s = .next t ∧
      t.fget Fld.WEIR_STS.WEIR_PAGES = w % 2 ^ Fld.WEIR_STS.WEIR_PAGES.width ∧
      t.fget Fld.WEIR_STS.HARD_PAGES = h % 2 ^ Fld.WEIR_STS.HARD_PAGES.width ∧
      (t.on Fld.WEIR_STS.DEFICIT = true ↔ h % 2 ^ Fld.WEIR_STS.HARD_PAGES.width < s.devOwed) ∧
      t.rill = { s.rill with pendW := none } ∧
      t = { s.elapse dt with regs := t.regs, flt := t.flt, rill := t.rill, lds := t.lds }) ∧
  (∀ (s : State) (dt p k base : Nat) (i : Item) (l : List Item), k < 16 →
    (s.rill.sel.filter (fun i => i.form.page == p)).drop (s.rill.ready.count p) = i :: l →
    base = (match i.slot with | some e => if i.form.kind = 2 then s.slotLine e else p * 64 | none => p * 64) →
    (s.linesStopped base = true → exec (.scarabPageDone dt p k) s = .next (s.elapse dt).settle) ∧
    (s.linesStopped base = false →
    ∃ t u : State, exec (.scarabPageDone dt p k) s = .next t ∧ t = u.settle ∧
      u.fget (Fld.SCB_CL_CNT.PAGES k) = (s.fget (Fld.SCB_CL_CNT.PAGES k) + 1) % 2 ^ (Fld.SCB_CL_CNT.PAGES k).width ∧
      (s.isOpen = false → u.rill = { s.rill with ready := s.rill.ready ++ [p] } ∧ u.log = s.log) ∧
      (∀ i x, s.isOpen = true → s.rill.ready = [] → s.rill.sel.find? (fun i => i.form.page == p) = some i →
        s.openStripe 1 = some x → s.fits x i = true → u.rill.sel = s.rill.sel.erase i ∧ u.rill.ready = []) ∧
      (∀ c j, ∀ q ∈ ((u.chan c).sub j).queue, q.readsFor base 2 = false) ∧
      u = { s.elapse dt with regs := u.regs, rill := u.rill, log := u.log, chans := u.chans })) ∧
  (∀ (s : State) (dt q us : Nat) (x : Stripe), s.stripe? q = some x → x.closed = true →
    ∃ t, exec (.stripeProgramDone dt q us) s = .next t ∧ (∀ k, (∀ i ∈ x.items, i.key ≠ k) → t.formAt k = s.formAt k) ∧
      (∃ f, (q, f) ∈ t.stripesOn ∧ f.writer = x.writer ∧ f.members = x.members ∧
        f.forms = x.items.map (fun i => (i.key, i.form)))) ∧
  (∀ (s : State) (dt q us : Nat) (x : Stripe) (i : Item), s.stripe? q = some x → x.closed = true → x.writer = 1 →
    x.items = [i] → i.form.kind = 1 → i.src = none → i.slot = none → i.stale = false →
    (s.page i.form.page).st = .cleaning →
    ∃ t, exec (.stripeProgramDone dt q us) s = .next t ∧ t.formAt i.key = i.form ∧
      (∀ k, k ≠ i.key → t.formAt k = s.formAt k)) ∧
  (∀ (s : State) (dt q c : Nat) (st : MediaStatus) (x : Stripe), s.stripe? q = some x → x.closed = true → st ≠ .ok →
    c ∈ x.members → c < 16 → s.stripeSet x < 32 → 0 < s.fget (Fld.LOG_DIE_STS.SPARES (32 * c + s.stripeSet x)) →
    s.fget (Fld.LOG_DIE_STS.SPARES (32 * c + s.stripeSet x)) ≤ (Fld.LOG_DIE_STS.SPARES (32 * c + s.stripeSet x)).max →
    ∃ t u : State, exec (.stripeProgramFail dt q c st) s = .next t ∧ t = u.afterFlash (s.diesOfStripe q) ∧
      u.fget Fld.LOG_ERR_CNT.PROGRAM_FAIL =
        min (s.fget Fld.LOG_ERR_CNT.PROGRAM_FAIL + 1) Fld.LOG_ERR_CNT.PROGRAM_FAIL.max ∧
      u.fget (Fld.LOG_DIE_STS.SPARES (32 * c + s.stripeSet x)) =
        s.fget (Fld.LOG_DIE_STS.SPARES (32 * c + s.stripeSet x)) - 1 ∧ t.flash = s.flash) ∧
  (∀ (s : State) (dt b : Nat) (r : ReadResult), r ≠ .decoded 0 →
    ∃ t, exec (.foldReadbackDone dt b r) s = .next t ∧ (∀ e ∈ t.log.fold, e ∈ s.log.fold ∧ ¬ (e.1 = b ∧ s.groupWhole e.2.key = true)) ∧
      t = { s.elapse dt with regs := t.regs, rill := t.rill, log := t.log, freeCtr := t.freeCtr }) ∧
  (∀ (s : State) (dt b k : Nat) (i : Item), s.log.fold = [(b, i)] → s.groupWhole i.key = true → i.src = some k → k ∈ s.refs →
    ∃ t, exec (.foldReadbackDone dt b (.decoded 0)) s = .next t ∧ t.formAt i.key = i.form ∧
      (∀ p r, (p, r) ∈ s.pages → r.loc = k → (p, { r with loc := i.key }) ∈ t.pages))

/-- R132, R212, R219: an erase that succeeds leaves no form in its band and counts, a TLC band's at three; the scrub reads every
referenced copy once in SCRUB_DAYS; the governor's window moves one slice on. R216, R217: a die that stays silent leaves service
for good; the FM takes a channel out at the next boundary, not while another is out, and brings it back, verify-reading its members, and CHANNEL_SERVICE
records each step. -/
def Obligations.ErasesDiesAndChannels : Prop :=
  (∀ (s : State) (dt b : Nat) (failed : List Nat), s.log.erasing = some b →
    ∃ t, exec (.bandEraseDone dt b failed .ok) s = .next t ∧ (∀ k, keyBand k = b → t.formAt k = Form.none) ∧
      (∀ k, keyBand k ≠ b → t.formAt k = s.formAt k) ∧
      tabGet 0 b t.log.erases = tabGet 0 b s.log.erases + (if s.log.tlc.contains b then 3 else 1) ∧
      (∀ c, c ≠ b → tabGet 0 c t.log.erases = tabGet 0 c s.log.erases)) ∧
  (∀ (s : State) (dt n : Nat) (all : List Nat), s.isOpen = true →
    s.log.scrubAt + s.fget Fld.LOG_CFG.SCRUB_DAYS * dayNs ≤ s.now + dt → all = s.refs.dedup →
    n = 65536 - (s.pageOps - s.log.scrubOn.length) →
    exec (.scrubPeriod dt) s = .next { s.elapse dt with
      log := { s.log with scrubAt := s.now + dt, scrubLeft := all.drop n, scrubOn := all.take n }
      out := (s.elapse dt).out ++ (all.take n).map (fun k => .flashOp [0, k]) }) ∧
  (∀ (s : State) (dt : Nat),
    ∃ t u : State, exec (.governorSlice dt) s = .next t ∧ t = (u.placeReady).writeCkptRecs ∧
      u.rill = { s.rill with slices := (0 :: s.rill.slices).take 64, sliceNo := s.rill.sliceNo + 1, relocBytes := 0 } ∧
      u = { s.elapse dt with regs := u.regs, rill := u.rill } ∧
      RegsBut [Fld.RILL_RATE.RATE_KBS, Fld.RILL_RATE.USED_WIN_MB] s u ∧ t.rill.sliceNo = s.rill.sliceNo + 1 ∧
      t = { s.elapse dt with regs := t.regs, rill := t.rill, log := t.log, lds := t.lds }) ∧
  (∀ (s : State) (dt ds : Nat), ds < 512 → s.dieIn ds = true →
    ∃ t u : State, exec (.diePollTimeout dt ds) s = .next t ∧ t = (u.drawsToParity ds).settle ∧
      u.fget (Fld.LOG_DIE_STS.STATE ds) = 3 ∧ tabGet 0 ds u.log.dieCause = 4 ∧
      (∀ k ∈ s.refs, k ∈ s.dieForms ds → k ∈ u.log.reloc) ∧
      u = { s.elapse dt with regs := u.regs, log := u.log, flt := u.flt }) ∧
  (∀ (s : State) (dt c : Nat), s.fmWritable 0x140030 = true → c < 16 → s.channelMayLeave c = true →
    s.fget Fld.JNL_STS.MODE ≠ 2 → s.flt.staging.length < 64 →
    ∃ t r, exec (.channelOut dt c) s = .next t ∧ t.log = { s.log with chOut := [c] } ∧
      t.flt = { s.flt with staging := s.flt.staging ++ [r] } ∧ r.kind = 7 ∧ (0x20, c) ∈ r.payload ∧ (0x21, 0) ∈ r.payload ∧
      t = { s.elapse dt with regs := t.regs, log := t.log, flt := t.flt, freeCtr := s.freeCtr + 1 } ∧
      RegsBut [Fld.JNL_SEQ.NEXT_SEQ, Fld.JNL_STS.STAGED] s t) ∧
  (∀ (s : State) (dt c : Nat), s.fmWritable 0x140030 = true → c < 16 → s.chIn c = true → s.channelMayLeave c = false →
    exec (.channelOut dt c) s = .next { s.elapse dt with log := { s.log with outRefused := s.log.outRefused + 1 } }) ∧
  (∀ (s : State) (dt c : Nat), s.fmWritable 0x140030 = true → c < 16 → s.chIn c = false →
    s.fget Fld.LOG_CH_STS.OUT_OF_SERVICE < 2 ^ 16 →
    ∃ t, exec (.channelIn dt c) s = .next t ∧ t.chIn c = true ∧ t.unitSt (40 + c) = 0 ∧ c ∈ t.log.verifying ∧
      (t.fget Fld.LOG_CH_STS.VERIFYING).testBit c = true ∧
      t = { s.elapse dt with regs := t.regs, log := t.log, flt := t.flt, freeCtr := t.freeCtr }) ∧
  (∀ (s : State) (dt c : Nat) (bad : List Nat), c < 16 → c ∈ s.log.verifying →
    s.fget Fld.LOG_CH_STS.VERIFYING < 2 ^ 16 → (s.fget Fld.LOG_CH_STS.VERIFYING).testBit c = true →
    ∃ t, exec (.channelVerifyDone dt c bad) s = .next t ∧ c ∉ t.log.verifying ∧
      (t.fget Fld.LOG_CH_STS.VERIFYING).testBit c = false ∧
      t = { s.elapse dt with regs := t.regs, rill := t.rill, log := t.log, flt := t.flt, freeCtr := t.freeCtr })

/-! ## Spill (chapter 6) -/

/-- R72, R73, R143, R144, R388, R400: in REFILLING or SERVING, with no plunge window open, an FM spill and an input collapse
open a window whose T is GUARD beats away and at which this module spills, pull PLUNGE_N low and announce the plunge on every
port in use, end a rehearsal and lock the power domains; a collapse takes the input-good status and every charger down first.
The rise of the input is an on request and a wake source. R74, R133, R146 to R150: at a boundary a colony checkpoint that is
due, and at T a window with no spill of this module's own, cut every LD they cover; at T with one, the spill begins: its
generation, its LDs in SPILLING, stage A and its SPILL_OPEN record. -/
def Obligations.SpillTriggersAndCuts : Prop :=
  (∀ (s : State) (dt b : Nat), s.isOpen = true → s.col.window = none → 0 < s.guardNow → b = (s.elapse dt).curBeat →
    ∃ t w, exec (.fmSpill dt) s = .next t ∧ t.col.window = some w ∧ w.tw = b + s.guardNow ∧ w.ownSpill = some w.tw ∧
      w.spillCause = 3 ∧ w.own = true ∧ w.late = false ∧ w.cut = false ∧ t.stage = 1 ∧ t.col.driveLow = true ∧
      t.fget Fld.COL_PLUNGE_INFO.OWN_SPILL = 1 ∧ t.fget Fld.COL_PLUNGE_INFO.PLUNGEN_LOW = 1 ∧
      t.fget Fld.COL_PLUNGE_STS.OPEN = 1 ∧
      t.fget Fld.COL_PLUNGE_STS.CUT_BEAT = (b + s.guardNow) % 2 ^ Fld.COL_PLUNGE_STS.CUT_BEAT.width ∧
      (∀ p ∈ s.plungePorts, Handed t p (s.mkFrame 0 (.plunge 0 3 (b + s.guardNow)
        (BitVec.ofNat 64 (s.fget Fld.COL_GROUP_MASK.GROUPS))))) ∧
      t.cis.rehAt = none ∧ t.psq.detect = true ∧ t.pdmLock = true ∧
      t = { s.elapse dt with
        regs := t.regs, doms := t.doms, pdmLock := true, psq := t.psq, cis := t.cis, col := t.col, tx := t.tx
        out := t.out }) ∧
  (∀ (s : State) (dt : Nat), (s.isCut = true ∨ s.dev = .basin) →
    ∃ t, exec (.fmSpill dt) s = .next t ∧ t.dev = s.dev ∧ t.stage = s.stage ∧
      t.fget Fld.SPL_CNTB.IGNORED = min (s.fget Fld.SPL_CNTB.IGNORED + 1) Fld.SPL_CNTB.IGNORED.max ∧
      t.fget Fld.COL_PLUNGE_INFO.PLUNGEN_LOW = 1 ∧
      t = { s.elapse dt with regs := t.regs, col := t.col, tx := t.tx, out := t.out }) ∧
  (∀ (s : State) (dt b : Nat), s.isOpen = true → s.col.window = none → 0 < s.guardNow → b = (s.elapse dt).curBeat →
    ∃ t w, exec (.inputCollapse dt) s = .next t ∧ t.fget Fld.PSQ_STS.INPUT_LOW = 1 ∧ t.fget Fld.PSQ_STS.INPUT_GOOD = 0 ∧
      (∀ p, p < 4 → t.on (Fld.CIS_PACK_STS.CHARGING p) = false) ∧ t.col.window = some w ∧ w.tw = b + s.guardNow ∧
      w.ownSpill = some w.tw ∧ w.spillCause = 1 ∧ t.stage = 1 ∧ t.psq.detect = true ∧ t.pdmLock = true ∧
      t.fget Fld.COL_PLUNGE_INFO.PLUNGEN_LOW = 1 ∧
      t = { s.elapse dt with
        regs := t.regs, doms := t.doms, pdmLock := true, psq := t.psq, cis := t.cis, col := t.col, tx := t.tx
        out := t.out }) ∧
  (∀ (s : State) (dt : Nat), s.on Fld.PSQ_STS.INPUT_GOOD = false →
    ∃ t, exec (.inputGoodRise dt) s = .next t ∧ t.fget Fld.PSQ_STS.INPUT_GOOD = 1 ∧ t.fget Fld.PSQ_STS.INPUT_LOW = 0 ∧
      (t.fget Fld.PDM_WAKE_STS.LATCHED).testBit 1 = true ∧ (t.fget Fld.PDM_WAKE_STS.LEVEL).testBit 1 = true ∧
      ((s.seqSt = 0 ∨ s.seqSt = 5) → t.seqSt = 1 ∧ t.psq.startAt = s.now + dt) ∧
      ((s.seqSt = 3 ∨ s.seqSt = 4) → t.seqSt = s.seqSt ∧ t.fget Fld.PSQ_STS.PENDING = 1) ∧
      t = { s.elapse dt with regs := t.regs, psq := t.psq, doms := t.doms, out := t.out }) ∧
  (∀ (s : State) (b m : Nat), s.isOpen = true →
    s.col.ckpts.filter (fun e => decide (e.1 ≤ s.curBeat)) = [(b, m)] →
    ∃ t u : State, exec .checkpointCut s = .next t ∧ t = ((u.writeCkptRecs).reportCuts).showWeir ∧
      u.col.ckpts = s.col.ckpts.filter (fun e => decide (s.curBeat < e.1)) ∧
      ∃ c, u.col.cuts = s.col.cuts ++ [c] ∧ c.beat = b ∧
        ∀ n, n < 32 → s.covers m false n = true → (s.ld n).pending.length < 1024 →
          ∃ k ∈ (u.ld n).ckpts, (n, k.no, k.id) ∈ c.ckpts ∧ k.cutBeat = s.curBeat) ∧
  (∀ (s : State) (w : PlungeWin), s.col.window = some w → w.cut = false → w.tw ≤ s.curBeat → w.ownSpill = none →
    s.col.ownCut = none → s.isOpen = true →
    ∃ t u : State, exec .cutBeatBoundary s = .next t ∧ t = ((u.writeCkptRecs).reportCuts).showWeir ∧
      u.col.window = some { w with cut := true } ∧
      ∃ c, u.col.cuts = s.col.cuts ++ [c] ∧ c.beat = w.tw ∧ c.late = w.late ∧
        ∀ n, n < 32 → s.covers w.groups w.own n = true → (s.ld n).pending.length < 1024 →
          ∃ k ∈ (u.ld n).ckpts, (n, k.no, k.id) ∈ c.ckpts ∧ k.cutBeat = s.curBeat) ∧
  (∀ (s : State) (w : PlungeWin) (b : Nat), s.col.window = some w → w.cut = false → w.tw ≤ s.curBeat → w.ownSpill = some b →
    b ≤ s.curBeat → (s.isOpen = true ∨ s.dev = .training) →
    ∃ t, exec .cutBeatBoundary s = .next t ∧ t.dev = .spilling ∧ t.stage = 3 ∧
      t.spill.gen = max s.newestGen s.spill.usedGen + 1 ∧ t.spill.usedGen = t.spill.gen ∧ t.spill.cut = w.tw ∧
      t.boot.outBeat = s.curBeat ∧ t.spill.cause = w.spillCause ∧ t.spill.late = w.late ∧ t.spill.drained = false ∧ t.spill.taken = false ∧
      t.fget Fld.SPL_CUT.CUT_BEAT = w.tw % 2 ^ Fld.SPL_CUT.CUT_BEAT.width ∧ t.fget Fld.SPL_CUT.SEALED_OK = 0 ∧
      t.fget Fld.SPL_PROGRESS.PAGES_DONE = 0 ∧
      t.fget Fld.SPL_CNTA.SPILLS = min (s.fget Fld.SPL_CNTA.SPILLS + 1) Fld.SPL_CNTA.SPILLS.max ∧
      (∀ n, n < 32 → s.bound n = true → (t.ld n).st = .spilling ∧ (t.ld n).prior = (s.ld n).st) ∧
      (s.fget Fld.JNL_STS.MODE ≠ 2 → s.flt.staging.length < 64 →
        ∃ r, t.flt.staging = s.flt.staging ++ [r] ∧ r.kind = 1 ∧ r.gen = t.spill.gen) ∧
      t.flash = s.flash ∧ t.dram = s.dram ∧ t.rings = s.rings ∧ t.boot.repair = [])

/-- R148 to R151, R162, R163, R165, R167, R168: an abandoned spill goes no further; else the drain and the takeover done, stage B begins and the Elytra send; with nothing of the
order left to write, or a shortfall, stage C, whose forms go into stripes of their own; those on flash, the Elytra issue the seal,
with the SEAL record and its chrysalis copies; the seal programmed, the device is SEALED, its LDs with it, and the generation is the
newest; with the input still failed after SEAL_HOLD_MS every Elytra that sends commands RAIL_OFF. -/
def Obligations.SpillStagesToTheSeal : Prop :=
  (∀ (s : State) (dt : Nat), s.dev = .spilling →
    ∃ t u : State, exec (.spillDrainDone dt) s = .next t ∧ u.spill = { s.spill with drained := true } ∧
      (∀ c, (u.chan c).wmb = []) ∧ u = { s.elapse dt with chans := u.chans, spill := u.spill } ∧
      (s.spill.abandoned = false → s.stage = 3 → s.spill.taken = true → t = (u.setStage 4).elyPump ∧ t.stage = 4) ∧
      ((s.spill.abandoned = true ∨ s.stage ≠ 3 ∨ s.spill.taken = false) → t = u)) ∧
  (∀ (s : State) (dt : Nat), s.dev = .spilling →
    ∃ t u : State, exec (.spillTakeoverDone dt) s = .next t ∧
      u = { s.elapse dt with spill := { s.spill with taken := true } } ∧
      (s.spill.abandoned = false → s.stage = 3 → s.spill.drained = true → t = (u.setStage 4).elyPump ∧ t.stage = 4) ∧
      ((s.spill.abandoned = true ∨ s.stage ≠ 3 ∨ s.spill.drained = false) → t = u)) ∧
  (∀ (s : State) (dt : Nat), s.spill.abandoned = true →
    exec (.spillStageBEnd dt) s = .next (s.elapse dt) ∧ exec (.spillStageCEnd dt) s = .next (s.elapse dt) ∧
    exec (.sealProgrammed dt) s = .next (s.elapse dt) ∧ (s.elapse dt).elyPump = s.elapse dt) ∧
  (∀ (s : State) (dt : Nat), s.dev = .spilling → s.spill.abandoned = false → s.stage = 4 → s.log.stripes = [] →
    (s.spill.shortfall = true ∨ ∀ e ∈ s.spill.order, s.stillOwed e = false) →
    ∃ t, exec (.spillStageBEnd dt) s = .next t ∧ t.stage = 5 ∧ t.fget Fld.SPL_STATE.LD_NOW = 255 ∧
      t.spill.order = s.spill.order.filter s.stillOwed ∧ t.spill.asked = [] ∧ t.spill.ready = [] ∧
      (∀ x ∈ t.log.stripes, x.writer = 5 ∧ ∀ i ∈ x.items, i.form.kind = 4) ∧
      (s.spill.shortfall = true →
        t.fget Fld.SPL_CNTB.SHORTFALLS = min (s.fget Fld.SPL_CNTB.SHORTFALLS + 1) Fld.SPL_CNTB.SHORTFALLS.max) ∧
      t = { s.elapse dt with regs := t.regs, log := t.log, spill := t.spill, out := t.out }) ∧
  (∀ (s : State) (dt : Nat), s.dev = .spilling → s.spill.abandoned = false → s.stage = 5 →
    ∃ (t u : State) (g : Seal), exec (.spillStageCEnd dt) s = .next t ∧ t = u.elyPump ∧ t.stage = 6 ∧ u.spill.record = some g ∧
      g.gen = s.spill.gen ∧ g.cut = s.spill.cut ∧ g.prev = s.newestGen ∧ u.spill.sealedAt = (s.elapse dt).curBeat ∧
      u.spill.gen = s.spill.gen ∧ (∀ x ∈ u.log.stripes, x.writer ≠ 5) ∧
      (∀ x ∈ s.log.stripes, x.writer = 5 → ∃ f, (x.seq, f) ∈ u.stripesOn)) ∧
  (∀ (s : State) (x : Stripe),
    (s.sendSeal x).spill.sealKey = some (s.stripeKey x) ∧ (s.sendSeal x).spill.sealSeq = x.seq ∧
    (∃ r, (s.sendSeal x).flt.sealCopies = (r :: s.flt.sealCopies).take 2 ∧ r.kind = 2 ∧ r.gen = s.spill.gen ∧
      (0x20, s.stripeKey x) ∈ r.payload ∧ (0x28, x.seq) ∈ r.payload ∧
      (s.fget Fld.JNL_STS.MODE ≠ 2 → s.flt.staging.length < 64 →
        ∃ y, (s.sendSeal x).flt.staging = s.flt.staging ++ [y] ∧ y.kind = 2 ∧ y.gen = s.spill.gen ∧ y.payload = r.payload))) ∧
  (∀ (s : State) (dt : Nat) (r : Seal), s.dev = .spilling → s.spill.abandoned = false → s.stage = 6 → s.spill.record = some r →
    ∃ t, exec (.sealProgrammed dt) s = .next t ∧ t.dev = .sealed ∧ t.stage = 7 ∧
      t.sealedImg = some { r with key := s.spill.sealKey.getD 0 } ∧
      t.newestGen = r.gen % 2 ^ Fld.SPL_GEN.GENERATION.width ∧ t.fget Fld.SPL_CUT.SEALED_OK = 1 ∧
      t.fget Fld.SPL_LD.LD_IN_IMAGE = r.inImage % 2 ^ Fld.SPL_LD.LD_IN_IMAGE.width ∧
      t.fget Fld.SPL_LD.LD_COMPLETE = r.complete % 2 ^ Fld.SPL_LD.LD_COMPLETE.width ∧
      (∀ n, n < 32 → s.bound n = true → (t.ld n).st = .sealed) ∧
      (∀ c, c < 8 → s.populated c = true → t.fget (Fld.DRC_STS.STATE c) = 4) ∧ t.spill.sealTime = s.now + dt ∧
      t.dram = s.dram ∧
      ((∀ x ∈ s.log.stripes, x.writer = 7 → ∀ i ∈ x.items, i.src = none ∧ i.form.kind = 0) →
        t.flash = s.flash ∧ t.pages = s.pages)) ∧
  (∀ (s : State), s.dev = .sealed → s.on Fld.PSQ_STS.INPUT_GOOD = false → s.spill.railOff = false →
    s.spill.sealTime + 1000000 * s.fget Fld.SPL_CFG.SEAL_HOLD_MS ≤ s.now →
    ∃ t, exec .sealHoldExpiry s = .next t ∧ t.spill.railOff = true ∧
      t.out = s.out ++ ([0, 1].filter s.elySends).map (fun e => .ely ((ElyFrame.make 5 0 false (s.targetGen railTarget)
        (tabGet 1 railTarget s.spill.seqs) railTarget []).from_ e)) ∧
      t = { s with spill := t.spill, out := t.out })

/-! ## The Elytra (chapter 6) -/

/-- R153, R154, R155, R156, R158, R159: what a target does with a frame of any command but a heartbeat before its effect: a failed
CRC and a stale role generation are counted and drop it, an opcode that its target does not take is refused, a fenced sender's is
dropped and a rejoining one's spill command too; a second copy is compared and discarded, the last alike of a shadow pass making the pass clean (log entry 111), a differing one is a
MISMATCH that reports the first sender; one that arrives early is held; one too late or too far ahead is a LAG_DROP; a shadow frame in its turn has no
effect. -/
def Obligations.TargetOrdersFrames : Prop :=
  ∀ (s : State) (dt ln : Nat) (f : ElyFrame) (body : BitVec 224) (crc : BitVec 32) (rd : LineRead) (x : SeqSpace),
    f = .join body crc → x = s.space f.target f.shadow →
    ∀ c ∈ [Instr.elytraPage dt f ln rd.errs rd.failing, .elytraProgram dt body crc, .elytraSeal dt f,
        .elytraJournal dt body crc, .elytraRailOff dt f],
      (f.crcOk = false → exec c s = .next ((s.elapse dt).bump Fld.ELY_CMPB.CRC_DROP Fld.ELY_CMPB.CRC_SAT)) ∧
      (f.crcOk = true → f.opcode ≠ 6 → f.fits = false → exec c s = .next (s.elapse dt)) ∧
      (f.crcOk = true → f.opcode ≠ 6 → f.fits = true → f.roleGen ≠ s.targetGen f.target →
        exec c s = .next ((s.elapse dt).bump Fld.ELY_CMPB.STALE_ROLE Fld.ELY_CMPB.ST_SAT)) ∧
      (f.crcOk = true → f.opcode ≠ 6 → f.fits = true → f.roleGen = s.targetGen f.target →
        ((s.ely f.src).fenced = true ∨ f.shadow = false ∧ (s.ely f.src).rejoining = true) →
        exec c s = .next (s.elapse dt)) ∧
      (∀ h, FramePasses s f → f.seq < x.next → x.next ≤ f.seq + 64 → x.kept.find? (fun h => h.seq == f.seq) = some h →
        (h.body = f.body → f.shadow = false → exec c s = .next (s.elapse dt)) ∧
        (h.body = f.body → f.shadow = true →
          ∃ t, exec c s = .next t ∧ t.spill.checkDue = s.spill.checkDue ∧
            (s.spill.passLeft.erase (f.target, f.seq) ≠ [] → t = { s.elapse dt with
              spill := { s.spill with passLeft := s.spill.passLeft.erase (f.target, f.seq) } }) ∧
            (s.spill.passLeft.erase (f.target, f.seq) = [] → s.spill.passOpen = true → t.spill.passOpen = false ∧
              ∀ e, e < 2 → (t.ely e).clean = min 3 ((s.ely e).clean + 1) ∧
                t.fget (Fld.ELY_STS.MATCHES e) = min (s.fget (Fld.ELY_STS.MATCHES e) + 1) 255 ∧
                (s.elyRole e = 0 → 2 ≤ (s.ely e).clean → t.elyRole e = 1)) ∧
            t = { s.elapse dt with regs := t.regs, spill := t.spill, elys := t.elys }) ∧
        (h.body ≠ f.body → f.shadow = false →
          ∃ t, exec c s = .next t ∧ t.spill.checkDue = 1 ∧ Reports (srcOf (6 + h.src) 2) 0x06 s t ∧
            t.fget Fld.ELY_CMPA.SPILL_MM = min (s.fget Fld.ELY_CMPA.SPILL_MM + 1) Fld.ELY_CMPA.SPILL_MM.max ∧
            t = { s.elapse dt with regs := t.regs, flt := t.flt, spill := t.spill }) ∧
        (h.body ≠ f.body → f.shadow = true →
          ∃ t, exec c s = .next t ∧ t.spill.checkDue = (if s.spill.checkDue = 1 then 1 else 2) ∧
            Reports (srcOf (6 + h.src) 2) 0x06 s t ∧
            (∀ e, e < 2 → (t.ely e).clean = 0 ∧ t.fget (Fld.ELY_STS.MATCHES e) = 0) ∧
            t = { s.elapse dt with regs := t.regs, flt := t.flt, spill := t.spill, elys := t.elys })) ∧
      (FramePasses s f → (f.seq + 64 < x.next ∨ f.seq < x.next ∧ x.kept.find? (fun h => h.seq == f.seq) = none) →
        exec c s = .next ((s.elapse dt).bump Fld.ELY_CMPB.LAG_DROP Fld.ELY_CMPB.LAG_SAT)) ∧
      (FramePasses s f → x.next < f.seq → f.seq ≤ x.next + 4 → x.hold.length < 4 →
        x.hold.find? (fun h => h.1.seq == f.seq) = none →
        ∃ t l r, exec c s = .next t ∧
          t.space f.target f.shadow = { x with
            hold := x.hold ++ [(f, l, r)], gapAt := some (x.gapAt.getD (s.elapse dt).curBeat), top := max x.top f.seq } ∧
          t.space f.target (!f.shadow) = s.space f.target (!f.shadow) ∧ (∀ y, y ≠ f.target → t.target y = s.target y) ∧
          t = { s.elapse dt with targets := t.targets }) ∧
      (FramePasses s f → f.shadow = true → f.seq = x.next → x.hold = [] →
        ∃ t, exec c s = .next t ∧ (t.space f.target true).next = f.seq + 1 ∧
          t.space f.target false = s.space f.target false ∧ t = { s.elapse dt with targets := t.targets })

/-- R150, R151, R154, R158, R160: the effect of each spill frame that is next: the page or eddy copy that its cluster was asked for is
read and transformed and waits for its turn in the order, or, when a line of the page cannot be corrected, is lost and poisons its
LD; a stripe's programs begin; the seal issues; a staged journal record begins to be programmed; the rails are asked off. What the
Elytra then send (`elyPump`) follows the order of stage B. -/
def Obligations.FramesTakeEffect : Prop :=
  (∀ (s : State) (dt ln : Nat) (f : ElyFrame) (rd : LineRead) (a : Nat × Option Nat × Nat), FrameRuns s f → f.opcode = 1 →
    s.dev = .spilling → s.spill.abandoned = false → s.stage = 4 → s.spill.shortfall = false → f.slot = none →
    s.spill.asked.find? (fun a => a.1 == f.page && a.2.1 == f.slot && clusterTarget a.2.2 == f.target) = some a →
    s.stillOwed ((s.page f.page).ld, f.page, none) = true → s.decodeRead (f.page * 64 + ln % 64) rd = .clean →
    ∃ t u : State, ∃ v : Bool, exec (.elytraPage dt f ln rd.errs rd.failing) s = .next t ∧ FrameRan t f ∧
      t = { u.elyPump with targets := t.targets } ∧
      v = s.spill.void.any (fun x => x.1 == f.page && x.2.1 == none && (x.2.2 == 2 || x.2.2 == f.src)) ∧
      u = { s.elapse dt with spill := { s.spill with
        asked := s.spill.asked.erase a
        void := s.spill.void.filter (fun x => !(x.1 == f.page && x.2.1 == none))
        reasked := if v then (f.page, none) :: s.spill.reasked else s.spill.reasked
        ready := s.spill.ready ++ (if v then [] else [SpillForm.mk f.page none
          (Item.mk (s.formOf 1 f.page (s.page f.page).ld 0 (s.content f.page)) (s.page f.page).tag none [] false none 0 s.accSeq)
          f.src (s.spill.doubt.contains (f.page, none))]) } }) ∧
  (∀ (s : State) (dt ln i : Nat) (f : ElyFrame) (rd : LineRead) (a : Nat × Option Nat × Nat) (e : Eddy), FrameRuns s f →
    f.opcode = 1 → s.dev = .spilling → s.spill.abandoned = false → s.stage = 4 → s.spill.shortfall = false → f.slot = some i →
    s.spill.asked.find? (fun a => a.1 == f.page && a.2.1 == f.slot && clusterTarget a.2.2 == f.target) = some a →
    e = tabGet Eddy.none i s.eddy → s.eddy.any (fun x => x.1 == i) = true →
    s.decodeRead ((s.eddyBase + i * 4096) / 64 + ln % 64) rd = .clean →
    s.spill.void.any (fun x => x.1 == f.page && x.2.1 == f.slot) = false →
    ∃ t u : State, exec (.elytraPage dt f ln rd.errs rd.failing) s = .next t ∧ FrameRan t f ∧ t = { u.elyPump with targets := t.targets } ∧
      u = { s.elapse dt with spill := { s.spill with
        asked := s.spill.asked.erase a
        ready := s.spill.ready ++ [SpillForm.mk f.page (some i)
          (Item.mk (s.formOf 2 f.page e.ld (s.ckptId e.ld (e.cuts.headD 0)) e.body) e.tag (some i) e.cuts false none 0 s.accSeq)
          f.src (s.spill.doubt.contains (f.page, some i))] } }) ∧
  (∀ (s v : State) (dt ln : Nat) (f : ElyFrame) (rd : LineRead) (a : Nat × Option Nat × Nat), FrameRuns s f → f.opcode = 1 →
    s.dev = .spilling → s.spill.abandoned = false → s.stage = 4 → s.spill.shortfall = false → f.slot = none →
    s.spill.asked.find? (fun a => a.1 == f.page && a.2.1 == f.slot && clusterTarget a.2.2 == f.target) = some a →
    s.stillOwed ((s.page f.page).ld, f.page, none) = true →
    (s.elapse dt).decodeLine (f.page * 64 + ln % 64) rd = (v, .uncorrectable) →
    ∃ t, exec (.elytraPage dt f ln rd.errs rd.failing) s = .next t ∧ FrameRan t f ∧
      t.spill.lost = s.spill.lost ++ [((s.page f.page).ld, f.page)] ∧ (s.page f.page).ld ∈ t.spill.poisoned ∧
      t.flash = s.flash) ∧
  (∀ (s : State) (dt : Nat) (f : ElyFrame) (body : BitVec 224) (crc : BitVec 32) (x : Stripe), f = .join body crc →
    FrameRuns s f → (f.opcode = 2 ∨ f.opcode = 3) → s.dev = .spilling → s.spill.abandoned = false →
    s.stripeNamed f = some x → x.closed = false → s.stripe? x.seq = some x → s.cis.rehLoad = false →
    ∀ c, (f.opcode = 2 → c = Instr.elytraProgram dt body crc) → (f.opcode = 3 → c = .elytraSeal dt f) →
      ∃ t y, exec c s = .next t ∧ FrameRan t f ∧ t.stripe? x.seq = some y ∧
        y = { x with closed := true, started := s.now + dt } ∧ (∀ d ∈ s.stripeDies x, ∃ o, (d, o) ∈ t.log.dieOps) ∧
        (f.opcode = 3 → t.spill = { s.spill with issued := true }) ∧ (f.opcode = 2 → t.spill = s.spill) ∧
        ((s.ely 0).firstOf.contains x.seq = false → (s.ely 1).firstOf.contains x.seq = false →
          x.seq ∈ (t.ely f.src).firstOf) ∧
        t = { s.elapse dt with spill := t.spill, log := t.log, elys := t.elys, targets := t.targets }) ∧
  (∀ (s : State) (dt : Nat) (f : ElyFrame) (body : BitVec 224) (crc : BitVec 32), f = .join body crc → FrameRuns s f →
    f.opcode = 4 →
    ∃ t, exec (.elytraJournal dt body crc) s = .next t ∧ FrameRan t f ∧
      t.flt = { s.flt with staging := s.flt.staging.map (fun r =>
        if r.seq == f.record && r.st == .staged then { r with st := .programming } else r) } ∧
      t = { s.elapse dt with flt := t.flt, targets := t.targets }) ∧
  (∀ (s : State) (dt : Nat) (f : ElyFrame), FrameRuns s f → f.opcode = 5 → s.seqSt = 2 →
    ∃ t, exec (.elytraRailOff dt f) s = .next t ∧ FrameRan t f ∧ t.spill = { s.spill with railOff := true } ∧
      t.seqSt = 3 ∧ t.psq.startAt = s.now + dt ∧ t.psq.failed = false ∧ t.fget Fld.PSQ_RST_STS.CORE_RST = 1 ∧
      (∀ p, p < 2 → t.on (Fld.FAB_PORT_STS.LINK_UP p) = false) ∧
      t = { s.elapse dt with
        regs := t.regs, psq := t.psq, spill := t.spill, targets := t.targets, lds := t.lds, fab := t.fab, out := t.out })

/-- R154 to R159: a heartbeat is kept; a gap a beat old is reported and every command of the target from the missing number on is
sent again; a SELF_CHECK fences the Elytra that failed, marks the seal SUSPECT when both did, and counts a shadow mismatch neither
explains (its unit a free value), or, with a spill mismatch, has what is suspect written again, the Elytra that PREFER does not name
leaving when it had been already; a shadow pass sends the head of the spill order, the pass before it counting as clean (log entry
111); a lost heartbeat asks for the fence,
which takes the Elytra OUT and leaves its partner SOLE; ONLINE and OFFLINE of the FM. -/
def Obligations.ElytraFenceAndRejoin : Prop :=
  (∀ (s : State) (dt : Nat) (f : ElyFrame), f.crcOk = true → f.opcode = 6 → (s.ely f.src).fenced = false →
    exec (.elytraHeartbeat dt f) s =
      .next ((s.elapse dt).modEly f.src (fun x => { x with lastBeat := (s.elapse dt).curBeat }))) ∧
  (∀ (s : State) (dt x b : Nat) (h : ElyFrame × Nat × LineRead) (r : List (ElyFrame × Nat × LineRead)),
    (s.target x).spill.gapAt = some b → b + 1 ≤ (s.elapse dt).curBeat → (s.target x).spill.hold = h :: r →
    (s.target x).shadow.gapAt = none →
    ∃ t, exec (.seqGap dt x) s = .next t ∧ (t.target x).spill.gapAt = some (s.elapse dt).curBeat ∧
      (∀ g ∈ s.spill.sent, g.target = x → (s.target x).spill.next ≤ g.seq →
        ∀ e, e < 2 → s.elySends e = true → Out.ely (g.from_ e) ∈ t.out) ∧
      Reports (srcOf (6 + h.1.src) 2) 0x07 s t ∧
      t = { s.elapse dt with
        regs := t.regs, targets := t.targets, flt := t.flt, out := t.out, freeCtr := s.freeCtr + 1 }) ∧
  (∀ (s : State) (dt : Nat), s.spill.checkDue = 2 →
    ∃ t, exec (.selfCheck dt true true) s = .next t ∧ t.spill = { s.spill with checkDue := 0 } ∧
      t.fget Fld.ELY_CMPA.SHADOW_MM = min (s.fget Fld.ELY_CMPA.SHADOW_MM + 1) Fld.ELY_CMPA.SHADOW_MM.max ∧
      t = { s.elapse dt with regs := t.regs, flt := t.flt, spill := t.spill, freeCtr := s.freeCtr + 1 }) ∧
  (∀ (s : State) (dt e : Nat), e < 2 → s.spill.checkDue ≠ 0 → s.elyIn (1 - e) = true →
    ∃ t u : State, exec (.selfCheck dt (e != 0) (e != 1)) s = .next t ∧
      t = (u.rewriteSuspects (fun q => (s.ely e).firstOf.contains q) e).clearSuspects ∧
      t.spill.checkDue = 0 ∧ t.spill.suspects = [] ∧ u.elyRole e = 3 ∧ u.fget (Fld.ELY_STS.REASON e) = 2 ∧
      u.elyRole (1 - e) = 2 ∧ (u.ely e).fenced = true ∧ u.unitSt (6 + e) = 2 ∧ Reports (srcOf (6 + e) 7) 0x53 s u ∧
      u = { s.elapse dt with
        regs := u.regs, flt := u.flt, elys := u.elys, spill := { s.spill with passOpen := false, passLeft := [] } }) ∧
  (∀ (s : State) (dt : Nat), s.spill.checkDue = 1 → s.spill.twice = false →
    s.spill.suspects.any s.spill.rewritten.contains = false →
    ∃ t, exec (.selfCheck dt true true) s = .next t ∧
      t = ((s.elapse dt).rewriteSuspects (fun _ => true) 2).clearSuspects ∧ t.spill.checkDue = 0 ∧ t.spill.suspects = []) ∧
  (∀ (s : State) (dt : Nat), s.spill.checkDue = 1 → s.preferred < 2 → s.elyIn s.preferred = true →
    (s.spill.twice = true ∨ s.spill.suspects.any s.spill.rewritten.contains = true) →
    ∃ t u : State, exec (.selfCheck dt true true) s = .next t ∧ t = (u.rewriteSuspects (fun _ => true) 2).clearSuspects ∧
      u.elyRole (1 - s.preferred) = 3 ∧ u.fget (Fld.ELY_STS.REASON (1 - s.preferred)) = 3 ∧ u.elyRole s.preferred = 2 ∧
      u = { s.elapse dt with
        regs := u.regs, flt := u.flt, elys := u.elys, spill := { s.spill with passOpen := false, passLeft := [] } }) ∧
  (∀ (s : State) (dt : Nat), s.spill.checkDue ≠ 0 → s.preferred < 2 → s.elyIn s.preferred = true →
    ∃ t u : State, exec (.selfCheck dt false false) s = .next t ∧
      t = u.clearSuspects.modSpill (fun x => { x with suspect := true }) ∧ t.spill.suspect = true ∧ t.spill.checkDue = 0 ∧
      u.elyRole (1 - s.preferred) = 3 ∧ u.elyRole s.preferred = 2 ∧
      u = { s.elapse dt with
        regs := u.regs, flt := u.flt, elys := u.elys, spill := { s.spill with passOpen := false, passLeft := [] } }) ∧
  (∀ (s : State) (dt : Nat) (m : Bool), s.isOpen = true → s.elyIn 0 = true → s.elyIn 1 = true → s.stage = 0 →
    s.spill.shadowAt + s.fget Fld.ELY_CFG.SHADOW_INTERVAL ≤ (s.elapse dt).curBeat →
    ∃ t u : State, exec (.shadowPass dt m) s = .next t ∧ u = (s.elapse dt).passClean ∧
      t.spill.shadowAt = (s.elapse dt).curBeat ∧ t.spill.sentS = u.shadowFrames ∧
      t.out = (s.elapse dt).out ++ u.shadowFrames.flatMap (fun f => [0, 1].map (fun e => .ely (f.from_ e))) ∧
      (∀ x, (t.target x).shadow = { } ∧ (t.target x).spill = (s.target x).spill) ∧
      (s.spill.passOpen = false → u = s.elapse dt) ∧
      (s.spill.passOpen = true → ∀ e, e < 2 →
        u.fget (Fld.ELY_STS.MATCHES e) = min (s.fget (Fld.ELY_STS.MATCHES e) + 1) 255 ∧
        (u.ely e).clean = min 3 ((s.ely e).clean + 1) ∧ (s.elyRole e = 0 → 2 ≤ (s.ely e).clean → u.elyRole e = 1)) ∧
      (m = true → t.spill.checkDue = (if s.spill.checkDue = 1 then 1 else 2) ∧ t.spill.passOpen = false ∧
        ∀ e, e < 2 → t.fget (Fld.ELY_STS.MATCHES e) = 0 ∧ (t.ely e).clean = 0 ∧ t.elyRole e = u.elyRole e) ∧
      (m = false → u.shadowFrames ≠ [] → t.spill.checkDue = s.spill.checkDue ∧ t.spill.passOpen = true ∧
        t.spill.passLeft = u.shadowFrames.map (fun f => (f.target, f.seq)) ∧ t.regs = u.regs ∧ t.elys = u.elys) ∧
      t = { s.elapse dt with regs := t.regs, spill := t.spill, elys := t.elys, targets := t.targets, out := t.out }) ∧
  (∀ (s : State) (dt e : Nat), e < 2 → s.elyIn e = true → s.elyIn (1 - e) = true → (s.ely e).fencing = false →
    (s.ely (1 - e)).fencing = false → (s.ely e).lastBeat + 2 ≤ (s.elapse dt).curBeat →
    ∃ t, exec (.heartbeatLost dt e) s = .next t ∧ (t.ely e).fencing = true ∧ (t.ely e).fenceTick = (s.now + dt) / 1000 ∧
      Reports (srcOf (6 + e) 4) 0x23 s t ∧
      t = { s.elapse dt with regs := t.regs, flt := t.flt, elys := t.elys } ∧ RegsBut (FaultRegs (srcOf (6 + e) 4)) s t) ∧
  (∀ (s : State) (dt e : Nat), e < 2 → s.elyIn e = true → s.elyIn (1 - e) = true → (s.ely e).fencing = false →
    (s.ely (1 - e)).fencing = true → (s.ely e).lastBeat + 2 ≤ (s.elapse dt).curBeat →
    ∃ t, exec (.heartbeatLost dt e) s = .next t ∧
      ((s.ely (1 - e)).fenceTick = (s.now + dt) / 1000 → s.preferred = 1 - e →
        (t.ely e).fencing = true ∧ (t.ely (1 - e)).fencing = false) ∧
      (((s.ely (1 - e)).fenceTick ≠ (s.now + dt) / 1000 ∨ s.preferred ≠ 1 - e) → t = s.elapse dt)) ∧
  (∀ (s : State) (dt e : Nat), e < 2 → (s.ely e).fencing = true → s.elyIn (1 - e) = true →
    ∃ t u : State, exec (.fenceApplied dt e) s = .next t ∧ t = u.elyPump ∧ u.elyRole e = 3 ∧
      u.fget (Fld.ELY_STS.REASON e) = 1 ∧ u.elyRole (1 - e) = 2 ∧ (u.ely e).fenced = true ∧ (u.ely e).fencing = false ∧
      u.unitSt (6 + e) = 2 ∧ Reports (srcOf (6 + e) 7) 0x53 s u ∧
      u = { s.elapse dt with
        regs := u.regs, flt := u.flt, elys := u.elys, spill := { s.spill with passOpen := false, passLeft := [] } }) ∧
  (∀ (s : State) (dt e : Nat), e < 2 → s.dev = .serving → s.elyRole e = 3 →
    ∃ t, exec (.elytraOnline dt e) s = .next t ∧ t.elyRole e = 0 ∧ t.fget (Fld.ELY_STS.MATCHES e) = 0 ∧
      t.unitSt (6 + e) = 0 ∧ (t.ely e).fenced = false ∧ (t.ely e).clean = 0 ∧ (t.ely e).rejoining = true ∧
      t.elyRole (1 - e) = s.elyRole (1 - e) ∧ t = { s.elapse dt with regs := t.regs, elys := t.elys }) ∧
  (∀ (s : State) (dt e : Nat), e < 2 → s.dev = .serving → s.elyIn e = true → s.elyIn (1 - e) = true →
    ∃ t, exec (.elytraOffline dt e) s = .next t ∧ t.elyRole e = 3 ∧ t.fget (Fld.ELY_STS.REASON e) = 4 ∧
      t.elyRole (1 - e) = 2 ∧ (t.ely e).fenced = true ∧ t.unitSt (6 + e) = 2 ∧
      t = { s.elapse dt with
        regs := t.regs, flt := t.flt, elys := t.elys, spill := { s.spill with passOpen := false, passLeft := [] } })

/-! ## The maintenance port (chapter 9) -/

/-- R224, R225, R237: the writes of a command's sequence, each in its turn; one out of turn, or a sequence left for 100 ms,
returns the port to IDLE with INVALID_FIELD and counts; a write while BUSY is ignored and counted; the buffer holds what is written
to it. -/
def Obligations.PortSequence : Prop :=
  (∀ (s : State) (dt : Nat), s.dev ≠ .off → s.flm.readTill ≤ s.now + dt → (s.flmSt = 0 ∨ s.flmSt = 6) →
    ∃ t, exec (.flmKeyWrite dt 0xF1A5) s = .next t ∧ t.flmSt = 1 ∧ t.flm = { s.flm with keyAt := s.now + dt } ∧
      t = { s.elapse dt with regs := t.regs, flm := t.flm } ∧ RegsBut [Fld.FLM_STS.STATE] s t) ∧
  (∀ (s : State) (dt : Nat), s.dev ≠ .off → s.flm.readTill ≤ s.now + dt → s.flmSt = 1 →
    ∃ t, exec (.flmKeyWrite dt 0x0E5A) s = .next t ∧ t.flmSt = 2 ∧
      t = { s.elapse dt with regs := t.regs } ∧ RegsBut [Fld.FLM_STS.STATE] s t) ∧
  (∀ (s : State) (dt : Nat) (v : BitVec 32), s.dev ≠ .off → s.flm.readTill ≤ s.now + dt → s.flmSt = 2 →
    ∃ t, exec (.flmCmdWrite dt v) s = .next t ∧ t.flmSt = 3 ∧ t.fget Fld.FLM_CMD.OPCODE = v.toNat % 256 ∧
      t.fget Fld.FLM_CMD.TLC = v.toNat / 2 ^ 14 % 2 ∧ t.fget Fld.FLM_CMD.ECC = v.toNat / 2 ^ 15 % 2 ∧
      t = { s.elapse dt with regs := t.regs } ∧
      RegsBut [Fld.FLM_STS.STATE, Fld.FLM_CMD.OPCODE, Fld.FLM_CMD.TLC, Fld.FLM_CMD.ECC] s t) ∧
  (∀ (s : State) (dt : Nat) (v : Word), s.dev ≠ .off → s.flm.readTill ≤ s.now + dt → s.flmSt = 3 →
    ∃ t, exec (.flmAddrWrite dt v) s = .next t ∧ t.flmSt = 4 ∧
      FlmAt t (v.toNat % 2 ^ 9) (v.toNat / 2 ^ 11 % 2 ^ 14) (v.toNat / 2 ^ 25 % 2 ^ 11) (v.toNat / 2 ^ 36 % 4)
        (v.toNat / 2 ^ 38 % 16) ∧ t.fget Fld.FLM_ADDR.REGION =
        (if v.toNat / 2 ^ 42 % 32 ≤ 18 then v.toNat / 2 ^ 42 % 32 else s.fget Fld.FLM_ADDR.REGION) ∧
      t = { s.elapse dt with regs := t.regs } ∧
      RegsBut [Fld.FLM_STS.STATE, Fld.FLM_ADDR.DIE_STREAM, Fld.FLM_ADDR.BLOCK, Fld.FLM_ADDR.PAGE, Fld.FLM_ADDR.PLANE,
        Fld.FLM_ADDR.WORD, Fld.FLM_ADDR.REGION] s t) ∧
  (∀ (s : State) (dt : Nat) (c : Instr) (v : BitVec 32) (a : Word), s.dev ≠ .off → s.flmSt ≠ 5 →
    s.flm.readTill ≤ s.now + dt ∧ ((c = .flmKeyWrite dt v ∧ v ≠ 0xF1A5 ∧ v ≠ 0x0E5A) ∨ (c = .flmCmdWrite dt v ∧ s.flmSt ≠ 2) ∨
      (c = .flmAddrWrite dt a ∧ s.flmSt ≠ 3)) ∨
      (c = .flmSequenceTimeout dt ∧ 1 ≤ s.flmSt ∧ s.flmSt ≤ 4 ∧ s.flm.keyAt + 100000000 ≤ s.now + dt) →
    ∃ t, exec c s = .next t ∧ t.flmSt = 0 ∧ t.fget Fld.FLM_STS.STATUS = 3 ∧
      t.fget Fld.FLM_CNT.SEQ_ERR = min (s.fget Fld.FLM_CNT.SEQ_ERR + 1) Fld.FLM_CNT.SEQ_ERR.max ∧
      t = { s.elapse dt with regs := t.regs } ∧
      RegsBut [Fld.FLM_STS.STATE, Fld.FLM_STS.STATUS, Fld.FLM_CNT.SEQ_ERR, Fld.FLM_CNT.SE_SAT] s t) ∧
  (∀ (s : State) (dt : Nat) (v : BitVec 32) (a d : Word), s.dev ≠ .off → (s.flmSt = 5 ∨ s.now + dt < s.flm.readTill) →
    ∀ c ∈ [Instr.flmKeyWrite dt v, .flmCmdWrite dt v, .flmAddrWrite dt a, .readStatus dt d v],
      exec c s = .next ((s.elapse dt).bump Fld.FLM_CNT.SEQ_ERR Fld.FLM_CNT.SE_SAT)) ∧
  (∀ (s : State) (dt off : Nat) (v : Word), s.dev ≠ .off → off < 0x5000 → s.now + dt < s.flm.readTill →
    exec (.flmBufWrite dt off v 64) s = .next ((s.elapse dt).bump Fld.FLM_CNT.SEQ_ERR Fld.FLM_CNT.SE_SAT)) ∧
  (∀ (s : State) (dt off : Nat) (v : Word), s.dev ≠ .off → s.flm.readTill ≤ s.now + dt → off + 8 ≤ 0x5000 →
    ∃ t, exec (.flmBufWrite dt off v 64) s = .next t ∧
      (∀ i, i < 8 → t.bufByte (off + i) = BitVec.ofNat 8 (v.toNat / 256 ^ i)) ∧
      (∀ o, (o < off ∨ off + 8 ≤ o) → t.bufByte o = s.bufByte o) ∧
      t = { s.elapse dt with flm := { s.flm with buf := t.flm.buf } })

/-- R226, R228: the read commands of Table 09-1 on an idle die return the page, the parameter page, the ID bytes or the word; a
page no level decodes is a MEDIA_ERROR; a busy die answers its status word with DIE_BUSY, as READ_STATUS does at any time; an
opcode of no row completes INVALID_OPCODE. -/
def Obligations.PortReads : Prop :=
  (∀ (s : State) (dt l ds block page plane word k : Nat) (v : Word) (p : RawPage), FlmReady s dt 1 →
    FlmAt s ds block page plane word → s.flmDie ds = true → s.flmPageOk block page (s.on Fld.FLM_CMD.TLC) = true →
    s.readProt ds block = false → s.log.dieOps.all (fun e => e.1 != ds) = true → s.holdsDie ds = false →
    s.on Fld.FLM_CMD.ECC = true → s.wordArea + 64 ≤ 0x5000 →
    s.flm.raw.find? (fun e => e.1 == planeKey ds block page plane) = some (k, p) →
    s.flm.words.all (fun e => e.1 / 16 != planeKey ds block page plane) = true →
    ∃ t u : State, exec (.readPage dt v none (.decoded l)) s = .next t ∧ exec (.readPage dt v none .failed) s = .next u ∧
      FlmEnds t 1 0 ∧ t.fget Fld.FLM_STS.LEVEL = min l 9 ∧
      (∀ o, o < s.wordArea → t.bufByte o = contentByte p.bytes p.base p.spareBase o) ∧
      (s.regionAt ds block ≠ 1 → s.regionAt ds block ≠ 2 → t.flm.buf = p.bytes) ∧
      ((s.regionAt ds block = 1 ∨ s.regionAt ds block = 2) → ∀ w i, w < 16 → i < 4 →
        t.bufByte (s.wordArea + 4 * w + i) = BitVec.ofNat 8 ((s.wordAt ds block page plane w).2.toNat / 256 ^ i)) ∧
      FlmOnly (s.elapse dt) t ∧ FlmEnds u 1 9 ∧ u.flm.buf = s.flm.buf ∧ FlmOnly (s.elapse dt) u) ∧
  (∀ (s : State) (dt ds block page plane word : Nat) (v : Word) (w : BitVec 32) (r : ReadResult), FlmReady s dt 1 →
    FlmAt s ds block page plane word → s.flmDie ds = true → s.flmPageOk block page (s.on Fld.FLM_CMD.TLC) = true →
    s.readProt ds block = false →
    ∃ t, exec (.readPage dt v (some w) r) s = .next t ∧ FlmEnds t 1 0 ∧ t.fget Fld.FLM_STS.DIE_BUSY = 1 ∧
      t.fget Fld.FLM_RDATA.RDATA = ((s.elapse dt).dieWord ds w).toNat ∧ FlmOnly (s.elapse dt) t) ∧
  (∀ (s : State) (dt ds block page plane word : Nat) (v id : Word) (ps : List Byte), FlmAt s ds block page plane word →
    s.flmDie ds = true → s.log.dieOps.all (fun e => e.1 != ds) = true → s.holdsDie ds = false →
    (FlmReady s dt 2 → ∃ t, exec (.readParam dt v none ps) s = .next t ∧ FlmEnds t 2 0 ∧ t.flm.buf = (s.flm.put 0 ps).buf ∧
      FlmOnly (s.elapse dt) t) ∧
    (FlmReady s dt 3 → ∃ t, exec (.readId dt v none id) s = .next t ∧ FlmEnds t 3 0 ∧
      t.fget Fld.FLM_RDATA.RDATA = id.toNat % 2 ^ 32 ∧ t.fget Fld.FLM_RDATA2.RDATA2 = id.toNat / 2 ^ 32 ∧
      FlmOnly (s.elapse dt) t)) ∧
  (∀ (s : State) (dt ds block page plane word : Nat) (v : Word) (w : BitVec 32), FlmReady s dt 4 →
    FlmAt s ds block page plane word → s.flmDie ds = true →
    ∃ t, exec (.readStatus dt v w) s = .next t ∧ FlmEnds t 4 0 ∧
      t.fget Fld.FLM_RDATA.RDATA = ((s.elapse dt).dieWord ds w).toNat ∧ FlmOnly (s.elapse dt) t) ∧
  (∀ (s : State) (dt ds block page plane word k : Nat) (v : Word) (w : BitVec 32), FlmReady s dt 5 →
    FlmAt s ds block page plane word → s.flmDie ds = true → s.flmPageOk block page false = true →
    s.readProt ds block = false → s.log.dieOps.all (fun e => e.1 != ds) = true → s.holdsDie ds = false →
    s.flm.words.find? (fun e => e.1 == wordKey (planeKey ds block page plane) word) = some (k, w) →
    ∃ t, exec (.readWord dt v none) s = .next t ∧ FlmEnds t 5 0 ∧ t.fget Fld.FLM_RDATA.RDATA = w.toNat ∧
      FlmOnly (s.elapse dt) t) ∧
  (∀ (s : State) (dt op : Nat) (v : Word), FlmReady s dt op → op < 256 →
    op ∉ [1, 2, 3, 4, 5, 0x10, 0x11, 0x20, 0x30, 0x31, 0x32, 0x33, 0x40] →
    ∃ t, exec (.flmInvalidOpcode dt v) s = .next t ∧ FlmEnds t op 2 ∧ FlmOnly (s.elapse dt) t)

/-- R227, R229 to R231: a program, word program or erase that nothing refuses is queued at its die and the port is BUSY; a word
program that would raise a bit completes INVALID_TRANSITION and counts in REFUSED; an operation that ends well leaves its page,
or its block erased. R233 to R236: a matching PW_UNLOCK opens a session and clears FAIL_COUNT, another counts and at 8 locks the
port; PW_SET and PROT_SET take effect without a password or in a session and are LOCKED otherwise; PROT_LOCK and 60 s close the
session; XIP_SELECT maps a boot copy whose signature passes. -/
def Obligations.PortProgramsErasesAndProtection : Prop :=
  (∀ (s : State) (dt ds block page plane word : Nat) (v : Word), FlmAt s ds block page plane word → s.flmDie ds = true →
    s.flmMayWrite ds block false = 0 →
    (FlmReady s dt 0x10 → s.flmPageOk block page false = true → s.pageErased ds block page plane = true →
      ∃ t o, exec (.programPage dt v) s = .next t ∧ t.flmSt = 5 ∧ t.flm.op = some o ∧ o.opcode = 0x10 ∧ o.ds = ds ∧
        o.key = planeKey ds block page plane ∧ FlmOnly (s.elapse dt) t) ∧
    (FlmReady s dt 0x20 → s.flmPageOk block 0 false = true →
      ∃ t o, exec (.eraseBlock dt v) s = .next t ∧ t.flmSt = 5 ∧ t.flm.op = some o ∧ o.opcode = 0x20 ∧ o.ds = ds ∧
        o.key = blockKey ds block ∧ FlmOnly (s.elapse dt) t)) ∧
  (∀ (s : State) (dt ds block page plane word k : Nat) (v : Word) (w : BitVec 32), FlmReady s dt 0x11 →
    FlmAt s ds block page plane word → s.flmDie ds = true → s.flmPageOk block page false = true →
    s.flmMayWrite ds block true = 0 →
    s.flm.words.find? (fun e => e.1 == wordKey (planeKey ds block page plane) word) = some (k, w) →
    ∃ t, exec (.programWord dt v) s = .next t ∧ FlmOnly (s.elapse dt) t ∧
      (v.truncate 32 &&& ~~~w = 0 → s.progsAt ds block page plane < s.dieNop →
        t.flmSt = 5 ∧ ∃ o, t.flm.op = some o ∧ o.opcode = 0x11 ∧ o.ds = ds ∧ o.value = v.truncate 32 ∧
          o.key = wordKey (planeKey ds block page plane) word) ∧
      (v.truncate 32 &&& ~~~w ≠ 0 → FlmEnds t 0x11 0x11 ∧
        t.fget Fld.FLM_CNT.REFUSED = min (s.fget Fld.FLM_CNT.REFUSED + 1) Fld.FLM_CNT.REFUSED.max)) ∧
  (∀ (s : State) (dt : Nat) (o : FlmOp), s.flm.op = some o → s.flmSt = 5 → s.flmIssued o = true →
    (o.opcode = 0x10 ∨ o.opcode = 0x20) →
    ∃ t u : State, exec (.flmOperationDone dt .ok) s = .next t ∧ t = u.releaseDie o.ds ∧ u.flmSt = 6 ∧
      u.fget Fld.FLM_STS.STATUS = 0 ∧ u.flm.op = none ∧
      (o.opcode = 0x10 → ∃ p, u.flm.raw.find? (fun e => e.1 == o.key) = some (o.key, p) ∧ p.base = o.page.base ∧
        p.spareBase = o.page.spareBase ∧
        ∀ b, (b < s.wordArea ∨ s.wordArea + 64 ≤ b) →
          contentByte p.bytes p.base p.spareBase b = contentByte o.page.bytes o.page.base o.page.spareBase b) ∧
      (o.opcode = 0x20 → (∀ e ∈ u.flm.raw, e.1 / 2 ^ 13 ≠ o.key) ∧ (∀ e ∈ u.flm.words, e.1 / 2 ^ 17 ≠ o.key)) ∧
      u = { s.elapse dt with regs := u.regs, flm := u.flm, boot := u.boot, freeCtr := u.freeCtr } ∧
      RegsBut [Fld.FLM_STS.STATE, Fld.FLM_STS.STATUS, Fld.FLM_STS.TIME_US] s u) ∧
  (∀ (s : State) (dt : Nat) (o : FlmOp) (st : MediaStatus), s.flm.op = some o → s.flmIssued o = false →
    exec (.flmOperationDone dt st) s = .next (s.elapse dt)) ∧
  (∀ (s : State) (dt : Nat) (v : Word), FlmReady s dt 0x30 →
    ∃ t, exec (.pwUnlock dt v) s = .next t ∧
      (s.flm.password = some (sha384 v) → FlmEnds t 0x30 0 ∧ t.flm.session = some (s.now + dt) ∧
        t.fget Fld.FLM_PROT_STS.SESSION = 1 ∧ t.fget Fld.FLM_PROT_STS.FAIL_COUNT = 0) ∧
      (s.flm.password ≠ some (sha384 v) → FlmEnds t 0x30 0x12 ∧ t.flm.session = s.flm.session ∧
        t.fget Fld.FLM_PROT_STS.FAIL_COUNT = min (s.fget Fld.FLM_PROT_STS.FAIL_COUNT + 1) 8 ∧
        t.fget Fld.FLM_PROT_STS.LOCKOUT = (if 8 ≤ s.fget Fld.FLM_PROT_STS.FAIL_COUNT + 1 then 1 else 0)) ∧
      t = { s.elapse dt with regs := t.regs, flm := t.flm, freeCtr := t.freeCtr }) ∧
  (∀ (s : State) (dt : Nat) (v : Word), FlmReady s dt 0x31 →
    ∃ t, exec (.pwSet dt v) s = .next t ∧
      (s.mayProtect = true → FlmEnds t 0x31 0 ∧ t.flm.password = (if v = BitVec.allOnes 64 then none else some (sha384 v)) ∧
        t.fget Fld.FLM_PROT_STS.PW_SET = (if v = BitVec.allOnes 64 then 0 else 1) ∧
        t.cfgDue = some (s.cfgDue.getD (s.now + dt))) ∧
      (s.mayProtect = false → FlmEnds t 0x31 0x12 ∧ t.flm.password = s.flm.password ∧ t.cfgDue = s.cfgDue)) ∧
  (∀ (s : State) (dt r : Nat) (v : Word), FlmReady s dt 0x32 → s.fget Fld.FLM_ADDR.REGION = r → r < 3 → v.toNat < 4 →
    ∃ t, exec (.protSet dt v) s = .next t ∧
      (s.mayProtect = true → FlmEnds t 0x32 0 ∧ t.fget (Fld.FLM_REGION.WP r) = v.toNat % 2 ∧
        t.fget (Fld.FLM_REGION.RP r) = v.toNat / 2 % 2 ∧ t.cfgDue = some (s.cfgDue.getD (s.now + dt))) ∧
      (s.mayProtect = false → FlmEnds t 0x32 0x12 ∧ FlmOnly (s.elapse dt) t)) ∧
  (∀ (s : State) (dt : Nat) (v : Word), FlmReady s dt 0x33 →
    ∃ t, exec (.protLock dt v) s = .next t ∧ FlmEnds t 0x33 0 ∧ t.flm.session = none ∧
      t.fget Fld.FLM_PROT_STS.SESSION = 0 ∧ t.flm.password = s.flm.password) ∧
  (∀ (s : State) (dt t0 : Nat), s.flm.session = some t0 → t0 + 60000000000 ≤ s.now + dt →
    ∃ t, exec (.protSessionTimeout dt) s = .next t ∧ t.flm = { s.flm with session := none } ∧
      t.fget Fld.FLM_PROT_STS.SESSION = 0 ∧ t = { s.elapse dt with regs := t.regs, flm := t.flm } ∧
      RegsBut [Fld.FLM_PROT_STS.SESSION] s t) ∧
  (∀ (s : State) (dt : Nat) (v : Word), FlmReady s dt 0x40 → s.dev = .basin → v.toNat % 4 ∈ s.boot.byPort →
    ∃ t u : State, exec (.xipSelect dt v true) s = .next t ∧ exec (.xipSelect dt v false) s = .next u ∧ FlmEnds t 0x40 0 ∧
      t.boot = { s.boot with xip := some (v.toNat % 4) } ∧ t.fget Fld.FLM_XIP.ACTIVE = 1 ∧
      t.fget Fld.FLM_XIP.COPY = v.toNat % 4 ∧ t.fget Fld.FLM_XIP.DIE_STREAM = 128 * (v.toNat % 4) ∧
      FlmEnds u 0x40 9 ∧ u.boot = s.boot)

/-! ## DRAM (chapter 10) -/

/-- R249: the scheduler's choice is a request of the queues' window that R251 does not block, and no request of the window that
may issue ranks above it (urgency level first, then the direction of the mode, then a row hit). R249, R261, R265: a channel in
service issues the request its scheduler picks, outside the maintenance slot and an overrun's excess, refresh slots that are due first
and the commands of a replay before requests (R62, R65, R266); an issued read that decodes answers its request with the line's data; a
line is scrubbed once in SCRUB_HOURS, in any order (log entry 110, DESIGN CHOICE), on a channel that is not stopped, and decoded, a
corrected one being counted. What then waits goes on. -/
def Obligations.SchedulerPicksAndRequestsReturn : Prop :=
  (∀ (s : State) (ch : Nat) (x : Sub) (w : Bool) (q : DReq), s.pick ch x w = some q →
    q ∈ x.queue ∧ s.blocked x.window q = false ∧ s.rankReady ch (s.cellOf q.line).rank = true ∧
    ∀ r ∈ x.window, s.blocked x.window r = false → s.rankReady ch (s.cellOf r.line).rank = true →
      s.issueRank ch x w r ≤ s.issueRank ch x w q) ∧
  (∀ (s : State) (dt ch i : Nat), (s.fget (Fld.DRC_STS.STATE ch) ≠ 2 ∨ (s.elapse dt).reserved ch = true) →
    exec (.dramRequestIssue dt ch i) s = .next (s.elapse dt)) ∧
  (∀ (s v : State) (dt ch i : Nat) (e : List Nat) (rest : List (List Nat)), ch < 8 → i < 2 →
    s.fget (Fld.DRC_STS.STATE ch) = 2 → (s.elapse dt).reserved ch = false → v = (s.elapse dt).refreshDue ch →
    ((v.chan ch).sub i).again = e :: rest → v.rankReady ch (((v.chan ch).sub i).replay.getD 0) = true →
    ∃ t, exec (.dramRequestIssue dt ch i) s = .next t ∧ ((t.chan ch).sub i).again = rest ∧
      ((t.chan ch).sub i).queue = ((v.chan ch).sub i).queue ∧ ((t.chan ch).sub i).flight = ((v.chan ch).sub i).flight ∧
      (∃ h, ((t.chan ch).sub i).hist.getLast? = some h ∧ h.getD 1 0 = e.getD 1 0 ∧ h.getD 5 0 = e.getD 5 0) ∧
      t = { v with chans := t.chans }) ∧
  (∀ (s v m : State) (dt ch i : Nat) (q : DReq), ch < 8 → i < 2 → s.fget (Fld.DRC_STS.STATE ch) = 2 →
    (s.elapse dt).reserved ch = false → v = (s.elapse dt).refreshDue ch → ((v.chan ch).sub i).again = [] →
    m = v.moveWmb ch → m.pick ch ((m.chan ch).sub i) (m.writeMode ch ((m.chan ch).sub i)) = some q →
    ∃ t u : State, exec (.dramRequestIssue dt ch i) s = .next t ∧ t = u.wakeWmb.showTrk ∧
      ((u.chan ch).sub i).queue = ((m.chan ch).sub i).queue.erase q ∧
      ((u.chan ch).sub i).flight = ((m.chan ch).sub i).flight ++ (if q.isWrite then [] else [q]) ∧
      ((u.chan ch).sub i).writing = m.writeMode ch ((m.chan ch).sub i) ∧
      (∀ j, j ≠ i → (u.chan ch).sub j = (m.chan ch).sub j) ∧ (∀ c, c ≠ ch → u.chan c = m.chan c) ∧
      u = { m with regs := u.regs, chans := u.chans } ∧
      RegsBut [Fld.DRC_MAINT_CNT.NEIGHBOUR ch, Fld.DRC_MAINT_CNT.NB_SAT ch] m u) ∧
  (∀ (s : State) (dt ch i rid : Nat) (rd : LineRead) (q : DReq) (rest : List DReq) (r : Req),
    ((s.chan ch).sub i).flight = q :: rest → s.decodeRead q.line rd = .clean → q.kind = .read rid → s.fab.reqs.find? (fun r => r.rid == rid && r.at_ == .dram) = some r →
    ∃ t u : State, exec (.dramReadDone dt ch i rd) s = .next t ∧ t = (u.wakePage (q.line / 64)).settle.showWeir ∧
      u.out = (s.elapse dt).out ++ [.drs r.port r.tag (s.lineData q.line) (s.devLoadOf r.port r.ld)] ∧
      u.fab.reqs = s.fab.reqs.filter (fun x => x.rid != r.rid) ∧
      ((u.chan ch).sub i).flight = rest ∧ ((u.chan ch).sub i).queue = ((s.chan ch).sub i).queue ∧
      u = { s.elapse dt with chans := u.chans, fab := { s.fab with reqs := u.fab.reqs }, out := u.out }) ∧
  (∀ (s : State) (dt ch i p : Nat) (w : Bool) (rd : LineRead) (q : DReq) (rest : List DReq),
    ((s.chan ch).sub i).flight = q :: rest → q.kind = .page p w → s.decodeRead q.line rd = .clean →
    ∃ t u : State, exec (.dramReadDone dt ch i rd) s = .next t ∧ t = u.settle.showWeir ∧ ((u.chan ch).sub i).flight = rest ∧
      ((u.chan ch).sub i).queue = ((s.chan ch).sub i).queue ∧ u = { s.elapse dt with chans := u.chans }) ∧
  (∀ (s v : State) (dt line : Nat) (rd : LineRead), s.isOpen = true → s.opFree = true →
    s.chanStopped (s.lineChan line) = false → line * 64 < s.installed →
    (s.elapse dt).scrubTurn (s.lineChan line) line = some v → s.decodeRead line rd = .clean →
    exec (.dramScrubRead dt line rd) s = .next (v.passRead line).settle) ∧
  (∀ (s : State) (dt line : Nat) (rd : LineRead),
    (s.isOpen = false ∨ s.opFree = false ∨ s.chanStopped (s.lineChan line) = true ∨
      (s.elapse dt).scrubTurn (s.lineChan line) line = none) →
    exec (.dramScrubRead dt line rd) s = .next (s.elapse dt)) ∧
  (∀ (s v : State) (dt line : Nat) (rd : LineRead) (l : List (Nat × Nat)), s.isOpen = true → s.opFree = true →
    s.chanStopped (s.lineChan line) = false → line * 64 < s.installed →
    (s.elapse dt).scrubTurn (s.lineChan line) line = some v →
    s.decodeRead line rd = .corrected l → s.lineChan line < 8 → (s.cellOf line).rank < 16 →
    ∃ t u : State, exec (.dramScrubRead dt line rd) s = .next t ∧ t = u.settle ∧
      u.fget (Fld.DRC_ECC_CNT.CORRECTED (s.lineChan line)) =
        min (s.fget (Fld.DRC_ECC_CNT.CORRECTED (s.lineChan line)) + 1) (Fld.DRC_ECC_CNT.CORRECTED (s.lineChan line)).max ∧
      u = { v.passRead line with regs := u.regs, flt := u.flt, chans := u.chans }) ∧
  (∀ (s : State) (c line : Nat),
    (s.now < (s.chan c).scrubAt + s.fget (Fld.DRC_ECC.SCRUB_HOURS c) * 3600000000000 →
      (line ∈ (s.chan c).scrubbed → s.scrubTurn c line = none) ∧
      (line ∉ (s.chan c).scrubbed → ∃ v, s.scrubTurn c line = some v ∧ line ∈ (v.chan c).scrubbed)) ∧
    ((s.chan c).scrubAt + s.fget (Fld.DRC_ECC.SCRUB_HOURS c) * 3600000000000 ≤ s.now →
      ∃ v, s.scrubTurn c line = some v ∧ (v.chan c).scrubbed = [line] ∧ (v.chan c).scrubAt = s.now))

/-- R252, R254, R256, R258: a refresh slot that is due closes the rank's rows and wakes it, or is postponed while the rank is in an
ALERT_n replay or leaves self-refresh; a rank without a request, and no slot within tXP, goes into power-down; the activate tables are
cleared once in 8,192 × tREFI. R253, R270 to R272: in their maintenance slots alone, an MR4 poll above 85 °C, or a failed one, makes
the channel hot, and the second cool poll in a row ends it, DQS tracking, and the eye estimate of the rank whose turn it is; the end
of a rank's retrain, with its new setting or the old one. tXP, tXS and the alert latency are PRESUMED (log entry 109). -/
def Obligations.RefreshTrackingAndRetrain : Prop :=
  (∀ (s : State) (dt ch rank : Nat), ch < 8 → s.fget (Fld.DRC_STS.STATE ch) = 2 → (s.elapse dt).slotDue ch rank = true →
    tabGet 0 rank (s.chan ch).owes = 0 → (s.chan ch).xsUntil ≤ s.now + dt →
    (s.chan ch).subs.all (fun e => e.2.replay != some rank) = true →
    ∃ t, exec (.refreshSlot dt ch rank) s = .next t ∧ rank ∉ (t.chan ch).down ∧ t.slotDue ch rank = false ∧
      tabGet 0 rank (t.chan ch).busy = s.now + dt + (s.chan ch).trfc ∧
      (∀ i, i < 2 → ((t.chan ch).sub i).rows = ((s.chan ch).sub i).rows.filter (fun e => e.1 / 32 != rank)) ∧
      (∀ i, ((t.chan ch).sub i).queue = ((s.chan ch).sub i).queue) ∧ (∀ c, c ≠ ch → t.chan c = s.chan c) ∧
      t = { s.elapse dt with regs := t.regs, chans := t.chans } ∧ RegsBut [Fld.DRC_STS.POSTPONED ch] s t) ∧
  (∀ (s : State) (dt ch rank : Nat), ch < 8 → s.fget (Fld.DRC_STS.STATE ch) = 2 → (s.elapse dt).slotDue ch rank = true →
    tabGet 0 rank (s.chan ch).owes < 2 →
    ((s.chan ch).subs.any (fun e => e.2.replay == some rank) = true ∨ s.now + dt < (s.chan ch).xsUntil) →
    ∃ t, exec (.refreshSlot dt ch rank) s = .next t ∧ t.slotDue ch rank = false ∧
      tabGet 0 rank (t.chan ch).owes = tabGet 0 rank (s.chan ch).owes + 1 ∧
      t.chan ch = { s.chan ch with owes := (t.chan ch).owes, lastRef := (t.chan ch).lastRef } ∧ (∀ c, c ≠ ch → t.chan c = s.chan c) ∧
      t = { s.elapse dt with regs := t.regs, chans := t.chans } ∧ RegsBut [Fld.DRC_STS.POSTPONED ch] s t) ∧
  (∀ (s : State) (dt ch rank : Nat), (s.elapse dt).slotDue ch rank = false →
    exec (.refreshSlot dt ch rank) s = .next (s.elapse dt)) ∧
  (∀ (s : State) (dt ch rank : Nat), s.fget (Fld.DRC_STS.STATE ch) = 2 → (s.elapse dt).slotDue ch rank = false →
    (s.elapse dt).colTime + 8 < (s.elapse dt).nextSlot ch rank →
    4000 * s.fget (Fld.DRC_SCHED.PD_TIMER ch) ≤ (s.now + dt - tabGet 0 rank (s.chan ch).lastReq) * (s.chan ch).rate →
    (s.chan ch).subs.all (fun e => e.2.queue.all (fun q => (s.cellOf q.line).rank != rank)) = true →
    ∃ t, exec (.rankPowerDown dt ch rank) s = .next t ∧ rank ∈ (t.chan ch).down ∧
      (∀ i, ((t.chan ch).sub i).rows = ((s.chan ch).sub i).rows.filter (fun e => e.1 / 32 != rank)) ∧
      (∀ c, c ≠ ch → t.chan c = s.chan c) ∧ t = { s.elapse dt with chans := t.chans }) ∧
  (∀ (s : State) (dt ch : Nat), s.now + dt < (s.chan ch).rhAt + 8192 * (s.chan ch).trefi →
    exec (.rhTableClear dt ch) s = .next (s.elapse dt)) ∧
  (∀ (s : State) (dt ch : Nat), (s.chan ch).rhAt + 8192 * (s.chan ch).trefi ≤ s.now + dt →
    ∃ t, exec (.rhTableClear dt ch) s = .next t ∧ (t.chan ch).rhAt = s.now + dt ∧
      (∀ i, (t.chan ch).sub i = { (s.chan ch).sub i with acts := [] }) ∧ (∀ c, c ≠ ch → t.chan c = s.chan c) ∧
      t = { s.elapse dt with chans := t.chans }) ∧
  (∀ (s : State) (ch rank l r v : Nat) (ok : Bool) (h d : Int),
    (s.curBeat % 16 ≠ 0 ∨ s.chanStopped ch = true → exec (.mr4Poll ch ok h) s = .next s) ∧
    (s.curBeat % 64 ≠ 8 ∨ s.chanStopped ch = true → exec (.dqsTrack ch rank d) s = .next s) ∧
    (s.curBeat % 16 = 0 ∨ s.curBeat % 64 = 8 ∨ s.chanStopped ch = true ∨ s.eyeRank ch ≠ some rank →
      exec (.eyeSample ch rank l r v) s = .next s)) ∧
  (∀ (s : State) (ch : Nat) (ok : Bool) (hot : Int), ch < 8 → s.curBeat % 16 = 0 → s.chanStopped ch = false →
    (ok = false ∨ 85 < hot) → s.on (Fld.DRC_STS.HOT ch) = false →
    ∃ t, exec (.mr4Poll ch ok hot) s = .next t ∧ t.fget (Fld.DRC_STS.HOT ch) = 1 ∧ (t.chan ch).cool = 0 ∧
      Reports (srcOf (32 + ch) 7) 0x40 s t ∧ t = { s with regs := t.regs, flt := t.flt, chans := t.chans } ∧
      RegsBut (Fld.DRC_STS.HOT ch :: FaultRegs (srcOf (32 + ch) 7)) s t) ∧
  (∀ (s : State) (ch : Nat) (hot : Int), ch < 8 → s.curBeat % 16 = 0 → s.chanStopped ch = false → hot ≤ 85 → s.fget (Fld.DRC_STS.HOT ch) = 1 → (s.chan ch).cool = 1 →
    ∃ t, exec (.mr4Poll ch true hot) s = .next t ∧ t.fget (Fld.DRC_STS.HOT ch) = 0 ∧
      t = { s with regs := t.regs, flt := t.flt, chans := t.chans } ∧
      RegsBut (Fld.DRC_STS.HOT ch :: FaultRegs (srcOf (32 + ch) 7)) s t) ∧
  (∀ (s : State) (ch rank : Nat) (d : Int), s.curBeat % 64 = 8 → s.chanStopped ch = false →
    ∃ t, exec (.dqsTrack ch rank d) s = .next t ∧
      tabGet 0 rank (t.chan ch).drift = tabGet 0 rank (s.chan ch).drift + (if 1 < d.natAbs then d else 0) ∧
      t.chan ch = { s.chan ch with drift := (t.chan ch).drift, subs := (t.chan ch).subs } ∧
      (∀ i, ((t.chan ch).sub i).queue = ((s.chan ch).sub i).queue) ∧ (∀ c, c ≠ ch → t.chan c = s.chan c) ∧
      t = { s with chans := t.chans }) ∧
  (∀ (s : State) (ch rank l r v : Nat), ch < 8 → rank < (s.chan ch).logRanks → (s.chan ch).logRanks ≤ 16 →
    s.curBeat % 16 ≠ 0 → s.curBeat % 64 ≠ 8 → s.chanStopped ch = false → s.eyeRank ch = some rank →
    tabGet 0 rank (s.chan ch).eyes = 1023 → l < 256 → r < 256 → v < 256 →
    ∃ t, exec (.eyeSample ch rank l r v) s = .next t ∧ t.fget (Fld.DRC_EYE.RD_LEFT ch rank) = l ∧
      t.fget (Fld.DRC_EYE.RD_RIGHT ch rank) = r ∧ t.fget (Fld.DRC_EYE.VREF_MARGIN ch rank) = v ∧
      t.fget (Fld.DRC_EYE.SAMPLES ch rank) = 0 ∧ tabGet 0 rank (t.chan ch).eyes = 0 ∧
      t = { s with regs := t.regs, chans := t.chans }) ∧
  (∀ (s : State) (dt ch rank : Nat) (better : Bool), ch < 8 → rank < 16 → s.fget (Fld.DRC_STS.RETRAINING ch) < 2 ^ 16 →
    (s.fget (Fld.DRC_STS.RETRAINING ch)).testBit rank = true →
    ∃ t, exec (.rankRetrainDone dt ch rank better) s = .next t ∧
      (t.fget (Fld.DRC_STS.RETRAINING ch)).testBit rank = false ∧
      t.fget (Fld.DRC_MAINT_CNT.RETRAINS ch) =
        min (s.fget (Fld.DRC_MAINT_CNT.RETRAINS ch) + 1) (Fld.DRC_MAINT_CNT.RETRAINS ch).max ∧
      (better = false → Reports (srcOf (32 + ch) 7) 0x43 s t ∧ t.chans = s.chans) ∧
      (better = true → t.flt = s.flt ∧ tabGet 0 rank (t.chan ch).trained = (s.chan ch).trainings + 1 ∧
        (∀ r, r ≠ rank → tabGet 0 r (t.chan ch).trained = tabGet 0 r (s.chan ch).trained)) ∧
      t = { s.elapse dt with regs := t.regs, flt := t.flt, chans := t.chans } ∧
      RegsBut ([Fld.DRC_STS.RETRAINING ch, Fld.DRC_MAINT_CNT.RETRAINS ch, Fld.DRC_MAINT_CNT.RT_SAT ch] ++
        FaultRegs (srcOf (32 + ch) 7)) s t) ∧
  (∀ (s : State) (dt ch rank : Nat) (better : Bool), (s.fget (Fld.DRC_STS.RETRAINING ch)).testBit rank = false →
    exec (.rankRetrainDone dt ch rank better) s = .next (s.elapse dt))

/-- R266, R267: ALERT_n has the commands within the alert latency before it (PRESUMED, log entry 109) issued again; the third failed
attempt in a row freezes the channel, which keeps what it was doing, isolates its unit and counts FREEZES; a read held for 2 ms by a
frozen channel is answered with poison, and the rill's pages whose reads it has held that long go back. -/
def Obligations.AlertReplaysThenFreezes : Prop :=
  (∀ (s : State) (dt ch i rank cause : Nat), ch < 8 → i < 2 → rank < 16 → s.fget (Fld.DRC_STS.STATE ch) = 2 →
    (((s.chan ch).sub i).replay = none ∨ ((s.chan ch).sub i).tries < 2) →
    ∃ t, exec (.alertFall dt ch i rank cause) s = .next t ∧ ((t.chan ch).sub i).replay = some rank ∧
      ((t.chan ch).sub i).tries = (if ((s.chan ch).sub i).replay.isSome then ((s.chan ch).sub i).tries + 1 else 0) ∧
      ((t.chan ch).sub i).again = ((t.chan ch).sub i).redo ∧
      (((s.chan ch).sub i).replay = none → ((t.chan ch).sub i).redo =
        ((s.chan ch).sub i).hist.filter (fun e => decide (s.now + dt ≤ e.getD 6 0 + Config.alertNs ch))) ∧
      (((s.chan ch).sub i).replay.isSome = true → ((t.chan ch).sub i).redo = ((s.chan ch).sub i).redo) ∧
      ((t.chan ch).sub i).rows = ((s.chan ch).sub i).rows.filter (fun e => e.1 / 32 != rank) ∧
      t.fget (Fld.DRC_ALERT_CNT.REPLAYS ch) =
        min (s.fget (Fld.DRC_ALERT_CNT.REPLAYS ch) + 1) (Fld.DRC_ALERT_CNT.REPLAYS ch).max ∧
      (∀ j, j ≠ i → (t.chan ch).sub j = (s.chan ch).sub j) ∧ (∀ c, c ≠ ch → t.chan c = s.chan c) ∧
      t = { s.elapse dt with regs := t.regs, chans := t.chans } ∧
      RegsBut [Fld.DRC_ALERT_CNT.REPLAYS ch, Fld.DRC_ALERT_CNT.RP_SAT ch] s t) ∧
  (∀ (s : State) (dt ch i rank cause : Nat), ch < 8 → i < 2 → rank < 16 → s.fget (Fld.DRC_STS.STATE ch) = 2 →
    s.dev ≠ .spilling → ((s.chan ch).sub i).replay.isSome = true → ((s.chan ch).sub i).tries = 2 →
    ∃ t, exec (.alertFall dt ch i rank cause) s = .next t ∧ t.fget (Fld.DRC_STS.STATE ch) = 3 ∧ t.unitSt (32 + ch) = 2 ∧
      (t.chan ch).frozenAt = some (s.now + dt) ∧ t.fget (Fld.DRC_FRZ_INFO.RANK ch) = rank ∧
      t.fget (Fld.DRC_FRZ_INFO.SUB ch) = i ∧ t.fget (Fld.DRC_FRZ_INFO.CAUSE ch) = cause % 4 ∧
      t.fget (Fld.DRC_ALERT_CNT.FREEZES ch) =
        min (s.fget (Fld.DRC_ALERT_CNT.FREEZES ch) + 1) (Fld.DRC_ALERT_CNT.FREEZES ch).max ∧
      Reports (srcOf (32 + ch) 2) 0x09 s t ∧ (∀ c, c ≠ ch → t.chan c = s.chan c) ∧
      t = { s.elapse dt with regs := t.regs, chans := t.chans, flt := t.flt, freeCtr := t.freeCtr }) ∧
  (∀ (s : State) (dt ch t0 : Nat), (s.chan ch).frozenAt = some t0 → t0 + 2000000 ≤ s.now + dt →
    (∀ i x q, (i, x) ∈ (s.chan ch).subs → q ∈ x.queue → s.now + dt < max q.since t0 + 2000000 ∨ ∀ rid, q.kind ≠ .read rid) →
    ∃ u : State, exec (.freezeHoldExpiry dt ch) s = .next (u.rillFails ch t0).settle ∧ (∀ c, u.chan c = s.chan c) ∧
      u = { s.elapse dt with chans := u.chans }) ∧
  (∀ (s : State) (dt ch t0 rid i : Nat) (x : Sub) (q : DReq) (r : Req), (s.chan ch).frozenAt = some t0 →
    t0 + 2000000 ≤ s.now + dt → q.since ≤ t0 → (s.chan ch).subs = [(i, x)] → x.queue = [q] → q.kind = .read rid →
    s.fab.reqs.find? (fun r => r.rid == rid) = some r →
    ∃ t u v : State, exec (.freezeHoldExpiry dt ch) s = .next t ∧ t = (u.rillFails ch t0).settle ∧ u = v.wakePage (r.dpa / 4096) ∧
      v.out = (s.elapse dt).out ++ [.drs r.port r.tag none (s.devLoadOf r.port r.ld)] ∧
      v.fab.reqs = s.fab.reqs.filter (fun y => y.rid != r.rid) ∧ (v.chan ch).subs = [(i, { x with queue := [] })] ∧
      v = { s.elapse dt with out := v.out, chans := v.chans, fab := { s.fab with reqs := v.fab.reqs } }) ∧
  (∀ (s : State) (ch t0 p i : Nat) (x : Sub) (q : DReq), (i, x) ∈ (s.chan ch).subs → q ∈ x.queue → q.kind = .page p false →
    q.port = 2 → max q.since t0 + 2000000 ≤ s.now →
    (∀ j ∈ (s.rillFails ch t0).rill.sel, j.form.page ≠ p) ∧ p ∉ (s.rillFails ch t0).rill.ready)

/-! ## The sluice and the fabric (chapters 7 and 11) -/

/-- R12, R247, R285: a write that nothing holds and whose line has a place in the write-merge buffer is accepted and completed
in its own step: its enabled bytes stand in DRAM, no other byte changes, and its page is DIRTY. -/
def Obligations.WriteIsAcceptedAndCompleted : Prop :=
  ∀ (s : State) (dt port ldId hpa n a tag : Nat) (data : Line) (mask : ByteMask), PassesAtOnce s port ldId hpa n a →
    ((s.page (a / 4096)).st = .dirty ∨ (s.page (a / 4096)).st = .clean ∧ s.mustHold n 1 (some (a / 4096)) = false ∧
      s.heldAhead n (a / 4096) (s.now + dt + 1) s.fab.nextRid = false) →
    s.owedPage (a / 4096) = false → (s.inWmb (a / 64) = true ∨ mask = BitVec.allOnes 64 ∧ s.wmbRoom (a / 64) = true) →
    ∃ t u : State, ∃ load : Nat, exec (.memWrite dt port ldId hpa data mask false tag) s = .next t ∧
      t = u.countCaps.showTrk.showWeir ∧ t.out = (s.elapse dt).out ++ [.ndr port tag load] ∧
      (t.page (a / 4096)).st = .dirty ∧
      (∀ i, i < 64 → t.byte (a / 64 * 64 + i) = if mask.getLsbD i then lineByte data i else s.byte (a / 64 * 64 + i)) ∧
      (∀ b, b / 64 ≠ a / 64 → t.byte b = s.byte b) ∧
      u.fab = { s.fab with
        nextRid := s.fab.nextRid + 1
        granted := s.fab.granted.filter (· ≠ s.fab.nextRid)
        found := if mask = BitVec.allOnes 64 then setDel (a / 64) s.fab.found else s.fab.found } ∧
      u.inWmb (a / 64) = true ∧
      u = { s.elapse dt with
        out := u.out, fab := u.fab, lds := u.lds, chans := u.chans, dram := u.dram, poison := u.poison, pages := u.pages }

/-- R248, R284, R285, R287, R290, R291: a read of a line held in the write-merge buffer is answered with its data, any other
waits at its channel; an out-of-range read is answered with poison, logged and reported; MemInv completes; a speculative read is
dropped; an unsupported request is counted and reported; an entry that frees lets the oldest waiting request take it; a request that waits at its LD's cap is counted once. -/
def Obligations.ReadsAndOtherRequests : Prop :=
  (∀ (s : State) (dt port ldId hpa n a tag : Nat), PassesAtOnce s port ldId hpa n a →
    ((s.page (a / 4096)).st = .dirty ∨ (s.page (a / 4096)).st = .clean) → s.inWmb (a / 64) = true →
    ∃ t u : State, ∃ load : Nat, exec (.memRead dt port ldId hpa tag) s = .next t ∧ t = u.countCaps.showTrk ∧
      t.out = (s.elapse dt).out ++ [.drs port tag (if s.linePoison (a / 64) then none else some (s.readLine (a / 64 * 64))) load] ∧
      u.fab = { s.fab with nextRid := s.fab.nextRid + 1, granted := s.fab.granted.filter (· ≠ s.fab.nextRid) } ∧
      u = { s.elapse dt with out := u.out, fab := u.fab, lds := u.lds }) ∧
  (∀ (s : State) (dt port ldId hpa n a tag : Nat), PassesAtOnce s port ldId hpa n a →
    ((s.page (a / 4096)).st = .dirty ∨ (s.page (a / 4096)).st = .clean) → s.inWmb (a / 64) = false →
    ∃ t u : State, ∃ r : Req, exec (.memRead dt port ldId hpa tag) s = .next t ∧ t = u.countCaps.showTrk ∧ t.out = (s.elapse dt).out ∧
      u.fab.reqs = s.fab.reqs ++ [r] ∧ r.at_ = .dram ∧ r.dpa = a ∧ r.tag = tag ∧ r.port = port ∧
      (∃ q ∈ ((t.chan (s.lineChan (a / 64))).sub (s.cellOf (a / 64)).sub).queue,
        q.kind = .read r.rid ∧ q.line = a / 64 ∧ q.since = s.now + dt ∧ q.port = port ∧
        q.ap = s.on (Fld.SLU_LD_PCFG.HINT n)) ∧
      u = { s.elapse dt with chans := u.chans, fab := u.fab, lds := u.lds }) ∧
  (∀ (s : State) (dt port ldId hpa tag : Nat), port < 2 → s.on (Fld.FAB_PORT_STS.LINK_UP port) = true → s.isOpen = true →
    s.ldAt port ldId = none → s.trkFree port = true → (∀ q ∈ s.fab.reqs, q.rid < s.fab.nextRid ∧ q.at_ ≠ .ingress) →
    ∃ t, ∃ load : Nat, exec (.memRead dt port ldId hpa tag) s = .next t ∧ t.out = (s.elapse dt).out ++ [.drs port tag none load] ∧
      t.fget Fld.SLU_OOR_LAST.NO_LD = 1 ∧ t.fget Fld.SLU_OOR_LAST.WRITE = 0 ∧ t.fget Fld.SLU_OOR_LAST.PORT = port ∧
      Reports (srcOf (11 + port) 3) 0x10 s t ∧
      t.fab = { s.fab with nextRid := s.fab.nextRid + 1, granted := s.fab.granted.filter (· ≠ s.fab.nextRid) } ∧
      t = { s.elapse dt with regs := t.regs, out := t.out, fab := t.fab, flt := t.flt }) ∧
  (∀ (s : State) (dt port ldId hpa tag : Nat), s.on (Fld.FAB_PORT_STS.LINK_UP port) = true → s.sluiceOpen = true →
    ∃ load, exec (.memInv dt port ldId hpa tag) s = .next ((s.elapse dt).emit (.ndr port tag load))) ∧
  (∀ (s : State) (dt port ldId hpa tag : Nat), exec (.memSpecRd dt port ldId hpa tag) s = .next (s.elapse dt)) ∧
  (∀ (s : State) (dt port channel opcode : Nat), port < 2 →
    ∃ t, exec (.unsupportedRequest dt port channel opcode) s = .next t ∧
      t.fget (Fld.FAB_ERR_B.UNSUP port) = min (s.fget (Fld.FAB_ERR_B.UNSUP port) + 1) (Fld.FAB_ERR_B.UNSUP port).max ∧
      Reports (srcOf (11 + port) 3) 0x11 s t ∧ t = { s.elapse dt with regs := t.regs, flt := t.flt } ∧
      RegsBut ([Fld.FAB_ERR_B.UNSUP port, Fld.FAB_ERR_B.UN_SAT port] ++ FaultRegs (srcOf (11 + port) 3)) s t) ∧
  (∀ (s : State) (dt port : Nat) (r : Req), s.trkFree port = true → s.sluiceOpen = true →
    s.fab.reqs.find? (fun r => r.port == port && r.at_ == .ingress && (r.ld == noLd || s.capFree r.ld)) = some r →
    exec (.trackerEntryFree dt port) s = .next (((s.elapse dt).step2 r).countCaps).showTrk.showWeir) ∧
  (∀ (s : State) (r : Req), r ∈ s.fab.reqs → r.at_ = .ingress → r.ld < 32 → s.capFree r.ld = false →
    (∃ q ∈ s.countCaps.fab.reqs, q = { r with capped := true }) ∧
    (s.fab.reqs = [r] → s.countCaps.fget (Fld.SLU_LD_CNTB.CAP_WAITS r.ld) = if r.capped then s.fget (Fld.SLU_LD_CNTB.CAP_WAITS r.ld)
      else min (s.fget (Fld.SLU_LD_CNTB.CAP_WAITS r.ld) + 1) (Fld.SLU_LD_CNTB.CAP_WAITS r.ld).max))

/-- R125, R127, R134, R247: a partial write is accepted once its line is read; a write held at the ladder completes over the cap
when the pool has room and otherwise stays held and counts once; one that waits for a slot stays held and counts once; a fork
copy that ends makes its page FORKED, unless a stopped channel holds its lines (R267). What then waits goes on. R34, R40: Global Persistent Flush phase 1 is acknowledged at
once, phase 2 drains every write-merge buffer and then responds; and WAIT_US after a quiesce the writes of its LD held at steps
4 to 6 are discarded. -/
def Obligations.HeldWritesFlushAndQuiesceGoOn : Prop :=
  (∀ (s : State) (dt rid : Nat) (r : Req) (rd : LineRead),
    s.fab.reqs.find? (fun r => r.rid == rid && r.at_ == .merge) = some r → s.decodeRead (r.dpa / 64) rd = .clean →
    r.port < 2 → r.poison = false → (s.page (r.dpa / 4096)).st ∉ [.poisoned, .unfilled, .drawing] → s.held r = false →
    s.owedPage (r.dpa / 4096) = false →
    ∃ t u : State, ∃ load : Nat, exec (.wmbPartialFill dt rid rd) s = .next t ∧
      t = ((u.wakePage (r.dpa / 4096)).settle).showWeir ∧ u.out = (s.elapse dt).out ++ [.ndr r.port r.tag load] ∧
      u.inWmb (r.dpa / 64) = true ∧ u.fab.reqs = s.fab.reqs.filter (fun x => x.rid != r.rid) ∧
      (∀ i, i < 64 → u.byte (r.dpa / 64 * 64 + i) =
        if r.mask.getLsbD i then lineByte r.data i else s.byte (r.dpa / 64 * 64 + i)) ∧
      (∀ b, b / 64 ≠ r.dpa / 64 → u.byte b = s.byte b)) ∧
  (∀ (s : State) (dt rid t0 : Nat) (r : Req), s.fab.reqs.find? (fun r => r.rid == rid) = some r → r.at_ = .weir t0 →
    r.ld < 32 → t0 ≠ 0 → t0 + 1000 * s.fget Fld.WEIR_CFG.WAIT_US ≤ s.now + dt + 1 → 1 ≤ s.poolFree → s.deficit = false →
    ∃ t u : State, exec (.weirWaitExpiry dt rid) s = .next t ∧
      t = (((u.step6 r).wakePage (r.dpa / 4096)).settle).showWeir ∧
      (r.kind = .write → (s.page (r.dpa / 4096)).st ∉ [.unfilled, .drawing] → u.step6 r = u.needFork r) ∧
      u.fget (Fld.WEIR_LD_CNTB.OVER_CAP r.ld) =
        min (s.fget (Fld.WEIR_LD_CNTB.OVER_CAP r.ld) + 1) (Fld.WEIR_LD_CNTB.OVER_CAP r.ld).max ∧
      u = { s.elapse dt with regs := u.regs, fab := { s.fab with granted := setIns rid s.fab.granted } } ∧
      RegsBut [Fld.WEIR_LD_CNTB.OVER_CAP r.ld, Fld.WEIR_LD_CNTB.OC_SAT r.ld] s u) ∧
  (∀ (s : State) (dt rid t0 : Nat) (r : Req), s.fab.reqs.find? (fun r => r.rid == rid) = some r → r.at_ = .weir t0 →
    r.ld < 32 → t0 ≠ 0 → t0 + 1000 * s.fget Fld.WEIR_CFG.WAIT_US ≤ s.now + dt + 1 → (s.poolFree = 0 ∨ s.deficit = true) →
    ∃ t, exec (.weirWaitExpiry dt rid) s = .next t ∧
      t.fget (Fld.WEIR_LD_CNTB.TIMEOUTS r.ld) =
        min (s.fget (Fld.WEIR_LD_CNTB.TIMEOUTS r.ld) + 1) (Fld.WEIR_LD_CNTB.TIMEOUTS r.ld).max ∧
      t.fab = { s.fab with reqs := s.fab.reqs.map (fun q => if q.rid == rid then { q with at_ := .weir 0 } else q) } ∧
      t = { s.elapse dt with regs := t.regs, fab := t.fab } ∧
      RegsBut [Fld.WEIR_LD_CNTB.TIMEOUTS r.ld, Fld.WEIR_LD_CNTB.TO_SAT r.ld] s t) ∧
  (∀ (s : State) (dt rid t0 : Nat) (r : Req), s.fab.reqs.find? (fun r => r.rid == rid) = some r → r.at_ = .slot t0 →
    t0 ≠ 0 → t0 + 1000 * s.fget Fld.WEIR_CFG.WAIT_US ≤ s.now + dt + 1 →
    ∃ t, exec (.forkSlotWaitExpiry dt rid) s = .next t ∧
      t.fget Fld.EDDY_STALL.TIMEOUTS = min (s.fget Fld.EDDY_STALL.TIMEOUTS + 1) Fld.EDDY_STALL.TIMEOUTS.max ∧
      t.fab = { s.fab with reqs := s.fab.reqs.map (fun q => if q.rid == rid then { q with at_ := .slot 0 } else q) } ∧
      t = { s.elapse dt with regs := t.regs, fab := t.fab } ∧
      RegsBut [Fld.EDDY_STALL.TIMEOUTS, Fld.EDDY_STALL.TO_SAT] s t) ∧
  (∀ (s : State) (dt p i : Nat) (e : Eddy), s.forkSlot p = some i → tabGet Eddy.none i s.eddy = e → e.page = p →
    s.forkCuts p i ≠ [] → (s.page p).st ≠ .poisoned → s.linesStopped (p * 64) = false →
    s.linesStopped (s.slotLine i) = false →
    s.fab.reqs.find? (fun r => r.dpa / 4096 == p && r.at_ == .fork) = none →
    ∃ t u : State, exec (.forkCopyDone dt p) s = .next t ∧ t = ((u.wakePage p).settle).showWeir ∧
      (u.page p).st = .forked ∧ tabGet Eddy.none i u.eddy = { e with filled := true, cuts := s.forkCuts p i } ∧ u.dram = s.dram ∧
      u = { s.elapse dt with
        regs := u.regs, chans := u.chans, pages := u.pages, lds := u.lds, eddy := u.eddy, rill := u.rill, log := u.log } ∧
      RegsBut ((List.range 8).flatMap (fun c => [Fld.DRC_MAINT_CNT.NEIGHBOUR c, Fld.DRC_MAINT_CNT.NB_SAT c])) s u) ∧
  (∀ (s : State) (dt p i : Nat), s.forkSlot p = some i →
    (s.linesStopped (p * 64) = true ∨ s.linesStopped (s.slotLine i) = true) →
    exec (.forkCopyDone dt p) s = .next (s.elapse dt)) ∧
  (∀ (s : State) (dt p : Nat), s.on (Fld.FAB_PORT_STS.LINK_UP p) = true →
    exec (.gpfPhase1 dt p) s = .next ((s.elapse dt).emit (.gpf p 1 0)) ∧
    exec (.gpfPhase2 dt p) s = .next { s.elapse dt with fab := { s.fab with gpf := setIns p s.fab.gpf } }) ∧
  (∀ (s : State) (dt p : Nat), p ∈ s.fab.gpf →
    ∃ t u : State, exec (.gpfDrainDone dt p) s = .next t ∧ t = u.wakeWmb.settle.showWeir ∧
      u.out = (s.elapse dt).out ++ [.gpf p 2 20] ∧ u.fab = { s.fab with gpf := setDel p s.fab.gpf } ∧ (∀ c, (u.chan c).wmb = []) ∧
      u = { s.elapse dt with chans := u.chans, fab := u.fab, out := u.out }) ∧
  (∀ (s : State) (dt n t0 : Nat), (s.ld n).quiesce = some t0 → t0 + 1000 * s.fget Fld.WEIR_CFG.WAIT_US ≤ s.now + dt →
    (s.fab.reqs.map (·.rid)).Nodup →
    ∃ t u : State, exec (.quiesceWaitExpiry dt n) s = .next t ∧ t = u.settle.showWeir ∧
      (∀ r ∈ u.fab.reqs, r.ld = n → r.heldWrite = false))

/-- R181 to R188, R218, R220: a read that decodes is restored and one that fails goes to parity; the ends of draws, refill
reads, zero fills and rebuilds leave the page CLEAN with its stored content, or with zeros; a page whose rebuild fails is
POISONED; the minimum run of an operation lets it be suspended with SUSPENDS counted, and the draw that came to its die first
is read; a stopped channel holds what would write its lines (R267). -/
def Obligations.DrawsRestorePages : Prop :=
  (∀ (s : State) (dt p : Nat) (d : Draw), s.drawOf p = some d → d.step = .reading → 0 < s.fget Fld.LOG_CFG.RR_RELOC →
    ∃ t u : State, exec (.flashReadDone dt p (.decoded 0)) s = .next t ∧
      u = ({ s.elapse dt with log := { s.log with scrubOn := s.log.scrubOn.filter (· ≠ d.from_) } } : State).scrubMore ∧
      t = d.dies.foldl (fun s ds => s.dieFree ds) (u.modDraw p (fun d => { d with step := .restoring }))) ∧
  (∀ (s : State) (dt p l : Nat) (d : Draw), s.drawOf p = some d → d.step = .reading →
    ∃ t, exec (.flashReadDone dt p (.decoded l)) s = .next t ∧
      t.drawOf p = some { d with step := .restoring } ∧ t.dram = s.dram ∧ t.pages = s.pages ∧
      (s.fget Fld.LOG_CFG.RR_RELOC ≤ l → d.from_ ∈ t.log.reloc) ∧
      (0 < l → Reports (srcOf (40 + keyDs d.from_ / 32) 5) 0x31 s t)) ∧
  (∀ (s : State) (dt p : Nat) (d : Draw), s.drawOf p = some d → d.step = .reading →
    ∃ t, exec (.flashReadDone dt p .failed) s = .next t ∧ t.drawOf p = some { d with step := .rebuild } ∧
      d.from_ ∈ t.log.reloc ∧ Reports (srcOf (40 + keyDs d.from_ / 32) 6) 0x3A s t ∧
      t = { s.elapse dt with regs := t.regs, flt := t.flt, rfl_ := t.rfl_, log := t.log, out := t.out } ∧
      RegsBut (FaultRegs (srcOf (40 + keyDs d.from_ / 32) 6)) s t) ∧
  (∀ (s : State) (dt p : Nat) (d : Draw), s.drawOf p = some d → d.step = .zero → (s.page p).len = 0 → s.linesStopped (p * 64) = false →
    ∃ t u : State, exec (.zeroFillDone dt p) s = .next t ∧ t = ((u.wakePage p).settle).showWeir ∧ (u.page p).st = .clean ∧
      (∀ a, a / 4096 = p → u.byte a = 0) ∧ (∀ a, a / 4096 ≠ p → u.byte a = s.byte a) ∧ u.drawOf p = none) ∧
  (∀ (s : State) (dt p : Nat) (d : Draw), s.drawOf p = some d → d.step = .restoring → d.refill = false → s.linesStopped (p * 64) = false →
    s.formValid p (s.page p) = true → (s.page p).len ≠ 0 → tabSorted (s.plain (s.formAt (s.page p).loc)).bytes = true →
    (∀ e ∈ (s.plain (s.formAt (s.page p).loc)).bytes, e.1 < 4096) →
    ∃ t u : State, exec (.drawDone dt p true) s = .next t ∧ t = ((u.wakePage p).settle).showWeir ∧ (u.page p).st = .clean ∧
      (∀ i, i < 4096 → u.byte (p * 4096 + i) = tabGet 0 i (s.plain (s.formAt (s.page p).loc)).bytes) ∧
      (∀ a, a / 4096 ≠ p → u.byte a = s.byte a) ∧ u.drawOf p = none ∧ u.flash = s.flash) ∧
  (∀ (s : State) (dt p : Nat) (d : Draw), s.drawOf p = some d → d.step = .restoring → d.refill = true → s.linesStopped (p * 64) = false →
    s.formValid p (s.page p) = true → (s.page p).len ≠ 0 → tabSorted (s.plain (s.formAt (s.page p).loc)).bytes = true →
    (∀ e ∈ (s.plain (s.formAt (s.page p).loc)).bytes, e.1 < 4096) →
    ∃ t u : State, exec (.refillReadDone dt [p] true) s = .next t ∧ t = ((u.wakePage p).settle).showWeir ∧
      (u.page p).st = .clean ∧
      (∀ i, i < 4096 → u.byte (p * 4096 + i) = tabGet 0 i (s.plain (s.formAt (s.page p).loc)).bytes) ∧
      (∀ a, a / 4096 ≠ p → u.byte a = s.byte a) ∧ u.drawOf p = none ∧ u.flash = s.flash) ∧
  (∀ (s : State) (dt p : Nat) (d : Draw), s.drawOf p = some d → d.step = .rebuild → s.formValid p (s.page p) = true → s.linesStopped (p * 64) = false →
    ∃ t u : State, exec (.parityRebuildDone dt p true) s = .next t ∧ t = ((u.wakePage p).settle).showWeir ∧
      (u.page p).st = .clean ∧ (s.page p).loc ∈ u.log.reloc ∧
      u.fget Fld.RFL_ERR.REBUILDS = min (s.fget Fld.RFL_ERR.REBUILDS + 1) Fld.RFL_ERR.REBUILDS.max) ∧
  (∀ (s : State) (dt p : Nat) (d : Draw), s.drawOf p = some d → d.step = .rebuild → s.linesStopped (p * 64) = false →
    ∃ t u : State, exec (.parityRebuildDone dt p false) s = .next t ∧ t = ((u.wakePage p).settle).showWeir ∧
      (u.page p).st = .poisoned ∧ p ∈ u.fab.poison ∧ u.drawOf p = none) ∧
  (∀ (s : State) (dt ds : Nat) (e : DieOp), s.log.dieOps.find? (fun x => x.1 == ds) = some (ds, e) → e.suspended = false →
    e.waiting ≠ [] → e.since + 1000 * s.fget Fld.LOG_CFG.MIN_RUN_US ≤ s.now + dt →
    ∃ t u : State, exec (.minRunReached dt ds) s = .next t ∧ t = u.nextRead ds ∧
      u.log = { s.log with dieOps := s.log.dieOps.map (fun x =>
        if x.1 == ds then (x.1, { x.2 with suspended := true, waiting := [] }) else x) } ∧
      u.fget Fld.LOG_SUSP_CNT.SUSPENDS = min (s.fget Fld.LOG_SUSP_CNT.SUSPENDS + 1) Fld.LOG_SUSP_CNT.SUSPENDS.max ∧
      u = { s.elapse dt with regs := u.regs, log := u.log }) ∧
  (∀ (s : State) (dt ds : Nat) (e : DieOp), s.log.dieOps = [(ds, e)] → e.suspended = false → e.waiting ≠ [] →
    e.since + 1000 * s.fget Fld.LOG_CFG.MIN_RUN_US ≤ s.now + dt → s.holdsDie ds = false →
    ∃ t, exec (.minRunReached dt ds) s = .next t ∧ t.log = { s.log with dieOps := [(ds, { e with suspended := true, waiting := [] })] } ∧
      t.fget Fld.LOG_SUSP_CNT.SUSPENDS = min (s.fget Fld.LOG_SUSP_CNT.SUSPENDS + 1) Fld.LOG_SUSP_CNT.SUSPENDS.max ∧
      (∀ d, s.rfl_.draws.all (fun x => !x.atDie ds || x.step != .reading) = true →
        (s.rfl_.draws.filter (fun x => x.atDie ds)).find? (fun x => x.step == .queued && !x.refill) = some d → d.also = none →
        s.drawOf d.page = some d →
        t.drawOf d.page = some { d with step := .reading }) ∧
      t = { s.elapse dt with regs := t.regs, log := t.log, rfl_ := t.rfl_ } ∧
      RegsBut [Fld.LOG_SUSP_CNT.SUSPENDS, Fld.LOG_SUSP_CNT.SU_SAT] s t) ∧
  (∀ (s : State) (dt p : Nat) (ok : Bool) (d : Draw), s.drawOf p = some d → s.linesStopped (p * 64) = true →
    exec (.drawDone dt p ok) s = .next (s.elapse dt) ∧ exec (.zeroFillDone dt p) s = .next (s.elapse dt) ∧
    exec (.parityRebuildDone dt p ok) s = .next (s.elapse dt))

/-- R275, R283, R292, R325: a training that ends exposes the port's LDs at its width and rate; a link that goes down is counted,
reported and resets what is bound to it; a hot reset does the same and counts nothing; an LD reset drops its requests, uncommits
its decoders and returns its ring configuration to the Reset column; a decoder commits in order, or not at all. -/
def Obligations.LinksResetsAndDecoders : Prop :=
  (∀ (s : State) (dt p w rate r : Nat) (f256 f68 rev fl : Bool), p < 2 → s.dev ≠ .off → 8 ≤ w → rate < 4 → r < 4 →
    s.seqSt ≠ 3 → s.seqSt ≠ 4 → s.unitSt (9 + p) = 0 → s.unitSt (11 + p) = 0 → s.trains p rate f256 f68 = some (r, fl) →
    ∃ t, exec (.fabLinkUp dt p w rate f256 f68 rev) s = .next t ∧ t.on (Fld.FAB_PORT_STS.LINK_UP p) = true ∧
      t.fget (Fld.FAB_PORT_STS.RATE p) = r ∧ t.on (Fld.FAB_PORT_STS.FLIT256 p) = fl ∧
      t.fget (Fld.FAB_PORT_STS.WIDTH p) = (if s.on (Fld.FAB_PORT_CFG.X8 p) = false ∧ 16 ≤ w then 16 else 8) ∧
      t.on (Fld.FAB_PORT_STS.LANE_REV p) = rev ∧ (∀ n ∈ s.ldsOn p, (t.ld n).reach = true) ∧
      t = { s.elapse dt with regs := t.regs, lds := t.lds } ∧
      RegsBut [Fld.FAB_PORT_STS.LINK_UP p, Fld.FAB_PORT_STS.RATE p, Fld.FAB_PORT_STS.FLIT256 p, Fld.FAB_PORT_STS.WIDTH p,
        Fld.FAB_PORT_STS.LANE_REV p, Fld.FAB_PORT_STS.LDS_BOUND 0, Fld.FAB_PORT_STS.LDS_BOUND 1] s t) ∧
  (∀ (s : State) (dt p : Nat), p < 2 → s.on (Fld.FAB_PORT_STS.LINK_UP p) = true →
    ∃ t u v : State, exec (.fabLinkDown dt p) s = .next t ∧ t = v.settle.showWeir ∧ v = (u.reachAll p false).portLoses p ∧
      u.fget (Fld.FAB_PORT_STS.LINK_UP p) = 0 ∧
      u.fget (Fld.FAB_ERR_B.LINK_DOWN p) = min (s.fget (Fld.FAB_ERR_B.LINK_DOWN p) + 1) (Fld.FAB_ERR_B.LINK_DOWN p).max ∧
      Reports (srcOf (9 + p) 4) 0x21 s u ∧ (∀ r ∈ v.fab.reqs, r.port ≠ p) ∧ p ∉ v.fab.gpf ∧
      (∀ n ∈ s.ldsOn p, (v.ld n).decs = [] ∧ (v.ld n).reach = false) ∧
      u = { s.elapse dt with regs := u.regs, flt := u.flt, fab := u.fab }) ∧
  (∀ (s : State) (dt p : Nat), p < 2 →
    ∃ t u : State, exec (.fabHotReset dt p) s = .next t ∧ t = u.settle.showWeir ∧ (∀ r ∈ u.fab.reqs, r.port ≠ p) ∧
      p ∉ u.fab.gpf ∧ (∀ n ∈ s.ldsOn p, (u.ld n).decs = [])) ∧
  (∀ (s : State) (dt n : Nat), n < 32 → s.bound n = true → s.dev ≠ .off →
    ∃ t u : State, exec (.cxlResetLd dt n) s = .next t ∧ t = u.settle.showWeir ∧ (∀ r ∈ u.fab.reqs, r.ld ≠ n) ∧
      (u.ld n).decs = [] ∧ (u.mb n).policy = 0 ∧
      (∀ k, k < 256 → u.fget (Fld.RNG_SQ_BASE.ADDR n k) = 0 ∧ u.fget (Fld.RNG_CFG.DEPTH_LOG2 n k) = 4)) ∧
  (∀ (s : State) (dt n : Nat), (s.ld n).resetting = true → s.inFlight n = 0 →
    ∃ t, exec (.ldResetEffect dt n) s = .next t ∧ t.ld n = { s.ld n with resetting := false } ∧
      (∀ m, m ≠ n → t.ld m = s.ld m) ∧ t = { s.elapse dt with lds := t.lds }) ∧
  (∀ (s : State) (dt n i base size ways gran way skip : Nat) (lock : Bool), n < 32 → s.bound n = true → s.dev ≠ .off →
    s.dev ≠ .basin → (s.ld n).decs.all (fun e => e.1 != i) = true →
    s.hdmOk n i ⟨base, size, ways, gran, way, skip, lock⟩ = true →
    ∃ t, exec (.hdmCommit dt n i base size ways gran way skip lock) s = .next t ∧ t.out = (s.elapse dt).out ++ [.hdm n i true] ∧
      t.ld n = { s.ld n with decs := (s.ld n).decs ++ [(i, ⟨base, size, ways, gran, way, skip, lock⟩)] } ∧
      (∀ m, m ≠ n → t.ld m = s.ld m) ∧ t = { s.elapse dt with lds := t.lds, out := t.out }) ∧
  (∀ (s : State) (dt n i base size ways gran way skip : Nat) (lock : Bool), n < 32 → s.bound n = true → s.dev ≠ .off →
    (s.ld n).decs.all (fun e => e.1 != i) = true → s.hdmOk n i ⟨base, size, ways, gran, way, skip, lock⟩ = false →
    exec (.hdmCommit dt n i base size ways gran way skip lock) s = .next ((s.elapse dt).emit (.hdm n i false)))

/-! ## Command rings (chapter 12) -/

/-- R303, R304, R308: a doorbell of a running ring moves its tail or its CQ head; what a fetch returns joins the fetched
descriptors in ring order; a fetch error halts the ring with reason FETCH_ERROR and is reported. R306, R307, R309: acceptance
takes the oldest fetched descriptor, writes HEAD past it and raises TAG_HIGH to its TAG when that is greater; without room it
waits, and after 100 µs a NO_RESOURCE notice is written, once. -/
def Obligations.DescriptorsAreFetchedAndAccepted : Prop :=
  (∀ (s : State) (dt ld n : Nat) (v : BitVec 32), ld < 32 → n < 256 → s.ringSt ld n = 1 → s.engineRuns = true →
    v.toNat < s.depthOf ld n → v.toNat < 2 ^ 16 →
    ∃ t u : State, exec (.sqTailDoorbell dt ld n 0 32 v) s = .next t ∧ t = u.fetchMore ld n ∧
      u.ring ld n = { s.ring ld n with sqDb := v.toNat } ∧ u.fget (Fld.RNG_STS.TAIL ld n) = v.toNat ∧
      u = { s.elapse dt with regs := u.regs, rings := u.rings } ∧ RegsBut [Fld.RNG_STS.TAIL ld n] s u) ∧
  (∀ (s : State) (dt ld n offset width : Nat) (v : BitVec 32), ld < 32 →
    (width ≠ 32 ∨ offset ≠ 0 ∨ s.ringSt ld n ≠ 1) →
    ∃ t, exec (.sqTailDoorbell dt ld n offset width v) s = .next t ∧
      t.fget (Fld.RNG_LD_CNT.DB_DROP ld) = min (s.fget (Fld.RNG_LD_CNT.DB_DROP ld) + 1) (Fld.RNG_LD_CNT.DB_DROP ld).max ∧
      t = { s.elapse dt with regs := t.regs } ∧ RegsBut [Fld.RNG_LD_CNT.DB_DROP ld, Fld.RNG_LD_CNT.DB_SAT ld] s t) ∧
  (∀ (s : State) (dt ld n : Nat) (v : BitVec 32), s.ringSt ld n = 1 → s.engineRuns = true → v.toNat < s.depthOf ld n →
    (v.toNat + s.depthOf ld n - (s.ring ld n).cqHead) % s.depthOf ld n ≤ (s.ring ld n).written →
    (s.ring ld n).notices = [] → (s.ring ld n).outNotes = [] → (s.ring ld n).heldCount = 0 →
    ∃ t u : State, exec (.cqHeadDoorbell dt ld n 4 32 v) s = .next t ∧ t = u.waitRooms ∧
      u.ring ld n = { s.ring ld n with
        cqHead := v.toNat, cqDb := v.toNat,
        written := (s.ring ld n).written -
          (v.toNat + s.depthOf ld n - (s.ring ld n).cqHead) % s.depthOf ld n } ∧
      (∀ m k, 256 * m + k ≠ 256 * ld + n → u.ring m k = s.ring m k) ∧
      u = { s.elapse dt with regs := u.regs, rings := u.rings } ∧ RegsBut [Fld.RNG_STS.HELD ld n] s u) ∧
  (∀ (s : State) (ld n v : Nat), v < s.depthOf ld n →
    (s.takeSq ld n v).doorbellRead ld n 0 = v ∧
    ((v + s.depthOf ld n - (s.ring ld n).cqHead) % s.depthOf ld n ≤ (s.ring ld n).written →
      (s.takeCq ld n v).doorbellRead ld n 4 = v)) ∧
  (∀ (s : State) (dt ld n a b c : Nat) (ds : List Descriptor), ld < 32 → n < 256 → (s.ring ld n).fetching = true →
    ds.length ≤ min (s.leftToFetch ld n) 8 →
    s.on (Fld.RNG_SHD_BASE.SHADOW_DB ld n) = false →
    ∃ t u : State, exec (.descriptorFetchDone dt ld n (.data ds) a b c) s = .next t ∧ t = u.waitRooms.fetchMore ld n ∧
      u.ring ld n = { s.ring ld n with
        fetched := (s.ring ld n).fetched ++ ds.zipIdx.map (fun e => ((s.nextFetch ld n + e.2) % s.depthOf ld n, e.1))
        fetching := false } ∧
      u = { s.elapse dt with rings := u.rings }) ∧
  (∀ (s : State) (dt ld n a b c : Nat), ld < 32 → n < 256 → (s.ring ld n).fetching = true →
    ∃ t u : State, exec (.descriptorFetchDone dt ld n .error a b c) s = .next t ∧ t = u.fetchMore ld n ∧
      u.fget (Fld.RNG_STS.STATE ld n) = 2 ∧
      u.fget (Fld.RNG_STS.HALT_REASON ld n) = 3 ∧ u.ring ld n = { s.ring ld n with fetching := false } ∧
      Reports (srcOf 13 3) 0x12 s u ∧ u = { s.elapse dt with regs := u.regs, rings := u.rings, flt := u.flt } ∧
      RegsBut ([Fld.RNG_STS.STATE ld n, Fld.RNG_STS.HALT_REASON ld n] ++ FaultRegs (srcOf 13 3)) s u) ∧
  (∀ (s : State) (dt ld n idx : Nat) (d : Descriptor) (rest : List (Nat × Descriptor)), ld < 32 → n < 256 →
    (s.ring ld n).fetched = (idx, d) :: rest → s.mayAccept ld n = true → s.roomFor ld = true → d.opcode.toNat ≤ 9 →
    ∃ t u : State, ∃ a : Acc, exec (.descriptorAccept dt ld n) s = .next t ∧ t = u.waitRooms.fetchMore ld n ∧
      u.ring ld n = { s.ring ld n with fetched := rest, accs := (s.ring ld n).accs ++ [a], waitRes := none } ∧
      a.desc = d ∧ a.idx = idx ∧ a.st = .waiting ∧ a.tagWas = s.fget (Fld.RNG_TAG.TAG_HIGH ld n) ∧
      a.order = s.accSeq + 1 ∧
      u.fget (Fld.RNG_TAG.TAG_HIGH ld n) = max (s.fget (Fld.RNG_TAG.TAG_HIGH ld n)) d.tag.toNat % 2 ^ 64 ∧
      u.fget (Fld.RNG_STS.HEAD ld n) = (idx + 1) % s.depthOf ld n % 2 ^ 16 ∧
      u.out = (s.elapse dt).out ++ [.hostWrite ld n 1 [(idx + 1) % s.depthOf ld n]] ∧
      u = { s.elapse dt with regs := u.regs, rings := u.rings, out := u.out, accSeq := s.accSeq + 1 } ∧
      RegsBut [Fld.RNG_TAG.TAG_HIGH ld n, Fld.RNG_STS.HEAD ld n, Fld.RNG_LD_STS.IN_FLIGHT ld] s u) ∧
  (∀ (s : State) (dt ld n t0 : Nat), ld < 32 → n < 256 → (s.ring ld n).waitRes = some t0 → t0 + 100000 ≤ s.now + dt →
    s.roomFor ld = false → (s.ring ld n).notices = [] → (s.ring ld n).outNotes = [] →
    (s.ring ld n).written < s.depthOf ld n → s.canPost ld n = true →
    ∃ t, exec (.noResourceNotice dt ld n) s = .next t ∧
      t.out = (s.elapse dt).out ++ [.hostWrite ld n 0 [(s.ring ld n).cqTail, 0, s.fget (Fld.RNG_STS.HEAD ld n), 7,
        2 + (if (s.ring ld n).phase then 1 else 0), 0], .msix ld n] ∧
      t.fget (Fld.RNG_LD_CNT.NOTICES ld) = min (s.fget (Fld.RNG_LD_CNT.NOTICES ld) + 1) (Fld.RNG_LD_CNT.NOTICES ld).max ∧
      (t.ring ld n).written = (s.ring ld n).written + 1 ∧
      t = { s.elapse dt with regs := t.regs, rings := t.rings, out := t.out } ∧
      RegsBut [Fld.RNG_LD_CNT.NOTICES ld, Fld.RNG_LD_CNT.NT_SAT ld] s t)

/-- R310, R321, R322: a descriptor that finishes first in its ring has its 16-byte entry written at the CQ tail, with PHASE, and
is retired; the tail moves on and PHASE inverts at the wrap. NOP has no other effect. R125, R126, R127: at its bound a
ZERO_RANGE that still waits takes its room over the cap when the pool has it, else it completes NO_ROOM and counts; a held write
that can go on is applied and completed. -/
def Obligations.EntriesAreWrittenAndWaitsEnd : Prop :=
  (∀ (s : State) (ld n st fl res : Nat) (a : Acc), ld < 32 → n < 256 → (s.ring ld n).accs = [a] → a.st ≠ .done →
    s.canPost ld n = true → (s.ring ld n).written < s.depthOf ld n → a.desc.flags.getLsbD 0 = true →
    s.on (Fld.RNG_SHD_BASE.SHADOW_DB ld n) = false →
    ∃ t, s.finish ld n a.order st fl res = t ∧
      t.out = s.out ++ [.hostWrite ld n 0 [(s.ring ld n).cqTail, a.desc.tag.toNat, s.fget (Fld.RNG_STS.HEAD ld n), st,
        fl + (if (s.ring ld n).phase then 1 else 0), res]] ∧
      t.ring ld n = { s.ring ld n with
        accs := [], lastTag := a.desc.tag.toNat, written := (s.ring ld n).written + 1,
        cqTail := if (s.ring ld n).cqTail + 1 < s.depthOf ld n then (s.ring ld n).cqTail + 1 else 0,
        phase := if (s.ring ld n).cqTail + 1 < s.depthOf ld n then (s.ring ld n).phase else !(s.ring ld n).phase } ∧
      (∀ m k, 256 * m + k ≠ 256 * ld + n → t.ring m k = s.ring m k) ∧
      t = { s with regs := t.regs, rings := t.rings, out := t.out } ∧
      RegsBut [Fld.RNG_LD_STS.IN_FLIGHT ld, Fld.RNG_STS.HELD ld n, Fld.RNG_CNT.DUPLICATES ld n, Fld.RNG_CNT.DU_SAT ld n,
        Fld.RNG_CNT.STALE ld n, Fld.RNG_CNT.ST_SAT ld n] s t) ∧
  (∀ (s : State) (dt ld n idx : Nat) (a : Acc), (s.elapse dt).begins ld n idx 0 = some a →
    (s.elapse dt).execCheck ld a = 0 →
    exec (.nop dt ld n idx) s =
      .next (((s.elapse dt).modAcc ld n a.order (fun x => { x with st := .running })).finish ld n a.order 0 0 0)) ∧
  (∀ (s : State) (dt ld n idx t0 k : Nat) (a : Acc) (r : Nat × Nat), ld < 32 →
    s.accAt ld n idx (fun a => a.st == .running && (a.since.isSome || a.waits.any (fun w => w.2.2 != 0))) = some a →
    a.since = some t0 → a.step = 0 → t0 + 1000 * s.fget Fld.WEIR_CFG.WAIT_US ≤ s.now + dt →
    r = s.rangePages ld a.desc.arg0.toNat a.desc.arg1.toNat → k = s.raiseCount ld r.1 r.2 →
    s.zeroLack ld k ≤ s.poolFree → s.deficit = false →
    ∃ t u : State, exec (.ringWeirWaitExpiry dt ld n idx) s = .next t ∧ t = u.settle.showWeir ∧
      u.fget (Fld.WEIR_LD_CNTB.OVER_CAP ld) =
        min (s.fget (Fld.WEIR_LD_CNTB.OVER_CAP ld) + 1) (Fld.WEIR_LD_CNTB.OVER_CAP ld).max ∧
      u.ld ld = { s.ld ld with resv := (s.ld ld).resv + k } ∧
      u = { s.elapse dt with regs := u.regs, rings := u.rings, lds := u.lds }) ∧
  (∀ (s : State) (dt ld n idx t0 : Nat) (a : Acc), ld < 32 →
    s.accAt ld n idx (fun a => a.st == .running && (a.since.isSome || a.waits.any (fun w => w.2.2 != 0))) = some a →
    a.since = some t0 → a.step = 0 → t0 + 1000 * s.fget Fld.WEIR_CFG.WAIT_US ≤ s.now + dt →
    (s.deficit = true ∨ s.poolFree < s.zeroLack ld (s.raiseCount ld
      (s.rangePages ld a.desc.arg0.toNat a.desc.arg1.toNat).1 (s.rangePages ld a.desc.arg0.toNat a.desc.arg1.toNat).2)) →
    ∃ t u : State, exec (.ringWeirWaitExpiry dt ld n idx) s = .next t ∧
      t = ((u.finish ld n a.order 10 0 0).settle).showWeir ∧
      u.fget (Fld.WEIR_LD_CNTB.TIMEOUTS ld) =
        min (s.fget (Fld.WEIR_LD_CNTB.TIMEOUTS ld) + 1) (Fld.WEIR_LD_CNTB.TIMEOUTS ld).max ∧
      u = { s.elapse dt with regs := u.regs } ∧
      RegsBut [Fld.WEIR_LD_CNTB.TIMEOUTS ld, Fld.WEIR_LD_CNTB.TO_SAT ld] s u) ∧
  (∀ (s : State) (dt ld n idx : Nat) (a : Acc) (p t0 : Nat), ld < 32 →
    s.accAt ld n idx (fun a => a.st == .running && (a.since.isSome || a.waits.any (fun w => w.2.2 != 0))) = some a →
    a.since = none → a.waits = [(p, 1, t0)] → t0 ≠ 0 → t0 + 1000 * s.fget Fld.WEIR_CFG.WAIT_US ≤ s.now + dt + 1 →
    ∃ t u : State, exec (.ringWeirWaitExpiry dt ld n idx) s = .next t ∧ t = u.settle.showWeir ∧
      u.fget Fld.EDDY_STALL.TIMEOUTS = min (s.fget Fld.EDDY_STALL.TIMEOUTS + 1) Fld.EDDY_STALL.TIMEOUTS.max ∧
      u = { s.elapse dt with regs := u.regs, rings := u.rings } ∧
      RegsBut [Fld.EDDY_STALL.TIMEOUTS, Fld.EDDY_STALL.TO_SAT] s u) ∧
  (∀ (s : State) (dt n : Nat), s.fab.reqs.find? (s.canPass n) = none →
    exec (.heldWriteRelease dt n) s = .next ((s.elapse dt).settle).showWeir) ∧
  (∀ (s : State) (dt n : Nat) (r : Req), s.fab.reqs.find? (s.canPass n) = some r →
    exec (.heldWriteRelease dt n) s = .next ((((s.elapse dt).step6 r).wakePage (r.dpa / 4096)).settle).showWeir) ∧
  (∀ (s : State) (dt n : Nat) (r : Req), s.fab.reqs.find? (s.canPass n) = some r → s.owedPage (r.dpa / 4096) = false →
    r.kind = .write → r.port < 2 → s.inWmb (r.dpa / 64) = true → s.held r = false →
    (s.page (r.dpa / 4096)).st ∉ [.unfilled, .drawing] →
    ∃ t u : State, ∃ load : Nat, exec (.heldWriteRelease dt n) s = .next t ∧
      t = (u.wakePage (r.dpa / 4096)).settle.showWeir ∧ u.out = (s.elapse dt).out ++ [.ndr r.port r.tag load] ∧
      u.fab.reqs = s.fab.reqs.filter (fun x => x.rid != r.rid))

/-- R311: the checks of a descriptor run in their order and the first that fails decides the status, whatever the opcode;
nothing of its effect takes place. -/
def Obligations.FirstFailedCheckDecidesStatus : Prop :=
  (∀ (s : State) (ld : Nat) (a : Acc), s.execCheck ld a =
    if a.desc.tag.toNat ≤ a.tagWas then 1
    else if a.desc.roleGen.toNat ≠ (s.ld ld).gen % 65536 then 6
    else if descClean a.desc = false then 4
    else if 9 < a.desc.opcode.toNat then 2
    else if s.checkArgs ld a.desc ≠ 0 then s.checkArgs ld a.desc
    else s.checkState ld a.desc) ∧
  (∀ (s : State) (dt ld n idx : Nat) (a : Acc) (e : Nat × Instr),
    e ∈ [(0, Instr.nop dt ld n idx), (2, .checkpointAt dt ld n idx), (3, .checkpointRelease dt ld n idx),
      (5, .queryPages dt ld n idx), (7, .sanitizeLd dt ld n idx)] →
    (s.elapse dt).begins ld n idx e.1 = some a → (s.elapse dt).execCheck ld a ≠ 0 →
    exec e.2 s = .next ((s.elapse dt).finish ld n a.order ((s.elapse dt).execCheck ld a) 0 0)) ∧
  (∀ (s : State) (dt ld n idx : Nat) (a : Acc) (ok : Bool), 
    (s.elapse dt).begins ld n idx 9 = some a → (s.elapse dt).execCheck ld a ≠ 0 →
    exec (.readSeal dt ld n idx ok) s = .next ((s.elapse dt).finish ld n a.order ((s.elapse dt).execCheck ld a) 0 0).settle) ∧
  (∀ (s : State) (dt ld n idx : Nat) (a : Acc) (e : Nat × Instr),
    e ∈ [(1, Instr.persistRange dt ld n idx), (8, .fence dt ld n idx)] →
    (s.elapse dt).begins ld n idx e.1 = some a → (s.elapse dt).execCheck ld a ≠ 0 →
    exec e.2 s = .next ((s.elapse dt).finish ld n a.order ((s.elapse dt).execCheck ld a) 0 0).kick) ∧
  (∀ (s : State) (dt ld n idx : Nat) (a : Acc) (e : Nat × Instr),
    e ∈ [(4, Instr.rollbackTo dt ld n idx), (6, .zeroRange dt ld n idx)] →
    (s.elapse dt).begins ld n idx e.1 = some a → (s.elapse dt).execCheck ld a ≠ 0 →
    exec e.2 s = .next (((s.elapse dt).finish ld n a.order ((s.elapse dt).execCheck ld a) 0 0).kick.settle).showWeir)

/-- R314, R315, R317, R320: CHECKPOINT_AT registers its cut, CHECKPOINT_RELEASE releases its checkpoint at once and a pending
one DEFERRED, QUERY_PAGES writes its block with the LD's owed count and allowance and counts its pages, and READ_SEAL writes the
caller's view of the newest seal. -/
def Obligations.RingOpcodesThatCompleteAtOnce : Prop :=
  (∀ (s : State) (dt ld n idx : Nat) (a : Acc), (s.elapse dt).begins ld n idx 2 = some a →
    (s.elapse dt).execCheck ld a = 0 →
    ∃ t, exec (.checkpointAt dt ld n idx) s = .next t ∧
      (t.ring ld n).accs = (s.ring ld n).accs.map (fun x => if x.order == a.order && x.st != .done then
        { x with st := .running, cut := some a.desc.arg0.toNat } else x) ∧
      (∀ m k, 256 * m + k ≠ 256 * ld + n → t.ring m k = s.ring m k) ∧ t = { s.elapse dt with rings := t.rings }) ∧
  (∀ (s : State) (dt ld n idx : Nat) (a : Acc) (c : Ckpt), (s.elapse dt).begins ld n idx 3 = some a →
    (s.elapse dt).execCheck ld a = 0 → (s.ld ld).ckpt? a.desc.arg0.toNat = some c →
    ∃ t u : State, exec (.checkpointRelease dt ld n idx) s = .next t ∧
      t = u.finish ld n a.order 0 (if c.complete then 0 else 8) 0 ∧
      (c.complete = true → (u.ld ld).ckpts = (s.ld ld).ckpts.filter (fun x => !(x.complete && x.no == c.no))) ∧
      (c.complete = false → (u.ld ld).ckpt? a.desc.arg0.toNat = some { c with release := true }) ∧
      u = { s.elapse dt with regs := u.regs, lds := u.lds, rings := u.rings }) ∧
  (∀ (s : State) (dt ld n idx : Nat) (a : Acc), (s.elapse dt).begins ld n idx 5 = some a →
    (s.elapse dt).execCheck ld a = 0 →
    ∃ t u : State, ∃ w : List Nat, ∃ r : Nat × Nat, exec (.queryPages dt ld n idx) s = .next t ∧
      r = (if a.desc.arg1 = 0 then s.rangePages ld 0 (s.extBytes ld) else s.rangePages ld a.desc.arg0.toNat a.desc.arg1.toNat) ∧
      t = u.finish ld n a.order 0 0 (r.2 - r.1) ∧
      u.out = (s.elapse dt).out ++ [.hostWrite ld n 3 w] ∧ w.length = 14 ∧ w.getD 0 0 = a.desc.arg2.toNat ∧
      w.getD 2 0 = (s.pages.filter (fun e => decide (r.1 ≤ e.1) && decide (e.1 < r.2) && e.2.st == .dirty)).length ∧
      w.getD 9 0 = (s.ld ld).owed ∧ w.getD 10 0 = s.allow ld ∧ w.getD 12 0 = (s.ld ld).newestDone ∧
      u = { s.elapse dt with out := u.out, rings := u.rings }) ∧
  (∀ (s : State) (dt ld n idx : Nat) (a : Acc) (g : Seal), (s.elapse dt).begins ld n idx 9 = some a →
    (s.elapse dt).execCheck ld a = 0 → s.sealedImg = some g → g.gen = s.newestGen →
    ∃ t u v : State, exec (.readSeal dt ld n idx true) s = .next t ∧ exec (.readSeal dt ld n idx false) s = .next v ∧
      t = (u.finish ld n a.order 0 0 (g.gen % 2 ^ 32)).settle ∧
      u.out = (s.elapse dt).out ++ [.hostWrite ld n 3 (a.desc.arg2.toNat :: g.record Config.otpSerial.toNat (some ld))] ∧
      u = { s.elapse dt with out := u.out, rings := u.rings } ∧
      v = (({ u with out := (s.elapse dt).out } : State).finish ld n a.order 9 0 0).settle) ∧
  (∀ (s : State) (dt ld n idx : Nat) (a : Acc) (ok : Bool), (s.elapse dt).begins ld n idx 9 = some a →
    (s.elapse dt).execCheck ld a = 0 → (∀ g, s.sealedImg = some g → g.gen ≠ s.newestGen) →
    exec (.readSeal dt ld n idx ok) s = .next ((((s.elapse dt).modAcc ld n a.order (fun x => { x with st := .running })).finish
      ld n a.order 0 0 0).settle))

/-- R139, R313, R318, R319, R323: PERSIST_RANGE takes the pages of its range that are owed and directs cleans of those the rill
has not selected; a FENCE begins, and with nothing before it completes; ROLLBACK_TO, SANITIZE_LD and a ZERO_RANGE with room
take their first step; each then moves on as far as it can. -/
def Obligations.RingOpcodesThatRunOn : Prop :=
  (∀ (s : State) (dt ld n idx : Nat) (a : Acc) (r : Nat × Nat), (s.elapse dt).begins ld n idx 1 = some a →
    (s.elapse dt).execCheck ld a = 0 →
    r = s.rangePages ld a.desc.arg0.toNat a.desc.arg1.toNat →
    ∃ t u : State, ∃ b : Acc, exec (.persistRange dt ld n idx) s = .next t ∧ t = u.kick ∧
      (u.ring ld n).accs = (s.ring ld n).accs.map (fun x => if x.order == a.order && x.st != .done then
        { x with st := .running, pages := b.pages, count := b.count } else x) ∧
      (∀ p, p ∈ b.pages ↔ r.1 ≤ p ∧ p < r.2 ∧ ∃ e ∈ s.pages, e.1 = p ∧ (e.2.st = .dirty ∨ e.2.st = .cleaning ∨ e.2.st = .forked)) ∧
      (∀ e ∈ s.pages, r.1 ≤ e.1 → e.1 < r.2 → e.2.st = .dirty → e.1 ∈ u.rill.directed) ∧
      (∀ p ∈ s.rill.directed, p ∈ u.rill.directed) ∧
      u = { s.elapse dt with rings := u.rings, rill := { s.rill with directed := u.rill.directed } }) ∧
  (∀ (s : State) (dt ld n idx : Nat) (a : Acc), (s.elapse dt).begins ld n idx 8 = some a →
    (s.elapse dt).execCheck ld a = 0 →
    ∃ u : State, exec (.fence dt ld n idx) s = .next u.kick ∧
      (u.ring ld n).accs = (s.ring ld n).accs.map (fun x => if x.order == a.order && x.st != .done then
        { x with st := .running } else x) ∧ u = { s.elapse dt with rings := u.rings }) ∧
  (∀ (s : State) (dt ld n idx : Nat) (a : Acc) (r : Ring), n < 256 → s.rings = [(256 * ld + n, r)] → r.accs = [a] →
    (s.elapse dt).begins ld n idx 8 = some a → (s.elapse dt).execCheck ld a = 0 →
    exec (.fence dt ld n idx) s =
      .next (((s.elapse dt).modAcc ld n a.order (fun x => { x with st := .running })).finish ld n a.order 0 0 0)) ∧
  (∀ (s : State) (dt ld n idx : Nat) (a : Acc) (c : Ckpt), (s.elapse dt).begins ld n idx 4 = some a →
    (s.elapse dt).execCheck ld a = 0 → s.rollTarget ld a.desc.arg0.toNat = some c →
    ∃ t u : State, exec (.rollbackTo dt ld n idx) s = .next t ∧ t = (u.kick.settle).showWeir ∧
      u.ld ld = { s.ld ld with rollback := some c.no } ∧
      (u.ring ld n).accs = (s.ring ld n).accs.map (fun x => if x.order == a.order && x.st != .done then
        { x with st := .running, step := 1 } else x) ∧
      u = { s.elapse dt with rings := u.rings, lds := u.lds }) ∧
  (∀ (s : State) (dt ld n idx k : Nat) (a : Acc) (r : Nat × Nat), (s.elapse dt).begins ld n idx 6 = some a →
    (s.elapse dt).execCheck ld a = 0 →
    r = s.rangePages ld a.desc.arg0.toNat a.desc.arg1.toNat → k = s.raiseCount ld r.1 r.2 →
    k = 0 ∨ ((s.elapse dt).modAcc ld n a.order (fun x => { x with st := .running })).zeroHolds ld k (s.now + dt) = false →
    ∃ t u : State, exec (.zeroRange dt ld n idx) s = .next t ∧ t = (u.kick.settle).showWeir ∧
      u.ld ld = { s.ld ld with resv := (s.ld ld).resv + k } ∧
      (u.ring ld n).accs = (s.ring ld n).accs.map (fun x => if x.order == a.order && x.st != .done then
        { x with
          st := .running, step := 1, resv := k, since := none,
          pages := (List.range (r.2 - r.1)).map (fun i => r.1 + i) } else x) ∧
      u = { s.elapse dt with rings := u.rings, lds := u.lds }) ∧
  (∀ (s : State) (dt ld n idx : Nat) (a : Acc), (s.elapse dt).begins ld n idx 7 = some a →
    (s.elapse dt).execCheck ld a = 0 →
    ∃ t, exec (.sanitizeLd dt ld n idx) s = .next t ∧ t.ld ld = { s.ld ld with keyGen := (s.ld ld).keyGen + 1, saniGen := some s.spill.usedGen } ∧
      (∀ m, m ≠ ld → t.ld m = s.ld m) ∧
      (t.ring ld n).accs = (s.ring ld n).accs.map (fun x => if x.order == a.order && x.st != .done then
        { x with st := .running, step := 1 } else x) ∧
      t = { s.elapse dt with rings := t.rings, lds := t.lds, cfgDue := some (s.cfgDue.getD (s.now + dt)) })

/-- R328, R331, R332: ENABLE of a DISABLED ring starts it at index 0 with PHASE 1, DISABLE stops it and drops what it had
fetched, RESUME makes a HALTED ring ACTIVE with its positions as before, what a fetch error left being fetched again; a control
write that is not allowed changes nothing but CTL_REJECT; and an unsignalled entry raises its vector after COAL_US. -/
def Obligations.RingControl : Prop :=
  (∀ (s : State) (dt ld n : Nat) (path : Path) (clear : Bool), RingPath s path ld n → s.ringSt ld n = 0 → s.ringCfgOk ld n = true →
    (s.ring ld n).accs = [] →
    ∃ t, exec (.ringEnable dt path ld n clear) s = .next t ∧ t.fget (Fld.RNG_STS.STATE ld n) = 1 ∧
      t.fget (Fld.RNG_STS.HEAD ld n) = 0 ∧ t.fget (Fld.RNG_STS.TAIL ld n) = 0 ∧ t.fget (Fld.RNG_STS.HALT_REASON ld n) = 0 ∧
      t.fget (Fld.RNG_STS.CTL_REJECT ld n) = 0 ∧
      t.fget (Fld.RNG_TAG.TAG_HIGH ld n) = (if clear then 0 else s.fget (Fld.RNG_TAG.TAG_HIGH ld n)) ∧
      t.ring ld n = { Ring.new with lastTag := (s.ring ld n).lastTag } ∧ (t.ring ld n).cqTail = 0 ∧ (t.ring ld n).phase = true ∧
      (∀ m k, 256 * m + k ≠ 256 * ld + n → t.ring m k = s.ring m k) ∧
      t = { s.elapse dt with regs := t.regs, rings := t.rings } ∧
      RegsBut [Fld.RNG_STS.STATE ld n, Fld.RNG_STS.HEAD ld n, Fld.RNG_STS.TAIL ld n, Fld.RNG_STS.HALT_REASON ld n,
        Fld.RNG_STS.LOST ld n, Fld.RNG_STS.CTL_REJECT ld n, Fld.RNG_STS.HELD ld n, Fld.RNG_TAG.TAG_HIGH ld n] s t) ∧
  (∀ (s : State) (dt ld n : Nat) (path : Path) (clear : Bool), RingPath s path ld n → s.ringSt ld n = 0 → s.ringCfgOk ld n = true →
    ∃ t u : State, exec (.ringEnable dt path ld n clear) s = .next t ∧ t = u.postRing ld n ∧ u.fget (Fld.RNG_STS.STATE ld n) = 1 ∧
      u.fget (Fld.RNG_STS.HEAD ld n) = 0 ∧ u.fget (Fld.RNG_STS.TAIL ld n) = 0 ∧ u.fget (Fld.RNG_STS.CTL_REJECT ld n) = 0 ∧
      u.ring ld n = { Ring.new with accs := (s.ring ld n).accs, lastTag := (s.ring ld n).lastTag } ∧
      ((s.ring ld n).accs ≠ [] → u.fget (Fld.RNG_TAG.TAG_HIGH ld n) = s.fget (Fld.RNG_TAG.TAG_HIGH ld n)) ∧
      u = { s.elapse dt with regs := u.regs, rings := u.rings }) ∧
  (∀ (s : State) (dt ld n : Nat) (path : Path) (i : Instr), RingPath s path ld n →
    ((∃ clear, i = .ringEnable dt path ld n clear ∧ (s.ringSt ld n ≠ 0 ∨ s.ringCfgOk ld n = false)) ∨
      (i = .ringResume dt path ld n ∧ s.ringSt ld n ≠ 2)) →
    ∃ t, exec i s = .next t ∧ t.fget (Fld.RNG_STS.CTL_REJECT ld n) = 1 ∧
      t = { s.elapse dt with regs := t.regs } ∧ RegsBut [Fld.RNG_STS.CTL_REJECT ld n] s t) ∧
  (∀ (s : State) (dt ld n : Nat) (path : Path), RingPath s path ld n →
    ∃ t u : State, exec (.ringDisable dt path ld n) s = .next t ∧ t = u.fetchMore ld n ∧ u.fget (Fld.RNG_STS.STATE ld n) = 0 ∧
      u.fget (Fld.RNG_STS.CTL_REJECT ld n) = 0 ∧ (u.ring ld n).fetched = [] ∧ (u.ring ld n).fetching = false ∧
      (u.ring ld n).notices = [] ∧ (u.ring ld n).accs = (s.ring ld n).accs ∧ t.ring ld n = u.ring ld n ∧
      (∀ m k, 256 * m + k ≠ 256 * ld + n → u.ring m k = s.ring m k) ∧
      u = { s.elapse dt with regs := u.regs, rings := u.rings } ∧
      RegsBut [Fld.RNG_STS.STATE ld n, Fld.RNG_STS.CTL_REJECT ld n, Fld.RNG_STS.HELD ld n] s u) ∧
  (∀ (s : State) (dt ld n : Nat) (path : Path), RingPath s path ld n → s.ringSt ld n = 2 →
    ∃ t u : State, exec (.ringResume dt path ld n) s = .next t ∧
      t = (((u.postRing ld n).postNotices ld n (s.ring ld n).notices.length).waitRoom ld n).fetchMore ld n ∧
      u.fget (Fld.RNG_STS.STATE ld n) = 1 ∧ u.fget (Fld.RNG_STS.HALT_REASON ld n) = 0 ∧
      u.fget (Fld.RNG_STS.CTL_REJECT ld n) = 0 ∧
      (s.fget (Fld.RNG_STS.HALT_REASON ld n) = 3 → u.ring ld n = { s.ring ld n with fetched := [], fetching := false }) ∧
      (s.fget (Fld.RNG_STS.HALT_REASON ld n) ≠ 3 → u.ring ld n = s.ring ld n) ∧
      (∀ m k, 256 * m + k ≠ 256 * ld + n → u.ring m k = s.ring m k) ∧
      u = { s.elapse dt with regs := u.regs, rings := u.rings } ∧
      RegsBut [Fld.RNG_STS.STATE ld n, Fld.RNG_STS.HALT_REASON ld n, Fld.RNG_STS.CTL_REJECT ld n] s u) ∧
  (∀ (s : State) (dt ld n : Nat) (path : Path), RingPath s path ld n → s.ringSt ld n = 2 →
    (s.fget (Fld.RNG_STS.HALT_REASON ld n) = 1 ∨ s.fget (Fld.RNG_STS.HALT_REASON ld n) = 2) →
    (s.ring ld n).accs = [] → (s.ring ld n).notices = [] → (s.ring ld n).fetched = [] → (s.engineRuns = false ∨ s.leftToFetch ld n = 0) →
    (∀ e ∈ s.rings, s.wantsFetch (e.1 / 256) (e.1 % 256) = false) →
    ∃ t, exec (.ringResume dt path ld n) s = .next t ∧
      t.fget (Fld.RNG_STS.STATE ld n) = 1 ∧ t.fget (Fld.RNG_STS.HALT_REASON ld n) = 0 ∧
      t.fget (Fld.RNG_STS.CTL_REJECT ld n) = 0 ∧ t.ring ld n = s.ring ld n ∧
      t.fget (Fld.RNG_STS.HEAD ld n) = s.fget (Fld.RNG_STS.HEAD ld n) ∧ t.fget (Fld.RNG_STS.TAIL ld n) = s.fget (Fld.RNG_STS.TAIL ld n)) ∧
  (∀ (s : State) (dt ld n t0 : Nat), (s.ring ld n).coalAt = some t0 →
    t0 + 1000 * s.fget (Fld.RNG_CFG.COAL_US ld n) ≤ s.now + dt →
    ∃ t, exec (.msixCoalesceTimeout dt ld n) s = .next t ∧ t.out = (s.elapse dt).out ++ [.msix ld n] ∧
      t.ring ld n = { s.ring ld n with coal := 0, coalAt := none } ∧
      (∀ m k, 256 * m + k ≠ 256 * ld + n → t.ring m k = s.ring m k) ∧
      t = { s.elapse dt with rings := t.rings, out := t.out }) ∧
  (∀ (s : State) (ld n : Nat),
    (s.coalesce ld n).out = (if s.fget (Fld.RNG_CFG.COAL_CNT ld n) ≤ (s.ring ld n).coal + 1 then s.out ++ [.msix ld n] else s.out) ∧
    (s.coalesce ld n).ring ld n = (if s.fget (Fld.RNG_CFG.COAL_CNT ld n) ≤ (s.ring ld n).coal + 1 then
      { s.ring ld n with coal := 0, coalAt := none }
      else { s.ring ld n with coal := (s.ring ld n).coal + 1, coalAt := some ((s.ring ld n).coalAt.getD s.now) }))

/-! ## Starts (chapters 7 and 13) -/

/-- R334, R335, R336, R339, R173, R174: a cold start begins with what core power kept, DRAM empty and the LDs SEALED; its stages
run in the order of Table 13-2, stage 3 loading the best copy and stage 6 taking the newest generation unless R174 rejects it.
-/
def Obligations.ColdStartRunsItsStages : Prop :=
  (∀ (s : State) (dt : Nat), s.dev = .off → s.seqSt = 2 → s.on Fld.PSQ_RST_STS.CORE_RST = false → s.psq.por = false →
    ∃ t, exec (.coldStart dt) s = .next t ∧ t.dev = .training ∧ t.bootStage = 1 ∧ t.fget Fld.BOOT_STS.START_KIND = 0 ∧
      t.boot.kind = 0 ∧ t.boot.startAt = s.now + dt ∧ t.dram = [] ∧ t.pages = [] ∧ t.staged = [] ∧ t.chrys = true ∧
      (∀ n, n < 32 → s.bound n = true → (t.ld n).st = .sealed) ∧
      (∀ d, d ≠ 0 → d ≠ 94 → (t.dom d).mode = 0) ∧
      (∀ f : Field, 0x1A0000 ≤ f.bit / 8 → f.bit / 8 < 0x1C0000 → t.fget f = s.fget f) ∧
      (∀ f : Field, 0x140000 ≤ f.bit / 8 → f.bit / 8 < 0x141800 → t.fget f = f.reset) ∧
      t.flash = (match s.log.erasing with | none => s.flash | some b => s.flash.filter (fun e => keyBand e.1 ≠ b)) ∧
      t.psq = s.psq ∧ t.sealedImg = s.sealedImg ∧ (s.flm.op = none → t.boot.copies = s.boot.copies)) ∧
  (∀ (s : State) (dt : Nat) (o : StageObs), s.starting = true → s.bootStage = 1 → s.boot.kind = 0 → o.selfTestOk = true →
    o.elytraRomOk = [true, true] →
    ∃ t, exec (.startStageComplete dt o) s = .next t ∧ t.bootStage = 2 ∧ t.boot = { s.boot with romVer := o.romUcode } ∧
      t = { s.elapse dt with regs := t.regs, boot := t.boot } ∧ RegsBut [Fld.BOOT_STS.STAGE] s t) ∧
  (∀ (s : State) (dt : Nat) (o : StageObs), s.starting = true → s.bootStage = 2 → s.boot.kind = 0 → s.boot.byPort = [] →
    s.goodCopies ≠ [] → s.fget Fld.BOOT_STS.FAILS < 3 →
    ∃ t, exec (.startStageComplete dt o) s = .next t ∧ t.bootStage = 3 ∧ t.boot = s.boot ∧
      (∀ k, k < 4 → ((t.fget Fld.BOOT_STS.COPIES_OK).testBit k = true ↔ ∃ i, (k, i) ∈ s.boot.copies ∧ imgValid i = true ∧
        imgFits i = true)) ∧
      t = { s.elapse dt with regs := t.regs }) ∧
  (∀ (s : State) (dt : Nat) (o : StageObs) (k : Nat) (img : Image), s.starting = true → s.bootStage = 3 → s.boot.kind = 0 →
    o.loadFail = [] → bestCopy s.goodCopies = some (k, img) → k < 4 → o.ucodeLoadOk = [true, true] →
    ∃ t, exec (.startStageComplete dt o) s = .next t ∧ t.bootStage = 4 ∧ t.boot = { s.boot with loaded := some img } ∧
      t.fget Fld.BOOT_STS.COPY_BOOTED = k ∧
      t.fget Fld.BOOT_UCODE.RUN_VER = (if img.ucodeSec then img.ucodeVer else s.boot.romVer) % 256 ∧
      t.fget Fld.BOOT_UCODE.LOAD_FAIL = 0 ∧ t = { s.elapse dt with regs := t.regs, boot := t.boot }) ∧
  (∀ (s : State) (dt : Nat) (o : StageObs) (x : Seal), s.starting = true → s.bootStage = 6 → s.boot.kind = 0 →
    o.journalSeals = true → s.sealedImg = some x → x.gen = s.spill.usedGen → s.sealRecord x.gen = true →
    o.sealCopiesOk ≠ [] → o.sealAgree = true → o.metaOk = true → s.fget Fld.JNL_STS.COPY_OK ≠ 0 →
    x.prev = s.olderSeal x.gen → s.log.written = true → s.fab.sanitized = false →
    ∃ t, exec (.startStageComplete dt o) s = .next t ∧ t.bootStage = 7 ∧ t.fget Fld.RFL_STS.GEN_REASON = 0 ∧
      t.boot.found = some (Found.mk (some x) 0 o.keysFail false o.lostCkpts) ∧
      t.fget Fld.RFL_GEN.GENERATION = x.gen % 2 ^ 64 ∧ t.newestGen = x.gen % 2 ^ 64 ∧ t.fget Fld.RFL_STS.PHASE = 3 ∧
      t = { s.elapse dt with regs := t.regs, boot := t.boot }) ∧
  (∀ (s : State) (dt : Nat) (o : StageObs) (x : Seal), s.starting = true → s.bootStage = 6 → s.boot.kind = 0 →
    o.journalSeals = true → s.sealedImg = some x → x.gen = s.spill.usedGen → s.sealRecord x.gen = true →
    o.sealCopiesOk ≠ [] → o.sealAgree = false → s.log.written = true → s.fab.sanitized = false →
    ∃ t, exec (.startStageComplete dt o) s = .next t ∧ t.bootStage = 7 ∧ t.fget Fld.RFL_STS.GEN_REASON = 2 ∧
      t.boot.found = some (Found.mk none 2 o.keysFail false o.lostCkpts) ∧ t.fget Fld.RFL_GEN.GENERATION = 0)

/-- R180, R191, R36, R169, R334, R177: the end of the rebuild opens the device, after a warm reset with DRAM and records as they
were, and on a log that holds nothing in SERVING with every page CLEAN; a device warm reset goes to TRAINING with its ports
down; leaving SEALED is a dry return, or with DRAM_UV a restart without DRAM; LD_GO puts a held LD in REFILLING. -/
def Obligations.DeviceOpensAndReturns : Prop :=
  (∀ (s : State) (dt us : Nat), s.starting = true → s.bootStage = 7 →
    ∃ t u v : State, exec (.rebuildDone dt us) s = .next t ∧ t = (v.tailAdvance.settle).showWeir ∧
      v = forUpto 256 (fun _ x => trackerEntryFree 1 (trackerEntryFree 0 x)) ((u.writeCkptRecs).reportCuts) ∧
      (u.dev = .refilling ∨ u.dev = .serving) ∧ u.bootStage = 8 ∧ u.fget Fld.BOOT_STS.FAILS = 0 ∧
      u.fget Fld.BOOT_STS.BASIN = 0 ∧ u.fget Fld.RFL_MAP.MAP_US = min us Fld.RFL_MAP.MAP_US.max ∧
      (s.boot.kind = 1 → u.dram = s.dram ∧ u.pages = s.pages) ∧ t.flash = s.flash ∧ t.psq = s.psq) ∧
  (∀ (s : State) (dt us : Nat) (f : Found), s.starting = true → s.bootStage = 7 → s.boot.kind = 0 →
    s.boot.found = some f → f.empty = true → (∀ n, n < 32 → s.bound n = true → s.cls n ≠ 2 ∧ (s.ld n).prior ≠ .quiesced) →
    ∃ t u v : State, exec (.rebuildDone dt us) s = .next t ∧ t = (v.tailAdvance.settle).showWeir ∧
      v = forUpto 256 (fun _ x => trackerEntryFree 1 (trackerEntryFree 0 x)) ((u.writeCkptRecs).reportCuts) ∧
      u.dev = .serving ∧ (∀ n, n < 32 → s.bound n = true → (u.ld n).st = .serving ∧ (u.ld n).dflt = 0 ∧
        ∀ p r, (p, r) ∈ u.pages → r.ld ≠ n)) ∧
  (∀ (s : State) (dt : Nat), s.isOpen = true →
    ∃ t, exec (.deviceWarmReset dt) s = .next t ∧ t.dev = .training ∧ t.fget Fld.BOOT_STS.START_KIND = 1 ∧
      t.bootStage = 1 ∧ t.boot.kind = 1 ∧ t.boot.startAt = s.now + dt ∧ t.staged = [] ∧ t.captured = [] ∧
      t.molt = none ∧ t.boot.xfer = none ∧ t.fab.bg = none ∧ t.flm.session = none ∧
      (∀ n, n < 32 → (t.ld n).quiesce = none ∧ (t.ld n).st = (s.ld n).st) ∧
      t.flash = s.flash ∧ t.psq = s.psq ∧ t.cis = s.cis ∧ t.col = (s.elapse dt).col) ∧
  (∀ (s : State), s.dev = .sealed → s.on Fld.PSQ_STS.INPUT_GOOD = true → s.seqSt ≠ 3 → s.seqSt ≠ 4 → s.on Fld.SPL_STATE.DRAM_UV = true →
    ∃ t, exec .sealedReturnDecision s = .next t ∧ t.dev = .training ∧ t.boot.kind = 2 ∧ t.bootStage = 5 ∧ t.dram = [] ∧
      t.pages = [] ∧ t.pdmLock = false ∧ t.psq.detect = false ∧ t.stage = 0 ∧ t.sealedImg = s.sealedImg ∧
      t.flash = s.flash ∧ (∀ n, n < 32 → ∀ c ∈ (t.ld n).ckpts, c.complete = true)) ∧
  (∀ (s : State), s.dev = .sealed → s.on Fld.PSQ_STS.INPUT_GOOD = true → s.seqSt ≠ 3 → s.seqSt ≠ 4 → s.on Fld.SPL_STATE.DRAM_UV = false →
    ∃ t u : State, exec .sealedReturnDecision s = .next t ∧ t = ((u.writeCkptRecs).reportCuts).settle.showWeir ∧
      (u.dev = .refilling ∨ u.dev = .serving) ∧ u.pdmLock = false ∧ u.psq.detect = false ∧
      (∀ n, n < 32 → (s.ld n).st = .sealed → (s.ld n).prior ≠ .refilling → (s.ld n).prior ≠ .unbound →
        (u.ld n).st = (s.ld n).prior) ∧
      t.flash = s.flash) ∧
  (∀ (s : State) (dt n : Nat), n < 32 → s.isOpen = true → (s.ld n).st = .quiesced → (s.ld n).held = true →
    s.fget (Fld.RFL_LD_SRC.MODE n) * 2 ^ 48 + s.fget (Fld.RFL_LD_SRC.VALUE n) = (s.ld n).mapSrc →
    s.fget (Fld.RFL_LD_STS.SOURCE n) ≠ 0 →
    ∃ t u : State, exec (.ldGo dt n) s = .next t ∧ t = (((u.showUnfilled).refill).checkFilled).showWeir ∧
      (u.ld n).st = .refilling ∧ (u.ld n).held = false ∧ (u.ld n).returned = true ∧
      u.fget (Fld.RFL_LD_STS.HELD n) = 0 ∧ (∀ m, m ≠ n → u.ld m = s.ld m) ∧
      u = { s.elapse dt with regs := u.regs, lds := u.lds } ∧
      RegsBut [Fld.RFL_LD_STS.HELD n, Fld.SLU_LD_BIND.STATE n] s u)

/-- R338, R340 to R345: a failed cold start counts, enters BOOT_HIST and is followed by a restart of its kind; the third enters
BASIN, its LDs SEALED and no decoder committed; an expired watchdog in service is recorded and resets the device; RETRY leaves
BASIN by a cold start with FAILS 0, and a deferred BASIN by one more attempt; a boot copy repaired is current, and one that
fails is retried once and then reported. -/
def Obligations.FailedStartsAndRepair : Prop :=
  (∀ (s : State) (dt : Nat) (o : StageObs), s.starting = true → s.bootStage = 1 → s.boot.kind = 0 → o.selfTestOk = false →
    s.chrys = true → s.fget Fld.BOOT_STS.FAILS < 2 →
    ∃ t, exec (.startStageComplete dt o) s = .next t ∧ t.dev = .training ∧ t.bootStage = 1 ∧
      t.fget Fld.BOOT_STS.FAILS = s.fget Fld.BOOT_STS.FAILS + 1 ∧ t.fget Fld.BOOT_STS.LAST_REASON = 7 ∧
      t.fget (Fld.BOOT_HIST.REASON 0) = 7 ∧ t.fget (Fld.BOOT_HIST.KIND 0) = 0 ∧ t.fget (Fld.BOOT_HIST.STAGE 0) = 1 ∧
      t.fget (Fld.BOOT_HIST.REASON 1) = s.fget (Fld.BOOT_HIST.REASON 0) % 8 ∧ t.boot.kind = 0 ∧
      t.flash = (match s.log.erasing with | none => s.flash | some b => s.flash.filter (fun e => keyBand e.1 ≠ b))) ∧
  (∀ (s : State) (dt : Nat), s.starting = true → s.boot.kind = 0 → s.chrys = true → s.fget Fld.BOOT_STS.FAILS < 2 →
    ∃ t, exec (.watchdogExpiry dt) s = .next t ∧ t.dev = .training ∧ t.bootStage = 1 ∧
      t.fget Fld.BOOT_STS.FAILS = s.fget Fld.BOOT_STS.FAILS + 1 ∧ t.fget Fld.BOOT_STS.LAST_REASON = 6) ∧
  (∀ (s : State) (dt : Nat), s.isOpen = true →
    ∃ t u : State, exec (.watchdogExpiry dt) s = .next t ∧ t = u.warmReset ∧ t.dev = .training ∧ t.boot.kind = 1 ∧
      u.fget (Fld.BOOT_HIST.KIND 0) = 1 ∧ u.fget (Fld.BOOT_HIST.REASON 0) = 6 ∧ u.fget (Fld.BOOT_HIST.STAGE 0) = 8 ∧
      Reports (srcOf 1 4) 0x20 s u ∧ u = { s.elapse dt with regs := u.regs, flt := u.flt }) ∧
  (∀ (s : State) (dt : Nat), s.starting = true → (s.boot.kind = 0 ∨ s.boot.kind = 3) → s.fget Fld.BOOT_STS.FAILS = 2 →
    s.boot.startAt + 1000000000 * s.fget Fld.BOOT_CFG.START_TIMEOUT_S ≤ s.now + dt →
    ∃ t, exec (.startTimeout dt) s = .next t ∧ t.dev = .basin ∧ t.fget Fld.BOOT_STS.BASIN = 1 ∧
      t.fget Fld.BOOT_STS.FAILS = 3 ∧ t.fget Fld.BOOT_STS.LAST_REASON = 6 ∧
      t.fget (Fld.BOOT_HIST.REASON 0) = 6 ∧ t.boot.loaded = none ∧ t.boot.hist.length = 8 ∧
      (∀ n, n < 32 → (t.ld n).decs = [] ∧ (s.bound n = true → (t.ld n).st = .sealed)) ∧
      t.flash = s.flash ∧ t.log = s.log ∧ t.dram = s.dram ∧ t.sealedImg = s.sealedImg) ∧
  (∀ (s : State) (dt : Nat), s.dev = .basin →
    ∃ t, exec (.retry dt) s = .next t ∧ t.dev = .training ∧ t.fget Fld.BOOT_STS.START_KIND = 3 ∧ t.boot.kind = 3 ∧
      t.bootStage = 1 ∧ t.fget Fld.BOOT_STS.FAILS = 0 ∧ t.fget Fld.FLM_PROT_STS.LOCKOUT = 0 ∧ t.flm.session = none ∧
      t.dram = [] ∧ t.flash = (match s.log.erasing with | none => s.flash | some b => s.flash.filter (fun e => keyBand e.1 ≠ b))) ∧
  (∀ (s : State) (dt : Nat), s.dev = .training → s.on Fld.BOOT_STS.BASIN_DEFERRED = true →
    ∃ t, exec (.retry dt) s = .next t ∧ t.dev = .training ∧ t.boot.kind = s.boot.kind ∧ t.fget Fld.BOOT_STS.FAILS = 0 ∧
      t.fget Fld.BOOT_STS.BASIN_DEFERRED = 0 ∧ t.bootStage = (stagesOf s.boot.kind).headD 1 ∧ t.dram = s.dram ∧
      t = { s.elapse dt with
        regs := t.regs, boot := t.boot, dev := .training, colTime := t.colTime, beat := t.beat, reservePm := t.reservePm
        timeLost := false }) ∧
  (∀ (s : State) (dt k : Nat) (rest : List Nat) (img : Image), s.boot.repair = k :: rest → s.boot.loaded = some img →
    s.isOpen = true →
    ∃ t, exec (.bootCopyRepairDone dt k true) s = .next t ∧ (k, img) ∈ t.boot.copies ∧
      (∀ j i, j ≠ k → ((j, i) ∈ t.boot.copies ↔ (j, i) ∈ s.boot.copies)) ∧ t.boot.repair = rest ∧
      t.boot.retried = false ∧ t.fget Fld.BOOT_STS.REPAIR_ACTIVE = (if rest = [] then 0 else 1) ∧
      t = { s.elapse dt with regs := t.regs, boot := t.boot, flm := t.flm }) ∧
  (∀ (s : State) (dt k : Nat) (rest : List Nat) (img : Image), s.boot.repair = k :: rest → s.boot.loaded = some img →
    s.isOpen = true →
    ∃ t, exec (.bootCopyRepairDone dt k false) s = .next t ∧ (∀ i, (k, i) ∉ t.boot.copies) ∧
      (s.boot.retried = false → t.boot.repair = k :: rest ∧ t.boot.retried = true ∧ t.regs = s.regs) ∧
      (s.boot.retried = true → t.boot.repair = rest ∧ t.boot.retried = false ∧ Reports (srcOf 84 7) 0x51 s t) ∧
      t = { s.elapse dt with regs := t.regs, boot := t.boot, flt := t.flt })

/-! ## Mailboxes, firmware and configuration (chapters 11, 13 and 18) -/

/-- R111: Set Timestamp stores its value in TS_BASE and the present CIS_ELAPSED in TS_MARK, clears TIME_LOST and changes no
other register; the timestamp reported is TS_BASE + 1,000 × (CIS_ELAPSED − TS_MARK) ns, and colony time at a start of a root or
STANDALONE module is the same sum. -/
def Obligations.TimestampIsSetAndReported : Prop :=
  (∀ (s : State) (dt : Nat) (v : Word), MboxReady s .fm →
    ∃ t, exec (.setTimestamp dt .fm v) s = .next t ∧ t.fget Fld.CIS_TS_BASE.TS_BASE = v.toNat ∧
      t.fget Fld.CIS_TS_MARK.TS_MARK = (s.elapse dt).nowUs % 2 ^ 64 ∧ t.fget Fld.CIS_TIME_STS.TIME_LOST = 0 ∧
      t = { s.elapse dt with regs := t.regs, out := t.out } ∧
      RegsBut [Fld.CIS_TS_BASE.TS_BASE, Fld.CIS_TS_MARK.TS_MARK, Fld.CIS_TIME_STS.TIME_LOST] s t) ∧
  (∀ (s : State) (dt : Nat) (m : Mbox), MboxReady s m → s.fget Fld.CIS_TIME_STS.TIME_LOST = 0 →
    s.fget Fld.CIS_TS_MARK.TS_MARK ≤ (s.elapse dt).nowUs →
    ∃ x code, exec (.getTimestamp dt m) s = .next ((s.elapse dt).emit (.mbox m code [x])) ∧
      x = (s.fget Fld.CIS_TS_BASE.TS_BASE + 1000 * ((s.elapse dt).nowUs - s.fget Fld.CIS_TS_MARK.TS_MARK)) % 2 ^ 64) ∧
  (∀ s : State, s.isMember = false → s.fget Fld.CIS_TIME_STS.TIME_LOST = 0 →
    s.startTime.colTime = (s.fget Fld.CIS_TS_BASE.TS_BASE + 1000 * (s.nowUs - s.fget Fld.CIS_TS_MARK.TS_MARK)) % 2 ^ 64)

/-- R300: Set Shutdown State stores the state of its LD and of no other, Get Shutdown State returns it, and neither changes a
dirty shutdown count, of an LD or of the device. -/
def Obligations.ShutdownStateIsStoredAndReturned : Prop :=
  ∀ (s : State) (dt dt' ld v : Nat) (m : Mbox), MboxReady s m → v < 256 →
    ∃ t, exec (.setShutdownState dt m ld v) s = .next t ∧ t.mb (shutdownKey m ld) = { s.mb (shutdownKey m ld) with shutdown := v } ∧
      (∀ k, k ≠ shutdownKey m ld → t.mb k = s.mb k) ∧ t = { s.elapse dt with mbx := t.mbx, out := t.out } ∧
      (∃ code, exec (.getShutdownState dt' m ld) t = .next ((t.elapse dt').emit (.mbox m code [v]))) ∧
      (∀ n, (t.ld n).dsc = (s.ld n).dsc) ∧ t.fab.devDsc = s.fab.devDsc

/-- R290, R294, R298 to R300, R111, R346: what the commands that report answer, and that they change nothing. The values the
model holds no state for (`info`) are constants of Config, and a temperature, a percentage and an estimate of time are free
values (log entries 39 and 40). An opcode outside Tables 11-6 and 11-7, and SET_LD_ALLOCATIONS, answer Unsupported. -/
def Obligations.MailboxReportsWhatTheDeviceHolds : Prop :=
  (∀ (s : State) (dt : Nat) (m : Mbox), MboxReady s m →
    exec (.identify dt m) s = .next ((s.elapse dt).emit (.mbox m 0 [Config.otpSerial.toNat, 3, info 0])) ∧
    exec (.getResponseMessageLimit dt m) s = .next ((s.elapse dt).emit (.mbox m 0 [info 1])) ∧
    exec (.getEventInterruptPolicy dt m) s = .next ((s.elapse dt).emit (.mbox m 0 [(s.mb (mboxKey m)).policy.toNat])) ∧
    exec (.getTimestamp dt m) s = .next ((s.elapse dt).emit (.mbox m 0 [(s.elapse dt).timestamp])) ∧
    exec (.getSupportedLogs dt m) s = .next ((s.elapse dt).emit (.mbox m 0 [1, 4 * (commandList (m == .fm)).length])) ∧
    exec (.getLog dt m) s = .next ((s.elapse dt).emit (.mbox m 0
      ((commandList (m == .fm)).flatMap (fun op => [op, info (0x10000 + op) % 65536])))) ∧
    exec (.identifyMemoryDevice dt m) s = .next ((s.elapse dt).emit (.mbox m 0
      [s.capacity m (· ≠ 2), s.capacity m (· = 2), 0, info 2])) ∧
    exec (.getPartitionInfo dt m) s = .next ((s.elapse dt).emit (.mbox m 0
      [s.capacity m (· = 2), s.capacity m (· ≠ 2), 0, 0])) ∧
    exec (.getAlertConfiguration dt m) s = .next ((s.elapse dt).emit (.mbox m 0 [(s.mb (mboxKey m)).alert.toNat])) ∧
    exec (.getPoisonList dt m) s = .next ((s.elapse dt).emit (.mbox m 0
      ((s.poisonList m).flatMap (fun e => [e.1, e.2])))) ∧
    exec (.getFwInfo dt m) s = .next ((s.elapse dt).emit (.mbox m 0
      [2, 1, s.fget Fld.BOOT_FW.VERSION, s.fget Fld.BOOT_FW_STORED.VERSION, 1])) ∧
    exec (.setLdAllocations dt m) s = .next ((s.elapse dt).emit (.mbox m 3 [])) ∧
    (∀ op, exec (.mailboxUnsupported dt m op) s = .next ((s.elapse dt).emit (.mbox m 3 []))) ∧
    (∀ ld, exec (.getShutdownState dt m ld) s = .next ((s.elapse dt).emit (.mbox m 0 [(s.mb (shutdownKey m ld)).shutdown]))) ∧
    (∀ l, l ≤ 3 → exec (.getEventRecords dt m l) s = .next ((s.elapse dt).emit (.mbox m 0
      ([((s.mb (mboxKey m)).log l).overflow, ((s.mb (mboxKey m)).log l).recs.length] ++
        ((s.mb (mboxKey m)).log l).recs.flatMap (fun r => r.handle :: r.bytes))))) ∧
    ((s.mb (mboxKey m)).scanDone = true → exec (.getScanMediaResults dt m) s =
      .next ((s.elapse dt).emit (.mbox m 0 ((s.mb (mboxKey m)).scan.flatMap (fun l => [64 * l, 64])))))) ∧
  (∀ (s : State) (dt : Nat) (m : Mbox), MboxReady s m →
    ∃ t u v : State, ∃ pct est temp : Nat, exec (.backgroundOperationStatus dt m) s = .next t ∧
      exec (.getScanMediaCapabilities dt m) s = .next u ∧ exec (.getHealthInfo dt m) s = .next v ∧
      t = { s.elapse dt with freeCtr := t.freeCtr, out := (s.elapse dt).out ++ [.mbox m 0 (if s.fab.bg.isSome then [1, s.fab.bgLast, pct] else [0, s.fab.bgLast, 100])] } ∧
      (s.fab.bg.isSome = true → pct < 100) ∧
      u = { s.elapse dt with freeCtr := u.freeCtr, out := (s.elapse dt).out ++ [.mbox m 0 [est]] } ∧
      v = { s.elapse dt with freeCtr := v.freeCtr, out := (s.elapse dt).out ++ [.mbox m 0 [s.needsService.toNat + 2 * s.degraded.toNat, s.lifeUsed, temp, (if m = .fm then s.fab.devDsc else (s.ld (mboxKey m)).dsc), sumNat ((List.range 8).map (fun c => s.fget (Fld.DRC_ECC_CNT.CORRECTED c))), s.fget Fld.LOG_READ_CNT.RETRY + s.fget Fld.LOG_READ_CNT.SOFT]] }) ∧
  (∀ (s : State) (dt p : Nat), MboxReady s .fm → p < 2 →
    exec (.getLdInfo dt .fm p) s = .next ((s.elapse dt).emit (.mbox .fm 0
      [sumNat ((s.ldsOn p).map (fun n => (s.ld n).extSize * extUnit)), (s.ldsOn p).length, info 3])) ∧
    exec (.getLdAllocations dt .fm p) s = .next ((s.elapse dt).emit (.mbox .fm 0
      ((s.ldsOn p).flatMap (fun n => [(s.ld n).ldId, (s.ld n).extBase, (s.ld n).extSize])))) ∧
    exec (.getQosControl dt .fm p) s = .next ((s.elapse dt).emit (.mbox .fm 0
      [s.fget Fld.FAB_DEVLOAD_CFG.LOAD_MOD, s.fget Fld.FAB_DEVLOAD_CFG.LOAD_SEV, (tabGet 0 p s.fab.qosOther).toNat])) ∧
    exec (.getQosAllocatedBw dt .fm p) s = .next ((s.elapse dt).emit (.mbox .fm 0 (s.byLdId p Fld.SLU_LD_PCFG.BW_ALLOC))) ∧
    exec (.getQosBwLimit dt .fm p) s = .next ((s.elapse dt).emit (.mbox .fm 0 (s.byLdId p Fld.SLU_LD_PCFG.BW_LIMIT))) ∧
    exec (.getPersistInfo dt .fm) s = .next ((s.elapse dt).emit (.mbox .fm 0
      [s.dev.code, s.fget Fld.SPL_GEN.GENERATION, s.fget Fld.WEIR_OWED.OWED, s.fget Fld.WEIR_STS.WEIR_PAGES,
        s.fget Fld.WEIR_STS.HARD_PAGES])) ∧
    ∃ t, ∃ pct : Nat, exec (.getQosStatus dt .fm p) s = .next t ∧
      t = { s.elapse dt with freeCtr := t.freeCtr, out := (s.elapse dt).out ++ [.mbox .fm 0 [pct]] })

/-- R288, R289, R294, R299: what the commands that set something write, each answering Success (the codes are log entry 40,
PRESUMED) and changing nothing else; and who is turned away: a tenant may not use the FM's commands, and in a molt's pause every
command answers Busy, and so it does while the mailbox still executes an Inject or Clear Poison (log entry 113, DESIGN CHOICE). A command wakes domains 3 to 7 where they are in RETENTION (R402). -/
def Obligations.MailboxSettingsAreStored : Prop :=
  (∀ (s : State) (dt : Nat) (m : Mbox), MboxReady s m →
    (∀ p : BitVec 32, ∃ t, exec (.setEventInterruptPolicy dt m p) s = .next t ∧
      t.mb (mboxKey m) = { s.mb (mboxKey m) with policy := p } ∧ (∀ k, k ≠ mboxKey m → t.mb k = s.mb k) ∧
      t = { s.elapse dt with mbx := t.mbx, out := (s.elapse dt).out ++ [.mbox m 0 []] }) ∧
    (∀ v : Word, ∃ t, exec (.setAlertConfiguration dt m v) s = .next t ∧
      t.mb (mboxKey m) = { s.mb (mboxKey m) with alert := v } ∧ (∀ k, k ≠ mboxKey m → t.mb k = s.mb k) ∧
      t = { s.elapse dt with mbx := t.mbx, out := (s.elapse dt).out ++ [.mbox m 0 []] }) ∧
    (∀ (l : Nat) (hs : List Nat), l ≤ 3 → (((s.mb (mboxKey m)).log l).recs.take hs.length).map (·.handle) = hs →
      ∃ t, exec (.clearEventRecords dt m l hs) s = .next t ∧
        (t.mb (mboxKey m)).log l = { (s.mb (mboxKey m)).log l with recs := if hs = [] then [] else ((s.mb (mboxKey m)).log l).recs.drop hs.length, overflow := 0 } ∧
        (∀ j, j ≠ l → (t.mb (mboxKey m)).log j = (s.mb (mboxKey m)).log j) ∧ (∀ k, k ≠ mboxKey m → t.mb k = s.mb k) ∧
        t = { s.elapse dt with mbx := t.mbx, out := (s.elapse dt).out ++ [.mbox m 0 []] })) ∧
  (∀ (s : State) (dt p modPct sevPct : Nat) (other : Word), FmMayChange s → p < 2 → modPct ≤ 100 → sevPct ≤ 100 →
    s.fget Fld.FAB_DEVLOAD_CFG.LOAD_OPT < modPct → modPct < sevPct →
    ∃ t, exec (.setQosControl dt .fm p modPct sevPct other) s = .next t ∧
      t.fget Fld.FAB_DEVLOAD_CFG.LOAD_MOD = modPct ∧ t.fget Fld.FAB_DEVLOAD_CFG.LOAD_SEV = sevPct ∧
      tabGet 0 p t.fab.qosOther = other ∧ (∀ q, q ≠ p → tabGet 0 q t.fab.qosOther = tabGet 0 q s.fab.qosOther) ∧
      t.cfgDue.isSome = true ∧
      t = { s.elapse dt with regs := t.regs, fab := { s.fab with qosOther := t.fab.qosOther }, cfgDue := t.cfgDue, out := (s.elapse dt).out ++ [.mbox .fm 0 []] } ∧
      RegsBut [Fld.FAB_DEVLOAD_CFG.LOAD_MOD, Fld.FAB_DEVLOAD_CFG.LOAD_SEV] s t) ∧
  (∀ (s : State) (dt p start : Nat) (vs : List Nat), FmMayChange s → p < 2 → start + vs.length ≤ 16 → (∀ v ∈ vs, v ≤ 255) →
    ∃ t u, exec (.setQosAllocatedBw dt .fm p start vs) s = .next t ∧ exec (.setQosBwLimit dt .fm p start vs) s = .next u ∧
      (∀ i n, i < vs.length → s.ldAt p (start + i) = some n → t.fget (Fld.SLU_LD_PCFG.BW_ALLOC n) = vs.getD i 0 ∧
        u.fget (Fld.SLU_LD_PCFG.BW_LIMIT n) = vs.getD i 0) ∧
      t.cfgDue.isSome = true ∧ u.cfgDue.isSome = true ∧
      t = { s.elapse dt with regs := t.regs, cfgDue := t.cfgDue, out := (s.elapse dt).out ++ [.mbox .fm 0 []] } ∧
      u = { s.elapse dt with regs := u.regs, cfgDue := u.cfgDue, out := (s.elapse dt).out ++ [.mbox .fm 0 []] } ∧
      RegsBut (allLds.map Fld.SLU_LD_PCFG.BW_ALLOC) s t ∧ RegsBut (allLds.map Fld.SLU_LD_PCFG.BW_LIMIT) s u) ∧
  (∀ (s : State) (dt n p : Nat) (v : Word), MboxReady s (.tenant n) →
    exec (.setTimestamp dt (.tenant n) v) s = .next ((s.elapse dt).emit (.mbox (.tenant n) 3 [])) ∧
    exec (.getLdInfo dt (.tenant n) p) s = .next ((s.elapse dt).emit (.mbox (.tenant n) 3 [])) ∧
    exec (.quiesceLd dt (.tenant n) p) s = .next ((s.elapse dt).emit (.mbox (.tenant n) 3 []))) ∧
  (∀ (s : State) (dt ld : Nat) (m : Mbox), s.mboxUp m = true → (s.molt.isSome = true ∨ s.mboxWaits m = true) →
    (∀ d, 3 ≤ d → d ≤ 7 → (s.dom d).mode ≠ 1) →
    exec (.identify dt m) s = .next ((s.elapse dt).emit (.mbox m 6 [])) ∧
    exec (.bindLd dt m ld 0 0) s = .next ((s.elapse dt).emit (.mbox m 6 []))) ∧
  (∀ (s : State) (dt d : Nat) (m : Mbox), s.mboxUp m = true → 3 ≤ d → d ≤ 7 → (s.dom d).mode = 1 → (s.dom d).waking = false →
    ∃ t, exec (.getTimestamp dt m) s = .next t ∧ t.dom d = { s.dom d with pend := none, waking := true, wasOff := false, wakeAt := s.now + dt })

/-- R290, R294, R297, R319: a line is poisoned or cleared (on a page of an LD as an accepted write), a scan keeps the lines that
did not read back, and Sanitize and Secure Erase: on the FM-owned LD they destroy every LD's key, and Sanitize leaves no band
and no byte of DRAM standing (both at once: log entry 41, DESIGN CHOICE); on a tenant LD they run in the background. -/
def Obligations.MediaCommandsAct : Prop :=
  (∀ (s : State) (dt dpa : Nat) (data : Line), FmMayChange s → s.hostBase ≤ dpa → dpa + 64 ≤ s.installed →
    dpa % 64 = 0 → s.ldOfPage (dpa / 4096) = none →
    ∃ t u, exec (.injectPoison dt .fm dpa) s = .next t ∧ exec (.clearPoison dt .fm dpa data) s = .next u ∧
      t.linePoison (dpa / 64) = true ∧ u.linePoison (dpa / 64) = false ∧
      (∀ i, i < 64 → t.byte (dpa + i) = 0 ∧ u.byte (dpa + i) = lineByte data i) ∧
      (∀ a, a / 64 ≠ dpa / 64 → t.byte a = s.byte a ∧ u.byte a = s.byte a ∧
        t.linePoison (a / 64) = s.linePoison (a / 64) ∧ u.linePoison (a / 64) = s.linePoison (a / 64)) ∧
      t.fab = { s.fab with found := setDel (dpa / 64) s.fab.found } ∧ u.fab = { s.fab with found := setDel (dpa / 64) s.fab.found } ∧
      t = { s.elapse dt with dram := t.dram, poison := t.poison, fab := t.fab, out := (s.elapse dt).out ++ [.mbox .fm 0 []] } ∧
      u = { s.elapse dt with dram := u.dram, poison := u.poison, fab := u.fab, out := (s.elapse dt).out ++ [.mbox .fm 0 []] }) ∧
  (∀ (s : State) (dt dpa n : Nat) (m : Mbox), MboxReady s m → s.isOpen = true → s.inMedia m dpa 64 = true → dpa % 64 = 0 →
    s.ldOfPage (dpa / 4096) = some n →
    ∃ t u : State, exec (.injectPoison dt m dpa) s = .next t ∧
      t = ((u.step4 (Req.mk s.fab.nextRid mboxPort 0 n .write dpa dpa 0 (BitVec.allOnes 64) true (mboxKey m) .order false)).settle).showWeir ∧
      u = { s.elapse dt with fab := { s.fab with reqs := s.fab.reqs ++ [Req.mk s.fab.nextRid mboxPort 0 n .write dpa dpa 0 (BitVec.allOnes 64) true (mboxKey m) .order false], nextRid := s.fab.nextRid + 1 } }) ∧
  (∀ (s : State) (dt dpa lines : Nat) (bad : List Nat) (m : Mbox), MboxReady s m → s.isOpen = true → s.fab.bg = none →
    dpa % 64 = 0 → s.inMedia m dpa (64 * lines) = true →
    ∃ t, exec (.scanMedia dt m dpa lines bad) s = .next t ∧ (t.mb (mboxKey m)).scanDone = true ∧
      (∀ l, l ∈ (t.mb (mboxKey m)).scan ↔
        if dpa / 64 ≤ l ∧ l < dpa / 64 + lines then (l, true) ∈ s.poison ∨ l ∈ bad else l ∈ (s.mb (mboxKey m)).scan) ∧
      (∀ k, k ≠ mboxKey m → t.mb k = s.mb k) ∧
      (∀ l, l ∈ t.fab.found ↔ l ∈ s.fab.found ∨
        (dpa / 64 ≤ l ∧ l < dpa / 64 + lines ∧ ((l, true) ∈ s.poison ∨ l ∈ bad))) ∧
      t = { s.elapse dt with
        mbx := t.mbx, fab := { s.fab with bgLast := 0x4304, found := t.fab.found }, out := (s.elapse dt).out ++ [.mbox m 1 []] }) ∧
  (∀ (s : State) (dt : Nat), FmMayChange s → s.fab.bg = none →
    ∃ t u v : State, exec (.secureErase dt .fm) s = .next t ∧ exec (.sanitize dt .fm) s = .next u ∧
      u = (v.settle.showWeir).emit (.mbox .fm 0 []) ∧
      (∀ n, n < 32 → t.ld n = { s.ld n with keyGen := (s.ld n).keyGen + 1 } ∧ (v.ld n).keyGen = (s.ld n).keyGen + 1 ∧
        (v.ld n).ckpts = [] ∧ (v.ld n).dflt = (if s.cls n = 2 then 3 else 0) ∧ ∀ p r, (p, r) ∈ v.pages → r.ld ≠ n) ∧
      t.fab = { s.fab with sanitized := true, bgLast := 0x4401 } ∧ t.cfgDue.isSome = true ∧
      t = { s.elapse dt with lds := t.lds, fab := t.fab, cfgDue := t.cfgDue, out := (s.elapse dt).out ++ [.mbox .fm 0 []] } ∧
      v.fab.sanitized = true ∧ v.dram = [] ∧ v.poison = [] ∧ v.eddy = [] ∧ v.flash = [] ∧ v.sealedImg = none ∧
      v.log.stripes = [] ∧ v.log.used = [] ∧ (∀ b, b ∈ v.log.free ↔ b ∈ s.log.used ∨ b ∈ s.log.free ∨ b ∈ s.log.tlc) ∧
      (∀ b, b ∈ s.log.used ∨ b ∈ s.log.free ∨ b ∈ s.log.tlc → tabGet 0 b s.log.erases < tabGet 0 b v.log.erases) ∧
      v.psq = s.psq ∧ v.boot = s.boot ∧ v.cfgHalf = s.cfgHalf) ∧
  (∀ (s : State) (dt n op : Nat) (c : Instr), MboxReady s (.tenant n) → s.isOpen = true → s.fab.bg = none →
    (s.ld n).st = .quiesced → (s.ld n).pending = [] → (∀ k ∈ (s.ld n).ckpts, s.namedSource n k.id = false) →
    (c = .sanitize dt (.tenant n) ∧ op = 0x4400) ∨ (c = .secureErase dt (.tenant n) ∧ op = 0x4401) →
    ∃ t, exec c s = .next t ∧ t.ld n = { s.ld n with keyGen := (s.ld n).keyGen + 1, saniGen := some s.spill.usedGen } ∧ (∀ k, k ≠ n → t.ld k = s.ld k) ∧
      t.fab = { s.fab with bg := some (.sanitize n), bgStep := 1, bgLast := op } ∧ t.cfgDue.isSome = true ∧
      t = { s.elapse dt with lds := t.lds, fab := t.fab, cfgDue := t.cfgDue, out := (s.elapse dt).out ++ [.mbox (.tenant n) 1 []] })

/-- R34, R192, R278 to R282, R295, R296: the vendor commands about an LD. Each that its LD's state allows takes effect and
answers Success, or begins as a background operation; a BIND_LD, REBIND_LD or RESUME_LD that the LD's state does not allow, and each of them while the device is not REFILLING or SERVING,
answers NOT_PERMITTED and changes nothing; one that runs in the background is Busy while another does; and a REG_ACCESS is one access in the FM-owned LD's BAR0. -/
def Obligations.VendorCommandsActOnLds : Prop :=
  (∀ (s : State) (dt n base size : Nat), FmMayChange s → n < 32 → s.bound n = false → (s.ld n).ckpts = [] →
    s.extentOk n base size = true →
    ∃ t u : State, exec (.setLdExtent dt .fm n base size) s = .next t ∧ t = (u.settle.showWeir).emit (.mbox .fm 0 []) ∧
      (u.ld n).extBase = base ∧ (u.ld n).extSize = size ∧ (u.ld n).st = .unbound ∧
      (u.ld n).classLast = (if (s.ld n).wasBound then (s.ld n).classLast else some (s.cls n)) ∧
      (u.ld n).dflt = (if s.cls n = 2 then 3 else if s.on (Fld.RFL_LD_CFG.START_POLICY n) then 2 else 0) ∧
      (∀ p r, (p, r) ∈ u.pages → r.ld ≠ n) ∧
      (s.on (Fld.RFL_LD_CFG.START_POLICY n) = false → ∀ a, base * extPages ≤ a / 4096 → a / 4096 < (base + size) * extPages → u.byte a = 0) ∧
      (∀ m, m ≠ n → u.ld m = s.ld m) ∧ u.cfgDue.isSome = true ∧
      u.fget (Fld.SLU_LD_BIND.EXT_BASE n) = base % 2 ^ (Fld.SLU_LD_BIND.EXT_BASE n).width ∧
      u.fget (Fld.SLU_LD_BIND.EXT_SIZE n) = size % 2 ^ (Fld.SLU_LD_BIND.EXT_SIZE n).width ∧
      u = { s.elapse dt with
        regs := u.regs, lds := u.lds, pages := u.pages, eddy := u.eddy, dram := u.dram, poison := u.poison, cfgDue := u.cfgDue
        rill := u.rill, log := u.log, rfl_ := u.rfl_ }) ∧
  (∀ (s : State) (dt n p id : Nat), FmMayChange s → n < 32 → s.bound n = false → (s.ld n).extSize ≠ 0 → s.placeCheck n p id = 0 →
    ∃ t u : State, exec (.bindLd dt .fm n p id) s = .next t ∧
      t = (((u.refill).checkFilled).showWeir).emit (.mbox .fm 0 []) ∧
      (u.ld n).port = p ∧ (u.ld n).ldId = id ∧ (u.ld n).cutSeq = 0 ∧ (u.ld n).decs = [] ∧
      (u.ld n).bindGen = s.spill.usedGen ∧ (u.ld n).ckpts = (s.ld n).ckpts ∧ (u.ld n).cuts = (s.ld n).cuts ∧
      (u.ld n).reach = s.on (Fld.FAB_PORT_STS.LINK_UP p) ∧
      (u.ld n).st = (if 0 < u.unfilled n then .refilling else .serving) ∧
      u.fget (Fld.SLU_LD_BIND.PORT n) = p ∧ u.fget (Fld.SLU_LD_BIND.LD_ID n) = id ∧
      u.fget (Fld.SLU_LD_BIND.STATE n) = (u.ld n).st.code ∧ (∀ m, m ≠ n → u.ld m = s.ld m) ∧
      u = { s.elapse dt with
        regs := u.regs, lds := u.lds, pages := u.pages, eddy := u.eddy, dram := u.dram, poison := u.poison, cfgDue := u.cfgDue
        rill := u.rill, log := u.log, rfl_ := u.rfl_ }) ∧
  (∀ (s : State) (dt n p id : Nat), FmMayChange s → n < 32 → s.bound n = true → s.placeCheck n p id = 0 →
    ∃ t u : State, exec (.rebindLd dt .fm n p id) s = .next t ∧ t = (u.settle.showWeir).emit (.mbox .fm 0 []) ∧
      (u.ld n).port = p ∧ (u.ld n).ldId = id ∧ (u.ld n).decs = [] ∧
      (u.ld n).reach = s.on (Fld.FAB_PORT_STS.LINK_UP p) ∧ (u.ld n).st = (s.ld n).st ∧
      (u.ld n).extBase = (s.ld n).extBase ∧ (u.ld n).extSize = (s.ld n).extSize ∧ (u.ld n).gen = (s.ld n).gen ∧
      (u.ld n).ckpts = (s.ld n).ckpts ∧ (∀ r ∈ u.fab.reqs, r.ld ≠ n) ∧
      ((∀ r ∈ s.fab.reqs, r.ld ≠ n) → u.pages = s.pages ∧ u.dram = s.dram ∧ u.fab = s.fab) ∧
      u.fget (Fld.SLU_LD_BIND.PORT n) = p ∧ u.fget (Fld.SLU_LD_BIND.LD_ID n) = id) ∧
  (∀ (s : State) (dt n : Nat), FmMayChange s → n < 32 → (s.ld n).st = .quiesced → s.fab.bg = none →
    ∃ t u v : State, exec (.unbindLd dt .fm n) s = .next t ∧ t = v.settle.showWeir ∧
      v = (u.abortCuts n).background .fm (.unbind n) 0xC004 ∧ v.fab.bg = some (.unbind n) ∧
      u.ld n = { s.ld n with unbinding := true } ∧ (∀ m, m ≠ n → u.ld m = s.ld m) ∧
      u = { s.elapse dt with lds := u.lds }) ∧
  (∀ (s : State) (dt n : Nat), n < 32 → s.isOpen = true → (s.ld n).unbinding = true → (s.ld n).pending = [] →
    (s.ld n).owed = 0 → s.inFlight n = 0 →
    ∃ t u : State, exec (.unbindComplete dt n) s = .next t ∧
      t = ((u.settle.showWeir).modFab (fun f => { f with bg := none })).emit (.mbox .fm 0 []) ∧
      (u.ld n).st = .unbound ∧ (u.ld n).gen = ((s.ld n).gen + 1) % 2 ^ 32 ∧ (u.ld n).unbinding = false ∧ (u.ld n).decs = [] ∧
      (u.ld n).ckpts = (s.ld n).ckpts ∧ (∀ k, k < 256 → u.ring n k = Ring.new) ∧
      ((∀ r ∈ s.fab.reqs, r.ld ≠ n) → u.pages = s.pages ∧ u.dram = s.dram) ∧
      u.fget (Fld.SLU_LD_BIND.GEN n) = ((s.ld n).gen + 1) % 2 ^ 32 % 2 ^ (Fld.SLU_LD_BIND.GEN n).width) ∧
  (∀ (s : State) (dt n : Nat), FmMayChange s → n < 32 → ((s.ld n).st = .refilling ∨ (s.ld n).st = .serving) → s.fab.bg = none →
    ∃ t, exec (.quiesceLd dt .fm n) s = .next t ∧ t.ld n = { s.ld n with quiesce := some (s.now + dt) } ∧
      (∀ m, m ≠ n → t.ld m = s.ld m) ∧
      t = { s.elapse dt with lds := t.lds, fab := { s.fab with bg := some (.quiesce n), bgStep := 0, bgLast := 0xC005 }, out := (s.elapse dt).out ++ [.mbox .fm 1 []] }) ∧
  (∀ (s : State) (dt n : Nat), n < 32 → s.isOpen = true → (s.ld n).quiesce.isSome = true →
    (∀ r ∈ s.fab.reqs, r.ld = n → r.pastThree = false) →
    ∃ t u : State, exec (.quiesceComplete dt n) s = .next t ∧
      t = ((((u.wakeLd n).settle).showWeir).modFab (fun f => { f with bg := none })).emit (.mbox .fm 0 []) ∧
      u.ld n = { s.ld n with quiesce := none, restoring := decide (0 < s.unfilled n), st := .quiesced } ∧
      (∀ m, m ≠ n → u.ld m = s.ld m) ∧ u.fget (Fld.SLU_LD_BIND.STATE n) = LdState.quiesced.code ∧
      u = { s.elapse dt with regs := u.regs, lds := u.lds } ∧ RegsBut [Fld.SLU_LD_BIND.STATE n] s u) ∧
  (∀ (s : State) (dt n : Nat), FmMayChange s → n < 32 → s.mayResume n = true →
    ∃ t u : State, exec (.resumeLd dt .fm n) s = .next t ∧
      t = (((u.refill).checkFilled).showWeir).emit (.mbox .fm 0 []) ∧
      u.ld n = { s.ld n with restoring := false, st := if 0 < s.unfilled n then .refilling else .serving } ∧
      (∀ m, m ≠ n → u.ld m = s.ld m) ∧
      u = { s.elapse dt with regs := u.regs, lds := u.lds } ∧ RegsBut [Fld.SLU_LD_BIND.STATE n] s u) ∧
  (∀ (s : State) (dt n p id : Nat), FmMayChange s → n < 32 →
    (s.bound n = true → exec (.bindLd dt .fm n p id) s = .next ((s.elapse dt).emit (.mbox .fm 2 [0x0B]))) ∧
    (s.bound n = false → exec (.rebindLd dt .fm n p id) s = .next ((s.elapse dt).emit (.mbox .fm 2 [0x0B]))) ∧
    (s.mayResume n = false → exec (.resumeLd dt .fm n) s = .next ((s.elapse dt).emit (.mbox .fm 2 [0x0B])))) ∧
  (∀ (s : State) (dt n p id : Nat) (c : Instr), MboxReady s .fm → (s.isOpen = false ∨ 32 ≤ n) →
    c ∈ [Instr.setLdExtent dt .fm n p id, .bindLd dt .fm n p id, .rebindLd dt .fm n p id, .resumeLd dt .fm n] ∨
    (s.fab.bg = none ∧ c ∈ [Instr.quiesceLd dt .fm n, .unbindLd dt .fm n]) →
    exec c s = .next ((s.elapse dt).emit (.mbox .fm 2 [if s.isOpen then 3 else 0x0B]))) ∧
  (∀ (s : State) (dt n : Nat) (c : Instr), MboxReady s .fm → s.fab.bg.isSome = true →
    c ∈ [Instr.quiesceLd dt .fm n, .unbindLd dt .fm n] → exec c s = .next ((s.elapse dt).emit (.mbox .fm 6 []))) ∧
  (∀ (s : State) (dt off width : Nat) (v : Word), MboxReady s .fm → off < 2 ^ 28 →
    exec (.regAccess dt .fm off width false v) s =
      .next (((s.elapse dt).regRead off width).1.emit (.mbox .fm 0 [((s.elapse dt).regRead off width).2])) ∧
    (s.fmWritable off = true → exec (.regAccess dt .fm off width true v) s =
      .next (((s.elapse dt).regWrite .fm off width v.toNat).emit (.mbox .fm 0 []))))

/-- R336, R347 to R349: a transfer opens by erasing its target copy and goes on part by part in order; a repeated part is
answered without a write; End judges the image and begins its propagation or rewrites the target copy; an abort and 60 s without
a part abandon the transfer; each copy checked hands the turn to the next, and the last ends the operation (a copy that fails
ends it too: log entry 42). -/
def Obligations.FirmwareTransferRuns : Prop :=
  (∀ (s : State) (dt len : Nat) (digest : Word), MboxReady s .fm → s.isCut = false → s.fab.bg ≠ some .transferFw →
    (∀ x, s.boot.xfer = some x → x.last ≠ some (0, len, digest)) → len % 128 = 0 → len ≤ imageMax →
    ∃ t, exec (.transferFwInitiate dt .fm 2 0 len digest) s = .next t ∧
      t.fget Fld.BOOT_XFER.STATE = 1 ∧ t.fget Fld.BOOT_XFER.TARGET_COPY = 3 ∧ t.fget Fld.BOOT_XFER.COPIES_WRITTEN = 0 ∧
      t.fget Fld.BOOT_XFER.NEXT_OFFSET = len ∧ t.boot.xfer = some (Xfer.mk (s.now + dt) (some (0, len, digest)) none []) ∧
      (∀ i, (3, i) ∉ t.boot.copies) ∧ (∀ k i, k ≠ 3 → ((k, i) ∈ t.boot.copies ↔ (k, i) ∈ s.boot.copies)) ∧
      t.boot.repair = s.boot.repair.filter (· ≠ 3) ∧
      t = { s.elapse dt with regs := t.regs, boot := t.boot, flm := t.flm, out := (s.elapse dt).out ++ [.mbox .fm 0 []] }) ∧
  (∀ (s : State) (dt off len : Nat) (digest : Word) (x : Xfer), MboxReady s .fm → s.isCut = false →
    s.fab.bg ≠ some .transferFw → s.boot.xfer = some x → x.img = none → x.last ≠ some (off, len, digest) →
    off = s.fget Fld.BOOT_XFER.NEXT_OFFSET → len % 128 = 0 → off + len ≤ imageMax →
    ∃ t, exec (.transferFwContinue dt .fm 2 off len digest) s = .next t ∧
      t.fget Fld.BOOT_XFER.NEXT_OFFSET = off + len ∧
      t.boot = { s.boot with xfer := some (Xfer.mk (s.now + dt) (some (off, len, digest)) none []) } ∧
      t = { s.elapse dt with regs := t.regs, boot := t.boot, flm := t.flm, out := (s.elapse dt).out ++ [.mbox .fm 0 []] } ∧
      RegsBut [Fld.BOOT_XFER.NEXT_OFFSET] s t) ∧
  (∀ (s : State) (dt off len : Nat) (digest : Word) (x : Xfer), MboxReady s .fm → s.isCut = false →
    s.fab.bg ≠ some .transferFw → s.boot.xfer = some x → x.last = some (off, len, digest) →
    exec (.transferFwContinue dt .fm 2 off len digest) s = .next { s.elapse dt with
      boot := { s.boot with xfer := some { x with lastAt := s.now + dt } }, out := (s.elapse dt).out ++ [.mbox .fm 0 []] }) ∧
  (∀ (s : State) (dt off len k : Nat) (digest : Word) (img : Image) (x : Xfer) (c : Instr), MboxReady s .fm →
    s.isCut = false → s.fab.bg = none → len % 128 = 0 → off + len ≤ imageMax → k < 4 →
    (c = .transferFwEnd dt .fm 2 off len digest img ∧ s.boot.xfer = some x ∧ x.img = none ∧ x.last ≠ some (off, len, digest) ∧
      off = s.fget Fld.BOOT_XFER.NEXT_OFFSET ∧ k = s.fget Fld.BOOT_XFER.TARGET_COPY) ∨
    (c = .transferFwFull dt .fm 2 off len digest img ∧ s.boot.xfer = none ∧ off = 0 ∧ k = 3) →
    ∃ t, exec c s = .next t ∧
      ((imgValid img && imgFits img) = true → t.fget Fld.BOOT_XFER.STATE = 3 ∧ (k, img) ∈ t.boot.copies ∧
        t.boot.xfer = some (Xfer.mk (s.now + dt) (some (off, len, digest)) (some img) ([3, 2, 1, 0].filter (· ≠ k))) ∧
        t.fab = { s.fab with bg := some .transferFw, bgStep := 0, bgLast := 0x0201 } ∧
        t.out = (s.elapse dt).out ++ [.mbox .fm 1 []]) ∧
      ((imgValid img && imgFits img) = false → t.fget Fld.BOOT_XFER.STATE = 5 ∧ t.boot.xfer = none ∧ t.fab = s.fab ∧
        (s.boot.loaded.isSome = true → k ∈ t.boot.repair) ∧ t.out = (s.elapse dt).out ++ [.mbox .fm 0xA []]) ∧
      t = { s.elapse dt with regs := t.regs, boot := t.boot, flm := t.flm, fab := t.fab, out := t.out }) ∧
  (∀ (s : State) (dt : Nat) (x : Xfer) (c : Instr) (o : List Out), s.boot.xfer = some x → x.img = none →
    (c = .transferFwAbort dt .fm ∧ o = [.mbox .fm 0 []] ∧ MboxReady s .fm ∧ s.isCut = false ∧ s.fab.bg ≠ some .transferFw) ∨
    (c = .transferIdleTimeout dt ∧ o = [] ∧ x.lastAt + 60000000000 ≤ s.now + dt) →
    ∃ t, exec c s = .next t ∧ t.fget Fld.BOOT_XFER.STATE = 6 ∧ t.boot.xfer = none ∧ t.boot.copies = s.boot.copies ∧
      (s.boot.loaded.isSome = true → s.fget Fld.BOOT_XFER.TARGET_COPY ∈ t.boot.repair) ∧
      t = { s.elapse dt with regs := t.regs, boot := t.boot, out := (s.elapse dt).out ++ o } ∧
      RegsBut [Fld.BOOT_XFER.STATE, Fld.BOOT_STS.REPAIR_ACTIVE] s t) ∧
  (∀ (s : State) (dt at_ k : Nat) (last : Option (Nat × Nat × Word)) (img : Image) (rest : List Nat), s.isCut = false →
    s.dev ≠ .off → s.dev ≠ .basin → k < 4 → k ∉ rest → s.boot.xfer = some (Xfer.mk at_ last (some img) (k :: rest)) →
    ∃ t, exec (.fwPropagateCopyDone dt k true) s = .next t ∧ (k, img) ∈ t.boot.copies ∧
      t.fget Fld.BOOT_XFER.COPIES_WRITTEN = (s.fget Fld.BOOT_XFER.COPIES_WRITTEN ||| 2 ^ k) % 16 ∧
      (rest = [] → t.fget Fld.BOOT_XFER.STATE = 4 ∧ t.boot.xfer = none ∧ t.fab = { s.fab with bg := none } ∧
        t.out = (s.elapse dt).out ++ [.mbox .fm 0 []]) ∧
      (rest ≠ [] → t.boot.xfer = some (Xfer.mk at_ last (some img) rest) ∧ t.fab = s.fab ∧ t.out = (s.elapse dt).out ∧
        ∀ i, (rest.headD 0, i) ∉ t.boot.copies) ∧
      t = { s.elapse dt with regs := t.regs, boot := t.boot, flm := t.flm, fab := t.fab, out := t.out }) ∧
  (∀ (s : State) (dt at_ k : Nat) (last : Option (Nat × Nat × Word)) (img : Image) (rest : List Nat), s.isCut = false →
    s.dev ≠ .off → s.boot.xfer = some (Xfer.mk at_ last (some img) (k :: rest)) →
    ∃ t, exec (.fwPropagateCopyDone dt k false) s = .next t ∧ t.fget Fld.BOOT_XFER.STATE = 5 ∧ t.boot.xfer = none ∧
      t.fab = { s.fab with bg := none } ∧ t.out = (s.elapse dt).out ++ [.mbox .fm 4 []] ∧ t.boot.copies = s.boot.copies ∧
      t = { s.elapse dt with regs := t.regs, boot := t.boot, fab := t.fab, out := t.out })

/-- R350 to R352, R232, R435: an offline activation waits for the next start, an online one begins a molt, which ends with the
new image running, or at 30 ms in a device warm reset recorded in BOOT_HIST; and the configuration is written to the older half
of a copy, its SEQ one higher. -/
def Obligations.ActivationMoltAndConfiguration : Prop :=
  (∀ (s : State) (dt : Nat), MboxReady s .fm → s.boot.xfer = none →
    exec (.activateFwOffline dt .fm 2) s = .next ((s.elapse dt).emit (.mbox .fm 0 []))) ∧
  (∀ (s : State) (dt slot : Nat), MboxReady s .fm → slot ≠ 2 →
    exec (.activateFwOffline dt .fm slot) s = .next ((s.elapse dt).emit (.mbox .fm 0xB [])) ∧
    exec (.activateFwOnline dt .fm slot) s = .next ((s.elapse dt).emit (.mbox .fm 0xB []))) ∧
  (∀ (s : State) (dt k : Nat) (img : Image), MboxReady s .fm → s.boot.xfer = none → s.moltBusy = false →
    s.stored = some (k, img) → s.fget Fld.BOOT_FW.VERSION ≠ img.fwVersion → img.moltFrom ≤ s.fget Fld.BOOT_FW.VERSION →
    img.ucodeMin ≤ s.fget Fld.BOOT_UCODE.RUN_VER →
    ∃ t, exec (.activateFwOnline dt .fm 2) s = .next t ∧ t.molt = some (s.now + dt) ∧ t.fget Fld.BOOT_STS.MOLT_ACTIVE = 1 ∧
      t.fget Fld.BOOT_STS.START_KIND = 4 ∧ t.flm = { s.flm with session := none } ∧ t.fget Fld.FLM_PROT_STS.SESSION = 0 ∧
      t = { s.elapse dt with regs := t.regs, flm := t.flm, molt := t.molt } ∧
      RegsBut [Fld.BOOT_STS.MOLT_ACTIVE, Fld.BOOT_STS.START_KIND, Fld.FLM_PROT_STS.SESSION, Fld.FLM_STS.STATE] s t) ∧
  (∀ (s : State) (dt t0 k : Nat) (img : Image), s.molt = some t0 → s.isOpen = true → s.stored = some (k, img) → k < 4 →
    ∃ t u : State, exec (.moltReady dt) s = .next t ∧ t = ((u.takeKept).emit (.mbox .fm 0 [])).settle ∧ u.molt = none ∧
      u.boot = { s.boot with loaded := some img } ∧ u.fget Fld.BOOT_STS.MOLT_ACTIVE = 0 ∧
      u.fget Fld.BOOT_STS.COPY_BOOTED = k ∧ u.fget Fld.BOOT_FW.VERSION = img.fwVersion % 2 ^ Fld.BOOT_FW.VERSION.width ∧
      u.fget Fld.BOOT_CNT.MOLTS = min (s.fget Fld.BOOT_CNT.MOLTS + 1) Fld.BOOT_CNT.MOLTS.max ∧
      u.fget (Fld.BOOT_HIST.KIND 0) = 4 ∧ u.fget (Fld.BOOT_HIST.REASON 0) = 0 ∧
      u = { s.elapse dt with regs := u.regs, boot := u.boot, molt := none }) ∧
  (∀ (s : State) (dt t0 : Nat) (loadFailed : Bool), s.molt = some t0 → s.isOpen = true →
    (loadFailed = true ∨ t0 + 30000000 ≤ s.now + dt) →
    ∃ t u : State, exec (.moltTimeout dt loadFailed) s = .next t ∧ t = u.warmReset ∧ t.dev = .training ∧ t.molt = none ∧
      t.boot.kind = 1 ∧ u.fget (Fld.BOOT_HIST.KIND 0) = 4 ∧ u.fget (Fld.BOOT_HIST.REASON 0) = (if loadFailed then 1 else 6) ∧
      u.fget (Fld.BOOT_HIST.STAGE 0) = 8 ∧ u = { s.elapse dt with regs := u.regs }) ∧
  (∀ (s : State) (dt h : Nat) (half : CfgHalf), h < 4 → s.dev ≠ .off → s.isCut = false → s.molt = none →
    h = s.olderHalf (h / 2) → s.nextCfg (h / 2) = some half →
    ∃ t u : State, exec (.configurationWriteDone dt h .ok) s = .next t ∧ t = ((u.kick).settle).showWeir ∧
      (h, half) ∈ u.cfgHalf ∧
      (∀ j v, j ≠ h → ((j, v) ∈ u.cfgHalf ↔ (j, v) ∈ s.cfgHalf)) ∧ u.flash = s.flash ∧ u.psq = s.psq) ∧
  (∀ (s : State) (c : Nat), s.copySeq c = s.copySeq (1 - c) → s.cfgDue.isSome = true → s.dev ≠ .basin →
    s.nextCfg c = some (CfgHalf.mk (s.copySeq c + 1) (s.regs.filter (fun e => cfgField e.1)) ((List.range 40).map s.defaultZ)
      (s.regs.filter (fun e => protField e.1)) s.flm.password 0xFFFF0000 true true s.bindings))

/-! ## Faults and the journal (chapter 14) -/

/-- R357, R449, R362: a checker writes its message into its source's holding register, or counts it in LOST when that is full; a
die sensor that passes 125 °C reports once; clearing VALID of FLT_FIRST_INFO opens the latch again. R358, R362: the collector
takes a message from its holding register, and nothing in OFF, where it has no power: a masked one is counted in LOST, the first that reaches LATCH_MIN while VALID is 0 is
latched, and one not seen in this beat enters the queue of 128 with its severity and beat. -/
def Obligations.FaultMessagesAreHeldAndCollected : Prop :=
  (∀ (s : State) (dt src kind addr : Nat) (cleared : Bool), Rst.sent src = true → maySend src kind = true →
    (cleared = true → kind ∈ clearKinds) → (∀ e ∈ s.flt.hold, e.1 ≠ src) →
    exec (.faultMessage dt src kind addr false cleared) s =
      .next { s.elapse dt with flt := { s.flt with
        hold := tabIns src ⟨src, kind, addr, s.isCut, false, cleared⟩ s.flt.hold } }) ∧
  (∀ (s : State) (dt src kind addr : Nat) (m : FMsg), Rst.sent src = true → maySend src kind = true →
    (src, m) ∈ s.flt.hold →
    ∃ t, exec (.faultMessage dt src kind addr false false) s = .next t ∧ t.flt.hold = s.flt.hold ∧
      t.fget (Fld.FLT_SRC_CNT.LOST src) = min (s.fget (Fld.FLT_SRC_CNT.LOST src) + 1) (Fld.FLT_SRC_CNT.LOST src).max ∧
      tabGet 0 src t.flt.lostBeat = tabGet 0 src s.flt.lostBeat + 1 ∧
      t = { s.elapse dt with regs := t.regs, flt := t.flt } ∧
      RegsBut [Fld.FLT_SRC_CNT.LOST src, Fld.FLT_SRC_CNT.LOST_SAT src] s t) ∧
  (∀ (s : State) (dt src kind addr : Nat) (injected cleared : Bool), maySend src kind = false →
    exec (.faultMessage dt src kind addr injected cleared) s = .next (s.elapse dt)) ∧
  (∀ (s : State) (dt i : Nat) (c : Int), i < 12 → 125 < c → i ∉ s.flt.hot → (∀ e ∈ s.flt.hold, e.1 ≠ srcOf 87 7) →
    s.injects (srcOf 87 7) i = false →
    exec (.dieTempHigh dt i c) s =
      .next { s.elapse dt with flt := { s.flt with
        hot := setIns i s.flt.hot
        hold := tabIns (srcOf 87 7) ⟨srcOf 87 7, 0x54, i, s.isCut, false, false⟩ s.flt.hold } }) ∧
  (∀ (s : State) (dt : Nat), s.fmWritable 0x1D0018 = true →
    ∃ t, exec (.latchClear dt) s = .next t ∧ t.fget Fld.FLT_FIRST_INFO.VALID = 0 ∧ t.fget Fld.FLT_FIRST_INFO.OVERFLOW = 0 ∧
      t.fget Fld.FLT_FIRST_INFO.TRANSIENT = 0 ∧ t = { s.elapse dt with regs := t.regs } ∧
      RegsBut [Fld.FLT_FIRST_INFO.VALID, Fld.FLT_FIRST_INFO.OVERFLOW, Fld.FLT_FIRST_INFO.TRANSIENT] s t) ∧
  (∀ (s : State) (dt src : Nat) (m : FMsg), src < 1024 → s.flt.hold.find? (fun e => e.1 == src) = some (src, m) →
    s.intakeNext = some src → m.source = src → m.cleared = false → s.on (Fld.FLT_SRC_CFG.MASK src) = false →
    s.fget Fld.FLT_CFG.LATCH_MIN ≤ s.severity src → s.on Fld.FLT_FIRST_INFO.VALID = false →
    s.flt.seenBeat ≠ (s.elapse dt).curBeat → s.flt.queue.length < 128 → s.dev ≠ .off →
    ∃ t, exec (.faultIntake dt src) s = .next t ∧
      t.flt.queue = s.flt.queue ++ [⟨m, s.severity src, (s.elapse dt).curBeat, (s.elapse dt).colTime, true⟩] ∧
      t.flt.hold = tabDel src s.flt.hold ∧ t.flt.lastSrc = src ∧
      t.fget Fld.FLT_FIRST.MESSAGE = m.word % 2 ^ 64 ∧ t.fget Fld.FLT_FIRST_INFO.VALID = 1 ∧
      t.fget Fld.FLT_FIRST_INFO.SEVERITY = s.severity src % 8 ∧
      t = { s.elapse dt with regs := t.regs, flt := t.flt } ∧
      RegsBut [Fld.FLT_FIRST.MESSAGE, Fld.FLT_FIRST_INFO.VALID, Fld.FLT_FIRST_INFO.SEVERITY, Fld.FLT_FIRST_INFO.BEAT,
        Fld.FLT_TOTAL.MESSAGES, Fld.FLT_TOTAL.OVF, Fld.FLT_UNIT_STS.QUIET_LEFT (src / 8), Fld.FLT_STS.QUEUE] s t) ∧
  (∀ (s : State) (dt src : Nat) (m : FMsg), src < 1024 → s.flt.hold.find? (fun e => e.1 == src) = some (src, m) →
    s.intakeNext = some src → s.on (Fld.FLT_SRC_CFG.MASK src) = true → s.dev ≠ .off →
    ∃ t, exec (.faultIntake dt src) s = .next t ∧ t.flt.queue = s.flt.queue ∧ t.flt.hold = tabDel src s.flt.hold ∧
      t.fget (Fld.FLT_SRC_CNT.LOST src) = min (s.fget (Fld.FLT_SRC_CNT.LOST src) + 1) (Fld.FLT_SRC_CNT.LOST src).max ∧
      t = { s.elapse dt with regs := t.regs, flt := t.flt } ∧
      RegsBut [Fld.FLT_SRC_CNT.LOST src, Fld.FLT_SRC_CNT.LOST_SAT src] s t) ∧
  (∀ (s : State) (dt src : Nat), s.dev = .off →
    exec (.faultIntake dt src) s = .next (s.elapse dt) ∧ exec (.faultReaction dt) s = .next (s.elapse dt))

/-- R359, R360: the head of the queue leaves it with the reactions of its severity: with JOURNAL set its FAULT record enters
staging and takes the next journal sequence number, and a head whose record finds no room waits. One clause takes any head that
is not held and whose reactions hold no device reset: it leaves the queue, IRQ raises the event vector and a refused isolation
sets REFUSED; another takes a severity whose other reactions but IRQ are off and says the whole state. R207, R372: the first
program of a journal record ends and its seal word follows; once the seal word is programmed the copy counts the record as
written. -/
def Obligations.ReactionsAndTheJournal : Prop :=
  (∀ (s : State) (dt : Nat) (q : QMsg) (rest : List QMsg), s.dev ≠ .off → s.flt.queue = q :: rest → q.sev < 5 →
    s.on (Fld.FLT_REACT.JOURNAL q.sev) = true → s.fget Fld.JNL_STS.MODE = 0 → s.flt.staging.length < 56 →
    q.msg.kind ≠ 0x3F → q.msg.source ≠ srcOf 81 1 → s.on (Fld.FLT_REACT.ISOLATE q.sev) = false →
    s.on (Fld.FLT_REACT.PLUNGE q.sev) = false → s.on (Fld.FLT_REACT.RESET q.sev) = false →
    s.fget (Fld.FLT_REACT.EVENT q.sev) = 0 →
    ∃ t r, exec (.faultReaction dt) s = .next t ∧ t.flt.queue = rest ∧ t.flt.staging = s.flt.staging ++ [r] ∧
      r.kind = 0x100 ∧ r.seq = s.fget Fld.JNL_SEQ.NEXT_SEQ ∧ r.beat = q.beat ∧ r.st = .staged ∧
      (0x20, q.msg.word) ∈ r.payload ∧ (0x28, q.sev) ∈ r.payload ∧
      t.fget Fld.JNL_SEQ.NEXT_SEQ = (s.fget Fld.JNL_SEQ.NEXT_SEQ + 1) % 2 ^ 64 ∧
      t.out = (s.elapse dt).out ++ (if s.on (Fld.FLT_REACT.IRQ q.sev) then [.msix fmLd 0] else []) ∧
      t = { s.elapse dt with regs := t.regs, flt := t.flt, out := t.out } ∧
      RegsBut [Fld.FLT_STS.QUEUE, Fld.JNL_SEQ.NEXT_SEQ, Fld.JNL_STS.STAGED] s t) ∧
  (∀ (s : State) (dt : Nat) (q : QMsg) (rest : List QMsg), s.dev ≠ .off → s.flt.queue = q :: rest →
    (s.on (Fld.FLT_REACT.JOURNAL q.sev) = false ∨ s.jnlRoom = true) → s.on (Fld.FLT_REACT.RESET q.sev) = false →
    s.isoCheck (q.msg.source / 8) ≠ .reset →
    ∃ t, exec (.faultReaction dt) s = .next t ∧ t.flt.queue = rest ∧
      (s.on (Fld.FLT_REACT.IRQ q.sev) = true → Out.msix fmLd (eventVector fmLd) ∈ t.out) ∧
      (q.msg.cleared = false → q.msg.injected = false → s.on (Fld.FLT_REACT.ISOLATE q.sev) = true →
        s.isoCheck (q.msg.source / 8) = .refused → t.fget Fld.FLT_STS.REFUSED = 1)) ∧
  (∀ (s : State) (dt : Nat) (q : QMsg) (rest : List QMsg), s.flt.queue = q :: rest →
    s.on (Fld.FLT_REACT.JOURNAL q.sev) = true → s.fget Fld.JNL_STS.MODE = 0 → 56 ≤ s.flt.staging.length →
    q.msg.source ≠ srcOf 81 1 → exec (.faultReaction dt) s = .next (s.elapse dt)) ∧
  (∀ (s : State) (dt copy : Nat) (r : JRec), (s.elapse dt).jnlNext copy = some r → s.jnlWrites copy = true →
    copy ∉ r.progOn →
    exec (.journalRecordProgrammed dt r.seq copy .ok) s =
      .next (({ s.elapse dt with flt := { s.flt with staging := s.flt.staging.map (fun x =>
        if x.seq == r.seq then { r with st := .sealing, progOn := setIns copy r.progOn } else x) } } : State).jnlOnFlash
          { r with st := .sealing, progOn := setIns copy r.progOn })) ∧
  (∀ (s : State) (dt copy : Nat) (r : JRec), r ∈ s.flt.staging → copy ∈ r.progOn → copy ∉ r.sealedOn →
    s.jnlWrites copy = true → (∀ x ∈ s.flt.flashJnl, x.seq ≤ r.seq) → (∀ x ∈ s.flt.staging, x.seq = r.seq → x = r) →
    ∃ t, exec (.journalSealProgrammed dt r.seq copy) s = .next t ∧
      { r with st := .sealed, sealedOn := setIns copy r.sealedOn } ∈ t.flt.flashJnl ∧
      t = { s.elapse dt with regs := t.regs, flt := t.flt })

/-- R364 to R367, R264: a cache bank's isolation completes, a record that failed ECC on the way taking its location from the newest
record page on flash, the page of a SERVING LD being DIRTY with the newest tag; its quiet period ends and recovery begins, and recovery returns it to
service or isolates it again; every unit's recovery counts, a cluster and the staging work again. -/
def Obligations.UnitIsolatesAndRecovers : Prop :=
  (∀ (s : State) (dt u : Nat) (lost : List Nat), 16 ≤ u → u ≤ 31 → s.unitSt u = 1 →
    ∃ t v : State, exec (.isolationComplete dt ⟨u, lost⟩) s = .next t ∧ v = lost.foldl (fun s p => s.recordGone p) (s.elapse dt) ∧
      t.unitSt u = 2 ∧ (t.dom (60 + u)).mode = 2 ∧ (t.dom (60 + u)).isolated = true ∧ (∀ e, e ≠ 60 + u → t.dom e = s.dom e) ∧
      t = { v with regs := t.regs, doms := t.doms }) ∧
  (∀ (s : State) (dt u : Nat) (lost : List Nat), (u < 16 ∨ 31 < u ∨ s.unitSt u ≠ 1) →
    exec (.isolationComplete dt ⟨u, lost⟩) s = .next (s.elapse dt)) ∧
  (∀ (s : State) (p n : Nat), s.ldOfPage p = some n → (s.ld n).st = .serving → (s.ld n).pending = [] →
    (s.recordGone p).page p = { (s.flashRec p).getD ⟨.clean, n, 0, 0, 0, 0⟩ with
      st := .dirty, ld := n, tag := (s.ld n).cutSeq % 65536 }) ∧
  (∀ (s : State) (dt u : Nat), u < 88 → recovers u = true → s.unitSt u = 2 → u ∉ s.flt.byFm → s.dev ≠ .off →
    tabGet 1 u s.flt.quietFrom + 1000000 * s.fget Fld.FLT_CFG.QUIET_MS ≤ s.now + dt + 1 →
    ∃ t, exec (.quietPeriodExpiry dt u) s = .next t ∧ t.unitSt u = 3 ∧ t.fget Fld.FLT_STS.FAULTED = 1 ∧
      (∀ c, 32 + c ≠ u → t.chan c = s.chan c) ∧
      (∀ c, c < 8 → 32 + c = u → t.chan c = { s.chan c with xsUntil := s.now + dt + (s.chan c).txs }) ∧
      t = { s.elapse dt with regs := t.regs, chans := t.chans } ∧
      RegsBut [Fld.FLT_UNIT_STS.STATE u, Fld.FLT_UNIT_STS.QUIET_LEFT u, Fld.FLT_STS.FAULTED, Fld.FLT_STS.ISOLATED,
        Fld.DRC_STS.STATE (u - 32)] s t) ∧
  (∀ (s : State) (dt u us : Nat), 16 ≤ u → u ≤ 31 → s.unitSt u = 3 → s.flt.bistUnit = none →
    ∃ t, exec (.recoveryDone dt u true us) s = .next t ∧ t.unitSt u = 0 ∧
      t.fget (Fld.FLT_UNIT_STS.RECOVERIES u) =
        min (s.fget (Fld.FLT_UNIT_STS.RECOVERIES u) + 1) (Fld.FLT_UNIT_STS.RECOVERIES u).max ∧
      (t.dom (60 + u)).isolated = false ∧
      t = { s.elapse dt with regs := t.regs, flt := t.flt, doms := t.doms }) ∧
  (∀ (s : State) (dt u us : Nat), u < 88 → s.unitSt u = 3 → s.flt.bistUnit ≠ some u →
    (∃ t, exec (.recoveryDone dt u true us) s = .next t ∧
      t.fget (Fld.FLT_UNIT_STS.RECOVERIES u) =
        min (s.fget (Fld.FLT_UNIT_STS.RECOVERIES u) + 1) (Fld.FLT_UNIT_STS.RECOVERIES u).max ∧
      (56 ≤ u → u ≤ 71 → t.fget (Fld.SCB_CL_STS.STATE (u - 56)) = 0 ∧ (t.dom (u + 4)).isolated = false) ∧
      (u = 81 → (t.dom 93).isolated = false)) ∧
    (∃ t, exec (.recoveryDone dt u false us) s = .next t ∧
      t.fget (Fld.FLT_UNIT_STS.RECOVER_FAIL u) =
        min (s.fget (Fld.FLT_UNIT_STS.RECOVER_FAIL u) + 1) (Fld.FLT_UNIT_STS.RECOVER_FAIL u).max ∧
      t.fget (Fld.FLT_UNIT_STS.RECOVERIES u) = s.fget (Fld.FLT_UNIT_STS.RECOVERIES u))) ∧
  (∀ (s : State) (dt u us : Nat), 16 ≤ u → u ≤ 31 → s.unitSt u = 3 → s.flt.bistUnit = none →
    ∃ t, exec (.recoveryDone dt u false us) s = .next t ∧ t.unitSt u = 2 ∧
      t.fget (Fld.FLT_UNIT_STS.RECOVER_FAIL u) =
        min (s.fget (Fld.FLT_UNIT_STS.RECOVER_FAIL u) + 1) (Fld.FLT_UNIT_STS.RECOVER_FAIL u).max ∧
      t = { s.elapse dt with regs := t.regs, flt := t.flt })

/-- R367, R368: the FM isolates a unit that R367 names and R364 lets go, returns an isolated unit through its BIST, and runs a
BIST; the BIST's end shows PASS, or FAIL with the first failing address. What Table 14-11 refuses sets REFUSED and nothing
else. R369, R458: arming an injection while SERVING takes class, unit, weight and line and counts COUNT codewords; in another
state it is refused and sets REJECT. -/
def Obligations.FmTestsUnitsAndInjects : Prop :=
  (∀ (s : State) (dt u : Nat), s.fmWritable 0x1D0040 = true → s.isOpen = true → 16 ≤ u → u ≤ 31 → s.unitSt u = 0 →
    ∃ t, exec (.unitIsolate dt u) s = .next t ∧ t.unitSt u = 1 ∧ u ∈ t.flt.byFm ∧
      t.flt = { s.flt with byFm := t.flt.byFm } ∧ t = { s.elapse dt with regs := t.regs, flt := t.flt } ∧
      RegsBut [Fld.FLT_UNIT_STS.STATE u, Fld.FLT_STS.FAULTED, Fld.FLT_STS.ISOLATED] s t) ∧
  (∀ (s : State) (dt u : Nat), s.fmWritable 0x1D0040 = true → s.isOpen = true → fmUnit u = true →
    (s.isoCheck u = .taken → ∃ t, exec (.unitIsolate dt u) s = .next t ∧ u ∈ t.flt.byFm) ∧
    (s.isoCheck u = .refused → exec (.unitIsolate dt u) s = .next ((s.elapse dt).fset Fld.FLT_STS.REFUSED 1)) ∧
    (s.isoCheck u = .none → exec (.unitIsolate dt u) s = .next (s.elapse dt))) ∧
  (∀ (s : State) (dt u : Nat), s.fmWritable 0x1D0040 = true → s.isOpen = true → fmUnit u = true → s.unitSt u = 2 →
    s.flt.bistUnit = none →
    ∃ t, exec (.unitReturn dt u) s = .next t ∧ t.unitSt u = 3 ∧ t.fget Fld.FLT_BIST_STS.STATE = 1 ∧
      t.fget Fld.FLT_BIST_STS.UNIT = u ∧
      t.flt = { s.flt with bistUnit := some u, bistFor := 1, bistAt := s.now + dt } ∧
      t = { s.elapse dt with regs := t.regs, flt := t.flt }) ∧
  (∀ (s : State) (dt u : Nat), s.fmWritable 0x1D0058 = true → fmUnit u = true → s.unitSt u = 2 → s.flt.bistUnit = none →
    ∃ t, exec (.bistGo dt u) s = .next t ∧ t.fget Fld.FLT_BIST_STS.STATE = 1 ∧ t.fget Fld.FLT_BIST_STS.UNIT = u ∧
      t.flt = { s.flt with bistUnit := some u, bistFor := 0, bistAt := s.now + dt } ∧
      t = { s.elapse dt with regs := t.regs, flt := t.flt } ∧
      RegsBut [Fld.FLT_BIST_STS.STATE, Fld.FLT_BIST_STS.UNIT, Fld.FLT_BIST_STS.DURATION_US, Fld.FLT_BIST_STS.FAIL_ADDR] s t) ∧
  (∀ (s : State) (dt u : Nat), s.fmWritable 0x1D0058 = true → fmUnit u = true → s.unitSt u ≠ 2 →
    ∃ t, exec (.bistGo dt u) s = .next t ∧ t.fget Fld.FLT_STS.REFUSED = 1 ∧ t = { s.elapse dt with regs := t.regs } ∧
      RegsBut [Fld.FLT_STS.REFUSED] s t) ∧
  (∀ (s : State) (dt u fa : Nat) (pass : Bool), s.flt.bistUnit = some u → s.flt.bistFor = 0 → fa < 2 ^ 32 →
    ∃ t, exec (.bistDone dt pass fa) s = .next t ∧ t.fget Fld.FLT_BIST_STS.STATE = (if pass then 2 else 3) ∧
      t.fget Fld.FLT_BIST_STS.FAIL_ADDR = (if pass then 0 else fa) ∧
      t.flt = { s.flt with bistUnit := none, bistFor := 0 } ∧ t = { s.elapse dt with regs := t.regs, flt := t.flt } ∧
      RegsBut [Fld.FLT_BIST_STS.STATE, Fld.FLT_BIST_STS.DURATION_US, Fld.FLT_BIST_STS.FAIL_ADDR] s t) ∧
  (∀ (s : State) (dt : Nat) (v : Word), s.fmWritable 0x1D0048 = true → s.dev = .serving → s.col.window = none →
    v.toNat / 2 ^ 60 % 4 < 2 → v.toNat / 2 ^ 40 % 256 ≠ 0 → s.unitSt (v.toNat / 2 ^ 48 % 128) = 0 →
    ∃ t, exec (.injectionArm dt v) s = .next t ∧ t.fget Fld.FLT_INJ_STS.REJECT = 0 ∧
      t.fget Fld.FLT_INJ_STS.LEFT = v.toNat / 2 ^ 40 % 256 ∧ t.flt.injClass = v.toNat / 2 ^ 60 % 4 ∧
      t.flt.injUnit = v.toNat / 2 ^ 48 % 128 ∧ t.flt.injWeight = v.toNat / 2 ^ 62 % 2 ∧ t.flt.injLine = v.toNat % 2 ^ 36 ∧
      t = { s.elapse dt with regs := t.regs, flt := t.flt }) ∧
  (∀ (s : State) (dt : Nat) (v : Word), s.fmWritable 0x1D0048 = true → s.dev ≠ .serving →
    ∃ t, exec (.injectionArm dt v) s = .next t ∧ t.fget Fld.FLT_INJ_STS.REJECT = 1 ∧
      t.fget Fld.FLT_INJ_STS.LEFT = s.fget Fld.FLT_INJ_STS.LEFT ∧ t = { s.elapse dt with regs := t.regs } ∧
      RegsBut [Fld.FLT_INJ_STS.REJECT, Fld.FLT_INJ_CTL.WEIGHT, Fld.FLT_INJ_CTL.CLASS, Fld.FLT_INJ_CTL.UNIT,
        Fld.FLT_INJ_CTL.LINE, Fld.FLT_INJ_CTL.COUNT] s t)

/-- R370: an instruction of the test access port other than BYPASS (0), IDCODE (1) and SAMPLE/PRELOAD (2) runs only while the
power-on reset is asserted and is treated as BYPASS at any other time; those three run at any time, IDCODE shifting out the
identification code. -/
def Obligations.TestPortFollowsPowerOnReset : Prop :=
  (∀ (s : State) (dt op : Nat), 2 < op → s.psq.por = false →
    exec (.jtagInstruction dt op) s =
      .next { s.elapse dt with flt := { s.flt with jtagLast := 0 }, out := (s.elapse dt).out ++ [.jtag 0] }) ∧
  (∀ (s : State) (dt : Nat),
    exec (.jtagInstruction dt 1) s =
      .next { s.elapse dt with flt := { s.flt with jtagLast := 1 }, out := (s.elapse dt).out ++ [.jtag 1, .reg 0x271805E3] }) ∧
  (∀ (s : State) (dt op : Nat), op ≠ 1 → (op ≤ 2 ∨ s.psq.por = true) →
    exec (.jtagInstruction dt op) s =
      .next { s.elapse dt with flt := { s.flt with jtagLast := op }, out := (s.elapse dt).out ++ [.jtag op] })

/-! ## Power sequencing (chapter 15) -/

/-- R381, R382, R384, R389: a slot that has come switches its rails, on in a power-up and off in a power-down; a rail that is
not good by its deadline counts SEQ_TIMEOUT and reports, and a REQUIRED one ends the power-up in a power-down; a failed power-up
is tried again 1 s after its power-down; a reset output goes high when its stretch has passed. -/
def Obligations.SequencesSwitchRails : Prop :=
  (∀ (s : State) (dt k : Nat), s.seqSt = 1 → k = (s.now + dt - s.psq.startAt) / 32000 → s.fget Fld.PSQ_STS.PENDING ≠ 2 →
    (∀ r, r < 32 → (s.rail r).timed = false) →
    ∃ t, exec (.railSlot dt) s = .next t ∧ t.fget Fld.PSQ_STS.SLOT = min k 1023 ∧ (t.seqSt = 1 ∨ t.seqSt = 2) ∧
      (∀ r, r < 32 → s.sequenced r = true → (s.rail r).onS ≤ k → t.on (Fld.PSQ_RAIL_STS.ENABLED r) = true) ∧
      (∀ r, r < 32 → ¬ (s.sequenced r = true ∧ (s.rail r).onS ≤ k) →
        t.fget (Fld.PSQ_RAIL_STS.ENABLED r) = s.fget (Fld.PSQ_RAIL_STS.ENABLED r)) ∧
      t = { s.elapse dt with regs := t.regs, psq := t.psq, out := t.out } ∧
      RegsBut ([Fld.PSQ_STS.SLOT, Fld.PSQ_STS.STATE, Fld.PSQ_STS.PENDING, Fld.PSQ_STS.RETRIES] ++
        allRails.map (fun r => Fld.PSQ_RAIL_STS.ENABLED r)) s t) ∧
  (∀ (s : State) (dt k : Nat), s.seqSt = 3 → k = (s.now + dt - s.psq.startAt) / 32000 →
    s.now + dt < s.psq.startAt + 32000 * s.lastSlot false →
    ∃ t, exec (.railSlot dt) s = .next t ∧ t.seqSt = 3 ∧
      (∀ r, r < 32 → s.sequenced r = true → (s.rail r).offS ≤ k → t.on (Fld.PSQ_RAIL_STS.ENABLED r) = false) ∧
      (∀ r, r < 32 → ¬ (s.sequenced r = true ∧ (s.rail r).offS ≤ k) →
        t.fget (Fld.PSQ_RAIL_STS.ENABLED r) = s.fget (Fld.PSQ_RAIL_STS.ENABLED r)) ∧
      t = { s.elapse dt with regs := t.regs, out := t.out } ∧
      RegsBut (Fld.PSQ_STS.SLOT :: allRails.map (fun r => Fld.PSQ_RAIL_STS.ENABLED r)) s t) ∧
  (∀ (s : State) (dt : Nat), s.seqSt = 3 → s.psq.startAt + 32000 * s.lastSlot false ≤ s.now + dt →
    s.fget Fld.PSQ_STS.PENDING ≠ 1 → s.psq.failed = false →
    ∃ t, exec (.railSlot dt) s = .next t ∧ t.seqSt = 0 ∧ t.dev = .off ∧ t.fget Fld.PSQ_STS.PENDING = 0 ∧
      t.psq.retryAt = none ∧ t.staged = (if s.dev = .off then s.staged else []) ∧ t.flash = s.flash ∧ t.dram = s.dram) ∧
  (∀ (s : State) (dt r : Nat), r < 32 → s.seqSt = 1 → s.sequenced r = true → s.on (Fld.PSQ_RAIL_STS.GOOD r) = false →
    (s.rail r).timed = false → s.psq.startAt + 32000 * ((s.rail r).onS + (s.rail r).tmo) ≤ s.now + dt →
    ∃ t, exec (.railTimeout dt r) s = .next t ∧ (t.rail r).timed = true ∧ (t.rail r).judged = true ∧
      t.fget (Fld.PSQ_RAIL_CNT.SEQ_TIMEOUT r) = min (s.fget (Fld.PSQ_RAIL_CNT.SEQ_TIMEOUT r) + 1) 127 ∧
      Reports (srcOf 79 7) 0x50 s t ∧ t.flash = s.flash ∧ t.dram = s.dram ∧ t.pages = s.pages ∧
      ((∃ q, q < 32 ∧ q ≠ r ∧ s.sequenced q = true ∧ s.on (Fld.PSQ_RAIL_CFG.REQUIRED q) = true ∧
          s.on (Fld.PSQ_RAIL_STS.GOOD q) = false ∧ (s.rail q).timed = false) →
        t.seqSt = 1 ∧ t = { s.elapse dt with regs := t.regs, psq := t.psq, flt := t.flt }) ∧
      (s.on (Fld.PSQ_RAIL_CFG.REQUIRED r) = true → s.psq.startAt + 32000 * s.lastSlot true ≤ s.now + dt →
        (∀ q, q < 32 → s.sequenced q = true → s.on (Fld.PSQ_RAIL_CFG.REQUIRED q) = true →
          q = r ∨ s.on (Fld.PSQ_RAIL_STS.GOOD q) = true ∨ (s.rail q).timed = true) →
        t.seqSt = 3 ∧ t.dev = s.dev ∧ t.psq.failed = true ∧ t.psq.startAt = s.now + dt ∧
        t.fget Fld.PSQ_STS.RETRIES = min (s.fget Fld.PSQ_STS.RETRIES + 1) 15 ∧
        t.fget Fld.PSQ_RST_STS.CORE_RST = 1)) ∧
  (∀ (s : State) (dt u : Nat), s.psq.retryAt = some u → s.seqSt = 0 → s.on Fld.PSQ_STS.INPUT_GOOD = true →
    u + 1000000000 ≤ s.now + dt →
    ∃ t, exec (.powerUpRetry dt) s = .next t ∧ t.seqSt = 1 ∧ t.psq.startAt = s.now + dt ∧ t.psq.retryAt = none ∧
      t.fget Fld.PSQ_STS.PENDING = 0 ∧
      (∀ r, r < 32 → t.fget (Fld.PSQ_RAIL_STS.GOOD r) = 0 ∧ (t.rail r).timed = false ∧
        (t.rail r).onS = s.fget (Fld.PSQ_RAIL_CFG.ON_SLOT r) ∧ (t.rail r).cls = s.fget (Fld.PSQ_RAIL_CFG.CLASS r)) ∧
      (∀ r, r < 32 → s.on (Fld.PSQ_RAIL_CFG.EN r) = true → s.fget (Fld.PSQ_RAIL_CFG.CLASS r) ≠ 4 →
        s.fget (Fld.PSQ_RAIL_CFG.CLASS r) ≤ 5 → s.fget (Fld.PSQ_RAIL_CFG.ON_SLOT r) = 0 →
        t.on (Fld.PSQ_RAIL_STS.ENABLED r) = true) ∧
      t = { s.elapse dt with regs := t.regs, psq := t.psq, out := t.out }) ∧
  (∀ (s : State) (dt i u : Nat), i < 8 → s.psq.okSince.find? (fun e => e.1 == i) = some (i, u) → s.rstOk i = true →
    u + 1000000 * s.fget (Fld.PSQ_RST_CFG.STRETCH_MS i) ≤ s.now + dt →
    (s.fget Fld.PSQ_RST_STS.ASSERTED).testBit i = true →
    ∃ t, exec (.resetStretchExpiry dt i) s = .next t ∧ (t.fget Fld.PSQ_RST_STS.ASSERTED).testBit i = false ∧
      (∀ j, j < 8 → j ≠ i → (t.fget Fld.PSQ_RST_STS.ASSERTED).testBit j = (s.fget Fld.PSQ_RST_STS.ASSERTED).testBit j) ∧
      t = { s.elapse dt with regs := t.regs, out := (s.elapse dt).out ++ [.pin (.modRst i) true] } ∧
      RegsBut [Fld.PSQ_RST_STS.ASSERTED] s t) ∧
  (∀ (s : State) (dt u : Nat), s.psq.okSince.find? (fun e => e.1 == 8) = some (8, u) → s.rstOk 8 = true →
    s.psq.por = false → u + 1000000 ≤ s.now + dt →
    exec (.resetStretchExpiry dt 8) s = .next ((s.elapse dt).fset Fld.PSQ_RST_STS.CORE_RST 0))

/-- R385, R386, R387, R389: one conversion of a rail, whatever the sequencer does: CODE takes it; of a rail that is on, F samples in a
row on one side out of range enter UV or OV, which count and report, a loss driving the reset outputs whose mask and ASSERT_ON_LOSS
name the rail; F within it leave both and make the rail good. The result of a rail with EN clear is discarded. A DRAM-class sample
below UV_CODE after the detection beat latches DRAM_UV, whatever the filter. A PG loss counts and is a UV judgement at once. Then
whichever sequence runs completes when it can. -/
def Obligations.RailsAreJudged : Prop :=
  (∀ (s : State) (dt r : Nat) (c : BitVec 12), s.on (Fld.PSQ_RAIL_CFG.EN r) = false →
    exec (.railSample dt r c) s = .next (s.elapse dt)) ∧
  (∀ (s : State) (dt r : Nat) (c : BitVec 12), r < 32 → s.on (Fld.PSQ_RAIL_CFG.EN r) = true →
    (s.on (Fld.PSQ_RAIL_STS.ENABLED r) = false ∨ (s.rail r).leaving = true) →
    ∃ t, exec (.railSample dt r c) s = .next t ∧ t.fget (Fld.PSQ_RAIL_STS.CODE r) = c.toNat ∧
      t.fget Fld.SPL_STATE.DRAM_UV = (if c.toNat < s.fget (Fld.PSQ_RAIL_CFG.UV_CODE r) ∧ s.psq.detect = true ∧ (s.rail r).cls = 2
        then 1 else s.fget Fld.SPL_STATE.DRAM_UV) ∧
      t = { s.elapse dt with regs := t.regs } ∧ RegsBut [Fld.PSQ_RAIL_STS.CODE r, Fld.SPL_STATE.DRAM_UV] s t) ∧
  (∀ (s : State) (dt r f : Nat) (c : BitVec 12), r < 32 → s.on (Fld.PSQ_RAIL_CFG.EN r) = true →
    s.on (Fld.PSQ_RAIL_STS.ENABLED r) = true → (s.rail r).leaving = false →
    f = s.fget (Fld.PSQ_RAIL_CFG.FILTER r) + 1 →
    ∃ t u : State, exec (.railSample dt r c) s = .next t ∧ t = u.seqCheck ∧ u.seqSt = s.seqSt ∧
      u.fget (Fld.PSQ_RAIL_STS.CODE r) = c.toNat ∧
      (u.rail r).low = (if c.toNat < s.fget (Fld.PSQ_RAIL_CFG.UV_CODE r) then (s.rail r).low + 1 else 0) ∧
      (u.rail r).high = (if s.fget (Fld.PSQ_RAIL_CFG.OV_CODE r) < c.toNat then (s.rail r).high + 1 else 0) ∧
      ((s.rail r).judged = true → c.toNat < s.fget (Fld.PSQ_RAIL_CFG.UV_CODE r) → f ≤ (s.rail r).low + 1 →
        s.on (Fld.PSQ_RAIL_STS.UV_NOW r) = false →
        u.fget (Fld.PSQ_RAIL_STS.UV_NOW r) = 1 ∧ u.fget (Fld.PSQ_RAIL_STS.GOOD r) = 0 ∧
        u.fget (Fld.PSQ_RAIL_CNT.UV r) = min (s.fget (Fld.PSQ_RAIL_CNT.UV r) + 1) 127 ∧ Reports (srcOf 79 7) 0x50 s u ∧
        (∀ i, i < 8 → s.on (Fld.PSQ_RST_CFG.ASSERT_ON_LOSS i) = true → (s.fget (Fld.PSQ_RST_CFG.MASK i)).testBit r = true →
          (u.fget Fld.PSQ_RST_STS.ASSERTED).testBit i = true)) ∧
      ((s.rail r).judged = true → s.fget (Fld.PSQ_RAIL_CFG.OV_CODE r) < c.toNat → f ≤ (s.rail r).high + 1 →
        s.on (Fld.PSQ_RAIL_STS.OV_NOW r) = false →
        u.fget (Fld.PSQ_RAIL_STS.OV_NOW r) = 1 ∧
        u.fget (Fld.PSQ_RAIL_CNT.OV r) = min (s.fget (Fld.PSQ_RAIL_CNT.OV r) + 1) 127 ∧ Reports (srcOf 79 7) 0x50 s u) ∧
      (s.fget (Fld.PSQ_RAIL_CFG.UV_CODE r) ≤ c.toNat → c.toNat ≤ s.fget (Fld.PSQ_RAIL_CFG.OV_CODE r) →
        (f ≤ (s.rail r).inside + 1 →
          u.fget (Fld.PSQ_RAIL_STS.UV_NOW r) = 0 ∧ u.fget (Fld.PSQ_RAIL_STS.OV_NOW r) = 0) ∧
        (f ≤ (s.rail r).goodRun + 1 → u.fget (Fld.PSQ_RAIL_STS.GOOD r) = 1)) ∧
      (c.toNat < s.fget (Fld.PSQ_RAIL_CFG.UV_CODE r) → s.psq.detect = true → (s.rail r).cls = 2 →
        u.fget Fld.SPL_STATE.DRAM_UV = 1) ∧
      (∀ q, q ≠ r → u.rail q = s.rail q) ∧
      u = { s.elapse dt with regs := u.regs, psq := u.psq, flt := u.flt, out := u.out } ∧
      (s.seqSt ≠ 1 → s.seqSt ≠ 3 → t = { u with psq := { u.psq with okSince := t.psq.okSince } })) ∧
  (∀ (s : State) (dt r : Nat), r < 32 → s.on (Fld.PSQ_RAIL_CFG.EN r) = true → s.on (Fld.PSQ_RAIL_CFG.PG_EN r) = true →
    s.on (Fld.PSQ_RAIL_STS.ENABLED r) = true → (s.rail r).judged = true → (s.rail r).leaving = false →
    ∃ t u : State, exec (.railPgLoss dt r) s = .next t ∧ t = u.seqCheck ∧ u.seqSt = s.seqSt ∧
      u.fget (Fld.PSQ_RAIL_STS.PG_PIN r) = 0 ∧
      u.fget (Fld.PSQ_RAIL_CNT.PG_LOSS r) = min (s.fget (Fld.PSQ_RAIL_CNT.PG_LOSS r) + 1) 127 ∧
      u.on (Fld.PSQ_RAIL_STS.UV_NOW r) = true ∧ u.fget (Fld.PSQ_RAIL_STS.GOOD r) = 0 ∧ Reports (srcOf 79 7) 0x50 s u ∧
      (∀ i, i < 8 → s.on (Fld.PSQ_RST_CFG.ASSERT_ON_LOSS i) = true → (s.fget (Fld.PSQ_RST_CFG.MASK i)).testBit r = true →
        (u.fget Fld.PSQ_RST_STS.ASSERTED).testBit i = true) ∧
      (s.psq.detect = true → (s.rail r).cls = 2 → u.fget Fld.SPL_STATE.DRAM_UV = 1) ∧
      u = { s.elapse dt with regs := u.regs, psq := u.psq, flt := u.flt, out := u.out } ∧
      (s.seqSt ≠ 1 → s.seqSt ≠ 3 → t = { u with psq := { u.psq with okSince := t.psq.okSince } })) ∧
  (∀ (s : State) (dt r : Nat), r < 32 → (s.on (Fld.PSQ_RAIL_STS.ENABLED r) = false ∨ (s.rail r).judged = false ∨
      (s.rail r).leaving = true ∨ s.on (Fld.PSQ_RAIL_CFG.EN r) = false ∨ s.on (Fld.PSQ_RAIL_CFG.PG_EN r) = false) →
    ∃ t, exec (.railPgLoss dt r) s = .next t ∧ t.fget (Fld.PSQ_RAIL_STS.PG_PIN r) = 0 ∧
      (s.on (Fld.PSQ_RAIL_CFG.EN r) = true → s.on (Fld.PSQ_RAIL_CFG.PG_EN r) = true → s.psq.detect = true → (s.rail r).cls = 2 →
        t.fget Fld.SPL_STATE.DRAM_UV = 1) ∧
      t = { s.elapse dt with regs := t.regs } ∧ RegsBut [Fld.PSQ_RAIL_STS.PG_PIN r, Fld.SPL_STATE.DRAM_UV] s t)

/-- R391, R163, R392, R447, R450: hold-up keeps the HOLDUP-class rails and the domains of its list, and in SPILLING or SEALED
makes the SPILL_ABANDONED record; its end leaves every rail low; a loss of VAON leaves the always-on registers at their Reset
column; their return loads PSQ_ from chrysalis memory or OTP; POR_N asserts the core reset, and its release releases it after
its stretch. -/
def Obligations.HoldupVaonAndPowerOnReset : Prop :=
  (∀ (s : State) (dt : Nat), s.on Fld.PSQ_STS.INPUT_LOW = true → s.anyPack = false → s.seqSt ≠ 4 → s.seqSt ≠ 0 →
    s.seqSt ≠ 5 →
    ∃ t, exec (.holdupEntry dt) s = .next t ∧ t.seqSt = 4 ∧ t.fget Fld.PSQ_RST_STS.CORE_RST = 1 ∧
      (∀ i, i < 8 → (t.fget Fld.PSQ_RST_STS.ASSERTED).testBit i = true) ∧
      (∀ r, r < 32 → (s.rail r).cls ≠ 5 → t.on (Fld.PSQ_RAIL_STS.ENABLED r) = false) ∧
      (∀ r, r < 32 → (s.rail r).cls = 5 →
        t.fget (Fld.PSQ_RAIL_STS.ENABLED r) = s.fget (Fld.PSQ_RAIL_STS.ENABLED r)) ∧
      (∀ d, d < 96 → d ∉ [0, 1, 2, 28, 29, 44, 45, 93, 94] → (t.dom d).mode = 2 ∧ t.fget (Fld.PDM_MODE.STATE d) = 2) ∧
      (∀ d, d ∈ [0, 1, 2, 28, 29, 44, 45, 93, 94] → t.dom d = s.dom d) ∧
      (s.isCut = false → t.flt = s.flt ∧ t.spill = s.spill) ∧
      (s.isCut = true → s.fget Fld.JNL_STS.MODE ≠ 2 → s.flt.staging.length < 64 →
        ∃ r, t.flt.staging = s.flt.staging ++ [r] ∧ r.kind = 3 ∧ r.seq = s.fget Fld.JNL_SEQ.NEXT_SEQ ∧
          t.psq.holdRec = some r.seq ∧ (0x20, s.fget Fld.SPL_STATE.STAGE) ∈ r.payload ∧
          (0x24, s.fget Fld.SPL_PROGRESS.PAGES_DONE) ∈ r.payload) ∧
      (s.dev = .spilling → t.spill.abandoned = true) ∧
      (∀ p, p < 2 → t.fget (Fld.FAB_PORT_STS.LINK_UP p) = 0) ∧
      (∀ r, r < 32 → (s.rail r).cls = 2 → s.on (Fld.PSQ_RAIL_STS.ENABLED r) = true → s.psq.detect = true →
        t.fget Fld.SPL_STATE.DRAM_UV = 1) ∧
      t.lds = s.lds.map (fun e => (e.1, { e.2 with reach := false, decs := [] })) ∧
      t = { s.elapse dt with
        regs := t.regs, psq := t.psq, doms := t.doms, flt := t.flt, spill := t.spill, out := t.out, lds := t.lds
        fab := { s.fab with reqs := [], granted := [], gpf := [] }
        col := { (s.elapse dt).col with driveLow := false }, tx := [] }) ∧
  (∀ (s : State) (dt : Nat), s.seqSt = 4 → ¬ (s.fget Fld.PSQ_STS.PENDING = 1 ∧ s.on Fld.PSQ_STS.INPUT_GOOD = true) →
    ∃ t, exec (.holdupEnd dt) s = .next t ∧ t.seqSt = 0 ∧ t.dev = .off ∧
      t.fget Fld.PSQ_STS.PENDING = 0 ∧ (∀ r, r < 32 → t.on (Fld.PSQ_RAIL_STS.ENABLED r) = false) ∧
      t.flash = s.flash ∧ t.flt = s.flt ∧ t.log = s.log) ∧
  (∀ (s : State) (dt : Nat), s.seqSt = 4 → s.fget Fld.PSQ_STS.PENDING = 1 → s.on Fld.PSQ_STS.INPUT_GOOD = true →
    ∃ t, exec (.holdupEnd dt) s = .next t ∧ t.seqSt = 1 ∧ t.psq.startAt = s.now + dt ∧ t.dev = .off ∧
      t.fget Fld.PSQ_STS.PENDING = 0) ∧
  (∀ (s : State) (dt : Nat),
    ∃ t, exec (.vaonLoss dt) s = .next t ∧ t.dev = .off ∧ t.psq = { } ∧ t.doms = [] ∧ t.chrys = false ∧
      t.chrysPsq = [] ∧ t.timeLost = true ∧ t.flt.sealCopies = [] ∧ t.flt.staging = [] ∧
      (∀ f : Field, 0x1A0000 ≤ f.bit / 8 → f.bit / 8 < 0x1D8000 → t.fget f = f.reset) ∧
      (∀ p, (t.pack p).flashR = (s.pack p).flashR ∧ (t.pack p).chrysR = none) ∧
      t.lds = s.lds.map (fun e => (e.1, { e.2 with reach := false, decs := [] })) ∧
      t.fab = { s.fab with reqs := [], granted := [], gpf := [] } ∧
      t.flash = s.flash ∧ t.log = s.log ∧ t.boot = s.boot ∧ t.twb = s.twb) ∧
  (∀ (s : State),
    ∃ t, exec (.vaonPowerOn false) s = .next t ∧ t.vaonAt = s.now ∧ t.chrys = false ∧ t.dev = .off ∧
      (∀ r, r < 32 → ∀ f ∈ [Fld.PSQ_RAIL_CFG.EN r, Fld.PSQ_RAIL_CFG.REQUIRED r, Fld.PSQ_RAIL_CFG.PG_EN r,
        Fld.PSQ_RAIL_CFG.CLASS r, Fld.PSQ_RAIL_CFG.FILTER r, Fld.PSQ_RAIL_CFG.TIMEOUT r, Fld.PSQ_RAIL_CFG.OFF_SLOT r,
        Fld.PSQ_RAIL_CFG.ON_SLOT r, Fld.PSQ_RAIL_CFG.OV_CODE r, Fld.PSQ_RAIL_CFG.UV_CODE r],
        t.fget f = (Config.otpRailCfg r).toNat / 2 ^ (f.bit % 64) % 2 ^ f.width) ∧
      (∀ r, r < 32 → (t.on (Fld.PSQ_RAIL_STS.ENABLED r) = true ↔
        t.on (Fld.PSQ_RAIL_CFG.EN r) = true ∧ t.fget (Fld.PSQ_RAIL_CFG.CLASS r) = 4))) ∧
  (∀ (s : State), s.chrys = true → s.chrysPsq ≠ [] → tabSorted s.chrysPsq = true →
    ∃ t, exec (.vaonPowerOn true) s = .next t ∧ t.vaonAt = s.now ∧ t.chrys = true ∧ t.chrysPsq = s.chrysPsq ∧
      (∀ (f : Field) (v : Nat), (f.bit, v) ∈ s.chrysPsq →
        (∀ r, r < 32 → f.bit ≠ (Fld.PSQ_RAIL_STS.ENABLED r).bit) → t.fget f = v)) ∧
  (∀ (s : State) (dt : Nat),
    ∃ t, exec (.porAssert dt) s = .next t ∧ t.dev = .off ∧ t.fget Fld.PSQ_RST_STS.CORE_RST = 1 ∧
      t.lds = s.lds.map (fun e => (e.1, { e.2 with reach := false, decs := [] })) ∧
      t.fget (Fld.FAB_PORT_STS.LINK_UP 0) = 0 ∧ t.fget (Fld.FAB_PORT_STS.LINK_UP 1) = 0 ∧
      t = { s.elapse dt with
        regs := t.regs, dev := .off, psq := { s.psq with por := true, detect := false }, col := t.col, out := t.out, lds := t.lds
        fab := { s.fab with reqs := [], granted := [], gpf := [] }
        pdmLock := false, tx := [], staged := [], captured := [], commitHeld := []
        heldLow := s.heldLow.filter (fun e => inVaon e.1), snaps := s.snaps.filter (fun e => inVaon e.1) } ∧
      RegsBut ([Fld.PSQ_RST_STS.CORE_RST, Fld.SPL_STATE.STATE, Fld.FAB_PORT_STS.LINK_UP 0, Fld.FAB_PORT_STS.LINK_UP 1] ++
        (List.range 4).flatMap (fun p => [Fld.CIS_PACK_STS.CHARGING p, Fld.CIS_PACK_STS.CHG_BLOCK p])) s t) ∧
  (∀ (s : State) (dt u : Nat), s.psq.okSince.find? (fun e => e.1 == 8) = some (8, u) → s.rstOk 8 = true →
    u + 1000000 ≤ s.now + dt →
    exec (.porRelease dt) s = .next (({ s.elapse dt with psq := { s.psq with por := false } } : State).fset
      Fld.PSQ_RST_STS.CORE_RST 0))

/-! ## Power domains (chapter 16) -/

/-- R397, R399, R405: a WAIT that no check of R399 refuses is pending; one that a check refuses changes no domain and is
reported, and counted for the FM and LD policy classes. The order in which the reasons are tried is log entry 23 (DEDUCED).
R397, R398: a pending request reaches its domain's idle point and its commit window begins; or it is cancelled (reason 10,
CANCELLED) or finds no idle point within 10 ms of WAIT (reason 8, NO_IDLE), both aborts. -/
def Obligations.DomainRequestsPendCommitOrAbort : Prop :=
  (∀ (s : State) (dt d cls mode : Nat), s.policyAllows d cls mode = false →
    exec (.domainWait dt d cls mode) s = .next (s.elapse dt)) ∧
  (∀ (s : State) (dt d cls mode : Nat), d < 96 → 0 < mode → mode < 4 → cls ≤ 2 → (cls = 0 → s.fmWritable 0x1C0200 = true) →
    s.policyAllows d cls mode = true →
    (s.fset (Fld.PDM_MODE.MODE d) mode).pdmCheck d cls mode = 0 → (s.dom d).window = none → (s.dom d).mode ≠ mode →
    ∃ t, exec (.domainWait dt d cls mode) s = .next t ∧
      t.dom d = { s.dom d with pend := some (mode, cls), since := s.now + dt } ∧ (∀ e, e ≠ d → t.dom e = s.dom e) ∧
      t.fget (Fld.PDM_MODE.MODE d) = mode ∧ t.fget (Fld.PDM_MODE.PENDING d) = 1 ∧
      t = { s.elapse dt with regs := t.regs, doms := t.doms } ∧
      RegsBut [Fld.PDM_MODE.MODE d, Fld.PDM_MODE.PENDING d] s t) ∧
  (∀ (s : State) (dt d cls mode : Nat), d < 96 → mode < 4 → cls ≤ 2 → (cls = 0 → s.fmWritable 0x1C0200 = true) →
    s.policyAllows d cls mode = true →
    (s.fset (Fld.PDM_MODE.MODE d) mode).pdmCheck d cls mode ≠ 0 →
    ∃ t, exec (.domainWait dt d cls mode) s = .next t ∧
      t.fget (Fld.PDM_MODE.LAST_UNIT d) = gateUnit d % 128 ∧ t.fget (Fld.PDM_MODE.LAST_CLASS d) = cls ∧
      t.fget (Fld.PDM_MODE.LAST_REASON d) = (s.fset (Fld.PDM_MODE.MODE d) mode).pdmCheck d cls mode % 16 ∧
      (cls ≤ 1 → t.fget (Fld.PDM_REQ_CNT.REFUSALS cls) =
        min (s.fget (Fld.PDM_REQ_CNT.REFUSALS cls) + 1) (Fld.PDM_REQ_CNT.REFUSALS cls).max) ∧
      t = { s.elapse dt with regs := t.regs } ∧
      RegsBut [Fld.PDM_MODE.MODE d, Fld.PDM_MODE.LAST_UNIT d, Fld.PDM_MODE.LAST_REASON d, Fld.PDM_MODE.LAST_CLASS d,
        Fld.PDM_REQ_CNT.REFUSALS cls, Fld.PDM_REQ_CNT.RF_SAT cls, Fld.PDM_REQ_LAST.DOMAIN cls, Fld.PDM_REQ_LAST.UNIT cls,
        Fld.PDM_REQ_LAST.REASON cls, Fld.PDM_REQ_LAST.MODE cls, Fld.PDM_REQ_LAST.BEAT cls] s t) ∧
  (∀ (s : State) (dt d cls mode : Nat), d < 96 → (s.dom d).pend = some (mode, cls) → (s.dom d).window = none →
    (s.elapse dt).idleOk d mode = true →
    ∃ t, exec (.domainIdlePoint dt d) s = .next t ∧
      t.dom d = { s.dom d with
        pend := none, window := some (mode, cls), wakeNext := false, next := none, winAt := s.now + dt } ∧
      (∀ e, e ≠ d → t.dom e = s.dom e) ∧ t.fget (Fld.PDM_MODE.PENDING d) = 0 ∧ t.fget (Fld.PDM_MODE.STATE d) = 3 ∧
      t = { s.elapse dt with regs := t.regs, doms := t.doms } ∧
      RegsBut [Fld.PDM_MODE.PENDING d, Fld.PDM_MODE.STATE d] s t) ∧
  (∀ (s : State) (dt d cls mode reason : Nat) (c : Instr), d < 96 → cls ≤ 3 → (s.dom d).pend = some (mode, cls) →
    (c = .domainCancel dt d ∧ reason = 10 ∧ s.fmWritable 0x1C0200 = true ∧ (s.dom d).window = none) ∨
      (c = .domainNoIdleTimeout dt d ∧ reason = 8 ∧ (s.dom d).since + 10000000 ≤ s.now + dt) →
    ∃ t, exec c s = .next t ∧
      t.dom d = { s.dom d with pend := none } ∧ (∀ e, e ≠ d → t.dom e = s.dom e) ∧
      t.fget (Fld.PDM_MODE.PENDING d) = 0 ∧ t.fget (Fld.PDM_MODE.LAST_REASON d) = reason ∧
      (cls ≤ 1 → t.fget (Fld.PDM_REQ_CNT.ABORTS cls) =
        min (s.fget (Fld.PDM_REQ_CNT.ABORTS cls) + 1) (Fld.PDM_REQ_CNT.ABORTS cls).max) ∧
      t = { s.elapse dt with regs := t.regs, doms := t.doms } ∧
      RegsBut [Fld.PDM_MODE.PENDING d, Fld.PDM_MODE.LAST_UNIT d, Fld.PDM_MODE.LAST_REASON d, Fld.PDM_MODE.LAST_CLASS d,
        Fld.PDM_REQ_CNT.ABORTS cls, Fld.PDM_REQ_CNT.AB_SAT cls, Fld.PDM_REQ_LAST.DOMAIN cls, Fld.PDM_REQ_LAST.UNIT cls,
        Fld.PDM_REQ_LAST.REASON cls, Fld.PDM_REQ_LAST.MODE cls, Fld.PDM_REQ_LAST.BEAT cls] s t)

/-- R395, R401, R403, R259: the end of a commit window moves the domain's switch to the mode asked for, the ranks of a DRAM channel
going into self-refresh with its domain 13 + 2ch and coming out of it when that is ready again; a wake source latches and
starts the return to ON of every domain of its mask that is in RETENTION; a restore that is ready leaves the domain ON, and a flash channel
with a read that waited for it then reads (R402). R397, Table
16-3: the window ends 4 µs after the save, and a domain is ready at the delay of its row, not before. -/
def Obligations.DomainSwitchesAndWakes : Prop :=
  (∀ (s : State) (dt d cls mode : Nat), d < 96 → mode < 4 → (s.dom d).window = some (mode, cls) → (s.dom d).next = none →
    (s.dom d).winAt + windowNs d mode ≤ s.now + dt → (mode = 1 → (s.dom d).wakeNext = false ∧ s.fget Fld.PDM_WAKE_STS.LEVEL = 0) →
    ∃ t, exec (.domainCommitWindowEnd dt d) s = .next t ∧
      (t.dom d).mode = mode ∧ (t.dom d).window = none ∧ (t.dom d).waking = false ∧ (∀ e, e ≠ d → t.dom e = s.dom e) ∧
      t.fget (Fld.PDM_MODE.STATE d) = mode ∧
      (¬ (d = 92 ∧ mode = 2) → ¬ (13 ≤ d ∧ d ≤ 27 ∧ mode = 1) → t = { s.elapse dt with regs := t.regs, doms := t.doms }) ∧
      t = { s.elapse dt with regs := t.regs, doms := t.doms, col := t.col, tx := t.tx, chans := t.chans, out := t.out } ∧
      (13 ≤ d → d ≤ 27 → d % 2 = 1 → mode = 1 → s.fget (Fld.DRC_STS.STATE ((d - 13) / 2)) = 2 →
        t.fget (Fld.DRC_STS.STATE ((d - 13) / 2)) = 4 ∧ t.chan ((d - 13) / 2) = (s.chan ((d - 13) / 2)).recall) ∧
      (60 ≤ d → d ≤ 75 → t.fget (Fld.SCB_CL_STS.STATE (d - 60)) = if (s.dom d).isolated then 2 else if mode = 2 then 3 else mode) ∧
      RegsBut ([Fld.PDM_MODE.STATE d, Fld.PDM_RES.RESIDENT_US d (s.dom d).mode, Fld.PDM_RES.OVF d (s.dom d).mode] ++
        (if 13 ≤ d ∧ d ≤ 27 then [Fld.DRC_STS.STATE ((d - 13) / 2)] else []) ++
        (if 60 ≤ d ∧ d ≤ 75 then [Fld.SCB_CL_STS.STATE (d - 60)] else [])) s t) ∧
  (∀ (s : State) (dt d fw : Nat), 13 ≤ d → d ≤ 27 → d % 2 = 1 → (s.dom d).waking = true → (s.dom d).wasOff = false →
    (s.dom d).wakeAt + 116000 ≤ s.now + dt →
    s.fget (Fld.DRC_STS.STATE ((d - 13) / 2)) = 4 →
    ∃ t, exec (.domainReady dt d true fw) s = .next t ∧ (t.dom d).mode = 0 ∧
      t.fget (Fld.DRC_STS.STATE ((d - 13) / 2)) = 2 ∧
      t.chan ((d - 13) / 2) = { s.chan ((d - 13) / 2) with xsUntil := s.now + dt + (s.chan ((d - 13) / 2)).txs } ∧
      t = { s.elapse dt with regs := t.regs, doms := t.doms, chans := t.chans }) ∧
  (∀ (s : State) (dt w : Nat), w < 5 →
    ∃ t, exec (.wakeSource dt w) s = .next t ∧
      t.fget Fld.PDM_WAKE_STS.LATCHED = (s.fget Fld.PDM_WAKE_STS.LATCHED ||| 2 ^ w) % 32 ∧
      (s.dev = .off → t.doms = s.doms) ∧
      (s.dev ≠ .off → ∀ d, d < 96 → s.wakes w d = true → (s.dom d).window = none → (s.dom d).mode = 1 →
        (s.dom d).waking = false →
          t.dom d = { s.dom d with pend := none, waking := true, wasOff := false, wakeAt := s.now + dt } ∧ t.fget (Fld.PDM_MODE.STATE d) = 3) ∧
      (∀ d, d < 96 → s.wakes w d = false → t.dom d = s.dom d) ∧
      t = { s.elapse dt with regs := t.regs, doms := t.doms }) ∧
  (∀ (s : State) (dt d fw : Nat), d < 96 → ¬ (12 ≤ d ∧ d ≤ 27) → (s.dom d).waking = true → (s.dom d).wasOff = false →
    (s.dom d).wakeAt + readyNs d ≤ s.now + dt →
    ∃ t, exec (.domainReady dt d true fw) s = .next t ∧
      (t.dom d).mode = 0 ∧ (t.dom d).waking = false ∧ (∀ e, e ≠ d → t.dom e = s.dom e) ∧
      t.fget (Fld.PDM_MODE.STATE d) = 0 ∧ (¬ (28 ≤ d ∧ d ≤ 59) → t.rfl_ = s.rfl_) ∧
      t = { s.elapse dt with regs := t.regs, doms := t.doms, rfl_ := t.rfl_ } ∧
      RegsBut ([Fld.PDM_MODE.STATE d, Fld.PDM_RES.RESIDENT_US d (s.dom d).mode, Fld.PDM_RES.OVF d (s.dom d).mode] ++
        (if 60 ≤ d ∧ d ≤ 75 then [Fld.SCB_CL_STS.STATE (d - 60)] else [])) s t) ∧
  (∀ (s : State) (dt c fw p : Nat) (x : Draw), c < 16 → (s.dom (28 + 2 * c)).waking = true → (s.dom (28 + 2 * c)).wasOff = false →
    (s.dom (28 + 2 * c)).wakeAt + 68000 ≤ s.now + dt → (s.dom (29 + 2 * c)).mode = 0 → s.rfl_.draws = [x] →
    x = ⟨p, false, .queued, x.since, x.rebuilt, x.from_, none⟩ → keyDs x.from_ / 32 = c →
    s.holdsDie (keyDs x.from_) = false → (∀ e ∈ s.log.dieOps, e.1 ≠ keyDs x.from_) →
    ∃ t, exec (.domainReady dt (28 + 2 * c) true fw) s = .next t ∧ t.rfl_.draws = [{ x with step := .reading }]) ∧
  (∀ (s : State) (dt d fw : Nat) (ok : Bool), s.now + dt < (s.dom d).wakeAt + readyNs d →
    exec (.domainReady dt d ok fw) s = .next (s.elapse dt)) ∧
  (∀ (s : State) (dt d : Nat) (m : Nat × Nat), (s.dom d).window = some m → s.now + dt < (s.dom d).winAt + windowNs d m.1 →
    exec (.domainCommitWindowEnd dt d) s = .next (s.elapse dt))

/-! ## The two-wire target (chapter 17) -/

/-- R410, R413 to R415: how a transaction of the two-wire target begins, how its frame is judged and how it ends. What a wake
source does to the domains of its mask (R403) changes registers and domains only. -/
def Obligations.TwoWireTransactions : Prop :=
  (∀ (s : State) (dt a : Nat), s.twbUp = true → s.twb.nakAt = none → a ∈ s.twbAnswers → a < 128 →
    ∃ t, exec (.twoWireStart dt a) s = .next t ∧
      t.twb = { s.twb with cur := some a, stopAt := none, nakAt := none } ∧
      t.fget Fld.TWB_STS.BUSY = 1 ∧ t.fget Fld.TWB_STS.LAST_ADDR = a ∧
      t = { s.elapse dt with regs := t.regs, doms := t.doms, twb := t.twb }) ∧
  (∀ (s : State) (dt a : Nat), s.dev ≠ .off → s.twbUp = false → s.twb.nakAt = none →
    ∃ t, exec (.twoWireStart dt a) s = .next t ∧
      t.twb = { s.twb with nakAt := some (s.now + dt) } ∧ t.out = (s.elapse dt).out ++ [.nak] ∧
      t.fget Fld.TWB_CNT_A.NAK_SLEEP = min (s.fget Fld.TWB_CNT_A.NAK_SLEEP + 1) Fld.TWB_CNT_A.NAK_SLEEP.max ∧
      t = { s.elapse dt with regs := t.regs, doms := t.doms, twb := t.twb, out := t.out }) ∧
  (∀ (s : State) (dt a : Nat) (code : Option Byte) (bs : List Byte) (f : FrameFail), s.twbUp = true →
    s.twb.cur = some a → f = s.frameFail a ((code.toList ++ bs).map BitVec.toNat) →
    ∃ t, exec (.twoWireFrameEnd dt a code bs) s = .next t ∧
      t.twb = { s.twb with cur := none, stopAt := some (s.now + dt) } ∧ t.fget Fld.TWB_STS.BUSY = 0 ∧
      t.out = (s.elapse dt).out ++ (if f = .byte ∨ f = .pec then [Out.nak] else []) ∧
      t.fget Fld.TWB_CNT_A.PEC_ERR = (if f = .pec then
        min (s.fget Fld.TWB_CNT_A.PEC_ERR + 1) Fld.TWB_CNT_A.PEC_ERR.max else s.fget Fld.TWB_CNT_A.PEC_ERR) ∧
      t = { s.elapse dt with regs := t.regs, twb := t.twb, out := t.out } ∧
      RegsBut [Fld.TWB_STS.BUSY, Fld.TWB_CNT_A.PEC_ERR, Fld.TWB_CNT_A.PE_SAT] s t) ∧
  (∀ (s : State) (dt : Nat), s.twbUp = true →
    ∃ t, exec (.twoWireTimeout dt) s = .next t ∧ t.twb.cur = none ∧
      t.fget Fld.TWB_CNT_B.TIMEOUT = min (s.fget Fld.TWB_CNT_B.TIMEOUT + 1) Fld.TWB_CNT_B.TIMEOUT.max ∧
      t = { s.elapse dt with regs := t.regs, twb := t.twb } ∧
      RegsBut [Fld.TWB_STS.BUSY, Fld.TWB_CNT_B.TIMEOUT, Fld.TWB_CNT_B.TO_SAT] s t) ∧
  (∀ (s : State) (dt t0 : Nat), s.twb.stopAt = some t0 → t0 + 1000000 * s.fget Fld.TWB_CFG.AWAKE_MS ≤ s.now + dt →
    exec (.twoWireAwakeExpiry dt) s = .next { s.elapse dt with twb := { s.twb with stopAt := none } })

/-- R420, R421, R423: a READ32, WRITE32 or SUMMARY of an address with protocol REG. A read or write that passes the checks of
Table 17-2 is one 32-bit access of the FM-owned LD's BAR0, one that a check refuses answers that check's STATUS without an
access and counts in DENIED, and SUMMARY answers the 16 bytes of Table 17-3 and changes nothing. Table 17-2: the checks of a
register access, in the table's order; the first that fails decides STATUS. -/
def Obligations.TwoWireRegisterAccess : Prop :=
  (∀ (s : State) (dt a off i : Nat), s.twbReg a = some i → s.twbCheck i off false = 0 →
    ∃ t, exec (.read32 dt a off) s = .next t ∧
      t = ((s.elapse dt).regRead off 32).1.twbReply a ([2 * a, 0x30, 4] ++ leBytes 4 off)
        ([5, 0] ++ leBytes 4 ((s.elapse dt).regRead off 32).2)) ∧
  (∀ (s : State) (dt a off i : Nat) (v : BitVec 32), s.twbReg a = some i → s.twbCheck i off true = 0 →
    ∃ t, exec (.write32 dt a off v) s = .next t ∧
      t = ((s.elapse dt).regWrite .twoWire off 32 v.toNat).twbReply a
        ([2 * a, 0x31, 8] ++ leBytes 4 off ++ leBytes 4 v.toNat) [1, 0]) ∧
  (∀ (s : State) (dt a off i : Nat) (v : BitVec 32), s.twbReg a = some i → s.pecOn a = false → s.twbCheck i off true ≠ 0 →
    ∃ t, exec (.write32 dt a off v) s = .next t ∧
      t.out = (s.elapse dt).out ++ [.twoWire [1, s.twbCheck i off true]] ∧
      t.fget Fld.TWB_CNT_C.DENIED = min (s.fget Fld.TWB_CNT_C.DENIED + 1) Fld.TWB_CNT_C.DENIED.max ∧
      t = { s.elapse dt with regs := t.regs, out := t.out } ∧
      RegsBut [Fld.TWB_CNT_C.DENIED, Fld.TWB_CNT_C.DN_SAT] s t) ∧
  (∀ (s : State) (dt a i : Nat), s.twbReg a = some i → s.pecOn a = false →
    exec (.summary dt a) s = .next { s.elapse dt with out := (s.elapse dt).out ++ [.twoWire (16 :: s.summaryBytes)] } ∧
      s.summaryBytes.length = 16) ∧
  (∀ (s : State) (i off : Nat) (write : Bool),
    s.twbCheck i off write =
      if off % 4 ≠ 0 then 3
      else if off < 0x100000 ∨ 0x400000 ≤ off then 5
      else if write = true ∧ (s.on (Fld.TWB_ADDR.WRITE_EN i) = false ∨ 0x200000 ≤ off ∨
          (off / 65536 = 0x1F ∧ s.on Fld.TWB_CFG.LOCK = true) ∨ (s.basinLike = true ∧ s.basinBlock off = false)) then 0x0B
      else if s.regOff off = true then 0x0B
      else 0)

/-- R418, R419: the MCTP control commands, the packets that carry messages and the FM API messages. An endpoint identifier is 1
to 254 (log entry 43, PRESUMED). R417: an MCTP packet that waits is sent; one that loses arbitration is retried at most
TX_RETRIES times within 100 ms, then dropped, and counted in ARB_LOST and MCTP_DROP. -/
def Obligations.MctpMessagesAndPackets : Prop :=
  (∀ (s : State) (dt eid : Nat), s.mctpUp = true → 0 < eid → eid < 255 →
    ∃ t, exec (.setEndpointId dt eid) s = .next t ∧ t.fget Fld.TWB_STS.EID = eid ∧
      t.out = (s.elapse dt).out ++ [.twoWire [1, 0, 0, eid, 0]] ∧ t.twb = { s.twb with waiting := s.twb.waiting + 1 } ∧
      t = { s.elapse dt with regs := t.regs, twb := t.twb, out := t.out } ∧
      RegsBut [Fld.TWB_STS.EID, Fld.TWB_STS.TX_PENDING, Fld.TWB_STS.QUEUED] s t) ∧
  (∀ (s : State) (dt : Nat), s.mctpUp = true →
    ∃ t u v, exec (.getEndpointId dt) s = .next t ∧ exec (.getMctpVersionSupport dt) s = .next u ∧
      exec (.getMessageTypeSupport dt) s = .next v ∧
      t.out = (s.elapse dt).out ++ [.twoWire [2, 0, s.fget Fld.TWB_STS.EID, 0, 0]] ∧
      u.out = (s.elapse dt).out ++ [.twoWire [4, 0, info 4]] ∧ v.out = (s.elapse dt).out ++ [.twoWire [5, 0, 1, 7]] ∧
      (∀ x ∈ [t, u, v], x.twb = { s.twb with waiting := s.twb.waiting + 1 } ∧ x.fget Fld.TWB_STS.TX_PENDING = 1 ∧
        x = { s.elapse dt with regs := x.regs, twb := x.twb, out := x.out } ∧
        RegsBut [Fld.TWB_STS.TX_PENDING, Fld.TWB_STS.QUEUED] s x)) ∧
  (∀ (s : State) (dt src n : Nat) (msg : Instr), s.mctpUp = true → s.twb.parts = [] → s.twb.queue.length < 4 → n ≤ 64 →
    ∃ t, exec (.mctpPacketRx dt src true true 7 n msg) s = .next t ∧
      t.twb = { s.twb with queue := s.twb.queue ++ [msg] } ∧ t.fget Fld.TWB_STS.QUEUED = s.twb.queue.length + 1 ∧
      t = { s.elapse dt with regs := t.regs, twb := t.twb } ∧
      RegsBut [Fld.TWB_STS.TX_PENDING, Fld.TWB_STS.QUEUED] s t) ∧
  (∀ (s : State) (dt src n ty : Nat) (msg : Instr), s.mctpUp = true → s.twb.parts = [] → n ≤ 64 →
    (ty ≠ 0 ∧ ty ≠ 7) ∨ (ty = 7 ∧ 4 ≤ s.twb.queue.length) →
    ∃ t, exec (.mctpPacketRx dt src true true ty n msg) s = .next t ∧ t.twb = s.twb ∧
      t.fget Fld.TWB_CNT_C.MCTP_DROP = min (s.fget Fld.TWB_CNT_C.MCTP_DROP + 1) Fld.TWB_CNT_C.MCTP_DROP.max ∧
      t = { s.elapse dt with regs := t.regs } ∧
      RegsBut [Fld.TWB_CNT_C.MCTP_DROP, Fld.TWB_CNT_C.MD_SAT] s t) ∧
  (∀ (s : State) (dt : Nat) (msg : Instr) (rest : List Instr), s.mctpUp = true → s.twb.queue = msg :: rest →
    exec (.fmApiMessage dt) s =
      .next (mailboxRun msg { s.elapse dt with twb := { s.twb with queue := rest } }).mctpSend) ∧
  (∀ (s : State) (dt w : Nat), s.mctpUp = true → 0 < s.twb.waiting → s.twb.tx = none →
    ∃ t, exec (.mctpTransmit dt false w) s = .next t ∧ t.out = (s.elapse dt).out ++ [.twoWire [0x0F]] ∧
      t.twb = { s.twb with waiting := s.twb.waiting - 1 } ∧
      t = { s.elapse dt with regs := t.regs, twb := t.twb, out := t.out } ∧
      RegsBut [Fld.TWB_STS.TX_PENDING, Fld.TWB_STS.QUEUED] s t) ∧
  (∀ (s : State) (dt w : Nat), s.mctpUp = true → 0 < s.twb.waiting → s.twb.tx = none → w ∉ s.twbAnswers →
    exec (.mctpTransmit dt true w) s = .next { s.elapse dt with twb := { s.twb with tx := some (0, s.now + dt) } }) ∧
  (∀ (s : State) (dt n t0 : Nat), s.mctpUp = true → s.twb.tx = some (n, t0) → s.now + dt ≤ t0 + 100000000 →
    n + 1 < s.fget Fld.TWB_CFG.TX_RETRIES →
    exec (.mctpRetry dt true) s = .next { s.elapse dt with twb := { s.twb with tx := some (n + 1, t0) } }) ∧
  (∀ (s : State) (dt n t0 : Nat), s.mctpUp = true → s.twb.tx = some (n, t0) → s.now + dt ≤ t0 + 100000000 →
    ∃ t, exec (.mctpRetry dt false) s = .next t ∧ t.out = (s.elapse dt).out ++ [.twoWire [0x0F]] ∧
      t.twb = { s.twb with waiting := s.twb.waiting - 1, tx := none } ∧
      t = { s.elapse dt with regs := t.regs, twb := t.twb, out := t.out } ∧
      RegsBut [Fld.TWB_STS.TX_PENDING, Fld.TWB_STS.QUEUED] s t) ∧
  (∀ (s : State) (dt n t0 : Nat), s.mctpUp = true → s.twb.tx = some (n, t0) → 
    (t0 + 100000000 < s.now + dt ∨ s.fget Fld.TWB_CFG.TX_RETRIES ≤ n + 1) →
    ∃ t, exec (.mctpRetry dt true) s = .next t ∧
      t.twb = { s.twb with waiting := s.twb.waiting - 1, tx := none } ∧
      t.fget Fld.TWB_CNT_B.ARB_LOST = min (s.fget Fld.TWB_CNT_B.ARB_LOST + 1) Fld.TWB_CNT_B.ARB_LOST.max ∧
      t.fget Fld.TWB_CNT_C.MCTP_DROP = min (s.fget Fld.TWB_CNT_C.MCTP_DROP + 1) Fld.TWB_CNT_C.MCTP_DROP.max ∧
      t = { s.elapse dt with regs := t.regs, twb := t.twb } ∧
      RegsBut [Fld.TWB_CNT_B.ARB_LOST, Fld.TWB_CNT_B.AL_SAT, Fld.TWB_CNT_C.MCTP_DROP, Fld.TWB_CNT_C.MD_SAT,
        Fld.TWB_STS.TX_PENDING, Fld.TWB_STS.QUEUED] s t)

/-! ## Registers (chapter 18) -/

/-- R428: an access of another size or alignment has no effect: a read answers 0 and a write changes nothing. R2, R432: a write
to an RWB field stages it and changes no register (COL_EPOCH_CFG), a write to an RW field takes effect (MODE of PDM_MODE), and
writing 1 to a W1C bit clears it (LATCHED of PDM_WAKE_STS). R437: a 32-bit RC register is returned and cleared by any read
(PDM_WAKE_CNT). R436: a low-half read of an RSL register answers the low half and snapshots the high half of the same instant,
and a later high-half read answers that snapshot, however much time has passed (CIS_ELAPSED). R432, R433, R170: a COMMIT write
that its path may make captures the staged set of the blocks it covers as it stands, and is held while SPILLING or SEALED; it
changes no register. -/
def Obligations.RegisterAccessesByCode : Prop :=
  (∀ (s : State) (dt off width : Nat) (v : Word),
    s.barUp .fm = true → off < 2 ^ 28 → ¬ (width = 32 ∧ off % 4 = 0) → ¬ (width = 64 ∧ off % 8 = 0) →
    exec (.registerWrite dt .fm off width v) s = .next (s.elapse dt) ∧
    exec (.rcRead dt .fm off width) s = .next ((s.elapse dt).emit (.reg 0)) ∧
    exec (.rslRead dt .fm off width) s = .next ((s.elapse dt).emit (.reg 0))) ∧
  (∀ (s : State) (dt : Nat) (v : Word), s.barUp .fm = true → s.fmWritable 0x190018 = true →
    ∃ t, exec (.registerWrite dt .fm 0x190018 32 v) s = .next t ∧
      tabGet 0 Fld.COL_EPOCH_CFG.K.bit t.staged = v.toNat % 32 ∧
      tabGet 0 Fld.COL_EPOCH_CFG.GUARD.bit t.staged = v.toNat / 256 % 16 ∧
      (∀ b, b ≠ Fld.COL_EPOCH_CFG.K.bit → b ≠ Fld.COL_EPOCH_CFG.GUARD.bit → tabGet 0 b t.staged = tabGet 0 b s.staged) ∧
      t = { s.elapse dt with staged := t.staged }) ∧
  (∀ (s : State) (dt d : Nat) (v : Word), d < 96 → s.barUp .fm = true → s.fmWritable (0x1C0000 + 4 * d) = true →
    ∃ t, exec (.registerWrite dt .fm (0x1C0000 + 4 * d) 32 v) s = .next t ∧
      t.fget (Fld.PDM_MODE.MODE d) = v.toNat % 4 ∧
      t = { s.elapse dt with regs := t.regs } ∧ RegsBut [Fld.PDM_MODE.MODE d] s t) ∧
  (∀ (s : State) (dt : Nat) (v : Word), s.barUp .fm = true → s.fmWritable 0x1C0480 = true →
    s.fget Fld.PDM_WAKE_STS.LATCHED < 32 →
    ∃ t, exec (.registerWrite dt .fm 0x1C0480 32 v) s = .next t ∧
      t.fget Fld.PDM_WAKE_STS.LATCHED =
        s.fget Fld.PDM_WAKE_STS.LATCHED - (s.fget Fld.PDM_WAKE_STS.LATCHED &&& v.toNat % 32) ∧
      t = { s.elapse dt with regs := t.regs } ∧ RegsBut [Fld.PDM_WAKE_STS.LATCHED] s t) ∧
  (∀ (s : State) (dt : Nat), s.barUp .fm = true →
    ∃ t, exec (.rcRead dt .fm 0x1C0484 32) s = .next t ∧
      t.out = (s.elapse dt).out ++ [.reg (s.fget Fld.PDM_WAKE_CNT.TW_SAT * 2 ^ 31 + s.fget Fld.PDM_WAKE_CNT.LOST_TWO_WIRE * 2 ^ 16 +
        s.fget Fld.PDM_WAKE_CNT.TH_SAT * 2 ^ 15 + s.fget Fld.PDM_WAKE_CNT.LOST_THOBOR)] ∧
      t.fget Fld.PDM_WAKE_CNT.TW_SAT = 0 ∧ t.fget Fld.PDM_WAKE_CNT.LOST_TWO_WIRE = 0 ∧
      t.fget Fld.PDM_WAKE_CNT.TH_SAT = 0 ∧ t.fget Fld.PDM_WAKE_CNT.LOST_THOBOR = 0 ∧
      t = { s.elapse dt with regs := t.regs, out := t.out } ∧
      RegsBut [Fld.PDM_WAKE_CNT.TW_SAT, Fld.PDM_WAKE_CNT.LOST_TWO_WIRE, Fld.PDM_WAKE_CNT.TH_SAT,
        Fld.PDM_WAKE_CNT.LOST_THOBOR] s t) ∧
  (∀ (s : State) (dt : Nat), s.barUp .fm = true →
    ∃ t, exec (.rslRead dt .fm 0x1A00B0 32) s = .next t ∧
      t.out = (s.elapse dt).out ++ [.reg ((s.elapse dt).nowUs % 2 ^ 32)] ∧
      t.snaps.find? (fun e => e.1 == 0x1A00B0) = some (0x1A00B0, (s.elapse dt).nowUs % 2 ^ 64 / 2 ^ 32) ∧
      t = { s.elapse dt with regs := t.regs, snaps := t.snaps, out := t.out } ∧
      RegsBut [Fld.CIS_ELAPSED.ELAPSED_US] s t) ∧
  (∀ (s : State) (dt hi : Nat), s.barUp .fm = true →
    s.snaps.find? (fun e => e.1 == 0x1A00B0) = some (0x1A00B0, hi) →
    ∃ t, exec (.rslRead dt .fm 0x1A00B4 32) s = .next t ∧ t.out = (s.elapse dt).out ++ [.reg hi] ∧ t.snaps = s.snaps ∧
      t = { s.elapse dt with regs := t.regs, out := t.out } ∧ RegsBut [Fld.CIS_ELAPSED.ELAPSED_US] s t) ∧
  (∀ (s : State) (dt c : Nat) (path : Path), s.dev ≠ .off → commitBlocks.any (fun e => e.1 == c) = true →
    s.mayWrite path c = true →
    ∃ t, exec (.commitWrite dt path c) s = .next t ∧
      tabGet [] c t.captured = s.staged.filter (fun e => covered c e.1) ∧
      (∀ b, b ≠ c → tabGet [] b t.captured = tabGet [] b s.captured) ∧
      (c ∈ t.commitHeld ↔ s.isCut = true) ∧
      t = { s.elapse dt with captured := t.captured, commitHeld := t.commitHeld })
end

