-- ==== Sys2Proof/Laws/State.lean ====
section
/-! SUPPORT. Lemmas about the sparse tables and the accessors of the state, so that no later proof unfolds them: a read
after a write, what a write leaves alone, and the canonical form. -/

namespace Sys2Proof.Machine

/-! ## Sparse tables: reads after writes -/

@[simp] theorem tabGet_nil {α : Type} (d : α) (k : Nat) : tabGet d k [] = d := rfl

theorem tabGet_cons {α : Type} (d : α) (k : Nat) (e : Nat × α) (r : List (Nat × α)) :
    tabGet d k (e :: r) = if e.1 = k then e.2 else tabGet d k r := rfl

theorem tabDel_eq_filter {α : Type} (k : Nat) (m : List (Nat × α)) : tabDel k m = m.filter (fun e => e.1 ≠ k) := by
  induction m with
  | nil => rfl
  | cons e r ih => by_cases he : e.1 = k <;> simp [tabDel, he, ih]

theorem tabGet_tabIns_ne {α : Type} (d v : α) {k j : Nat} (h : j ≠ k) (m : List (Nat × α)) :
    tabGet d j (tabIns k v m) = tabGet d j m := by
  induction m with
  | nil => simp [tabIns, tabGet, Ne.symm h]
  | cons e r ih =>
    by_cases hk : k < e.1
    · simp [tabIns, hk, tabGet_cons, Ne.symm h]
    · simp [tabIns, hk, tabGet_cons, ih]

theorem tabGet_tabDel_self {α : Type} (d : α) (k : Nat) (m : List (Nat × α)) : tabGet d k (tabDel k m) = d := by
  induction m with
  | nil => rfl
  | cons e r ih => by_cases he : e.1 = k <;> simp [tabDel, he, tabGet_cons, ih]

theorem tabGet_tabDel_ne {α : Type} (d : α) {k j : Nat} (h : j ≠ k) (m : List (Nat × α)) :
    tabGet d j (tabDel k m) = tabGet d j m := by
  induction m with
  | nil => rfl
  | cons e r ih =>
    by_cases he : e.1 = k
    · have : e.1 ≠ j := fun x => h (x.symm.trans he)
      simp [tabDel, he, tabGet_cons, ih, Ne.symm h]
    · by_cases hj : e.1 = j
      · simp [tabDel, tabGet_cons, hj, h]
      · simp [tabDel, he, tabGet_cons, ih, hj]

theorem tabGet_tabIns_tabDel {α : Type} (d v : α) (k : Nat) (m : List (Nat × α)) :
    tabGet d k (tabIns k v (tabDel k m)) = v := by
  induction m with
  | nil => simp [tabIns, tabDel, tabGet]
  | cons e r ih =>
    by_cases he : e.1 = k
    · simpa [tabDel, he] using ih
    · by_cases hk : k < e.1
      · simp [tabDel, he, tabIns, hk, tabGet_cons]
      · simp [tabDel, he, tabIns, hk, tabGet_cons, ih]

@[simp] theorem tabGet_tabSet_self {α : Type} [DecidableEq α] (d v : α) (k : Nat) (m : List (Nat × α)) :
    tabGet d k (tabSet d k v m) = v := by
  by_cases h : v = d
  · simp [tabSet, h, tabGet_tabDel_self]
  · simp [tabSet, h, tabGet_tabIns_tabDel]

theorem tabGet_tabSet_ne {α : Type} [DecidableEq α] (d d' v : α) {k j : Nat} (h : j ≠ k) (m : List (Nat × α)) :
    tabGet d j (tabSet d' k v m) = tabGet d j m := by
  by_cases hv : v = d'
  · simp [tabSet, hv, tabGet_tabDel_ne _ h]
  · simp [tabSet, hv, tabGet_tabIns_ne _ _ h, tabGet_tabDel_ne _ h]

/-! ## Sparse tables: the canonical form -/

/-- Keys strictly rising, pairwise. -/
def Rising {α : Type} (m : List (Nat × α)) : Prop := m.Pairwise (fun a b => a.1 < b.1)

theorem tabSorted_iff {α : Type} (m : List (Nat × α)) : tabSorted m = true ↔ Rising m := by
  induction m with
  | nil => simp [tabSorted, Rising]
  | cons e r ih =>
    unfold Rising at ih ⊢
    cases r with
    | nil => simp [tabSorted]
    | cons f t =>
      rw [List.pairwise_cons]
      simp only [tabSorted, Bool.and_eq_true, decide_eq_true_eq] at ih ⊢
      rw [ih]
      constructor
      · rintro ⟨h1, h2⟩
        refine ⟨fun a ha => ?_, h2⟩
        rcases List.mem_cons.1 ha with rfl | ha
        · exact h1
        · exact lt_trans h1 ((List.pairwise_cons.1 h2).1 a ha)
      · rintro ⟨h1, h2⟩
        exact ⟨h1 f (by simp), h2⟩

theorem tabSorted_filter {α : Type} (p : Nat × α → Bool) {m : List (Nat × α)} (h : tabSorted m = true) :
    tabSorted (m.filter p) = true :=
  (tabSorted_iff _).2 (((tabSorted_iff m).1 h).filter p)

theorem tabSorted_tabDel {α : Type} (k : Nat) {m : List (Nat × α)} (h : tabSorted m = true) :
    tabSorted (tabDel k m) = true := by
  rw [tabDel_eq_filter]; exact tabSorted_filter _ h

theorem mem_tabIns {α : Type} {k : Nat} {v : α} {e : Nat × α} {m : List (Nat × α)} (h : e ∈ tabIns k v m) :
    e = (k, v) ∨ e ∈ m := by
  induction m with
  | nil => simpa [tabIns] using h
  | cons f r ih =>
    by_cases hk : k < f.1
    · simpa [tabIns, hk] using h
    · rcases (by simpa [tabIns, hk] using h : e = f ∨ e ∈ tabIns k v r) with rfl | h
      · simp
      · rcases ih h with h | h <;> simp [h]

theorem tabSorted_tabIns {α : Type} (k : Nat) (v : α) {m : List (Nat × α)} (h : tabSorted m = true)
    (hk : ∀ e ∈ m, e.1 ≠ k) : tabSorted (tabIns k v m) = true := by
  rw [tabSorted_iff] at h ⊢
  unfold Rising at h ⊢
  induction m with
  | nil => simp [tabIns]
  | cons e r ih =>
    rw [List.pairwise_cons] at h
    by_cases hl : k < e.1
    · simp only [tabIns, hl, if_true, List.pairwise_cons]
      refine ⟨fun a ha => ?_, h⟩
      rcases List.mem_cons.1 ha with rfl | ha
      · exact hl
      · exact lt_trans hl (h.1 a ha)
    · simp only [tabIns, hl, if_false, List.pairwise_cons]
      refine ⟨fun a ha => ?_, ih h.2 (fun a ha => hk a (by simp [ha]))⟩
      rcases mem_tabIns ha with rfl | ha
      · have := hk e (by simp)
        simp only; omega
      · exact h.1 a ha

theorem tabSorted_tabInsDel {α : Type} (k : Nat) (v : α) {m : List (Nat × α)} (h : tabSorted m = true) :
    tabSorted (tabIns k v (tabDel k m)) = true :=
  tabSorted_tabIns k v (tabSorted_tabDel k h) (by rw [tabDel_eq_filter]; intro e he; simpa using (List.mem_filter.1 he).2)

theorem tabSorted_tabSet {α : Type} [DecidableEq α] (d v : α) (k : Nat) {m : List (Nat × α)} (h : tabSorted m = true) :
    tabSorted (tabSet d k v m) = true := by
  unfold tabSet; split
  · exact tabSorted_tabDel k h
  · exact tabSorted_tabInsDel k v h

theorem tabWf_iff {α : Type} [DecidableEq α] (d : α) (m : List (Nat × α)) :
    tabWf d m = true ↔ tabSorted m = true ∧ ∀ e ∈ m, e.2 ≠ d := by
  simp [tabWf]

theorem tabWf_tabSet {α : Type} [DecidableEq α] (d v : α) (k : Nat) {m : List (Nat × α)} (h : tabWf d m = true) :
    tabWf d (tabSet d k v m) = true := by
  rw [tabWf_iff] at h ⊢
  refine ⟨tabSorted_tabSet d v k h.1, fun e he => ?_⟩
  unfold tabSet at he; split at he
  · rw [tabDel_eq_filter] at he; exact h.2 e (List.mem_filter.1 he).1
  · rename_i hv
    rcases mem_tabIns he with rfl | he
    · exact hv
    · rw [tabDel_eq_filter] at he; exact h.2 e (List.mem_filter.1 he).1

theorem tabWf_filter {α : Type} [DecidableEq α] (d : α) (p : Nat × α → Bool) {m : List (Nat × α)}
    (h : tabWf d m = true) : tabWf d (m.filter p) = true := by
  rw [tabWf_iff] at h ⊢
  exact ⟨tabSorted_filter p h.1, fun e he => h.2 e (List.mem_filter.1 he).1⟩

/-! ## Register fields -/

@[simp] theorem State.fget_fset_self (s : State) (f : Field) (v : Nat) : (s.fset f v).fget f = v % 2 ^ f.width := by
  simp [State.fget, State.fset]

theorem State.fget_fset_ne (s : State) {f g : Field} (h : g.bit ≠ f.bit) (v : Nat) :
    (s.fset f v).fget g = s.fget g := tabGet_tabSet_ne _ _ _ h _

@[simp] theorem State.fset_pending (s : State) (f : Field) (v : Nat) : (s.fset f v).pending = s.pending := rfl
@[simp] theorem State.fset_dram (s : State) (f : Field) (v : Nat) : (s.fset f v).dram = s.dram := rfl
@[simp] theorem State.fset_dev (s : State) (f : Field) (v : Nat) : (s.fset f v).dev = s.dev := rfl
@[simp] theorem State.fset_now (s : State) (f : Field) (v : Nat) : (s.fset f v).now = s.now := rfl
@[simp] theorem State.fset_out (s : State) (f : Field) (v : Nat) : (s.fset f v).out = s.out := rfl

/-! ## Outputs, time and modes -/

@[simp] theorem State.emit_regs (s : State) (o : Out) : (s.emit o).regs = s.regs := rfl
@[simp] theorem State.emit_dram (s : State) (o : Out) : (s.emit o).dram = s.dram := rfl
@[simp] theorem State.emit_pending (s : State) (o : Out) : (s.emit o).pending = s.pending := rfl
@[simp] theorem State.emit_out (s : State) (o : Out) : (s.emit o).out = s.out ++ [o] := rfl
@[simp] theorem State.emit_fget (s : State) (o : Out) (f : Field) : (s.emit o).fget f = s.fget f := rfl

/-- Two states that differ in the transmitters and what has left the device only. -/
def TxOnly (s t : State) : Prop := t = { s with tx := t.tx, out := t.out }

theorem TxOnly.rfl (s : State) : TxOnly s s := Eq.refl s
theorem TxOnly.trans {s t u : State} (h : TxOnly s t) (k : TxOnly t u) : TxOnly s u := by
  unfold TxOnly at *; rw [k, h]

theorem TxOnly.foldl {α : Type} (f : State → α → State) (h : ∀ s a, TxOnly s (f s a)) (l : List α) (s : State) :
    TxOnly s (l.foldl f s) := by
  induction l generalizing s with
  | nil => exact .rfl s
  | cons a r ih => exact (h s a).trans (ih _)

/-- A transmitter's step changes nothing but the transmitters and what has left the device (R51). -/
theorem State.txStep_only (s : State) (p : Nat) : TxOnly s (s.txStep p) := by
  simp only [State.txStep]
  split
  · split
    · exact Eq.refl _
    · exact .rfl s
  · exact .rfl s

theorem State.txDrain_only (s : State) : TxOnly s s.txDrain := by
  unfold State.txDrain forUpto
  exact .foldl _ (fun s e => .foldl _ (fun s _ => s.txStep_only _) _ s) _ s

/-- Time that passes changes the clocks, the transmitters and what has left the device (R4, R51, R53). -/
theorem State.elapse_only (s : State) (dt : Nat) : s.elapse dt = { s with
    now := s.now + dt
    colTime := (s.elapse dt).colTime
    col := (s.elapse dt).col
    tx := (s.elapse dt).tx
    out := (s.elapse dt).out } := by
  have h := State.txDrain_only { s with
    now := s.now + dt
    colTime := s.colTime + (((dt : Int) * s.colRate + s.col.frac) / 128000000).toNat
    col := { s.col with frac := ((dt : Int) * s.colRate + s.col.frac) % 128000000 } }
  unfold TxOnly at h
  unfold State.elapse
  dsimp only
  rw [h]

/-- With no frame waiting nothing leaves as time passes. -/
theorem State.elapse_quiet (s : State) (dt : Nat) (h : s.tx = []) : (s.elapse dt).out = s.out ∧ (s.elapse dt).tx = [] := by
  simp [State.elapse, State.txDrain, h]

@[simp] theorem State.elapse_pending (s : State) (dt : Nat) : (s.elapse dt).pending = s.pending := by rw [State.elapse_only]
@[simp] theorem State.elapse_now (s : State) (dt : Nat) : (s.elapse dt).now = s.now + dt := by rw [State.elapse_only]
@[simp] theorem State.elapse_beat (s : State) (dt : Nat) : (s.elapse dt).beat = s.beat := by rw [State.elapse_only]
@[simp] theorem State.elapse_freeCtr (s : State) (dt : Nat) : (s.elapse dt).freeCtr = s.freeCtr := by rw [State.elapse_only]
@[simp] theorem State.elapse_regs (s : State) (dt : Nat) : (s.elapse dt).regs = s.regs := by rw [State.elapse_only]
@[simp] theorem State.elapse_staged (s : State) (dt : Nat) : (s.elapse dt).staged = s.staged := by rw [State.elapse_only]
@[simp] theorem State.elapse_captured (s : State) (dt : Nat) : (s.elapse dt).captured = s.captured := by rw [State.elapse_only]
@[simp] theorem State.elapse_commitHeld (s : State) (dt : Nat) : (s.elapse dt).commitHeld = s.commitHeld := by rw [State.elapse_only]
@[simp] theorem State.elapse_snaps (s : State) (dt : Nat) : (s.elapse dt).snaps = s.snaps := by rw [State.elapse_only]
@[simp] theorem State.elapse_heldLow (s : State) (dt : Nat) : (s.elapse dt).heldLow = s.heldLow := by rw [State.elapse_only]
@[simp] theorem State.elapse_cfgHalf (s : State) (dt : Nat) : (s.elapse dt).cfgHalf = s.cfgHalf := by rw [State.elapse_only]
@[simp] theorem State.elapse_cfgDue (s : State) (dt : Nat) : (s.elapse dt).cfgDue = s.cfgDue := by rw [State.elapse_only]
@[simp] theorem State.elapse_dev (s : State) (dt : Nat) : (s.elapse dt).dev = s.dev := by rw [State.elapse_only]
@[simp] theorem State.elapse_flt (s : State) (dt : Nat) : (s.elapse dt).flt = s.flt := by rw [State.elapse_only]
@[simp] theorem State.elapse_fab (s : State) (dt : Nat) : (s.elapse dt).fab = s.fab := by rw [State.elapse_only]
@[simp] theorem State.elapse_lds (s : State) (dt : Nat) : (s.elapse dt).lds = s.lds := by rw [State.elapse_only]
@[simp] theorem State.elapse_mbx (s : State) (dt : Nat) : (s.elapse dt).mbx = s.mbx := by rw [State.elapse_only]
@[simp] theorem State.elapse_pages (s : State) (dt : Nat) : (s.elapse dt).pages = s.pages := by rw [State.elapse_only]
@[simp] theorem State.elapse_dram (s : State) (dt : Nat) : (s.elapse dt).dram = s.dram := by rw [State.elapse_only]
@[simp] theorem State.elapse_poison (s : State) (dt : Nat) : (s.elapse dt).poison = s.poison := by rw [State.elapse_only]
@[simp] theorem State.elapse_flash (s : State) (dt : Nat) : (s.elapse dt).flash = s.flash := by rw [State.elapse_only]
@[simp] theorem State.elapse_recIdx (s : State) (dt : Nat) : (s.elapse dt).recIdx = s.recIdx := by rw [State.elapse_only]
@[simp] theorem State.elapse_stripesOn (s : State) (dt : Nat) : (s.elapse dt).stripesOn = s.stripesOn := by rw [State.elapse_only]
@[simp] theorem State.elapse_eddy (s : State) (dt : Nat) : (s.elapse dt).eddy = s.eddy := by rw [State.elapse_only]
@[simp] theorem State.elapse_rill (s : State) (dt : Nat) : (s.elapse dt).rill = s.rill := by rw [State.elapse_only]
@[simp] theorem State.elapse_log (s : State) (dt : Nat) : (s.elapse dt).log = s.log := by rw [State.elapse_only]
@[simp] theorem State.elapse_rfl_ (s : State) (dt : Nat) : (s.elapse dt).rfl_ = s.rfl_ := by rw [State.elapse_only]
@[simp] theorem State.elapse_rings (s : State) (dt : Nat) : (s.elapse dt).rings = s.rings := by rw [State.elapse_only]
@[simp] theorem State.elapse_accSeq (s : State) (dt : Nat) : (s.elapse dt).accSeq = s.accSeq := by rw [State.elapse_only]
@[simp] theorem State.elapse_rngAt (s : State) (dt : Nat) : (s.elapse dt).rngAt = s.rngAt := by rw [State.elapse_only]
@[simp] theorem State.elapse_molt (s : State) (dt : Nat) : (s.elapse dt).molt = s.molt := by rw [State.elapse_only]
@[simp] theorem State.elapse_spill (s : State) (dt : Nat) : (s.elapse dt).spill = s.spill := by rw [State.elapse_only]
@[simp] theorem State.elapse_sealedImg (s : State) (dt : Nat) : (s.elapse dt).sealedImg = s.sealedImg := by rw [State.elapse_only]
@[simp] theorem State.elapse_elys (s : State) (dt : Nat) : (s.elapse dt).elys = s.elys := by rw [State.elapse_only]
@[simp] theorem State.elapse_targets (s : State) (dt : Nat) : (s.elapse dt).targets = s.targets := by rw [State.elapse_only]
@[simp] theorem State.elapse_chans (s : State) (dt : Nat) : (s.elapse dt).chans = s.chans := by rw [State.elapse_only]
@[simp] theorem State.elapse_mapGrain (s : State) (dt : Nat) : (s.elapse dt).mapGrain = s.mapGrain := by rw [State.elapse_only]
@[simp] theorem State.elapse_mapHash (s : State) (dt : Nat) : (s.elapse dt).mapHash = s.mapHash := by rw [State.elapse_only]
@[simp] theorem State.elapse_reservePm (s : State) (dt : Nat) : (s.elapse dt).reservePm = s.reservePm := by rw [State.elapse_only]
@[simp] theorem State.elapse_psq (s : State) (dt : Nat) : (s.elapse dt).psq = s.psq := by rw [State.elapse_only]
@[simp] theorem State.elapse_doms (s : State) (dt : Nat) : (s.elapse dt).doms = s.doms := by rw [State.elapse_only]
@[simp] theorem State.elapse_pdmLock (s : State) (dt : Nat) : (s.elapse dt).pdmLock = s.pdmLock := by rw [State.elapse_only]
@[simp] theorem State.elapse_vaonAt (s : State) (dt : Nat) : (s.elapse dt).vaonAt = s.vaonAt := by rw [State.elapse_only]
@[simp] theorem State.elapse_chrys (s : State) (dt : Nat) : (s.elapse dt).chrys = s.chrys := by rw [State.elapse_only]
@[simp] theorem State.elapse_chrysPsq (s : State) (dt : Nat) : (s.elapse dt).chrysPsq = s.chrysPsq := by rw [State.elapse_only]
@[simp] theorem State.elapse_timeLost (s : State) (dt : Nat) : (s.elapse dt).timeLost = s.timeLost := by rw [State.elapse_only]
@[simp] theorem State.elapse_cis (s : State) (dt : Nat) : (s.elapse dt).cis = s.cis := by rw [State.elapse_only]
@[simp] theorem State.elapse_boot (s : State) (dt : Nat) : (s.elapse dt).boot = s.boot := by rw [State.elapse_only]
@[simp] theorem State.elapse_flm (s : State) (dt : Nat) : (s.elapse dt).flm = s.flm := by rw [State.elapse_only]
@[simp] theorem State.elapse_twb (s : State) (dt : Nat) : (s.elapse dt).twb = s.twb := by rw [State.elapse_only]
@[simp] theorem State.elapse_fget (s : State) (dt : Nat) (f : Field) : (s.elapse dt).fget f = s.fget f := by
  simp [State.fget]
@[simp] theorem State.elapse_on (s : State) (dt : Nat) (f : Field) : (s.elapse dt).on f = s.on f := by
  simp [State.on]
@[simp] theorem State.elapse_isOpen (s : State) (dt : Nat) : (s.elapse dt).isOpen = s.isOpen := by
  simp [State.isOpen]
@[simp] theorem State.elapse_isCut (s : State) (dt : Nat) : (s.elapse dt).isCut = s.isCut := by
  simp [State.isCut]
@[simp] theorem State.elapse_fmWritable (s : State) (dt off : Nat) :
    (s.elapse dt).fmWritable off = s.fmWritable off := by
  simp [State.fmWritable, State.basinLike, State.basinBlock]

@[simp] theorem State.elapse_bootStage (s : State) (dt : Nat) : (s.elapse dt).bootStage = s.bootStage := by
  simp [State.bootStage]
@[simp] theorem State.elapse_basinLike (s : State) (dt : Nat) : (s.elapse dt).basinLike = s.basinLike := by
  simp [State.basinLike]
@[simp] theorem State.elapse_ld (s : State) (dt : Nat) (n : Nat) : (s.elapse dt).ld n = s.ld n := by
  simp [State.ld]
@[simp] theorem State.elapse_bound (s : State) (dt : Nat) (n : Nat) : (s.elapse dt).bound n = s.bound n := by
  simp [State.bound, State.ld]
@[simp] theorem State.elapse_ldOfPage (s : State) (dt p : Nat) : (s.elapse dt).ldOfPage p = s.ldOfPage p := by
  simp [State.ldOfPage]
@[simp] theorem State.elapse_dfltRec (s : State) (dt p : Nat) : (s.elapse dt).dfltRec p = s.dfltRec p := by
  simp [State.dfltRec]
@[simp] theorem State.elapse_page (s : State) (dt : Nat) (p : Nat) : (s.elapse dt).page p = s.page p := by
  simp [State.page]
@[simp] theorem State.elapse_mb (s : State) (dt : Nat) (k : Nat) : (s.elapse dt).mb k = s.mb k := by
  simp [State.mb]
@[simp] theorem State.elapse_dom (s : State) (dt : Nat) (d : Nat) : (s.elapse dt).dom d = s.dom d := by
  simp [State.dom]
@[simp] theorem State.elapse_rail (s : State) (dt : Nat) (r : Nat) : (s.elapse dt).rail r = s.rail r := by
  simp [State.rail]
@[simp] theorem State.elapse_chan (s : State) (dt : Nat) (c : Nat) : (s.elapse dt).chan c = s.chan c := by
  simp [State.chan]
@[simp] theorem State.elapse_ring (s : State) (dt : Nat) (a b : Nat) : (s.elapse dt).ring a b = s.ring a b := by
  simp [State.ring]
@[simp] theorem State.elapse_ely (s : State) (dt : Nat) (e : Nat) : (s.elapse dt).ely e = s.ely e := by
  simp [State.ely]
@[simp] theorem State.elapse_target (s : State) (dt : Nat) (n : Nat) : (s.elapse dt).target n = s.target n := by
  simp [State.target]
@[simp] theorem State.elapse_unitSt (s : State) (dt : Nat) (u : Nat) : (s.elapse dt).unitSt u = s.unitSt u := by
  simp [State.unitSt]
@[simp] theorem State.elapse_linePoison (s : State) (dt : Nat) (l : Nat) : (s.elapse dt).linePoison l = s.linePoison l := by
  simp [State.linePoison]

end Sys2Proof.Machine
end

