-- ==== Sys2Proof/Laws/Fields.lean ====
section
/-! SUPPORT. What the shared operations on counters, fault messages, mailboxes, links and rings do, each said once, and that folds and maps of
table updates keep the canonical form. -/

namespace Sys2Proof

open Machine

theorem RegsBut.refl (fs : List Field) (s : State) : RegsBut fs s s := fun _ _ => rfl

theorem RegsBut.trans {fs : List Field} {s t u : State} (h : RegsBut fs s t) (k : RegsBut fs t u) : RegsBut fs s u :=
  fun f hf => (k f hf).trans (h f hf)

namespace Machine

/-! ## Counters that saturate or wrap (R438) -/

theorem Field.max_lt (f : Field) : f.max < 2 ^ f.width := by
  have : 0 < 2 ^ f.width := Nat.two_pow_pos _
  unfold Field.max; omega

/-- A counter goes up to its greatest value and stays there. -/
theorem State.fget_bump_self (s : State) {c o : Field} (h : c.bit ≠ o.bit) (n : Nat) :
    (s.bump c o n).fget c = min (s.fget c + n) c.max := by
  have := c.max_lt
  unfold State.bump; split
  · rw [State.fget_fset_self, Nat.mod_eq_of_lt (by omega)]; omega
  · rw [State.fget_fset_ne _ h, State.fget_fset_self, Nat.mod_eq_of_lt (by omega)]; omega

theorem State.fget_bump_ne (s : State) {c o g : Field} (hc : g.bit ≠ c.bit) (ho : g.bit ≠ o.bit) (n : Nat) :
    (s.bump c o n).fget g = s.fget g := by
  unfold State.bump; split <;> simp [State.fget_fset_ne, hc, ho]

theorem State.bump_eq (s : State) (c o : Field) (n : Nat) : s.bump c o n = { s with regs := (s.bump c o n).regs } := by
  unfold State.bump; split <;> rfl

theorem State.fget_wrap_ne (s : State) {c o g : Field} (hc : g.bit ≠ c.bit) (ho : g.bit ≠ o.bit) (n : Nat) :
    (s.wrap c o n).fget g = s.fget g := by
  unfold State.wrap; split <;> simp [State.fget_fset_ne, hc, ho]

theorem State.wrap_eq (s : State) (c o : Field) (n : Nat) : s.wrap c o n = { s with regs := (s.wrap c o n).regs } := by
  unfold State.wrap; split <;> rfl

/-! ## Fault messages (R357, R369) -/

theorem mem_tabIns_self {α : Type} (k : Nat) (v : α) (m : List (Nat × α)) : (k, v) ∈ tabIns k v m := by
  induction m with
  | nil => simp [tabIns]
  | cons e r ih => by_cases h : k < e.1 <;> simp [tabIns, h, ih]

/-- A fault of a source that sends is in its holding register, where that stood empty. -/
theorem State.fault_reports (s : State) (src kind addr : Nat) (cl : Bool) (h : Rst.sent src = true) :
    Reports src kind s (s.fault src kind addr cl) := by
  intro hh
  have h2 : (s.flt.hold.any (fun e => e.1 == src)) = false := by
    rw [List.any_eq_false]; rw [List.all_eq_true] at hh
    intro x hx; have := hh x hx; simpa using this
  unfold State.fault State.sendMsg
  split <;> simp [h, h2, State.fset, State.modFlt] <;> exact ⟨_, mem_tabIns_self _ _ _, rfl, rfl⟩

theorem State.fault_frame (s : State) (src kind addr : Nat) (cl : Bool) :
    s.fault src kind addr cl = { s with regs := (s.fault src kind addr cl).regs, flt := (s.fault src kind addr cl).flt } := by
  unfold State.fault State.sendMsg State.countLost State.modFlt State.bump
  split <;> split <;> (try split) <;> (try split) <;> rfl

theorem State.fault_regsBut (s : State) (src kind addr : Nat) (cl : Bool) :
    RegsBut (FaultRegs src) s (s.fault src kind addr cl) := by
  intro f hf
  simp [FaultRegs] at hf
  obtain ⟨h1, h2, h3⟩ := hf
  have key (u : State) (a b c d) : (u.sendMsg src a b c d).fget f = u.fget f := by
    unfold State.sendMsg State.countLost; split
    · rfl
    · split
      · simp only [State.modFlt]; exact State.fget_bump_ne u h2 h3 1
      · rfl
  unfold State.fault; split
  · rw [key, State.fget_fset_ne _ h1]
  · rw [key]

/-! ## Mailboxes (Tables 11-6, 13-4) -/

theorem State.mb_modMb_self (s : State) (k : Nat) (f : Mbx → Mbx) : (s.modMb k f).mb k = f (s.mb k) := by
  simp [State.modMb, State.mb]

theorem State.mb_modMb_ne (s : State) {k j : Nat} (f : Mbx → Mbx) (h : j ≠ k) : (s.modMb k f).mb j = s.mb j := by
  simp [State.modMb, State.mb, tabGet_tabSet_ne, h]

/-- No domain of 3 to 7 sleeps: none is woken (R402). -/
theorem State.need_mailbox_id (s : State) (h : ∀ d, 3 ≤ d → d ≤ 7 → (s.dom d).mode ≠ 1) :
    [3, 4, 5, 6, 7].foldl (fun s d => s.need d) s = s := by
  have k : ∀ d, 3 ≤ d → d ≤ 7 → s.need d = s := fun d a b => by simp [State.need, h d a b]
  simp [k]

/-- A mailbox that is ready runs its command. -/
theorem State.mboxGate_ready (s : State) (m : Mbox) (tn b : Bool) (f : State → State) (h : MboxReady s m)
    (ht : m = .fm ∨ tn = true) : s.mboxGate m tn b f = f s := by
  obtain ⟨h1, h2, h3, h4, h5, h6⟩ := h
  unfold State.mboxGate
  rw [State.need_mailbox_id s h5]
  simp only [h1, h2, h3, h6]
  rcases ht with rfl | rfl
  · simp [h1, h2, h3, h6]
  · by_cases e : m = .fm
    · subst e; simp [h1, h2, h3, h6]
    · simp [h1, h2, h3, h4 e, h6]

theorem MboxReady.elapse {s : State} {m : Mbox} (dt : Nat) (h : MboxReady s m) : MboxReady (s.elapse dt) m := by
  cases m <;>
    simpa [MboxReady, State.mboxUp, State.barUp, State.tenantBar, State.mboxWaits] using h

/-! ## Links, tracker caps and rings -/

/-- What the loss of the fabric leaves (Table 11-5): both links down, every LD out of reach with no decoder, no request held. -/
theorem State.linksGone_eq (s : State) : s.linksGone = { s with
    regs := s.linksGone.regs
    lds := s.lds.map (fun e => (e.1, { e.2 with reach := false, decs := [] }))
    fab := { s.fab with reqs := [], granted := [], gpf := [] } } := rfl

theorem State.linksGone_linkUp (s : State) (p : Nat) (h : p < 2) : s.linksGone.fget (Fld.FAB_PORT_STS.LINK_UP p) = 0 := by
  have e : s.linksGone.fget (Fld.FAB_PORT_STS.LINK_UP p) =
      ((s.fset (Fld.FAB_PORT_STS.LINK_UP 0) 0).fset (Fld.FAB_PORT_STS.LINK_UP 1) 0).fget (Fld.FAB_PORT_STS.LINK_UP p) := rfl
  rw [e]
  have : p = 0 ∨ p = 1 := by omega
  rcases this with rfl | rfl
  · rw [State.fget_fset_ne _ (by decide), State.fget_fset_self]; rfl
  · rw [State.fget_fset_self]; rfl

/-- Counting the waits at LD_CAP changes counters and the requests' marks (R287). -/
theorem State.countCaps_eq (s : State) : s.countCaps = { s with
    regs := s.countCaps.regs
    fab := { s.fab with reqs := s.fab.reqs.map (fun r =>
      if r.at_ == .ingress && r.ld != noLd && !s.capFree r.ld then { r with capped := true } else r) } } := by
  have key (l : List Req) (u : State) : l.foldl (fun s r => s.bump (Fld.SLU_LD_CNTB.CAP_WAITS r.ld) (Fld.SLU_LD_CNTB.CW_SAT r.ld)) u =
      { u with regs := (l.foldl (fun s r => s.bump (Fld.SLU_LD_CNTB.CAP_WAITS r.ld) (Fld.SLU_LD_CNTB.CW_SAT r.ld)) u).regs } := by
    induction l generalizing u with
    | nil => rfl
    | cons a l ih => simp only [List.foldl_cons]; rw [ih, State.bump_eq]
  unfold State.countCaps; rw [key]; rfl

/-- The waits of R307 begin: rings change, and nothing else. -/
theorem State.waitRooms_eq (s : State) : s.waitRooms = { s with rings := s.waitRooms.rings } := by
  have key (l : List (Nat × Ring)) (u : State) : l.foldl (fun s e => s.waitRoom (e.1 / 256) (e.1 % 256)) u =
      { u with rings := (l.foldl (fun s e => s.waitRoom (e.1 / 256) (e.1 % 256)) u).rings } := by
    induction l generalizing u with
    | nil => rfl
    | cons a l ih =>
      simp only [List.foldl_cons]; rw [ih]
      unfold State.waitRoom; split <;> rfl
  exact key _ _

/-! ## Folds and maps of tables -/

theorem tabSorted_foldl {α β : Type} (f : List (Nat × α) → β → List (Nat × α))
    (hf : ∀ m x, tabSorted m = true → tabSorted (f m x) = true) (l : List β) {m : List (Nat × α)} (h : tabSorted m = true) :
    tabSorted (l.foldl f m) = true := by
  induction l generalizing m with
  | nil => exact h
  | cons a l ih => exact ih (hf m a h)

theorem tabWf_foldl {α β : Type} [DecidableEq α] (d : α) (f : List (Nat × α) → β → List (Nat × α))
    (hf : ∀ m x, tabWf d m = true → tabWf d (f m x) = true) (l : List β) {m : List (Nat × α)} (h : tabWf d m = true) :
    tabWf d (l.foldl f m) = true := by
  induction l generalizing m with
  | nil => exact h
  | cons a l ih => exact ih (hf m a h)

theorem tabSorted_map {α β : Type} (f : Nat × α → Nat × β) (hf : ∀ e, (f e).1 = e.1) {m : List (Nat × α)}
    (h : tabSorted m = true) : tabSorted (m.map f) = true := by
  rw [tabSorted_iff] at h ⊢
  simp only [Rising] at h ⊢
  simpa [List.pairwise_map, hf] using h

end Machine

end Sys2Proof
end

