-- ==== Sys2Proof/WellFormed.lean ====
section
/-! DEFINITION. Which commands can stand at the block's interface: every operand inside the range its pins, its field or its
number gives it. A command outside is no command of the table; a value inside that a rule refuses is well formed, and the block
refuses it. -/

namespace Sys2Proof

/-- A path names one of the tenants' LDs (R277). -/
def Path.wf : Path → Bool
  | .tenant n => decide (n < 32)
  | _ => true
/-- A mailbox is the FM's or one of the tenants' (R277). -/
def Mbox.wf : Mbox → Bool
  | .tenant n => decide (n < 32)
  | .fm => true
/-- A frame a row receives is of its TYPE (Table 03-4), or malformed in its header (R81). -/
def Frame.wf (f : Frame) (type : Nat) : Bool := !f.headerOk || f.type == type

/-- A frame a row receives carries its OPCODE, or a reserved one (Table 06-3). -/
def ElyFrame.wf (f : ElyFrame) (opcode : Nat) : Bool := f.opcode == opcode || f.opcode == 0 || decide (6 < f.opcode)

/-- A command is well formed. -/
def Instr.wf : Instr → Bool
  | .beatBoundary overruns obs => overruns.all (fun r => decide (r.1 < 25)) && obs.linkErrs.all (fun e => decide (e.1 < 2))
  | .weirInForce _ => true
  | .memWrite _ port ldId hpa _ _ _ tag => decide (port < 2) && decide (ldId < 16) && decide (hpa < 2 ^ 52) &&
      decide (tag < 65536)
  | .memRead _ port ldId hpa tag => decide (port < 2) && decide (ldId < 16) && decide (hpa < 2 ^ 52) && decide (tag < 65536)
  | .memInv _ port ldId hpa tag => decide (port < 2) && decide (ldId < 16) && decide (hpa < 2 ^ 52) && decide (tag < 65536)
  | .memSpecRd _ port ldId hpa tag => decide (port < 2) && decide (ldId < 16) && decide (hpa < 2 ^ 52) &&
      decide (tag < 65536)
  | .unsupportedRequest _ port channel opcode => decide (port < 2) && decide (channel < 8) && decide (opcode < 16)
  | .trackerEntryFree _ port => decide (port < 2)
  | .wmbPartialFill _ _ _ => true
  | .heldWriteRelease _ ld => decide (ld < 32)
  | .weirWaitExpiry _ _ => true
  | .ringWeirWaitExpiry _ ld ring _ => decide (ld < 32) && decide (ring < 256)
  | .forkSlotWaitExpiry _ _ => true
  | .forkCopyDone _ _ => true
  | .scarabPageDone _ _ cluster => decide (cluster < 16)
  | .stripeProgramDone _ _ _ => true
  | .stripeProgramFail _ _ channel _ => decide (channel < 16)
  | .bandEraseDone _ _ _ _ => true
  | .diePollTimeout _ ds => decide (ds < 512)
  | .flashReadDone _ _ _ => true
  | .parityRebuildDone _ _ _ => true
  | .drawDone _ _ _ => true
  | .refillReadDone _ _ _ => true
  | .foldReadbackDone _ _ _ => true
  | .scrubPeriod _ => true
  | .governorSlice _ => true
  | .checkpointCut => true
  | .cutBeatBoundary => true
  | .spillDrainDone _ => true
  | .spillTakeoverDone _ => true
  | .spillStageBEnd _ => true
  | .spillStageCEnd _ => true
  | .sealProgrammed _ => true
  | .sealHoldExpiry => true
  | .sealedReturnDecision => true
  | .elytraPage _ f line _ _ => f.wf 1 && decide (line < 64)
  | .elytraProgram _ body crc => (ElyFrame.join body crc).wf 2
  | .elytraSeal _ f => f.wf 3
  | .elytraJournal _ body crc => (ElyFrame.join body crc).wf 4
  | .elytraRailOff _ f => f.wf 5
  | .elytraHeartbeat _ f => f.wf 6
  | .seqGap _ _ => true
  | .selfCheck _ _ _ => true
  | .shadowPass _ _ => true
  | .heartbeatLost _ silent => decide (silent < 2)
  | .fenceApplied _ _ => true
  | .elytraOnline _ e => decide (e < 2)
  | .elytraOffline _ e => decide (e < 2)
  | .inputCollapse _ => true
  | .inputGoodRise _ => true
  | .fmCheckpoint _ => true
  | .fmSpill _ => true
  | .colonyCheckpoint _ boundary => decide (boundary < 2 ^ 48)
  | .plungeNEdge _ => true
  | .plungeRepeat => true
  | .plungeWindowClose _ => true
  | .beaconRx _ port _ f => decide (port < 4) && f.wf 1
  | .fireflyRx _ port _ f => decide (port < 4) && f.wf 4
  | .roleRx _ port f => decide (port < 4) && f.wf 6
  | .configRx _ port f => decide (port < 4) && f.wf 7
  | .epochAnnounceRx _ port f => decide (port < 4) && f.wf 2
  | .plungeRx _ port f => decide (port < 4) && f.wf 3
  | .sealReportRx _ port f => decide (port < 4) && f.wf 5
  | .isolationAutoLift port => decide (port < 4)
  | .isolationLift _ port => decide (port < 4)
  | .portUp _ port => decide (port < 4)
  | .portDown _ port => decide (port < 4)
  | .portSilent port => decide (port < 4)
  | .backupSelect => true
  | .upstreamSelect => true
  | .rolePeriodic => true
  | .configPeriodic => true
  | .epochAnnounceSend => true
  | .cisternSample samples => decide (samples.length = 4)
  | .coulombSample _ shunt => decide (shunt.length = 4)
  | .socAnchor _ pack => decide (pack < 4)
  | .socUncGrowth _ pack => decide (pack < 4)
  | .calibrationGo _ pack => decide (pack < 4)
  | .calibrationPause _ => true
  | .calibrationAbort _ => true
  | .calibrationFull _ => true
  | .calibrationDischargeEnd _ => true
  | .lightPulse _ pack => decide (pack < 4)
  | .lightPulseEnd _ pack _ _ => decide (pack < 4)
  | .rehearsalGo _ => true
  | .rehearsalStart _ => true
  | .rehearsalLoad => true
  | .rehearsalSample _ mv ma => decide (mv.length = 4) && decide (ma.length = 4)
  | .rehearsalEnd _ _ mv ma => decide (mv.length = 4) && decide (ma.length = 4)
  | .rehearsalPublish => true
  | .packRemoved _ pack => decide (pack < 4)
  | .packInserted _ pack _ => decide (pack < 4)
  | .packCounted _ pack => decide (pack < 4)
  | .alarmHit _ => true
  | .crystalTrim _ _ => true
  | .setTimestamp _ m _ => m.wf
  | .getTimestamp _ m => m.wf
  | .gpfPhase1 _ port => decide (port < 2)
  | .gpfPhase2 _ port => decide (port < 2)
  | .gpfDrainDone _ port => decide (port < 2)
  | .cxlResetLd _ ld => decide (ld < 32)
  | .ldResetEffect _ ld => decide (ld < 32)
  | .fabLinkUp _ port width rate _ _ _ => decide (port < 2) &&
      (width == 8 || width == 16 || width == 4 || width == 2 || width == 1) && decide (rate < 4)
  | .fabLinkDown _ port => decide (port < 2)
  | .fabHotReset _ port => decide (port < 2)
  | .hdmCommit _ ld decoder hpaBase _ _ _ _ _ _ => decide (ld < 32) && decide (decoder < 8) && decide (hpaBase < 2 ^ 52)
  | .identify _ m => m.wf
  | .backgroundOperationStatus _ m => m.wf
  | .getResponseMessageLimit _ m => m.wf
  | .getEventRecords _ m log => m.wf && decide (log < 256)
  | .clearEventRecords _ m log _ => m.wf && decide (log < 256)
  | .getEventInterruptPolicy _ m => m.wf
  | .setEventInterruptPolicy _ m _ => m.wf
  | .getFwInfo _ m => m.wf
  | .transferFwInitiate _ m slot offset _ _ => m.wf && decide (slot < 256) && decide (offset < 2 ^ 32)
  | .transferFwContinue _ m slot offset _ _ => m.wf && decide (slot < 256) && decide (offset < 2 ^ 32)
  | .transferFwEnd _ m slot offset _ _ _ => m.wf && decide (slot < 256) && decide (offset < 2 ^ 32)
  | .transferFwFull _ m slot offset _ _ _ => m.wf && decide (slot < 256) && decide (offset < 2 ^ 32)
  | .transferFwAbort _ m => m.wf
  | .transferIdleTimeout _ => true
  | .fwPropagateCopyDone _ copy _ => decide (copy < 4)
  | .activateFwOnline _ m slot => m.wf && decide (slot < 256)
  | .activateFwOffline _ m slot => m.wf && decide (slot < 256)
  | .moltReady _ => true
  | .moltTimeout _ _ => true
  | .getSupportedLogs _ m => m.wf
  | .getLog _ m => m.wf
  | .identifyMemoryDevice _ m => m.wf
  | .getPartitionInfo _ m => m.wf
  | .getHealthInfo _ m => m.wf
  | .getAlertConfiguration _ m => m.wf
  | .setAlertConfiguration _ m _ => m.wf
  | .getShutdownState _ m ld => m.wf && decide (ld < 256)
  | .setShutdownState _ m ld _ => m.wf && decide (ld < 256)
  | .getPoisonList _ m => m.wf
  | .injectPoison _ m _ => m.wf
  | .clearPoison _ m _ _ => m.wf
  | .getScanMediaCapabilities _ m => m.wf
  | .scanMedia _ m _ _ _ => m.wf
  | .getScanMediaResults _ m => m.wf
  | .sanitize _ m => m.wf
  | .secureErase _ m => m.wf
  | .getLdInfo _ m port => m.wf && decide (port < 256)
  | .getLdAllocations _ m port => m.wf && decide (port < 256)
  | .setLdAllocations _ m => m.wf
  | .getQosControl _ m port => m.wf && decide (port < 256)
  | .setQosControl _ m port _ _ _ => m.wf && decide (port < 256)
  | .getQosStatus _ m port => m.wf && decide (port < 256)
  | .getQosAllocatedBw _ m port => m.wf && decide (port < 256)
  | .setQosAllocatedBw _ m port _ fractions => m.wf && decide (port < 256) && fractions.all (fun x => decide (x < 256))
  | .getQosBwLimit _ m port => m.wf && decide (port < 256)
  | .setQosBwLimit _ m port _ fractions => m.wf && decide (port < 256) && fractions.all (fun x => decide (x < 256))
  | .mailboxUnsupported _ m opcode => m.wf && decide (opcode < 65536)
  | .getPersistInfo _ m => m.wf
  | .setLdExtent _ m ld _ _ => m.wf && decide (ld < 256)
  | .bindLd _ m ld port ldId => m.wf && decide (ld < 256) && decide (port < 256) && decide (ldId < 65536)
  | .rebindLd _ m ld port ldId => m.wf && decide (ld < 256) && decide (port < 256) && decide (ldId < 65536)
  | .unbindLd _ m ld => m.wf && decide (ld < 256)
  | .unbindComplete _ ld => decide (ld < 32)
  | .quiesceLd _ m ld => m.wf && decide (ld < 256)
  | .quiesceWaitExpiry _ ld => decide (ld < 32)
  | .quiesceComplete _ ld => decide (ld < 32)
  | .resumeLd _ m ld => m.wf && decide (ld < 256)
  | .regAccess _ m offset width _ _ => m.wf && decide (offset < 2 ^ 32) && (width == 32 || width == 64)
  | .sqTailDoorbell _ ld ring offset width _ => decide (ld < 32) && decide (ring < 256) && decide (offset < 2 ^ 32) &&
      (width == 32 || width == 64)
  | .cqHeadDoorbell _ ld ring offset width _ => decide (ld < 32) && decide (ring < 256) && decide (offset < 2 ^ 32) &&
      (width == 32 || width == 64)
  | .descriptorFetchDone _ ld ring _ _ _ _ => decide (ld < 32) && decide (ring < 256)
  | .descriptorAccept _ ld ring => decide (ld < 32) && decide (ring < 256)
  | .noResourceNotice _ ld ring => decide (ld < 32) && decide (ring < 256)
  | .nop _ ld ring _ => decide (ld < 32) && decide (ring < 256)
  | .persistRange _ ld ring _ => decide (ld < 32) && decide (ring < 256)
  | .checkpointAt _ ld ring _ => decide (ld < 32) && decide (ring < 256)
  | .checkpointRelease _ ld ring _ => decide (ld < 32) && decide (ring < 256)
  | .rollbackTo _ ld ring _ => decide (ld < 32) && decide (ring < 256)
  | .queryPages _ ld ring _ => decide (ld < 32) && decide (ring < 256)
  | .zeroRange _ ld ring _ => decide (ld < 32) && decide (ring < 256)
  | .sanitizeLd _ ld ring _ => decide (ld < 32) && decide (ring < 256)
  | .fence _ ld ring _ => decide (ld < 32) && decide (ring < 256)
  | .readSeal _ ld ring _ _ => decide (ld < 32) && decide (ring < 256)
  | .ringEnable _ path ld ring _ => path.wf && decide (ld < 32) && decide (ring < 256)
  | .ringDisable _ path ld ring => path.wf && decide (ld < 32) && decide (ring < 256)
  | .ringResume _ path ld ring => path.wf && decide (ld < 32) && decide (ring < 256)
  | .msixCoalesceTimeout _ ld ring => decide (ld < 32) && decide (ring < 256)
  | .ldGo _ ld => decide (ld < 32)
  | .rebuildDone _ _ => true
  | .coldStart _ => true
  | .startStageComplete _ _ => true
  | .deviceWarmReset _ => true
  | .watchdogExpiry _ => true
  | .startTimeout _ => true
  | .retry _ => true
  | .bootCopyRepairDone _ copy _ => decide (copy < 4)
  | .faultMessage _ source _ _ _ _ => decide (source < 1024)
  | .faultIntake _ source => decide (source < 1024)
  | .faultReaction _ => true
  | .isolationComplete _ b => decide (b.unit < 128)
  | .quietPeriodExpiry _ unit => decide (unit < 128)
  | .recoveryDone _ unit _ _ => decide (unit < 128)
  | .unitIsolate _ unit => decide (unit < 128)
  | .unitReturn _ unit => decide (unit < 128)
  | .bistGo _ unit => decide (unit < 128)
  | .bistDone _ _ _ => true
  | .injectionArm _ _ => true
  | .latchClear _ => true
  | .journalRecordProgrammed _ _ copy _ => decide (copy < 2)
  | .journalSealProgrammed _ _ copy => decide (copy < 2)
  | .jtagInstruction _ opcode => decide (opcode < 65536)
  | .dieTempHigh _ _ _ => true
  | .railSlot _ => true
  | .railTimeout _ rail => decide (rail < 32)
  | .powerUpRetry _ => true
  | .railSample _ rail _ => decide (rail < 32)
  | .railPgLoss _ rail => decide (rail < 32)
  | .resetStretchExpiry _ out => decide (out < 9)
  | .holdupEntry _ => true
  | .holdupEnd _ => true
  | .vaonPowerOn _ => true
  | .vaonLoss _ => true
  | .porAssert _ => true
  | .porRelease _ => true
  | .domainWait _ d cls mode => decide (d < 96) && decide (cls < 4) && decide (mode < 4)
  | .domainCancel _ d => decide (d < 96)
  | .domainIdlePoint _ d => decide (d < 96)
  | .domainCommitWindowEnd _ d => decide (d < 96)
  | .domainNoIdleTimeout _ d => decide (d < 96)
  | .wakeSource _ w => decide (w < 5)
  | .domainReady _ d _ _ => decide (d < 96)
  | .dramRequestIssue _ ch sub => decide (ch < 8) && decide (sub < 2)
  | .dramReadDone _ ch sub _ => decide (ch < 8) && decide (sub < 2)
  | .refreshSlot _ ch rank => decide (ch < 8) && decide (rank < 16)
  | .mr4Poll ch _ _ => decide (ch < 8)
  | .rhTableClear _ ch => decide (ch < 8)
  | .rankPowerDown _ ch rank => decide (ch < 8) && decide (rank < 16)
  | .dqsTrack ch rank _ => decide (ch < 8) && decide (rank < 16)
  | .eyeSample ch rank _ _ _ => decide (ch < 8) && decide (rank < 16)
  | .rankRetrainDone _ ch rank _ => decide (ch < 8) && decide (rank < 16)
  | .dramScrubRead _ _ _ => true
  | .alertFall _ ch sub rank _ => decide (ch < 8) && decide (sub < 2) && decide (rank < 16)
  | .freezeHoldExpiry _ ch => decide (ch < 8)
  | .channelOut _ c => decide (c < 16)
  | .channelIn _ c => decide (c < 16)
  | .channelVerifyDone _ c _ => decide (c < 16)
  | .flmKeyWrite _ _ => true
  | .flmCmdWrite _ _ => true
  | .flmAddrWrite _ _ => true
  | .flmSequenceTimeout _ => true
  | .flmBufWrite _ offset _ width => decide (offset < 2 ^ 32) && (width == 32 || width == 64)
  | .readPage _ _ _ _ => true
  | .readParam _ _ _ _ => true
  | .readId _ _ _ _ => true
  | .readStatus _ _ _ => true
  | .readWord _ _ _ => true
  | .programPage _ _ => true
  | .programWord _ _ => true
  | .eraseBlock _ _ => true
  | .pwUnlock _ _ => true
  | .pwSet _ _ => true
  | .protSet _ _ => true
  | .protLock _ _ => true
  | .xipSelect _ _ _ => true
  | .flmInvalidOpcode _ _ => true
  | .flmOperationDone _ _ => true
  | .protSessionTimeout _ => true
  | .twoWireStart _ addr => decide (addr < 128)
  | .twoWireFrameEnd _ addr code bytes => decide (addr < 128) && decide (bytes.length ≤ 257) && (code.isSome || bytes.isEmpty)
  | .twoWireTimeout _ => true
  | .twoWireAwakeExpiry _ => true
  | .read32 _ addr offset => decide (addr < 128) && decide (offset < 2 ^ 32)
  | .write32 _ addr offset _ => decide (addr < 128) && decide (offset < 2 ^ 32)
  | .summary _ addr => decide (addr < 128)
  | .mctpPacketRx _ source _ _ _ _ _ => decide (source < 256)
  | .fmApiMessage _ => true
  | .setEndpointId _ eid => decide (eid < 256)
  | .getEndpointId _ => true
  | .getMctpVersionSupport _ => true
  | .getMessageTypeSupport _ => true
  | .mctpTransmit _ _ winnerAddr => decide (winnerAddr < 128)
  | .mctpRetry _ _ => true
  | .commitWrite _ path offset => path.wf && decide (offset < 2 ^ 32)
  | .registerWrite _ path offset width _ => path.wf && decide (offset < 2 ^ 32) && (width == 32 || width == 64)
  | .rcRead _ path offset width => path.wf && decide (offset < 2 ^ 32) && (width == 32 || width == 64)
  | .rslRead _ path offset width => path.wf && decide (offset < 2 ^ 32) && (width == 32 || width == 64)
  | .minRunReached _ ds => decide (ds < 512)
  | .zeroFillDone _ _ => true
  | .configurationWriteDone _ half _ => decide (half < 4)

end Sys2Proof
end

