-- ==== Sys2Proof/Tests/Slice0.lean ====
section
/-! SUPPORT. The model's own tests: ill-formed commands that the check refuses, a few results worked out in the manual's examples,
and for every statement with hypotheses a concrete state and operands that meet them. -/

namespace Sys2Proof.Tests

set_option Elab.async false

open Machine

/-! ## States the tests start from -/

/-- A device in service. -/
def W : State := { dev := .serving }
/-- Register fields take values, in order, whatever OTP gives them at reset. -/
def puts (l : List (Field × Nat)) (s : State) : State :=
  { s with regs := l.foldl (fun m e => tabIns e.1.bit e.2 (tabDel e.1.bit m)) s.regs }
/-- Register fields take values, in order. -/
def sets (l : List (Field × Nat)) (s : State) : State := l.foldl (fun s e => s.fset e.1 e.2) s
/-- The two-wire entries as a blank OTP gives them. -/
def twbBlank : List (Field × Nat) := (List.range 4).flatMap (fun i =>
  let v := [0x832, 0xC33, 0, 0].getD i 0
  [(Fld.TWB_ADDR.EN i, v / 2048), (Fld.TWB_ADDR.PROTO i, v / 1024 % 2), (Fld.TWB_ADDR.PEC_EN i, v / 512 % 2),
    (Fld.TWB_ADDR.WRITE_EN i, v / 256 % 2), (Fld.TWB_ADDR.ADDR i, v % 128)])
/-- A state with a blank OTP's two-wire entries. -/
def Wt : State := puts twbBlank W
/-- A member of a colony whose upstream port 3 is up and selected. -/
def Wm : State := sets [(Fld.COL_CTL.ROLE, 1), (Fld.COL_PORT_CFG.ROLE 3, 1), (Fld.COL_PORT_STS.LINK_UP 3, 1),
  (Fld.COL_PORT_STS.SELECTED 3, 1)] W
/-- A DATA form of page 5 on its way into a stripe, its relocation source and eddy slot as given. -/
def itemW (src slot : Option Nat) : Item := ⟨⟨1, 5, 0, 0, 0, 0, 0, 0, 0, ⟨[], []⟩, 0, false⟩, 0, slot, [], false, src, 0, 0⟩
/-- Stripe 9 of a writer on all sixteen channels. -/
def stripeW (writer : Nat) (closed : Bool) (items : List Item) : Stripe :=
  ⟨9, writer, 0, 0, List.range 16, 0, items, closed, 0, 0⟩
/-- Page 5 in a state, its one stored form at log address `loc`. -/
def pageW (st : PState) (loc len : Nat) : List (Nat × PageRec) := [(5, ⟨st, 0, 0, loc, len, 0⟩)]
/-- LD 31 in a state, bound to port 1 as LD-ID 3, with 256 MiB from DPA 0 that one decoder maps to host address 0. -/
def ldW (st : LdState) : Ld :=
  { st := st, port := 1, ldId := 3, extSize := 1, decs := [(0, ⟨0, 268435456, 1, 256, 0, 0, false⟩)] }
/-- Such an LD alone. -/
def ldsW (st : LdState) : List (Nat × Ld) := [(31, ldW st)]
/-- A request of port 1 to line 0 of page 5 at a step of Table 11-3. -/
def reqW (rid : Nat) (k : ReqKind) (a : Step) : Req :=
  ⟨rid, 1, 3, 31, k, 20480, 20480, 0, BitVec.allOnes 64, false, 9, a, false⟩
/-- Pending checkpoint 1, to which page 5 is owed. -/
def ckptW : Ckpt :=
  ⟨1, 1, 0, 0, 0, false, false, false, false, [5], [], 0, (0, 0), none, 0, [], false, false, false, [], false, [], [], false⟩
/-- The maintenance port in a state with an opcode, at word 15 of the last page of plane 3 of the FM-defined area. -/
def portW (st op : Nat) : State := sets [(Fld.LOG_GEOM.PSLC_PAGES, 512), (Fld.FLM_STS.STATE, st), (Fld.FLM_CMD.OPCODE, op),
  (Fld.FLM_ADDR.DIE_STREAM, 96), (Fld.FLM_ADDR.PAGE, 511), (Fld.FLM_ADDR.PLANE, 3), (Fld.FLM_ADDR.WORD, 15)] W
/-- A descriptor with an opcode, a tag and three arguments. -/
def descW (op : BitVec 8) (tag a0 a1 a2 : Word) : Descriptor := ⟨op, 1, 0, tag, a0, a1, a2, false⟩
/-- An accepted descriptor at SQ index 7 that has not begun. -/
def accW (d : Descriptor) : Acc := ⟨d, 7, 1, 0, .waiting, 0, 0, 0, [], 0, none, 0, none, 0, [], []⟩
/-- Ring 255 of LD 31, ACTIVE, with what it holds. -/
def ringW (st : LdState) (r : Ring) : State :=
  sets [(Fld.RNG_STS.STATE 31 255, 1)] { W with lds := ldsW st, rings := [(8191, r)] }
/-- The sealed image of generation 7. -/
def sealW : Seal := ⟨7, 0, 0, 0, 0, 0, false, 0, [], [], [], [], 0, 0, 0, 0, 0, 0, 0, 0, 0, [], [], []⟩
/-- A firmware image that is valid and fits this part. -/
def imgW : Image :=
  { keyOk := true, sigOk := true, hwType := Config.otpHwType.toNat, bindSerial := 0, fwVersion := 2, moltFrom := 0, ucodeVer := 0,
    ucodeMin := 0, config := [] }
theorem good_of {s : State} (h : s.boot.copies = [(3, imgW)]) : s.goodCopies = [(3, imgW)] := by
  simp [State.goodCopies, h, imgW, imgValid, imgSigned, imgFits, Image.manifestOk, Image.hashesOk, Image.has]
theorem good_ne {s : State} (h : s.boot.copies = [(3, imgW)]) : s.goodCopies ≠ [] := by rw [good_of h]; simp
theorem best_of {s : State} (h : s.boot.copies = [(3, imgW)]) : bestCopy s.goodCopies = some (3, imgW) := by
  rw [good_of h]; rfl
/-- The two parts of a frame that `ElyFrame.join` puts together. -/
def elyBody (f : ElyFrame) : BitVec 224 := f.bits.setWidth 224
def elyCrc (f : ElyFrame) : BitVec 32 := (f.bits >>> 224).setWidth 32
theorem elyFrame_join (f : ElyFrame) : f = .join (elyBody f) (elyCrc f) := by
  unfold ElyFrame.join elyBody elyCrc
  cases f with
  | mk b =>
    congr 1
    apply BitVec.eq_of_getLsbD_eq
    intro i hi
    simp only [BitVec.getLsbD_append, BitVec.getLsbD_setWidth, BitVec.getLsbD_ushiftRight]
    by_cases h : i < 224
    · simp [h]
    · have e : 224 + (i - 224) = i := by omega
      simp [h, e, show i - 224 < 32 by omega]
/-- A DATA form of page 5 whose last byte is 1. -/
def formW : Form := ⟨1, 5, 0, 0, 0, 0, 0, 0, 8, ⟨[(4095, 1)], []⟩, 0, false⟩
/-- Page 5 being drawn from its form, its record's CRC as given. -/
def drawW (stp : DrawStep) (refill : Bool) (crc : Nat) : State :=
  { W with rfl_ := { draws := [⟨5, refill, stp, 0, false, 77, none⟩] }, pages := [(5, ⟨.unfilled, 0, 0, 77, 8, crc⟩)], flash := [(77, formW)] }
/-- With the CRC of its content the record names the form (R188). -/
theorem drawW_valid (stp : DrawStep) (refill : Bool) :
    (drawW stp refill formW.body.crc).formValid 5 ((drawW stp refill formW.body.crc).page 5) = true := by
  have e1 : (drawW stp refill formW.body.crc).formAt 77 = formW := rfl
  have e2 : (drawW stp refill formW.body.crc).plain formW = formW.body := if_pos (Or.inr rfl)
  have e3 : (drawW stp refill formW.body.crc).page 5 = ⟨.unfilled, 0, 0, 77, 8, formW.body.crc⟩ := rfl
  simp only [State.formValid, e3, e1, e2]
  rw [beq_self_eq_true, Bool.and_true]
  rfl

/-! ## Well-formed and ill-formed commands -/

/-- A frame whose CRC and header pass, from module 5. -/
def frameW (b : FrameBody) : Frame := b.frame 0 5
/-- An Elytra command of an OPCODE to a TARGET. -/
def elyW (op t : Nat) : ElyFrame := ElyFrame.make op 0 false 0 1 t []

theorem test_wf_accepts_1 : List.all (α := Instr)
  [.beatBoundary [(24, 0)] ⟨0, [(1, 0, 0)]⟩, .memWrite 0 1 15 4503599627370495 0 0 true 65535,
    .memRead 0 1 15 4503599627370495 65535, .memInv 0 1 15 4503599627370495 65535, .memSpecRd 0 1 15 4503599627370495 65535,
    .unsupportedRequest 0 1 7 15, .trackerEntryFree 0 1, .heldWriteRelease 0 31, .ringWeirWaitExpiry 0 31 255 0,
    .scarabPageDone 0 0 15, .stripeProgramFail 0 0 15 .ok, .diePollTimeout 0 511, .elytraPage 0 (elyW 1 0x200) 63 [] [],
    .elytraProgram 0 (elyBody (elyW 2 511)) (elyCrc (elyW 2 511)), .elytraSeal 0 (elyW 3 511),
    .elytraJournal 0 (elyBody (elyW 4 0x300)) (elyCrc (elyW 4 0x300)),
    .elytraRailOff 0 (elyW 5 0x301), .elytraHeartbeat 0 (elyW 6 0xFFFF), .heartbeatLost 0 1, .elytraOnline 0 1,
    .elytraOffline 0 1, .colonyCheckpoint 0 281474976710655, .beaconRx 0 3 0 (frameW (.beacon 0 0 0 0 0)),
    .fireflyRx 0 3 0 (frameW (.firefly 0 0 0 0 0)), .roleRx 0 3 (frameW (.role 0 0 0 0 0)),
    .configRx 0 3 (frameW (.config 0 0 0 0)), .epochAnnounceRx 0 3 (frameW (.epochAnnounce true 0 0 0)),
    .plungeRx 0 3 (frameW (.plunge 0 0 0 0)), .sealReportRx 0 3 (frameW (.sealReport true true 0 0 0 0)),
    .isolationAutoLift 3, .isolationLift 0 3, .portUp 0 3, .portDown 0 3, .portSilent 3,
    .cisternSample (List.replicate 4 ⟨0, 0, false⟩), .coulombSample 0 [0, 0, 0, 0], .socAnchor 0 3, .socUncGrowth 0 3,
    .calibrationGo 0 3, .lightPulse 0 3]
  Instr.wf = true := by decide +kernel

theorem test_wf_accepts_2 : List.all (α := Instr)
  [.lightPulseEnd 0 3 0 0, .rehearsalSample 0 [0, 0, 0, 0] [0, 0, 0, 0], .rehearsalEnd 0 0 [0, 0, 0, 0] [0, 0, 0, 0],
    .packRemoved 0 3, .packInserted 0 3 0, .packCounted 0 3, .setTimestamp 0 (.tenant 31) 0, .getTimestamp 0 (.tenant 31),
    .gpfPhase1 0 1, .gpfPhase2 0 1, .gpfDrainDone 0 1, .cxlResetLd 0 31, .ldResetEffect 0 31,
    .fabLinkUp 0 1 16 3 true true true, .fabLinkDown 0 1, .fabHotReset 0 1, .hdmCommit 0 31 7 4503599627370495 0 0 0 0 0 true,
    .identify 0 (.tenant 31), .backgroundOperationStatus 0 (.tenant 31), .getResponseMessageLimit 0 (.tenant 31),
    .getEventRecords 0 (.tenant 31) 255, .clearEventRecords 0 (.tenant 31) 255 [], .getEventInterruptPolicy 0 (.tenant 31),
    .setEventInterruptPolicy 0 (.tenant 31) 0, .getFwInfo 0 (.tenant 31),
    .transferFwInitiate 0 (.tenant 31) 255 4294967295 0 0, .transferFwContinue 0 (.tenant 31) 255 4294967295 0 0,
    .transferFwEnd 0 (.tenant 31) 255 4294967295 0 0 imgW, .transferFwFull 0 (.tenant 31) 255 4294967295 0 0 imgW,
    .transferFwAbort 0 (.tenant 31), .fwPropagateCopyDone 0 3 true, .activateFwOnline 0 (.tenant 31) 255,
    .activateFwOffline 0 (.tenant 31) 255, .getSupportedLogs 0 (.tenant 31), .getLog 0 (.tenant 31),
    .identifyMemoryDevice 0 (.tenant 31), .getPartitionInfo 0 (.tenant 31), .getHealthInfo 0 (.tenant 31),
    .getAlertConfiguration 0 (.tenant 31), .setAlertConfiguration 0 (.tenant 31) 0]
  Instr.wf = true := by decide +kernel

theorem test_wf_accepts_3 : List.all (α := Instr)
  [.getShutdownState 0 (.tenant 31) 255, .setShutdownState 0 (.tenant 31) 255 0, .getPoisonList 0 (.tenant 31),
    .injectPoison 0 (.tenant 31) 0, .clearPoison 0 (.tenant 31) 0 0, .getScanMediaCapabilities 0 (.tenant 31),
    .scanMedia 0 (.tenant 31) 0 0 [], .getScanMediaResults 0 (.tenant 31), .sanitize 0 (.tenant 31),
    .secureErase 0 (.tenant 31), .getLdInfo 0 (.tenant 31) 255, .getLdAllocations 0 (.tenant 31) 255,
    .setLdAllocations 0 (.tenant 31), .getQosControl 0 (.tenant 31) 255, .setQosControl 0 (.tenant 31) 255 0 0 0,
    .getQosStatus 0 (.tenant 31) 255, .getQosAllocatedBw 0 (.tenant 31) 255, .setQosAllocatedBw 0 (.tenant 31) 255 0 [255],
    .getQosBwLimit 0 (.tenant 31) 255, .setQosBwLimit 0 (.tenant 31) 255 0 [255], .mailboxUnsupported 0 (.tenant 31) 65535,
    .getPersistInfo 0 (.tenant 31), .setLdExtent 0 (.tenant 31) 255 0 0, .bindLd 0 (.tenant 31) 255 255 65535,
    .rebindLd 0 (.tenant 31) 255 255 65535, .unbindLd 0 (.tenant 31) 255, .unbindComplete 0 31, .quiesceLd 0 (.tenant 31) 255,
    .quiesceWaitExpiry 0 31, .quiesceComplete 0 31, .resumeLd 0 (.tenant 31) 255,
    .regAccess 0 (.tenant 31) 4294967295 64 true 0, .sqTailDoorbell 0 31 255 4294967295 64 0,
    .cqHeadDoorbell 0 31 255 4294967295 64 0, .descriptorFetchDone 0 31 255 .error 0 0 0, .descriptorAccept 0 31 255,
    .noResourceNotice 0 31 255, .nop 0 31 255 0, .persistRange 0 31 255 0, .checkpointAt 0 31 255 0]
  Instr.wf = true := by decide +kernel

theorem test_wf_accepts_4 : List.all (α := Instr)
  [.checkpointRelease 0 31 255 0, .rollbackTo 0 31 255 0, .queryPages 0 31 255 0, .zeroRange 0 31 255 0,
    .sanitizeLd 0 31 255 0, .fence 0 31 255 0, .readSeal 0 31 255 0 true, .ringEnable 0 (.tenant 31) 31 255 true,
    .ringDisable 0 (.tenant 31) 31 255, .ringResume 0 (.tenant 31) 31 255, .msixCoalesceTimeout 0 31 255, .ldGo 0 31,
    .bootCopyRepairDone 0 3 true, .faultMessage 0 1023 0 0 true true, .faultIntake 0 1023, .isolationComplete 0 ⟨127, [0]⟩,
    .quietPeriodExpiry 0 127, .recoveryDone 0 127 true 0, .unitIsolate 0 127, .unitReturn 0 127, .bistGo 0 127,
    .journalRecordProgrammed 0 0 1 .ok, .journalSealProgrammed 0 0 1, .jtagInstruction 0 65535, .railTimeout 0 31,
    .railSample 0 31 0, .railPgLoss 0 31, .resetStretchExpiry 0 8, .domainWait 0 95 3 3, .domainCancel 0 95,
    .domainIdlePoint 0 95, .domainCommitWindowEnd 0 95, .domainNoIdleTimeout 0 95, .wakeSource 0 4, .domainReady 0 95 true 0,
    .dramRequestIssue 0 7 1, .dramReadDone 0 7 1 ⟨[], []⟩, .refreshSlot 0 7 15, .mr4Poll 7 true 0, .rhTableClear 0 7]
  Instr.wf = true := by decide +kernel

theorem test_wf_accepts_5 : List.all (α := Instr)
  [.rankPowerDown 0 7 15, .dqsTrack 7 15 0, .eyeSample 7 15 0 0 0, .rankRetrainDone 0 7 15 true, .alertFall 0 7 1 15 0,
    .freezeHoldExpiry 0 7, .channelOut 0 15, .channelIn 0 15, .channelVerifyDone 0 15 [], .flmBufWrite 0 4294967295 0 64,
    .twoWireStart 0 127, .twoWireFrameEnd 0 127 (some 0) (List.replicate 257 0), .read32 0 127 4294967295, .write32 0 127 4294967295 0,
    .summary 0 127, .mctpPacketRx 0 255 true true 0 0 .plungeRepeat, .setEndpointId 0 255, .mctpTransmit 0 true 127,
    .commitWrite 0 (.tenant 31) 4294967295, .registerWrite 0 (.tenant 31) 4294967295 64 0,
    .rcRead 0 (.tenant 31) 4294967295 64, .rslRead 0 (.tenant 31) 4294967295 64, .minRunReached 0 511,
    .configurationWriteDone 0 3 .ok]
  Instr.wf = true := by decide +kernel

theorem test_wf_refuses_1 : List.all (α := Instr)
  [.beatBoundary [(25, 0)] ⟨0, [(1, 0, 0)]⟩, .beatBoundary [(24, 0)] ⟨0, [(2, 0, 0)]⟩,
    .memWrite 0 2 15 4503599627370495 0 0 true 65535, .memWrite 0 1 16 4503599627370495 0 0 true 65535,
    .memWrite 0 1 15 4503599627370496 0 0 true 65535, .memWrite 0 1 15 4503599627370495 0 0 true 65536,
    .memRead 0 2 15 4503599627370495 65535, .memRead 0 1 16 4503599627370495 65535, .memRead 0 1 15 4503599627370496 65535,
    .memRead 0 1 15 4503599627370495 65536, .memInv 0 2 15 4503599627370495 65535, .memInv 0 1 16 4503599627370495 65535,
    .memInv 0 1 15 4503599627370496 65535, .memInv 0 1 15 4503599627370495 65536, .memSpecRd 0 2 15 4503599627370495 65535,
    .memSpecRd 0 1 16 4503599627370495 65535, .memSpecRd 0 1 15 4503599627370496 65535,
    .memSpecRd 0 1 15 4503599627370495 65536, .unsupportedRequest 0 2 7 15, .unsupportedRequest 0 1 8 15,
    .unsupportedRequest 0 1 7 16, .trackerEntryFree 0 2, .heldWriteRelease 0 32, .ringWeirWaitExpiry 0 32 255 0,
    .ringWeirWaitExpiry 0 31 256 0, .scarabPageDone 0 0 16, .stripeProgramFail 0 0 16 .ok, .diePollTimeout 0 512,
    .elytraPage 0 (elyW 2 511) 63 [] [], .elytraPage 0 (elyW 1 0x200) 64 [] [],
    .elytraProgram 0 (elyBody (elyW 3 511)) (elyCrc (elyW 3 511)),
    .elytraSeal 0 (elyW 4 0x300), .elytraJournal 0 (elyBody (elyW 5 0x301)) (elyCrc (elyW 5 0x301)),
    .elytraRailOff 0 (elyW 6 0xFFFF),
    .elytraHeartbeat 0 (elyW 1 0x200), .heartbeatLost 0 2, .elytraOnline 0 2, .elytraOffline 0 2,
    .colonyCheckpoint 0 281474976710656, .beaconRx 0 4 0 (frameW (.beacon 0 0 0 0 0))]
  (fun c => !c.wf) = true := by decide +kernel

theorem test_wf_refuses_2 : List.all (α := Instr)
  [.beaconRx 0 3 0 (frameW (.epochAnnounce true 0 0 0)), .fireflyRx 0 4 0 (frameW (.firefly 0 0 0 0 0)),
    .fireflyRx 0 3 0 (frameW (.sealReport true true 0 0 0 0)), .roleRx 0 4 (frameW (.role 0 0 0 0 0)),
    .roleRx 0 3 (frameW (.config 0 0 0 0)), .configRx 0 4 (frameW (.config 0 0 0 0)),
    .configRx 0 3 (frameW (.beacon 0 0 0 0 0)), .epochAnnounceRx 0 4 (frameW (.epochAnnounce true 0 0 0)),
    .epochAnnounceRx 0 3 (frameW (.plunge 0 0 0 0)), .plungeRx 0 4 (frameW (.plunge 0 0 0 0)),
    .plungeRx 0 3 (frameW (.firefly 0 0 0 0 0)), .sealReportRx 0 4 (frameW (.sealReport true true 0 0 0 0)),
    .sealReportRx 0 3 (frameW (.role 0 0 0 0 0)), .isolationAutoLift 4, .isolationLift 0 4, .portUp 0 4, .portDown 0 4,
    .portSilent 4, .cisternSample [], .coulombSample 0 [0, 0, 0], .socAnchor 0 4, .socUncGrowth 0 4, .calibrationGo 0 4,
    .lightPulse 0 4, .lightPulseEnd 0 4 0 0, .rehearsalSample 0 [0, 0, 0] [0, 0, 0, 0],
    .rehearsalSample 0 [0, 0, 0, 0] [0, 0, 0], .rehearsalEnd 0 0 [0, 0, 0] [0, 0, 0, 0],
    .rehearsalEnd 0 0 [0, 0, 0, 0] [0, 0, 0], .packRemoved 0 4, .packInserted 0 4 0, .packCounted 0 4,
    .setTimestamp 0 (.tenant 32) 0, .getTimestamp 0 (.tenant 32), .gpfPhase1 0 2, .gpfPhase2 0 2, .gpfDrainDone 0 2,
    .cxlResetLd 0 32, .ldResetEffect 0 32, .fabLinkUp 0 2 16 3 true true true]
  (fun c => !c.wf) = true := by decide +kernel

theorem test_wf_refuses_3 : List.all (α := Instr)
  [.fabLinkUp 0 1 24 3 true true true, .fabLinkUp 0 1 16 4 true true true, .fabLinkDown 0 2, .fabHotReset 0 2,
    .hdmCommit 0 32 7 4503599627370495 0 0 0 0 0 true, .hdmCommit 0 31 8 4503599627370495 0 0 0 0 0 true,
    .hdmCommit 0 31 7 4503599627370496 0 0 0 0 0 true, .identify 0 (.tenant 32), .backgroundOperationStatus 0 (.tenant 32),
    .getResponseMessageLimit 0 (.tenant 32), .getEventRecords 0 (.tenant 32) 255, .getEventRecords 0 (.tenant 31) 256,
    .clearEventRecords 0 (.tenant 32) 255 [], .clearEventRecords 0 (.tenant 31) 256 [],
    .getEventInterruptPolicy 0 (.tenant 32), .setEventInterruptPolicy 0 (.tenant 32) 0, .getFwInfo 0 (.tenant 32),
    .transferFwInitiate 0 (.tenant 32) 255 4294967295 0 0, .transferFwInitiate 0 (.tenant 31) 256 4294967295 0 0,
    .transferFwInitiate 0 (.tenant 31) 255 4294967296 0 0, .transferFwContinue 0 (.tenant 32) 255 4294967295 0 0,
    .transferFwContinue 0 (.tenant 31) 256 4294967295 0 0, .transferFwContinue 0 (.tenant 31) 255 4294967296 0 0,
    .transferFwEnd 0 (.tenant 32) 255 4294967295 0 0 imgW, .transferFwEnd 0 (.tenant 31) 256 4294967295 0 0 imgW,
    .transferFwEnd 0 (.tenant 31) 255 4294967296 0 0 imgW, .transferFwFull 0 (.tenant 32) 255 4294967295 0 0 imgW,
    .transferFwFull 0 (.tenant 31) 256 4294967295 0 0 imgW, .transferFwFull 0 (.tenant 31) 255 4294967296 0 0 imgW,
    .transferFwAbort 0 (.tenant 32), .fwPropagateCopyDone 0 4 true, .activateFwOnline 0 (.tenant 32) 255,
    .activateFwOnline 0 (.tenant 31) 256, .activateFwOffline 0 (.tenant 32) 255, .activateFwOffline 0 (.tenant 31) 256,
    .getSupportedLogs 0 (.tenant 32), .getLog 0 (.tenant 32), .identifyMemoryDevice 0 (.tenant 32),
    .getPartitionInfo 0 (.tenant 32), .getHealthInfo 0 (.tenant 32)]
  (fun c => !c.wf) = true := by decide +kernel

theorem test_wf_refuses_4 : List.all (α := Instr)
  [.getAlertConfiguration 0 (.tenant 32), .setAlertConfiguration 0 (.tenant 32) 0, .getShutdownState 0 (.tenant 32) 255,
    .getShutdownState 0 (.tenant 31) 256, .setShutdownState 0 (.tenant 32) 255 0, .setShutdownState 0 (.tenant 31) 256 0,
    .getPoisonList 0 (.tenant 32), .injectPoison 0 (.tenant 32) 0, .clearPoison 0 (.tenant 32) 0 0,
    .getScanMediaCapabilities 0 (.tenant 32), .scanMedia 0 (.tenant 32) 0 0 [], .getScanMediaResults 0 (.tenant 32),
    .sanitize 0 (.tenant 32), .secureErase 0 (.tenant 32), .getLdInfo 0 (.tenant 32) 255, .getLdInfo 0 (.tenant 31) 256,
    .getLdAllocations 0 (.tenant 32) 255, .getLdAllocations 0 (.tenant 31) 256, .setLdAllocations 0 (.tenant 32),
    .getQosControl 0 (.tenant 32) 255, .getQosControl 0 (.tenant 31) 256, .setQosControl 0 (.tenant 32) 255 0 0 0,
    .setQosControl 0 (.tenant 31) 256 0 0 0, .getQosStatus 0 (.tenant 32) 255, .getQosStatus 0 (.tenant 31) 256,
    .getQosAllocatedBw 0 (.tenant 32) 255, .getQosAllocatedBw 0 (.tenant 31) 256,
    .setQosAllocatedBw 0 (.tenant 32) 255 0 [255], .setQosAllocatedBw 0 (.tenant 31) 256 0 [255],
    .setQosAllocatedBw 0 (.tenant 31) 255 0 [0, 256], .getQosBwLimit 0 (.tenant 32) 255, .getQosBwLimit 0 (.tenant 31) 256,
    .setQosBwLimit 0 (.tenant 32) 255 0 [255], .setQosBwLimit 0 (.tenant 31) 256 0 [255],
    .setQosBwLimit 0 (.tenant 31) 255 0 [0, 256], .mailboxUnsupported 0 (.tenant 32) 65535,
    .mailboxUnsupported 0 (.tenant 31) 65536, .getPersistInfo 0 (.tenant 32), .setLdExtent 0 (.tenant 32) 255 0 0,
    .setLdExtent 0 (.tenant 31) 256 0 0]
  (fun c => !c.wf) = true := by decide +kernel

theorem test_wf_refuses_5 : List.all (α := Instr)
  [.bindLd 0 (.tenant 32) 255 255 65535, .bindLd 0 (.tenant 31) 256 255 65535, .bindLd 0 (.tenant 31) 255 256 65535,
    .bindLd 0 (.tenant 31) 255 255 65536, .rebindLd 0 (.tenant 32) 255 255 65535, .rebindLd 0 (.tenant 31) 256 255 65535,
    .rebindLd 0 (.tenant 31) 255 256 65535, .rebindLd 0 (.tenant 31) 255 255 65536, .unbindLd 0 (.tenant 32) 255,
    .unbindLd 0 (.tenant 31) 256, .unbindComplete 0 32, .quiesceLd 0 (.tenant 32) 255, .quiesceLd 0 (.tenant 31) 256,
    .quiesceWaitExpiry 0 32, .quiesceComplete 0 32, .resumeLd 0 (.tenant 32) 255, .resumeLd 0 (.tenant 31) 256,
    .regAccess 0 (.tenant 32) 4294967295 64 true 0, .regAccess 0 (.tenant 31) 4294967296 64 true 0,
    .regAccess 0 (.tenant 31) 4294967295 24 true 0, .sqTailDoorbell 0 32 255 4294967295 64 0,
    .sqTailDoorbell 0 31 256 4294967295 64 0, .sqTailDoorbell 0 31 255 4294967296 64 0,
    .sqTailDoorbell 0 31 255 4294967295 24 0, .cqHeadDoorbell 0 32 255 4294967295 64 0,
    .cqHeadDoorbell 0 31 256 4294967295 64 0, .cqHeadDoorbell 0 31 255 4294967296 64 0,
    .cqHeadDoorbell 0 31 255 4294967295 24 0, .descriptorFetchDone 0 32 255 .error 0 0 0,
    .descriptorFetchDone 0 31 256 .error 0 0 0, .descriptorAccept 0 32 255, .descriptorAccept 0 31 256,
    .noResourceNotice 0 32 255, .noResourceNotice 0 31 256, .nop 0 32 255 0, .nop 0 31 256 0, .persistRange 0 32 255 0,
    .persistRange 0 31 256 0, .checkpointAt 0 32 255 0, .checkpointAt 0 31 256 0]
  (fun c => !c.wf) = true := by decide +kernel

theorem test_wf_refuses_6 : List.all (α := Instr)
  [.checkpointRelease 0 32 255 0, .checkpointRelease 0 31 256 0, .rollbackTo 0 32 255 0, .rollbackTo 0 31 256 0,
    .queryPages 0 32 255 0, .queryPages 0 31 256 0, .zeroRange 0 32 255 0, .zeroRange 0 31 256 0, .sanitizeLd 0 32 255 0,
    .sanitizeLd 0 31 256 0, .fence 0 32 255 0, .fence 0 31 256 0, .readSeal 0 32 255 0 true, .readSeal 0 31 256 0 true,
    .ringEnable 0 (.tenant 32) 31 255 true, .ringEnable 0 (.tenant 31) 32 255 true, .ringEnable 0 (.tenant 31) 31 256 true,
    .ringDisable 0 (.tenant 32) 31 255, .ringDisable 0 (.tenant 31) 32 255, .ringDisable 0 (.tenant 31) 31 256,
    .ringResume 0 (.tenant 32) 31 255, .ringResume 0 (.tenant 31) 32 255, .ringResume 0 (.tenant 31) 31 256,
    .msixCoalesceTimeout 0 32 255, .msixCoalesceTimeout 0 31 256, .ldGo 0 32, .bootCopyRepairDone 0 4 true,
    .faultMessage 0 1024 0 0 true true, .faultIntake 0 1024, .isolationComplete 0 ⟨128, [0]⟩, .quietPeriodExpiry 0 128,
    .recoveryDone 0 128 true 0, .unitIsolate 0 128, .unitReturn 0 128, .bistGo 0 128, .journalRecordProgrammed 0 0 2 .ok,
    .journalSealProgrammed 0 0 2, .jtagInstruction 0 65536, .railTimeout 0 32, .railSample 0 32 0]
  (fun c => !c.wf) = true := by decide +kernel

theorem test_wf_refuses_7 : List.all (α := Instr)
  [.railPgLoss 0 32, .resetStretchExpiry 0 9, .domainWait 0 96 3 3, .domainWait 0 95 4 3, .domainWait 0 95 3 4,
    .domainCancel 0 96, .domainIdlePoint 0 96, .domainCommitWindowEnd 0 96, .domainNoIdleTimeout 0 96, .wakeSource 0 5,
    .domainReady 0 96 true 0, .dramRequestIssue 0 8 1, .dramRequestIssue 0 7 2, .dramReadDone 0 8 1 ⟨[], []⟩,
    .dramReadDone 0 7 2 ⟨[], []⟩, .refreshSlot 0 8 15, .refreshSlot 0 7 16, .mr4Poll 8 true 0, .rhTableClear 0 8,
    .rankPowerDown 0 8 15, .rankPowerDown 0 7 16, .dqsTrack 8 15 0, .dqsTrack 7 16 0, .eyeSample 8 15 0 0 0,
    .eyeSample 7 16 0 0 0, .rankRetrainDone 0 8 15 true, .rankRetrainDone 0 7 16 true, .alertFall 0 8 1 15 0,
    .alertFall 0 7 2 15 0, .alertFall 0 7 1 16 0, .freezeHoldExpiry 0 8, .channelOut 0 16, .channelIn 0 16,
    .channelVerifyDone 0 16 [], .flmBufWrite 0 4294967296 0 64, .flmBufWrite 0 4294967295 0 24, .twoWireStart 0 128,
    .twoWireFrameEnd 0 128 (some 0) (List.replicate 257 0), .twoWireFrameEnd 0 127 (some 0) (List.replicate 258 0),
    .twoWireFrameEnd 0 127 none [0], .read32 0 128 4294967295]
  (fun c => !c.wf) = true := by decide +kernel

theorem test_wf_refuses_8 : List.all (α := Instr)
  [.read32 0 127 4294967296, .write32 0 128 4294967295 0, .write32 0 127 4294967296 0, .summary 0 128,
    .mctpPacketRx 0 256 true true 0 0 .plungeRepeat, .setEndpointId 0 256, .mctpTransmit 0 true 128,
    .commitWrite 0 (.tenant 32) 4294967295, .commitWrite 0 (.tenant 31) 4294967296,
    .registerWrite 0 (.tenant 32) 4294967295 64 0, .registerWrite 0 (.tenant 31) 4294967296 64 0,
    .registerWrite 0 (.tenant 31) 4294967295 24 0, .rcRead 0 (.tenant 32) 4294967295 64, .rcRead 0 (.tenant 31) 4294967296 64,
    .rcRead 0 (.tenant 31) 4294967295 24, .rslRead 0 (.tenant 32) 4294967295 64, .rslRead 0 (.tenant 31) 4294967296 64,
    .rslRead 0 (.tenant 31) 4294967295 24, .minRunReached 0 512, .configurationWriteDone 0 4 .ok]
  (fun c => !c.wf) = true := by decide +kernel

/-- The table gives no row bits, so no word spells a command. -/
theorem test_decode_none (nbits w : Nat) : decodeTableWord nbits w = none := rfl

/-! ## Results of the manual's examples -/

/-- Table 17-4: SPL_STATE of a SERVING device read through address 0x33 without PEC, LD_NOW 0xFF. -/
theorem test_read32_spl_state :
    (match execRead32 0 0x33 0x120000 (sets [(Fld.SPL_STATE.STATE, 3), (Fld.SPL_STATE.LD_NOW, 255)] Wt) with
      | .next t => t.out
      | _ => []) = [.twoWire [0x05, 0x00, 0x03, 0x00, 0xFF, 0x00]] := by decide +kernel

/-- Table 05-8, and with MARGIN_PCT 25 Table 18-7: the weir of the RM-4T at 25 °C. The tables' figures, 611,612,179, 733,934,615 and
587,147,692, come from f rounded to 300.62 J; these are R118's own, from the exact f. -/
theorem test_weir_rm4t :
    (sets [(Fld.CIS_USABLE.USABLE_J, 11750), (Fld.WEIR_FIXED.P_SERVE_W, 220), (Fld.CIS_CFG.P_SPILL_W, 180)] W).weirPages =
      (611612143, 733934572) ∧
    (sets [(Fld.CIS_USABLE.USABLE_J, 11750), (Fld.WEIR_FIXED.P_SERVE_W, 220), (Fld.CIS_CFG.P_SPILL_W, 180),
      (Fld.WEIR_CFG.MARGIN_PCT, 25)] W).weirPages = (587147657, 733934572) := by decide +kernel

/-- Table 18-7: shares of 40,000 and 30,000 are refused together, 40,000 and 25,000 pass. -/
theorem test_shares_checked_together :
    ({ W with lds := [(0, { ldW .serving with extBase := 126 }), (1, { ldW .serving with extBase := 127 })] } : State).setOk 0x110004
      [((Fld.WEIR_LD_CFG.GUAR 0).bit, 40000), ((Fld.WEIR_LD_CFG.GUAR 1).bit, 30000)] = false ∧
    ({ W with lds := [(0, { ldW .serving with extBase := 126 }), (1, { ldW .serving with extBase := 127 })] } : State).setOk 0x110004
      [((Fld.WEIR_LD_CFG.GUAR 0).bit, 40000), ((Fld.WEIR_LD_CFG.GUAR 1).bit, 25000)] = true := by decide +kernel

/-- Table 03-13: a collapse at beat 89,999.80 with GUARD 4 cuts at 90,003. -/
theorem test_collapse_opens_window :
    (match execInputCollapse 0 { W with colTime := 737278361 } with
      | .next t => t.col.window.map (fun w => (w.tw, w.ownSpill))
      | _ => none) = some (90003, some 90003) := by decide +kernel

/-- Table 12-10: at beat 2,032,195 with K = 10 the boundary 2,048,000 is a valid target, and 2,048,001 is none. -/
theorem test_checkpoint_target :
    ({ W with colTime := 2032195 * 8192 } : State).checkArgs 31 (descW 2 105 2048000 0 0) = 0 ∧
    ({ W with colTime := 2032195 * 8192 } : State).checkArgs 31 (descW 2 105 2048001 0 0) = 3 := by decide +kernel

/-- Tables 03-3 to 03-5: the header of a PLUNGE of module 5 that has passed 14 modules: TYPE 3, CLASS 0, LEN 4, HOPS 14, ORIGIN 5. -/
theorem test_plunge_header :
    ((FrameBody.plunge 1 2 64 0).frame 14 5).words.head? = some 0x31380005 := by decide +kernel

/-- Table 06-3: a PAGE command of Elytra B, SEQ 9, to cluster 15, its opcode in byte 0, FLAGS in byte 1, ROLE_GEN, SEQ and TARGET
above, least significant byte first. -/
theorem test_page_frame_bytes :
    (ElyFrame.make 1 1 false 3 9 0x20F (pageArgs 5 none 0 0)).bits.toNat % 2 ^ 80 = 0x020F0000000900030101 := by decide +kernel

/-! ## A state that meets the hypotheses of each statement, clause by clause -/

theorem witness_StepRunsTheFrontCommand :
  (∃ (c : Instr) (s : State) (rest : List Instr), s.pending = c :: rest) ∧
  (∃ (s : State), s.pending = []) :=
  ⟨⟨.plungeRepeat, ({ W with pending := [.plungeRepeat] }), [], by decide +kernel⟩,
   ⟨W, by decide +kernel⟩⟩

theorem witness_EveryStepKeepsTablesCanonical :
  ∃ (s t : State), Canonical s ∧ step s = .next t :=
  ⟨W, W, ⟨by constructor <;> decide +kernel, rfl⟩⟩

theorem witness_TimeAndOutputOnlyGrow :
  ∃ (s t : State), step s = .next t :=
  ⟨W, W, by (repeat' apply And.intro) <;> first | decide +kernel | rfl⟩

theorem witness_SettlingLeavesTheRest :
  ∃ (s t : State), t = s.settle.showWeir :=
  ⟨W, W, by decide +kernel⟩

theorem witness_PlungesAreAnnouncedAndMerged :
  (∃ (s : State) (dt b g : Nat), s.fmWritable 0x1900A0 = true ∧ s.col.window = none ∧ 0 < s.guardNow ∧ b = (s.elapse
    dt).curBeat ∧ g = s.fget Fld.COL_GROUP_MASK.GROUPS) ∧
  (∃ (s : State) (dt b : Nat) (w : PlungeWin), s.fmWritable 0x1900A0 = true ∧ s.col.window = some w ∧ b = (s.elapse
    dt).curBeat ∧ b < w.tw ∧ w.tw ≤ b + s.guardNow) ∧
  (∃ (s : State) (dt b g : Nat), s.on Fld.COL_CTL.PLUNGEN_EN = true ∧ s.edgeOn = true ∧ s.isOpen = true ∧ s.col.window = none
    ∧ 0 < s.guardNow ∧ b = (s.elapse dt).curBeat ∧ g = s.fget Fld.COL_PLUNGEN_MASK.GROUPS) ∧
  (∃ (s : State), ((s.on Fld.COL_CTL.PLUNGEN_EN = false ∨ s.edgeOn = false ∨ s.isOpen = false))) ∧
  (∃ (s : State) (dt p rep cause cut b : Nat) (f : Frame) (g : Word), Hears s p f ∧ f.body = .plunge rep cause cut g ∧ b =
    (s.elapse dt).curBeat ∧ cut ≤ b + 64 ∧ b ≤ cut + 64 ∧ s.isOpen = true ∧ s.col.window = none ∧ f.hops < 15 ∧ ((∀ x ∈
    s.col.fwd, ¬ (x.1 = f.origin ∧ x.2.1 = cut ∧ x.2.2.1 = rep)))) ∧
  (∃ (s : State) (dt : Nat) (w : PlungeWin), s.col.window = some w ∧ w.openAt + 524288 ≤ (s.elapse dt).colTime) ∧
  (∃ (s : State) (dt x : Nat), s.fmWritable 0x1900B0 = true ∧ s.isMember = false ∧ (s.elapse dt).curBeat + 16 ≤ x ∧ s.isEpoch
    x = true) ∧
  (∃ (s : State) (dt x : Nat), s.fmWritable 0x1900B0 = true ∧ ((s.isMember = true ∨ x < (s.elapse dt).curBeat + 16 ∨ s.isEpoch
    x = false))) :=
  ⟨⟨W, 0, 0, 0, by decide +kernel⟩,
   ⟨({ W with col := { window := some ⟨0, 1, false, 0, false, none, 0, false⟩ } }), 0, 0, ⟨0, 1, false, 0, false, none, 0,
    false⟩, by decide +kernel⟩,
   ⟨W, 0, 0, (W.fget Fld.COL_PLUNGEN_MASK.GROUPS), by decide +kernel⟩,
   ⟨({ W with dev := .sealed }), by decide +kernel⟩,
   ⟨Wm, 0, 3, 1, 2, 64, 0, ((FrameBody.plunge 1 2 64 0).frame 14 5), 0, by unfold Hears; decide +kernel⟩,
   ⟨({ W with col := { window := some ⟨0, 1, false, 0, false, none, 0, false⟩ } }), 524288, ⟨0, 1, false, 0, false, none, 0,
    false⟩, by decide +kernel⟩,
   ⟨W, 0, 1024, by decide +kernel⟩,
   ⟨W, 0, 15, by decide +kernel⟩⟩

theorem witness_ThoborFramesAreTaken :
  (∃ (s : State) (dt p t2 tx st root e4 eq t3 : Nat) (f : Frame) (delay off : Int), Hears s p f ∧ f.body = .beacon tx st root
    e4 eq ∧ s.isMember = true ∧ ((s.portRole p = 1 ∨ s.portRole p = 3)) ∧ s.selPort = some p ∧ ((∀ x, s.selRoot = some x →
    root = x)) ∧ ((s.elapse dt).txPort p).t3.find? (fun e => e.1 == eq) = some (eq, t3) ∧ delay = (diff32 (diff32 ((t2 : Int)
    - tx) 0 + diff32 e4 t3) 0).tdiv 2 ∧ off = (t2 : Int) - tx - delay - ofField 8 (s.fget (Fld.COL_PORT_CFG.ASYM_NS p))) ∧
  (∃ (s : State) (p a b c q root : Nat) (f : Frame), Hears s p f ∧ f.body = .firefly a b c q root ∧ ((s.isMember = true → ∀ x,
    s.selRoot = some x → root = x))) ∧
  (∃ (s : State) (p d a b c root : Nat) (f : Frame), Hears s p f ∧ f.body = .role d a b c root ∧ ((s.isMember = true → ∀ x,
    s.selRoot = some x → root = x))) ∧
  (∃ (s : State) (p root x : Nat) (f : Frame), Hears s p f ∧ s.isMember = true ∧ s.selRoot = some x ∧ root ≠ x) ∧
  (∃ (s : State) (p gen guard k eff : Nat) (f : Frame), Hears s p f ∧ f.body = .config gen guard k eff ∧ s.isMember = true ∧
    s.selPort = some p ∧ 2 ≤ guard ∧ guard ≤ 15 ∧ 7 ≤ k ∧ k ≤ 21) ∧
  (∃ (s : State) (p gen guard k eff : Nat) (f : Frame), Hears s p f ∧ f.body = .config gen guard k eff ∧ ¬ (s.isMember = true
    ∧ s.selPort = some p ∧ 2 ≤ guard ∧ guard ≤ 15 ∧ 7 ≤ k ∧ k ≤ 21)) ∧
  (∃ (s : State) (p k x : Nat) (ck : Bool) (g : Word) (f : Frame), Hears s p f ∧ f.body = .epochAnnounce ck k x g ∧ s.isMember
    = true ∧ s.selPort = some p) ∧
  (∃ (s : State) (p q kind cut gen : Nat) (cp late : Bool) (inc : BitVec 32) (f : Frame), Hears s p f ∧ f.body = .sealReport
    cp late kind cut gen inc ∧ s.isMember = true ∧ s.selPort = some q ∧ s.canSend q = true ∧ q ≠ p) ∧
  (∃ (s : State) (p kind cut gen : Nat) (cp late : Bool) (inc : BitVec 32) (f : Frame) (l : EvLog), Hears s p f ∧ f.body =
    .sealReport cp late kind cut gen inc ∧ s.isMember = false ∧ l = tabGet ({ } : EvLog) (if cp then 0 else 1) (s.mb
    fmLd).logs ∧ l.recs.length < 256) ∧
  (∃ (s : State) (p : Nat) (f : Frame), p < 4 ∧ s.isStandalone = false ∧ s.portRole p ≠ 0 ∧ s.thoborOn = true ∧ f.crcOk =
    false) :=
  ⟨⟨{ Wm with tx := [(3, { t3 := [(7, 100)] })] }, 0, 3, 200, 50, 1, 0, 30, 7, 100, ((FrameBody.beacon 50 1 0 30 7).frame 0 5),
    40, 110, by unfold Hears; decide +kernel⟩,
   ⟨Wm, 3, 0, 3, 1, 9, 0, ((FrameBody.firefly 0 3 1 9 0).frame 0 5), by unfold Hears; decide +kernel⟩,
   ⟨Wm, 3, 0, 0, 0, 0, 0, ((FrameBody.role 0 0 0 0 0).frame 0 5), by unfold Hears; decide +kernel⟩,
   ⟨{ Wm with col := { ports := [(3, { rootSeen := some 2 })] } }, 3, 1, 2, ((FrameBody.firefly 0 3 1 9 1).frame 0 5), by
    unfold Hears; decide +kernel⟩,
   ⟨Wm, 3, 1, 15, 21, 0, ((FrameBody.config 1 15 21 0).frame 0 5), by unfold Hears; decide +kernel⟩,
   ⟨Wm, 3, 1, 1, 21, 0, ((FrameBody.config 1 1 21 0).frame 0 5), by unfold Hears; decide +kernel⟩,
   ⟨Wm, 3, 0, 0, true, 0, ((FrameBody.epochAnnounce true 0 0 0).frame 0 5), by unfold Hears; decide +kernel⟩,
   ⟨(sets [(Fld.COL_PORT_CFG.ROLE 0, 2)] Wm), 0, 3, 0, 0, 0, true, true, 0, ((FrameBody.sealReport true true 0 0 0 0).frame 0 5),
    by unfold Hears; decide +kernel⟩,
   ⟨(sets [(Fld.COL_CTL.ROLE, 2), (Fld.COL_PORT_CFG.ROLE 3, 2), (Fld.COL_PORT_STS.LINK_UP 3, 1)] W), 3, 0, 0, 0, true, true, 0,
    ((FrameBody.sealReport true true 0 0 0 0).frame 0 5), { }, by unfold Hears; decide +kernel⟩,
   ⟨Wm, 3, { words := [0, 0] }, by decide +kernel⟩⟩

theorem witness_PortsSelectionAndPeriodicFrames :
  (∃ (s : State) (p : Nat), p < 4 ∧ s.portIso p = true) ∧
  (∃ (s : State) (p : Nat), p < 4 ∧ s.isStandalone = false ∧ s.portRole p ≠ 0 ∧ s.thoborOn = true) ∧
  (∃ (s : State) (p : Nat), s.portUp p = true ∧ (s.port p).lastFirefly + 3 < s.curBeat) ∧
  (∃ (s : State) (p : Nat), s.isMember = true ∧ s.selPort = some p ∧ ((s.portUp p = false ∨ s.portSilent p = true))) ∧
  (∃ (s : State) (p : Nat), s.isMember = true ∧ s.col.mayUp = true ∧ allPorts.find? (fun p => s.portRole p == 1 && s.portUp p)
    = some p ∧ s.selPort ≠ some p) ∧
  (∃ (s : State) (f : Frame), s.isRoot = true ∧ ((∀ x, s.col.pend = some x → f = s.mkFrame 0 (.config s.col.cfgGen x.guard x.k
    x.beat))) ∧ ((s.col.pend = none → f = s.mkFrame 0 (.config s.col.cfgGen s.guardNow s.kNow s.curBeat)))) ∧
  (∃ (s : State), s.isRoot = true) ∧
  (∃ (p : Nat), p < 4) ∧
  (∃ (s : State) (p : Nat) (f : Frame), (s.txPort p).next = some f ∧ (s.txPort p).freeAt ≤ s.now) :=
  ⟨⟨(sets [(Fld.COL_PORT_STS.ISOLATED 3, 1)] W), 3, by decide +kernel⟩,
   ⟨Wm, 3, by decide +kernel⟩,
   ⟨{ Wm with colTime := 32768 }, 3, by decide +kernel⟩,
   ⟨(sets [(Fld.COL_PORT_STS.SILENT 3, 1)] Wm), 3, by decide +kernel⟩,
   ⟨(sets [(Fld.COL_PORT_STS.SELECTED 3, 0)] Wm), 3, by decide +kernel⟩,
   ⟨(sets [(Fld.COL_CTL.ROLE, 2), (Fld.COL_PORT_CFG.ROLE 3, 2), (Fld.COL_PORT_STS.LINK_UP 3, 1)] W), ((sets [(Fld.COL_CTL.ROLE,
    2), (Fld.COL_PORT_CFG.ROLE 3, 2), (Fld.COL_PORT_STS.LINK_UP 3, 1)] W).mkFrame 0 (.config (sets [(Fld.COL_CTL.ROLE, 2),
    (Fld.COL_PORT_CFG.ROLE 3, 2), (Fld.COL_PORT_STS.LINK_UP 3, 1)] W).col.cfgGen (sets [(Fld.COL_CTL.ROLE, 2),
    (Fld.COL_PORT_CFG.ROLE 3, 2), (Fld.COL_PORT_STS.LINK_UP 3, 1)] W).guardNow (sets [(Fld.COL_CTL.ROLE, 2),
    (Fld.COL_PORT_CFG.ROLE 3, 2), (Fld.COL_PORT_STS.LINK_UP 3, 1)] W).kNow (sets [(Fld.COL_CTL.ROLE, 2),
    (Fld.COL_PORT_CFG.ROLE 3, 2), (Fld.COL_PORT_STS.LINK_UP 3, 1)] W).curBeat)), ⟨by decide +kernel, fun x h => (nomatch (show
    (none : Option PendCfg) = some x from h)), fun _ => rfl⟩⟩,
   ⟨(sets [(Fld.COL_CTL.ROLE, 2), (Fld.COL_PORT_CFG.ROLE 3, 2), (Fld.COL_PORT_STS.LINK_UP 3, 1)] W), by decide +kernel⟩,
   ⟨3, by decide +kernel⟩,
   ⟨{ W with tx := [(3, { wait := [((FrameBody.plunge 1 2 64 0).frame 0 5)] })] }, 3, ((FrameBody.plunge 1 2 64 0).frame 0 5), by
    decide +kernel⟩⟩

theorem witness_PacksAreMeasuredAndSwapped :
  (∃ (p : Nat), p < 4) ∧
  (∃ (s : State) (dt p u : Nat), p < 4 ∧ s.on (Fld.CIS_PACK_STS.PRESENT p) = true ∧ (s.pack p).restAt = some u ∧ u +
    1200000000000 ≤ s.now + dt ∧ s.on (Fld.CIS_PACK_STS.AT_REST p) = false ∧ ocvValid s.ocv = true ∧ s.calState ≠ 4) ∧
  (∃ (s : State) (dt p : Nat), p < 4 ∧ s.on (Fld.CIS_PACK_STS.PRESENT p) = true ∧ (s.pack p).uncAt + 86400000000000 ≤ s.now +
    dt) ∧
  (∃ (s : State) (dt : Nat), s.fget Fld.CIS_ALARM.ALARM_US ≠ 0 ∧ s.fget Fld.CIS_ALARM.ALARM_US ≤ (s.now + dt - s.vaonAt) /
    1000 ∧ s.cis.alarmDone = false) ∧
  (∃ (s : State) (p : Nat), p < 4 ∧ s.on (Fld.CIS_PACK_STS.PRESENT p) = true) ∧
  (∃ (s : State) (p : Nat), p < 4 ∧ s.on (Fld.CIS_PACK_STS.PRESENT p) = false) :=
  ⟨⟨3, by decide +kernel⟩,
   ⟨(sets [(Fld.CIS_OCV.OCV_LO 0, 1), (Fld.CIS_OCV.OCV_HI 0, 2), (Fld.CIS_OCV.OCV_LO 1, 3), (Fld.CIS_OCV.OCV_HI 1, 4),
    (Fld.CIS_OCV.OCV_LO 2, 5), (Fld.CIS_OCV.OCV_HI 2, 6), (Fld.CIS_OCV.OCV_LO 3, 7), (Fld.CIS_OCV.OCV_HI 3, 8),
    (Fld.CIS_OCV.OCV_LO 4, 9), (Fld.CIS_OCV.OCV_HI 4, 10), (Fld.CIS_OCV.OCV_LO 5, 11), (Fld.CIS_OCV.OCV_HI 5, 12),
    (Fld.CIS_OCV.OCV_LO 6, 13), (Fld.CIS_OCV.OCV_HI 6, 14), (Fld.CIS_OCV.OCV_LO 7, 15), (Fld.CIS_OCV.OCV_HI 7, 16)] (sets
    [(Fld.CIS_PACK_STS.PRESENT 3, 1)] { W with cis := { packs := [(3, { restAt := some 5 })] } })), 1200000000005, 3, 5, by
    decide +kernel⟩,
   ⟨(sets [(Fld.CIS_PACK_STS.PRESENT 3, 1)] W), 86400000000000, 3, by decide +kernel⟩,
   ⟨(sets [(Fld.CIS_ALARM.ALARM_US, 5)] W), 5000, by decide +kernel⟩,
   ⟨(sets [(Fld.CIS_PACK_STS.PRESENT 3, 1)] W), 3, by decide +kernel⟩,
   ⟨W, 3, by decide +kernel⟩⟩

theorem witness_CalibrationsAndLightPulses :
  (∃ (s : State) (p : Nat), s.fmWritable 0x1A0090 = true ∧ p < 4 ∧ ¬ (1 ≤ s.calState ∧ s.calState ≤ 4) ∧ s.col.window = none ∧
    s.rehearsing = false ∧ s.dev = .serving) ∧
  (∃ (s : State), s.fmWritable 0x1A0090 = true ∧ s.calState = 3 ∧ s.cis.pauseT = false ∧ s.fget Fld.CIS_CFG.INPUT_RAIL < 32) ∧
  (∃ (s : State), s.fmWritable 0x1A0090 = true ∧ s.calState = 2 ∧ s.fget Fld.CIS_CFG.INPUT_RAIL < 32) ∧
  (∃ (s : State), s.fmWritable 0x1A0090 = true ∧ 1 ≤ s.calState ∧ s.calState ≤ 4 ∧ s.fget Fld.CIS_CFG.INPUT_RAIL < 32) ∧
  (∃ (s : State) (dt : Nat), s.calState = 1 ∧ s.fget Fld.CIS_CFG.INPUT_RAIL < 32 ∧ ((∀ p, p < 4 → (s.pack p).inCal = true →
    (s.pack p).full = false → ∃ u, (s.pack p).fullAt = some u ∧ u + 60000000000 ≤ s.now + dt))) ∧
  (∃ (s : State), s.calState = 2 ∧ s.fget Fld.CIS_CFG.INPUT_RAIL < 32 ∧ s.fget Fld.CIS_USABLE.USABLE_J ≤ 500 * s.fget
    Fld.CIS_CFG.CAL_RESERVE) ∧
  (∃ (s : State) (dt p : Nat), p < 4 ∧ s.on (Fld.CIS_PACK_STS.CHARGING p) = true ∧ (s.pack p).cur < 0 ∧ belowC (s.pack p).cur
    (s.pack p).q (s.fget (Fld.CIS_PACK_CFG.SHUNT_UOHM p)) 10 = false ∧ ((∀ u, (s.pack p).pulseAt = some u → u + 3600000000000
    ≤ s.now + dt))) ∧
  (∃ (s : State) (dt p u : Nat) (di : Int), p < 4 ∧ (s.pack p).pulse = some u ∧ u + 10000000 ≤ s.now + dt ∧ di ≠ 0) :=
  ⟨⟨W, 3, by decide +kernel⟩,
   ⟨(sets [(Fld.CIS_CAL_STS.STATE, 3)] W), by decide +kernel⟩,
   ⟨(sets [(Fld.CIS_CAL_STS.STATE, 2)] W), by decide +kernel⟩,
   ⟨(sets [(Fld.CIS_CAL_STS.STATE, 4)] W), by decide +kernel⟩,
   ⟨(sets [(Fld.CIS_CAL_STS.STATE, 1)] W), 0, by decide +kernel⟩,
   ⟨(sets [(Fld.CIS_CAL_STS.STATE, 2)] W), by decide +kernel⟩,
   ⟨(sets [(Fld.CIS_PACK_STS.CHARGING 3, 1)] { W with cis := { packs := [(3, { cur := -1 })] } }), 0, 3, by decide +kernel⟩,
   ⟨({ W with cis := { packs := [(3, { pulse := some 5 })] } }), 10000005, 3, 5, 1, by decide +kernel⟩⟩

theorem witness_RehearsalRunsAndPublishes :
  (∃ (s : State), s.fmWritable 0x1A0098 = true ∧ s.rehearsing = false) ∧
  (∃ (s : State) (dt b : Nat), s.cis.rehFrom = some b ∧ s.rehearsing = false ∧ b + 1 ≤ (s.elapse dt).curBeat ∧ s.rehOk = true
    ∧ s.fget Fld.CIS_CFG.INPUT_RAIL < 32) ∧
  (∃ (s : State) (u : Nat), s.cis.rehAt = some u ∧ u + 8192 ≤ s.now) ∧
  (∃ (s : State) (u p : Nat) (mv : List Int) (v : Int), s.cis.rehAt = some u ∧ p < 4 ∧ s.counted p = true ∧ mv[p]? = some v ∧
    v * 100 < ((s.fget (Fld.CIS_PACK_CFG.CELLS p) * s.fget (Fld.CIS_PACK_CFG.V_CUT_MV p) * 105 : Nat) : Int)) ∧
  (∃ (s : State) (mv : List Int), ((∀ p v, p < 4 → s.counted p = true → mv[p]? = some v → ((s.fget (Fld.CIS_PACK_CFG.CELLS p)
    * s.fget (Fld.CIS_PACK_CFG.V_CUT_MV p) * 105 : Nat) : Int) ≤ v * 100))) ∧
  (∃ (s : State) (dt u : Nat), s.cis.rehAt = some u ∧ u + 2000000000 ≤ s.now + dt ∧ s.fget Fld.CIS_CFG.INPUT_RAIL < 32) ∧
  (∃ (s : State) (w : Nat) (mv ma : List Int), s.cis.rehEnd = some (w, mv, ma)) :=
  ⟨⟨W, by decide +kernel⟩,
   ⟨({ W with cis := { rehFrom := some 0 } }), 8192, 0, by decide +kernel⟩,
   ⟨({ W with cis := { rehAt := some 5 }, now := 8197 }), 5, by decide +kernel⟩,
   ⟨(sets [(Fld.CIS_PACK_STS.COUNTED 0, 1)] { W with cis := { rehAt := some 5 } }), 5, 0, [12599], 12599, by decide +kernel⟩,
   ⟨W, [], fun p v _ _ h => by simp at h⟩,
   ⟨({ W with cis := { rehAt := some 5 } }), 2000000005, 5, by decide +kernel⟩,
   ⟨({ W with cis := { rehEnd := some (5, [1], [2]) } }), 5, [1], [2], by decide +kernel⟩⟩

theorem witness_BoundariesAndProgramsTakeEffect :
  (∃ (s : State), s.dev ≠ .off ∧ s.flt.warmAtT = false) ∧
  (∃ (s : State), s.isOpen = true ∧ s.flt.warmAtT = true ∧ s.col.window = none) ∧
  (∃ (s : State), s.dev = .off) ∧
  (∃ (s : State) (dt w h : Nat), s.rill.pendW = some (w, h) ∧ s.rill.pendAt ≤ s.now + dt) ∧
  (∃ (s : State) (p k base : Nat) (i : Item) (l : List Item), k < 16 ∧ (s.rill.sel.filter (fun i => i.form.page == p)).drop
    (s.rill.ready.count p) = i :: l ∧ base =
    (match i.slot with | some e => if i.form.kind = 2 then s.slotLine e else p * 64 | none => p * 64)) ∧
  (∃ (s : State) (q : Nat) (x : Stripe), s.stripe? q = some x ∧ x.closed = true) ∧
  (∃ (s : State) (q : Nat) (x : Stripe) (i : Item), s.stripe? q = some x ∧ x.closed = true ∧ x.writer = 1 ∧ x.items = [i] ∧
    i.form.kind = 1 ∧ i.src = none ∧ i.slot = none ∧ i.stale = false ∧ (s.page i.form.page).st = .cleaning) ∧
  (∃ (s : State) (q c : Nat) (st : MediaStatus) (x : Stripe), s.stripe? q = some x ∧ x.closed = true ∧ st ≠ .ok ∧ c ∈
    x.members ∧ c < 16 ∧ s.stripeSet x < 32 ∧ 0 < s.fget (Fld.LOG_DIE_STS.SPARES (32 * c + s.stripeSet x)) ∧ s.fget
    (Fld.LOG_DIE_STS.SPARES (32 * c + s.stripeSet x)) ≤ (Fld.LOG_DIE_STS.SPARES (32 * c + s.stripeSet x)).max) ∧
  (∃ (r : ReadResult), r ≠ .decoded 0) ∧
  (∃ (s : State) (b k : Nat) (i : Item), s.log.fold = [(b, i)] ∧ s.groupWhole i.key = true ∧ i.src = some k ∧ k ∈ s.refs) :=
  ⟨⟨W, by decide +kernel⟩,
   ⟨{ W with flt := { warmAtT := true } }, by decide +kernel⟩,
   ⟨{ W with dev := .off }, by decide +kernel⟩,
   ⟨({ W with rill := { pendW := some (1, 2) } }), 0, 1, 2, by decide +kernel⟩,
   ⟨({ W with rill := { sel := [itemW none none] }, log := { stripes := [stripeW 1 false []] } }), 5, 15, 320, (itemW none none),
    _, by (repeat' apply And.intro) <;> first | decide +kernel | rfl⟩,
   ⟨{ W with log := { stripes := [stripeW 1 true []] } }, 9, (stripeW 1 true []), by decide +kernel⟩,
   ⟨({ W with pages := pageW .cleaning 0 0, log := { stripes := [stripeW 1 true [itemW none none]] } }), 9, (stripeW 1 true
    [itemW none none]), (itemW none none), by decide +kernel⟩,
   ⟨(sets [(Fld.LOG_DIE_STS.SPARES 480, 255)] { W with log := { stripes := [stripeW 1 true []] } }), 9, 15, .timeout, (stripeW 1
    true []), by decide +kernel⟩,
   ⟨.failed, by decide +kernel⟩,
   ⟨{ W with pages := pageW .clean 77 0, log := { fold := [(3, itemW (some 77) none)] }, stripesOn := [(9, ⟨4, 0, 0, 0, 0, List.range 16, []⟩)] },
    3, 77, (itemW (some 77) none), by decide +kernel⟩⟩

theorem witness_ErasesDiesAndChannels :
  (∃ (s : State) (b : Nat), s.log.erasing = some b) ∧
  (∃ (s : State) (dt n : Nat) (all : List Nat), s.isOpen = true ∧ s.log.scrubAt + s.fget Fld.LOG_CFG.SCRUB_DAYS * dayNs ≤
    s.now + dt ∧ all = s.refs.dedup ∧ n = 65536 - (s.pageOps - s.log.scrubOn.length)) ∧
  (∃ (s : State) (ds : Nat), ds < 512 ∧ s.dieIn ds = true) ∧
  (∃ (s : State) (c : Nat), s.fmWritable 0x140030 = true ∧ c < 16 ∧ s.channelMayLeave c = true ∧ s.fget Fld.JNL_STS.MODE ≠ 2 ∧
    s.flt.staging.length < 64) ∧
  (∃ (s : State) (c : Nat), s.fmWritable 0x140030 = true ∧ c < 16 ∧ s.chIn c = true ∧ s.channelMayLeave c = false) ∧
  (∃ (s : State) (c : Nat), s.fmWritable 0x140030 = true ∧ c < 16 ∧ s.chIn c = false ∧ s.fget Fld.LOG_CH_STS.OUT_OF_SERVICE <
    2 ^ 16) ∧
  (∃ (s : State) (c : Nat), c < 16 ∧ c ∈ s.log.verifying ∧ s.fget Fld.LOG_CH_STS.VERIFYING < 2 ^ 16 ∧ (s.fget
    Fld.LOG_CH_STS.VERIFYING).testBit c = true) :=
  ⟨⟨({ W with log := { erasing := some 3 } }), 3, by decide +kernel⟩,
   ⟨W, (W.fget Fld.LOG_CFG.SCRUB_DAYS * dayNs), (65536 - (W.pageOps - W.log.scrubOn.length)), [], by decide +kernel⟩,
   ⟨(sets [(Fld.LOG_DIE_STS.STATE 511, 1)] W), 511, by decide +kernel⟩,
   ⟨W, 15, by decide +kernel⟩,
   ⟨(sets [(Fld.LOG_CH_STS.OUT_OF_SERVICE, 1)] W), 15, by decide +kernel⟩,
   ⟨(sets [(Fld.LOG_CH_STS.OUT_OF_SERVICE, 32768)] W), 15, by decide +kernel⟩,
   ⟨(sets [(Fld.LOG_CH_STS.VERIFYING, 32768)] { W with log := { verifying := [15] } }), 15, by decide +kernel⟩⟩

theorem witness_SpillTriggersAndCuts :
  (∃ (s : State) (dt b : Nat), s.isOpen = true ∧ s.col.window = none ∧ 0 < s.guardNow ∧ b = (s.elapse dt).curBeat) ∧
  (∃ (s : State), ((s.isCut = true ∨ s.dev = .basin))) ∧
  (∃ (s : State) (dt b : Nat), s.isOpen = true ∧ s.col.window = none ∧ 0 < s.guardNow ∧ b = (s.elapse dt).curBeat) ∧
  (∃ (s : State), s.on Fld.PSQ_STS.INPUT_GOOD = false) ∧
  (∃ (s : State) (b m : Nat), s.isOpen = true ∧ s.col.ckpts.filter (fun e => decide (e.1 ≤ s.curBeat)) = [(b, m)]) ∧
  (∃ (s : State) (w : PlungeWin), s.col.window = some w ∧ w.cut = false ∧ w.tw ≤ s.curBeat ∧ w.ownSpill = none ∧ s.col.ownCut
    = none ∧ s.isOpen = true) ∧
  (∃ (s : State) (w : PlungeWin) (b : Nat), s.col.window = some w ∧ w.cut = false ∧ w.tw ≤ s.curBeat ∧ w.ownSpill = some b ∧ b
    ≤ s.curBeat ∧ ((s.isOpen = true ∨ s.dev = .training))) :=
  ⟨⟨W, 0, 0, by decide +kernel⟩,
   ⟨({ W with dev := .sealed }), by decide +kernel⟩,
   ⟨W, 0, 0, by decide +kernel⟩,
   ⟨W, by decide +kernel⟩,
   ⟨({ W with col := { ckpts := [(0, 3)] } }), 0, 3, by decide +kernel⟩,
   ⟨({ W with col := { window := some ⟨0, 0, false, 0, false, none, 0, false⟩ } }), ⟨0, 0, false, 0, false, none, 0, false⟩, by
    decide +kernel⟩,
   ⟨({ W with col := { window := some ⟨0, 0, false, 0, false, some 0, 0, false⟩ } }), ⟨0, 0, false, 0, false, some 0, 0, false⟩,
    0, by decide +kernel⟩⟩

theorem witness_SpillStagesToTheSeal :
  (∃ (s : State), s.dev = .spilling) ∧
  (∃ (s : State), s.dev = .spilling) ∧
  (∃ (s : State), s.spill.abandoned = true) ∧
  (∃ (s : State), s.dev = .spilling ∧ s.spill.abandoned = false ∧ s.stage = 4 ∧ s.log.stripes = [] ∧ ((s.spill.shortfall =
    true ∨ ∀ e ∈ s.spill.order, s.stillOwed e = false))) ∧
  (∃ (s : State), s.dev = .spilling ∧ s.spill.abandoned = false ∧ s.stage = 5) ∧
  (∃ (s : State) (r : Seal), s.dev = .spilling ∧ s.spill.abandoned = false ∧ s.stage = 6 ∧ s.spill.record = some r) ∧
  (∃ (s : State), s.dev = .sealed ∧ s.on Fld.PSQ_STS.INPUT_GOOD = false ∧ s.spill.railOff = false ∧ s.spill.sealTime + 1000000
    * s.fget Fld.SPL_CFG.SEAL_HOLD_MS ≤ s.now) :=
  ⟨⟨(sets [(Fld.SPL_STATE.STAGE, 1)] { W with dev := .spilling }), by decide +kernel⟩,
   ⟨(sets [(Fld.SPL_STATE.STAGE, 1)] { W with dev := .spilling }), by decide +kernel⟩,
   ⟨{ W with spill := { abandoned := true } }, by decide +kernel⟩,
   ⟨(sets [(Fld.SPL_STATE.STAGE, 4)] { W with dev := .spilling, spill := { shortfall := true } }), by decide +kernel⟩,
   ⟨(sets [(Fld.SPL_STATE.STAGE, 5)] { W with dev := .spilling }), by decide +kernel⟩,
   ⟨(sets [(Fld.SPL_STATE.STAGE, 6)] { W with dev := .spilling, spill := { record := some sealW } }), sealW, by decide +kernel⟩,
   ⟨({ W with dev := .sealed, now := 10 ^ 9 }), by decide +kernel⟩⟩

theorem witness_FramesTakeEffect :
  (∃ (s : State) (ln : Nat) (f : ElyFrame) (rd : LineRead) (a : Nat × Option Nat × Nat), FrameRuns s f ∧ f.opcode = 1 ∧ s.dev
    = .spilling ∧ s.spill.abandoned = false ∧ s.stage = 4 ∧ s.spill.shortfall = false ∧ f.slot = none ∧ s.spill.asked.find?
    (fun a => a.1 == f.page && a.2.1 == f.slot && clusterTarget a.2.2 == f.target) = some a ∧ s.stillOwed ((s.page f.page).ld,
    f.page, none) = true ∧ s.decodeRead (f.page * 64 + ln % 64) rd = .clean) ∧
  (∃ (s : State) (ln i : Nat) (f : ElyFrame) (rd : LineRead) (a : Nat × Option Nat × Nat) (e : Eddy), FrameRuns s f ∧ f.opcode
    = 1 ∧ s.dev = .spilling ∧ s.spill.abandoned = false ∧ s.stage = 4 ∧ s.spill.shortfall = false ∧ f.slot = some i ∧
    s.spill.asked.find? (fun a => a.1 == f.page && a.2.1 == f.slot && clusterTarget a.2.2 == f.target) = some a ∧ e = tabGet
    Eddy.none i s.eddy ∧ s.eddy.any (fun x => x.1 == i) = true ∧ s.decodeRead ((s.eddyBase + i * 4096) / 64 + ln % 64) rd =
    .clean ∧ s.spill.void.any (fun x => x.1 == f.page && x.2.1 == f.slot) = false) ∧
  (∃ (s v : State) (dt ln : Nat) (f : ElyFrame) (rd : LineRead) (a : Nat × Option Nat × Nat), FrameRuns s f ∧ f.opcode = 1 ∧
    s.dev = .spilling ∧ s.spill.abandoned = false ∧ s.stage = 4 ∧ s.spill.shortfall = false ∧ f.slot = none ∧
    s.spill.asked.find? (fun a => a.1 == f.page && a.2.1 == f.slot && clusterTarget a.2.2 == f.target) = some a ∧ s.stillOwed
    ((s.page f.page).ld, f.page, none) = true ∧ (s.elapse dt).decodeLine (f.page * 64 + ln % 64) rd = (v, .uncorrectable)) ∧
  (∃ (s : State) (f : ElyFrame) (body : BitVec 224) (crc : BitVec 32) (x : Stripe), f = .join body crc ∧ FrameRuns s f ∧
    ((f.opcode = 2 ∨ f.opcode = 3)) ∧ s.dev = .spilling ∧ s.spill.abandoned = false ∧ s.stripeNamed f = some x ∧ x.closed =
    false ∧ s.stripe? x.seq = some x ∧ s.cis.rehLoad = false) ∧
  (∃ (s : State) (f : ElyFrame) (body : BitVec 224) (crc : BitVec 32), f = .join body crc ∧ FrameRuns s f ∧ f.opcode = 4) ∧
  (∃ (s : State) (f : ElyFrame), FrameRuns s f ∧ f.opcode = 5 ∧ s.seqSt = 2) :=
  ⟨⟨(sets [(Fld.SPL_STATE.STAGE, 4)]
    { W with dev := .spilling, spill := { asked := [(5, none, 15)] }, pages := pageW .dirty 0 0 }), 63, (ElyFrame.make 1 0
    false 0 1 0x20F (pageArgs 5 none 0 0)), ⟨[], []⟩, (5, none, 15), (by unfold FrameRuns FramePasses; decide +kernel)⟩,
   ⟨(sets [(Fld.SPL_STATE.STAGE, 4)]
    { W with dev := .spilling, spill := { asked := [(5, some 2, 15)] }, eddy := [(2, ⟨5, 31, 0, [1], ⟨[], []⟩, true, true, false⟩)] }),
    63, 2, (ElyFrame.make 1 0 false 0 1 0x20F (pageArgs 5 (some 2) 0 0)), ⟨[], []⟩, (5, some 2, 15), ⟨5, 31, 0, [1], ⟨[], []⟩,
    true, true, false⟩, (by unfold FrameRuns FramePasses; decide +kernel)⟩,
   ⟨(sets [(Fld.SPL_STATE.STAGE, 4)]
    { W with dev := .spilling, spill := { asked := [(5, none, 15)] }, pages := pageW .dirty 0 0 }), ((sets
    [(Fld.SPL_STATE.STAGE, 4)]
    { W with dev := .spilling, spill := { asked := [(5, none, 15)] }, pages := pageW .dirty 0 0 }).decodeLine 320 ⟨(List.range
    12).map (fun i => (i, 1)), []⟩).1, 0, 0, (ElyFrame.make 1 0 false 0 1 0x20F (pageArgs 5 none 0 0)), ⟨(List.range 12).map
    (fun i => (i, 1)), []⟩, (5, none, 15), (by unfold FrameRuns FramePasses; decide +kernel)⟩,
   ⟨(sets [(Fld.SPL_STATE.STAGE, 4)] { W with dev := .spilling, log := { stripes := [stripeW 2 false []] } }), (ElyFrame.make 2 0
    false 0 1 480 (programArgs 0 0 0)), (elyBody (ElyFrame.make 2 0 false 0 1 480 (programArgs 0 0 0))), (elyCrc
    (ElyFrame.make 2 0 false 0 1 480 (programArgs 0 0 0))), (stripeW 2 false []),
    (by unfold FrameRuns FramePasses; decide +kernel)⟩,
   ⟨(sets [(Fld.SPL_STATE.STAGE, 4)] { W with dev := .spilling }), (ElyFrame.make 4 0 false 0 1 0x300 (journalArgs 5)), (elyBody
    (ElyFrame.make 4 0 false 0 1 0x300 (journalArgs 5))), (elyCrc (ElyFrame.make 4 0 false 0 1 0x300 (journalArgs 5))),
    (by unfold FrameRuns FramePasses; decide +kernel)⟩,
   ⟨(sets [(Fld.PSQ_STS.STATE, 2)] W), (ElyFrame.make 5 0 false 0 1 0x301 ([])),
    (by unfold FrameRuns FramePasses; decide +kernel)⟩⟩

theorem witness_ElytraFenceAndRejoin :
  (∃ (s : State) (f : ElyFrame), f.crcOk = true ∧ f.opcode = 6 ∧ (s.ely f.src).fenced = false) ∧
  (∃ (s : State) (dt x b : Nat) (h : ElyFrame × Nat × LineRead) (r : List (ElyFrame × Nat × LineRead)), (s.target
    x).spill.gapAt = some b ∧ b + 1 ≤ (s.elapse dt).curBeat ∧ (s.target x).spill.hold = h :: r ∧ (s.target x).shadow.gapAt =
    none) ∧
  (∃ (s : State), s.spill.checkDue = 2) ∧
  (∃ (s : State) (e : Nat), e < 2 ∧ s.spill.checkDue ≠ 0 ∧ s.elyIn (1 - e) = true) ∧
  (∃ (s : State), s.spill.checkDue = 1 ∧ s.spill.twice = false ∧ s.spill.suspects.any s.spill.rewritten.contains = false) ∧
  (∃ (s : State), s.spill.checkDue = 1 ∧ s.preferred < 2 ∧ s.elyIn s.preferred = true ∧ ((s.spill.twice = true ∨
    s.spill.suspects.any s.spill.rewritten.contains = true))) ∧
  (∃ (s : State), s.spill.checkDue ≠ 0 ∧ s.preferred < 2 ∧ s.elyIn s.preferred = true) ∧
  (∃ (s : State) (dt : Nat), s.isOpen = true ∧ s.elyIn 0 = true ∧ s.elyIn 1 = true ∧ s.stage = 0 ∧ s.spill.shadowAt + s.fget
    Fld.ELY_CFG.SHADOW_INTERVAL ≤ (s.elapse dt).curBeat) ∧
  (∃ (s : State) (dt e : Nat), e < 2 ∧ s.elyIn e = true ∧ s.elyIn (1 - e) = true ∧ (s.ely e).fencing = false ∧ (s.ely (1 -
    e)).fencing = false ∧ (s.ely e).lastBeat + 2 ≤ (s.elapse dt).curBeat) ∧
  (∃ (s : State) (dt e : Nat), e < 2 ∧ s.elyIn e = true ∧ s.elyIn (1 - e) = true ∧ (s.ely e).fencing = false ∧ (s.ely (1 -
    e)).fencing = true ∧ (s.ely e).lastBeat + 2 ≤ (s.elapse dt).curBeat) ∧
  (∃ (s : State) (e : Nat), e < 2 ∧ (s.ely e).fencing = true ∧ s.elyIn (1 - e) = true) ∧
  (∃ (s : State) (e : Nat), e < 2 ∧ s.dev = .serving ∧ s.elyRole e = 3) ∧
  (∃ (s : State) (e : Nat), e < 2 ∧ s.dev = .serving ∧ s.elyIn e = true ∧ s.elyIn (1 - e) = true) :=
  ⟨⟨W, (ElyFrame.make 6 0 false 0 1 0xFFFF []), by decide +kernel⟩,
   ⟨{ W with targets := [(0x20F, { spill := { gapAt := some 0, hold := [((ElyFrame.make 1 0 false 0 2 0x20F []), 0, ⟨[], []⟩)] } })] },
    8192, 0x20F, 0, ((ElyFrame.make 1 0 false 0 2 0x20F []), 0, ⟨[], []⟩), [], by decide +kernel⟩,
   ⟨({ W with spill := { checkDue := 2 } }), by decide +kernel⟩,
   ⟨({ W with spill := { checkDue := 1 } }), 1, by decide +kernel⟩,
   ⟨({ W with spill := { checkDue := 1 } }), by decide +kernel⟩,
   ⟨{ W with spill := { checkDue := 1, twice := true } }, by decide +kernel⟩,
   ⟨{ W with spill := { checkDue := 1 } }, by decide +kernel⟩,
   ⟨W, (16 * 8192), by decide +kernel⟩,
   ⟨W, 16384, 1, by decide +kernel⟩,
   ⟨{ W with elys := [(0, { fencing := true })] }, 16384, 1, by decide +kernel⟩,
   ⟨{ W with elys := [(1, { fencing := true })] }, 1, by decide +kernel⟩,
   ⟨(sets [(Fld.ELY_STS.ROLE 1, 3)] W), 1, by decide +kernel⟩,
   ⟨W, 1, by decide +kernel⟩⟩

theorem witness_PortSequence :
  (∃ (s : State) (dt : Nat), s.dev ≠ .off ∧ s.flm.readTill ≤ s.now + dt ∧ ((s.flmSt = 0 ∨ s.flmSt = 6))) ∧
  (∃ (s : State) (dt : Nat), s.dev ≠ .off ∧ s.flm.readTill ≤ s.now + dt ∧ s.flmSt = 1) ∧
  (∃ (s : State) (dt : Nat), s.dev ≠ .off ∧ s.flm.readTill ≤ s.now + dt ∧ s.flmSt = 2) ∧
  (∃ (s : State) (dt : Nat), s.dev ≠ .off ∧ s.flm.readTill ≤ s.now + dt ∧ s.flmSt = 3) ∧
  (∃ (s : State) (dt : Nat) (c : Instr) (v : BitVec 32) (a : Word), s.dev ≠ .off ∧ s.flmSt ≠ 5 ∧ (s.flm.readTill ≤ s.now + dt
    ∧ ((c = .flmKeyWrite dt v ∧ v ≠ 0xF1A5 ∧ v ≠ 0x0E5A) ∨ (c = .flmCmdWrite dt v ∧ s.flmSt ≠ 2) ∨ (c = .flmAddrWrite dt a ∧
    s.flmSt ≠ 3)) ∨ (c = .flmSequenceTimeout dt ∧ 1 ≤ s.flmSt ∧ s.flmSt ≤ 4 ∧ s.flm.keyAt + 100000000 ≤ s.now + dt))) ∧
  (∃ (s : State) (dt : Nat), s.dev ≠ .off ∧ ((s.flmSt = 5 ∨ s.now + dt < s.flm.readTill))) ∧
  (∃ (s : State) (dt off : Nat), s.dev ≠ .off ∧ off < 0x5000 ∧ s.now + dt < s.flm.readTill) ∧
  (∃ (s : State) (dt off : Nat), s.dev ≠ .off ∧ s.flm.readTill ≤ s.now + dt ∧ off + 8 ≤ 0x5000) :=
  ⟨⟨W, 0, by decide +kernel⟩,
   ⟨(portW 1 0), 0, by decide +kernel⟩,
   ⟨(portW 2 0), 0, by decide +kernel⟩,
   ⟨(portW 3 0), 0, by decide +kernel⟩,
   ⟨W, 0, (.flmKeyWrite 0 5), 5, 0, by decide +kernel⟩,
   ⟨(sets [(Fld.FLM_STS.STATE, 5)] W), 0, by decide +kernel⟩,
   ⟨{ W with flm := { readTill := 1 } }, 0, 0x4FFF, by decide +kernel⟩,
   ⟨W, 0, 0, by decide +kernel⟩⟩

theorem witness_PortReads :
  (∃ (s : State) (dt ds block page plane word k : Nat) (p : RawPage), FlmReady s dt 1 ∧ FlmAt s ds block page plane word ∧
    s.flmDie ds = true ∧ s.flmPageOk block page (s.on Fld.FLM_CMD.TLC) = true ∧ s.readProt ds block = false ∧ s.log.dieOps.all
    (fun e => e.1 != ds) = true ∧ s.holdsDie ds = false ∧ s.on Fld.FLM_CMD.ECC = true ∧ s.wordArea + 64 ≤ 0x5000 ∧
    s.flm.raw.find? (fun e => e.1 == planeKey ds block page plane) = some (k, p) ∧ s.flm.words.all (fun e => e.1 / 16 !=
    planeKey ds block page plane) = true) ∧
  (∃ (s : State) (dt ds block page plane word : Nat), FlmReady s dt 1 ∧ FlmAt s ds block page plane word ∧ s.flmDie ds = true
    ∧ s.flmPageOk block page (s.on Fld.FLM_CMD.TLC) = true ∧ s.readProt ds block = false) ∧
  (∃ (s : State) (ds block page plane word : Nat), FlmAt s ds block page plane word ∧ s.flmDie ds = true ∧ s.log.dieOps.all
    (fun e => e.1 != ds) = true ∧ s.holdsDie ds = false) ∧
  (∃ (s : State) (dt ds block page plane word : Nat), FlmReady s dt 4 ∧ FlmAt s ds block page plane word ∧ s.flmDie ds = true) ∧
  (∃ (s : State) (dt ds block page plane word k : Nat) (w : BitVec 32), FlmReady s dt 5 ∧ FlmAt s ds block page plane word ∧
    s.flmDie ds = true ∧ s.flmPageOk block page false = true ∧ s.readProt ds block = false ∧ s.log.dieOps.all (fun e => e.1 !=
    ds) = true ∧ s.holdsDie ds = false ∧ s.flm.words.find? (fun e => e.1 == wordKey (planeKey ds block page plane) word) =
    some (k, w)) ∧
  (∃ (s : State) (dt op : Nat), FlmReady s dt op ∧ op < 256 ∧ op ∉ [1, 2, 3, 4, 5, 0x10, 0x11, 0x20, 0x30, 0x31, 0x32, 0x33,
    0x40]) :=
  ⟨⟨{ portW 4 1 with flm := { raw := [((planeKey 96 0 511 3), ⟨[(0, 1)], 1, 1, 1⟩)] } }, 0, 96, 0, 511, 3, 15, (planeKey 96 0 511
    3), ⟨[(0, 1)], 1, 1, 1⟩, by unfold FlmReady FlmAt; decide +kernel⟩,
   ⟨(portW 4 1), 0, 96, 0, 511, 3, 15, by unfold FlmReady FlmAt; decide +kernel⟩,
   ⟨(portW 4 2), 96, 0, 511, 3, 15, by unfold FlmAt; decide +kernel⟩,
   ⟨(portW 4 4), 0, 96, 0, 511, 3, 15, by unfold FlmReady FlmAt; decide +kernel⟩,
   ⟨{ portW 4 5 with flm := { words := [(wordKey (planeKey 96 0 511 3) 15, 7)] } }, 0, 96, 0, 511, 3, 15, (wordKey (planeKey 96 0
    511 3) 15), 7, by unfold FlmReady FlmAt; decide +kernel⟩,
   ⟨(portW 4 255), 0, 255, by unfold FlmReady; decide +kernel⟩⟩

theorem witness_PortProgramsErasesAndProtection :
  (∃ (s : State) (ds block page plane word : Nat), FlmAt s ds block page plane word ∧ s.flmDie ds = true ∧ s.flmMayWrite ds
    block false = 0) ∧
  (∃ (s : State) (dt ds block page plane word k : Nat) (w : BitVec 32), FlmReady s dt 0x11 ∧ FlmAt s ds block page plane word
    ∧ s.flmDie ds = true ∧ s.flmPageOk block page false = true ∧ s.flmMayWrite ds block true = 0 ∧ s.flm.words.find? (fun e =>
    e.1 == wordKey (planeKey ds block page plane) word) = some (k, w)) ∧
  (∃ (s : State) (o : FlmOp), s.flm.op = some o ∧ s.flmSt = 5 ∧ s.flmIssued o = true ∧ ((o.opcode = 0x10 ∨ o.opcode = 0x20))) ∧
  (∃ (s : State) (o : FlmOp), s.flm.op = some o ∧ s.flmIssued o = false) ∧
  (∃ (s : State) (dt : Nat), FlmReady s dt 0x30) ∧
  (∃ (s : State) (dt : Nat), FlmReady s dt 0x31) ∧
  (∃ (s : State) (dt r : Nat) (v : Word), FlmReady s dt 0x32 ∧ s.fget Fld.FLM_ADDR.REGION = r ∧ r < 3 ∧ v.toNat < 4) ∧
  (∃ (s : State) (dt : Nat), FlmReady s dt 0x33) ∧
  (∃ (s : State) (dt t0 : Nat), s.flm.session = some t0 ∧ t0 + 60000000000 ≤ s.now + dt) ∧
  (∃ (s : State) (dt : Nat) (v : Word), FlmReady s dt 0x40 ∧ s.dev = .basin ∧ v.toNat % 4 ∈ s.boot.byPort) :=
  ⟨⟨(portW 4 16), 96, 0, 511, 3, 15, by unfold FlmAt; decide +kernel⟩,
   ⟨{ portW 4 17 with flm := { words := [(wordKey (planeKey 96 0 511 3) 15, 7)] } }, 0, 96, 0, 511, 3, 15, (wordKey (planeKey 96
    0 511 3) 15), 7, by unfold FlmReady FlmAt; decide +kernel⟩,
   ⟨{ portW 5 32 with flm := { op := some ⟨0x20, 96, 0, 0, ⟨[], 1, 1, 0⟩, true⟩ } }, ⟨0x20, 96, 0, 0, ⟨[], 1, 1, 0⟩, true⟩, by
    decide +kernel⟩,
   ⟨{ W with flm := { op := some ⟨3, 96, 0, 0, ⟨[], 0, 0, 0⟩, false⟩ }, log := { dieOps := [(96, ⟨true, 0, false, [5]⟩)] } }, ⟨3,
    96, 0, 0, ⟨[], 0, 0, 0⟩, false⟩, by decide +kernel⟩,
   ⟨(portW 4 48), 0, by unfold FlmReady; decide +kernel⟩,
   ⟨(portW 4 49), 0, by unfold FlmReady; decide +kernel⟩,
   ⟨(sets [(Fld.FLM_ADDR.REGION, 2)] (portW 4 0x32)), 0, 2, 3, by unfold FlmReady; decide +kernel⟩,
   ⟨(portW 4 51), 0, by unfold FlmReady; decide +kernel⟩,
   ⟨({ W with flm := { session := some 5 } }), 60000000005, 5, by decide +kernel⟩,
   ⟨{ portW 4 0x40 with dev := .basin, boot := { byPort := [3] } }, 0, 3, by unfold FlmReady; decide +kernel⟩⟩

theorem witness_SchedulerPicksAndRequestsReturn :
  (∃ (s : State) (ch : Nat) (x : Sub) (w : Bool) (q : DReq), s.pick ch x w = some q) ∧
  (∃ (s : State) (dt ch : Nat), ((s.fget (Fld.DRC_STS.STATE ch) ≠ 2 ∨ (s.elapse dt).reserved ch = true))) ∧
  (∃ (s v : State) (dt ch i : Nat) (e : List Nat) (rest : List (List Nat)), ch < 8 ∧ i < 2 ∧ s.fget (Fld.DRC_STS.STATE ch) = 2
    ∧ (s.elapse dt).reserved ch = false ∧ v = (s.elapse dt).refreshDue ch ∧ ((v.chan ch).sub i).again = e :: rest ∧
    v.rankReady ch (((v.chan ch).sub i).replay.getD 0) = true) ∧
  (∃ (s v m : State) (dt ch i : Nat) (q : DReq), ch < 8 ∧ i < 2 ∧ s.fget (Fld.DRC_STS.STATE ch) = 2 ∧ (s.elapse dt).reserved
    ch = false ∧ v = (s.elapse dt).refreshDue ch ∧ ((v.chan ch).sub i).again = [] ∧ m = v.moveWmb ch ∧ m.pick ch ((m.chan
    ch).sub i) (m.writeMode ch ((m.chan ch).sub i)) = some q) ∧
  (∃ (s : State) (ch i rid : Nat) (rd : LineRead) (q : DReq) (rest : List DReq) (r : Req), ((s.chan ch).sub i).flight = q ::
    rest ∧ s.decodeRead q.line rd = .clean ∧ q.kind = .read rid ∧ s.fab.reqs.find? (fun r => r.rid == rid && r.at_ == .dram) =
    some r) ∧
  (∃ (s : State) (ch i p : Nat) (w : Bool) (rd : LineRead) (q : DReq) (rest : List DReq), ((s.chan ch).sub i).flight = q ::
    rest ∧ q.kind = .page p w ∧ s.decodeRead q.line rd = .clean) ∧
  (∃ (s v : State) (dt line : Nat) (rd : LineRead), s.isOpen = true ∧ s.opFree = true ∧ s.chanStopped (s.lineChan line) =
    false ∧ line * 64 < s.installed ∧ (s.elapse dt).scrubTurn (s.lineChan line) line = some v ∧ s.decodeRead line rd = .clean) ∧
  (∃ (s : State) (dt line : Nat), ((s.isOpen = false ∨ s.opFree = false ∨ s.chanStopped (s.lineChan line) = true ∨ (s.elapse
    dt).scrubTurn (s.lineChan line) line = none))) ∧
  (∃ (s v : State) (dt line : Nat) (rd : LineRead) (l : List (Nat × Nat)), s.isOpen = true ∧ s.opFree = true ∧ s.chanStopped
    (s.lineChan line) = false ∧ line * 64 < s.installed ∧ (s.elapse dt).scrubTurn (s.lineChan line) line = some v ∧
    s.decodeRead line rd = .corrected l ∧ s.lineChan line < 8 ∧ (s.cellOf line).rank < 16) :=
  ⟨⟨W, 0, { queue := [⟨.read 4, 0, 0, 0, false⟩] }, true, ⟨.read 4, 0, 0, 0, false⟩, by decide +kernel⟩,
   ⟨W, 0, 0, by decide +kernel⟩,
   ⟨(sets [(Fld.DRC_STS.STATE 7, 2)]
    { W with colTime := 300, chans := [(7, { subs := [(1, { again := [[0]] })], lastRef := [(0, 1)] })] }), (((sets
    [(Fld.DRC_STS.STATE 7, 2)]
    { W with colTime := 300, chans := [(7, { subs := [(1, { again := [[0]] })], lastRef := [(0, 1)] })] }).elapse
    0).refreshDue 7), 0, 7, 1, [0], [], by decide +kernel⟩,
   ⟨(sets [(Fld.DRC_STS.STATE 7, 2)]
    { W with colTime := 300, chans := [(7, { subs := [(1, { queue := [⟨.read 4, 0, 0, 0, false⟩] })], lastRef := [(0, 1)] })] }),
    (((sets [(Fld.DRC_STS.STATE 7, 2)]
    { W with colTime := 300, chans := [(7, { subs := [(1, { queue := [⟨.read 4, 0, 0, 0, false⟩] })], lastRef := [(0, 1)] })] }).elapse
    0).refreshDue 7), ((((sets [(Fld.DRC_STS.STATE 7, 2)]
    { W with colTime := 300, chans := [(7, { subs := [(1, { queue := [⟨.read 4, 0, 0, 0, false⟩] })], lastRef := [(0, 1)] })] }).elapse
    0).refreshDue 7).moveWmb 7), 0, 7, 1, ⟨.read 4, 0, 0, 0, false⟩, by decide +kernel⟩,
   ⟨({ W with chans := [(7, { subs := [(1, { flight := [⟨.read 4, 0, 0, 0, false⟩] })] })], fab := { reqs := [reqW 4 .read .dram] } }),
    7, 1, 4, ⟨[], []⟩, ⟨.read 4, 0, 0, 0, false⟩, _, (reqW 4 .read .dram), by (repeat' apply And.intro) <;>
    first | decide +kernel | rfl⟩,
   ⟨{ W with chans := [(0, { subs := [(0, { flight := [⟨.page 0 true, 0, 0, 0, false⟩] })] })] }, 0, 0, 0, true, ⟨[], []⟩, ⟨.page
    0 true, 0, 0, 0, false⟩, [], by decide +kernel⟩,
   ⟨W, ((W.elapse 0).modChan 0 (fun k => { k with scrubAt := 0, scrubbed := [0] })), 0, 0, ⟨[], []⟩, by decide +kernel⟩,
   ⟨{ W with dev := .basin }, 0, 0, by decide +kernel⟩,
   ⟨W, ((W.elapse 0).modChan 0 (fun k => { k with scrubAt := 0, scrubbed := [0] })), 0, 0, ⟨[(0, 1)], []⟩, (match W.decodeRead 0
    ⟨[(0, 1)], []⟩ with | .corrected l => l | _ => []), by decide +kernel⟩⟩

theorem witness_RefreshTrackingAndRetrain :
  (∃ (s : State) (dt ch rank : Nat), ch < 8 ∧ s.fget (Fld.DRC_STS.STATE ch) = 2 ∧ (s.elapse dt).slotDue ch rank = true ∧
    tabGet 0 rank (s.chan ch).owes = 0 ∧ (s.chan ch).xsUntil ≤ s.now + dt ∧ (s.chan ch).subs.all (fun e => e.2.replay != some
    rank) = true) ∧
  (∃ (s : State) (dt ch rank : Nat), ch < 8 ∧ s.fget (Fld.DRC_STS.STATE ch) = 2 ∧ (s.elapse dt).slotDue ch rank = true ∧
    tabGet 0 rank (s.chan ch).owes < 2 ∧ (((s.chan ch).subs.any (fun e => e.2.replay == some rank) = true ∨ s.now + dt <
    (s.chan ch).xsUntil))) ∧
  (∃ (s : State) (dt ch rank : Nat), (s.elapse dt).slotDue ch rank = false) ∧
  (∃ (s : State) (dt ch rank : Nat), s.fget (Fld.DRC_STS.STATE ch) = 2 ∧ (s.elapse dt).slotDue ch rank = false ∧ (s.elapse
    dt).colTime + 8 < (s.elapse dt).nextSlot ch rank ∧ 4000 * s.fget (Fld.DRC_SCHED.PD_TIMER ch) ≤ (s.now + dt - tabGet 0 rank
    (s.chan ch).lastReq) * (s.chan ch).rate ∧ (s.chan ch).subs.all (fun e => e.2.queue.all (fun q => (s.cellOf q.line).rank !=
    rank)) = true) ∧
  (∃ (s : State) (dt ch : Nat), s.now + dt < (s.chan ch).rhAt + 8192 * (s.chan ch).trefi) ∧
  (∃ (s : State) (dt ch : Nat), (s.chan ch).rhAt + 8192 * (s.chan ch).trefi ≤ s.now + dt) ∧
  (∃ (s : State) (ch : Nat) (ok : Bool) (hot : Int), ch < 8 ∧ s.curBeat % 16 = 0 ∧ s.chanStopped ch = false ∧ ((ok = false ∨
    85 < hot)) ∧ s.on (Fld.DRC_STS.HOT ch) = false) ∧
  (∃ (s : State) (ch : Nat) (hot : Int), ch < 8 ∧ s.curBeat % 16 = 0 ∧ s.chanStopped ch = false ∧ hot ≤ 85 ∧ s.fget
    (Fld.DRC_STS.HOT ch) = 1 ∧ (s.chan ch).cool = 1) ∧
  (∃ (s : State) (ch : Nat), s.curBeat % 64 = 8 ∧ s.chanStopped ch = false) ∧
  (∃ (s : State) (ch rank l r v : Nat), ch < 8 ∧ rank < (s.chan ch).logRanks ∧ (s.chan ch).logRanks ≤ 16 ∧ s.curBeat % 16 ≠ 0
    ∧ s.curBeat % 64 ≠ 8 ∧ s.chanStopped ch = false ∧ s.eyeRank ch = some rank ∧ tabGet 0 rank (s.chan ch).eyes = 1023 ∧ l <
    256 ∧ r < 256 ∧ v < 256) ∧
  (∃ (s : State) (ch rank : Nat), ch < 8 ∧ rank < 16 ∧ s.fget (Fld.DRC_STS.RETRAINING ch) < 2 ^ 16 ∧ (s.fget
    (Fld.DRC_STS.RETRAINING ch)).testBit rank = true) ∧
  (∃ (s : State) (ch rank : Nat), (s.fget (Fld.DRC_STS.RETRAINING ch)).testBit rank = false) :=
  ⟨⟨(sets [(Fld.DRC_STS.STATE 7, 2)] { W with colTime := 300, chans := [(7, { })] }), 0, 7, 0, by decide +kernel⟩,
   ⟨(sets [(Fld.DRC_STS.STATE 7, 2)]
    { W with colTime := 300, chans := [(7, { subs := [(0, { replay := some 0 })], owes := [(0, 1)] })] }), 0, 7, 0, by
    decide +kernel⟩,
   ⟨W, 0, 0, 0, by decide +kernel⟩,
   ⟨(sets [(Fld.DRC_STS.STATE 7, 2)] { W with chans := [(7, { lastRef := [(0, 999999998401)] })] }), (10 ^ 12), 7, 0, by
    decide +kernel⟩,
   ⟨W, 0, 0, by decide +kernel⟩,
   ⟨W, 31948800, 0, by decide +kernel⟩,
   ⟨W, 7, true, 86, by decide +kernel⟩,
   ⟨(sets [(Fld.DRC_STS.STATE 7, 2), (Fld.DRC_STS.HOT 7, 1)] { W with chans := [(7, { cool := 1 })] }), 7, 85, by decide +kernel⟩,
   ⟨{ W with colTime := 8 * 8192 }, 0, by decide +kernel⟩,
   ⟨(sets [(Fld.DRC_STS.STATE 7, 2)]
    { W with colTime := 8192, chans := [(7, { eyes := [(0, 1023)], hostLine := [(0, 5, 0)] })] }), 7, 0, 255, 255, 255, by
    decide +kernel⟩,
   ⟨(sets [(Fld.DRC_STS.RETRAINING 7, 32768)] W), 7, 15, by decide +kernel⟩,
   ⟨W, 0, 0, by decide +kernel⟩⟩

theorem witness_AlertReplaysThenFreezes :
  (∃ (s : State) (ch i rank : Nat), ch < 8 ∧ i < 2 ∧ rank < 16 ∧ s.fget (Fld.DRC_STS.STATE ch) = 2 ∧ ((((s.chan ch).sub
    i).replay = none ∨ ((s.chan ch).sub i).tries < 2))) ∧
  (∃ (s : State) (ch i rank : Nat), ch < 8 ∧ i < 2 ∧ rank < 16 ∧ s.fget (Fld.DRC_STS.STATE ch) = 2 ∧ s.dev ≠ .spilling ∧
    ((s.chan ch).sub i).replay.isSome = true ∧ ((s.chan ch).sub i).tries = 2) ∧
  (∃ (s : State) (dt ch t0 : Nat), (s.chan ch).frozenAt = some t0 ∧ t0 + 2000000 ≤ s.now + dt ∧ ((∀ i x q, (i, x) ∈ (s.chan
    ch).subs → q ∈ x.queue → s.now + dt < max q.since t0 + 2000000 ∨ ∀ rid, q.kind ≠ .read rid))) ∧
  (∃ (s : State) (dt ch t0 rid i : Nat) (x : Sub) (q : DReq) (r : Req), (s.chan ch).frozenAt = some t0 ∧ t0 + 2000000 ≤ s.now
    + dt ∧ q.since ≤ t0 ∧ (s.chan ch).subs = [(i, x)] ∧ x.queue = [q] ∧ q.kind = .read rid ∧ s.fab.reqs.find? (fun r => r.rid
    == rid) = some r) ∧
  (∃ (s : State) (ch t0 p i : Nat) (x : Sub) (q : DReq), (i, x) ∈ (s.chan ch).subs ∧ q ∈ x.queue ∧ q.kind = .page p false ∧
    q.port = 2 ∧ max q.since t0 + 2000000 ≤ s.now) :=
  ⟨⟨(sets [(Fld.DRC_STS.STATE 7, 2)] { W with chans := [(7, { subs := [(1, { replay := some 15, tries := 1 })] })] }), 7, 1, 15,
    by decide +kernel⟩,
   ⟨(sets [(Fld.DRC_STS.STATE 7, 2)] { W with chans := [(7, { subs := [(1, { replay := some 15, tries := 2 })] })] }), 7, 1, 15,
    by decide +kernel⟩,
   ⟨{ W with chans := [(7, { frozenAt := some 5 })] }, 2000005, 7, 5, ⟨rfl, by decide, fun i x q h => nomatch (show (i, x) ∈ ([]
    : List (Nat × Sub)) from h)⟩⟩,
   ⟨{ W with chans := [(7, { frozenAt := some 5, subs := [(1, { queue := [⟨.read 4, 0, 0, 0, false⟩] })] })], fab := { reqs := [reqW 4 .read .dram] } },
    2000005, 7, 5, 4, 1, { queue := [⟨.read 4, 0, 0, 0, false⟩] }, ⟨.read 4, 0, 0, 0, false⟩, (reqW 4 .read .dram), by
    decide +kernel⟩,
   ⟨{ W with now := 2000000, chans := [(0, { subs := [(0, { queue := [⟨.page 0 false, 0, 0, 2, false⟩] })] })] }, 0, 0, 0, 0,
    { queue := [⟨.page 0 false, 0, 0, 2, false⟩] }, ⟨.page 0 false, 0, 0, 2, false⟩, by decide +kernel⟩⟩

theorem witness_WriteIsAcceptedAndCompleted :
  ∃ (s : State) (dt port ldId hpa n a : Nat) (mask : ByteMask), PassesAtOnce s port ldId hpa n a ∧ (((s.page (a / 4096)).st =
    .dirty ∨ (s.page (a / 4096)).st = .clean ∧ s.mustHold n 1 (some (a / 4096)) = false ∧ s.heldAhead n (a / 4096) (s.now + dt
    + 1) s.fab.nextRid = false)) ∧ s.owedPage (a / 4096) = false ∧ ((s.inWmb (a / 64) = true ∨ mask = BitVec.allOnes 64 ∧
    s.wmbRoom (a / 64) = true)) :=
  ⟨(sets [(Fld.FAB_PORT_STS.LINK_UP 1, 1)] { W with lds := ldsW .serving, pages := pageW .dirty 0 0 }), 0, 1, 3, 20481, 31,
    20480, (BitVec.allOnes 64), by unfold PassesAtOnce; decide +kernel⟩

theorem witness_ReadsAndOtherRequests :
  (∃ (s : State) (port ldId hpa n a : Nat), PassesAtOnce s port ldId hpa n a ∧ (((s.page (a / 4096)).st = .dirty ∨ (s.page (a
    / 4096)).st = .clean)) ∧ s.inWmb (a / 64) = true) ∧
  (∃ (s : State) (port ldId hpa n a : Nat), PassesAtOnce s port ldId hpa n a ∧ (((s.page (a / 4096)).st = .dirty ∨ (s.page (a
    / 4096)).st = .clean)) ∧ s.inWmb (a / 64) = false) ∧
  (∃ (s : State) (port ldId : Nat), port < 2 ∧ s.on (Fld.FAB_PORT_STS.LINK_UP port) = true ∧ s.isOpen = true ∧ s.ldAt port
    ldId = none ∧ s.trkFree port = true ∧ ((∀ q ∈ s.fab.reqs, q.rid < s.fab.nextRid ∧ q.at_ ≠ .ingress))) ∧
  (∃ (s : State) (port : Nat), s.on (Fld.FAB_PORT_STS.LINK_UP port) = true ∧ s.sluiceOpen = true) ∧
  (∃ (port : Nat), port < 2) ∧
  (∃ (s : State) (port : Nat) (r : Req), s.trkFree port = true ∧ s.sluiceOpen = true ∧ s.fab.reqs.find? (fun r => r.port ==
    port && r.at_ == .ingress && (r.ld == noLd || s.capFree r.ld)) = some r) ∧
  (∃ (s : State) (r : Req), r ∈ s.fab.reqs ∧ r.at_ = .ingress ∧ r.ld < 32 ∧ s.capFree r.ld = false) :=
  ⟨⟨(sets [(Fld.FAB_PORT_STS.LINK_UP 1, 1)]
    { W with lds := ldsW .serving, pages := pageW .dirty 0 0, chans := [(0, { wmb := [(320, 0, 1, false)] })] }), 1, 3, 20481,
    31, 20480, by unfold PassesAtOnce; decide +kernel⟩,
   ⟨(sets [(Fld.FAB_PORT_STS.LINK_UP 1, 1)] { W with lds := ldsW .refilling, pages := pageW .clean 0 0 }), 1, 3, 20481, 31,
    20480, by unfold PassesAtOnce; decide +kernel⟩,
   ⟨(sets [(Fld.FAB_PORT_STS.LINK_UP 1, 1)] { W with lds := ldsW .serving }), 1, 15, by decide +kernel⟩,
   ⟨(sets [(Fld.FAB_PORT_STS.LINK_UP 1, 1)] { W with lds := ldsW .serving }), 1, by decide +kernel⟩,
   ⟨1, by decide +kernel⟩,
   ⟨{ W with fab := { reqs := [reqW 4 .read .ingress], nextRid := 5 } }, 1, (reqW 4 .read .ingress), by decide +kernel⟩,
   ⟨(sets [(Fld.SLU_TRK_CFG.LD_CAP, 0)] { W with fab := { reqs := [reqW 4 .read .ingress], nextRid := 5 } }), (reqW 4 .read
    .ingress), by decide +kernel⟩⟩

theorem witness_HeldWritesFlushAndQuiesceGoOn :
  (∃ (s : State) (rid : Nat) (r : Req) (rd : LineRead), s.fab.reqs.find? (fun r => r.rid == rid && r.at_ == .merge) = some r ∧
    s.decodeRead (r.dpa / 64) rd = .clean ∧ r.port < 2 ∧ r.poison = false ∧ (s.page (r.dpa / 4096)).st ∉ [.poisoned,
    .unfilled, .drawing] ∧ s.held r = false ∧ s.owedPage (r.dpa / 4096) = false) ∧
  (∃ (s : State) (dt rid t0 : Nat) (r : Req), s.fab.reqs.find? (fun r => r.rid == rid) = some r ∧ r.at_ = .weir t0 ∧ r.ld < 32
    ∧ t0 ≠ 0 ∧ t0 + 1000 * s.fget Fld.WEIR_CFG.WAIT_US ≤ s.now + dt + 1 ∧ 1 ≤ s.poolFree ∧ s.deficit = false) ∧
  (∃ (s : State) (dt rid t0 : Nat) (r : Req), s.fab.reqs.find? (fun r => r.rid == rid) = some r ∧ r.at_ = .weir t0 ∧ r.ld < 32
    ∧ t0 ≠ 0 ∧ t0 + 1000 * s.fget Fld.WEIR_CFG.WAIT_US ≤ s.now + dt + 1 ∧ ((s.poolFree = 0 ∨ s.deficit = true))) ∧
  (∃ (s : State) (dt rid t0 : Nat) (r : Req), s.fab.reqs.find? (fun r => r.rid == rid) = some r ∧ r.at_ = .slot t0 ∧ t0 ≠ 0 ∧
    t0 + 1000 * s.fget Fld.WEIR_CFG.WAIT_US ≤ s.now + dt + 1) ∧
  (∃ (s : State) (p i : Nat) (e : Eddy), s.forkSlot p = some i ∧ tabGet Eddy.none i s.eddy = e ∧ e.page = p ∧ s.forkCuts p i ≠
    [] ∧ (s.page p).st ≠ .poisoned ∧ s.linesStopped (p * 64) = false ∧ s.linesStopped (s.slotLine i) = false ∧
    s.fab.reqs.find? (fun r => r.dpa / 4096 == p && r.at_ == .fork) = none) ∧
  (∃ (s : State) (p i : Nat), s.forkSlot p = some i ∧ ((s.linesStopped (p * 64) = true ∨ s.linesStopped (s.slotLine i) =
    true))) ∧
  (∃ (s : State) (p : Nat), s.on (Fld.FAB_PORT_STS.LINK_UP p) = true) ∧
  (∃ (s : State) (p : Nat), p ∈ s.fab.gpf) ∧
  (∃ (s : State) (dt n t0 : Nat), (s.ld n).quiesce = some t0 ∧ t0 + 1000 * s.fget Fld.WEIR_CFG.WAIT_US ≤ s.now + dt ∧
    (s.fab.reqs.map (·.rid)).Nodup) :=
  ⟨⟨{ W with lds := ldsW .serving, pages := pageW .dirty 0 0, fab := { reqs := [reqW 4 .write .merge], nextRid := 5 } }, 4, (reqW
    4 .write .merge), ⟨[], []⟩, by decide +kernel⟩,
   ⟨(sets [(Fld.WEIR_STS.WEIR_PAGES, 100)]
    { W with lds := ldsW .serving, fab := { reqs := [reqW 4 .write (.weir 1)], nextRid := 5 } }), 500000, 4, 1, (reqW 4 .write
    (.weir 1)), by decide +kernel⟩,
   ⟨(sets [] { W with lds := ldsW .serving, fab := { reqs := [reqW 4 .write (.weir 1)], nextRid := 5 } }), 500000, 4, 1, (reqW 4
    .write (.weir 1)), by decide +kernel⟩,
   ⟨(sets [] { W with lds := ldsW .serving, fab := { reqs := [reqW 4 .write (.slot 1)], nextRid := 5 } }), 500000, 4, 1, (reqW 4
    .write (.slot 1)), by decide +kernel⟩,
   ⟨({ W with lds := [(31, { ldW .serving with ckpts := [ckptW] })], eddy := [(2, ⟨5, 31, 0, [1], ⟨[], []⟩, false, false, false⟩)] }),
    5, 2, ⟨5, 31, 0, [1], ⟨[], []⟩, false, false, false⟩, by decide +kernel⟩,
   ⟨(sets [(Fld.DRC_STS.STATE 0, 3)] { W with eddy := [(2, ⟨5, 31, 0, [1], ⟨[], []⟩, false, false, false⟩)] }), 5, 2, by
    decide +kernel⟩,
   ⟨(sets [(Fld.FAB_PORT_STS.LINK_UP 1, 1)] { W with dev := .serving }), 1, by decide +kernel⟩,
   ⟨({ W with fab := { gpf := [1] } }), 1, by decide +kernel⟩,
   ⟨({ W with lds := [(31, { ldW .serving with quiesce := some 5 })], fab := { reqs := [reqW 4 .read .dram, reqW 5 .read .dram], nextRid := 6 } }),
    500005, 31, 5, by decide +kernel⟩⟩

theorem witness_DrawsRestorePages :
  (∃ (s : State) (p : Nat) (d : Draw), s.drawOf p = some d ∧ d.step = .reading ∧ 0 < s.fget Fld.LOG_CFG.RR_RELOC) ∧
  (∃ (s : State) (p : Nat) (d : Draw), s.drawOf p = some d ∧ d.step = .reading) ∧
  (∃ (s : State) (p : Nat) (d : Draw), s.drawOf p = some d ∧ d.step = .reading) ∧
  (∃ (s : State) (p : Nat) (d : Draw), s.drawOf p = some d ∧ d.step = .zero ∧ (s.page p).len = 0 ∧ s.linesStopped (p * 64) =
    false) ∧
  (∃ (s : State) (p : Nat) (d : Draw), s.drawOf p = some d ∧ d.step = .restoring ∧ d.refill = false ∧ s.linesStopped (p * 64)
    = false ∧ s.formValid p (s.page p) = true ∧ (s.page p).len ≠ 0 ∧ tabSorted (s.plain (s.formAt (s.page p).loc)).bytes =
    true ∧ ((∀ e ∈ (s.plain (s.formAt (s.page p).loc)).bytes, e.1 < 4096))) ∧
  (∃ (s : State) (p : Nat) (d : Draw), s.drawOf p = some d ∧ d.step = .restoring ∧ d.refill = true ∧ s.linesStopped (p * 64) =
    false ∧ s.formValid p (s.page p) = true ∧ (s.page p).len ≠ 0 ∧ tabSorted (s.plain (s.formAt (s.page p).loc)).bytes = true
    ∧ ((∀ e ∈ (s.plain (s.formAt (s.page p).loc)).bytes, e.1 < 4096))) ∧
  (∃ (s : State) (p : Nat) (d : Draw), s.drawOf p = some d ∧ d.step = .rebuild ∧ s.formValid p (s.page p) = true ∧
    s.linesStopped (p * 64) = false) ∧
  (∃ (s : State) (p : Nat) (d : Draw), s.drawOf p = some d ∧ d.step = .rebuild ∧ s.linesStopped (p * 64) = false) ∧
  (∃ (s : State) (dt ds : Nat) (e : DieOp), s.log.dieOps.find? (fun x => x.1 == ds) = some (ds, e) ∧ e.suspended = false ∧
    e.waiting ≠ [] ∧ e.since + 1000 * s.fget Fld.LOG_CFG.MIN_RUN_US ≤ s.now + dt) ∧
  (∃ (s : State) (dt ds : Nat) (e : DieOp), s.log.dieOps = [(ds, e)] ∧ e.suspended = false ∧ e.waiting ≠ [] ∧ e.since + 1000 *
    s.fget Fld.LOG_CFG.MIN_RUN_US ≤ s.now + dt ∧ s.holdsDie ds = false) ∧
  (∃ (s : State) (p : Nat) (d : Draw), s.drawOf p = some d ∧ s.linesStopped (p * 64) = true) :=
  ⟨⟨{ W with rfl_ := { draws := [⟨5, false, .reading, 0, false, 77, none⟩] }, pages := pageW .unfilled 77 8, flash := [(77, ⟨1, 5, 0, 0, 0, 0, 0, 0, 8, ⟨[(4095, 1)], []⟩, 0, false⟩)] },
    5, ⟨5, false, .reading, 0, false, 77, none⟩, by decide +kernel⟩,
   ⟨{ W with rfl_ := { draws := [⟨5, false, .reading, 0, false, 77, none⟩] }, pages := pageW .unfilled 77 8, flash := [(77, ⟨1, 5, 0, 0, 0, 0, 0, 0, 8, ⟨[(4095, 1)], []⟩, 0, false⟩)] },
    5, ⟨5, false, .reading, 0, false, 77, none⟩, by decide +kernel⟩,
   ⟨{ W with rfl_ := { draws := [⟨5, false, .reading, 0, false, 77, none⟩] }, pages := pageW .unfilled 77 8, flash := [(77, ⟨1, 5, 0, 0, 0, 0, 0, 0, 8, ⟨[(4095, 1)], []⟩, 0, false⟩)] },
    5, ⟨5, false, .reading, 0, false, 77, none⟩, by decide +kernel⟩,
   ⟨{ W with rfl_ := { draws := [⟨5, false, .zero, 0, false, 77, none⟩] }, pages := pageW .unfilled 0 0, flash := [(77, ⟨1, 5, 0, 0, 0, 0, 0, 0, 8, ⟨[(4095, 1)], []⟩, 0, false⟩)] },
    5, ⟨5, false, .zero, 0, false, 77, none⟩, by decide +kernel⟩,
   ⟨(drawW .restoring false formW.body.crc), 5, ⟨5, false, .restoring, 0, false, 77, none⟩, ⟨rfl, rfl, rfl, by decide +kernel,
    drawW_valid _ _, by decide +kernel, by decide +kernel, by decide +kernel⟩⟩,
   ⟨(drawW .restoring true formW.body.crc), 5, ⟨5, true, .restoring, 0, false, 77, none⟩, ⟨rfl, rfl, rfl, by decide +kernel,
    drawW_valid _ _, by decide +kernel, by decide +kernel, by decide +kernel⟩⟩,
   ⟨(drawW .rebuild false formW.body.crc), 5, ⟨5, false, .rebuild, 0, false, 77, none⟩, ⟨rfl, rfl, drawW_valid _ _, by
    decide +kernel⟩⟩,
   ⟨{ W with rfl_ := { draws := [⟨5, false, .rebuild, 0, false, 77, none⟩] }, pages := pageW .unfilled 77 8, flash := [(77, ⟨1, 5, 0, 0, 0, 0, 0, 0, 8, ⟨[(4095, 1)], []⟩, 0, false⟩)] },
    5, ⟨5, false, .rebuild, 0, false, 77, none⟩, by decide +kernel⟩,
   ⟨{ W with log := { dieOps := [(96, ⟨true, 0, false, [5]⟩)] } }, (10 ^ 9), 96, ⟨true, 0, false, [5]⟩, by decide +kernel⟩,
   ⟨{ W with log := { dieOps := [(96, ⟨true, 0, false, [5]⟩)] } }, (10 ^ 9), 96, ⟨true, 0, false, [5]⟩, by decide +kernel⟩,
   ⟨(sets [(Fld.DRC_STS.STATE 0, 3)] (drawW .restoring false 0)), 5, ⟨5, false, .restoring, 0, false, 77, none⟩, by
    decide +kernel⟩⟩

theorem witness_LinksResetsAndDecoders :
  (∃ (s : State) (p w rate r : Nat) (f256 f68 fl : Bool), p < 2 ∧ s.dev ≠ .off ∧ 8 ≤ w ∧ rate < 4 ∧ r < 4 ∧ s.seqSt ≠ 3 ∧
    s.seqSt ≠ 4 ∧ s.unitSt (9 + p) = 0 ∧ s.unitSt (11 + p) = 0 ∧ s.trains p rate f256 f68 = some (r, fl)) ∧
  (∃ (s : State) (p : Nat), p < 2 ∧ s.on (Fld.FAB_PORT_STS.LINK_UP p) = true) ∧
  (∃ (p : Nat), p < 2) ∧
  (∃ (s : State) (n : Nat), n < 32 ∧ s.bound n = true ∧ s.dev ≠ .off) ∧
  (∃ (s : State) (n : Nat), (s.ld n).resetting = true ∧ s.inFlight n = 0) ∧
  (∃ (s : State) (n i base size ways gran way skip : Nat) (lock : Bool), n < 32 ∧ s.bound n = true ∧ s.dev ≠ .off ∧ s.dev ≠
    .basin ∧ (s.ld n).decs.all (fun e => e.1 != i) = true ∧ s.hdmOk n i ⟨base, size, ways, gran, way, skip, lock⟩ = true) ∧
  (∃ (s : State) (n i base size ways gran way skip : Nat) (lock : Bool), n < 32 ∧ s.bound n = true ∧ s.dev ≠ .off ∧ (s.ld
    n).decs.all (fun e => e.1 != i) = true ∧ s.hdmOk n i ⟨base, size, ways, gran, way, skip, lock⟩ = false) :=
  ⟨⟨W, 1, 8, 3, 3, true, true, true, by decide +kernel⟩,
   ⟨(sets [(Fld.FAB_PORT_STS.LINK_UP 1, 1)] { W with dev := .serving }), 1, by decide +kernel⟩,
   ⟨1, by decide +kernel⟩,
   ⟨({ W with lds := ldsW .serving }), 31, by decide +kernel⟩,
   ⟨({ W with lds := [(31, { ldW .serving with resetting := true })] }), 31, by decide +kernel⟩,
   ⟨({ W with lds := [(31, { ldW .serving with decs := [] })] }), 31, 0, 0, 268435456, 1, 256, 0, 0, true, by decide +kernel⟩,
   ⟨({ W with lds := [(31, { ldW .serving with decs := [] })] }), 31, 0, 0, 0, 1, 256, 0, 0, true, by decide +kernel⟩⟩

theorem witness_DescriptorsAreFetchedAndAccepted :
  (∃ (s : State) (ld n : Nat) (v : BitVec 32), ld < 32 ∧ n < 256 ∧ s.ringSt ld n = 1 ∧ s.engineRuns = true ∧ v.toNat <
    s.depthOf ld n ∧ v.toNat < 2 ^ 16) ∧
  (∃ (s : State) (ld n offset width : Nat), ld < 32 ∧ ((width ≠ 32 ∨ offset ≠ 0 ∨ s.ringSt ld n ≠ 1))) ∧
  (∃ (s : State) (ld n : Nat) (v : BitVec 32), s.ringSt ld n = 1 ∧ s.engineRuns = true ∧ v.toNat < s.depthOf ld n ∧ (v.toNat +
    s.depthOf ld n - (s.ring ld n).cqHead) % s.depthOf ld n ≤ (s.ring ld n).written ∧ (s.ring ld n).notices = [] ∧ (s.ring ld
    n).outNotes = [] ∧ (s.ring ld n).heldCount = 0) ∧
  (∃ (s : State) (ld n v : Nat), v < s.depthOf ld n) ∧
  (∃ (s : State) (ld n : Nat) (ds : List Descriptor), ld < 32 ∧ n < 256 ∧ (s.ring ld n).fetching = true ∧ ds.length ≤ min
    (s.leftToFetch ld n) 8 ∧ s.on (Fld.RNG_SHD_BASE.SHADOW_DB ld n) = false) ∧
  (∃ (s : State) (ld n : Nat), ld < 32 ∧ n < 256 ∧ (s.ring ld n).fetching = true) ∧
  (∃ (s : State) (ld n idx : Nat) (d : Descriptor) (rest : List (Nat × Descriptor)), ld < 32 ∧ n < 256 ∧ (s.ring ld n).fetched
    = (idx, d) :: rest ∧ s.mayAccept ld n = true ∧ s.roomFor ld = true ∧ d.opcode.toNat ≤ 9) ∧
  (∃ (s : State) (dt ld n t0 : Nat), ld < 32 ∧ n < 256 ∧ (s.ring ld n).waitRes = some t0 ∧ t0 + 100000 ≤ s.now + dt ∧
    s.roomFor ld = false ∧ (s.ring ld n).notices = [] ∧ (s.ring ld n).outNotes = [] ∧ (s.ring ld n).written < s.depthOf ld n ∧
    s.canPost ld n = true) :=
  ⟨⟨(ringW .serving { }), 31, 255, 15, by decide +kernel⟩,
   ⟨W, 31, 0, 0, 0, by decide +kernel⟩,
   ⟨(ringW .serving { written := 1 }), 31, 255, 1, by decide +kernel⟩,
   ⟨W, 0, 0, 0, by decide +kernel⟩,
   ⟨(sets [(Fld.RNG_STS.TAIL 31 255, 15)] (ringW .serving { fetching := true, sqDb := 15 })), 31, 255, [descW 0 5 0 0 0], by
    decide +kernel⟩,
   ⟨(ringW .serving { fetching := true }), 31, 255, by decide +kernel⟩,
   ⟨(ringW .serving { fetched := [(7, (descW 9 5 0 0 0))] }), 31, 255, 7, (descW 9 5 0 0 0), [], by decide +kernel⟩,
   ⟨(sets [(Fld.RNG_LD_CFG.CMD_CAP 31, 0)] (ringW .serving { waitRes := some 5 })), 100005, 31, 255, 5, by decide +kernel⟩⟩

theorem witness_EntriesAreWrittenAndWaitsEnd :
  (∃ (s : State) (ld n : Nat) (a : Acc), ld < 32 ∧ n < 256 ∧ (s.ring ld n).accs = [a] ∧ a.st ≠ .done ∧ s.canPost ld n = true ∧
    (s.ring ld n).written < s.depthOf ld n ∧ a.desc.flags.getLsbD 0 = true ∧ s.on (Fld.RNG_SHD_BASE.SHADOW_DB ld n) = false) ∧
  (∃ (s : State) (dt ld n idx : Nat) (a : Acc), (s.elapse dt).begins ld n idx 0 = some a ∧ (s.elapse dt).execCheck ld a = 0) ∧
  (∃ (s : State) (dt ld n idx t0 k : Nat) (a : Acc) (r : Nat × Nat), ld < 32 ∧ s.accAt ld n idx (fun a => a.st == .running &&
    (a.since.isSome || a.waits.any (fun w => w.2.2 != 0))) = some a ∧ a.since = some t0 ∧ a.step = 0 ∧ t0 + 1000 * s.fget
    Fld.WEIR_CFG.WAIT_US ≤ s.now + dt ∧ r = s.rangePages ld a.desc.arg0.toNat a.desc.arg1.toNat ∧ k = s.raiseCount ld r.1 r.2
    ∧ s.zeroLack ld k ≤ s.poolFree ∧ s.deficit = false) ∧
  (∃ (s : State) (dt ld n idx t0 : Nat) (a : Acc), ld < 32 ∧ s.accAt ld n idx (fun a => a.st == .running && (a.since.isSome ||
    a.waits.any (fun w => w.2.2 != 0))) = some a ∧ a.since = some t0 ∧ a.step = 0 ∧ t0 + 1000 * s.fget Fld.WEIR_CFG.WAIT_US ≤
    s.now + dt ∧ ((s.deficit = true ∨ s.poolFree < s.zeroLack ld (s.raiseCount ld (s.rangePages ld a.desc.arg0.toNat
    a.desc.arg1.toNat).1 (s.rangePages ld a.desc.arg0.toNat a.desc.arg1.toNat).2)))) ∧
  (∃ (s : State) (dt ld n idx : Nat) (a : Acc) (p t0 : Nat), ld < 32 ∧ s.accAt ld n idx (fun a => a.st == .running &&
    (a.since.isSome || a.waits.any (fun w => w.2.2 != 0))) = some a ∧ a.since = none ∧ a.waits = [(p, 1, t0)] ∧ t0 ≠ 0 ∧ t0 +
    1000 * s.fget Fld.WEIR_CFG.WAIT_US ≤ s.now + dt + 1) ∧
  (∃ (s : State) (n : Nat), s.fab.reqs.find? (s.canPass n) = none) ∧
  (∃ (s : State) (n : Nat) (r : Req), s.fab.reqs.find? (s.canPass n) = some r) ∧
  (∃ (s : State) (n : Nat) (r : Req), s.fab.reqs.find? (s.canPass n) = some r ∧ s.owedPage (r.dpa / 4096) = false ∧ r.kind =
    .write ∧ r.port < 2 ∧ s.inWmb (r.dpa / 64) = true ∧ s.held r = false ∧ (s.page (r.dpa / 4096)).st ∉ [.unfilled, .drawing]) :=
  ⟨⟨(ringW .serving { accs := [(accW (descW 0 5 0 0 0))] }), 31, 255, (accW (descW 0 5 0 0 0)), by decide +kernel⟩,
   ⟨(ringW .serving { accs := [(accW (descW 0 5 0 0 0))] }), 0, 31, 255, 7, (accW (descW 0 5 0 0 0)), by decide +kernel⟩,
   ⟨(sets [(Fld.WEIR_STS.WEIR_PAGES, 100)] (ringW .serving
    { accs := [{ accW (descW 6 5 0 64 0) with st := .running, since := some 5 }] })), 500005, 31, 255, 7, 5, 1,
    { accW (descW 6 5 0 64 0) with st := .running, since := some 5 }, (0, 1), by decide +kernel⟩,
   ⟨(sets [(Fld.WEIR_STS.DEFICIT, 1)] (ringW .serving
    { accs := [{ accW (descW 6 5 0 64 0) with st := .running, since := some 5 }] })), 500005, 31, 255, 7, 5,
    { accW (descW 6 5 0 64 0) with st := .running, since := some 5 }, by decide +kernel⟩,
   ⟨(ringW .serving { accs := [{ accW (descW 6 5 0 64 0) with st := .running, waits := [(0, 1, 5)] }] }), 500005, 31, 255, 7,
    { accW (descW 6 5 0 64 0) with st := .running, waits := [(0, 1, 5)] }, 0, 5, by decide +kernel⟩,
   ⟨W, 0, by decide +kernel⟩,
   ⟨{ W with lds := ldsW .serving, pages := pageW .dirty 0 0, chans := [(0, { wmb := [(320, 0, 1, false)] })], fab := { reqs := [reqW 4 .write (.weir 1)], nextRid := 5 } },
    31, (reqW 4 .write (.weir 1)), by decide +kernel⟩,
   ⟨{ W with lds := ldsW .serving, pages := pageW .dirty 0 0, chans := [(0, { wmb := [(320, 0, 1, false)] })], fab := { reqs := [reqW 4 .write (.weir 1)], nextRid := 5 } },
    31, (reqW 4 .write (.weir 1)), by decide +kernel⟩⟩

theorem witness_FirstFailedCheckDecidesStatus :
  (∃ (s : State) (dt ld n idx : Nat) (a : Acc) (e : Nat × Instr), e ∈ [(0, Instr.nop dt ld n idx), (2, .checkpointAt dt ld n
    idx), (3, .checkpointRelease dt ld n idx), (5, .queryPages dt ld n idx), (7, .sanitizeLd dt ld n idx)] ∧ (s.elapse
    dt).begins ld n idx e.1 = some a ∧ (s.elapse dt).execCheck ld a ≠ 0) ∧
  (∃ (s : State) (dt ld n idx : Nat) (a : Acc), (s.elapse dt).begins ld n idx 9 = some a ∧ (s.elapse dt).execCheck ld a ≠ 0) ∧
  (∃ (s : State) (dt ld n idx : Nat) (a : Acc) (e : Nat × Instr), e ∈ [(1, Instr.persistRange dt ld n idx), (8, .fence dt ld n
    idx)] ∧ (s.elapse dt).begins ld n idx e.1 = some a ∧ (s.elapse dt).execCheck ld a ≠ 0) ∧
  (∃ (s : State) (dt ld n idx : Nat) (a : Acc) (e : Nat × Instr), e ∈ [(4, Instr.rollbackTo dt ld n idx), (6, .zeroRange dt ld
    n idx)] ∧ (s.elapse dt).begins ld n idx e.1 = some a ∧ (s.elapse dt).execCheck ld a ≠ 0) :=
  ⟨⟨(ringW .serving { accs := [(accW (descW 0 0 0 0 0))] }), 0, 31, 255, 7, (accW (descW 0 0 0 0 0)), (0, .nop 0 31 255 7), by
    decide +kernel⟩,
   ⟨(ringW .serving { accs := [(accW (descW 9 0 0 0 0))] }), 0, 31, 255, 7, (accW (descW 9 0 0 0 0)), by decide +kernel⟩,
   ⟨(ringW .serving { accs := [(accW (descW 1 0 0 0 0))] }), 0, 31, 255, 7, (accW (descW 1 0 0 0 0)), (1, .persistRange 0 31 255
    7), by decide +kernel⟩,
   ⟨(ringW .serving { accs := [(accW (descW 4 0 0 0 0))] }), 0, 31, 255, 7, (accW (descW 4 0 0 0 0)), (4, .rollbackTo 0 31 255
    7), by decide +kernel⟩⟩

theorem witness_RingOpcodesThatCompleteAtOnce :
  (∃ (s : State) (dt ld n idx : Nat) (a : Acc), (s.elapse dt).begins ld n idx 2 = some a ∧ (s.elapse dt).execCheck ld a = 0) ∧
  (∃ (s : State) (dt ld n idx : Nat) (a : Acc) (c : Ckpt), (s.elapse dt).begins ld n idx 3 = some a ∧ (s.elapse dt).execCheck
    ld a = 0 ∧ (s.ld ld).ckpt? a.desc.arg0.toNat = some c) ∧
  (∃ (s : State) (dt ld n idx : Nat) (a : Acc), (s.elapse dt).begins ld n idx 5 = some a ∧ (s.elapse dt).execCheck ld a = 0) ∧
  (∃ (s : State) (dt ld n idx : Nat) (a : Acc) (g : Seal), (s.elapse dt).begins ld n idx 9 = some a ∧ (s.elapse dt).execCheck
    ld a = 0 ∧ s.sealedImg = some g ∧ g.gen = s.newestGen) ∧
  (∃ (s : State) (dt ld n idx : Nat) (a : Acc), (s.elapse dt).begins ld n idx 9 = some a ∧ (s.elapse dt).execCheck ld a = 0 ∧
    ((∀ g, s.sealedImg = some g → g.gen ≠ s.newestGen))) :=
  ⟨⟨(ringW .serving { accs := [(accW (descW 2 5 1024 0 0))] }), 0, 31, 255, 7, (accW (descW 2 5 1024 0 0)), by decide +kernel⟩,
   ⟨{ ringW .serving { accs := [(accW (descW 3 5 1 0 0))] } with lds := [(31, { ldW .serving with ckpts := [ckptW] })] }, 0, 31,
    255, 7, (accW (descW 3 5 1 0 0)), ckptW, by decide +kernel⟩,
   ⟨(ringW .serving { accs := [(accW (descW 5 5 0 4096 0))] }), 0, 31, 255, 7, (accW (descW 5 5 0 4096 0)), by decide +kernel⟩,
   ⟨(sets [(Fld.SPL_GEN.GENERATION, 7)] { ringW .serving { accs := [(accW (descW 9 5 0 0 0))] } with sealedImg := some sealW }),
    0, 31, 255, 7, (accW (descW 9 5 0 0 0)), sealW, by decide +kernel⟩,
   ⟨(ringW .serving { accs := [(accW (descW 9 5 0 0 0))] }), 0, 31, 255, 7, (accW (descW 9 5 0 0 0)), by decide +kernel⟩⟩

theorem witness_RingOpcodesThatRunOn :
  (∃ (s : State) (dt ld n idx : Nat) (a : Acc) (r : Nat × Nat), (s.elapse dt).begins ld n idx 1 = some a ∧ (s.elapse
    dt).execCheck ld a = 0 ∧ r = s.rangePages ld a.desc.arg0.toNat a.desc.arg1.toNat) ∧
  (∃ (s : State) (dt ld n idx : Nat) (a : Acc), (s.elapse dt).begins ld n idx 8 = some a ∧ (s.elapse dt).execCheck ld a = 0) ∧
  (∃ (s : State) (dt ld n idx : Nat) (a : Acc) (r : Ring), n < 256 ∧ s.rings = [(256 * ld + n, r)] ∧ r.accs = [a] ∧ (s.elapse
    dt).begins ld n idx 8 = some a ∧ (s.elapse dt).execCheck ld a = 0) ∧
  (∃ (s : State) (dt ld n idx : Nat) (a : Acc) (c : Ckpt), (s.elapse dt).begins ld n idx 4 = some a ∧ (s.elapse dt).execCheck
    ld a = 0 ∧ s.rollTarget ld a.desc.arg0.toNat = some c) ∧
  (∃ (s : State) (dt ld n idx k : Nat) (a : Acc) (r : Nat × Nat), (s.elapse dt).begins ld n idx 6 = some a ∧ (s.elapse
    dt).execCheck ld a = 0 ∧ r = s.rangePages ld a.desc.arg0.toNat a.desc.arg1.toNat ∧ k = s.raiseCount ld r.1 r.2 ∧ (k = 0 ∨
    ((s.elapse dt).modAcc ld n a.order (fun x => { x with st := .running })).zeroHolds ld k (s.now + dt) = false)) ∧
  (∃ (s : State) (dt ld n idx : Nat) (a : Acc), (s.elapse dt).begins ld n idx 7 = some a ∧ (s.elapse dt).execCheck ld a = 0) :=
  ⟨⟨(ringW .serving { accs := [(accW (descW 1 5 4096 1 0))] }), 0, 31, 255, 7, (accW (descW 1 5 4096 1 0)), (1, 2), by
    decide +kernel⟩,
   ⟨(ringW .serving { accs := [(accW (descW 8 5 0 0 0))] }), 0, 31, 255, 7, (accW (descW 8 5 0 0 0)), by decide +kernel⟩,
   ⟨(ringW .serving { accs := [(accW (descW 8 5 0 0 0))] }), 0, 31, 255, 7, (accW (descW 8 5 0 0 0)),
    { accs := [(accW (descW 8 5 0 0 0))] }, by decide +kernel⟩,
   ⟨{ ringW .quiesced { accs := [(accW (descW 4 5 1 0 0))] } with lds := [(31, { ldW .quiesced with ckpts := [{ ckptW with complete := true }] })] },
    0, 31, 255, 7, (accW (descW 4 5 1 0 0)), { ckptW with complete := true }, by decide +kernel⟩,
   ⟨{ ringW .serving { accs := [(accW (descW 6 5 20480 64 0))] } with pages := pageW .dirty 0 0 }, 0, 31, 255, 7, 0, (accW (descW
    6 5 20480 64 0)), (5, 6), by decide +kernel⟩,
   ⟨(ringW .quiesced { accs := [(accW (descW 7 5 0 0 0))] }), 0, 31, 255, 7, (accW (descW 7 5 0 0 0)), by decide +kernel⟩⟩

theorem witness_RingControl :
  (∃ (s : State) (ld n : Nat) (path : Path), RingPath s path ld n ∧ s.ringSt ld n = 0 ∧ s.ringCfgOk ld n = true ∧ (s.ring ld
    n).accs = []) ∧
  (∃ (s : State) (ld n : Nat) (path : Path), RingPath s path ld n ∧ s.ringSt ld n = 0 ∧ s.ringCfgOk ld n = true) ∧
  (∃ (s : State) (dt ld n : Nat) (path : Path) (i : Instr), RingPath s path ld n ∧ (((∃ clear, i = .ringEnable dt path ld n
    clear ∧ (s.ringSt ld n ≠ 0 ∨ s.ringCfgOk ld n = false)) ∨ (i = .ringResume dt path ld n ∧ s.ringSt ld n ≠ 2)))) ∧
  (∃ (s : State) (ld n : Nat) (path : Path), RingPath s path ld n) ∧
  (∃ (s : State) (ld n : Nat) (path : Path), RingPath s path ld n ∧ s.ringSt ld n = 2) ∧
  (∃ (s : State) (ld n : Nat) (path : Path), RingPath s path ld n ∧ s.ringSt ld n = 2 ∧ ((s.fget (Fld.RNG_STS.HALT_REASON ld
    n) = 1 ∨ s.fget (Fld.RNG_STS.HALT_REASON ld n) = 2)) ∧ (s.ring ld n).accs = [] ∧ (s.ring ld n).notices = [] ∧ (s.ring ld
    n).fetched = [] ∧ ((s.engineRuns = false ∨ s.leftToFetch ld n = 0)) ∧ ((∀ e ∈ s.rings, s.wantsFetch (e.1 / 256) (e.1 %
    256) = false))) ∧
  (∃ (s : State) (dt ld n t0 : Nat), (s.ring ld n).coalAt = some t0 ∧ t0 + 1000 * s.fget (Fld.RNG_CFG.COAL_US ld n) ≤ s.now +
    dt) :=
  ⟨⟨(sets [(Fld.RNG_SHD_BASE.ADDR 31 255, 1)] W), 31, 255, .fm, by unfold RingPath; decide +kernel⟩,
   ⟨(sets [(Fld.RNG_SHD_BASE.ADDR 31 255, 1)] W), 31, 255, .fm, by unfold RingPath; decide +kernel⟩,
   ⟨(ringW .serving { }), 0, 31, 255, .fm, (.ringResume 0 .fm 31 255), ⟨by unfold RingPath; decide +kernel, Or.inr ⟨rfl, by
    decide +kernel⟩⟩⟩,
   ⟨W, 0, 0, .fm, by unfold RingPath; decide +kernel⟩,
   ⟨(sets [(Fld.RNG_STS.STATE 31 255, 2)] (ringW .serving { })), 31, 255, .fm, by unfold RingPath; decide +kernel⟩,
   ⟨(sets [(Fld.RNG_STS.STATE 31 255, 2), (Fld.RNG_STS.HALT_REASON 31 255, 1)] (ringW .serving { })), 31, 255, .fm, by
    unfold RingPath; decide +kernel⟩,
   ⟨(ringW .serving { coalAt := some 5 }), 5, 31, 255, 5, by decide +kernel⟩⟩

theorem witness_ColdStartRunsItsStages :
  (∃ (s : State), s.dev = .off ∧ s.seqSt = 2 ∧ s.on Fld.PSQ_RST_STS.CORE_RST = false ∧ s.psq.por = false) ∧
  (∃ (s : State) (o : StageObs), s.starting = true ∧ s.bootStage = 1 ∧ s.boot.kind = 0 ∧ o.selfTestOk = true ∧ o.elytraRomOk =
    [true, true]) ∧
  (∃ (s : State), s.starting = true ∧ s.bootStage = 2 ∧ s.boot.kind = 0 ∧ s.boot.byPort = [] ∧ s.goodCopies ≠ [] ∧ s.fget
    Fld.BOOT_STS.FAILS < 3) ∧
  (∃ (s : State) (o : StageObs) (k : Nat) (img : Image), s.starting = true ∧ s.bootStage = 3 ∧ s.boot.kind = 0 ∧ o.loadFail =
    [] ∧ bestCopy s.goodCopies = some (k, img) ∧ k < 4 ∧ o.ucodeLoadOk = [true, true]) ∧
  (∃ (s : State) (o : StageObs) (x : Seal), s.starting = true ∧ s.bootStage = 6 ∧ s.boot.kind = 0 ∧ o.journalSeals = true ∧
    s.sealedImg = some x ∧ x.gen = s.spill.usedGen ∧ s.sealRecord x.gen = true ∧ o.sealCopiesOk ≠ [] ∧ o.sealAgree = true ∧
    o.metaOk = true ∧ s.fget Fld.JNL_STS.COPY_OK ≠ 0 ∧ x.prev = s.olderSeal x.gen ∧ s.log.written = true ∧ s.fab.sanitized =
    false) ∧
  (∃ (s : State) (o : StageObs) (x : Seal), s.starting = true ∧ s.bootStage = 6 ∧ s.boot.kind = 0 ∧ o.journalSeals = true ∧
    s.sealedImg = some x ∧ x.gen = s.spill.usedGen ∧ s.sealRecord x.gen = true ∧ o.sealCopiesOk ≠ [] ∧ o.sealAgree = false ∧
    s.log.written = true ∧ s.fab.sanitized = false) :=
  ⟨⟨(sets [(Fld.PSQ_STS.STATE, 2), (Fld.PSQ_RST_STS.CORE_RST, 0)] { W with dev := .off }), by decide +kernel⟩,
   ⟨(sets [(Fld.BOOT_STS.STAGE, 1)] { W with dev := .training }), { }, by decide +kernel⟩,
   ⟨(sets [(Fld.BOOT_STS.STAGE, 2)] { W with dev := .training, boot := { copies := [(3, imgW)] } }), by (repeat' apply And.intro)
    <;> first | decide +kernel | rfl | exact good_ne rfl⟩,
   ⟨(sets [(Fld.BOOT_STS.STAGE, 3)] { W with dev := .training, boot := { copies := [(3, imgW)] } }), { }, 3, imgW, by (repeat'
    apply And.intro) <;> first | decide +kernel | rfl | exact best_of rfl⟩,
   ⟨(sets [(Fld.BOOT_STS.STAGE, 6), (Fld.JNL_STS.COPY_OK, 3)]
    { W with dev := .training, sealedImg := some sealW, spill := { usedGen := 7 }, flt := { sealCopies := [⟨1, 2, false, 0, 7, [], .sealed, [0], [0], []⟩] }, log := { written := true } }),
    { sealCopiesOk := [0] }, sealW, by decide +kernel⟩,
   ⟨(sets [(Fld.BOOT_STS.STAGE, 6)]
    { W with dev := .training, sealedImg := some sealW, spill := { usedGen := 7 }, flt := { sealCopies := [⟨1, 2, false, 0, 7, [], .sealed, [0], [0], []⟩] }, log := { written := true } }),
    { sealCopiesOk := [0], sealAgree := false }, sealW, by decide +kernel⟩⟩

theorem witness_DeviceOpensAndReturns :
  (∃ (s : State), s.starting = true ∧ s.bootStage = 7) ∧
  (∃ (s : State) (f : Found), s.starting = true ∧ s.bootStage = 7 ∧ s.boot.kind = 0 ∧ s.boot.found = some f ∧ f.empty = true ∧
    ((∀ n, n < 32 → s.bound n = true → s.cls n ≠ 2 ∧ (s.ld n).prior ≠ .quiesced))) ∧
  (∃ (s : State), s.isOpen = true) ∧
  (∃ (s : State), s.dev = .sealed ∧ s.on Fld.PSQ_STS.INPUT_GOOD = true ∧ s.seqSt ≠ 3 ∧ s.seqSt ≠ 4 ∧ s.on
    Fld.SPL_STATE.DRAM_UV = true) ∧
  (∃ (s : State), s.dev = .sealed ∧ s.on Fld.PSQ_STS.INPUT_GOOD = true ∧ s.seqSt ≠ 3 ∧ s.seqSt ≠ 4 ∧ s.on
    Fld.SPL_STATE.DRAM_UV = false) ∧
  (∃ (s : State) (n : Nat), n < 32 ∧ s.isOpen = true ∧ (s.ld n).st = .quiesced ∧ (s.ld n).held = true ∧ s.fget
    (Fld.RFL_LD_SRC.MODE n) * 2 ^ 48 + s.fget (Fld.RFL_LD_SRC.VALUE n) = (s.ld n).mapSrc ∧ s.fget (Fld.RFL_LD_STS.SOURCE n) ≠
    0) :=
  ⟨⟨(sets [(Fld.BOOT_STS.STAGE, 7)] { W with dev := .training }), by decide +kernel⟩,
   ⟨(sets [(Fld.BOOT_STS.STAGE, 7)]
    { W with dev := .training, lds := ldsW .sealed, boot := { found := some ⟨none, 0, [], true, []⟩ } }), ⟨none, 0, [], true,
    []⟩, by decide +kernel⟩,
   ⟨W, by decide +kernel⟩,
   ⟨(sets [(Fld.PSQ_STS.INPUT_GOOD, 1), (Fld.SPL_STATE.DRAM_UV, 1)] { W with dev := .sealed }), by decide +kernel⟩,
   ⟨(sets [(Fld.PSQ_STS.INPUT_GOOD, 1)] { W with dev := .sealed }), by decide +kernel⟩,
   ⟨(sets [(Fld.RFL_LD_STS.SOURCE 31, 4)] { W with lds := [(31, { ldW .quiesced with held := true })] }), 31, by decide +kernel⟩⟩

theorem witness_FailedStartsAndRepair :
  (∃ (s : State) (o : StageObs), s.starting = true ∧ s.bootStage = 1 ∧ s.boot.kind = 0 ∧ o.selfTestOk = false ∧ s.chrys = true
    ∧ s.fget Fld.BOOT_STS.FAILS < 2) ∧
  (∃ (s : State), s.starting = true ∧ s.boot.kind = 0 ∧ s.chrys = true ∧ s.fget Fld.BOOT_STS.FAILS < 2) ∧
  (∃ (s : State), s.isOpen = true) ∧
  (∃ (s : State) (dt : Nat), s.starting = true ∧ ((s.boot.kind = 0 ∨ s.boot.kind = 3)) ∧ s.fget Fld.BOOT_STS.FAILS = 2 ∧
    s.boot.startAt + 1000000000 * s.fget Fld.BOOT_CFG.START_TIMEOUT_S ≤ s.now + dt) ∧
  (∃ (s : State), s.dev = .basin) ∧
  (∃ (s : State), s.dev = .training ∧ s.on Fld.BOOT_STS.BASIN_DEFERRED = true) ∧
  (∃ (s : State) (k : Nat) (rest : List Nat) (img : Image), s.boot.repair = k :: rest ∧ s.boot.loaded = some img ∧ s.isOpen =
    true) ∧
  (∃ (s : State) (k : Nat) (rest : List Nat) (img : Image), s.boot.repair = k :: rest ∧ s.boot.loaded = some img ∧ s.isOpen =
    true) :=
  ⟨⟨(sets [(Fld.BOOT_STS.STAGE, 1)] { W with dev := .training, chrys := true }), { selfTestOk := false }, by decide +kernel⟩,
   ⟨(sets [(Fld.BOOT_STS.STAGE, 1)] { W with dev := .training, chrys := true }), by decide +kernel⟩,
   ⟨W, by decide +kernel⟩,
   ⟨(sets [(Fld.BOOT_STS.STAGE, 1), (Fld.BOOT_STS.FAILS, 2)] { W with dev := .training }), (10 ^ 9 * 2 ^ 16), by decide +kernel⟩,
   ⟨({ W with dev := .basin }), by decide +kernel⟩,
   ⟨(sets [(Fld.BOOT_STS.STAGE, 1), (Fld.BOOT_STS.BASIN_DEFERRED, 1)] { W with dev := .training }), by decide +kernel⟩,
   ⟨({ W with boot := { repair := [3], loaded := some imgW } }), 3, [], imgW, by (repeat' apply And.intro) <;>
    first | decide +kernel | rfl⟩,
   ⟨({ W with boot := { repair := [3], loaded := some imgW } }), 3, [], imgW, by (repeat' apply And.intro) <;>
    first | decide +kernel | rfl⟩⟩

theorem witness_TimestampIsSetAndReported :
  (∃ (s : State), MboxReady s .fm) ∧
  (∃ (s : State) (dt : Nat) (m : Mbox), MboxReady s m ∧ s.fget Fld.CIS_TIME_STS.TIME_LOST = 0 ∧ s.fget Fld.CIS_TS_MARK.TS_MARK
    ≤ (s.elapse dt).nowUs) ∧
  (∃ (s : State), s.isMember = false ∧ s.fget Fld.CIS_TIME_STS.TIME_LOST = 0) :=
  ⟨⟨W, by unfold MboxReady; decide +kernel⟩,
   ⟨W, 0, .fm, by unfold MboxReady; decide +kernel⟩,
   ⟨W, by decide +kernel⟩⟩

theorem witness_ShutdownStateIsStoredAndReturned :
  ∃ (s : State) (v : Nat) (m : Mbox), MboxReady s m ∧ v < 256 :=
  ⟨W, 255, .fm, by unfold MboxReady; decide +kernel⟩

theorem witness_MailboxReportsWhatTheDeviceHolds :
  (∃ (s : State) (m : Mbox), MboxReady s m) ∧
  (∃ (s : State) (m : Mbox), MboxReady s m) ∧
  (∃ (s : State) (p : Nat), MboxReady s .fm ∧ p < 2) :=
  ⟨⟨W, .fm, by unfold MboxReady; decide +kernel⟩,
   ⟨W, .fm, by unfold MboxReady; decide +kernel⟩,
   ⟨W, 1, by unfold MboxReady; decide +kernel⟩⟩

theorem witness_MailboxSettingsAreStored :
  (∃ (s : State) (m : Mbox), MboxReady s m) ∧
  (∃ (s : State) (p modPct sevPct : Nat), FmMayChange s ∧ p < 2 ∧ modPct ≤ 100 ∧ sevPct ≤ 100 ∧ s.fget
    Fld.FAB_DEVLOAD_CFG.LOAD_OPT < modPct ∧ modPct < sevPct) ∧
  (∃ (s : State) (p start : Nat) (vs : List Nat), FmMayChange s ∧ p < 2 ∧ start + vs.length ≤ 16 ∧ ((∀ v ∈ vs, v ≤ 255))) ∧
  (∃ (s : State) (n : Nat), MboxReady s (.tenant n)) ∧
  (∃ (s : State) (m : Mbox), s.mboxUp m = true ∧ ((s.molt.isSome = true ∨ s.mboxWaits m = true)) ∧ ((∀ d, 3 ≤ d → d ≤ 7 →
    (s.dom d).mode ≠ 1))) ∧
  (∃ (s : State) (d : Nat) (m : Mbox), s.mboxUp m = true ∧ 3 ≤ d ∧ d ≤ 7 ∧ (s.dom d).mode = 1 ∧ (s.dom d).waking = false) :=
  ⟨⟨W, .fm, by unfold MboxReady; decide +kernel⟩,
   ⟨W, 1, 99, 100, by unfold FmMayChange MboxReady; decide +kernel⟩,
   ⟨W, 1, 15, [255], by unfold FmMayChange MboxReady; decide +kernel⟩,
   ⟨(sets [(Fld.FAB_PORT_STS.LINK_UP 1, 1)] { W with lds := ldsW .serving }), 31, by unfold MboxReady; decide +kernel⟩,
   ⟨({ W with molt := some 5 }), .fm, by decide +kernel⟩,
   ⟨({ W with doms := [(7, { mode := 1 })] }), 7, .fm, by decide +kernel⟩⟩

theorem witness_MediaCommandsAct :
  (∃ (s : State) (dpa : Nat), FmMayChange s ∧ s.hostBase ≤ dpa ∧ dpa + 64 ≤ s.installed ∧ dpa % 64 = 0 ∧ s.ldOfPage (dpa /
    4096) = none) ∧
  (∃ (s : State) (dpa n : Nat) (m : Mbox), MboxReady s m ∧ s.isOpen = true ∧ s.inMedia m dpa 64 = true ∧ dpa % 64 = 0 ∧
    s.ldOfPage (dpa / 4096) = some n) ∧
  (∃ (s : State) (dpa lines : Nat) (m : Mbox), MboxReady s m ∧ s.isOpen = true ∧ s.fab.bg = none ∧ dpa % 64 = 0 ∧ s.inMedia m
    dpa (64 * lines) = true) ∧
  (∃ (s : State), FmMayChange s ∧ s.fab.bg = none) ∧
  (∃ (s : State) (dt n op : Nat) (c : Instr), MboxReady s (.tenant n) ∧ s.isOpen = true ∧ s.fab.bg = none ∧ (s.ld n).st =
    .quiesced ∧ (s.ld n).pending = [] ∧ ((∀ k ∈ (s.ld n).ckpts, s.namedSource n k.id = false)) ∧ ((c = .sanitize dt (.tenant
    n) ∧ op = 0x4400) ∨ (c = .secureErase dt (.tenant n) ∧ op = 0x4401))) :=
  ⟨⟨W, 34359738304, by unfold FmMayChange MboxReady; decide +kernel⟩,
   ⟨({ W with lds := [(31, { ldW .serving with extBase := 127 })] }), 34359738304, 31, .fm, by unfold MboxReady; decide +kernel⟩,
   ⟨W, 34359738304, 1, .fm, by unfold MboxReady; decide +kernel⟩,
   ⟨W, by unfold FmMayChange MboxReady; decide +kernel⟩,
   ⟨(sets [(Fld.FAB_PORT_STS.LINK_UP 1, 1)] { W with lds := [(31, { ldW .quiesced with extBase := 127 })] }), 0, 31, 0x4400,
    (.sanitize 0 (.tenant 31)), by unfold MboxReady; decide +kernel⟩⟩

theorem witness_VendorCommandsActOnLds :
  (∃ (s : State) (n base size : Nat), FmMayChange s ∧ n < 32 ∧ s.bound n = false ∧ (s.ld n).ckpts = [] ∧ s.extentOk n base
    size = true) ∧
  (∃ (s : State) (n p id : Nat), FmMayChange s ∧ n < 32 ∧ s.bound n = false ∧ (s.ld n).extSize ≠ 0 ∧ s.placeCheck n p id = 0) ∧
  (∃ (s : State) (n p id : Nat), FmMayChange s ∧ n < 32 ∧ s.bound n = true ∧ s.placeCheck n p id = 0) ∧
  (∃ (s : State) (n : Nat), FmMayChange s ∧ n < 32 ∧ (s.ld n).st = .quiesced ∧ s.fab.bg = none) ∧
  (∃ (s : State) (n : Nat), n < 32 ∧ s.isOpen = true ∧ (s.ld n).unbinding = true ∧ (s.ld n).pending = [] ∧ (s.ld n).owed = 0 ∧
    s.inFlight n = 0) ∧
  (∃ (s : State) (n : Nat), FmMayChange s ∧ n < 32 ∧ (((s.ld n).st = .refilling ∨ (s.ld n).st = .serving)) ∧ s.fab.bg = none) ∧
  (∃ (s : State) (n : Nat), n < 32 ∧ s.isOpen = true ∧ (s.ld n).quiesce.isSome = true ∧ ((∀ r ∈ s.fab.reqs, r.ld = n →
    r.pastThree = false))) ∧
  (∃ (s : State) (n : Nat), FmMayChange s ∧ n < 32 ∧ s.mayResume n = true) ∧
  (∃ (s : State) (n : Nat), FmMayChange s ∧ n < 32) ∧
  (∃ (s : State) (dt n p id : Nat) (c : Instr), MboxReady s .fm ∧ ((s.isOpen = false ∨ 32 ≤ n)) ∧ (c ∈ [Instr.setLdExtent dt
    .fm n p id, .bindLd dt .fm n p id, .rebindLd dt .fm n p id, .resumeLd dt .fm n] ∨ (s.fab.bg = none ∧ c ∈ [Instr.quiesceLd
    dt .fm n, .unbindLd dt .fm n]))) ∧
  (∃ (s : State) (dt n : Nat) (c : Instr), MboxReady s .fm ∧ s.fab.bg.isSome = true ∧ c ∈ [Instr.quiesceLd dt .fm n, .unbindLd
    dt .fm n]) ∧
  (∃ (s : State) (off : Nat), MboxReady s .fm ∧ off < 2 ^ 28) :=
  ⟨⟨W, 31, 127, 1, by unfold FmMayChange MboxReady; decide +kernel⟩,
   ⟨({ W with lds := ldsW .unbound }), 31, 1, 15, by unfold FmMayChange MboxReady; decide +kernel⟩,
   ⟨({ W with lds := ldsW .serving }), 31, 1, 15, by unfold FmMayChange MboxReady; decide +kernel⟩,
   ⟨({ W with lds := ldsW .quiesced }), 31, by unfold FmMayChange MboxReady; decide +kernel⟩,
   ⟨({ W with lds := [(31, { ldW .quiesced with unbinding := true })] }), 31, by decide +kernel⟩,
   ⟨({ W with lds := ldsW .serving }), 31, by unfold FmMayChange MboxReady; decide +kernel⟩,
   ⟨({ W with lds := [(31, { ldW .serving with quiesce := some 5 })], fab := { reqs := [reqW 4 .write .ldState], nextRid := 5 } }),
    31, by decide +kernel⟩,
   ⟨({ W with lds := ldsW .quiesced }), 31, by unfold FmMayChange MboxReady; decide +kernel⟩,
   ⟨W, 31, by unfold FmMayChange MboxReady; decide +kernel⟩,
   ⟨W, 0, 32, 0, 0, (.setLdExtent 0 .fm 32 0 0), by unfold MboxReady; decide +kernel⟩,
   ⟨{ W with fab := { bg := some (.quiesce 31) } }, 0, 0, (.quiesceLd 0 .fm 0), by unfold MboxReady; decide +kernel⟩,
   ⟨W, 268435455, by unfold MboxReady; decide +kernel⟩⟩

theorem witness_FirmwareTransferRuns :
  (∃ (s : State) (len : Nat) (digest : Word), MboxReady s .fm ∧ s.isCut = false ∧ s.fab.bg ≠ some .transferFw ∧ ((∀ x,
    s.boot.xfer = some x → x.last ≠ some (0, len, digest))) ∧ len % 128 = 0 ∧ len ≤ imageMax) ∧
  (∃ (s : State) (off len : Nat) (digest : Word) (x : Xfer), MboxReady s .fm ∧ s.isCut = false ∧ s.fab.bg ≠ some .transferFw ∧
    s.boot.xfer = some x ∧ x.img = none ∧ x.last ≠ some (off, len, digest) ∧ off = s.fget Fld.BOOT_XFER.NEXT_OFFSET ∧ len %
    128 = 0 ∧ off + len ≤ imageMax) ∧
  (∃ (s : State) (off len : Nat) (digest : Word) (x : Xfer), MboxReady s .fm ∧ s.isCut = false ∧ s.fab.bg ≠ some .transferFw ∧
    s.boot.xfer = some x ∧ x.last = some (off, len, digest)) ∧
  (∃ (s : State) (dt off len k : Nat) (digest : Word) (img : Image) (x : Xfer) (c : Instr), MboxReady s .fm ∧ s.isCut = false
    ∧ s.fab.bg = none ∧ len % 128 = 0 ∧ off + len ≤ imageMax ∧ k < 4 ∧ ((c = .transferFwEnd dt .fm 2 off len digest img ∧
    s.boot.xfer = some x ∧ x.img = none ∧ x.last ≠ some (off, len, digest) ∧ off = s.fget Fld.BOOT_XFER.NEXT_OFFSET ∧ k =
    s.fget Fld.BOOT_XFER.TARGET_COPY) ∨ (c = .transferFwFull dt .fm 2 off len digest img ∧ s.boot.xfer = none ∧ off = 0 ∧ k =
    3))) ∧
  (∃ (s : State) (dt : Nat) (x : Xfer) (c : Instr) (o : List Out), s.boot.xfer = some x ∧ x.img = none ∧ ((c =
    .transferFwAbort dt .fm ∧ o = [.mbox .fm 0 []] ∧ MboxReady s .fm ∧ s.isCut = false ∧ s.fab.bg ≠ some .transferFw) ∨ (c =
    .transferIdleTimeout dt ∧ o = [] ∧ x.lastAt + 60000000000 ≤ s.now + dt))) ∧
  (∃ (s : State) (at_ k : Nat) (last : Option (Nat × Nat × Word)) (img : Image) (rest : List Nat), s.isCut = false ∧ s.dev ≠
    .off ∧ s.dev ≠ .basin ∧ k < 4 ∧ k ∉ rest ∧ s.boot.xfer = some (Xfer.mk at_ last (some img) (k :: rest))) ∧
  (∃ (s : State) (at_ k : Nat) (last : Option (Nat × Nat × Word)) (img : Image) (rest : List Nat), s.isCut = false ∧ s.dev ≠
    .off ∧ s.boot.xfer = some (Xfer.mk at_ last (some img) (k :: rest))) :=
  ⟨⟨W, imageMax, 0, by unfold MboxReady; decide +kernel⟩,
   ⟨(sets [(Fld.BOOT_XFER.NEXT_OFFSET, 128)] { W with boot := { xfer := some ⟨5, some (0, 128, 0), none, [3]⟩ } }), 128, 128, 0,
    ⟨5, some (0, 128, 0), none, [3]⟩, by unfold MboxReady; decide +kernel⟩,
   ⟨(sets [(Fld.BOOT_XFER.NEXT_OFFSET, 128)] { W with boot := { xfer := some ⟨5, some (0, 128, 0), none, [3]⟩ } }), 0, 128, 0,
    ⟨5, some (0, 128, 0), none, [3]⟩, by unfold MboxReady; decide +kernel⟩,
   ⟨W, 0, 0, 128, 3, 0, imgW, ⟨5, some (0, 128, 0), none, [3]⟩, (.transferFwFull 0 .fm 2 0 128 0 imgW),
    ⟨(by unfold MboxReady; decide +kernel), rfl, rfl, rfl, by decide, by decide, Or.inr ⟨rfl, rfl, rfl, rfl⟩⟩⟩,
   ⟨(sets [(Fld.BOOT_XFER.NEXT_OFFSET, 128)] { W with boot := { xfer := some ⟨5, some (0, 128, 0), none, [3]⟩ } }), 0, ⟨5, some
    (0, 128, 0), none, [3]⟩, (.transferFwAbort 0 .fm), [.mbox .fm 0 []], ⟨rfl, rfl, Or.inl ⟨rfl, rfl,
    (by unfold MboxReady; decide +kernel), rfl, by decide +kernel⟩⟩⟩,
   ⟨({ W with boot := { xfer := some (Xfer.mk 5 none (some imgW) [3]) } }), 5, 3, _, imgW, [], by (repeat' apply And.intro) <;>
    first | decide +kernel | rfl⟩,
   ⟨({ W with boot := { xfer := some (Xfer.mk 5 none (some imgW) [3]) } }), 5, 3, _, imgW, [], by (repeat' apply And.intro) <;>
    first | decide +kernel | rfl⟩⟩

theorem witness_ActivationMoltAndConfiguration :
  (∃ (s : State), MboxReady s .fm ∧ s.boot.xfer = none) ∧
  (∃ (s : State) (slot : Nat), MboxReady s .fm ∧ slot ≠ 2) ∧
  (∃ (s : State) (k : Nat) (img : Image), MboxReady s .fm ∧ s.boot.xfer = none ∧ s.moltBusy = false ∧ s.stored = some (k, img)
    ∧ s.fget Fld.BOOT_FW.VERSION ≠ img.fwVersion ∧ img.moltFrom ≤ s.fget Fld.BOOT_FW.VERSION ∧ img.ucodeMin ≤ s.fget
    Fld.BOOT_UCODE.RUN_VER) ∧
  (∃ (s : State) (t0 k : Nat) (img : Image), s.molt = some t0 ∧ s.isOpen = true ∧ s.stored = some (k, img) ∧ k < 4) ∧
  (∃ (s : State) (dt t0 : Nat) (loadFailed : Bool), s.molt = some t0 ∧ s.isOpen = true ∧ ((loadFailed = true ∨ t0 + 30000000 ≤
    s.now + dt))) ∧
  (∃ (s : State) (h : Nat) (half : CfgHalf), h < 4 ∧ s.dev ≠ .off ∧ s.isCut = false ∧ s.molt = none ∧ h = s.olderHalf (h / 2)
    ∧ s.nextCfg (h / 2) = some half) ∧
  (∃ (s : State) (c : Nat), s.copySeq c = s.copySeq (1 - c) ∧ s.cfgDue.isSome = true ∧ s.dev ≠ .basin) :=
  ⟨⟨W, by unfold MboxReady; decide +kernel⟩,
   ⟨W, 0, by unfold MboxReady; decide +kernel⟩,
   ⟨({ W with boot := { copies := [(3, imgW)] } }), 3, imgW, by unfold MboxReady; (repeat' apply And.intro) <;>
    first | decide +kernel | rfl | exact best_of rfl⟩,
   ⟨({ W with molt := some 5, boot := { copies := [(3, imgW)] } }), 5, 3, imgW, by (repeat' apply And.intro) <;>
    first | decide +kernel | rfl | exact best_of rfl⟩,
   ⟨({ W with molt := some 5 }), 0, 5, true, by decide +kernel⟩,
   ⟨({ W with cfgDue := some 5 }), 2, _, by (repeat' apply And.intro) <;> first | decide +kernel | rfl⟩,
   ⟨{ W with cfgDue := some 5 }, 0, by decide +kernel⟩⟩

theorem witness_FaultMessagesAreHeldAndCollected :
  (∃ (s : State) (src kind : Nat) (cleared : Bool), Rst.sent src = true ∧ maySend src kind = true ∧ ((cleared = true → kind ∈
    clearKinds)) ∧ ((∀ e ∈ s.flt.hold, e.1 ≠ src))) ∧
  (∃ (s : State) (src kind : Nat) (m : FMsg), Rst.sent src = true ∧ maySend src kind = true ∧ (src, m) ∈ s.flt.hold) ∧
  (∃ (src kind : Nat), maySend src kind = false) ∧
  (∃ (s : State) (i : Nat) (c : Int), i < 12 ∧ 125 < c ∧ i ∉ s.flt.hot ∧ ((∀ e ∈ s.flt.hold, e.1 ≠ srcOf 87 7)) ∧ s.injects
    (srcOf 87 7) i = false) ∧
  (∃ (s : State), s.fmWritable 0x1D0018 = true) ∧
  (∃ (s : State) (dt src : Nat) (m : FMsg), src < 1024 ∧ s.flt.hold.find? (fun e => e.1 == src) = some (src, m) ∧ s.intakeNext
    = some src ∧ m.source = src ∧ m.cleared = false ∧ s.on (Fld.FLT_SRC_CFG.MASK src) = false ∧ s.fget Fld.FLT_CFG.LATCH_MIN ≤
    s.severity src ∧ s.on Fld.FLT_FIRST_INFO.VALID = false ∧ s.flt.seenBeat ≠ (s.elapse dt).curBeat ∧ s.flt.queue.length < 128
    ∧ s.dev ≠ .off) ∧
  (∃ (s : State) (src : Nat) (m : FMsg), src < 1024 ∧ s.flt.hold.find? (fun e => e.1 == src) = some (src, m) ∧ s.intakeNext =
    some src ∧ s.on (Fld.FLT_SRC_CFG.MASK src) = true ∧ s.dev ≠ .off) ∧
  (∃ (s : State), s.dev = .off) :=
  ⟨⟨W, 7, 0x40, true, by decide +kernel⟩,
   ⟨({ W with flt := { hold := [(7, ⟨7, 0x40, 0, false, false, false⟩)] } }), 7, 0x40, ⟨7, 0x40, 0, false, false, false⟩, by
    decide +kernel⟩,
   ⟨0, 0, by decide +kernel⟩,
   ⟨W, 11, 126, by decide +kernel⟩,
   ⟨W, by decide +kernel⟩,
   ⟨({ W with flt := { hold := [(1, ⟨1, 2, 0, false, false, false⟩)], seenBeat := 5 } }), 0, 1, ⟨1, 2, 0, false, false, false⟩,
    by decide +kernel⟩,
   ⟨(sets [(Fld.FLT_SRC_CFG.MASK 1, 1)] { W with flt := { hold := [(1, ⟨1, 2, 0, false, false, false⟩)] } }), 1, ⟨1, 2, 0, false,
    false, false⟩, by decide +kernel⟩,
   ⟨{ W with dev := .off }, by decide +kernel⟩⟩

theorem witness_ReactionsAndTheJournal :
  (∃ (s : State) (q : QMsg) (rest : List QMsg), s.dev ≠ .off ∧ s.flt.queue = q :: rest ∧ q.sev < 5 ∧ s.on
    (Fld.FLT_REACT.JOURNAL q.sev) = true ∧ s.fget Fld.JNL_STS.MODE = 0 ∧ s.flt.staging.length < 56 ∧ q.msg.kind ≠ 0x3F ∧
    q.msg.source ≠ srcOf 81 1 ∧ s.on (Fld.FLT_REACT.ISOLATE q.sev) = false ∧ s.on (Fld.FLT_REACT.PLUNGE q.sev) = false ∧ s.on
    (Fld.FLT_REACT.RESET q.sev) = false ∧ s.fget (Fld.FLT_REACT.EVENT q.sev) = 0) ∧
  (∃ (s : State) (q : QMsg) (rest : List QMsg), s.dev ≠ .off ∧ s.flt.queue = q :: rest ∧ ((s.on (Fld.FLT_REACT.JOURNAL q.sev)
    = false ∨ s.jnlRoom = true)) ∧ s.on (Fld.FLT_REACT.RESET q.sev) = false ∧ s.isoCheck (q.msg.source / 8) ≠ .reset) ∧
  (∃ (s : State) (q : QMsg) (rest : List QMsg), s.flt.queue = q :: rest ∧ s.on (Fld.FLT_REACT.JOURNAL q.sev) = true ∧ s.fget
    Fld.JNL_STS.MODE = 0 ∧ 56 ≤ s.flt.staging.length ∧ q.msg.source ≠ srcOf 81 1) ∧
  (∃ (s : State) (dt copy : Nat) (r : JRec), (s.elapse dt).jnlNext copy = some r ∧ s.jnlWrites copy = true ∧ copy ∉ r.progOn) ∧
  (∃ (s : State) (copy : Nat) (r : JRec), r ∈ s.flt.staging ∧ copy ∈ r.progOn ∧ copy ∉ r.sealedOn ∧ s.jnlWrites copy = true ∧
    ((∀ x ∈ s.flt.flashJnl, x.seq ≤ r.seq)) ∧ ((∀ x ∈ s.flt.staging, x.seq = r.seq → x = r))) :=
  ⟨⟨(sets [(Fld.FLT_REACT.EVENT 2, 0)] { W with flt := { queue := [⟨⟨1, 2, 0, false, false, false⟩, 2, 0, 0, false⟩] } }), ⟨⟨1,
    2, 0, false, false, false⟩, 2, 0, 0, false⟩, [], by decide +kernel⟩,
   ⟨{ W with flt := { queue := [⟨⟨1, 2, 0, false, false, false⟩, 2, 0, 0, false⟩] } }, ⟨⟨1, 2, 0, false, false, false⟩, 2, 0, 0,
    false⟩, [], by decide +kernel⟩,
   ⟨{ W with flt := { queue := [⟨⟨1, 2, 0, false, false, false⟩, 2, 0, 0, false⟩], staging := List.replicate 56 ⟨5, 3, false, 0, 0, [], .staged, [], [], []⟩ } },
    ⟨⟨1, 2, 0, false, false, false⟩, 2, 0, 0, false⟩, [], by decide +kernel⟩,
   ⟨(sets [(Fld.JNL_STS.COPY_OK, 3)] { W with flt := { staging := [⟨5, 3, false, 0, 0, [], .staged, [0], [], []⟩] } }), 0, 1, ⟨5,
    3, false, 0, 0, [], .staged, [0], [], []⟩, by decide +kernel⟩,
   ⟨(sets [(Fld.JNL_STS.COPY_OK, 3)] { W with flt := { staging := [⟨5, 3, false, 0, 0, [], .staged, [1], [], []⟩] } }), 1, ⟨5, 3,
    false, 0, 0, [], .staged, [1], [], []⟩, by decide +kernel⟩⟩

theorem witness_UnitIsolatesAndRecovers :
  (∃ (s : State) (u : Nat), 16 ≤ u ∧ u ≤ 31 ∧ s.unitSt u = 1) ∧
  (∃ (s : State) (u : Nat), ((u < 16 ∨ 31 < u ∨ s.unitSt u ≠ 1))) ∧
  (∃ (s : State) (p n : Nat), s.ldOfPage p = some n ∧ (s.ld n).st = .serving ∧ (s.ld n).pending = []) ∧
  (∃ (s : State) (dt u : Nat), u < 88 ∧ recovers u = true ∧ s.unitSt u = 2 ∧ u ∉ s.flt.byFm ∧ s.dev ≠ .off ∧ tabGet 1 u
    s.flt.quietFrom + 1000000 * s.fget Fld.FLT_CFG.QUIET_MS ≤ s.now + dt + 1) ∧
  (∃ (s : State) (u : Nat), 16 ≤ u ∧ u ≤ 31 ∧ s.unitSt u = 3 ∧ s.flt.bistUnit = none) ∧
  (∃ (s : State) (u : Nat), u < 88 ∧ s.unitSt u = 3 ∧ s.flt.bistUnit ≠ some u) ∧
  (∃ (s : State) (u : Nat), 16 ≤ u ∧ u ≤ 31 ∧ s.unitSt u = 3 ∧ s.flt.bistUnit = none) :=
  ⟨⟨(sets [(Fld.FLT_UNIT_STS.STATE 31, 1)] { W with flt := { } }), 31, by decide +kernel⟩,
   ⟨W, 15, by decide +kernel⟩,
   ⟨({ W with lds := [(31, ldW .serving)] }), 5, 31, by decide +kernel⟩,
   ⟨(sets [(Fld.FLT_UNIT_STS.STATE 81, 2)] { W with flt := { } }), (10 ^ 12), 81, by decide +kernel⟩,
   ⟨(sets [(Fld.FLT_UNIT_STS.STATE 31, 3)] { W with flt := { } }), 31, by decide +kernel⟩,
   ⟨(sets [(Fld.FLT_UNIT_STS.STATE 71, 3)] { W with flt := { } }), 71, by decide +kernel⟩,
   ⟨(sets [(Fld.FLT_UNIT_STS.STATE 16, 3)] { W with flt := { } }), 16, by decide +kernel⟩⟩

theorem witness_FmTestsUnitsAndInjects :
  (∃ (s : State) (u : Nat), s.fmWritable 0x1D0040 = true ∧ s.isOpen = true ∧ 16 ≤ u ∧ u ≤ 31 ∧ s.unitSt u = 0) ∧
  (∃ (s : State) (u : Nat), s.fmWritable 0x1D0040 = true ∧ s.isOpen = true ∧ fmUnit u = true) ∧
  (∃ (s : State) (u : Nat), s.fmWritable 0x1D0040 = true ∧ s.isOpen = true ∧ fmUnit u = true ∧ s.unitSt u = 2 ∧ s.flt.bistUnit
    = none) ∧
  (∃ (s : State) (u : Nat), s.fmWritable 0x1D0058 = true ∧ fmUnit u = true ∧ s.unitSt u = 2 ∧ s.flt.bistUnit = none) ∧
  (∃ (s : State) (u : Nat), s.fmWritable 0x1D0058 = true ∧ fmUnit u = true ∧ s.unitSt u ≠ 2) ∧
  (∃ (s : State) (u fa : Nat), s.flt.bistUnit = some u ∧ s.flt.bistFor = 0 ∧ fa < 2 ^ 32) ∧
  (∃ (s : State) (v : Word), s.fmWritable 0x1D0048 = true ∧ s.dev = .serving ∧ s.col.window = none ∧ v.toNat / 2 ^ 60 % 4 < 2
    ∧ v.toNat / 2 ^ 40 % 256 ≠ 0 ∧ s.unitSt (v.toNat / 2 ^ 48 % 128) = 0) ∧
  (∃ (s : State), s.fmWritable 0x1D0048 = true ∧ s.dev ≠ .serving) :=
  ⟨⟨W, 31, by decide +kernel⟩,
   ⟨W, 31, by decide +kernel⟩,
   ⟨(sets [(Fld.FLT_UNIT_STS.STATE 81, 2)] { W with flt := { } }), 81, by decide +kernel⟩,
   ⟨(sets [(Fld.FLT_UNIT_STS.STATE 81, 2)] { W with flt := { } }), 81, by decide +kernel⟩,
   ⟨(sets [(Fld.FLT_UNIT_STS.STATE 81, 3)] { W with flt := { } }), 81, by decide +kernel⟩,
   ⟨(sets [(Fld.FLT_UNIT_STS.STATE 81, 2)] { W with flt := { bistUnit := some 81 } }), 81, 4294967295, by decide +kernel⟩,
   ⟨W, 0x0000010000000000, by decide +kernel⟩,
   ⟨({ W with dev := .sealed }), by decide +kernel⟩⟩

theorem witness_TestPortFollowsPowerOnReset :
  (∃ (s : State) (op : Nat), 2 < op ∧ s.psq.por = false) ∧
  (∃ (s : State) (op : Nat), op ≠ 1 ∧ ((op ≤ 2 ∨ s.psq.por = true))) :=
  ⟨⟨W, 3, by decide +kernel⟩,
   ⟨W, 0, by decide +kernel⟩⟩

theorem witness_SequencesSwitchRails :
  (∃ (s : State) (dt k : Nat), s.seqSt = 1 ∧ k = (s.now + dt - s.psq.startAt) / 32000 ∧ s.fget Fld.PSQ_STS.PENDING ≠ 2 ∧ ((∀
    r, r < 32 → (s.rail r).timed = false))) ∧
  (∃ (s : State) (dt k : Nat), s.seqSt = 3 ∧ k = (s.now + dt - s.psq.startAt) / 32000 ∧ s.now + dt < s.psq.startAt + 32000 *
    s.lastSlot false) ∧
  (∃ (s : State) (dt : Nat), s.seqSt = 3 ∧ s.psq.startAt + 32000 * s.lastSlot false ≤ s.now + dt ∧ s.fget Fld.PSQ_STS.PENDING
    ≠ 1 ∧ s.psq.failed = false) ∧
  (∃ (s : State) (dt r : Nat), r < 32 ∧ s.seqSt = 1 ∧ s.sequenced r = true ∧ s.on (Fld.PSQ_RAIL_STS.GOOD r) = false ∧ (s.rail
    r).timed = false ∧ s.psq.startAt + 32000 * ((s.rail r).onS + (s.rail r).tmo) ≤ s.now + dt) ∧
  (∃ (s : State) (dt u : Nat), s.psq.retryAt = some u ∧ s.seqSt = 0 ∧ s.on Fld.PSQ_STS.INPUT_GOOD = true ∧ u + 1000000000 ≤
    s.now + dt) ∧
  (∃ (s : State) (dt i u : Nat), i < 8 ∧ s.psq.okSince.find? (fun e => e.1 == i) = some (i, u) ∧ s.rstOk i = true ∧ u +
    1000000 * s.fget (Fld.PSQ_RST_CFG.STRETCH_MS i) ≤ s.now + dt ∧ (s.fget Fld.PSQ_RST_STS.ASSERTED).testBit i = true) ∧
  (∃ (s : State) (dt u : Nat), s.psq.okSince.find? (fun e => e.1 == 8) = some (8, u) ∧ s.rstOk 8 = true ∧ s.psq.por = false ∧
    u + 1000000 ≤ s.now + dt) :=
  ⟨⟨(sets [(Fld.PSQ_STS.STATE, 1)] W), 0, 0, by decide +kernel⟩,
   ⟨{ W with regs := (Fld.PSQ_STS.STATE.bit, 3) :: (List.range 32).map (fun r => ((Fld.PSQ_RAIL_CFG.EN r).bit, 1)), psq := { rails := [(31, { offS := 1 })] } },
    0, 0, by decide +kernel⟩,
   ⟨{ W with regs := (Fld.PSQ_STS.STATE.bit, 3) :: (List.range 32).map (fun r => ((Fld.PSQ_RAIL_CFG.EN r).bit, 0)), psq := { } },
    (10 ^ 12), by decide +kernel⟩,
   ⟨{ W with regs := [((Fld.PSQ_STS.STATE).bit, 1), ((Fld.PSQ_RAIL_CFG.EN 31).bit, 1)], psq := { rails := [(31, { onS := 1, tmo := 1 })] } },
    64000, 31, by decide +kernel⟩,
   ⟨(sets [(Fld.PSQ_STS.INPUT_GOOD, 1)] { W with psq := { retryAt := some 5 } }), 1000000005, 5, by decide +kernel⟩,
   ⟨{ W with regs := [((Fld.PSQ_STS.STATE).bit, 2), ((Fld.PSQ_RST_CFG.MASK 7).bit, 0), ((Fld.PSQ_RST_CFG.STRETCH_MS 7).bit, 1)], psq := { okSince := [(7, 5)] } },
    1000005, 7, 5, by decide +kernel⟩,
   ⟨{ W with regs := (Fld.PSQ_STS.STATE.bit, 2) :: (List.range 32).map (fun r => ((Fld.PSQ_RAIL_CFG.EN r).bit, 0)), psq := { okSince := [(8, 5)] } },
    1000005, 5, by decide +kernel⟩⟩

theorem witness_RailsAreJudged :
  (∃ (s : State) (r : Nat), s.on (Fld.PSQ_RAIL_CFG.EN r) = false) ∧
  (∃ (s : State) (r : Nat), r < 32 ∧ s.on (Fld.PSQ_RAIL_CFG.EN r) = true ∧ ((s.on (Fld.PSQ_RAIL_STS.ENABLED r) = false ∨
    (s.rail r).leaving = true))) ∧
  (∃ (s : State) (r f : Nat), r < 32 ∧ s.on (Fld.PSQ_RAIL_CFG.EN r) = true ∧ s.on (Fld.PSQ_RAIL_STS.ENABLED r) = true ∧
    (s.rail r).leaving = false ∧ f = s.fget (Fld.PSQ_RAIL_CFG.FILTER r) + 1) ∧
  (∃ (s : State) (r : Nat), r < 32 ∧ s.on (Fld.PSQ_RAIL_CFG.EN r) = true ∧ s.on (Fld.PSQ_RAIL_CFG.PG_EN r) = true ∧ s.on
    (Fld.PSQ_RAIL_STS.ENABLED r) = true ∧ (s.rail r).judged = true ∧ (s.rail r).leaving = false) ∧
  (∃ (s : State) (r : Nat), r < 32 ∧ ((s.on (Fld.PSQ_RAIL_STS.ENABLED r) = false ∨ (s.rail r).judged = false ∨ (s.rail
    r).leaving = true ∨ s.on (Fld.PSQ_RAIL_CFG.EN r) = false ∨ s.on (Fld.PSQ_RAIL_CFG.PG_EN r) = false))) :=
  ⟨⟨{ W with regs := [((Fld.PSQ_RAIL_CFG.EN 31).bit, 0)] }, 31, by decide +kernel⟩,
   ⟨{ W with regs := [((Fld.PSQ_RAIL_CFG.EN 31).bit, 1)] }, 31, by decide +kernel⟩,
   ⟨{ W with regs := [((Fld.PSQ_STS.STATE).bit, 2), ((Fld.PSQ_RAIL_CFG.EN 31).bit, 1), ((Fld.PSQ_RAIL_CFG.FILTER 31).bit, 3), ((Fld.PSQ_RAIL_STS.ENABLED 31).bit, 1)] },
    31, 4, by decide +kernel⟩,
   ⟨{ W with regs := [((Fld.PSQ_STS.STATE).bit, 2), ((Fld.PSQ_RAIL_CFG.EN 31).bit, 1), ((Fld.PSQ_RAIL_CFG.PG_EN 31).bit, 1), ((Fld.PSQ_RAIL_STS.ENABLED 31).bit, 1)], psq := { rails := [(31, { judged := true })] } },
    31, by decide +kernel⟩,
   ⟨W, 31, by decide +kernel⟩⟩

theorem witness_HoldupVaonAndPowerOnReset :
  (∃ (s : State), s.on Fld.PSQ_STS.INPUT_LOW = true ∧ s.anyPack = false ∧ s.seqSt ≠ 4 ∧ s.seqSt ≠ 0 ∧ s.seqSt ≠ 5) ∧
  (∃ (s : State), s.seqSt = 4 ∧ ¬ (s.fget Fld.PSQ_STS.PENDING = 1 ∧ s.on Fld.PSQ_STS.INPUT_GOOD = true)) ∧
  (∃ (s : State), s.seqSt = 4 ∧ s.fget Fld.PSQ_STS.PENDING = 1 ∧ s.on Fld.PSQ_STS.INPUT_GOOD = true) ∧
  (∃ (s : State), s.chrys = true ∧ s.chrysPsq ≠ [] ∧ tabSorted s.chrysPsq = true) ∧
  (∃ (s : State) (dt u : Nat), s.psq.okSince.find? (fun e => e.1 == 8) = some (8, u) ∧ s.rstOk 8 = true ∧ u + 1000000 ≤ s.now
    + dt) :=
  ⟨⟨(sets [(Fld.PSQ_STS.STATE, 2), (Fld.PSQ_STS.INPUT_LOW, 1)] W), by decide +kernel⟩,
   ⟨(sets [(Fld.PSQ_STS.STATE, 4)] W), by decide +kernel⟩,
   ⟨(sets [(Fld.PSQ_STS.STATE, 4), (Fld.PSQ_STS.PENDING, 1), (Fld.PSQ_STS.INPUT_GOOD, 1)] W), by decide +kernel⟩,
   ⟨({ W with chrys := true, chrysPsq := [(5, 1)] }), by decide +kernel⟩,
   ⟨{ W with regs := (Fld.PSQ_STS.STATE.bit, 2) :: (List.range 32).map (fun r => ((Fld.PSQ_RAIL_CFG.EN r).bit, 0)), psq := { okSince := [(8, 5)], por := true } },
    1000005, 5, by decide +kernel⟩⟩

theorem witness_DomainRequestsPendCommitOrAbort :
  (∃ (s : State) (d cls mode : Nat), s.policyAllows d cls mode = false) ∧
  (∃ (s : State) (d cls mode : Nat), d < 96 ∧ 0 < mode ∧ mode < 4 ∧ cls ≤ 2 ∧ ((cls = 0 → s.fmWritable 0x1C0200 = true)) ∧
    s.policyAllows d cls mode = true ∧ (s.fset (Fld.PDM_MODE.MODE d) mode).pdmCheck d cls mode = 0 ∧ (s.dom d).window = none ∧
    (s.dom d).mode ≠ mode) ∧
  (∃ (s : State) (d cls mode : Nat), d < 96 ∧ mode < 4 ∧ cls ≤ 2 ∧ ((cls = 0 → s.fmWritable 0x1C0200 = true)) ∧ s.policyAllows
    d cls mode = true ∧ (s.fset (Fld.PDM_MODE.MODE d) mode).pdmCheck d cls mode ≠ 0) ∧
  (∃ (s : State) (dt d cls mode : Nat), d < 96 ∧ (s.dom d).pend = some (mode, cls) ∧ (s.dom d).window = none ∧ (s.elapse
    dt).idleOk d mode = true) ∧
  (∃ (s : State) (dt d cls mode reason : Nat) (c : Instr), d < 96 ∧ cls ≤ 3 ∧ (s.dom d).pend = some (mode, cls) ∧ ((c =
    .domainCancel dt d ∧ reason = 10 ∧ s.fmWritable 0x1C0200 = true ∧ (s.dom d).window = none) ∨ (c = .domainNoIdleTimeout dt
    d ∧ reason = 8 ∧ (s.dom d).since + 10000000 ≤ s.now + dt))) :=
  ⟨⟨(sets [(Fld.PDM_POLICY.FLASH_RET, 0)] W), 28, 2, 1, by decide +kernel⟩,
   ⟨W, 95, 1, 1, by decide +kernel⟩,
   ⟨W, 95, 2, 3, by decide +kernel⟩,
   ⟨({ W with doms := [(95, { pend := some (1, 1) })] }), 0, 95, 1, 1, by decide +kernel⟩,
   ⟨({ W with doms := [(95, { pend := some (1, 1) })] }), 0, 95, 1, 1, 10, (.domainCancel 0 95), by decide +kernel⟩⟩

theorem witness_DomainSwitchesAndWakes :
  (∃ (s : State) (dt d cls mode : Nat), d < 96 ∧ mode < 4 ∧ (s.dom d).window = some (mode, cls) ∧ (s.dom d).next = none ∧
    (s.dom d).winAt + windowNs d mode ≤ s.now + dt ∧ ((mode = 1 → (s.dom d).wakeNext = false ∧ s.fget Fld.PDM_WAKE_STS.LEVEL =
    0))) ∧
  (∃ (s : State) (dt d : Nat), 13 ≤ d ∧ d ≤ 27 ∧ d % 2 = 1 ∧ (s.dom d).waking = true ∧ (s.dom d).wasOff = false ∧ (s.dom
    d).wakeAt + 116000 ≤ s.now + dt ∧ s.fget (Fld.DRC_STS.STATE ((d - 13) / 2)) = 4) ∧
  (∃ (w : Nat), w < 5) ∧
  (∃ (s : State) (dt d : Nat), d < 96 ∧ ¬ (12 ≤ d ∧ d ≤ 27) ∧ (s.dom d).waking = true ∧ (s.dom d).wasOff = false ∧ (s.dom
    d).wakeAt + readyNs d ≤ s.now + dt) ∧
  (∃ (s : State) (dt c p : Nat) (x : Draw), c < 16 ∧ (s.dom (28 + 2 * c)).waking = true ∧ (s.dom (28 + 2 * c)).wasOff = false
    ∧ (s.dom (28 + 2 * c)).wakeAt + 68000 ≤ s.now + dt ∧ (s.dom (29 + 2 * c)).mode = 0 ∧ s.rfl_.draws = [x] ∧ x = ⟨p, false,
    .queued, x.since, x.rebuilt, x.from_, none⟩ ∧ keyDs x.from_ / 32 = c ∧ s.holdsDie (keyDs x.from_) = false ∧ ((∀ e ∈
    s.log.dieOps, e.1 ≠ keyDs x.from_))) ∧
  (∃ (s : State) (dt d : Nat), s.now + dt < (s.dom d).wakeAt + readyNs d) ∧
  (∃ (s : State) (dt d : Nat) (m : Nat × Nat), (s.dom d).window = some m ∧ s.now + dt < (s.dom d).winAt + windowNs d m.1) :=
  ⟨⟨({ W with doms := [(95, { window := some (1, 1) })] }), 6000, 95, 1, 1, by decide +kernel⟩,
   ⟨(sets [(Fld.DRC_STS.STATE 1, 4)] { W with doms := [(15, { waking := true })] }), 116000, 15, by decide +kernel⟩,
   ⟨4, by decide +kernel⟩,
   ⟨({ W with doms := [(95, { waking := true, mode := 1 })] }), 24000, 95, by decide +kernel⟩,
   ⟨({ W with doms := [(58, { waking := true, mode := 1 })], rfl_ := { draws := [⟨5, false, .queued, 0, false, 480 * 2 ^ 35, none⟩] } }),
    68000, 15, 5, ⟨5, false, .queued, 0, false, 480 * 2 ^ 35, none⟩, by decide +kernel⟩,
   ⟨({ W with doms := [(95, { waking := true, mode := 1 })] }), 23999, 95, by decide +kernel⟩,
   ⟨({ W with doms := [(95, { window := some (1, 1) })] }), 5999, 95, (1, 1), by decide +kernel⟩⟩

theorem witness_TwoWireTransactions :
  (∃ (s : State) (a : Nat), s.twbUp = true ∧ s.twb.nakAt = none ∧ a ∈ s.twbAnswers ∧ a < 128) ∧
  (∃ (s : State), s.dev ≠ .off ∧ s.twbUp = false ∧ s.twb.nakAt = none) ∧
  (∃ (s : State) (a : Nat) (code : Option Byte) (bs : List Byte) (f : FrameFail), s.twbUp = true ∧ s.twb.cur = some a ∧ f =
    s.frameFail a ((code.toList ++ bs).map BitVec.toNat)) ∧
  (∃ (s : State), s.twbUp = true) ∧
  (∃ (s : State) (dt t0 : Nat), s.twb.stopAt = some t0 ∧ t0 + 1000000 * s.fget Fld.TWB_CFG.AWAKE_MS ≤ s.now + dt) :=
  ⟨⟨(puts (twbBlank ++ [(Fld.TWB_ADDR.EN 3, 1), (Fld.TWB_ADDR.PROTO 3, 1), (Fld.TWB_ADDR.ADDR 3, 0x44)])
    { W with dev := .serving }), 0x44, by decide +kernel⟩,
   ⟨({ W with doms := [(7, { mode := 1 })] }), by decide +kernel⟩,
   ⟨(puts (twbBlank ++ [(Fld.TWB_ADDR.EN 3, 1), (Fld.TWB_ADDR.PROTO 3, 1), (Fld.TWB_ADDR.ADDR 3, 0x44)])
    { W with twb := { cur := some 0x44 } }), 0x44, none, [], _, by (repeat' apply And.intro) <;> first | decide +kernel | rfl⟩,
   ⟨W, by decide +kernel⟩,
   ⟨({ W with twb := { stopAt := some 5 } }), (10 ^ 12), 5, by decide +kernel⟩⟩

theorem witness_TwoWireRegisterAccess :
  (∃ (s : State) (a off i : Nat), s.twbReg a = some i ∧ s.twbCheck i off false = 0) ∧
  (∃ (s : State) (a off i : Nat), s.twbReg a = some i ∧ s.twbCheck i off true = 0) ∧
  (∃ (s : State) (a off i : Nat), s.twbReg a = some i ∧ s.pecOn a = false ∧ s.twbCheck i off true ≠ 0) ∧
  (∃ (s : State) (a i : Nat), s.twbReg a = some i ∧ s.pecOn a = false) :=
  ⟨⟨(puts (twbBlank ++ [(Fld.TWB_ADDR.EN 3, 1), (Fld.TWB_ADDR.PROTO 3, 1), (Fld.TWB_ADDR.ADDR 3, 0x44), (Fld.TWB_ADDR.WRITE_EN 3,
    1), (Fld.TWB_ADDR.PEC_EN 3, 0)]) { W with dev := .serving }), 0x44, 0x3FFFFC, 3, by decide +kernel⟩,
   ⟨(puts (twbBlank ++ [(Fld.TWB_ADDR.EN 3, 1), (Fld.TWB_ADDR.PROTO 3, 1), (Fld.TWB_ADDR.ADDR 3, 0x44), (Fld.TWB_ADDR.WRITE_EN 3,
    1), (Fld.TWB_ADDR.PEC_EN 3, 0)]) { W with dev := .serving }), 0x44, 0x1DFFFC, 3, by decide +kernel⟩,
   ⟨(puts (twbBlank ++ [(Fld.TWB_ADDR.EN 3, 1), (Fld.TWB_ADDR.PROTO 3, 1), (Fld.TWB_ADDR.ADDR 3, 0x44), (Fld.TWB_ADDR.WRITE_EN 3,
    1), (Fld.TWB_ADDR.PEC_EN 3, 0)]) { W with dev := .serving }), 0x44, 0x3FFFFC, 3, by decide +kernel⟩,
   ⟨(puts (twbBlank ++ [(Fld.TWB_ADDR.EN 3, 1), (Fld.TWB_ADDR.PROTO 3, 1), (Fld.TWB_ADDR.ADDR 3, 0x44), (Fld.TWB_ADDR.WRITE_EN 3,
    1), (Fld.TWB_ADDR.PEC_EN 3, 0)]) { W with dev := .serving }), 0x44, 3, by decide +kernel⟩⟩

theorem witness_MctpMessagesAndPackets :
  (∃ (s : State) (eid : Nat), s.mctpUp = true ∧ 0 < eid ∧ eid < 255) ∧
  (∃ (s : State), s.mctpUp = true) ∧
  (∃ (s : State) (n : Nat), s.mctpUp = true ∧ s.twb.parts = [] ∧ s.twb.queue.length < 4 ∧ n ≤ 64) ∧
  (∃ (s : State) (n ty : Nat), s.mctpUp = true ∧ s.twb.parts = [] ∧ n ≤ 64 ∧ ((ty ≠ 0 ∧ ty ≠ 7) ∨ (ty = 7 ∧ 4 ≤
    s.twb.queue.length))) ∧
  (∃ (s : State) (msg : Instr) (rest : List Instr), s.mctpUp = true ∧ s.twb.queue = msg :: rest) ∧
  (∃ (s : State), s.mctpUp = true ∧ 0 < s.twb.waiting ∧ s.twb.tx = none) ∧
  (∃ (s : State) (w : Nat), s.mctpUp = true ∧ 0 < s.twb.waiting ∧ s.twb.tx = none ∧ w ∉ s.twbAnswers) ∧
  (∃ (s : State) (dt n t0 : Nat), s.mctpUp = true ∧ s.twb.tx = some (n, t0) ∧ s.now + dt ≤ t0 + 100000000 ∧ n + 1 < s.fget
    Fld.TWB_CFG.TX_RETRIES) ∧
  (∃ (s : State) (dt n t0 : Nat), s.mctpUp = true ∧ s.twb.tx = some (n, t0) ∧ s.now + dt ≤ t0 + 100000000) ∧
  (∃ (s : State) (dt n t0 : Nat), s.mctpUp = true ∧ s.twb.tx = some (n, t0) ∧ ((t0 + 100000000 < s.now + dt ∨ s.fget
    Fld.TWB_CFG.TX_RETRIES ≤ n + 1))) :=
  ⟨⟨Wt, 254, by decide +kernel⟩,
   ⟨Wt, by decide +kernel⟩,
   ⟨Wt, 64, by decide +kernel⟩,
   ⟨Wt, 64, 6, by decide +kernel⟩,
   ⟨({ Wt with twb := { queue := [.plungeRepeat] } }), .plungeRepeat, [], by decide +kernel⟩,
   ⟨({ Wt with twb := { waiting := 1 } }), by decide +kernel⟩,
   ⟨({ Wt with twb := { waiting := 1 } }), 0, by decide +kernel⟩,
   ⟨({ Wt with twb := { tx := some (0, 5) } }), 100000005, 0, 5, by decide +kernel⟩,
   ⟨({ Wt with twb := { tx := some (0, 5) } }), 100000005, 0, 5, by decide +kernel⟩,
   ⟨({ Wt with twb := { tx := some (0, 5) } }), 100000006, 0, 5, by decide +kernel⟩⟩

theorem witness_RegisterAccessesByCode :
  (∃ (s : State) (off width : Nat), s.barUp .fm = true ∧ off < 2 ^ 28 ∧ ¬ (width = 32 ∧ off % 4 = 0) ∧ ¬ (width = 64 ∧ off % 8
    = 0)) ∧
  (∃ (s : State), s.barUp .fm = true ∧ s.fmWritable 0x190018 = true) ∧
  (∃ (s : State) (d : Nat), d < 96 ∧ s.barUp .fm = true ∧ s.fmWritable (0x1C0000 + 4 * d) = true) ∧
  (∃ (s : State), s.barUp .fm = true ∧ s.fmWritable 0x1C0480 = true ∧ s.fget Fld.PDM_WAKE_STS.LATCHED < 32) ∧
  (∃ (s : State), s.barUp .fm = true) ∧
  (∃ (s : State), s.barUp .fm = true) ∧
  (∃ (s : State) (hi : Nat), s.barUp .fm = true ∧ s.snaps.find? (fun e => e.1 == 0x1A00B0) = some (0x1A00B0, hi)) ∧
  (∃ (s : State) (c : Nat) (path : Path), s.dev ≠ .off ∧ commitBlocks.any (fun e => e.1 == c) = true ∧ s.mayWrite path c =
    true) :=
  ⟨⟨W, 268435455, 0, by decide +kernel⟩,
   ⟨W, by decide +kernel⟩,
   ⟨W, 95, by decide +kernel⟩,
   ⟨W, by decide +kernel⟩,
   ⟨W, by decide +kernel⟩,
   ⟨W, by decide +kernel⟩,
   ⟨({ W with snaps := [(0x1A00B0, 5)] }), 5, by decide +kernel⟩,
   ⟨W, 0x190004, .fm, by decide +kernel⟩⟩

/-! ## Premises that stand inside a clause -/

theorem witness_TargetOrdersFrames :
  (∀ f : ElyFrame, ∃ body crc, f = ElyFrame.join body crc) ∧
  (∃ f : ElyFrame, f.crcOk = false) ∧
  (∃ f : ElyFrame, f.crcOk = true ∧ f.opcode ≠ 6 ∧ f.fits = false) ∧
  (∃ (s : State) (f : ElyFrame), f.crcOk = true ∧ f.opcode ≠ 6 ∧ f.fits = true ∧ f.roleGen ≠ s.targetGen f.target) ∧
  (∃ (s : State) (f : ElyFrame), f.crcOk = true ∧ f.opcode ≠ 6 ∧ f.fits = true ∧ f.roleGen = s.targetGen f.target ∧
    (s.ely f.src).fenced = true) ∧
  (∃ (s : State) (f : ElyFrame), f.crcOk = true ∧ f.opcode ≠ 6 ∧ f.fits = true ∧ f.roleGen = s.targetGen f.target ∧
    f.shadow = false ∧ (s.ely f.src).rejoining = true) ∧
  (∃ (s : State) (f h : ElyFrame), FramePasses s f ∧ f.seq < (s.space f.target f.shadow).next ∧
    (s.space f.target f.shadow).next ≤ f.seq + 64 ∧
    (s.space f.target f.shadow).kept.find? (fun h => h.seq == f.seq) = some h ∧ h.body = f.body) ∧
  (∃ (s : State) (f h : ElyFrame), FramePasses s f ∧ f.seq < (s.space f.target f.shadow).next ∧
    (s.space f.target f.shadow).next ≤ f.seq + 64 ∧
    (s.space f.target f.shadow).kept.find? (fun h => h.seq == f.seq) = some h ∧ h.body ≠ f.body ∧ f.shadow = false) ∧
  (∃ (s : State) (f h : ElyFrame), FramePasses s f ∧ f.seq < (s.space f.target f.shadow).next ∧
    (s.space f.target f.shadow).next ≤ f.seq + 64 ∧
    (s.space f.target f.shadow).kept.find? (fun h => h.seq == f.seq) = some h ∧ h.body ≠ f.body ∧ f.shadow = true) ∧
  (∃ (s : State) (f : ElyFrame), FramePasses s f ∧ f.seq + 64 < (s.space f.target f.shadow).next) ∧
  (∃ (s : State) (f : ElyFrame), FramePasses s f ∧ (s.space f.target f.shadow).next < f.seq ∧
    f.seq ≤ (s.space f.target f.shadow).next + 4 ∧ (s.space f.target f.shadow).hold.length < 4 ∧
    (s.space f.target f.shadow).hold.find? (fun h => h.1.seq == f.seq) = none) ∧
  (∃ (s : State) (f : ElyFrame), FramePasses s f ∧ f.shadow = true ∧ f.seq = (s.space f.target f.shadow).next ∧
    (s.space f.target f.shadow).hold = []) :=
  ⟨fun f => ⟨_, _, elyFrame_join f⟩, ⟨⟨0⟩, by decide +kernel⟩, ⟨elyW 1 0x300, by decide +kernel⟩,
   ⟨{ W with spill := { roleGen := 1 } }, elyW 1 0x20F, by decide +kernel⟩,
   ⟨{ W with elys := [(0, { fenced := true })] }, elyW 1 0x20F, by decide +kernel⟩,
   ⟨{ W with elys := [(0, { rejoining := true })] }, elyW 1 0x20F, by decide +kernel⟩,
   ⟨{ W with targets := [(0x20F, { spill := { next := 65, kept := [elyW 1 0x20F] } })] }, elyW 1 0x20F, elyW 1 0x20F,
    by unfold FramePasses; decide +kernel⟩,
   ⟨{ W with targets := [(0x20F, { spill := { next := 65, kept := [elyW 1 0x200] } })] }, elyW 1 0x20F, elyW 1 0x200,
    by unfold FramePasses; decide +kernel⟩,
   ⟨{ W with targets := [(0x20F, { shadow := { next := 65, kept := [elyW 1 0x200] } })] },
    ElyFrame.make 1 0 true 0 1 0x20F [], elyW 1 0x200, by unfold FramePasses; decide +kernel⟩,
   ⟨{ W with targets := [(0x20F, { spill := { next := 66 } })] }, elyW 1 0x20F, by unfold FramePasses; decide +kernel⟩,
   ⟨W, ElyFrame.make 1 0 false 0 5 0x20F [], by unfold FramePasses; decide +kernel⟩,
   ⟨W, ElyFrame.make 1 0 true 0 1 0x20F [], by unfold FramePasses; decide +kernel⟩⟩

/-- UnitIsolatesAndRecovers and FmTestsUnitsAndInjects: each way that the isolation of a unit is decided (R364). -/
theorem witness_isolation_decisions :
  (∃ (s : State) (u : Nat), s.isOpen = true ∧ fmUnit u = true ∧ s.isoCheck u = .taken) ∧
  (∃ (s : State) (u : Nat), s.isOpen = true ∧ fmUnit u = true ∧ s.isoCheck u = .refused) ∧
  (∃ (s : State) (u : Nat), s.isOpen = true ∧ fmUnit u = true ∧ s.isoCheck u = .none) :=
  ⟨⟨W, 71, by decide +kernel⟩,
   ⟨sets ((List.range 10).map (fun k => (Fld.SCB_CL_STS.STATE k, 2))) W, 71, by decide +kernel⟩,
   ⟨sets [(Fld.FLT_UNIT_STS.STATE 81, 2)] W, 81, by decide +kernel⟩⟩

/-- PortsSelectionAndPeriodicFrames, both ways to lift an isolation. -/
theorem witness_isolation_lifts :
  (∃ (s : State) (p : Nat), p < 4 ∧ s.portIso p = true ∧ s.on Fld.COL_ISO_CFG.AUTO_LIFT = true ∧
    (s.port p).winStart + 2 ≤ s.curBeat / 1024) ∧
  (∃ (s : State) (p : Nat), p < 4 ∧ s.portIso p = true ∧ s.fmWritable 0x190060 = true) :=
  ⟨⟨sets [(Fld.COL_PORT_STS.ISOLATED 3, 1)] { W with colTime := 2048 * 8192 }, 3, by decide +kernel⟩,
   ⟨sets [(Fld.COL_PORT_STS.ISOLATED 3, 1)] W, 3, by decide +kernel⟩⟩

/-- RehearsalRunsAndPublishes, whether its conditions hold or not. -/
theorem witness_rehearsal_go :
  (∃ s : State, s.fmWritable 0x1A0098 = true ∧ s.rehearsing = false ∧ s.rehOk = true) ∧
  (∃ s : State, s.fmWritable 0x1A0098 = true ∧ s.rehearsing = false ∧ s.rehOk = false) :=
  ⟨⟨W, by decide +kernel⟩, ⟨{ W with dev := .refilling }, by decide +kernel⟩⟩

/-- PortReads and PortProgramsErasesAndProtection, the port ready for each of their commands. -/
theorem witness_port_commands :
  (∀ op ∈ [2, 3], ∃ (s : State), FlmReady s 0 op ∧ FlmAt s 96 0 511 3 15 ∧ s.flmDie 96 = true ∧
    s.log.dieOps.all (fun e => e.1 != 96) = true) ∧
  (∀ op ∈ [0x10, 0x20], ∃ (s : State), FlmReady s 0 op ∧ FlmAt s 96 0 511 3 15 ∧ s.flmDie 96 = true ∧
    s.flmMayWrite 96 0 false = 0 ∧ s.flmPageOk 0 511 false = true ∧ s.flmPageOk 0 0 false = true ∧
    s.pageErased 96 0 511 3 = true) := by
  constructor <;> intro op h <;> refine ⟨portW 4 op, ?_⟩ <;> unfold FlmReady FlmAt <;>
    (rcases List.mem_cons.1 h with rfl | h <;> [skip; (cases List.mem_singleton.1 h)]) <;> decide +kernel

/-- MailboxSettingsAreStored: records at the front of a log, named by their handles. -/
theorem witness_records_cleared : ∃ (s : State) (l : Nat) (hs : List Nat), MboxReady s .fm ∧ l ≤ 3 ∧ hs ≠ [] ∧
    (((s.mb (mboxKey .fm)).log l).recs.take hs.length).map (·.handle) = hs :=
  ⟨{ W with mbx := [(32, { logs := [(3, { recs := [⟨9, 0, []⟩, ⟨10, 0, []⟩], next := 11 })] })] }, 3, [9],
   by unfold MboxReady; decide +kernel⟩

/-- VendorCommandsActOnLds: an LD bound already, one that is not, and one that may not resume. -/
theorem witness_vendor_refusals :
  (∃ (s : State) (n : Nat), FmMayChange s ∧ n < 32 ∧ s.bound n = true ∧ s.mayResume n = false) ∧
  (∃ (s : State) (n : Nat), FmMayChange s ∧ n < 32 ∧ s.bound n = false) :=
  ⟨⟨{ W with lds := ldsW .serving }, 31, by unfold FmMayChange MboxReady; decide +kernel⟩,
   ⟨W, 31, by unfold FmMayChange MboxReady; decide +kernel⟩⟩

end Sys2Proof.Tests
end

/-! # Every step keeps the state's tables in canonical form (O3)

One lemma per operation of the model: from a state whose tables are in order the operation leads to such a state. The
lemmas are named after the operations and take the hypothesis first, so that the proof for an operation reads as the
operation does, `h.modRing.fset.emit` for `((s.modRing …).fset …).emit …`. The last of them runs through the commands
of `exec`. A `let` of an operation that holds a whole state is made opaque (`clear_value`) before a record update of it is
compared. -/

namespace Sys2Proof
open Machine

/-! ## Tables while their keys are put in order -/

/-- Every entry outside `U` stands behind smaller keys only: the table is sorted, but for the keys in `U`. -/
def RisingBut {α : Type} (U : Nat → Prop) (m : List (Nat × α)) : Prop :=
  m.Pairwise (fun a b => U b.1 ∨ a.1 < b.1)

theorem risingBut_false {α : Type} {m : List (Nat × α)} : RisingBut (fun _ => False) m ↔ tabSorted m = true := by
  rw [tabSorted_iff]; simp [RisingBut, Rising]

theorem RisingBut.mono {α : Type} {U V : Nat → Prop} {m : List (Nat × α)} (h : RisingBut U m)
    (hUV : ∀ e ∈ m, U e.1 → V e.1) : RisingBut V m :=
  (List.Pairwise.and_mem.1 h).imp fun ⟨_, hb, hab⟩ => hab.imp_left (hUV _ hb)

theorem RisingBut.map {α β : Type} {U : Nat → Prop} {m : List (Nat × α)} {f : Nat × α → Nat × β}
    (hf : ∀ e, (f e).1 = e.1) (h : RisingBut U m) : RisingBut U (m.map f) := by
  simpa [RisingBut, List.pairwise_map, hf] using h

/-- An insertion puts its own key in its place, whatever disorder the other keys are in. -/
theorem RisingBut.tabIns {α : Type} {U : Nat → Prop} {k : Nat} (v : α) {m : List (Nat × α)} (h : RisingBut U m)
    (hk : ∀ e ∈ m, e.1 ≠ k) : RisingBut (fun j => U j ∧ j ≠ k) (Machine.tabIns k v m) := by
  induction m with
  | nil => simp [Machine.tabIns, RisingBut]
  | cons e r ih =>
    obtain ⟨he, hr⟩ : (∀ a ∈ r, U a.1 ∨ e.1 < a.1) ∧ RisingBut U r := List.pairwise_cons.1 h
    have hek : e.1 ≠ k := hk e (by simp)
    have hrk : ∀ a ∈ r, a.1 ≠ k := fun a ha => hk a (by simp [ha])
    have hr' : RisingBut (fun j => U j ∧ j ≠ k) r := hr.mono fun a ha hU => ⟨hU, hrk a ha⟩
    by_cases hl : k < e.1
    · simp only [Machine.tabIns, hl, if_true]
      refine List.pairwise_cons.2 ⟨fun a ha => ?_, List.pairwise_cons.2 ⟨fun a ha => ?_, hr'⟩⟩
      · rcases List.mem_cons.1 ha with rfl | ha
        · exact .inr hl
        · exact (he a ha).imp (fun hU => ⟨hU, hrk a ha⟩) hl.trans
      · exact (he a ha).imp_left fun hU => ⟨hU, hrk a ha⟩
    · simp only [Machine.tabIns, hl, if_false]
      refine List.pairwise_cons.2 ⟨fun a ha => ?_, ih hr hrk⟩
      rcases mem_tabIns ha with rfl | ha
      · exact .inr (by simp only; omega)
      · exact (he a ha).imp_left fun hU => ⟨hU, hrk a ha⟩

theorem RisingBut.tabSet {α : Type} [DecidableEq α] {U : Nat → Prop} (d v : α) (k : Nat) {m : List (Nat × α)}
    (h : RisingBut U m) : RisingBut (fun j => U j ∧ j ≠ k) (Machine.tabSet d k v m) := by
  have hdel : RisingBut U (tabDel k m) := by rw [tabDel_eq_filter]; exact h.filter _
  have hk : ∀ e ∈ tabDel k m, e.1 ≠ k := by rw [tabDel_eq_filter]; simp
  unfold Machine.tabSet; split
  · exact hdel.mono fun e he hU => ⟨hU, hk e he⟩
  · exact hdel.tabIns v hk

/-! ## The invariant -/

/-- The tables are canonical, but for the order of the rings of `U`. A step keeps this with no ring in `U`, which is
`Canonical` (`tidy_false`); with every ring in `U` it speaks of the states inside a start, where the rings come back
from a sealed image in any order. -/
structure Tidy (U : Nat → Prop) (s : State) : Prop where
  canonical : Canonical { s with rings := [] }
  rings : RisingBut U s.rings

theorem tidy_false {s : State} : Tidy (fun _ => False) s ↔ Canonical s :=
  ⟨fun h => { h.canonical with rings := risingBut_false.1 h.rings },
   fun h => ⟨{ h with rings := rfl }, risingBut_false.2 h.rings⟩⟩

namespace Tidy

section Tables
variable {U V : Nat → Prop} {s : State}

/-- What is no table does not matter. -/
theorem rest
    {pending now colTime beat freeCtr out staged captured commitHeld snaps heldLow cfgDue dev col tx flt fab recIdx
    stripesOn rill log rfl_ accSeq rngAt molt spill sealedImg mapGrain mapHash reservePm psq pdmLock vaonAt chrys
    chrysPsq timeLost cis boot flm twb}
    (h : Tidy U s) : Tidy U { s with
      pending := pending, now := now, colTime := colTime, beat := beat, freeCtr := freeCtr, out := out,
      staged := staged, captured := captured, commitHeld := commitHeld, snaps := snaps, heldLow := heldLow,
      cfgDue := cfgDue, dev := dev, col := col, tx := tx, flt := flt, fab := fab, recIdx := recIdx,
      stripesOn := stripesOn, rill := rill, log := log, rfl_ := rfl_, accSeq := accSeq, rngAt := rngAt, molt := molt,
      spill := spill, sealedImg := sealedImg, mapGrain := mapGrain, mapHash := mapHash, reservePm := reservePm,
      psq := psq, pdmLock := pdmLock, vaonAt := vaonAt, chrys := chrys, chrysPsq := chrysPsq, timeLost := timeLost,
      cis := cis, boot := boot, flm := flm, twb := twb } :=
  ⟨{ h.canonical with }, h.rings⟩

theorem mono (h : Tidy U s) (hUV : ∀ k, U k → V k) : Tidy V s := ⟨h.canonical, h.rings.mono fun e _ => hUV e.1⟩

/-! Each table: written, filtered, mapped or emptied. -/

theorem regs_set {d k v} (h : Tidy U s) : Tidy U { s with regs := tabSet d k v s.regs } :=
  ⟨{ h.canonical with regs := tabSorted_tabSet _ _ _ h.canonical.regs }, h.rings⟩
theorem regs_filter {p} (h : Tidy U s) : Tidy U { s with regs := s.regs.filter p } :=
  ⟨{ h.canonical with regs := tabSorted_filter _ h.canonical.regs }, h.rings⟩
theorem regs_of {m} (h : Tidy U s) (hm : tabSorted m = true) : Tidy U { s with regs := m } :=
  ⟨{ h.canonical with regs := hm }, h.rings⟩
theorem lds_set {d k v} (h : Tidy U s) : Tidy U { s with lds := tabSet d k v s.lds } :=
  ⟨{ h.canonical with lds := tabSorted_tabSet _ _ _ h.canonical.lds }, h.rings⟩
theorem lds_map {f} (h : Tidy U s) (hf : ∀ e, (f e).1 = e.1 := by intro e; rfl) :
    Tidy U { s with lds := s.lds.map f } :=
  ⟨{ h.canonical with lds := tabSorted_map _ hf h.canonical.lds }, h.rings⟩
theorem mbx_set {d k v} (h : Tidy U s) : Tidy U { s with mbx := tabSet d k v s.mbx } :=
  ⟨{ h.canonical with mbx := tabSorted_tabSet _ _ _ h.canonical.mbx }, h.rings⟩
theorem mbx_map {f} (h : Tidy U s) (hf : ∀ e, (f e).1 = e.1 := by intro e; rfl) :
    Tidy U { s with mbx := s.mbx.map f } :=
  ⟨{ h.canonical with mbx := tabSorted_map _ hf h.canonical.mbx }, h.rings⟩
theorem doms_set {d k v} (h : Tidy U s) : Tidy U { s with doms := tabSet d k v s.doms } :=
  ⟨{ h.canonical with doms := tabSorted_tabSet _ _ _ h.canonical.doms }, h.rings⟩
theorem doms_filter {p} (h : Tidy U s) : Tidy U { s with doms := s.doms.filter p } :=
  ⟨{ h.canonical with doms := tabSorted_filter _ h.canonical.doms }, h.rings⟩
theorem doms_nil (h : Tidy U s) : Tidy U { s with doms := [] } :=
  ⟨{ h.canonical with doms := rfl }, h.rings⟩
theorem pages_set {d k v} (h : Tidy U s) : Tidy U { s with pages := tabSet d k v s.pages } :=
  ⟨{ h.canonical with pages := tabSorted_tabSet _ _ _ h.canonical.pages }, h.rings⟩
theorem pages_filter {p} (h : Tidy U s) : Tidy U { s with pages := s.pages.filter p } :=
  ⟨{ h.canonical with pages := tabSorted_filter _ h.canonical.pages }, h.rings⟩
theorem pages_map {f} (h : Tidy U s) (hf : ∀ e, (f e).1 = e.1 := by intro e; rfl) :
    Tidy U { s with pages := s.pages.map f } :=
  ⟨{ h.canonical with pages := tabSorted_map _ hf h.canonical.pages }, h.rings⟩
theorem pages_nil (h : Tidy U s) : Tidy U { s with pages := [] } :=
  ⟨{ h.canonical with pages := rfl }, h.rings⟩
theorem eddy_set {d k v} (h : Tidy U s) : Tidy U { s with eddy := tabSet d k v s.eddy } :=
  ⟨{ h.canonical with eddy := tabSorted_tabSet _ _ _ h.canonical.eddy }, h.rings⟩
theorem eddy_filter {p} (h : Tidy U s) : Tidy U { s with eddy := s.eddy.filter p } :=
  ⟨{ h.canonical with eddy := tabSorted_filter _ h.canonical.eddy }, h.rings⟩
theorem eddy_map {f} (h : Tidy U s) (hf : ∀ e, (f e).1 = e.1 := by intro e; rfl) :
    Tidy U { s with eddy := s.eddy.map f } :=
  ⟨{ h.canonical with eddy := tabSorted_map _ hf h.canonical.eddy }, h.rings⟩
theorem eddy_del {k} (h : Tidy U s) : Tidy U { s with eddy := tabDel k s.eddy } :=
  ⟨{ h.canonical with eddy := tabSorted_tabDel _ h.canonical.eddy }, h.rings⟩
theorem eddy_nil (h : Tidy U s) : Tidy U { s with eddy := [] } :=
  ⟨{ h.canonical with eddy := rfl }, h.rings⟩
theorem chans_set {d k v} (h : Tidy U s) : Tidy U { s with chans := tabSet d k v s.chans } :=
  ⟨{ h.canonical with chans := tabSorted_tabSet _ _ _ h.canonical.chans }, h.rings⟩
theorem chans_map {f} (h : Tidy U s) (hf : ∀ e, (f e).1 = e.1 := by intro e; rfl) :
    Tidy U { s with chans := s.chans.map f } :=
  ⟨{ h.canonical with chans := tabSorted_map _ hf h.canonical.chans }, h.rings⟩
theorem elys_set {d k v} (h : Tidy U s) : Tidy U { s with elys := tabSet d k v s.elys } :=
  ⟨{ h.canonical with elys := tabSorted_tabSet _ _ _ h.canonical.elys }, h.rings⟩
theorem elys_of {m} (h : Tidy U s) (hm : tabSorted m = true) : Tidy U { s with elys := m } :=
  ⟨{ h.canonical with elys := hm }, h.rings⟩
theorem targets_set {d k v} (h : Tidy U s) : Tidy U { s with targets := tabSet d k v s.targets } :=
  ⟨{ h.canonical with targets := tabSorted_tabSet _ _ _ h.canonical.targets }, h.rings⟩
theorem targets_map {f} (h : Tidy U s) (hf : ∀ e, (f e).1 = e.1 := by intro e; rfl) :
    Tidy U { s with targets := s.targets.map f } :=
  ⟨{ h.canonical with targets := tabSorted_map _ hf h.canonical.targets }, h.rings⟩
theorem targets_nil (h : Tidy U s) : Tidy U { s with targets := [] } :=
  ⟨{ h.canonical with targets := rfl }, h.rings⟩
theorem cfgHalf_map {f} (h : Tidy U s) (hf : ∀ e, (f e).1 = e.1 := by intro e; rfl) :
    Tidy U { s with cfgHalf := s.cfgHalf.map f } :=
  ⟨{ h.canonical with cfgHalf := tabSorted_map _ hf h.canonical.cfgHalf }, h.rings⟩
theorem cfgHalf_del {k} (h : Tidy U s) : Tidy U { s with cfgHalf := tabDel k s.cfgHalf } :=
  ⟨{ h.canonical with cfgHalf := tabSorted_tabDel _ h.canonical.cfgHalf }, h.rings⟩
theorem cfgHalf_of {m} (h : Tidy U s) (hm : tabSorted m = true) : Tidy U { s with cfgHalf := m } :=
  ⟨{ h.canonical with cfgHalf := hm }, h.rings⟩
theorem poison_set {d k v} (h : Tidy U s) : Tidy U { s with poison := tabSet d k v s.poison } :=
  ⟨{ h.canonical with poison := tabSorted_tabSet _ _ _ h.canonical.poison }, h.rings⟩
theorem poison_filter {p} (h : Tidy U s) : Tidy U { s with poison := s.poison.filter p } :=
  ⟨{ h.canonical with poison := tabSorted_filter _ h.canonical.poison }, h.rings⟩
theorem poison_nil (h : Tidy U s) : Tidy U { s with poison := [] } :=
  ⟨{ h.canonical with poison := rfl }, h.rings⟩
theorem flash_set {d k v} (h : Tidy U s) : Tidy U { s with flash := tabSet d k v s.flash } :=
  ⟨{ h.canonical with flash := tabSorted_tabSet _ _ _ h.canonical.flash }, h.rings⟩
theorem flash_filter {p} (h : Tidy U s) : Tidy U { s with flash := s.flash.filter p } :=
  ⟨{ h.canonical with flash := tabSorted_filter _ h.canonical.flash }, h.rings⟩
theorem dram_filter {p} (h : Tidy U s) : Tidy U { s with dram := s.dram.filter p } :=
  ⟨{ h.canonical with dram := tabWf_filter _ _ h.canonical.dram }, h.rings⟩
theorem dram_of {m} (h : Tidy U s) (hm : tabWf (0 : Byte) m = true) : Tidy U { s with dram := m } :=
  ⟨{ h.canonical with dram := hm }, h.rings⟩
theorem dram_nil (h : Tidy U s) : Tidy U { s with dram := [] } :=
  ⟨{ h.canonical with dram := rfl }, h.rings⟩

theorem dram_foldl {α : Type} {l : List α} {k : α → Nat} {v : α → Byte} (h : Tidy U s) :
    Tidy U { s with dram := l.foldl (fun m e => tabSet 0 (k e) (v e) m) s.dram } :=
  h.dram_of (tabWf_foldl _ _ (fun _ _ hm => tabWf_tabSet _ _ _ hm) _ h.canonical.dram)

theorem regs_foldl {l : List (Nat × Nat)} (h : Tidy U s) :
    Tidy U { s with regs := l.foldl (fun m e => tabIns e.1 e.2 (tabDel e.1 m)) s.regs } :=
  h.regs_of (tabSorted_foldl _ (fun _ _ hm => tabSorted_tabInsDel _ _ hm) _ h.canonical.regs)

theorem rings_map {f : Nat × Ring → Nat × Ring} (h : Tidy U s)
    (hf : ∀ e, (f e).1 = e.1 := by intro e; rfl) :
    Tidy U { s with rings := s.rings.map f } :=
  ⟨{ h.canonical with }, h.rings.map hf⟩

theorem rings_nil (h : Tidy U s) : Tidy U { s with rings := [] } :=
  ⟨{ h.canonical with }, List.Pairwise.nil⟩

/-- A ring that is written stands in its place again. -/
theorem rings_set_clears {v k} (h : Tidy U s) :
    Tidy (fun j => U j ∧ j ≠ k) { s with rings := tabSet Ring.new k v s.rings } :=
  ⟨{ h.canonical with }, h.rings.tabSet _ _ _⟩

theorem rings_set {v k} (h : Tidy U s) : Tidy U { s with rings := tabSet Ring.new k v s.rings } :=
  h.rings_set_clears.mono fun _ => And.left

theorem rings_of {m : List (Nat × Ring)} (h : Tidy U s) : Tidy (fun _ => True) { s with rings := m } :=
  ⟨{ h.canonical with }, List.pairwise_of_forall fun _ _ => .inl trivial⟩

end Tables

/-! ## Branches and folds -/

section Control
variable {U : Nat → Prop} {s : State}

theorem ite {c : Prop} {_ : Decidable c} {a b : State} (ha : Tidy U a) (hb : Tidy U b) :
    Tidy U (if c then a else b) := by
  split
  · exact ha
  · exact hb

theorem ite_fst {α : Type} {c : Prop} {_ : Decidable c} {a b : State × α} (ha : Tidy U a.1) (hb : Tidy U b.1) :
    Tidy U (if c then a else b).1 := by
  split
  · exact ha
  · exact hb

theorem pair {α : Type} {x : α} (h : Tidy U s) : Tidy U (s, x).1 := h

theorem foldl {α : Type} {l : List α} {f : State → α → State} (h : Tidy U s)
    (hf : ∀ {s a}, Tidy U s → Tidy U (f s a)) : Tidy U (l.foldl f s) := by
  induction l generalizing s with
  | nil => exact h
  | cons a l ih => exact ih (hf h)

theorem foldl_fst {α β : Type} {l : List α} {f : State × β → α → State × β} {x : State × β} (h : Tidy U x.1)
    (hf : ∀ {x a}, Tidy U x.1 → Tidy U (f x a).1) : Tidy U (l.foldl f x).1 := by
  induction l generalizing x with
  | nil => exact h
  | cons a l ih => exact ih (hf h)

theorem forUpto {n : Nat} {f : Nat → State → State} (h : Tidy U s) (hf : ∀ {i s}, Tidy U s → Tidy U (f i s)) :
    Tidy U (Machine.forUpto n f s) := h.foldl hf

theorem getD {o : Option State} (h : Tidy U s) (ho : ∀ t ∈ o, Tidy U t) : Tidy U (o.getD s) := by
  cases o with
  | none => exact h
  | some t => exact ho t rfl

theorem mem_bind {α : Type} {o : Option α} {f : α → Option State} (hf : ∀ a, ∀ t ∈ f a, Tidy U t) :
    ∀ t ∈ o.bind f, Tidy U t := fun t ht => by
  obtain ⟨a, -, ha⟩ := Option.bind_eq_some_iff.1 ht
  exact hf a t ha

theorem mem_map {α : Type} {o : Option α} {f : α → State} (hf : ∀ a, Tidy U (f a)) :
    ∀ t ∈ o.map f, Tidy U t := fun t ht => by
  obtain ⟨a, -, rfl⟩ := Option.map_eq_some_iff.1 ht
  exact hf a

/-- Any disorder is that of the rings that are there. -/
theorem of_keys (h : Tidy (fun _ => True) s) : Tidy (fun k => ∃ e ∈ s.rings, e.1 = k) s :=
  ⟨h.canonical, h.rings.mono fun e he _ => ⟨e, he, rfl⟩⟩

/-- A pass over the rings in disorder that puts each in its place leaves none. -/
theorem foldl_clears {l : List (Nat × Ring)} {f : State → Nat × Ring → State} (h : Tidy (fun k => ∃ e ∈ l, e.1 = k) s)
    (hf : ∀ {V s e}, Tidy V s → Tidy (fun k => V k ∧ k ≠ e.1) (f s e)) : Tidy U (l.foldl f s) := by
  induction l generalizing s with
  | nil => exact h.mono (by simp)
  | cons e l ih =>
    refine ih ((hf h).mono ?_)
    rintro k ⟨⟨a, ha, rfl⟩, hk⟩
    exact ⟨a, (List.mem_cons.1 ha).resolve_left (fun he => hk (he ▸ rfl)), rfl⟩

end Control

/-! ## The operations of the model, in the order of their files -/

section Operations
variable {U : Nat → Prop} {s : State}

/-! ### Register fields and the flags that go with counters -/

theorem fset {f v} (h : Tidy U s) : Tidy U (s.fset f v) := h.regs_set
theorem fput {f b} (h : Tidy U s) : Tidy U (s.fput f b) := h.fset
theorem fsat {f v} (h : Tidy U s) : Tidy U (s.fsat f v) := h.fset
theorem bump {cnt sat n} (h : Tidy U s) : Tidy U (s.bump cnt sat n) := h.fset.ite h.fset.fset
theorem wrap {cnt ovf n} (h : Tidy U s) : Tidy U (s.wrap cnt ovf n) := h.fset.ite h.fset.fset
theorem satUp {cnt n} (h : Tidy U s) : Tidy U (s.satUp cnt n) := h.fsat

/-! ### The operations every unit shares -/

theorem emit {o} (h : Tidy U s) : Tidy U (s.emit o) := h.rest
theorem emits {os} (h : Tidy U s) : Tidy U (s.emits os) := h.rest
theorem startFrame {p f at_ rest} (h : Tidy U s) : Tidy U (s.startFrame p f at_ rest) := h.rest.emit

theorem txStep {p} (h : Tidy U s) : Tidy U (s.txStep p) := by
  unfold State.txStep; extract_lets; split
  · exact h.startFrame.ite h
  · exact h

theorem txDrain (h : Tidy U s) : Tidy U s.txDrain := h.foldl fun h => h.forUpto txStep
theorem sendFrame {p f} (h : Tidy U s) : Tidy U (s.sendFrame p f) := h.startFrame.ite h.rest
theorem elapse {dt} (h : Tidy U s) : Tidy U (s.elapse dt) := h.rest.txDrain
theorem setDev {d} (h : Tidy U s) : Tidy U (s.setDev d) := h.rest.fset
theorem viaReg {off f} (h : Tidy U s) (hf : ∀ {s}, Tidy U s → Tidy U (f s)) : Tidy U (s.viaReg off f) :=
  (hf h).ite h
theorem deny (h : Tidy U s) : Tidy U s.deny := h.bump
theorem setLd {n l} (h : Tidy U s) : Tidy U (s.setLd n l) := h.lds_set
theorem modLd {n f} (h : Tidy U s) : Tidy U (s.modLd n f) := h.setLd
theorem setLdState {n st} (h : Tidy U s) : Tidy U (s.setLdState n st) := h.modLd.fset
theorem modMb {k f} (h : Tidy U s) : Tidy U (s.modMb k f) := h.mbx_set
theorem postEvent {k log kind words} (h : Tidy U s) : Tidy U (s.postEvent k log kind words) :=
  h.modMb.emit.ite h.modMb
theorem modFlt {f} (h : Tidy U s) : Tidy U (s.modFlt f) := h.rest
theorem modCol {f} (h : Tidy U s) : Tidy U (s.modCol f) := h.rest
theorem modFab {f} (h : Tidy U s) : Tidy U (s.modFab f) := h.rest
theorem countLost {src} (h : Tidy U s) : Tidy U (s.countLost src) := h.bump.modFlt

theorem sendMsg {src kind addr cleared injected} (h : Tidy U s) :
    Tidy U (s.sendMsg src kind addr cleared injected) :=
  h.ite (h.countLost.ite h.modFlt)

theorem fault {src kind addr cleared} (h : Tidy U s) : Tidy U (s.fault src kind addr cleared) :=
  h.fset.sendMsg.ite h.sendMsg
theorem setUnit {u st} (h : Tidy U s) : Tidy U (s.setUnit u st) := h.fset.fput.fset
theorem overrun {x} (h : Tidy U s) : Tidy U (s.overrun x) := h.bump.fault.modCol.ite h
theorem blockReset {p} (h : Tidy U s) : Tidy U (s.blockReset p) := h.rest
theorem showJnl (h : Tidy U s) : Tidy U s.showJnl := h.fset
theorem journalAt {b kind gen payload} (h : Tidy U s) : Tidy U (s.journalAt b kind gen payload) :=
  h.bump.ite h.modFlt.fset.showJnl
theorem journal {kind gen payload} (h : Tidy U s) : Tidy U (s.journal kind gen payload) := h.journalAt

/-! ### Pages, their lines and the weir's shares -/

theorem writeBytes {a d mask} (h : Tidy U s) : Tidy U (s.writeBytes a d mask) := by
  refine h.dram_of (tabWf_foldl _ _ (fun m i hm => ?_) _ h.canonical.dram)
  beta_reduce; split
  · exact tabWf_tabSet _ _ _ hm
  · exact hm

theorem setPoison {n b} (h : Tidy U s) : Tidy U (s.setPoison n b) := h.poison_set
theorem zeroPage {p} (h : Tidy U s) : Tidy U (s.zeroPage p) := h.dram_filter.forUpto fun h => h.setPoison.ite h

theorem restore {p c} (h : Tidy U s) : Tidy U (s.restore p c) := by
  unfold State.restore
  exact h.zeroPage.dram_foldl.foldl setPoison

theorem setPage {p r} (h : Tidy U s) : Tidy U (s.setPage p r) := h.pages_set.ite h.pages_set.modLd
theorem setPState {p st} (h : Tidy U s) : Tidy U (s.setPState p st) := h.setPage
theorem recount {n} (h : Tidy U s) : Tidy U (s.recount n) := h.modLd
theorem showSlots (h : Tidy U s) : Tidy U s.showSlots := h.fset
theorem modRill {f} (h : Tidy U s) : Tidy U (s.modRill f) := h.rest
theorem modLog {f} (h : Tidy U s) : Tidy U (s.modLog f) := h.rest
theorem modRfl {f} (h : Tidy U s) : Tidy U (s.modRfl f) := h.rest
theorem staleCopies {p} (h : Tidy U s) : Tidy U (s.staleCopies p) := h.modRill.modLog
theorem forkBegin {p i} (h : Tidy U s) : Tidy U (s.forkBegin p i) := h.eddy_set.showSlots

theorem forkDone {i} (h : Tidy U s) : Tidy U (s.forkDone i) := by
  unfold State.forkDone
  extract_lets e r cuts s1 s2 s3
  have h2 : Tidy U s2 := h.eddy_set.modRill.modLog.ite h.eddy_set.staleCopies
  exact (h2.ite h2.setPage).modLd

theorem forkDrop {i} (h : Tidy U s) : Tidy U (s.forkDrop i) := h.eddy_del.showSlots
theorem freeEddy {i} (h : Tidy U s) : Tidy U (s.freeEddy i) :=
  (h.eddy_del.modLd.setPState.ite h.eddy_del.modLd).showSlots.ite h
theorem keepLost {p} (h : Tidy U s) : Tidy U (s.keepLost p) := .ite (h.forUpto setPoison) h

theorem pageWritten {p} (h : Tidy U s) : Tidy U (s.pageWritten p) := by
  unfold State.pageWritten; extract_lets; split
  · exact h.setPage
  · exact h.setPage
  · exact h.staleCopies.setPage
  · exact h

theorem markPoisoned {p} (h : Tidy U s) : Tidy U (s.markPoisoned p) := by
  unfold State.markPoisoned
  exact h.setPage.modFab.modLog

theorem clearPages {n d} (h : Tidy U s) : Tidy U (s.clearPages n d) :=
  h.pages_filter.eddy_filter.modLd.showSlots

theorem wipeExtent {n poisoned} (h : Tidy U s) : Tidy U (s.wipeExtent n poisoned) := by
  unfold State.wipeExtent
  exact h.dram_filter.poison_filter.modLd

theorem applyPolicy {n} (h : Tidy U s) : Tidy U (s.applyPolicy n) :=
  h.clearPages.wipeExtent.ite (h.clearPages.ite h.clearPages.wipeExtent)

/-! ### Channel queues and write-merge buffers -/

theorem modChan {c f} (h : Tidy U s) : Tidy U (s.modChan c f) := h.chans_set
theorem enterWmb {line port ap} (h : Tidy U s) : Tidy U (s.enterWmb line port ap) := h.ite h.modChan

theorem queueRead {kind line port ap} (h : Tidy U s) : Tidy U (s.queueRead kind line port ap) := by
  unfold State.queueRead
  exact h.modChan

theorem drainOne {c e} (h : Tidy U s) : Tidy U (Machine.drainOne s c e) := h.modChan.ite h
theorem moveWmb {c} (h : Tidy U s) : Tidy U (s.moveWmb c) := h.foldl drainOne
theorem drainAll (h : Tidy U s) : Tidy U s.drainAll := h.chans_map
theorem queuePage {p base w urgent} (h : Tidy U s) : Tidy U (s.queuePage p base w urgent) := h.forUpto queueRead
theorem dropReqs {which} (h : Tidy U s) : Tidy U (s.dropReqs which) := h.chans_map

/-! ### A DRAM channel's scheduler -/

theorem issueReq {c i q} (h : Tidy U s) : Tidy U (s.issueReq c i q) := h.modChan.bump

theorem passRead {line} (h : Tidy U s) : Tidy U (s.passRead line) := by
  unfold State.passRead
  exact h.issueReq.modChan

theorem pageRead {base port} (h : Tidy U s) : Tidy U (s.pageRead base port) := .dropReqs (h.foldl issueReq)
theorem showPostponed {c} (h : Tidy U s) : Tidy U (s.showPostponed c) := h.fsat
theorem takeSlot {c rank} (h : Tidy U s) : Tidy U (s.takeSlot c rank) :=
  h.modChan.modChan.showPostponed.ite (h.modChan.modChan.ite h.modChan.modChan.overrun).showPostponed
theorem refreshDue {c} (h : Tidy U s) : Tidy U (s.refreshDue c) := h.foldl fun h => h.takeSlot.ite h

/-! ### Checkpoints of an LD -/

theorem showCkpts {n} (h : Tidy U s) : Tidy U (s.showCkpts n) := h.fset.fset.fset.fput
theorem modCkpt {n no f} (h : Tidy U s) : Tidy U (s.modCkpt n no f) := h.modLd
theorem dropCkpt {n no} (h : Tidy U s) : Tidy U (s.dropCkpt n no) := h.modLd.showCkpts

theorem giveUp {n no} (h : Tidy U s) : Tidy U (s.giveUp n no) := by
  unfold State.giveUp; split
  · exact h.dropCkpt.ite h.modCkpt
  · exact h

theorem takeRetain {n want} (h : Tidy U s) : Tidy U (s.takeRetain n want).1 := by
  unfold State.takeRetain; split
  · exact h.giveUp
  · exact h
  · exact h

theorem takeCkpt {n cause want late report rings} (h : Tidy U s) :
    Tidy U (s.takeCkpt n cause want late report rings).1 :=
  h.ite_fst (h.takeRetain.modLd.recount.ite h.takeRetain.modLd).modCkpt.showCkpts

theorem refitOverWeir {n} (h : Tidy U s) : Tidy U (s.refitOverWeir n) := h.modLd.showCkpts.ite h
theorem checkDeficit (h : Tidy U s) : Tidy U s.checkDeficit := h.fset.bump.fault.ite (h.fset.fault.ite h)
theorem showOwed (h : Tidy U s) : Tidy U s.showOwed := .fsat (.fsat (h.foldl fun h => h.fsat.fsat.fset))
theorem showWeir (h : Tidy U s) : Tidy U s.showWeir := .showOwed (h.checkDeficit.foldl refitOverWeir)
theorem ckptCopied {n no p r} (h : Tidy U s) : Tidy U (s.ckptCopied n no p r) := h.modCkpt
theorem poisonPage {p} (h : Tidy U s) : Tidy U (s.poisonPage p) :=
  .markPoisoned (h.staleCopies.foldl ckptCopied)

/-! ### Colony time, the Thobor link and the plunge -/

theorem modPort {p f} (h : Tidy U s) : Tidy U (s.modPort p f) := h.modCol
theorem sendOn {ps f} (h : Tidy U s) : Tidy U (s.sendOn ps f) := h.foldl sendFrame
theorem setTime {st} (h : Tidy U s) : Tidy U (s.setTime st) := h.fset

theorem newErrWindow {p} (h : Tidy U s) : Tidy U (s.newErrWindow p) := by
  unfold State.newErrWindow
  exact h.modPort

theorem isolatePort {p} (h : Tidy U s) : Tidy U (s.isolatePort p) := by
  unfold State.isolatePort
  exact h.modPort.rest.setUnit.ite h.modPort.rest.setUnit.fset.bump

theorem portError {p} (h : Tidy U s) : Tidy U (s.portError p) := h.modPort.isolatePort.fault.ite h.modPort
theorem malformed {p} (h : Tidy U s) : Tidy U (s.malformed p) := h.bump.portError
theorem crcFail {p} (h : Tidy U s) : Tidy U (s.crcFail p) := h.bump.fault.portError
theorem liftIsolation {p} (h : Tidy U s) : Tidy U (s.liftIsolation p) := h.setUnit.fset.newErrWindow.fault.ite h
theorem codeErrors {p n} (h : Tidy U s) : Tidy U (s.codeErrors p n) := h.ite h.bump

theorem rxFrame {p f entitled plunge take} (h : Tidy U s) (hf : ∀ {s}, Tidy U s → Tidy U (take s)) :
    Tidy U (s.rxFrame p f entitled plunge take) := by
  unfold State.rxFrame
  extract_lets s1
  have h1 : Tidy U s1 := h.codeErrors
  exact h.ite (h1.crcFail.ite (h1.malformed.ite (h1.malformed.ite (h1.ite (hf h1)))))

theorem checkRoot {root beacon} (h : Tidy U s) : Tidy U (s.checkRoot root beacon) := h.fset.fault.ite h

theorem mergeAnn {t cause origin groups own} (h : Tidy U s) :
    Tidy U (s.mergeAnn t cause origin groups own) := by
  unfold State.mergeAnn
  extract_lets now wins late t' opening w0 open_ w s1 s2 s3 s4 s5
  have h2 : Tidy U s2 := h.modCol.bump.fset.fset.ite h.modCol
  exact (h2.satUp.bump.ite h2.satUp).fset.fput.fset.fset.fset.ite (h2.satUp.bump.ite h2.satUp).fset.fput

theorem announce {cause cut groups} (h : Tidy U s) : Tidy U (s.announce cause cut groups) := h.sendOn.modCol
theorem ownPlunge {cause} (h : Tidy U s) : Tidy U (s.ownPlunge cause) := h.mergeAnn.announce.ite h.mergeAnn
theorem pullPlungeN (h : Tidy U s) : Tidy U s.pullPlungeN := h.modCol.fset.emit
theorem releasePlungeN (h : Tidy U s) : Tidy U s.releasePlungeN := h.modCol.emit.ite h
theorem ownSpill {cause} (h : Tidy U s) : Tidy U (s.ownSpill cause) :=
  (h.mergeAnn.announce.modCol.ite h.ownPlunge.modCol).fset.pullPlungeN
theorem fmCheckpoint (h : Tidy U s) : Tidy U (Machine.fmCheckpoint s) := h.ite h.ownPlunge
theorem colonyCheckpoint {boundary} (h : Tidy U s) : Tidy U (Machine.colonyCheckpoint boundary s) :=
  h.modCol.ite h.bump
theorem plungeNEdge {low} (h : Tidy U s) : Tidy U (Machine.plungeNEdge low s) :=
  (h.fput.mergeAnn.announce.ite h.fput.mergeAnn).ite h.fput

theorem plungeRepeat (h : Tidy U s) : Tidy U (Machine.plungeRepeat s) := by
  unfold Machine.plungeRepeat
  exact .modCol (h.foldl sendOn)

theorem closeWindow (h : Tidy U s) : Tidy U s.closeWindow := h.modCol.fset.releasePlungeN

theorem plungeWindowClose (h : Tidy U s) : Tidy U (Machine.plungeWindowClose s) := by
  unfold Machine.plungeWindowClose; split
  · exact h.closeWindow.ite h
  · exact h

theorem forwardPlunge {p f rep cut} (h : Tidy U s) : Tidy U (s.forwardPlunge p f rep cut) :=
  h.modCol.ite h.sendOn.modCol

theorem plungeRx {p f} (h : Tidy U s) : Tidy U (Machine.plungeRx p f s) := h.rxFrame fun h => by
  split
  · exact h.forwardPlunge.malformed.ite (h.forwardPlunge.mergeAnn.ite h.forwardPlunge)
  · exact h

theorem stepTime {offset} (h : Tidy U s) : Tidy U (s.stepTime offset) := by
  unfold State.stepTime
  extract_lets old s1 new s2 skips w' o' late s3
  have h1 : Tidy U s1 := h.rest.fset
  have h3 : Tidy U s3 := .modCol (.ite h1.rest h1)
  clear_value w'
  split
  · split
    · exact h3.fset.bump.ite h3.fset.bump.fset
    · exact h3.fset.bump
  · exact h3

theorem stepRule {offset} (h : Tidy U s) : Tidy U (s.stepRule offset) := by
  unfold State.stepRule; split
  · exact h.stepTime.fset
  · exact h.stepTime.fset
  · exact h.stepTime.fset.ite (h.modCol.fset.ite h.fset)
  · exact h.stepTime.fset.ite (h.modCol.fset.ite h.fset)
  · exact h

theorem servo {offset} (h : Tidy U s) : Tidy U (s.servo offset) := h.modCol.fset

theorem lockRule {offset} (h : Tidy U s) : Tidy U (s.lockRule offset) := by
  unfold State.lockRule; extract_lets; split
  · exact h.modCol.setTime.modCol.ite h.modCol
  · exact h.modCol.setTime.modCol.ite h.modCol
  · exact h.modCol

theorem measured {delay offset} (h : Tidy U s) : Tidy U (s.measured delay offset) :=
  (h.fset.fset.stepRule.ite h.fset.fset.servo).lockRule
theorem takeDepth {depth root} (h : Tidy U s) : Tidy U (s.takeDepth depth root) :=
  h.fsat.fset.fset.ite h.fsat.fset

theorem beaconRx {p t2 f} (h : Tidy U s) : Tidy U (Machine.beaconRx p t2 f s) := by
  unfold Machine.beaconRx; extract_lets; split
  · refine (h.checkRoot.ite h).rxFrame fun h => ?_
    extract_lets sel s1 s2
    have h2 : Tidy U s2 := h.modPort.takeDepth.ite h.modPort
    split
    · exact h2.measured.ite h2
    · exact h2
  · exact h.rxFrame id

theorem fireflyRx {p t4 f} (h : Tidy U s) : Tidy U (Machine.fireflyRx p t4 f s) := h.rxFrame fun h => by
  split
  · exact h.checkRoot.modPort.fset
  · exact h

theorem roleRx {p f} (h : Tidy U s) : Tidy U (Machine.roleRx p f s) := h.rxFrame fun h => by
  split
  · exact h.checkRoot.fset.fset.modPort.fset.fault.ite h.checkRoot.fset.fset.modPort
  · exact h

theorem applyConfig (h : Tidy U s) : Tidy U s.applyConfig := by
  unfold State.applyConfig; split
  · exact h.modCol.ite h
  · exact h

theorem configRx {p f} (h : Tidy U s) : Tidy U (Machine.configRx p f s) := by
  unfold Machine.configRx; split
  · exact h.rxFrame (fun h => h.modCol.sendOn.applyConfig)
  · exact h.rxFrame id

theorem epochAnnounceRx {p f} (h : Tidy U s) : Tidy U (Machine.epochAnnounceRx p f s) := h.rxFrame fun h => by
  split
  · exact ((h.fault.ite h).sendOn.modCol.ite (h.fault.ite h).sendOn).ite h
  · exact h

theorem postSealReport {complete late kind cut gen inc origin relayed} (h : Tidy U s) :
    Tidy U (s.postSealReport complete late kind cut gen inc origin relayed) :=
  h.postEvent

theorem sendSealReport {complete late kind cut gen inc} (h : Tidy U s) :
    Tidy U (s.sendSealReport complete late kind cut gen inc) := by
  refine .ite ?_ h.postSealReport
  split
  · exact h.sendFrame.ite h
  · exact h

theorem sealReportRx {p f} (h : Tidy U s) : Tidy U (Machine.sealReportRx p f s) := h.rxFrame fun h => by
  split
  · refine .ite ?_ h.postSealReport
    split
    · exact h.sendFrame.ite h
    · exact h
  · exact h

theorem isolationAutoLift {p} (h : Tidy U s) : Tidy U (Machine.isolationAutoLift p s) := h.liftIsolation.ite h
theorem sendRole {p} (h : Tidy U s) : Tidy U (s.sendRole p) := h.sendFrame.ite h
theorem portUp {p} (h : Tidy U s) : Tidy U (Machine.portUp p s) := h.ite h.fset.fset.modPort.sendRole
theorem portDown {p} (h : Tidy U s) : Tidy U (Machine.portDown p s) := h.fset
theorem portSilentRow {p} (h : Tidy U s) : Tidy U (Machine.portSilentRow p s) := h.fset.ite h

theorem select {p} (h : Tidy U s) : Tidy U (s.select p) := by
  unfold State.select
  extract_lets s1 s2 s3
  have h1 : Tidy U s1 := h.foldl fput
  have h2 : Tidy U s2 := by
    unfold s2; split
    · exact h1.takeDepth
    · exact h1
  exact h2.modCol.setTime.modCol.ite h2.modCol

theorem loseSelected (h : Tidy U s) : Tidy U s.loseSelected := by
  unfold State.loseSelected; split
  · exact h.fset.modCol
  · exact h

theorem backupSelect (h : Tidy U s) : Tidy U (Machine.backupSelect s) := by
  unfold Machine.backupSelect
  refine .ite h ?_
  extract_lets s1 cands depthOf
  have h1 : Tidy U s1 := by
    unfold s1; split
    · exact h.loseSelected.ite h
    · exact h
  refine .ite ?_ h1
  split
  · exact h1.select
  · exact h1.setTime.ite h1

theorem upstreamSelect (h : Tidy U s) : Tidy U (Machine.upstreamSelect s) := by
  refine .ite ?_ h
  split
  · exact h.ite h.select
  · exact h

theorem rolePeriodic (h : Tidy U s) : Tidy U (Machine.rolePeriodic s) := h.foldl sendRole
theorem sendConfig (h : Tidy U s) : Tidy U s.sendConfig := h.sendOn
theorem configPeriodic (h : Tidy U s) : Tidy U (Machine.configPeriodic s) := h.sendConfig.ite h
theorem configBeat (h : Tidy U s) : Tidy U s.configBeat := h.sendConfig.modCol.ite h
theorem epochAnnounceSend (h : Tidy U s) : Tidy U (Machine.epochAnnounceSend s) :=
  .ite (.modCol (.ite (.sendOn (h.foldl sendOn)) (h.foldl sendOn))) h
theorem sendBeacons (h : Tidy U s) : Tidy U s.sendBeacons := h.foldl sendFrame
theorem sendFireflies (h : Tidy U s) : Tidy U s.sendFireflies := h.foldl fun h => h.sendFrame.modPort
theorem rolesCommitted (h : Tidy U s) : Tidy U s.rolesCommitted :=
  (h.setTime.fset.modCol.ite h).ite (.modCol (.fset (.fset (h.setTime.foldl fset))))

/-! ### Command rings -/

theorem modRing {ld n f} (h : Tidy U s) : Tidy U (s.modRing ld n f) := h.rings_set
theorem showFlight {ld} (h : Tidy U s) : Tidy U (s.showFlight ld) := h.fset

theorem writeCq {ld n tag status flags result} (h : Tidy U s) :
    Tidy U (s.writeCq ld n tag status flags result) := by
  unfold State.writeCq
  exact h.emit.modRing

theorem coalesce {ld n} (h : Tidy U s) : Tidy U (s.coalesce ld n) := h.modRing.modRing.emit.ite h.modRing
theorem showHeld {ld n} (h : Tidy U s) : Tidy U (s.showHeld ld n) := h.fset

theorem postEntries {ld n k} (h : Tidy U s) : Tidy U (s.postEntries ld n k) := by
  induction k generalizing s with
  | zero => exact h
  | succ k ih =>
    unfold State.postEntries; split
    · exact .ite (ih (h.writeCq.modRing.ite h.writeCq.modRing.coalesce)) h
    · exact h

theorem postRing {ld n} (h : Tidy U s) : Tidy U (s.postRing ld n) :=
  (h.postEntries.modRing.emit.ite h.postEntries).showHeld

theorem postNotices {ld n k} (h : Tidy U s) : Tidy U (s.postNotices ld n k) := by
  induction k generalizing s with
  | zero => exact h
  | succ k ih =>
    unfold State.postNotices; split
    · exact .ite (ih h.writeCq.modRing.bump.emit) h
    · exact h

theorem notice {ld n status result} (h : Tidy U s) : Tidy U (s.notice ld n status result) :=
  h.ite h.modRing.postNotices
theorem modAcc {ld n ord f} (h : Tidy U s) : Tidy U (s.modAcc ld n ord f) := h.modRing
theorem finish {ld n ord status flags result} (h : Tidy U s) : Tidy U (s.finish ld n ord status flags result) :=
  (h.modAcc.bump.ite (h.modAcc.bump.ite h.modAcc)).showFlight.postRing
theorem haltRing {ld n reason} (h : Tidy U s) : Tidy U (s.haltRing ld n reason) := h.fset.fset.fault
theorem waitRoom {ld n} (h : Tidy U s) : Tidy U (s.waitRoom ld n) := h.modRing.ite h
theorem waitRooms (h : Tidy U s) : Tidy U s.waitRooms := h.foldl waitRoom

theorem fetchMore {ld n} (h : Tidy U s) : Tidy U (s.fetchMore ld n) := by
  unfold State.fetchMore
  refine h.ite ?_
  split
  · exact h.modRing.rest.emit
  · exact h

theorem takeSq {ld n v} (h : Tidy U s) : Tidy U (s.takeSq ld n v) :=
  h.haltRing.notice.ite h.modRing.fset.fetchMore
theorem takeCq {ld n v} (h : Tidy U s) : Tidy U (s.takeCq ld n v) :=
  h.haltRing.ite h.modRing.postRing.postNotices.waitRooms
theorem doorbell {ld n offset width v sq} (h : Tidy U s) : Tidy U (s.doorbell ld n offset width v sq) :=
  h.bump.ite (h.modRing.ite (h.takeSq.ite h.takeCq))

theorem takeKept (h : Tidy U s) : Tidy U s.takeKept := by
  refine .fetchMore (.waitRooms (h.foldl fun {s e} h => ?_))
  extract_lets ld n s1 s2
  have h1 : Tidy U s1 := h.modRing
  have h2 : Tidy U s2 := by
    unfold s2; split
    · exact h1.takeCq.ite h1
    · exact h1
  split
  · exact h2.takeSq.ite h2
  · exact h2

theorem takeShadow {ld n tail head} (h : Tidy U s) : Tidy U (s.takeShadow ld n tail head) :=
  h.modRing.takeCq.takeSq.ite h.modRing.takeCq

theorem addFetched {ld n ds} (h : Tidy U s) : Tidy U (s.addFetched ld n ds) := by
  unfold State.addFetched
  exact h.modRing

theorem caughtUp {ld n tail1 head1 tail2} (h : Tidy U s) : Tidy U (s.caughtUp ld n tail1 head1 tail2) :=
  h.takeShadow.modRing.emit.takeSq.ite h.takeShadow.fetchMore

theorem descriptorFetchDone {ld n r tail1 head1 tail2} (h : Tidy U s) :
    Tidy U (Machine.descriptorFetchDone ld n r tail1 head1 tail2 s) := by
  unfold Machine.descriptorFetchDone
  refine .ite (h.takeShadow.ite h) ?_
  split
  · exact h.modRing.haltRing.fetchMore
  · exact h.modRing.addFetched.caughtUp.waitRooms.ite h.modRing.addFetched.waitRooms.fetchMore

theorem runOp {ld n idx op f} (h : Tidy U s) (hf : ∀ {a s}, Tidy U s → Tidy U (f a s)) :
    Tidy U (s.runOp ld n idx op f) := by
  unfold State.runOp; split
  · exact .ite h.finish (hf h.modAcc)
  · exact h

theorem descriptorAccept {ld n} (h : Tidy U s) : Tidy U (Machine.descriptorAccept ld n s) := by
  unfold Machine.descriptorAccept; split
  · exact h
  · extract_lets was order a head s1 s2 s3 s4 s5 s6
    have h5 : Tidy U s5 := h.rest.modRing.fset.fset.emit.showFlight
    have h6 : Tidy U s6 := h5.finish.ite h5
    exact h.ite (h.waitRoom.ite h6.waitRooms.fetchMore)

theorem noResourceNotice {ld n} (h : Tidy U s) : Tidy U (Machine.noResourceNotice ld n s) := by
  unfold Machine.noResourceNotice; split
  · exact h.notice.ite h
  · exact h

theorem releaseCkpt {n id r} (h : Tidy U s) (e : s.releaseCkpt n id = some r) : Tidy U r.2.2 := by
  unfold State.releaseCkpt at e
  split at e
  · cases e
  · split_ifs at e <;> cases e
    · exact h
    · exact h.dropCkpt
    · exact h.modCkpt

theorem checkpointRelease {ld n a} (h : Tidy U s) : Tidy U (Machine.checkpointRelease ld n a s) := by
  unfold Machine.checkpointRelease; split
  case h_1 e => exact (h.releaseCkpt e).finish
  case h_2 e => exact (h.releaseCkpt e).finish
  case h_3 => exact h.finish

theorem queryPages {ld n a} (h : Tidy U s) : Tidy U (Machine.queryPages ld n a s) := h.emit.finish

theorem persistBegin {ld n a} (h : Tidy U s) : Tidy U (Machine.persistBegin ld n a s) := by
  unfold Machine.persistBegin
  exact h.modAcc.modRill

theorem persistCopied {p stamp} (h : Tidy U s) : Tidy U (s.persistCopied p stamp) := h.rings_map

theorem viaRing {path ld n f} (h : Tidy U s) (hf : ∀ {s}, Tidy U s → Tidy U (f s)) :
    Tidy U (s.viaRing path ld n f) := by
  refine h.ite ?_
  split
  · exact h.ite (hf h)
  · exact h.ite h.deny
  · exact (hf h).ite h

theorem ctlReject {ld n} (h : Tidy U s) : Tidy U (s.ctlReject ld n) := h.fset

theorem ringEnable {ld n clearTags} (h : Tidy U s) : Tidy U (Machine.ringEnable ld n clearTags s) :=
  (h.modRing.fset.fset.fset.fset.fset.fset.fset.ite h.modRing.fset.fset.fset.fset.fset.fset).postRing.ite
    h.ctlReject

theorem disableRing {ld n} (h : Tidy U s) : Tidy U (s.disableRing ld n) := h.fset.modRing.showHeld

/-- A disabled ring is written anew and so stands in its place. -/
theorem disableRing_clears {ld n} (h : Tidy U s) :
    Tidy (fun k => U k ∧ k ≠ 256 * ld + n) (s.disableRing ld n) :=
  showHeld (rings_set_clears (fset h))

theorem ringDisable {ld n} (h : Tidy U s) : Tidy U (Machine.ringDisable ld n s) := h.disableRing.fset.fetchMore
theorem ringResume {ld n} (h : Tidy U s) : Tidy U (Machine.ringResume ld n s) :=
  (h.fset.fset.fset.modRing.ite h.fset.fset.fset).postRing.postNotices.waitRoom.fetchMore.ite h.ctlReject

theorem msixCoalesceTimeout {ld n} (h : Tidy U s) : Tidy U (Machine.msixCoalesceTimeout ld n s) := by
  unfold Machine.msixCoalesceTimeout; split
  · exact h.modRing.emit.ite h
  · exact h

theorem abortCuts {ld} (h : Tidy U s) : Tidy U (s.abortCuts ld) :=
  h.foldl fun h => h.foldl fun h => h.finish.ite h
theorem ringsDisabled (h : Tidy U s) : Tidy U s.ringsDisabled := h.regs_filter
theorem disableRings {ld} (h : Tidy U s) : Tidy U (s.disableRings ld) :=
  .fetchMore (.foldl (h.foldl fun h => h.ite h.disableRing) disableRing)

/-! ### The weir, the rill and the spillway log -/

theorem remapBlock {ds block} (h : Tidy U s) : Tidy U (s.remapBlock ds block) := by
  unfold State.remapBlock; extract_lets; split
  · exact h.modLog.modLog
  · exact h.modLog

theorem computeWeir (h : Tidy U s) : Tidy U s.computeWeir := h.modRill.ite h.modRill.fsat.fsat.fsat

theorem weirForce (h : Tidy U s) : Tidy U s.weirForce := by
  unfold State.weirForce; split
  · exact h.modRill.fset.fset.showWeir.ite h
  · exact h

theorem updateCredit (h : Tidy U s) : Tidy U s.updateCredit := (h.modRill.fset.ite h.modRill).fset
theorem showWindow (h : Tidy U s) : Tidy U s.showWindow := h.fsat.fsat.fset.fset

theorem needBand {writer} (h : Tidy U s) : Tidy U (s.needBand writer) := by
  refine .ite ?_ h
  split
  · exact h.modLog.showWindow
  · exact h

theorem newStripe {writer free} (h : Tidy U s) : Tidy U (s.newStripe writer free).1 := by
  unfold State.newStripe; extract_lets; split
  · exact h.ite h.needBand
  · exact (h.ite h.needBand).ite_fst ((h.ite h.needBand).ite_fst (h.ite h.needBand).modLog.fset)

theorem modStripe {q f} (h : Tidy U s) : Tidy U (s.modStripe q f) := h.modLog

theorem addRecs {q} (h : Tidy U s) : Tidy U (s.addRecs q) := by
  unfold State.addRecs; split
  · exact h
  · exact h.foldl modStripe

theorem opOff {q dies} (h : Tidy U s) : Tidy U (s.opOff q dies) := by
  unfold State.opOff
  exact h.modLog.rest

theorem startErase {b} (h : Tidy U s) : Tidy U (s.startErase b) := by
  unfold State.startErase
  exact h.modLog

theorem closeStripe {q} (h : Tidy U s) : Tidy U (s.closeStripe q) := by
  unfold State.closeStripe; split
  · exact h
  · refine h.ite ?_
    extract_lets now s1 bytes s2
    have h2 : Tidy U s2 := h.addRecs.modStripe.modLog
    split
    · exact h2.modRill.modRill.satUp
    · exact h2.modRill.modRill.satUp
    · exact h2.modRill.satUp.satUp
    · exact h2.modRill.satUp.satUp
    · exact h2

theorem place {writer i} (h : Tidy U s) : Tidy U (s.place writer i).1 := by
  unfold State.place
  extract_lets r
  have hr : Tidy U r.1 := by
    unfold r; split
    · exact h.ite_fst (h.ite_fst (h.ite h.closeStripe).newStripe)
    · exact h.newStripe
  split
  · exact hr
  · exact hr.modStripe

theorem placeAll {writer is} (h : Tidy U s) : Tidy U (s.placeAll writer is).1 := by
  induction is generalizing s with
  | nil => exact h
  | cons i is ih =>
    unfold State.placeAll; extract_lets; split
    · exact h.place
    · exact ih h.place

theorem selectLive {p} (h : Tidy U s) : Tidy U (s.selectLive p) := h.staleCopies.setPage.modRill.queuePage
theorem selectEddy {i} (h : Tidy U s) : Tidy U (s.selectEddy i) := h.eddy_set.modRill.queuePage
theorem setRillTarget {lent} (h : Tidy U s) : Tidy U (s.setRillTarget lent) := h.modRill.fput.fput.fput

theorem selectReset (h : Tidy U s) : Tidy U s.selectReset := by
  unfold State.selectReset
  exact .modRill (.foldl (h.foldl selectEddy) selectLive)

theorem rillSelect (h : Tidy U s) : Tidy U s.rillSelect := by
  unfold State.rillSelect
  extract_lets was s0 t dirs0 dirs s1 eds s2 rest s3 n s4
  have h2 : Tidy U s2 := (h.selectReset.foldl selectLive).foldl selectEddy
  have h3 : Tidy U s3 := h2.foldl fun h => h.selectLive.modRill
  exact h3.modRill.fsat

theorem moveRefs {a b} (h : Tidy U s) : Tidy U (s.moveRefs a b) := by
  unfold State.moveRefs
  extract_lets mv mk mx mvC
  exact rest (pages_map (lds_map h) (hf := fun e => by split <;> rfl))

theorem modSpill {f} (h : Tidy U s) : Tidy U (s.modSpill f) := h.rest
theorem modSpillMeta {k} (h : Tidy U s) : Tidy U (s.modSpillMeta k) := h.modSpill
theorem modSpillList {q k} (h : Tidy U s) : Tidy U (s.modSpillList q k) := h.modSpill
theorem modSpillBack {i} (h : Tidy U s) : Tidy U (s.modSpillBack i) := h.modSpill
theorem onFlash {i} (h : Tidy U s) : Tidy U (s.onFlash i) := h.flash_set
theorem recCopied {i} (h : Tidy U s) : Tidy U (s.recCopied i) := h.onFlash.rest.ite h.onFlash
theorem liveCopied {i} (h : Tidy U s) : Tidy U (s.liveCopied i) :=
  h.wrap.persistCopied.ite (.setPage (h.onFlash.foldl ckptCopied))
theorem eddyCopied {i slot} (h : Tidy U s) : Tidy U (s.eddyCopied i slot) :=
  .freeEddy (h.onFlash.foldl ckptCopied)
theorem spillCopied {i} (h : Tidy U s) : Tidy U (s.spillCopied i) := h.flash_set.rest.fset
theorem relocCopied {i src} (h : Tidy U s) : Tidy U (s.relocCopied i src) := h.onFlash.moveRefs.ite h

theorem writeCkptRec {n c} (h : Tidy U s) : Tidy U (s.writeCkptRec n c) := by
  refine h.getD (mem_bind fun ks => ?_)
  extract_lets addrs b
  have hb : Tidy U b.1 := h.placeAll.placeAll
  refine mem_bind fun ms => ?_
  extract_lets d
  have hd : Tidy U d.1 := .ite_fst hb hb.placeAll
  exact mem_bind fun tops => mem_map fun q => hd.place.closeStripe.modCkpt

theorem writeCkptRecs (h : Tidy U s) : Tidy U s.writeCkptRecs :=
  h.foldl fun h => h.foldl fun h => h.writeCkptRec.ite h
theorem releaseOld {n no} (h : Tidy U s) : Tidy U (s.releaseOld n no) := h.foldl dropCkpt
theorem reportCuts (h : Tidy U s) : Tidy U s.reportCuts := h.modCol.foldl sendSealReport

theorem completeCkpt {n no} (h : Tidy U s) : Tidy U (s.completeCkpt n no) := by
  unfold State.completeCkpt; split
  · exact h
  · refine .showCkpts (.releaseOld (h.modCkpt.foldl fun h => ?_))
    split
    · exact h.finish
    · exact h

theorem completeCkpts {n k} (h : Tidy U s) : Tidy U (s.completeCkpts n k) := by
  induction k generalizing s with
  | zero => exact h
  | succ k ih =>
    unfold State.completeCkpts; split
    · exact .ite (ih h.completeCkpt) h
    · exact h

theorem ckptFormCopied {i} (h : Tidy U s) : Tidy U (s.ckptFormCopied i) :=
  .ite (h.onFlash.foldl modCkpt) h.onFlash
theorem completeAll (h : Tidy U s) : Tidy U s.completeAll := h.foldl completeCkpts
theorem relocate {k tail} (h : Tidy U s) : Tidy U (s.relocate k tail) := h.ite h.place

theorem closeReloc (h : Tidy U s) : Tidy U s.closeReloc := h.foldl fun h => by
  split
  · exact h.closeStripe
  · exact h

theorem needTlc (h : Tidy U s) : Tidy U s.needTlc := by
  refine .ite ?_ h
  split
  · exact h.modLog
  · exact h

theorem tlcReclaim (h : Tidy U s) : Tidy U s.tlcReclaim := by
  unfold State.tlcReclaim; extract_lets; split
  · exact h
  · exact (h.startErase.ite h).ite (h.foldl relocate)

theorem tailAdvance (h : Tidy U s) : Tidy U s.tailAdvance := by
  unfold State.tailAdvance
  extract_lets s1 s2 refs due s3 s4
  have h1 : Tidy U s1 := by
    unfold s1; split
    · exact h.startErase.ite h
    · exact h
  have h3 : Tidy U s3 := modLog (h1.needTlc.tlcReclaim.foldl relocate)
  have h4 : Tidy U s4 := by
    unfold s4; split
    · exact .ite (.ite h3.startErase (h3.foldl relocate)) h3
    · exact h3
  exact h.ite h4.closeReloc.showWindow

theorem logLow (h : Tidy U s) : Tidy U s.logLow := by
  unfold State.logLow
  extract_lets s1 s2
  have h1 : Tidy U s1 := h.foldl fun h => h.foldl fun h => h.ite h.giveUp
  exact .ite (h.ite h1.modLog.fset.fault.showWindow) (h.fset.modLog.ite h)

theorem dieRestored (h : Tidy U s) : Tidy U s.dieRestored := h.foldl fun h => h.fset.modLog.journal.ite h
theorem measure {us} (h : Tidy U s) : Tidy U (s.measure us) := h.modLog.fsat
theorem freeDies {t} (h : Tidy U s) : Tidy U (s.freeDies t) := h.opOff

theorem itemDone {w i} (h : Tidy U s) : Tidy U (s.itemDone w i) := by
  unfold State.itemDone
  refine h.modLog.ite ?_
  split
  · exact h.relocCopied
  · refine h.ckptFormCopied.ite (h.recCopied.ite (h.onFlash.modSpillMeta.ite (h.spillCopied.ite (h.ite ?_))))
    split
    · exact h.eddyCopied
    · exact h.liveCopied

theorem land {t} (h : Tidy U s) : Tidy U (s.land t) := by
  unfold State.land
  exact h.modLog.rest.foldl itemDone

theorem stripeDone {q us} (h : Tidy U s) : Tidy U (s.stripeDone q us) := by
  unfold State.stripeDone; split
  · exact h
  · extract_lets s1 s2 cleaned s3
    have h1 : Tidy U s1 := h.closeStripe.freeDies
    have h2 : Tidy U s2 := (h1.ite h1.measure).land
    have h3 : Tidy U s3 := h2.wrap.modRill.ite (h2.modSpillList.ite h2)
    exact h3.ite h3.completeAll.writeCkptRecs.reportCuts.tailAdvance.logLow.dieRestored.showWeir

theorem placeReady (h : Tidy U s) : Tidy U s.placeReady := by
  unfold State.placeReady
  refine .ite h ?_
  extract_lets x s1
  have h1 : Tidy U s1 := h.foldl_fst fun {x p} h => by
    refine .ite_fst h ?_
    split
    · exact pair h.modRill
    · extract_lets y
      have hy : Tidy U y.1 := h.place
      split
      · exact hy
      · exact pair hy.modRill
  split
  · exact h1.closeStripe.ite h1
  · exact h1

theorem scarabDone {p cluster} (h : Tidy U s) : Tidy U (s.scarabDone p cluster) := by
  unfold State.scarabDone; split
  · exact h
  · exact h.ite h.pageRead.modRill.wrap.placeReady

theorem govSlice (h : Tidy U s) : Tidy U s.govSlice := h.modRill.fsat.fsat.placeReady.writeCkptRecs
theorem jnlFree (h : Tidy U s) : Tidy U s.jnlFree := h.modFlt.showJnl
theorem jnlCopyFail {copy} (h : Tidy U s) : Tidy U (s.jnlCopyFail copy) :=
  h.ite ((h.fset.fault.ite h.fset.fault.bump).fset.modFlt.showJnl.fault.ite h.fset.fault.jnlFree)
theorem jnlCopyBack {copy} (h : Tidy U s) : Tidy U (s.jnlCopyBack copy) := h.ite (h.fset.fset.ite h.fset)
theorem showCap (h : Tidy U s) : Tidy U s.showCap := h.fset

theorem retireDie {ds cause} (h : Tidy U s) : Tidy U (s.retireDie ds cause) := by
  refine h.ite ?_
  split
  · exact h.fset.journal.fault.modLog.jnlCopyFail
  · exact h.fset.journal.fault.modLog

theorem retireBlock {ds block cause} (h : Tidy U s) : Tidy U (s.retireBlock ds block cause) :=
  h.retireDie.ite h.fset.satUp.modLog.remapBlock.showCap.journal.fault
theorem redoCkpts {keys items} (h : Tidy U s) : Tidy U (s.redoCkpts keys items) := h.foldl modLd

theorem rewriteStripe {q} (h : Tidy U s) : Tidy U (s.rewriteStripe q) := by
  unfold State.rewriteStripe; split
  · exact h
  · extract_lets due s1 r its s2
    have h1 : Tidy U s1 := h.freeDies.modLog
    refine h1.redoCkpts.writeCkptRecs.ite (.ite ?_ ?_)
    · have hr : Tidy U r.1 := h1.newStripe
      split
      · exact hr.modStripe
      · exact hr
    · have h2 : Tidy U s2 := h1.foldl fun {s i} h => by
        extract_lets r
        have hr : Tidy U r.1 := h.place
        split
        · exact hr
        · exact hr.modLog
        · exact hr.modSpillBack.ite (hr.modRill.ite hr)
      split
      · exact h2.ite h2.closeStripe
      · exact h2

theorem stripeToSpill {q} (h : Tidy U s) : Tidy U (s.stripeToSpill q) := by
  unfold State.stripeToSpill; split
  · exact h
  · exact .modSpill (h.freeDies.modLog.redoCkpts.eddy_map.foldl fun h => h.setPState.ite h)

theorem stripeFail {q c st} (h : Tidy U s) : Tidy U (s.stripeFail q c st) := by
  unfold State.stripeFail; split
  · exact h
  · extract_lets s1 ds s2 page s3 s4 with_
    have h2 : Tidy U s2 := h.closeStripe.bump
    have h4 : Tidy U s4 := (h2.fault.ite h2.fault).retireBlock
    exact h.ite (h4.foldl fun h => (h.bump.ite h).stripeToSpill.ite (h.bump.ite h).rewriteStripe)

theorem bandErased {b failed st} (h : Tidy U s) : Tidy U (s.bandErased b failed st) := by
  unfold State.bandErased
  extract_lets s1 wasTlc s2 s3 dies
  have h1 : Tidy U s1 := h.ite (h.foldl fun h => (h.bump.fault.ite h.bump.fault).retireBlock)
  have h2 : Tidy U s2 := h1.flash_filter.rest
  exact h.ite h2.modLog.opOff.showWindow.logLow.tailAdvance

theorem foldRead {b r} (h : Tidy U s) : Tidy U (s.foldRead b r) := by
  refine .ite (h.modLog.foldl fun h => ?_) h.modLog
  split
  · exact h.relocCopied
  · exact h.recCopied

theorem relocStripe {k} (h : Tidy U s) : Tidy U (s.relocStripe k) := by
  unfold State.relocStripe
  exact h.modLog

theorem scrubMore (h : Tidy U s) : Tidy U s.scrubMore := h.modLog.emits

theorem ladderRead {k r} (h : Tidy U s) : Tidy U (s.ladderRead k r) := by
  unfold State.ladderRead
  extract_lets ch addr; split
  · extract_lets s1 s2
    have h1 : Tidy U s1 := (h.satUp.ite h.fset.fset).ite (h.satUp.ite h.fset.fset)
    have h2 : Tidy U s2 := h.ite h1.fault
    exact h2.relocStripe.ite h2
  · exact h.relocStripe

/-! ### What stands on flash beside the log -/

theorem modBoot {f} (h : Tidy U s) : Tidy U (s.modBoot f) := h.rest
theorem modFlm {f} (h : Tidy U s) : Tidy U (s.modFlm f) := h.rest
theorem draw (h : Tidy U s) : Tidy U s.draw.1 := h.rest

theorem rawAt {ds block page plane tlc} (h : Tidy U s) : Tidy U (s.rawAt ds block page plane tlc).1 := by
  unfold State.rawAt; split
  · exact h
  · extract_lets d free
    have hd : Tidy U d.1 := h.draw
    split
    · exact .ite_fst hd h
    · split
      · exact hd
      · exact h
    · exact h
    · exact hd
    · split
      · exact hd
      · exact hd

theorem wordAt {ds block page plane w} (h : Tidy U s) : Tidy U (s.wordAt ds block page plane w).1 := by
  unfold State.wordAt; extract_lets; split
  · exact h
  · split
    · exact h
    · exact h
    · exact h.rawAt
    · exact h.draw

theorem bootTouched {ds} (h : Tidy U s) : Tidy U (s.bootTouched ds) := h.modBoot.ite h

theorem setWord {key v} (h : Tidy U s) : Tidy U (s.setWord key v) := by
  unfold State.setWord; extract_lets; split
  · refine .ite (cfgHalf_map h.modFlm fun e => ?_) h.modFlm
    split <;> rfl
  · exact h.modFlm

theorem flmEffect {o ok} (h : Tidy U s) : Tidy U (s.flmEffect o ok) :=
  h.draw.modFlm.bootTouched.ite (h.wordAt.draw.setWord.ite h.draw.modFlm.bootTouched)
theorem wordsErased {bs} (h : Tidy U s) : Tidy U (s.wordsErased bs) := h.modFlm

theorem flmCut (h : Tidy U s) : Tidy U s.flmCut := by
  unfold State.flmCut; split
  · exact (h.flmEffect.ite h).modFlm
  · exact h

/-! ### What the Elytra send in a spill -/

theorem modEly {e f} (h : Tidy U s) : Tidy U (s.modEly e f) := h.elys_set
theorem modTarget {t f} (h : Tidy U s) : Tidy U (s.modTarget t f) := h.targets_set
theorem elyEmit {f} (h : Tidy U s) : Tidy U (s.elyEmit f) := h.emits
theorem elySend {opcode target args} (h : Tidy U s) : Tidy U (s.elySend opcode target args) :=
  h.modSpill.elyEmit
theorem elyRecord {kind gen payload} (h : Tidy U s) : Tidy U (s.elyRecord kind gen payload) :=
  h.journal.ite h.journal.elySend
theorem setStage {k} (h : Tidy U s) : Tidy U (s.setStage k) := h.fset
theorem showLdNow (h : Tidy U s) : Tidy U s.showLdNow := h.fset

theorem elyPlace {es} (h : Tidy U s) : Tidy U (s.elyPlace es) := by
  induction es generalizing s with
  | nil => exact h.modSpill
  | cons e es ih =>
    unfold State.elyPlace
    refine .ite (ih h) ?_
    split
    · exact h.modSpill
    · extract_lets r
      have hr : Tidy U r.1 := h.place
      split
      · exact hr.modSpill
      · exact ih hr.modSpill.modEly

theorem askPage {e} (h : Tidy U s) : Tidy U (s.askPage e) := by
  unfold State.askPage
  exact h.elySend.modSpill

theorem elyAsk (h : Tidy U s) : Tidy U s.elyAsk := h.ite (h.modSpill.foldl askPage)
theorem sendPrograms {t} (h : Tidy U s) : Tidy U (s.sendPrograms t) := .modSpill (h.foldl elySend)

theorem sendSeal {t} (h : Tidy U s) : Tidy U (s.sendSeal t) := by
  unfold State.sendSeal
  exact .modFlt (.elyRecord (.modSpill (h.foldl elySend)))

theorem elyPrograms (h : Tidy U s) : Tidy U s.elyPrograms := h.foldl fun h => h.sendSeal.ite h.sendPrograms
theorem elyPump (h : Tidy U s) : Tidy U s.elyPump := h.ite (h.ite h.elyPlace).elyAsk.elyPrograms.showLdNow

/-! ### Draws and the refill sequencer -/

theorem modDraw {p f} (h : Tidy U s) : Tidy U (s.modDraw p f) := h.modRfl
theorem showUnfilled (h : Tidy U s) : Tidy U s.showUnfilled := .fsat (h.foldl fsat)

theorem checkFilled (h : Tidy U s) : Tidy U s.checkFilled := by
  unfold State.checkFilled
  extract_lets s1 s2
  have h2 : Tidy U s2 := h.showUnfilled.foldl fun h => (h.setLdState.ite h).modLd.ite (h.setLdState.ite h)
  exact h.ite (h2.setDev.fset.ite h2)

theorem suspend {ds} (h : Tidy U s) : Tidy U (s.suspend ds) := h.modLog.bump

theorem atDie {p ds refill} (h : Tidy U s) : Tidy U (s.atDie p ds refill) := by
  unfold State.atDie; split
  · exact h
  · exact h.ite (h.suspend.ite h.modLog.bump)

theorem firstStep {p len dies refill} (h : Tidy U s) : Tidy U (s.firstStep p len dies refill).1 :=
  h.ite_fst (h.ite_fst (h.foldl atDie))

theorem nextRead {ds} (h : Tidy U s) : Tidy U (s.nextRead ds) := by
  refine h.ite ?_
  split
  · exact h.modDraw.ite h
  · split
    · exact h.foldl modDraw
    · exact h

theorem issue {p refill} (h : Tidy U s) : Tidy U (s.issue p refill) := by
  unfold State.issue
  extract_lets r also x1 t s2
  have h2 : Tidy U s2 := h.firstStep.setPage.modRfl
  exact h2.ite h2.wrap

theorem startDraw {p} (h : Tidy U s) : Tidy U (s.startDraw p).1 := .ite_fst (h.issue.foldl nextRead) h

theorem joinDraw {p} (h : Tidy U s) : Tidy U (s.joinDraw p) := by
  unfold State.joinDraw; split
  · exact .ite (.wrap (.foldl (.modRfl (h.ite (h.foldl atDie))) nextRead)) h
  · exact h

theorem resumeDie {ds} (h : Tidy U s) : Tidy U (s.resumeDie ds) := h.ite h.modLog
theorem dieFree {ds} (h : Tidy U s) : Tidy U (s.dieFree ds) := h.nextRead.resumeDie

theorem minRun {ds} (h : Tidy U s) : Tidy U (s.minRun ds) := by
  unfold State.minRun; split
  · exact h.suspend.modLog.nextRead.ite h
  · exact h

theorem drawsToParity {ds} (h : Tidy U s) : Tidy U (s.drawsToParity ds) := h.foldl fun h => h.modDraw.ite h
theorem releaseDie {ds} (h : Tidy U s) : Tidy U (s.releaseDie ds) :=
  h.drawsToParity.ite (.ite (h.foldl atDie) h.nextRead)
theorem forkStart {p i} (h : Tidy U s) : Tidy U (s.forkStart p i) := h.forkBegin.queuePage
theorem forkGone {p i} (h : Tidy U s) : Tidy U (s.forkGone p i) := h.forkDrop.dropReqs
theorem forkEnd {p i} (h : Tidy U s) : Tidy U (s.forkEnd p i) := h.pageRead.queuePage.forkDone

theorem endDraw {p} (h : Tidy U s) : Tidy U (s.endDraw p) := by
  unfold State.endDraw; split
  · exact (h.modRfl.ite h.modRfl.fsat.fsat).foldl dieFree
  · exact h

theorem restorePage {p} (h : Tidy U s) : Tidy U (s.restorePage p) :=
  (h.queuePage.zeroPage.ite h.queuePage.restore).endDraw.setPage
theorem noteLoss {n} (h : Tidy U s) : Tidy U (s.noteLoss n) := (h.ite h.modLd).ite (h.ite h.modLd).modFab

theorem lostPage {p} (h : Tidy U s) : Tidy U (s.lostPage p) := by
  unfold State.lostPage
  extract_lets r s1 s2 s3
  have h1 : Tidy U s1 := h.endDraw.markPoisoned
  exact (h1.bump.fault.noteLoss.ite h1.bump.fault).forUpto setPoison

theorem refillDie {g ds} (h : Tidy U s) : Tidy U (s.refillDie g ds) := by
  refine h.ite ?_
  split
  · exact .nextRead (h.foldl fun h => h.issue.ite h)
  · exact h

theorem refill (h : Tidy U s) : Tidy U s.refill := by
  unfold State.refill
  extract_lets g dies s1
  have h1 : Tidy U s1 := h.foldl refillDie
  refine h.ite (h.ite (h1.ite ?_))
  split
  · exact h1.issue.ite h1
  · exact h1

/-! ### Ring commands that run on -/

theorem persistRun {ld n a} (h : Tidy U s) : Tidy U (s.persistRun ld n a) := h.finish.ite h.modAcc.modRill
theorem fenceRun {ld n a} (h : Tidy U s) : Tidy U (s.fenceRun ld n a) := h.finish.ite h
theorem dropWork {n} (h : Tidy U s) : Tidy U (s.dropWork n) := h.modRill.modLog.modRfl.modLog.foldl dieFree

theorem rollRecs {n c} (h : Tidy U s) : Tidy U (s.rollRecs n c).1 := by
  unfold State.rollRecs
  extract_lets s1 new zero s2 s3 s4
  have h1 : Tidy U s1 := h.dropWork.clearPages.wipeExtent
  have h2 : Tidy U s2 := h1.foldl setPage
  have h3 : Tidy U s3 := .ite (h2.foldl setPage) h2
  have h4 : Tidy U s4 := h3.foldl markPoisoned
  exact pair h4.modLd

theorem restores {n} (h : Tidy U s) : Tidy U (s.restores n) := by
  unfold State.restores
  exact h.modLd

theorem rollRun {ld n a} (h : Tidy U s) : Tidy U (s.rollRun ld n a) := by
  refine h.ite ?_
  split
  · exact h.modLd.finish
  · exact h.modLd.rollRecs.journal.restores.showSlots.finish

theorem newKey {n} (h : Tidy U s) : Tidy U (s.newKey n) := by
  unfold State.newKey
  exact h.modLd.rest

theorem sanitizePages {n} (h : Tidy U s) : Tidy U (s.sanitizePages n) := by
  unfold State.sanitizePages
  extract_lets s1 bad s2
  have h1 : Tidy U s1 := h.modLd.showCkpts.dropWork
  exact (h1.clearPages.wipeExtent.ite (h1.clearPages.ite h1.clearPages)).restores

theorem sanitizeRun {ld n a} (h : Tidy U s) : Tidy U (s.sanitizeRun ld n a) := h.ite h.sanitizePages.finish
theorem zeroReserve {ld n ord k} (h : Tidy U s) : Tidy U (s.zeroReserve ld n ord k) := h.modLd.modAcc
theorem useResv {ld n ord} (h : Tidy U s) : Tidy U (s.useResv ld n ord) := h.modLd.modAcc
theorem waitAt {ld n a p kind} (h : Tidy U s) : Tidy U (s.waitAt ld n a p kind) :=
  h.ite (h.bump.ite h.bump).modAcc
theorem waitOver {ld n ord p} (h : Tidy U s) : Tidy U (s.waitOver ld n ord p) := h.modAcc

theorem zeroStep5 {ld n ord p adm wr all} (h : Tidy U s) : Tidy U (s.zeroStep5 ld n ord p adm wr all).1 := by
  unfold State.zeroStep5
  extract_lets k w s1
  have h1 : Tidy U s1 := h.ite h.modLd.modAcc
  exact h1.modLd.ite h1

theorem zeroPageRun {ld n a p} (h : Tidy U s) : Tidy U (s.zeroPageRun ld n a p).1 := by
  unfold State.zeroPageRun
  extract_lets all was behind x s1 ls up since s2 s3 s4 s5
  have h1 : Tidy U s1 := .ite_fst h h.zeroStep5
  refine .ite_fst h1 ?_
  split
  · exact h1.startDraw
  · exact h1.joinDraw
  · refine .ite_fst h1.waitAt (.ite_fst (.ite_fst h1 ?_) (.ite_fst h1 ?_))
    · split
      · refine .ite_fst ?_ h1
        exact .pair (.ite h1.forkStart.waitOver.useResv h1.forkStart.waitOver)
      · exact pair h1.waitAt
    · have h3 : Tidy U s3 := (h1.useResv.ite h1).keepLost
      have h4 : Tidy U s4 := h3.foldl fun h => h.enterWmb.writeBytes.setPoison
      exact pair h4.modAcc.pageWritten.waitOver

theorem zeroPages {ld n ord ps} (h : Tidy U s) : Tidy U (s.zeroPages ld n ord ps) := by
  induction ps generalizing s with
  | nil => exact h
  | cons p ps ih =>
    unfold State.zeroPages; split
    · exact h
    · exact ih (h.zeroPageRun.modAcc.ite h.zeroPageRun)

theorem coveredBy {ld n z} (h : Tidy U s) : Tidy U (s.coveredBy ld n z) := by
  unfold State.coveredBy
  exact h.rest.modRing

theorem zeroRun {ld n a} (h : Tidy U s) : Tidy U (s.zeroRun ld n a) := by
  unfold State.zeroRun
  extract_lets r k s1
  have h1 : Tidy U s1 := .ite (.ite h h.zeroReserve) h
  split
  · exact h1
  · extract_lets s2
    have h2 : Tidy U s2 := h1.zeroPages
    refine .ite h1 ?_
    split
    · exact h2
    · exact h2.modLd.coveredBy.finish.ite h2

theorem advance {ld n a} (h : Tidy U s) : Tidy U (s.advance ld n a) := by
  refine h.ite ?_
  split
  · exact h.persistRun
  · exact h.rollRun
  · exact h.zeroRun.ite h
  · exact h.sanitizeRun
  · exact h.fenceRun
  · exact h

theorem kickOnly {fences} (h : Tidy U s) : Tidy U (s.kickOnly fences) := h.foldl fun h => by
  split
  · exact h.advance
  · exact h

theorem kick (h : Tidy U s) : Tidy U s.kick := h.kickOnly.kickOnly.showWeir

/-! ### The sluice -/

theorem showTrk (h : Tidy U s) : Tidy U s.showTrk := h.fsat.fsat.fsat
theorem dropReq {rid} (h : Tidy U s) : Tidy U (s.dropReq rid) := h.modFab
theorem setAt {rid st} (h : Tidy U s) : Tidy U (s.setAt rid st) := h.modFab
theorem ndr {r} (h : Tidy U s) : Tidy U (s.ndr r) := h.dropReq.emit
theorem drs {r d} (h : Tidy U s) : Tidy U (s.drs r d) := h.dropReq.emit

theorem acceptWrite {r} (h : Tidy U s) : Tidy U (s.acceptWrite r) := by
  unfold State.acceptWrite
  extract_lets line hint s1 s2
  have h1 : Tidy U s1 := h.keepLost.enterWmb.writeBytes
  have h2 : Tidy U s2 := h1.setPoison.ite (h1.setPoison.modFab.ite h1)
  exact h2.pageWritten.ndr

theorem step7 {r} (h : Tidy U s) : Tidy U (s.step7 r) := by
  unfold State.step7; extract_lets; split
  · exact h.acceptWrite.ite (h.setAt.ite (h.acceptWrite.ite h.queueRead.setAt))
  · exact h.drs.ite (h.drs.ite h.queueRead.setAt)

theorem needPage {r} (h : Tidy U s) : Tidy U (s.needPage r) := by
  unfold State.needPage; extract_lets; split
  · exact h.startDraw.setAt.ite h.setAt
  · exact h.joinDraw.setAt

theorem needFork {r} (h : Tidy U s) : Tidy U (s.needFork r) := by
  refine .ite ?_ h.step7
  split
  · exact h.forkStart.setAt.ite h.setAt
  · exact h.bump.setAt

theorem step6 {r} (h : Tidy U s) : Tidy U (s.step6 r) := by
  unfold State.step6; extract_lets; split
  · exact h.needPage
  · exact h.needPage
  · split
    · exact h.step7
    · exact h.bump.setAt.ite h.needFork

theorem step5 {r} (h : Tidy U s) : Tidy U (s.step5 r) := h.step6.ite (h.modLd.setAt.ite h.modLd.step6)
theorem step4 {r} (h : Tidy U s) : Tidy U (s.step4 r) := h.setAt.ite h.step5

theorem countOor {n k} (h : Tidy U s) : Tidy U (s.countOor n k) := by
  unfold State.countOor; split
  · exact h.bump
  · exact h.bump

theorem noEffect {r} (h : Tidy U s) : Tidy U (s.noEffect r) := by
  unfold State.noEffect; split
  · exact h.drs
  · exact h.ndr

theorem step3 {r} (h : Tidy U s) : Tidy U (s.step3 r) := by
  refine h.setAt.ite (h.step4.ite ?_)
  split
  · exact h.countOor.noEffect
  · exact h.setAt.ite h.step4
  · exact h.setAt.ite h.step4
  · exact h.setAt

theorem outOfRange {r n} (h : Tidy U s) : Tidy U (s.outOfRange r n) := by
  refine .noEffect (.fault (.fset (.fset (.fset (.fput (.fset (.fset ?_)))))))
  split
  · exact h.countOor
  · exact h

theorem step2 {r} (h : Tidy U s) : Tidy U (s.step2 r) := by
  refine h.step3.ite (h.outOfRange.ite ?_)
  split
  · exact h.outOfRange
  · split
    · exact h.outOfRange
    · exact h.modFab.step3

theorem countCaps (h : Tidy U s) : Tidy U s.countCaps := h.modFab.foldl bump

theorem arrive {port ldId hpa tag kind data mask poison} (h : Tidy U s) :
    Tidy U (s.arrive port ldId hpa tag kind data mask poison) :=
  h.ite (h.modFab.step2.ite h.modFab).countCaps.showTrk

theorem wakeReq {rid} (h : Tidy U s) : Tidy U (s.wakeReq rid) := by
  unfold State.wakeReq; split
  · split
    · exact h.step4
    · split
      · exact h
      · exact h.step6
    · exact h.step6
    · exact h.step6
    · exact h.step5
    · exact h.step3
    · exact h
  · exact h

theorem wakePage {p} (h : Tidy U s) : Tidy U (s.wakePage p) := h.foldl wakeReq
theorem wakeAll {which} (h : Tidy U s) : Tidy U (s.wakeAll which) := h.foldl fun h => h.wakeReq.wakePage
theorem wakePool (h : Tidy U s) : Tidy U s.wakePool := h.wakeAll
theorem wakeWmb (h : Tidy U s) : Tidy U s.wakeWmb := h.wakeAll
theorem wakeLd {n} (h : Tidy U s) : Tidy U (s.wakeLd n) := h.wakeAll
theorem settle (h : Tidy U s) : Tidy U s.settle := h.wakePool.refill.checkFilled.kick.showTrk

theorem discard {which} (h : Tidy U s) : Tidy U (s.discard which) := by
  unfold State.discard
  extract_lets gone ids s1 keep cut s2 s3
  have h1 : Tidy U s1 := h.foldl fun {s r} h => by
    extract_lets s1
    have h1 : Tidy U s1 := .ite h.emit (.ite h h.bump)
    split
    · exact h1.forkGone
    · exact h1
  have h2 : Tidy U s2 := h1.chans_map
  exact h2.modFab.foldl wakePage

theorem ueLine {line} (h : Tidy U s) : Tidy U (s.ueLine line) := by
  unfold State.ueLine; extract_lets; split
  · exact (h.bump.issue.nextRead.ite h.bump.setPState).bump
  · exact h.bump
  · exact h.bump
  · exact h.bump.poisonPage.fault.forUpto setPoison
  · exact h.bump.poisonPage.fault.forUpto setPoison
  · exact h.bump.poisonPage.fault.forUpto setPoison
  · exact h.bump.setPoison
  · exact h.bump.setPoison

theorem memInv {port ldId tag} (h : Tidy U s) : Tidy U (Machine.memInv port ldId tag s) := h.emit.ite h

theorem unsupportedRequest {port channel opcode} (h : Tidy U s) :
    Tidy U (Machine.unsupportedRequest port channel opcode s) :=
  h.bump.fault

theorem trackerEntryFree {port} (h : Tidy U s) : Tidy U (Machine.trackerEntryFree port s) := by
  refine .ite ?_ h
  split
  · exact h.step2.countCaps.showTrk.showWeir
  · exact h

theorem markDevice {c i rank dev} (h : Tidy U s) : Tidy U (s.markDevice c i rank dev) :=
  (h.ite h.fset.fset.fset.fsat.fault).ite h.fset.fset.fset.fault
theorem showCand {c i} (h : Tidy U s) : Tidy U (s.showCand c i) := h.fsat.fset.fset
theorem chargeDevice {line dev n} (h : Tidy U s) : Tidy U (s.chargeDevice line dev n) :=
  h.modChan.showCand.markDevice.ite h.modChan.showCand
theorem corrected {line symbols} (h : Tidy U s) : Tidy U (s.corrected line symbols) :=
  h.bump.fault.foldl chargeDevice

theorem decodeLine {line r} (h : Tidy U s) : Tidy U (s.decodeLine line r).1 := by
  unfold State.decodeLine; extract_lets; split
  · exact h.corrected
  · split
    · refine h.markDevice.ite_fst ?_
      split
      · exact h.markDevice.corrected
      · exact h.markDevice
    · exact h
  · exact h

theorem lineBack {line d} (h : Tidy U s) : Tidy U (s.lineBack line d).1 := by
  unfold State.lineBack; split
  · exact h
  · exact h
  · exact h.setPoison
  · exact h.ueLine

theorem wmbPartialFill {rid d} (h : Tidy U s) : Tidy U (Machine.wmbPartialFill rid d s) := by
  unfold Machine.wmbPartialFill; split
  · extract_lets line cut s1 x s2
    have hx : Tidy U x.1 := h.modChan.lineBack
    have h2 : Tidy U s2 := by
      unfold s2; split
      · exact hx.step6
      · exact hx.step6
      · exact hx.step6.ite hx.acceptWrite
    exact h2.wakePage.settle.showWeir
  · exact h

theorem passHold {r} (h : Tidy U s) : Tidy U (s.passHold r) := h.step6.wakePage.settle.showWeir

theorem weirWaitExpiry {rid} (h : Tidy U s) : Tidy U (Machine.weirWaitExpiry rid s) := by
  unfold Machine.weirWaitExpiry; split
  · split
    · exact (h.bump.modFab.passHold.ite h.bump.setAt).ite h
    · exact h
  · exact h

theorem forkSlotWaitExpiry {rid} (h : Tidy U s) : Tidy U (Machine.forkSlotWaitExpiry rid s) := by
  unfold Machine.forkSlotWaitExpiry; split
  · split
    · exact h.bump.setAt.ite h
    · exact h
  · exact h

theorem forkCopyDone {p} (h : Tidy U s) : Tidy U (Machine.forkCopyDone p s) := by
  unfold Machine.forkCopyDone; split
  · extract_lets owedStill s1 s2
    have h1 : Tidy U s1 := h.forkEnd.ite h.forkGone
    have h2 : Tidy U s2 := by
      unfold s2; split
      · exact h1.step7.ite h1.step6
      · exact h1
    exact h.ite h2.wakePage.settle.showWeir
  · exact h

theorem drawn {p} (h : Tidy U s) : Tidy U (s.drawn p) := h.wakePage.settle.showWeir

theorem flashReadDone {p res} (h : Tidy U s) : Tidy U (Machine.flashReadDone p res s) := by
  unfold Machine.flashReadDone
  extract_lets k s1
  have h1 : Tidy U s1 := h.ladderRead.modLog.scrubMore
  split
  · refine .ite ?_ h1
    split
    · exact h1.modDraw.foldl dieFree
    · exact .fault (h1.modDraw.foldl dieFree)
  · exact h1

theorem endRestore {d formOk} (h : Tidy U s) : Tidy U (s.endRestore d formOk) :=
  h.restorePage.ite (h.lostPage.ite h.modDraw)

theorem parityRebuildDone {p ok} (h : Tidy U s) : Tidy U (Machine.parityRebuildDone p ok s) := by
  unfold Machine.parityRebuildDone; split
  · exact (h.satUp.restorePage.bump.relocStripe.drawn.ite h.satUp.lostPage.drawn).ite h
  · exact h

theorem drawDone {p formOk} (h : Tidy U s) : Tidy U (Machine.drawDone p formOk s) := by
  unfold Machine.drawDone; split
  · exact h.ite (h.endRestore.drawn.ite (h.restorePage.drawn.ite h))
  · exact h

theorem refillReadDone {ps formOk} (h : Tidy U s) : Tidy U (Machine.refillReadDone ps formOk s) := by
  refine .showWeir (.settle (h.foldl fun h => ?_))
  split
  · exact h.endRestore.wakePage.ite h
  · exact h

theorem zeroFillDone {p} (h : Tidy U s) : Tidy U (Machine.zeroFillDone p s) := by
  unfold Machine.zeroFillDone; split
  · exact h.restorePage.drawn.ite h
  · exact h

/-! ### The commands of the DRAM channels -/

theorem nextIssue {c i} (h : Tidy U s) : Tidy U (s.nextIssue c i) := by
  unfold State.nextIssue; extract_lets; split
  · exact h.moveWmb.modChan.issueReq.wakeWmb.showTrk
  · exact h.moveWmb.modChan.wakeWmb.showTrk

theorem dramRequestIssue {c i} (h : Tidy U s) : Tidy U (Machine.dramRequestIssue c i s) := by
  unfold Machine.dramRequestIssue
  refine .ite h ?_
  extract_lets s1 x
  have h1 : Tidy U s1 := h.refreshDue
  split
  · exact h1.modChan.ite h1
  · exact h1.nextIssue

theorem recordGone {p} (h : Tidy U s) : Tidy U (s.recordGone p) := by
  unfold State.recordGone; split
  · exact h
  · exact .ite (h.setPage.foldl ckptCopied) h.setPage.markPoisoned

theorem lostRecord {p} (h : Tidy U s) : Tidy U (s.lostRecord p) := h.rest.ite h.rest.recordGone
theorem ueReserve {line} (h : Tidy U s) : Tidy U (s.ueReserve line) :=
  h.bump.fault.ite (.ite (h.bump.forUpto lostRecord) (h.bump.eddy_set.modRill.ite h.bump))

theorem engineLine {line port d} (h : Tidy U s) : Tidy U (s.engineLine line port d) := by
  unfold State.engineLine
  extract_lets s1
  have h1 : Tidy U s1 := h.lineBack
  refine .ite h1 (.ite h.ueReserve ?_)
  split
  · exact .ite h1.eddy_set h1
  · exact h1

theorem readBack {c i d} (h : Tidy U s) (hd : ∀ {s line}, Tidy U s → Tidy U (d s line).1) :
    Tidy U (s.readBack c i d) := by
  unfold State.readBack; split
  · exact h
  · extract_lets s1 x y
    have hx : Tidy U x.1 := hd h.modChan
    split
    · exact hx.wmbPartialFill
    · split
      · extract_lets s2
        have hy : Tidy U y.1 := hx.lineBack
        have h2 : Tidy U s2 := hy.drs.ite (by
          split
          · exact hy.setAt
          · exact hy.setAt
          · exact hy.drs)
        exact h2.wakePage.settle.showWeir
      · exact hx.lineBack
    · exact hx.engineLine.settle.showWeir
    · exact hx

theorem dramReadDone {c i r} (h : Tidy U s) : Tidy U (Machine.dramReadDone c i r s) := h.readBack decodeLine

theorem scrubTurn {c line t} (h : Tidy U s) (e : s.scrubTurn c line = some t) : Tidy U t := by
  unfold State.scrubTurn at e
  extract_lets at e
  split_ifs at e <;> cases e
  · exact h.modChan
  · exact h.modChan

theorem dramScrubRead {line d} (h : Tidy U s) : Tidy U (Machine.dramScrubRead line d s) := by
  unfold Machine.dramScrubRead
  refine .ite h ?_
  split
  · exact h
  case h_2 e =>
    extract_lets x s1
    have hx : Tidy U x.1 := (h.scrubTurn e).passRead.decodeLine
    have h1 : Tidy U s1 := .ite (by
      split
      · exact hx.ueReserve
      · exact hx) hx.lineBack
    exact h1.settle

theorem refreshSlot {c rank} (h : Tidy U s) : Tidy U (Machine.refreshSlot c rank s) := h.ite h.takeSlot

theorem sendRank {c rank cmd} (h : Tidy U s) : Tidy U (s.sendRank c rank cmd) := by
  unfold State.sendRank
  exact h.modChan

theorem mr4Poll {c readOk hottest} (h : Tidy U s) : Tidy U (Machine.mr4Poll c readOk hottest s) := by
  unfold Machine.mr4Poll
  extract_lets s1 s2 n s3
  have h1 : Tidy U s1 := h.foldl sendRank
  have h2 : Tidy U s2 := h1.modChan
  have h3 : Tidy U s3 := h1.modChan
  exact h.ite (.ite (h2.ite h2.fset.fault) (h3.fset.fault.ite h3))

theorem rhTableClear {c} (h : Tidy U s) : Tidy U (Machine.rhTableClear c s) := h.modChan.ite h
theorem rankPowerDown {c rank} (h : Tidy U s) : Tidy U (Machine.rankPowerDown c rank s) := h.ite h.modChan
theorem dqsTrack {c rank drift} (h : Tidy U s) : Tidy U (Machine.dqsTrack c rank drift s) :=
  h.ite (h.sendRank.sendRank.modChan.ite h.sendRank.sendRank)
theorem setRetrain {c rank b} (h : Tidy U s) : Tidy U (s.setRetrain c rank b) := h.fset

theorem eyeSample {c rank left right vref} (h : Tidy U s) :
    Tidy U (Machine.eyeSample c rank left right vref s) := by
  unfold Machine.eyeSample
  extract_lets line s1 n publish ranks s2 s3 s4
  have h3 : Tidy U s3 := .foldl (h.forUpto passRead).modChan fsat
  have h4 : Tidy U s4 := h3.fsat.fsat.fsat
  exact h.ite (.ite (h4.setRetrain.ite h4) h3)

theorem settings {c ranks} (h : Tidy U s) : Tidy U (s.settings c ranks) := h.modChan
theorem rankRetrainDone {c rank better} (h : Tidy U s) : Tidy U (Machine.rankRetrainDone c rank better s) :=
  h.ite (h.setRetrain.bump.settings.ite h.setRetrain.bump.fault)

theorem captureFreeze {c i rank cause} (h : Tidy U s) : Tidy U (s.captureFreeze c i rank cause) := by
  unfold State.captureFreeze
  extract_lets k s1 s2 s3 s4
  have h3 : Tidy U s3 := h.rest.fset.fset.fset.fset.fput
  have h4 : Tidy U s4 := h3.forUpto fun h => h.forUpto fun h => h.fset.fset.fset.fset.fset.fset
  exact h4.forUpto fun h => h.forUpto fun h => h.fset.fset.fset.fset

theorem freeze {c i rank cause} (h : Tidy U s) : Tidy U (s.freeze c i rank cause) :=
  h.captureFreeze.modChan.setUnit.fset.bump.fault
theorem failAll {c i} (h : Tidy U s) : Tidy U (s.failAll c i) :=
  .foldl (h.foldl fun h => h.readBack id) (fun h => h.ueReserve.ite h.ueLine)
theorem alertFall {c i rank cause} (h : Tidy U s) : Tidy U (Machine.alertFall c i rank cause s) :=
  h.ite (h.modChan.bump.ite ((h.modChan.setRetrain.bump.ite h.modChan.failAll.modChan).ite h.modChan.freeze))

theorem rillFails {c t} (h : Tidy U s) : Tidy U (s.rillFails c t) := h.modRill.dropReqs.foldl fun h => by
  split
  · exact h.ite h.eddy_set
  · exact h.setPState.ite h

theorem freezeHoldExpiry {c} (h : Tidy U s) : Tidy U (Machine.freezeHoldExpiry c s) := by
  unfold Machine.freezeHoldExpiry; split
  · exact h
  · refine .settle (.rillFails (h.modChan.foldl fun h => ?_))
    split
    · split
      · exact h.drs.wakePage
      · exact h
    · exact h

theorem selfRefresh {c} (h : Tidy U s) : Tidy U (s.selfRefresh c) := h.modChan.fset

theorem exitRefresh {c} (h : Tidy U s) : Tidy U (s.exitRefresh c) := by
  unfold State.exitRefresh
  exact h.modChan

theorem leaveRefresh {c} (h : Tidy U s) : Tidy U (s.leaveRefresh c) := h.exitRefresh.fset
theorem chanRecovering {c} (h : Tidy U s) : Tidy U (s.chanRecovering c) := h.exitRefresh.fset
theorem chanRecovered {c ok} (h : Tidy U s) : Tidy U (s.chanRecovered c ok) :=
  h.fset.modChan.settings.moveWmb.wakeWmb.settle.ite h.fset.bump
theorem unfreezeAll (h : Tidy U s) : Tidy U s.unfreezeAll :=
  h.foldl fun h => h.setUnit.fset.modChan.exitRefresh.ite h

/-! ### The commands of the rill and the spillway log -/

theorem afterFlash {dies} (h : Tidy U s) : Tidy U (s.afterFlash dies) :=
  .showWeir (.elyPump (.settle (h.foldl releaseDie)))
theorem stripeProgramDone {q us} (h : Tidy U s) : Tidy U (Machine.stripeProgramDone q us s) :=
  h.stripeDone.afterFlash
theorem stripeProgramFail {q c st} (h : Tidy U s) : Tidy U (Machine.stripeProgramFail q c st s) :=
  h.stripeFail.afterFlash
theorem diePollTimeout {ds} (h : Tidy U s) : Tidy U (Machine.diePollTimeout ds s) :=
  h.fault.retireDie.drawsToParity.settle.ite h
theorem scrubPeriod (h : Tidy U s) : Tidy U (Machine.scrubPeriod s) := h.modLog.scrubMore.ite h
theorem serviceRecord {c what} (h : Tidy U s) : Tidy U (s.serviceRecord c what) := h.rest.journal
theorem channelOut {c} (h : Tidy U s) : Tidy U (Machine.channelOut c s) :=
  h.modLog.serviceRecord.ite (h.modLog.ite h)

theorem channelsLeave (h : Tidy U s) : Tidy U s.channelsLeave := h.modLog.foldl fun h => by
  extract_lets s1 s2 s3 s4
  have h2 : Tidy U s2 := h.fset.showCap
  have h3 : Tidy U s3 := h2.setUnit.ite h2
  refine forUpto ?_ drawsToParity
  unfold s4; split
  · exact h3.jnlCopyFail
  · exact h3

theorem channelIn {c} (h : Tidy U s) : Tidy U (Machine.channelIn c s) := by
  unfold Machine.channelIn
  extract_lets s1 s2 s3 back s4
  have h3 : Tidy U s3 := h.fset.showCap.modLog.setUnit
  refine .ite (.serviceRecord (.fset ?_)) h
  clear_value back
  unfold s4; split
  · exact h3.jnlCopyBack
  · exact h3

theorem channelVerifyDone {c bad} (h : Tidy U s) : Tidy U (Machine.channelVerifyDone c bad s) :=
  .ite (.tailAdvance (.serviceRecord (.fset (h.modLog.foldl relocStripe)))) h

/-! ### Power domains -/

theorem modDom {d f} (h : Tidy U s) : Tidy U (s.modDom d f) := h.doms_set
theorem resTouch {d} (h : Tidy U s) : Tidy U (s.resTouch d) := (h.ite h.wrap.modDom).ite h

theorem switchDom {d mode} (h : Tidy U s) : Tidy U (s.switchDom d mode) := by
  unfold State.switchDom
  extract_lets s1 s2
  have h1 : Tidy U s1 := h.resTouch.modDom.fset
  exact (h1.fset.ite h1).releasePlungeN.rest.ite ((h1.fset.ite h1).selfRefresh.ite (h1.fset.ite h1))

theorem dramPower {c on} (h : Tidy U s) : Tidy U (s.dramPower c on) := h.foldl fun h => h.switchDom.fset.ite h
theorem wakeDom {d} (h : Tidy U s) : Tidy U (s.wakeDom d) := h.ite h.modDom.fset
theorem clearPend {d} (h : Tidy U s) : Tidy U (s.clearPend d) := h.modDom.fset
theorem pdmReport {d cls mode reason refused} (h : Tidy U s) : Tidy U (s.pdmReport d cls mode reason refused) :=
  (h.fset.fset.fset.bump.ite h.fset.fset.fset.bump).fset.fset.fset.fset.fset.ite h.fset.fset.fset

theorem pdmAbort {d reason} (h : Tidy U s) : Tidy U (s.pdmAbort d reason) := by
  unfold State.pdmAbort; split
  · exact h.clearPend.pdmReport
  · exact h

theorem domainWait {d cls mode} (h : Tidy U s) : Tidy U (Machine.domainWait d cls mode s) := by
  unfold Machine.domainWait
  extract_lets s1 why t
  have h1 : Tidy U s1 := h.fset
  exact h.ite (h1.pdmReport.ite (h1.ite (h1.modDom.ite (h1.clearPend.wakeDom.ite
    (h1.clearPend.ite h1.modDom.fset)))))

theorem domainCancel {d} (h : Tidy U s) : Tidy U (Machine.domainCancel d s) := h.ite h.pdmAbort

theorem domainIdlePoint {d} (h : Tidy U s) : Tidy U (Machine.domainIdlePoint d s) := by
  unfold Machine.domainIdlePoint; split
  · exact h.clearPend.modDom.fset.ite h
  · exact h

theorem domainCommitWindowEnd {d} (h : Tidy U s) : Tidy U (Machine.domainCommitWindowEnd d s) := by
  unfold Machine.domainCommitWindowEnd; split
  · extract_lets x s1 level s2
    have h1 : Tidy U s1 := h.modDom.switchDom
    have h2 : Tidy U s2 := h1.wakeDom.ite h1
    refine h.ite ?_
    split
    · exact h2.domainWait
    · exact h2
  · exact h

theorem domainNoIdleTimeout {d} (h : Tidy U s) : Tidy U (Machine.domainNoIdleTimeout d s) := h.pdmAbort.ite h
theorem wakeOne {w d} (h : Tidy U s) : Tidy U (s.wakeOne w d) :=
  (h.modDom.ite (h.bump.ite h.bump)).ite (h.pdmAbort.wakeDom.ite h.pdmAbort)
theorem wakeSource {w} (h : Tidy U s) : Tidy U (Machine.wakeSource w s) :=
  h.ite ((h.fset.fset.ite h.fset).ite ((h.fset.fset.ite h.fset).foldl wakeOne))
theorem levelOff {w} (h : Tidy U s) : Tidy U (s.levelOff w) := h.fset.ite h
theorem plungeNWake {low} (h : Tidy U s) : Tidy U (Machine.plungeNWake low s) :=
  h.wakeSource.ite (h.ite h.levelOff)
theorem resetRange {lo hi} (h : Tidy U s) : Tidy U (s.resetRange lo hi) := h.regs_filter
theorem domReset {d} (h : Tidy U s) : Tidy U (s.domReset d) := h.resetRange.ite (h.resetRange.rings_nil.ite h)

theorem domainReady {d crcOk failWord} (h : Tidy U s) : Tidy U (Machine.domainReady d crcOk failWord s) := by
  unfold Machine.domainReady
  extract_lets x s1 bad s2 s3 ch s4
  have h1 : Tidy U s1 := h.switchDom
  have h2 : Tidy U s2 := h1.domReset.ite h1
  have h3 : Tidy U s3 := h2.fault.ite h2
  have h4 : Tidy U s4 := h3.leaveRefresh.ite h3
  exact h.ite (.ite (.ite (h4.forUpto setRetrain) h4) (.ite (h3.foldl nextRead) h3))

theorem need {d} (h : Tidy U s) : Tidy U (s.need d) := h.clearPend.wakeDom.ite h

theorem pdmWindowSpill {d} (h : Tidy U s) : Tidy U (s.pdmWindowSpill d) := by
  unfold State.pdmWindowSpill; split
  · exact h
  · refine .ite (.modDom ?_) ?_
    · split
      · exact h.modDom.pdmReport.ite h
      · exact h
    · split
      · exact h.modDom.pdmReport.ite h
      · exact h

theorem pdmSpill (h : Tidy U s) : Tidy U s.pdmSpill := by
  unfold State.pdmSpill
  refine rest (h.foldl fun h => ?_)
  extract_lets s1 s2
  have h1 : Tidy U s1 := by
    unfold s1; split
    · exact h.pdmAbort.ite h
    · exact h
  exact h1.pdmWindowSpill.wakeDom.ite h1.pdmWindowSpill

theorem hwDom {d mode held} (h : Tidy U s) : Tidy U (s.hwDom d mode held) := h.clearPend.modDom.switchDom

/-! ### The rail sequencer and supervisor -/

theorem modPsq {f} (h : Tidy U s) : Tidy U (s.modPsq f) := h.rest
theorem modRail {r f} (h : Tidy U s) : Tidy U (s.modRail r f) := h.modPsq
theorem setSeq {st} (h : Tidy U s) : Tidy U (s.setSeq st) := h.fset
theorem driveRail {r high} (h : Tidy U s) : Tidy U (s.driveRail r high) := h.ite h.fput.emit

theorem linksGone (h : Tidy U s) : Tidy U s.linksGone := by
  unfold State.linksGone
  extract_lets s1 gone
  have h1 : Tidy U s1 := h.foldl fset
  exact h1.lds_map.rest

theorem rstAssert {i} (h : Tidy U s) : Tidy U (s.rstAssert i) :=
  h.modPsq.fset.linksGone.ite (h.modPsq.ite h.modPsq.fset.emit)
theorem rstRelease {i} (h : Tidy U s) : Tidy U (s.rstRelease i) := h.fset.ite (h.fset.emit.ite h)
theorem rstWatch (h : Tidy U s) : Tidy U s.rstWatch := h.foldl fun h => (h.ite h.modPsq).ite h.modPsq
theorem rstAll (h : Tidy U s) : Tidy U s.rstAll := h.foldl rstAssert
theorem driveLim {p} (h : Tidy U s) : Tidy U (s.driveLim p) := h.emit
theorem driveChg {p high} (h : Tidy U s) : Tidy U (s.driveChg p high) := h.ite h.fput.emit.driveLim
theorem chargersOff (h : Tidy U s) : Tidy U s.chargersOff := h.foldl fun h => h.driveChg.fset.ite h

theorem goOff (h : Tidy U s) : Tidy U s.goOff := by
  unfold State.goOff
  extract_lets s1 s2 src
  have h1 : Tidy U s1 := h.setDev.chargersOff.releasePlungeN.linksGone.modCol
  exact h1.modPsq.blockReset.rest

theorem latchSlots (h : Tidy U s) : Tidy U s.latchSlots := h.foldl modRail
theorem slotAct (h : Tidy U s) : Tidy U s.slotAct := .ite (h.fsat.foldl driveRail) h.fsat
theorem railsUnused (h : Tidy U s) : Tidy U s.railsUnused := h.foldl fun h => h.ite h.driveRail.fset
theorem inputRails (h : Tidy U s) : Tidy U s.inputRails := h.foldl fun h => h.driveRail.ite h
theorem powerUp (h : Tidy U s) : Tidy U s.powerUp :=
  .slotAct (h.latchSlots.inputRails.setSeq.fset.modPsq.foldl fun h => h.modRail.fset)
theorem powerDown {failed} (h : Tidy U s) : Tidy U (s.powerDown failed) :=
  .slotAct (h.rstAll.latchSlots.setSeq.fset.modPsq.foldl fun h => h.modRail.fset.ite h)
theorem upDone (h : Tidy U s) : Tidy U s.upDone :=
  (h.satUp.powerDown.ite (h.fset.powerDown.ite h.setSeq.fset.fset.rstWatch)).ite h

theorem downDone (h : Tidy U s) : Tidy U s.downDone := by
  unfold State.downDone
  extract_lets on_ s1 s2 spent t
  have h2 : Tidy U s2 := (h.ite h.goOff).fset
  exact .ite ((h2.fset.ite h2).powerUp.ite (h2.setSeq.ite h2.setSeq.modPsq)) h

theorem seqCheck (h : Tidy U s) : Tidy U s.seqCheck := h.upDone.ite (h.downDone.ite h.rstWatch)

theorem offRequest (h : Tidy U s) : Tidy U s.offRequest := by
  unfold State.offRequest; split
  · exact h.powerDown
  · exact h.fset
  · exact h.fset.ite h
  · exact h

theorem onRequest (h : Tidy U s) : Tidy U s.onRequest := by
  unfold State.onRequest; split
  · exact h.powerUp
  · exact h.fset.powerUp
  · exact h.fset.ite h
  · exact h.fset
  · exact h.fset
  · exact h

theorem railSlot (h : Tidy U s) : Tidy U (Machine.railSlot s) := h.slotAct.seqCheck
theorem railFault {r} (h : Tidy U s) : Tidy U (s.railFault r) := h.fault
theorem railTimeout {r} (h : Tidy U s) : Tidy U (Machine.railTimeout r s) :=
  h.modRail.bump.railFault.seqCheck.ite h

theorem powerUpRetry (h : Tidy U s) : Tidy U (Machine.powerUpRetry s) := by
  unfold Machine.powerUpRetry; split
  · exact h.powerUp.ite h
  · exact h

theorem railLoss {r} (h : Tidy U s) : Tidy U (s.railLoss r) :=
  .rstWatch (h.fset.foldl fun h => h.rstAssert.ite h)
theorem dramUv {r} (h : Tidy U s) : Tidy U (s.dramUv r) := h.fset.ite h
theorem railUv {r} (h : Tidy U s) : Tidy U (s.railUv r) := h.ite h.fset.bump.railFault.railLoss

theorem judge {r} (h : Tidy U s) : Tidy U (s.judge r) := by
  unfold State.judge
  extract_lets x f s1 s2 s3
  have h2 : Tidy U s2 := (h.railUv.ite h).fset.bump.railFault.ite (h.railUv.ite h)
  have h3 : Tidy U s3 := h2.fset.fset.ite h2
  exact h3.fset.modRail.ite h3

theorem railSample {r code} (h : Tidy U s) : Tidy U (Machine.railSample r code s) := by
  unfold Machine.railSample
  extract_lets s1 s2 lo hi inn s3 pg s4
  have h1 : Tidy U s1 := h.fset
  have h2 : Tidy U s2 := h1.dramUv.ite h1
  have h3 : Tidy U s3 := h2.fset.ite h2
  exact h.ite (h2.ite h3.modRail.judge.seqCheck)

theorem railPgLoss {r} (h : Tidy U s) : Tidy U (Machine.railPgLoss r s) :=
  h.fset.bump.railFault.modRail.railUv.railLoss.dramUv.seqCheck.ite (h.fset.dramUv.ite h.fset)

theorem resetStretchExpiry {i} (h : Tidy U s) : Tidy U (Machine.resetStretchExpiry i s) := by
  unfold Machine.resetStretchExpiry; extract_lets; split
  · exact h.rstRelease.ite h
  · exact h

theorem abandon (h : Tidy U s) : Tidy U s.abandon := by
  unfold State.abandon
  extract_lets n s1
  have h1 : Tidy U s1 := h.modPsq.elyRecord
  exact h1.rest.ite h1

theorem holdupEntry (h : Tidy U s) : Tidy U (Machine.holdupEntry s) := by
  unfold Machine.holdupEntry
  extract_lets s1 s2 s3
  have h2 : Tidy U s2 := h.setSeq.rstAll.foldl fun h => h.modRail.driveRail.fset.dramUv.ite h
  have h3 : Tidy U s3 := h2.foldl fun h => h.ite h.hwDom
  exact .ite (h3.abandon.ite h3) h

theorem holdupEnd (h : Tidy U s) : Tidy U (Machine.holdupEnd s) :=
  .ite (.ite (.powerUp (.fset (.setSeq (.goOff (h.foldl driveRail)))))
    (.fset (.setSeq (.goOff (h.foldl driveRail))))) h

theorem reset094 (h : Tidy U s) : Tidy U s.reset094 := h.resetRange.resetRange.resetRange.resetRange
theorem loadRail {r v} (h : Tidy U s) : Tidy U (s.loadRail r v) := h.foldl fset
theorem loadRst {i v} (h : Tidy U s) : Tidy U (s.loadRst i v) := h.foldl fset

theorem vaonGone (h : Tidy U s) : Tidy U s.vaonGone := by
  unfold State.vaonGone
  extract_lets s1 s2 lost
  have h1 : Tidy U s1 := goOff (h.rstAll.foldl driveRail)
  have h2 : Tidy U s2 := h1.reset094.blockReset
  clear_value s2
  exact h2.doms_nil.rest

theorem vaonPowerOn {chrysalisOk} (h : Tidy U s) : Tidy U (Machine.vaonPowerOn chrysalisOk s) := by
  unfold Machine.vaonPowerOn
  extract_lets copy ok g t s1 s2
  have h1 : Tidy U s1 := h.vaonGone.rest
  have h2 : Tidy U s2 := h1.regs_foldl.ite (.foldl (h1.foldl loadRail) loadRst)
  exact h2.latchSlots.inputRails

theorem porAssert (h : Tidy U s) : Tidy U (Machine.porAssert s) := h.modPsq.fset.goOff
theorem porRelease (h : Tidy U s) : Tidy U (Machine.porRelease s) := h.modPsq.resetStretchExpiry

/-! ### The cistern -/

theorem modCis {f} (h : Tidy U s) : Tidy U (s.modCis f) := h.rest
theorem modPack {p f} (h : Tidy U s) : Tidy U (s.modPack p f) := h.modCis
theorem setZ {p i v} (h : Tidy U s) : Tidy U (s.setZ p i v) := h.fsat.ite h.fsat
theorem healthShow {p} (h : Tidy U s) : Tidy U (s.healthShow p) := h.fset
theorem reDesign (h : Tidy U s) : Tidy U s.reDesign := .foldl (.ite (h.foldl modPack) h) healthShow

theorem recTouch {p} (h : Tidy U s) : Tidy U (s.recTouch p) := by
  unfold State.recTouch
  exact h.modPack

theorem recWrite {p} (h : Tidy U s) : Tidy U (s.recWrite p) := by
  unfold State.recWrite
  exact h.recTouch.modPack.rest

theorem zFlash {p} (h : Tidy U s) : Tidy U (s.zFlash p) := h.recWrite.modPack.ite h
theorem zChanged {p} (h : Tidy U s) : Tidy U (s.zChanged p) := h.recTouch.zFlash
theorem recFlashed (h : Tidy U s) : Tidy U s.recFlashed := h.foldl modPack

theorem loadRecords {bad} (h : Tidy U s) : Tidy U (s.loadRecords bad) := by
  unfold State.loadRecords
  refine h.foldl fun {s p} h => ?_
  extract_lets r
  clear_value r
  split
  · exact h
  · exact .healthShow (h.modPack.fset.fset.foldl setZ)

theorem socFrom {p mv} (h : Tidy U s) : Tidy U (s.socFrom p mv) := h.modPack.fset
theorem socCount {p} (h : Tidy U s) : Tidy U (s.socCount p) := h.ite h.modPack.fset
theorem cyclesUp {p} (h : Tidy U s) : Tidy U (s.cyclesUp p) := h.ite h.modPack.satUp.recWrite
theorem coulomb {p v} (h : Tidy U s) : Tidy U (s.coulomb p v) :=
  (h.fset.modPack.fset.ite h.fset.modPack).socCount.cyclesUp.ite (h.fset.modPack.fset.ite h.fset.modPack)

theorem coulombSample {shunt} (h : Tidy U s) : Tidy U (Machine.coulombSample shunt s) := h.foldl fun h => by
  split
  · exact h.coulomb
  · exact h

theorem judgePack {p} (h : Tidy U s) : Tidy U (s.judgePack p) := h.fput
theorem limAccepted {was} (h : Tidy U s) : Tidy U (s.limAccepted was) := h.foldl fun h => h.driveLim.ite h
theorem charge {p} (h : Tidy U s) : Tidy U (s.charge p) := h.modPack.fset.driveChg
theorem chargeAll (h : Tidy U s) : Tidy U s.chargeAll := h.foldl charge
theorem inputPath {high} (h : Tidy U s) : Tidy U (s.inputPath high) := h.driveRail
theorem learnReject (h : Tidy U s) : Tidy U s.learnReject := h.bump
theorem calEnd {st reason} (h : Tidy U s) : Tidy U (s.calEnd st reason) :=
  .ite (.learnReject ((h.inputPath.ite h).fset.fset.foldl modPack)) h

theorem calibrationGo {pack} (h : Tidy U s) : Tidy U (Machine.calibrationGo pack s) := by
  unfold Machine.calibrationGo
  extract_lets s1 t s2 s3 s4
  have h1 : Tidy U s1 := h.modCis
  have h3 : Tidy U s3 := h.fset.modCis
  exact (h1.ite h1.modCis.inputPath.fset).ite
    (h.ite (h3.fset.fset.learnReject.ite (h3.fset.fset.foldl modPack)))

theorem calPause (h : Tidy U s) : Tidy U s.calPause := h.modCis.inputPath.fset.satUp
theorem calibrationPause (h : Tidy U s) : Tidy U (Machine.calibrationPause s) :=
  h.modCis.calPause.ite (h.modCis.ite h)
theorem calibrationAbort (h : Tidy U s) : Tidy U (Machine.calibrationAbort s) := h.calEnd

theorem calibrationFull (h : Tidy U s) : Tidy U (Machine.calibrationFull s) := by
  unfold Machine.calibrationFull
  extract_lets s1
  have h1 : Tidy U s1 := h.foldl fun h => h.modPack.fset.ite h
  exact .ite (h1.fset.inputPath.chargeAll.ite h1) h

theorem calibrationDischargeEnd (h : Tidy U s) : Tidy U (Machine.calibrationDischargeEnd s) :=
  h.inputPath.fset.ite h
theorem learn {p} (h : Tidy U s) : Tidy U (s.learn p).1 :=
  h.modPack.modPack.healthShow.recWrite.ite_fst h.modPack.learnReject
theorem calAnchor {p} (h : Tidy U s) : Tidy U (s.calAnchor p) :=
  ((h.learn.fset.ite h.learn).fset.ite (h.learn.fset.ite h.learn)).ite h
theorem socAnchor {p} (h : Tidy U s) : Tidy U (Machine.socAnchor p s) :=
  h.socFrom.modPack.fset.fset.fset.calAnchor.ite h
theorem socUncGrowth {p} (h : Tidy U s) : Tidy U (Machine.socUncGrowth p s) := h.modPack.fset.ite h
theorem rehFail (h : Tidy U s) : Tidy U s.rehFail := h.modCis.fset
theorem rehPlan (h : Tidy U s) : Tidy U s.rehPlan := (h.fsat.modCis.ite h.fsat.rehFail).ite h.fsat
theorem rehearsalGo (h : Tidy U s) : Tidy U (Machine.rehearsalGo s) := h.ite (h.modCis.ite h.modCis.rehFail)

theorem rehearsalStart (h : Tidy U s) : Tidy U (Machine.rehearsalStart s) := by
  unfold Machine.rehearsalStart; split
  · exact h.ite (h.rehFail.ite (.chargeAll (.inputPath (.modCis (h.foldl modPack)))))
  · exact h

theorem rehearsalLoad (h : Tidy U s) : Tidy U (Machine.rehearsalLoad s) := by
  unfold Machine.rehearsalLoad; split
  · exact h.modCis.emit.ite h
  · exact h

theorem rehUnload (h : Tidy U s) : Tidy U s.rehUnload := h.modCis.emit.ite h
theorem rehStop (h : Tidy U s) : Tidy U s.rehStop := h.modCis.rehUnload
theorem rehPath (h : Tidy U s) : Tidy U s.rehPath := h.inputPath.foldl closeStripe
theorem rehAbort {result path} (h : Tidy U s) : Tidy U (s.rehAbort result path) :=
  (h.rehStop.fset.rehPath.ite h.rehStop.fset).ite h
theorem rehearsalSample {mv} (h : Tidy U s) : Tidy U (Machine.rehearsalSample mv s) :=
  .ite (h.ite (.foldl (h.rehAbort.foldl fun h => h.fset.fault) recWrite)) h

theorem rehearsalEnd {powerDw mv ma} (h : Tidy U s) : Tidy U (Machine.rehearsalEnd powerDw mv ma s) := by
  unfold Machine.rehearsalEnd; split
  · exact h.rehStop.modCis.rehPath.ite h
  · exact h

theorem rehFactor {p v i} (h : Tidy U s) : Tidy U (s.rehFactor p v i) := (h.fset.rest.ite h.fset).recWrite

theorem rehearsalPublish (h : Tidy U s) : Tidy U (Machine.rehearsalPublish s) := by
  unfold Machine.rehearsalPublish; split
  · exact .chargeAll (.fsat (.fset (.fsat (.fset (.modCis (h.foldl rehFactor))))))
  · exact h

theorem cisTrigger (h : Tidy U s) : Tidy U s.cisTrigger := h.calEnd.rehAbort.chargeAll
theorem cisCold (h : Tidy U s) : Tidy U s.cisCold := h.calEnd.modCis
theorem packSample {p x} (h : Tidy U s) : Tidy U (s.packSample p x) :=
  (h.fsat.fset.fput.fput.fault.ite h.fsat.fset.fput.fput).modPack.judgePack
theorem calWatch (h : Tidy U s) : Tidy U s.calWatch :=
  h.modCis.calPause.ite ((h.modCis.ite h.modCis.calibrationGo).ite h)

theorem cisternSample {xs} (h : Tidy U s) : Tidy U (Machine.cisternSample xs s) := by
  refine .chargeAll (.calWatch (h.foldl fun h => ?_))
  split
  · exact h.packSample
  · exact h

theorem lightPulse {p} (h : Tidy U s) : Tidy U (Machine.lightPulse p s) := h.modPack.charge.ite h

theorem lightPulseEnd {p dv di} (h : Tidy U s) : Tidy U (Machine.lightPulseEnd p dv di s) := by
  unfold Machine.lightPulseEnd; split
  · exact (h.rest.ite h).setZ.modPack.zChanged.charge.ite h
  · exact h

theorem packRemoved {p} (h : Tidy U s) : Tidy U (Machine.packRemoved p s) :=
  h.fset.fset.modPack.fset.charge.fset.bump.fault.calEnd.rehAbort.chargeAll.ite h

theorem swapIn {p} (h : Tidy U s) : Tidy U (s.swapIn p) := by
  unfold State.swapIn
  extract_lets t v s1 s2
  have h2 : Tidy U s2 := h.socFrom.modPack.fset.fset.fset
  exact h2.ite (.zChanged (.healthShow (h2.modPack.fset.fset.foldl setZ)))

theorem swapAll (h : Tidy U s) : Tidy U s.swapAll := h.foldl fun h => h.swapIn.judgePack.ite h
theorem packInserted {p mv} (h : Tidy U s) : Tidy U (Machine.packInserted p mv s) :=
  (h.fset.fsat.modPack.ite h.fset.fsat.modPack.swapIn).ite h
theorem packCounted {p} (h : Tidy U s) : Tidy U (Machine.packCounted p s) := h.judgePack.ite h
theorem socReport {pps} (h : Tidy U s) : Tidy U (s.socReport pps) :=
  h.fput.fset.rest.ite (h.fput.fsat.ite (h.fput.ite h.fput.fset))
theorem publishUsable (h : Tidy U s) : Tidy U s.publishUsable :=
  .socReport (.fsat (.fsat (.fput (.fput (.foldl (h.foldl judgePack) (fun h => h.fsat.fset.fput))))))
theorem cisBeat (h : Tidy U s) : Tidy U s.cisBeat := .chargeAll (.publishUsable (h.rehPlan.foldl zFlash))
theorem alarmHit (h : Tidy U s) : Tidy U (Machine.alarmHit s) := h.fset.modCis.wakeSource.ite h
theorem crystalTrim {running} (h : Tidy U s) : Tidy U (Machine.crystalTrim running s) := h.fput

/-! ### Cuts and spills -/

theorem cutLd {n cause want late report rings} (h : Tidy U s) :
    Tidy U (s.cutLd n cause want late report rings).1 := by
  unfold State.cutLd; extract_lets; split
  · exact .ite_fst (pair h.takeRetain.modCkpt.showCkpts) (pair h.takeCkpt)
  · exact pair h.takeCkpt

theorem cutCovered {cause beat mask own late} (h : Tidy U s) :
    Tidy U (s.cutCovered cause beat mask own late) := by
  unfold State.cutCovered
  refine .modCol (h.foldl_fst fun {x n} h => ?_)
  extract_lets y
  have hy : Tidy U y.1 := h.cutLd
  split
  · exact hy
  · exact hy

theorem cutAsked {n} (h : Tidy U s) : Tidy U (s.cutAsked n) := by
  refine h.ite ?_
  split
  · exact h.cutLd.foldl modAcc
  · exact .foldl (h.cutLd.foldl modAcc) finish

theorem passCuts (h : Tidy U s) : Tidy U s.passCuts := h.modCol.foldl fun h => .foldl (h.foldl finish) finish
theorem checkpointCut (h : Tidy U s) : Tidy U (Machine.checkpointCut s) :=
  h.ite (.showWeir (.reportCuts (.writeCkptRecs (.foldl (h.modCol.foldl cutCovered) cutAsked))))
theorem spillTrigger {cause} (h : Tidy U s) : Tidy U (s.spillTrigger cause) :=
  h.pdmSpill.modPsq.cisTrigger.setStage.ownSpill

theorem fmSpill (h : Tidy U s) : Tidy U (Machine.fmSpill s) := by
  unfold Machine.fmSpill; split
  · exact h.spillTrigger
  · exact h.spillTrigger
  · exact h
  · exact h.ownPlunge.pullPlungeN
  · exact h.bump.ownPlunge.pullPlungeN

theorem inputCollapse (h : Tidy U s) : Tidy U (Machine.inputCollapse s) := by
  unfold Machine.inputCollapse
  extract_lets s1
  have h1 : Tidy U s1 := h.fset.fset.levelOff.chargeAll
  split
  · exact h1.spillTrigger
  · exact h1.spillTrigger
  · exact h1.spillTrigger.ite h1.offRequest.goOff
  · exact h1.offRequest
  · exact h1.bump

theorem inputGoodRise (h : Tidy U s) : Tidy U (Machine.inputGoodRise s) :=
  h.ite h.fset.fset.onRequest.wakeSource

theorem dropUnbegun (h : Tidy U s) : Tidy U s.dropUnbegun := by
  unfold State.dropUnbegun
  extract_lets open_ seqs items due back s1 s2 s3 s4 s5 s6 keep
  have h2 : Tidy U s2 := h.modRill.modLog.foldl fun h => by
    extract_lets s'
    have h' : Tidy U s' := by
      unfold s'; split
      · exact h.eddy_set.ite h
      · exact h
    exact h'.setPState.ite h'
  have h4 : Tidy U s4 := h2.redoCkpts.foldl setPState
  exact h4.dropReqs.modRfl.modLog.eddy_filter.showSlots

theorem closeSluice (h : Tidy U s) : Tidy U s.closeSluice := h.chans_map.modFab.showTrk
theorem ldsSpill (h : Tidy U s) : Tidy U s.ldsSpill := h.foldl fun h => h.modLd.setLdState
theorem advanceRoles (h : Tidy U s) : Tidy U s.advanceRoles := h.modSpill.targets_nil.foldl fset
theorem spillOpen (h : Tidy U s) : Tidy U s.spillOpen := h.elyRecord
theorem closeSession (h : Tidy U s) : Tidy U s.closeSession := h.modFlm.fset

theorem flmEnd {status us} (h : Tidy U s) : Tidy U (s.flmEnd status us) := by
  unfold State.flmEnd
  extract_lets s1 s2
  have h1 : Tidy U s1 := h.modFlm.fset.fset
  exact h1.fsat.bump.ite h1.fsat

theorem flmAtT (h : Tidy U s) : Tidy U s.flmAtT := by
  unfold State.flmAtT; extract_lets; split
  · exact h.closeSession.modFlm.ite h.closeSession.flmEnd.fset
  · exact h.closeSession

theorem repairStops (h : Tidy U s) : Tidy U s.repairStops := h.ite h.modBoot.fset

theorem spillBegin {cut origin cause late own} (h : Tidy U s) :
    Tidy U (s.spillBegin cut origin cause late own) := by
  unfold State.spillBegin
  extract_lets gen was owed allow devOwed over_ s1 order tail deficit head s2 b s3 boot s4 s5 s6 s7 s8
  have h2 : Tidy U s2 := h.flmAtT.closeSluice.unfreezeAll.dropUnbegun.modSpill
  have h3 : Tidy U s3 := h2.modCol
  have h4 : Tidy U s4 := h3.rest
  have h5 : Tidy U s5 := h4.ldsSpill.advanceRoles.repairStops.setDev
  have h6 : Tidy U s6 := h5.setStage.fset.showLdNow
  have h8 : Tidy U s8 := h6.fput.fset.fset.fset.fsat.fset
  exact h8.bump.spillOpen

theorem ownCutDue (h : Tidy U s) : Tidy U s.ownCutDue := by
  unfold State.ownCutDue; split
  · exact h.spillBegin.ite h
  · exact h

theorem cutBeatBoundary (h : Tidy U s) : Tidy U (Machine.cutBeatBoundary s) := by
  unfold Machine.cutBeatBoundary; split
  · exact h.ownCutDue
  · extract_lets b spillNow able cause fails s1
    have h1 : Tidy U s1 := h.modCol
    exact .ite (h1.spillBegin.ite (h1.cutCovered.writeCkptRecs.reportCuts.showWeir.ite h1))
      (h.spillBegin.ite h.ownCutDue)

theorem stageB (h : Tidy U s) : Tidy U s.stageB := h.setStage.elyPump.ite h
theorem spillDrainDone (h : Tidy U s) : Tidy U (Machine.spillDrainDone s) := h.drainAll.modSpill.stageB.ite h
theorem spillTakeoverDone (h : Tidy U s) : Tidy U (Machine.spillTakeoverDone s) := h.modSpill.stageB.ite h

theorem sealCkpts (h : Tidy U s) : Tidy U s.sealCkpts := by
  unfold State.sealCkpts
  extract_lets s1
  have h1 : Tidy U s1 := h.foldl fun h => by
    split
    · exact h.foldl ckptCopied
    · exact h.foldl ckptCopied
  exact h1.foldl fun h => .completeCkpts (h.foldl fun h => h.modCkpt.ite h)

theorem spillStageBEnd (h : Tidy U s) : Tidy U (Machine.spillStageBEnd s) :=
  (h.bump.ite h).modSpill.setStage.placeAll.modSpill.elyPump.ite h

theorem spillStageCEnd (h : Tidy U s) : Tidy U (Machine.spillStageCEnd s) := by
  unfold Machine.spillStageCEnd
  extract_lets s1 b first s2 g body r s3 s4
  have h1 : Tidy U s1 := h.foldl fun h => h.closeStripe.freeDies.land
  have h3 : Tidy U s3 := h1.modSpill.newStripe.setStage.modSpill
  refine .ite (elyPump ?_) h
  unfold s4; split
  · exact h3.modStripe
  · exact h3

theorem sendRailOff (h : Tidy U s) : Tidy U s.sendRailOff := h.elySend.modSpill

theorem sealProgrammed (h : Tidy U s) : Tidy U (Machine.sealProgrammed s) := by
  unfold Machine.sealProgrammed
  extract_lets s1 record g s2 inc t s3 s4 s5 s6 s7 s8 s9
  have h2 : Tidy U s2 := h.sealCkpts.foldl fun h => h.closeStripe.freeDies.land
  have h4 : Tidy U s4 := h2.rest.setDev.setStage.showLdNow.modSpill
  have h5 : Tidy U s5 := h4.foldl setLdState
  have h6 : Tidy U s6 := h5.sendSealReport.ite h5
  have h9 : Tidy U s9 := h6.fset.fset.fset.fset.foldl fun h => h.selfRefresh.ite h
  exact .ite (h9.sendRailOff.ite h9) h

theorem sealHoldExpiry (h : Tidy U s) : Tidy U (Machine.sealHoldExpiry s) := h.sendRailOff.ite h

theorem takeWrote (h : Tidy U s) : Tidy U s.takeWrote := h.foldl fun h => by
  split
  · exact h.freeEddy
  · exact h.setPage.modLog

theorem ckptsToWrite (h : Tidy U s) : Tidy U s.ckptsToWrite := h.foldl modLd
theorem ldsReturn (h : Tidy U s) : Tidy U s.ldsReturn := h.foldl fun h => h.modLd.setLdState.ite h

theorem leaveSealed (h : Tidy U s) : Tidy U s.leaveSealed := by
  unfold State.leaveSealed
  extract_lets s1 off s2 t src
  have h1 : Tidy U s1 := h.setStage.showLdNow.fset
  exact (h1.inputPath.ite h1).modPsq.rest

theorem dryReturn (h : Tidy U s) : Tidy U s.dryReturn := by
  unfold State.dryReturn
  extract_lets s1 s2 s3 s4 s5 s6 s7 s8 held s9
  have h1 : Tidy U s1 := h.takeWrote.ckptsToWrite.ldsReturn.advanceRoles
  have h2 : Tidy U s2 := h1.foldl fun h => h.recount.ite h
  have h5 : Tidy U s5 := h2.setDev.leaveSealed.bump.foldl fun h => h.leaveRefresh.ite h
  have h8 : Tidy U s8 := takeKept (h5.passCuts.foldl postRing)
  have h9 : Tidy U s9 := h8.foldl fun h => by
    split
    · exact h.step2
    · exact h
  exact h9.writeCkptRecs.reportCuts.settle.showWeir

/-! ### The two Elytra -/

theorem elyOut {e reason} (h : Tidy U s) : Tidy U (s.elyOut e reason) := by
  unfold State.elyOut
  extract_lets s1 s2 s3
  have h2 : Tidy U s2 := h.setUnit.fset.fset.fset.modEly.modSpill
  exact (h2.fset.modEly.ite h2).fault

theorem elyPage {f line read} (h : Tidy U s) : Tidy U (s.elyPage f line read) := by
  unfold State.elyPage; split
  · exact h
  · extract_lets p s1 void s2 put n x s3
    have h2 : Tidy U s2 := h.modSpill.modSpill
    refine elyPump ?_
    have hx : Tidy U x.1 := h2.decodeLine
    unfold s3; split
    · extract_lets at_ x n s4 e
      have h4 : Tidy U s4 := by
        unfold s4; split
        · exact h2.decodeLine.ueReserve.modSpill
        · exact h2.decodeLine
      exact .ite (.ite h4 h4.modSpill) h4
    · refine .ite ?_ h2
      split
      · exact hx.ueLine.modSpill
      · exact .ite hx hx.modSpill

theorem elyProgram {f} (h : Tidy U s) : Tidy U (s.elyProgram f) := by
  unfold State.elyProgram; split
  · exact h
  · exact ((h.modEly.ite h).modSpill.ite (h.modEly.ite h)).closeStripe

theorem elyJournal {q} (h : Tidy U s) : Tidy U (s.elyJournal q) := h.modFlt

theorem elyRun {f line read} (h : Tidy U s) : Tidy U (s.elyRun f line read) := by
  unfold State.elyRun; split
  · exact h.elyPage.ite h
  · exact h.elyProgram.ite h
  · exact h.elyProgram.ite h
  · exact h.elyJournal
  · exact h.modSpill.offRequest
  · exact h

theorem modSpace {t shadow g} (h : Tidy U s) : Tidy U (s.modSpace t shadow g) := h.modTarget
theorem rejoin (h : Tidy U s) : Tidy U s.rejoin := h.foldl fun h => (h.fset.modEly.fset.ite h.fset.modEly).ite h
theorem passClean (h : Tidy U s) : Tidy U s.passClean :=
  .ite (.rejoin (.modSpill (h.foldl fun h => h.satUp.modEly))) h
theorem passFails (h : Tidy U s) : Tidy U s.passFails := .modSpill (h.foldl fun h => h.fset.modEly)
theorem passMatch {f} (h : Tidy U s) : Tidy U (s.passMatch f) := h.modSpill.passClean.ite h.modSpill

theorem suspect {f} (h : Tidy U s) : Tidy U (s.suspect f) := by
  unfold State.suspect; split
  · exact h.modSpill
  · extract_lets on
    split
    · exact h.modSpill
    · exact h
  · extract_lets on
    split
    · exact h.modSpill
    · exact h
  · exact h

theorem elyMismatch {first shadow} (h : Tidy U s) : Tidy U (s.elyMismatch first shadow) :=
  h.fault.passFails.ite h.fault.bump.suspect.modSpill
theorem compare {first f shadow} (h : Tidy U s) : Tidy U (s.compare first f shadow) :=
  h.elyMismatch.ite (h.passMatch.ite h)
theorem lagDrop (h : Tidy U s) : Tidy U s.lagDrop := h.bump

theorem elyExecute {shadow f line read k} (h : Tidy U s) : Tidy U (s.elyExecute shadow f line read k) := by
  induction k generalizing s f line read with
  | zero => exact h
  | succ k ih =>
    unfold State.elyExecute
    extract_lets t s1 s2
    have h2 : Tidy U s2 := .modSpace (.ite h h.elyRun)
    split
    · exact ih h2.modSpace
    · exact h2

theorem elyTake {shadow f line read} (h : Tidy U s) : Tidy U (s.elyTake shadow f line read) := by
  unfold State.elyTake
  extract_lets t x b s1
  have h1 : Tidy U s1 := h.modSpace
  refine h.elyExecute.ite (.ite ?_ (.ite ?_ h.lagDrop))
  · split
    · exact h1.compare
    · exact h1.modSpace.ite h1.lagDrop
  · split
    · exact h.compare
    · exact h.lagDrop

theorem heartbeat {src} (h : Tidy U s) : Tidy U (s.heartbeat src) := by
  unfold State.heartbeat
  exact h.modEly

theorem elyFrame {f line read} (h : Tidy U s) : Tidy U (s.elyFrame f line read) :=
  h.bump.ite ((h.ite h.heartbeat).ite (h.ite (h.bump.ite (h.ite h.elyTake))))
theorem elyPlain {f} (h : Tidy U s) : Tidy U (s.elyPlain f) := h.elyFrame

theorem seqGap {t shadow} (h : Tidy U s) : Tidy U (s.seqGap t shadow) := by
  unfold State.seqGap; extract_lets; split
  · exact .ite (h.rest.modSpace.fault.foldl elyEmit) h
  · exact h

theorem seqGapRow {t} (h : Tidy U s) : Tidy U (Machine.seqGap t s) := h.seqGap.seqGap

theorem takeBack {q t} (h : Tidy U s) : Tidy U (s.takeBack q t).1 := by
  unfold State.takeBack
  exact .ite_fst (pair h.modSpill.fset) (pair h.modSpill)

theorem rewriteSuspect {q} (h : Tidy U s) : Tidy U (s.rewriteSuspect q) := by
  unfold State.rewriteSuspect
  extract_lets again
  have hagain {s w its} (h : Tidy U s) : Tidy U (again s w its) := h.bump.foldl fun {s i} h => by
    extract_lets r
    have hr : Tidy U r.1 := h.place
    split
    · exact hr.modSpill
    · exact .ite hr.modSpillBack hr
  split
  · exact .ite h.bump.rewriteStripe.modSpill (hagain (.modLog (.ite h.freeDies h)))
  · split
    · exact .ite (hagain h.takeBack) h
    · exact h

theorem rewriteSuspects {which from_} (h : Tidy U s) : Tidy U (s.rewriteSuspects which from_) :=
  h.modSpill.foldl rewriteSuspect
theorem clearSuspects (h : Tidy U s) : Tidy U s.clearSuspects := h.modSpill.elyPump

theorem selfCheck {aOk bOk} (h : Tidy U s) : Tidy U (Machine.selfCheck aOk bOk s) := by
  unfold Machine.selfCheck
  extract_lets k s1 again s2 e bad
  have h1 : Tidy U s1 := h.rest
  have h2 : Tidy U s2 := h.elyOut.ite h
  exact h.ite (.ite (h1.bump.fault.modSpill.ite h2.rewriteSuspects.clearSuspects)
    (h.elyOut.clearSuspects.modSpill.ite h.elyOut.rewriteSuspects.clearSuspects))

theorem shadowPass {mismatch} (h : Tidy U s) : Tidy U (Machine.shadowPass mismatch s) := by
  unfold Machine.shadowPass
  extract_lets b s1 fs s2 s3 s4
  have h3 : Tidy U s3 := h.passClean.modSpill.targets_map
  have h4 : Tidy U s4 := h3.emits
  exact .ite (h4.passFails.ite (h4.passClean.ite h4)) h

theorem heartbeats (h : Tidy U s) : Tidy U s.heartbeats := h.emits
theorem fence {e} (h : Tidy U s) : Tidy U (s.fence e) := h.modEly.modEly.fault
theorem heartbeatLost {silent} (h : Tidy U s) : Tidy U (Machine.heartbeatLost silent s) := h.fence.ite h
theorem fenceApplied {e} (h : Tidy U s) : Tidy U (Machine.fenceApplied e s) := h.elyOut.elyPump.ite h
theorem elytraOnline {e} (h : Tidy U s) : Tidy U (Machine.elytraOnline e s) :=
  h.setUnit.fset.fset.fset.modEly.ite h
theorem elytraOffline {e} (h : Tidy U s) : Tidy U (Machine.elytraOffline e s) := h.elyOut.ite h

/-! ### The fabric -/

theorem ldForget {n} (h : Tidy U s) : Tidy U (s.ldForget n) := by
  unfold State.ldForget
  exact h.discard.modLd.modMb

theorem ldReset {n} (h : Tidy U s) : Tidy U (s.ldReset n) := by
  unfold State.ldReset
  exact h.ldForget.disableRings.abortCuts.regs_filter.blockReset.modLd

theorem cxlResetLd {n} (h : Tidy U s) : Tidy U (Machine.cxlResetLd n s) := h.ldReset.settle.showWeir.ite h
theorem ldResetEffect {n} (h : Tidy U s) : Tidy U (Machine.ldResetEffect n s) := h.modLd.ite h
theorem showBound (h : Tidy U s) : Tidy U s.showBound := h.foldl fset
theorem reachAll {p b} (h : Tidy U s) : Tidy U (s.reachAll p b) := h.foldl modLd

theorem portLoses {p} (h : Tidy U s) : Tidy U (s.portLoses p) := by
  unfold State.portLoses
  exact .modFab (.discard (h.foldl ldReset))

theorem linkDown {p} (h : Tidy U s) : Tidy U (s.linkDown p) :=
  h.fset.bump.fault.modFab.reachAll.portLoses.settle.showWeir.ite h
theorem fabHotReset {p} (h : Tidy U s) : Tidy U (Machine.fabHotReset p s) := h.portLoses.settle.showWeir.ite h

theorem fabLinkUp {p width rate flit256 flit68 laneRev} (h : Tidy U s) :
    Tidy U (Machine.fabLinkUp p width rate flit256 flit68 laneRev s) := by
  refine h.ite ?_
  split
  · exact h.fset.fset.fput.fset.fput.reachAll.showBound
  · exact h.linkDown

theorem gpfPhase1 {p} (h : Tidy U s) : Tidy U (Machine.gpfPhase1 p s) := h.emit.ite h
theorem gpfPhase2 {p} (h : Tidy U s) : Tidy U (Machine.gpfPhase2 p s) := h.modFab.ite h
theorem gpfDrainDone {p} (h : Tidy U s) : Tidy U (Machine.gpfDrainDone p s) :=
  h.drainAll.modFab.emit.wakeWmb.settle.showWeir.ite h

theorem hdmCommit {n i base size ways gran way skip lock} (h : Tidy U s) :
    Tidy U (Machine.hdmCommit n i base size ways gran way skip lock s) :=
  h.ite (h.emit.ite (h.modLd.emit.ite h.emit))

theorem bindChanged {n} (h : Tidy U s) : Tidy U (s.bindChanged n) := by
  unfold State.bindChanged
  exact h.fset.fset.fset.fset.fset.fset.rest.showBound

theorem setExtent {n base size} (h : Tidy U s) : Tidy U (s.setExtent n base size) :=
  h.dropWork.wipeExtent.clearPages.modLd.applyPolicy.bindChanged
theorem clearTags {n} (h : Tidy U s) : Tidy U (s.clearTags n) := h.foldl pages_set
theorem bindLd {n p id} (h : Tidy U s) : Tidy U (s.bindLd n p id) :=
  (h.ite h.dropWork.applyPolicy).modLd.clearTags.setLdState.bindChanged.refill.checkFilled.showWeir
theorem rebindLd {n p id} (h : Tidy U s) : Tidy U (s.rebindLd n p id) :=
  h.discard.disableRings.modLd.bindChanged.settle.showWeir
theorem unbindBegin {n} (h : Tidy U s) : Tidy U (s.unbindBegin n) := h.modLd.abortCuts
theorem ringUnbound {n i} (h : Tidy U s) : Tidy U (s.ringUnbound n i) :=
  (h.disableRing.ite h.disableRing.bump).modRing.fset.fset.fset.fset.fset
theorem unbindLd {n} (h : Tidy U s) : Tidy U (s.unbindLd n) :=
  .showWeir (.settle (.bindChanged (.setLdState (.modLd (h.discard.foldl ringUnbound)))))
theorem enterQuiesced {n} (h : Tidy U s) : Tidy U (s.enterQuiesced n) :=
  h.modLd.setLdState.wakeLd.settle.showWeir

theorem quiesceWaitExpiry {n} (h : Tidy U s) : Tidy U (Machine.quiesceWaitExpiry n s) := by
  unfold Machine.quiesceWaitExpiry; split
  · exact h.discard.settle.showWeir.ite h
  · exact h

theorem resumeLd {n} (h : Tidy U s) : Tidy U (s.resumeLd n) := h.modLd.setLdState.refill.checkFilled.showWeir

/-! ### Ring opcodes that change an LD's pages -/

theorem rollbackTo {ld n a} (h : Tidy U s) : Tidy U (Machine.rollbackTo ld n a s) := by
  unfold Machine.rollbackTo; extract_lets; split
  · exact h.finish
  · exact h.modLd.modAcc

theorem zeroBegin {ld n a} (h : Tidy U s) : Tidy U (Machine.zeroBegin ld n a s) :=
  h.modAcc.bump.modAcc.ite h.modAcc.zeroReserve
theorem zeroWaitExpiry {ld n ord w} (h : Tidy U s) : Tidy U (s.zeroWaitExpiry ld n ord w) :=
  h.bump.modAcc.ite (h.bump.modLd.modAcc.waitOver.kick.ite h.bump.modAcc)

theorem ringWeirWaitExpiry {ld n idx} (h : Tidy U s) : Tidy U (Machine.ringWeirWaitExpiry ld n idx s) := by
  unfold Machine.ringWeirWaitExpiry
  extract_lets bound
  split
  · exact h
  · split
    · exact h.ite (h.foldl zeroWaitExpiry).settle.showWeir
    · exact h.ite (h.bump.zeroReserve.settle.showWeir.ite h.bump.finish.settle.showWeir)

theorem sanitizeBegin {ld n ord} (h : Tidy U s) : Tidy U (Machine.sanitizeBegin ld n ord s) := h.newKey.modAcc

theorem readSeal {ld n readable a} (h : Tidy U s) : Tidy U (Machine.readSeal ld n readable a s) := by
  unfold Machine.readSeal; split
  · exact h.finish
  · exact h.emit.finish.ite h.finish

theorem heldWriteRelease {n} (h : Tidy U s) : Tidy U (Machine.heldWriteRelease n s) := by
  unfold Machine.heldWriteRelease; split
  · exact h.passHold
  · exact h.settle.showWeir

/-! ### COMMIT -/

theorem commitWrite {c} (h : Tidy U s) : Tidy U (s.commitWrite c) := h.ite h.rest

theorem withSet {set} (h : Tidy U s) : Tidy U (s.withSet set) := h.foldl fun h => by
  split
  · exact h.fset
  · exact h

theorem showRefusal {c set ok} (h : Tidy U s) : Tidy U (s.showRefusal c set ok) :=
  h.fput.ite ((h.fset.fset.ite ((h.ite h.fset).ite (h.ite h.fset).fset)).ite (h.fput.fset.ite (h.fput.ite h)))
theorem epochAccepted {was} (h : Tidy U s) : Tidy U (s.epochAccepted was) := h.modCol.ite (h.modCol.ite h)
theorem portsAccepted (h : Tidy U s) : Tidy U s.portsAccepted :=
  .rolePeriodic (.rolesCommitted (h.foldl fun h => (h.fset.ite h).loseSelected.ite (h.fset.ite h)))

theorem accepted {c set was} (h : Tidy U s) : Tidy U (s.accepted c set was) := by
  unfold State.accepted
  extract_lets ports roles s1 s2 s3
  have h1 : Tidy U s1 := h.portsAccepted.ite h
  have h2 : Tidy U s2 := h1.modCol.ite h1
  exact .ite h2.epochAccepted (.ite (h.foldl fun h => h.releaseOld.showCkpts.ite h)
    (.ite h.reDesign.limAccepted (.ite h.railsUnused.rest h)))

theorem commitCheck {c set} (h : Tidy U s) : Tidy U (s.commitCheck c set) := by
  unfold State.commitCheck
  extract_lets gone t0 now t
  have ht : Tidy U t := rest (h.rest.withSet : Tidy U t0)
  have hg : Tidy U gone := h.rest
  exact .ite ht.accepted.showRefusal hg.showRefusal

theorem commitChecks (h : Tidy U s) : Tidy U s.commitChecks := h.ite (h.foldl fun h => h.ite h.commitCheck)
theorem commitRow {path off} (h : Tidy U s) : Tidy U (Machine.commitRow path off s) :=
  h.commitWrite.ite (h.deny.ite h)

/-! ### Starts and the rebuild -/

theorem bootWritten {k} (h : Tidy U s) : Tidy U (s.bootWritten k) := h.rest
theorem putCopy {k img} (h : Tidy U s) : Tidy U (s.putCopy k img) := h.modBoot.bootWritten
theorem showCopies (h : Tidy U s) : Tidy U s.showCopies := h.fset.fset.fset.fset.fset.fset
theorem setXip {k} (h : Tidy U s) : Tidy U (s.setXip k) := h.modBoot.fput.fset.fset
theorem pushHist {kind reason copy stage ms} (h : Tidy U s) : Tidy U (s.pushHist kind reason copy stage ms) :=
  .fsat (.fset (.fset (.fset (.fset (h.foldl fun h => h.fset.fset.fset.fset.fset)))))

theorem saveHist (h : Tidy U s) : Tidy U s.saveHist := by
  unfold State.saveHist
  exact h.modBoot

theorem ldsSeal (h : Tidy U s) : Tidy U s.ldsSeal := h.foldl setLdState

theorem enterBasin (h : Tidy U s) : Tidy U s.enterBasin :=
  .showCopies (.modBoot (.foldl (.setXip (.fput (h.setDev.fset.ldsSeal.foldl modLd)))
    (fun h => h.selfRefresh.ite h)))

theorem showTraining {k} (h : Tidy U s) : Tidy U (s.showTraining k) := .ite (h.foldl fun h => h.fset.ite h) h

theorem setStart {k} (h : Tidy U s) : Tidy U (s.setStart k) := by
  unfold State.setStart
  extract_lets s1
  have h1 : Tidy U s1 := h.fset.showTraining
  exact h1.fset.ite (h1.fset.ite h1)

theorem startTime (h : Tidy U s) : Tidy U s.startTime := h.ite h.rest
theorem slotsFound (h : Tidy U s) : Tidy U s.slotsFound := h.fset.showSlots
theorem latchReserve (h : Tidy U s) : Tidy U s.latchReserve := (h.ite h.rest).slotsFound

theorem beginStart {kind} (h : Tidy U s) : Tidy U (s.beginStart kind) := by
  unfold State.beginStart
  extract_lets t s1 s2 s3
  have h1 : Tidy U s1 := h.rest.fset.ite h
  have h3 : Tidy U s3 := h1.modBoot.startTime.latchReserve.ite (h1.modBoot.startTime.ite h1.modBoot)
  exact h3.setDev.fset.fset.setStart

theorem dramLost (h : Tidy U s) : Tidy U s.dramLost := by
  unfold State.dramLost
  exact h.pages_nil.dram_nil.poison_nil.eddy_nil.chans_map.rest

theorem readSeals (h : Tidy U s) : Tidy U s.readSeals := by
  unfold State.readSeals
  exact h.modFlt.rest

theorem eraseCut (h : Tidy U s) : Tidy U s.eraseCut := by
  unfold State.eraseCut; split
  · exact h
  · exact h.flash_filter.rest

theorem coldInit (h : Tidy U s) : Tidy U s.coldInit := by
  unfold State.coldInit
  extract_lets keep s1 usedGen coldLd keepMb coldMb next lostC out s2 s3 flt ely boot flm s4 s5 s6 s7 s8
  have h2 : Tidy U s2 := h.readSeals.releasePlungeN.flmCut.eraseCut.dramLost.blockReset
  have h3 : Tidy U s3 := h2.modRill.ite h2
  clear_value s3
  have hout : tabSorted (out.map fun e => (e, { Elytra.new with rejoining := true })) = true := by
    rw [tabSorted_iff, Rising, List.pairwise_map]
    exact List.Pairwise.filter _ (by decide : [0, 1].Pairwise (· < ·))
  have h4 : Tidy U s4 :=
    ((((h3.regs_filter.lds_map.mbx_map).elys_of hout).targets_nil).doms_filter).rest
  have h5 : Tidy U s5 := h4.foldl fun h => h.ite h.fset.fset.fset
  have h6 : Tidy U s6 := h5.foldl fun h => h.fset.ite h
  have h7 : Tidy U s7 := h6.foldl fun h => h.setLdState.ite h
  have h8 : Tidy U s8 := h7.foldl fun h => h.fset.fset.fset.fset.fset.fset.ite h
  exact h8.setUnit.setUnit.fset

theorem coldStart {kind} (h : Tidy U s) : Tidy U (s.coldStart kind) := h.coldInit.cisCold.beginStart
theorem coldStartRow (h : Tidy U s) : Tidy U (Machine.coldStart s) := h.coldStart.ite h
theorem restart (h : Tidy U s) : Tidy U s.restart := h.beginStart.ite h.coldStart

theorem startFail {reason} (h : Tidy U s) : Tidy U (s.startFail reason) := by
  unfold State.startFail
  extract_lets s1 s2 s3
  have h3 : Tidy U s3 := h.satUp.bump.fset.pushHist.saveHist
  exact h3.restart.ite (h3.fset.modBoot.showCopies.ite h3.enterBasin)

theorem stage1 {o} (h : Tidy U s) : Tidy U (s.stage1 o).1 :=
  h.ite_fst (((h.modBoot.ite h.modBoot.elyOut).ite (h.modBoot.ite h.modBoot.elyOut).elyOut).ite_fst h)
theorem stage2 {o} (h : Tidy U s) : Tidy U (s.stage2 o).1 :=
  h.modBoot.showCopies.ite_fst (h.modBoot.showCopies.ite_fst h.modBoot.showCopies)
theorem loadUcode {img ok} (h : Tidy U s) : Tidy U (s.loadUcode img ok) :=
  .foldl (.fput (.fput (.fset (.ite (h.foldl fault) h)))) fset

theorem stage3 {o} (h : Tidy U s) : Tidy U (s.stage3 o).1 := by
  unfold State.stage3; split
  · exact h
  · exact h.modBoot.fset.showCopies.ite h.modBoot.fset.showCopies.loadUcode

theorem loadProt {h'} (h : Tidy U s) : Tidy U (s.loadProt h') := by
  unfold State.loadProt
  extract_lets prot digest s1
  have h1 : Tidy U s1 := h.regs_filter.regs_foldl
  exact h1.modFlm.fput

theorem readHalves {bad} (h : Tidy U s) : Tidy U (s.readHalves bad) := h.cfgHalf_map

theorem loadCfg {cfg} (h : Tidy U s) : Tidy U (s.loadCfg cfg) := by
  unfold State.loadCfg
  exact h.regs_filter.regs_foldl

theorem loadBinds {h'} (h : Tidy U s) : Tidy U (s.loadBinds h') :=
  h.foldl fun h => h.ite h.modLd.setLdState.fset.fset.fset.fset
theorem latchMap (h : Tidy U s) : Tidy U s.latchMap := h.rest.foldl modChan

theorem stage4 {o} (h : Tidy U s) : Tidy U (s.stage4 o).1 := by
  unfold State.stage4
  extract_lets s1 best cfg s2 s3
  have h1 : Tidy U s1 := h.readHalves
  have h2 : Tidy U s2 := h1.loadCfg.loadProt.loadBinds.limAccepted.reDesign
  have h3 : Tidy U s3 := h2.loadRecords.swapAll
  exact .ite_fst h1 (.ite_fst h2 (pair h3.startTime.rolesCommitted))

theorem flashFound {o} (h : Tidy U s) : Tidy U (s.flashFound o) := by
  unfold State.flashFound
  extract_lets p s1 s2 table s3 resv sp s4 dies s5 s6 first taken free s7 s8
  have h3 : Tidy U s3 := h.fset.fset.fset.fset.fset.foldl fun h => h.fset.fset.fset.fset
  have h5 : Tidy U s5 := h3.modBoot.foldl fun h => .fset (.fsat (h.fset.modLog.foldl remapBlock))
  exact h5.fset.modLog.showCap.fset.showWindow

theorem jnlFound {ok} (h : Tidy U s) : Tidy U (s.jnlFound ok) := (h.fset.fset.ite h.fset).ite h.fset.fset.fault

theorem stage5 {o} (h : Tidy U s) : Tidy U (s.stage5 o).1 := by
  unfold State.stage5
  refine h.ite_fst ?_
  split
  · exact h
  · extract_lets s1 s2 s3 s4
    have h2 : Tidy U s2 := h.fset.latchMap.foldl dramPower
    have h4 : Tidy U s4 := latchReserve (h2.foldl fun h => h.fset.settings)
    exact h.ite_fst (h4.ite_fst (h4.ite_fst h4.flashFound.jnlFound))

theorem stage6 {o} (h : Tidy U s) : Tidy U (s.stage6 o).1 := by
  unfold State.stage6
  extract_lets g kept img older noJnl r0 empty reason use s1 s2 s3 s4 keys
  refine .ite_fst h ?_
  have h3 : Tidy U s3 := h.fset.fput.fset.fset
  clear_value use
  refine pair (modBoot ?_)
  unfold s4; split
  · exact h3.fset.fset
  · exact h3

theorem mapRecs {n recs dflt lost} (h : Tidy U s) : Tidy U (s.mapRecs n recs dflt lost) :=
  .foldl (h.clearPages.wipeExtent.foldl setPage) markPoisoned
theorem mapPolicy {n} (h : Tidy U s) : Tidy U (s.mapPolicy n).1 :=
  h.clearPages.wipeExtent.ite (h.clearPages.ite h.clearPages.wipeExtent)

theorem unnameSource {n} (h : Tidy U s) : Tidy U (s.unnameSource n) := by
  unfold State.unnameSource
  exact h.fset.rest.releaseOld

theorem mapLd {f n} (h : Tidy U s) : Tidy U (s.mapLd f n).1 := by
  unfold State.mapLd
  extract_lets src named show_ recsOf dfltOf x r1 src1
  have hshow {s code reason} (h : Tidy U s) : Tidy U (show_ s code reason) := h.fset.fset
  refine pair (modLd ?_)
  clear_value src
  unfold r1; split
  · exact pair (hshow h.mapPolicy)
  · exact pair (hshow h.mapRecs)
  · exact pair ((hshow h.mapRecs).unnameSource.ite (hshow h.mapRecs))
  · exact pair (hshow h.clearPages)
  · exact pair (hshow h.clearPages)

theorem openLd {n hold} (h : Tidy U s) : Tidy U (s.openLd n hold) :=
  h.fput.modLd.setLdState.ite (h.fput.modLd.setLdState.ite h.fput.modLd.setLdState)

theorem mapAll {f} (h : Tidy U s) : Tidy U (s.mapAll f) := by
  unfold State.mapAll
  extract_lets s1 idx s2 s3 s4 s5
  have h2 : Tidy U s2 := rest (h.modFab.foldl modLd : Tidy U s1)
  have h4 : Tidy U s4 := (h2.foldl modLd).foldl fun h => h.clearPages.wipeExtent
  have h5 : Tidy U s5 := h4.foldl fun h =>
    (h.mapPolicy.ite h.clearPages.wipeExtent).openLd.ite (h.mapLd.noteLoss.ite h.mapLd).openLd
  exact h5.foldl showCkpts

theorem resumeCuts {ld n} (h : Tidy U s) : Tidy U (s.resumeCuts ld n) := by
  refine h.foldl fun h => .ite ?_ h
  split
  · exact h.finish.ite h
  · split
    · exact h.finish.ite h
    · exact h.finish

/-- The rings of a sealed image stand in any order; disabling each of them puts its record in its place, so
that no disorder is left. -/
theorem ringsBack {V rings tags imgs} (h : Tidy U s) : Tidy V (s.ringsBack rings tags imgs) := by
  unfold State.ringsBack
  extract_lets f s1 s2 s3 s4
  have h3 : Tidy (fun _ => True) s3 := .foldl (h.rings_of.ringsDisabled.foldl fset) fset
  have h4 : Tidy V s4 := h3.of_keys.foldl_clears fun {U s e} h =>
    resumeCuts (h.disableRing_clears.mono fun k ⟨hU, hk⟩ => ⟨hU, Nat.div_add_mod e.1 256 ▸ hk⟩)
  exact .foldl (h4.foldl modLd) showFlight

theorem ringsMapped {f} (h : Tidy U s) : Tidy U (s.ringsMapped f) := by
  unfold State.ringsMapped; split
  · exact h.ringsBack
  · exact h.rings_nil.ringsBack

theorem startDone (h : Tidy U s) : Tidy U s.startDone := by
  unfold State.startDone
  extract_lets s1 s2 s3 s4 s5 b s6 fix s7 more s8 s9 s10
  have h2 : Tidy U s2 := h.fset.fset.fset.fset.fsat.setStart.pushHist
  have h4 : Tidy U s4 := .foldl (h2.foldl setUnit) (fun h => h.setUnit.ite h)
  have h5 : Tidy U s5 := h4.foldl fun h => h.setUnit.ite h
  have h9 : Tidy U s9 := .foldl (.fset (.setDev (.fput (.modBoot (h5.foldl modEly)))))
    (fun h => h.recount.ite h)
  have h10 : Tidy U s10 := h9.passCuts.showUnfilled.showBound.writeCkptRecs.reportCuts
  exact .showWeir (.settle (.tailAdvance (h10.forUpto fun h => h.trackerEntryFree.trackerEntryFree)))

theorem stage7 {mapUs} (h : Tidy U s) : Tidy U (s.stage7 mapUs) := by
  unfold State.stage7
  extract_lets s1 s2 f n s3
  have h2 : Tidy U s2 := h.fsat.foldl fun h => h.leaveRefresh.ite h
  exact h2.ringsBack.startDone.ite h.fsat.fsat.mapAll.ckptsToWrite.ringsMapped.modFab.startDone

theorem startStageComplete {o} (h : Tidy U s) : Tidy U (Machine.startStageComplete o s) := by
  unfold Machine.startStageComplete
  extract_lets k r
  have hr : Tidy U r.1 := h.stage1.ite_fst (h.stage2.ite_fst (h.stage3.ite_fst
    (h.stage4.ite_fst (h.stage5.ite_fst (h.stage6.ite_fst h)))))
  exact h.ite (h.stage7.ite (hr.startFail.ite (hr.enterBasin.ite hr.setStart)))

theorem rebuildDone {mapUs} (h : Tidy U s) : Tidy U (Machine.rebuildDone mapUs s) := h.stage7.ite h

theorem warmReset (h : Tidy U s) : Tidy U s.warmReset := by
  unfold State.warmReset
  extract_lets s1 s2 s3 s4 dropQ dropAll warmMb fab s5 s6 s7 s8 open_ s9 b s10
  refine .ite h ?_
  have h1 : Tidy U s1 := h.foldl fun h => h.fset.reachAll
  have h2 : Tidy U s2 := h1.modFab.foldl ldForget
  have h4 : Tidy U s4 := h2.discard.drainAll.foldl fun h => h.selfRefresh.ite h
  clear_value s4
  have h5 : Tidy U s5 := h4.regs_filter.rings_map.mbx_map.rest
  have h6 : Tidy U s6 := h5.foldl modLd
  have h8 : Tidy U s8 := h6.ringsDisabled.blockReset.closeSession.fset.fset
  have h9 : Tidy U s9 := h8.fset.ite h8
  exact h9.modBoot.modFlt.beginStart

theorem watchdogExpiry (h : Tidy U s) : Tidy U (Machine.watchdogExpiry s) :=
  h.fault.startFail.ite (h.fault.pushHist.warmReset.ite h)
theorem startTimeout (h : Tidy U s) : Tidy U (Machine.startTimeout s) := h.startFail.ite h
theorem leaveBasin {kind} (h : Tidy U s) : Tidy U (s.leaveBasin kind) := h.fset.coldStart
theorem retryStart (h : Tidy U s) : Tidy U (Machine.retryStart s) :=
  h.leaveBasin.ite (h.fset.fset.beginStart.ite h)

theorem bootCopyRepairDone {copy ok} (h : Tidy U s) : Tidy U (Machine.bootCopyRepairDone copy ok s) := by
  unfold Machine.bootCopyRepairDone; split
  · exact h.ite (h.putCopy.modBoot.fput.showCopies.ite (h.modBoot.fault.modBoot.fput.showCopies.ite h.modBoot))
  · exact h

theorem ldGo {n} (h : Tidy U s) : Tidy U (Machine.ldGo n s) := by
  refine .ite (.ite (.showUnfilled ?_) (.showWeir (.checkFilled
    (.refill (.showUnfilled (.setLdState (.fset (.modLd ?_)))))))) h
  all_goals exact .ite (.noteLoss (h.ite_fst h.dropWork.mapLd)) (h.ite_fst h.dropWork.mapLd)

theorem sealedReturnDecision (h : Tidy U s) : Tidy U (Machine.sealedReturnDecision s) :=
  (h.discard.dramLost.lds_map.advanceRoles.leaveSealed.beginStart.ite h.dryReturn).ite h

/-! ### The fault collector and the journal -/

theorem faultMessage {src kind addr injected cleared} (h : Tidy U s) :
    Tidy U (Machine.faultMessage src kind addr injected cleared s) :=
  h.ite (h.fset.sendMsg.ite h.sendMsg)

theorem dieTempHigh {i c} (h : Tidy U s) : Tidy U (Machine.dieTempHigh i c s) :=
  h.ite ((h.ite h.modFlt.fault).ite (h.modFlt.fault.ite h))
theorem latch {m sev} (h : Tidy U s) : Tidy U (s.latch m sev).1 :=
  h.ite_fst (h.fset.bump.ite_fst h.fset.fset.fset.fset)
theorem setTransient {p} (h : Tidy U s) : Tidy U (s.setTransient p) := h.fset.ite h
theorem showQueue (h : Tidy U s) : Tidy U s.showQueue := h.fset
theorem enqueue {m sev latched} (h : Tidy U s) : Tidy U (s.enqueue m sev latched) :=
  h.countLost.ite h.modFlt.showQueue

theorem faultIntake {src} (h : Tidy U s) : Tidy U (Machine.faultIntake src s) := by
  unfold Machine.faultIntake; split
  · exact h
  · extract_lets m s1 sev r s2 s3 t s4
    have h1 : Tidy U s1 := h.modFlt
    have h2 : Tidy U s2 := h1.latch.wrap
    have h3 : Tidy U s3 := h2.setTransient.ite h2
    exact h1.countLost.ite (h3.modFlt.fset.ite h3).enqueue

theorem latchClear (h : Tidy U s) : Tidy U (Machine.latchClear s) := h.fset.fset.fset
theorem modRec {seq f} (h : Tidy U s) : Tidy U (s.modRec seq f) := h.modFlt

theorem jnlOnFlash {r} (h : Tidy U s) : Tidy U (s.jnlOnFlash r) := by
  unfold State.jnlOnFlash
  exact h.modFlt

theorem journalRecordProgrammed {seq copy st} (h : Tidy U s) :
    Tidy U (Machine.journalRecordProgrammed seq copy st s) := by
  unfold Machine.journalRecordProgrammed; split
  · exact h
  · refine .ite h (.ite h.modRec.jnlOnFlash ?_)
    extract_lets blk pg at_ s1
    have h1 : Tidy U s1 := h.bump
    split
    · exact h1.fault.retireBlock
    · exact h1.fault.retireBlock

theorem jnlAdvance (h : Tidy U s) : Tidy U s.jnlAdvance :=
  h.ite (.ite (h.foldl journalAt) (.wordsErased (.modFlt (h.foldl journalAt))))

theorem stormHand (h : Tidy U s) : Tidy U s.stormHand := by
  unfold State.stormHand; split
  · exact h.ite h.journal.bump.modFlt.fset
  · exact h

theorem stormBeat (h : Tidy U s) : Tidy U s.stormBeat := h.fput.stormHand.ite h.fput.modFlt.fset.stormHand

theorem journalSealProgrammed {seq copy} (h : Tidy U s) :
    Tidy U (Machine.journalSealProgrammed seq copy s) := by
  unfold Machine.journalSealProgrammed; split
  · exact h
  · exact h.ite h.modRec.jnlOnFlash.jnlAdvance.jnlFree.stormHand.releaseDie

theorem directMode {msg} (h : Tidy U s) : Tidy U (s.directMode msg) :=
  h.ite (((h.ite h.bump).modFlt.ite (h.ite h.bump).modFlt.fset).showJnl.journal.foldl journalAt)
theorem freezeByFault {c} (h : Tidy U s) : Tidy U (s.freezeByFault c) := h.setUnit.ite h.rest.freeze

theorem isolate {u kind msg} (h : Tidy U s) : Tidy U (s.isolate u kind msg) :=
  h.elyOut.ite (h.setUnit.linkDown.ite (h.setUnit.ite (h.freezeByFault.ite (h.setUnit.channelOut.ite
    (h.hwDom.fset.setUnit.ite (h.isolatePort.ite h.directMode.hwDom.setUnit))))))

theorem bankOff {u} (h : Tidy U s) : Tidy U (s.bankOff u) := h.hwDom.setUnit
theorem isolationComplete {u lost} (h : Tidy U s) : Tidy U (Machine.isolationComplete u lost s) :=
  .ite (.bankOff (h.foldl recordGone)) h

theorem postFault {q event reactions jseq} (h : Tidy U s) : Tidy U (s.postFault q event reactions jseq) := by
  unfold State.postFault
  refine .ite h (.ite ?_ h.postEvent)
  extract_lets line c w s1
  have h1 : Tidy U s1 := h.postEvent
  split
  · exact h1.postEvent
  · exact h1

theorem faultRecord {q reactions} (h : Tidy U s) : Tidy U (s.faultRecord q reactions) := h.journalAt
theorem faultReset {plunged} (h : Tidy U s) : Tidy U (s.faultReset plunged) := h.modFlt.ite h.warmReset

theorem faultReaction (h : Tidy U s) : Tidy U (Machine.faultReaction s) := by
  unfold Machine.faultReaction; split
  · exact h
  · extract_lets v staging jnl s1 severe u iso wantP wantR p r refused irq taken noIso has bits s2 jseq s3 s4 s5
      s6 s7 s8
    have h1 : Tidy U s1 := h.modFlt.showQueue
    have h2 : Tidy U s2 := h1.isolate.ite h1
    have h3 : Tidy U s3 := h2.faultRecord.ite h2
    have h4 : Tidy U s4 := h3.postFault
    have h5 : Tidy U s5 := h4.emit.ite h4
    have h6 : Tidy U s6 := h5.fset.ite h5
    have h7 : Tidy U s7 := h6.isolate.ite h6
    have h8 : Tidy U s8 := h7.ownPlunge.ite h7
    exact h.ite (h8.faultReset.ite h8)

theorem quietPeriodExpiry {u} (h : Tidy U s) : Tidy U (Machine.quietPeriodExpiry u s) :=
  (h.setUnit.fset.chanRecovering.ite h.setUnit.fset).ite h

theorem unitBack {u} (h : Tidy U s) : Tidy U (s.unitBack u) := by
  unfold State.unitBack
  extract_lets s1 wake
  have h1 : Tidy U s1 := h.setUnit.modFlt
  have hwake {s d} (h : Tidy U s) : Tidy U (wake s d) := h.modDom.wakeDom
  exact (hwake h1).ite (h1.chanRecovered.ite ((hwake h1.fset).ite ((hwake (h1.fset.ite h1)).ite h1)))

theorem recoveryFail {u} (h : Tidy U s) : Tidy U (s.recoveryFail u) := h.fault

theorem recoveryDone {u passed bistUs} (h : Tidy U s) : Tidy U (Machine.recoveryDone u passed bistUs s) := by
  unfold Machine.recoveryDone
  extract_lets record s1 s2 s3 t s4
  have h3 : Tidy U s3 := h.bump.setUnit.chanRecovered.ite h.bump.setUnit
  exact h.ite (h.bump.unitBack.setTransient.journal.ite h3.modFlt.fset.recoveryFail.journal)

theorem fltRefuse (h : Tidy U s) : Tidy U s.fltRefuse := h.fset
theorem bistStart {u why} (h : Tidy U s) : Tidy U (s.bistStart u why) := h.modFlt.fset.fset.fset.fset

theorem unitIsolate {u} (h : Tidy U s) : Tidy U (Machine.unitIsolate u s) := by
  refine h.fltRefuse.ite ?_
  split
  · exact h.isolate.modFlt
  · exact h
  · exact h.fltRefuse

theorem unitReturn {u} (h : Tidy U s) : Tidy U (Machine.unitReturn u s) := h.fltRefuse.ite h.setUnit.bistStart
theorem bistGo {u} (h : Tidy U s) : Tidy U (Machine.bistGo u s) := h.fltRefuse.ite h.bistStart

theorem bistDone {pass failAddr} (h : Tidy U s) : Tidy U (Machine.bistDone pass failAddr s) := by
  unfold Machine.bistDone; split
  · exact h
  · exact (h.modFlt.fset.fsat.fset.unitBack.ite h.modFlt.fset.fsat.fset.setUnit).ite h.modFlt.fset.fsat.fset

theorem injFields {v} (h : Tidy U s) : Tidy U (s.injFields v) :=
  h.fset.fset.fset.fset.ite h.fset.fset.fset.fset.fset
theorem injectionArm {v} (h : Tidy U s) : Tidy U (Machine.injectionArm v s) :=
  h.injFields.fset.ite h.injFields.fset.fset.modFlt.journal
theorem jtagInstruction {op} (h : Tidy U s) : Tidy U (Machine.jtagInstruction op s) :=
  h.modFlt.emit.emit.ite h.modFlt.emit

/-! ### The beat boundary -/

theorem toBoundary (h : Tidy U s) : Tidy U s.toBoundary := h.ite h.rest.txDrain
theorem planRefresh (h : Tidy U s) : Tidy U s.planRefresh := h.forUpto modChan

theorem newBeat (h : Tidy U s) : Tidy U s.newBeat := by
  unfold State.newBeat
  exact h.rest.modCol

theorem logBeat (h : Tidy U s) : Tidy U s.logBeat :=
  h.placeReady.completeAll.writeCkptRecs.reportCuts.tailAdvance.ite h
theorem ladderBeat (h : Tidy U s) : Tidy U s.ladderBeat := h.foldl modLd

theorem devLoadBeat (h : Tidy U s) : Tidy U s.devLoadBeat := by
  unfold State.devLoadBeat
  exact h.modFab

theorem admitAll {k} (h : Tidy U s) : Tidy U (s.admitAll k) := by
  induction k generalizing s with
  | zero => exact h
  | succ k ih =>
    unfold State.admitAll; split
    · exact h
    · exact ih h.wakeReq.wakePage

theorem bandwidthBeat (h : Tidy U s) : Tidy U s.bandwidthBeat := by
  unfold State.bandwidthBeat
  extract_lets turn s1 s2 still
  have h2 : Tidy U s2 := h.lds_map.admitAll
  exact lds_map h2 (hf := fun e => by split <;> rfl)

theorem spillWatch (h : Tidy U s) : Tidy U s.spillWatch := h.modSpill.fset.ite h

theorem needAll (h : Tidy U s) : Tidy U s.needAll := by
  unfold State.needAll
  extract_lets ofOps ofDraws chans s1
  have h1 : Tidy U s1 := h.foldl fun h => h.need.need
  exact h1.ite (h1.foldl need)

theorem resetAtT (h : Tidy U s) : Tidy U s.resetAtT := (h.modFlt.warmReset.ite h.modFlt.fset).ite h
theorem rillBeat {lent} (h : Tidy U s) : Tidy U (s.rillBeat lent) :=
  (h.modRill.ite h.setRillTarget).rillSelect.ite h

theorem boundary {overruns lent} (h : Tidy U s) : Tidy U (s.boundary overruns lent) := by
  unfold State.boundary
  extract_lets s1 s2 s3 s4 s5 s6 s7 s8
  have h1 : Tidy U s1 := h.newBeat.planRefresh.foldl overrun
  have h2 : Tidy U s2 := h1.commitChecks.applyConfig.stormBeat
  have h3 : Tidy U s3 := h2.cisBeat.channelsLeave.showCap
  have h4 : Tidy U s4 := h3.computeWeir.checkDeficit.updateCredit.ladderBeat
  have h6 : Tidy U s6 := h4.bandwidthBeat.logBeat.rillBeat.needAll.devLoadBeat
  have h7 : Tidy U s7 := h6.sendBeacons.sendFireflies.configBeat
  have h8 : Tidy U s8 := h7.heartbeats.spillWatch.elyPump
  exact h8.resetAtT.settle.showWeir

theorem linkErrors {e} (h : Tidy U s) : Tidy U (s.linkErrors e) := h.bump.bump

/-! ### The flash maintenance port -/

theorem seqErr (h : Tidy U s) : Tidy U s.seqErr := h.bump
theorem flmBreak (h : Tidy U s) : Tidy U s.flmBreak := h.fset.fset.seqErr
theorem flmStep {ok go} (h : Tidy U s) (hf : ∀ {s}, Tidy U s → Tidy U (go s)) : Tidy U (s.flmStep ok go) :=
  h.ite (h.seqErr.ite ((hf h).ite h.flmBreak))
theorem flmKeyWrite {v} (h : Tidy U s) : Tidy U (Machine.flmKeyWrite v s) :=
  h.flmStep (fun h => h.modFlm.fset.ite h.fset)
theorem flmCmdWrite {v} (h : Tidy U s) : Tidy U (Machine.flmCmdWrite v s) :=
  h.flmStep (fun h => h.fset.fset.fset.fset)
theorem flmAddrWrite {v} (h : Tidy U s) : Tidy U (Machine.flmAddrWrite v s) :=
  h.flmStep (fun h => (h.fset.ite h).fset.fset.fset.fset.fset.fset)
theorem flmSequenceTimeout (h : Tidy U s) : Tidy U (Machine.flmSequenceTimeout s) := h.flmBreak.ite h
theorem flmBufWrite {off v width} (h : Tidy U s) : Tidy U (Machine.flmBufWrite off v width s) :=
  h.ite (h.seqErr.ite h.modFlm)
theorem flmNow {status} (h : Tidy U s) : Tidy U (s.flmNow status) := h.draw.modFlm.flmEnd

theorem dieBusy {ds o} (h : Tidy U s) : Tidy U (s.dieBusy ds o).1 := by
  unfold State.dieBusy; split
  · exact h
  · exact .ite_fst (pair h.draw) h

theorem flmBusyRead {w} (h : Tidy U s) : Tidy U (s.flmBusyRead w) := by
  unfold State.flmBusyRead
  exact h.modFlm.fset.fset.flmNow

theorem flmLoad {ds block page plane tlc} (h : Tidy U s) : Tidy U (s.flmLoad ds block page plane tlc) :=
  h.rawAt.modFlm.foldl modFlm

theorem flmReadPage {ds block page plane r tlc} (h : Tidy U s) :
    Tidy U (s.flmReadPage ds block page plane r tlc) := by
  refine h.flmLoad.flmNow.ite ?_
  split
  · exact h.flmLoad.fset.flmNow
  · exact h.fset.flmNow

theorem flmStart {o} (h : Tidy U s) : Tidy U (s.flmStart o) := h.modFlm.fset

theorem pageOfBuf (h : Tidy U s) : Tidy U s.pageOfBuf.1 := by
  unfold State.pageOfBuf
  exact .ite_fst (pair h.draw) h

theorem flmProgram {ds block page plane} (h : Tidy U s) : Tidy U (s.flmProgram ds block page plane) :=
  h.flmNow.ite (h.flmNow.ite h.pageOfBuf.flmStart)
theorem flmWord {ds block page plane w new} (h : Tidy U s) : Tidy U (s.flmWord ds block page plane w new) :=
  h.flmNow.ite (h.wordAt.flmNow.ite (h.wordAt.flmNow.ite h.wordAt.flmStart))
theorem flmErase {ds block} (h : Tidy U s) : Tidy U (s.flmErase ds block) := h.flmNow.ite h.flmStart
theorem pwUnlock {v} (h : Tidy U s) : Tidy U (s.pwUnlock v) := h.modFlm.fset.fset.flmNow.ite h.fset.fput.flmNow
theorem cfgTouched (h : Tidy U s) : Tidy U s.cfgTouched := h.rest
theorem pwSet {v} (h : Tidy U s) : Tidy U (s.pwSet v) := h.flmNow.ite h.modFlm.fput.cfgTouched.flmNow
theorem protSet {r v} (h : Tidy U s) : Tidy U (s.protSet r v) :=
  h.flmNow.ite (h.flmNow.ite h.fset.fset.fset.fset.cfgTouched.flmNow)
theorem xipSelect {v sigOk} (h : Tidy U s) : Tidy U (s.xipSelect v sigOk) :=
  h.flmNow.ite (h.setXip.flmNow.ite h.flmNow)

theorem flmRun {v o} (h : Tidy U s) : Tidy U (s.flmRun v o) := by
  unfold State.flmRun
  extract_lets op t s1 s2 ds block page plane word paged dies tlc
  have h2 : Tidy U s2 := h.modFlm.fset.fset.fset.fset
  refine .ite h2.flmNow (.ite h2.flmNow (.ite h2.flmNow (.ite h2.flmNow
    (.ite h2.flmNow (.ite h2.flmNow (.ite ?_ ?_))))))
  · have hb : Tidy U (s2.dieBusy ds o.dieBusy).1 := h2.dieBusy
    split
    next s3 w e =>
      rw [e] at hb
      exact flmBusyRead hb
    next s3 e =>
      rw [e] at hb
      have h3 : Tidy U s3 := hb
      exact h3.flmReadPage.ite (h3.modFlm.flmNow.ite (h3.fset.fset.flmNow.ite h3.wordAt.fset.flmNow))
  · exact h2.fset.flmNow.ite (h2.flmProgram.ite (h2.flmWord.ite (h2.flmErase.ite (h2.pwUnlock.ite (h2.pwSet.ite
      (h2.protSet.ite (h2.closeSession.flmNow.ite h2.xipSelect)))))))

theorem flmData {v o} (h : Tidy U s) : Tidy U (Machine.flmData v o s) := h.flmStep flmRun

theorem flmOperationDone {st} (h : Tidy U s) : Tidy U (Machine.flmOperationDone st s) := by
  unfold Machine.flmOperationDone; split
  · exact h
  · exact h.ite (h.flmEffect.flmEnd.ite h.flmEffect.modFlm).releaseDie

theorem protSessionTimeout (h : Tidy U s) : Tidy U (Machine.protSessionTimeout s) := by
  unfold Machine.protSessionTimeout; split
  · exact h.closeSession.ite h
  · exact h

/-! ### Register accesses -/

theorem regNeed {off} (h : Tidy U s) : Tidy U (s.regNeed off) := by
  unfold State.regNeed; split
  · exact h.need
  · exact h

theorem clearRc {fs} (h : Tidy U s) : Tidy U (s.clearRc fs) := h.foldl fun h => h.fset.ite h
theorem holdOk (h : Tidy U s) : Tidy U s.holdOk := h.draw.fput

theorem live {base ix} (h : Tidy U s) : Tidy U (s.live base ix) :=
  h.fset.ite (h.fsat.fsat.ite (h.fput.fsat.ite (h.fset.ite (h.resTouch.ite (h.holdOk.ite (h.fset.ite
    ((h.fset.ite h).ite (h.showCand.ite (h.fput.ite (h.showTrk.ite (h.showOwed.ite
      (h.draw.fset.fset.fset.fset.fset.fset.ite h))))))))))))

theorem snap {base v} (h : Tidy U s) : Tidy U (s.snap base v) := h.rest
theorem readBits {base off width v wide fs} (h : Tidy U s) : Tidy U (s.readBits base off width v wide fs).1 :=
  .ite_fst (h.snap.clearRc.ite_fst h) (h.ite_fst h.clearRc)

theorem regRead {off width} (h : Tidy U s) : Tidy U (s.regRead off width).1 := by
  unfold State.regRead
  refine .ite_fst h (.ite_fst (pair h.draw) (.ite_fst h ?_))
  split
  · exact h
  · exact .ite_fst h h.regNeed.live.readBits

theorem tnRead {ld off width} (h : Tidy U s) : Tidy U (s.tnRead ld off width).1 := h.ite_fst h.readBits

theorem tenantRead {ld off width} (h : Tidy U s) : Tidy U (s.tenantRead ld off width).1 := by
  unfold State.tenantRead
  exact .ite_fst h.regRead (.ite_fst h.tnRead (.ite_fst (.ite_fst (pair h.draw) h) h))

theorem pathRead {path off width} (h : Tidy U s) : Tidy U (s.pathRead path off width).1 := by
  unfold State.pathRead
  refine .ite_fst h ?_
  split
  · exact .ite_fst (pair h.regRead) h
  · exact .ite_fst (pair h.deny) (pair h.regRead)
  · exact .ite_fst (pair h.tenantRead) h

theorem answer {r : State × Option Nat} (h : Tidy U r.1) : Tidy U (State.answer r) := by
  unfold State.answer; split
  · exact h.emit
  · exact h

theorem stageFields {base fs v sh width} (h : Tidy U s) : Tidy U (s.stageFields base fs v sh width) :=
  h.foldl fun h => h.rest.ite h
theorem clearPair {ch f} (h : Tidy U s) : Tidy U (s.clearPair ch f) := h.fset.fset
theorem clearOnes {base ix fs v sh width} (h : Tidy U s) : Tidy U (s.clearOnes base ix fs v sh width) :=
  h.foldl fun h => h.ite ((h.fset.levelOff.ite h.fset).ite ((h.latchClear.ite h.fset).ite (h.clearPair.ite h)))
theorem setRw {base fs v} (h : Tidy U s) : Tidy U (s.setRw base fs v) := h.foldl fun h => h.fset.ite h
theorem ringLdCfg {n v} (h : Tidy U s) : Tidy U (s.ringLdCfg n v) :=
  ((h.fset.ite h).fset.ite (h.fset.ite h)).ite ((h.fset.ite h).fset.ite (h.fset.ite h)).cfgTouched

theorem ringCtl {ld n v} (h : Tidy U s) : Tidy U (s.ringCtl ld n v) := by
  unfold State.ringCtl; split
  · exact h.ringEnable
  · exact h.ringDisable
  · exact h.ringResume
  · exact h
  · exact h.ctlReject

theorem flmFree (h : Tidy U s) : Tidy U s.flmFree.1 := h.draw

theorem act {path base ix v fs at_} (h : Tidy U s) : Tidy U (s.act path base ix v fs at_) := by
  unfold State.act
  extract_lets i j sb s1 s2 srw d s3 s4
  have h1 : Tidy U s1 := h.calibrationGo.ite h
  have h2 : Tidy U s2 := h1.calibrationAbort.ite h1
  have hb : Tidy U sb := h.fset
  have hrw : Tidy U srw := h.setRw
  have h3 : Tidy U s3 := h.domainCancel.ite h
  have h4 : Tidy U s4 := h.unitIsolate.ite h
  refine (h.commitWrite.ite h).ite <| .ite (hrw.foldl liftIsolation) <|
    .ite ((h.fmSpill.ite h.fmCheckpoint).ite h) <| .ite (hb.colonyCheckpoint.ite hb) <|
    .ite (h2.calibrationPause.ite h2) <| .ite (hrw.rehearsalGo.ite hrw) <|
    .ite hrw.modCis <| .ite hrw.reDesign <| .ite hrw.zChanged <|
    .ite ((h.foldl elytraOffline).foldl elytraOnline) <| .ite (h.foldl ldGo) <|
    .ite ((h.foldl channelIn).foldl channelOut) <|
    .ite h.flmKeyWrite <| .ite h.flmCmdWrite <| .ite h.flmAddrWrite <| .ite h.flmFree.fset.flmData <|
    .ite (h3.domainWait.ite h3) <| .ite (h4.unitReturn.ite h4) <|
    .ite (h.injectionArm.ite h.injFields) <| .ite (h.bistGo.ite h) <| .ite (h.retryStart.ite h) <|
    .ite ?_ <| .ite h.ringCtl <| .ite (hrw.ite h) hrw
  split
  · exact h
  · exact h.ringLdCfg

theorem writeHalves {path row ix base off width v fs} (h : Tidy U s) :
    Tidy U (s.writeHalves path row ix base off width v fs) :=
  h.rest.act.ite (h.rest.ite h.rest.act)

theorem regWrite {path off width v} (h : Tidy U s) : Tidy U (s.regWrite path off width v) := by
  unfold State.regWrite
  refine h.ite (h.ite (h.flmBufWrite.ite ?_))
  split
  · exact h
  · refine h.ite ?_
    extract_lets s1 fs v sh cmd s2
    have h2 : Tidy U s2 := h.regNeed.stageFields.clearOnes
    exact h2.ite (h2.writeHalves.ite h2.act)

theorem pathWrite {path off width v} (h : Tidy U s) : Tidy U (s.pathWrite path off width v) := by
  refine h.ite ?_
  split
  · exact h.regWrite.ite h
  · exact h.deny.ite h.regWrite
  · exact h.regWrite.ite h

/-! ### The mailboxes -/

theorem reply {m code payload} (h : Tidy U s) : Tidy U (s.reply m code payload) := h.emit
theorem refuse {status} (h : Tidy U s) : Tidy U (s.refuse status) := h.reply

theorem mboxGate {m tenant basin f} (h : Tidy U s) (hf : ∀ {s}, Tidy U s → Tidy U (f s)) :
    Tidy U (s.mboxGate m tenant basin f) := by
  unfold State.mboxGate
  extract_lets t s1
  have h1 : Tidy U s1 := .ite (h.foldl need) h
  exact h1.ite (h1.reply.ite (h1.reply.ite (h1.reply.ite (hf h1))))

theorem mboxOpen {m f} (h : Tidy U s) (hf : ∀ {s}, Tidy U s → Tidy U (f s)) : Tidy U (s.mboxOpen m f) :=
  (hf h).ite h.reply
theorem mboxDraw (h : Tidy U s) : Tidy U s.mboxDraw.1 := h.draw
theorem identify {m} (h : Tidy U s) : Tidy U (Machine.identify m s) := h.mboxGate reply
theorem backgroundStatus {m} (h : Tidy U s) : Tidy U (Machine.backgroundStatus m s) :=
  h.mboxGate (fun h => h.mboxDraw.reply)
theorem responseLimit {m} (h : Tidy U s) : Tidy U (Machine.responseLimit m s) := h.mboxGate reply
theorem getEvents {m l} (h : Tidy U s) : Tidy U (Machine.getEvents m l s) :=
  h.mboxGate (fun h => h.reply.ite h.reply)
theorem clearEvents {m l hs} (h : Tidy U s) : Tidy U (Machine.clearEvents m l hs s) :=
  h.mboxGate (fun h => h.reply.ite (h.reply.ite h.modMb.reply))
theorem getPolicy {m} (h : Tidy U s) : Tidy U (Machine.getPolicy m s) := h.mboxGate reply
theorem setPolicy {m p} (h : Tidy U s) : Tidy U (Machine.setPolicy m p s) := h.mboxGate (fun h => h.modMb.reply)
theorem setTimestamp {m v} (h : Tidy U s) : Tidy U (Machine.setTimestamp m v s) :=
  h.mboxGate (fun h => h.fset.fset.fset.reply)
theorem getTimestamp {m} (h : Tidy U s) : Tidy U (Machine.getTimestamp m s) := h.mboxGate reply
theorem supportedLogs {m} (h : Tidy U s) : Tidy U (Machine.supportedLogs m s) := h.mboxGate reply
theorem getLog {m} (h : Tidy U s) : Tidy U (Machine.getLog m s) := h.mboxGate reply
theorem identifyMemory {m} (h : Tidy U s) : Tidy U (Machine.identifyMemory m s) := h.mboxGate reply
theorem partitionInfo {m} (h : Tidy U s) : Tidy U (Machine.partitionInfo m s) := h.mboxGate reply
theorem healthInfo {m} (h : Tidy U s) : Tidy U (Machine.healthInfo m s) :=
  h.mboxGate (fun h => h.mboxDraw.reply)
theorem getAlert {m} (h : Tidy U s) : Tidy U (Machine.getAlert m s) := h.mboxGate reply
theorem setAlert {m v} (h : Tidy U s) : Tidy U (Machine.setAlert m v s) := h.mboxGate (fun h => h.modMb.reply)
theorem getShutdown {m ld} (h : Tidy U s) : Tidy U (Machine.getShutdown m ld s) := h.mboxGate reply
theorem setShutdown {m ld v} (h : Tidy U s) : Tidy U (Machine.setShutdown m ld v s) :=
  h.mboxGate (fun h => h.modMb.reply)
theorem poisonListCmd {m} (h : Tidy U s) : Tidy U (Machine.poisonListCmd m s) := h.mboxGate reply

theorem mboxWrite {m dpa data poison} (h : Tidy U s) : Tidy U (s.mboxWrite m dpa data poison) := by
  unfold State.mboxWrite
  refine h.reply.ite (h.reply.ite (h.reply.ite ?_))
  split
  · exact h.writeBytes.setPoison.modFab.reply
  · exact h.modFab.step4.settle.showWeir

theorem injectPoison {m dpa} (h : Tidy U s) : Tidy U (Machine.injectPoison m dpa s) := h.mboxGate mboxWrite
theorem clearPoison {m dpa data} (h : Tidy U s) : Tidy U (Machine.clearPoison m dpa data s) :=
  h.mboxGate mboxWrite
theorem scanCaps {m} (h : Tidy U s) : Tidy U (Machine.scanCaps m s) := h.mboxGate (fun h => h.mboxDraw.reply)
theorem scanMedia {m dpa lines bad} (h : Tidy U s) : Tidy U (Machine.scanMedia m dpa lines bad s) :=
  h.mboxGate (fun h => h.reply.ite (h.reply.ite (h.reply.ite h.modMb.modFab.reply)))
theorem scanResults {m} (h : Tidy U s) : Tidy U (Machine.scanResults m s) :=
  h.mboxGate (fun h => h.reply.ite h.reply)
theorem sanitizeTenant {n op} (h : Tidy U s) : Tidy U (s.sanitizeTenant n op) :=
  h.reply.ite (h.reply.ite h.newKey.modFab.reply)
theorem destroyKeys (h : Tidy U s) : Tidy U s.destroyKeys := .cfgTouched (.modFab (h.foldl modLd))

theorem eraseAll (h : Tidy U s) : Tidy U s.eraseAll := by
  unfold State.eraseAll
  extract_lets s1 bands tlc up wipe s2 s3 s4
  have h1 : Tidy U s1 := h.foldl fun h => h.dropWork.modLd
  clear_value s1
  have h2 : Tidy U s2 :=
    ⟨{ h1.canonical with flash := rfl, dram := rfl, poison := rfl, eddy := rfl }, h1.rings⟩
  have h4 : Tidy U s4 := h2.modRill.foldl fun h => h.clearPages.modLd.showCkpts
  exact h4.modFab.showWindow.settle.showWeir

theorem sanitizeFm {erase op} (h : Tidy U s) : Tidy U (s.sanitizeFm erase op) :=
  h.reply.ite (h.destroyKeys.modFab.eraseAll.ite h.destroyKeys.modFab).reply

theorem sanitize {m} (h : Tidy U s) : Tidy U (Machine.sanitize m s) := h.mboxGate fun h => by
  split
  · exact h.sanitizeFm
  · exact h.sanitizeTenant

theorem secureErase {m} (h : Tidy U s) : Tidy U (Machine.secureErase m s) := h.mboxGate fun h => by
  split
  · exact h.sanitizeFm
  · exact h.sanitizeTenant

theorem ldInfo {m p} (h : Tidy U s) : Tidy U (Machine.ldInfo m p s) := h.mboxGate (fun h => h.reply.ite h.reply)
theorem ldAllocations {m p} (h : Tidy U s) : Tidy U (Machine.ldAllocations m p s) :=
  h.mboxGate (fun h => h.reply.ite h.reply)
theorem setLdAllocations {m} (h : Tidy U s) : Tidy U (Machine.setLdAllocations m s) := h.mboxGate reply
theorem getQos {m p} (h : Tidy U s) : Tidy U (Machine.getQos m p s) := h.mboxGate (fun h => h.reply.ite h.reply)
theorem setQos {m p modPct sevPct other} (h : Tidy U s) : Tidy U (Machine.setQos m p modPct sevPct other s) :=
  h.mboxGate (fun h => h.mboxOpen (fun h => h.reply.ite h.fset.fset.modFab.cfgTouched.reply))
theorem qosStatus {m p} (h : Tidy U s) : Tidy U (Machine.qosStatus m p s) :=
  h.mboxGate (fun h => h.reply.ite h.mboxDraw.reply)

theorem setByLdId {m p start vs f} (h : Tidy U s) : Tidy U (s.setByLdId m p start vs f) := by
  refine h.reply.ite (.reply (.cfgTouched (h.foldl fun h => ?_)))
  split
  · exact h.fset
  · exact h

theorem getAlloc {m p} (h : Tidy U s) : Tidy U (Machine.getAlloc m p s) :=
  h.mboxGate (fun h => h.reply.ite h.reply)
theorem setAlloc {m p start vs} (h : Tidy U s) : Tidy U (Machine.setAlloc m p start vs s) :=
  h.mboxGate (fun h => h.mboxOpen setByLdId)
theorem getLimit {m p} (h : Tidy U s) : Tidy U (Machine.getLimit m p s) :=
  h.mboxGate (fun h => h.reply.ite h.reply)
theorem setLimit {m p start vs} (h : Tidy U s) : Tidy U (Machine.setLimit m p start vs s) :=
  h.mboxGate (fun h => h.mboxOpen setByLdId)
theorem mailboxUnsupported {m} (h : Tidy U s) : Tidy U (Machine.mailboxUnsupported m s) := h.mboxGate reply
theorem persistInfo {m} (h : Tidy U s) : Tidy U (Machine.persistInfo m s) := h.mboxGate reply
theorem vendorTurn {n f} (h : Tidy U s) (hf : ∀ {s}, Tidy U s → Tidy U (f s)) : Tidy U (s.vendorTurn n f) :=
  h.refuse.ite (h.refuse.ite (hf h))
theorem vendor {m n f} (h : Tidy U s) (hf : ∀ {s}, Tidy U s → Tidy U (f s)) : Tidy U (s.vendor m n f) :=
  h.mboxGate (fun h => h.vendorTurn (fun h => hf h))
theorem vendorBg {m n f} (h : Tidy U s) (hf : ∀ {s}, Tidy U s → Tidy U (f s)) : Tidy U (s.vendorBg m n f) :=
  h.mboxGate (fun h => h.reply.ite (h.vendorTurn (fun h => hf h)))
theorem setLdExtent {m n base size} (h : Tidy U s) : Tidy U (Machine.setLdExtent m n base size s) :=
  h.vendor (fun h => h.refuse.ite (h.refuse.ite h.setExtent.settle.showWeir.reply))
theorem bindLdRow {m n p id} (h : Tidy U s) : Tidy U (Machine.bindLd m n p id s) :=
  h.vendor (fun h => h.refuse.ite (h.refuse.ite h.bindLd.reply))
theorem rebindLdRow {m n p id} (h : Tidy U s) : Tidy U (Machine.rebindLd m n p id s) :=
  h.vendor (fun h => h.refuse.ite (h.refuse.ite h.rebindLd.reply))
theorem background {m b op} (h : Tidy U s) : Tidy U (s.background m b op) := h.modFab.reply
theorem unbindCmd {m n} (h : Tidy U s) : Tidy U (Machine.unbindCmd m n s) :=
  h.vendorBg (fun h => h.refuse.ite h.unbindBegin.background.settle.showWeir)
theorem unbindComplete {n} (h : Tidy U s) : Tidy U (Machine.unbindComplete n s) := h.unbindLd.modFab.reply.ite h
theorem quiesceCmd {m n} (h : Tidy U s) : Tidy U (Machine.quiesceCmd m n s) :=
  h.vendorBg (fun h => h.refuse.ite h.modLd.background)
theorem quiesceComplete {n} (h : Tidy U s) : Tidy U (Machine.quiesceComplete n s) :=
  h.enterQuiesced.modFab.reply.ite h
theorem resumeCmd {m n} (h : Tidy U s) : Tidy U (Machine.resumeCmd m n s) :=
  h.vendor (fun h => h.resumeLd.reply.ite h.refuse)
theorem regAccess {m off width write v} (h : Tidy U s) : Tidy U (Machine.regAccess m off width write v s) :=
  h.mboxGate (fun h => h.refuse.ite ((h.refuse.ite h.regWrite.reply).ite h.regRead.reply))
theorem fwInfo {m} (h : Tidy U s) : Tidy U (Machine.fwInfo m s) := h.mboxGate reply

theorem eraseCopy {k} (h : Tidy U s) : Tidy U (s.eraseCopy k) := by
  unfold State.eraseCopy
  exact h.modBoot.rest

theorem repairCopy {k} (h : Tidy U s) : Tidy U (s.repairCopy k) := h.modBoot.fset.ite h
theorem xferAbandon (h : Tidy U s) : Tidy U s.xferAbandon := h.modBoot.fset.repairCopy
theorem xferPart {off len digest} (h : Tidy U s) : Tidy U (s.xferPart off len digest) :=
  h.modBoot.fset.bootWritten
theorem xferBegin {off len digest} (h : Tidy U s) : Tidy U (s.xferBegin off len digest) :=
  h.eraseCopy.modBoot.fset.fset.fset.fput.xferPart.showCopies
theorem xferRepeat {m} (h : Tidy U s) : Tidy U (s.xferRepeat m) := h.modBoot.reply
theorem transfer {m c f} (h : Tidy U s) (hf : ∀ {s}, Tidy U s → Tidy U (f s)) : Tidy U (s.transfer m c f) :=
  h.reply.ite ((hf h).ite (h.xferRepeat.ite h.reply))

theorem transferInitiate {m slot off len digest} (h : Tidy U s) :
    Tidy U (Machine.transferInitiate m slot off len digest s) :=
  h.mboxGate (fun h => h.transfer (fun h => h.xferBegin.reply))

theorem transferContinue {m slot off len digest} (h : Tidy U s) :
    Tidy U (Machine.transferContinue m slot off len digest s) :=
  h.mboxGate (fun h => h.transfer (fun h => h.xferPart.reply))

theorem copyTurn {k} (h : Tidy U s) : Tidy U (s.copyTurn k) := (h.setXip.ite h).eraseCopy.showCopies
theorem copyDone {k img} (h : Tidy U s) : Tidy U (s.copyDone k img) := h.putCopy.fset
theorem xferEnd {m img} (h : Tidy U s) : Tidy U (s.xferEnd m img) :=
  h.copyDone.fset.modBoot.fset.copyTurn.background.ite h.putCopy.fset.modBoot.repairCopy.showCopies.reply

theorem transferEnd {m slot off len digest img} (h : Tidy U s) :
    Tidy U (Machine.transferEnd m slot off len digest img s) :=
  h.mboxGate (fun h => h.reply.ite (h.transfer (fun h => h.xferPart.xferEnd)))

theorem transferFull {m slot off len digest img} (h : Tidy U s) :
    Tidy U (Machine.transferFull m slot off len digest img s) :=
  h.mboxGate (fun h => h.reply.ite (h.transfer (fun h => h.xferBegin.xferEnd)))

theorem transferAbort {m} (h : Tidy U s) : Tidy U (Machine.transferAbort m s) :=
  h.mboxGate (fun h => h.reply.ite (h.reply.ite (h.xferAbandon.ite h).reply))
theorem transferIdle (h : Tidy U s) : Tidy U (Machine.transferIdle s) := h.xferAbandon.ite h
theorem xferOver {st code} (h : Tidy U s) : Tidy U (s.xferOver st code) :=
  h.modBoot.fset.modFab.showCopies.reply

theorem propagateDone {copy ok} (h : Tidy U s) : Tidy U (Machine.propagateDone copy ok s) := by
  unfold Machine.propagateDone; split
  · refine h.ite (h.xferOver.ite ?_)
    split
    · exact h.copyDone.modBoot.xferOver
    · exact h.copyDone.modBoot.copyTurn
  · exact h

theorem moltBegin (h : Tidy U s) : Tidy U s.moltBegin := by
  unfold State.moltBegin
  extract_lets t st s1 s2
  have h2 : Tidy U s2 := (h.fset.ite h).closeSession.fset.fset
  exact h2.rest

theorem activate {online m slot} (h : Tidy U s) : Tidy U (Machine.activate online m slot s) := by
  refine h.mboxGate fun h => ?_
  refine h.reply.ite (h.reply.ite (h.reply.leaveBasin.ite (h.reply.ite (h.reply.ite ?_))))
  split
  · exact h.reply
  · exact h.reply.ite (h.reply.ite h.moltBegin)

theorem moltReady (h : Tidy U s) : Tidy U (Machine.moltReady s) := by
  unfold Machine.moltReady; split
  · exact h.ite h.modBoot.fset.rest.fset.bump.pushHist.showCopies.takeKept.reply.settle
  · exact h

theorem moltTimeout {loadFailed} (h : Tidy U s) : Tidy U (Machine.moltTimeout loadFailed s) :=
  h.pushHist.warmReset.ite h
theorem halfErased {h'} (h : Tidy U s) : Tidy U (s.halfErased h') := h.cfgHalf_del.wordsErased

theorem cfgWhole (h : Tidy U s) : Tidy U s.cfgWhole := by
  unfold State.cfgWhole
  extract_lets t up upRing s1 s2 again s3
  have h1 : Tidy U s1 := h.rings_map
  have h2 : Tidy U s2 := by
    unfold s2; split
    · exact h1.modFab
    · exact h1
  have h3 : Tidy U s3 := .ite h2.rest h2
  split
  · exact h3.sanitizePages.modFab.reply.ite h3
  · exact h3

/-- An erased half is not listed, so that its new content takes its place. -/
theorem halfErased_insert {n x} (h : Tidy U s) :
    Tidy U { s.halfErased n with cfgHalf := tabIns n x (s.halfErased n).cfgHalf } :=
  h.halfErased.cfgHalf_of (tabSorted_tabInsDel n x h.canonical.cfgHalf)

theorem configurationWriteDone {n st} (h : Tidy U s) : Tidy U (Machine.configurationWriteDone n st s) := by
  unfold Machine.configurationWriteDone
  refine .ite h ?_
  split
  · exact h
  · extract_lets new s1 s2 s3 s4
    have h2 : Tidy U s2 := h.halfErased_insert
    have h3 : Tidy U s3 := .ite h2.rest.recFlashed h2
    have h4 : Tidy U s4 := h3.cfgWhole.ite h3
    exact h.halfErased.ite h4.kick.settle.showWeir

/-! ### The two-wire target -/

theorem modTwb {f} (h : Tidy U s) : Tidy U (s.modTwb f) := h.rest
theorem twbOpen {a} (h : Tidy U s) : Tidy U (s.twbOpen a) := h.modTwb.fset.fset
theorem twbClose (h : Tidy U s) : Tidy U s.twbClose := h.modTwb.fset
theorem twoWireStart {a} (h : Tidy U s) : Tidy U (Machine.twoWireStart a s) :=
  h.wakeSource.ite (h.wakeSource.modTwb.bump.emit.ite (h.wakeSource.twbOpen.ite h.wakeSource))

theorem twoWireFrameEnd {a bs} (h : Tidy U s) : Tidy U (Machine.twoWireFrameEnd a bs s) := by
  refine h.ite ?_
  split
  · exact h.bump.emit.twbClose
  · exact h.emit.twbClose
  · exact h.twbClose

theorem twoWireTimeout (h : Tidy U s) : Tidy U (Machine.twoWireTimeout s) := (h.bump.twbClose.ite h.bump).ite h

theorem twoWireAwakeExpiry (h : Tidy U s) : Tidy U (Machine.twoWireAwakeExpiry s) := by
  unfold Machine.twoWireAwakeExpiry; split
  · exact h.modTwb.ite h
  · exact h

theorem twbReply {a sent reply} (h : Tidy U s) : Tidy U (s.twbReply a sent reply) := h.emit

theorem read32 {a off} (h : Tidy U s) : Tidy U (Machine.read32 a off s) := by
  unfold Machine.read32; split
  · exact h
  · exact h.deny.mboxDraw.twbReply.ite h.regRead.twbReply

theorem write32 {a off v} (h : Tidy U s) : Tidy U (Machine.write32 a off v s) := by
  unfold Machine.write32; split
  · exact h
  · exact h.deny.twbReply.ite h.regWrite.twbReply

theorem summary {a} (h : Tidy U s) : Tidy U (Machine.summary a s) := by
  unfold Machine.summary; split
  · exact h
  · exact h.twbReply

theorem mctpDrop (h : Tidy U s) : Tidy U s.mctpDrop := h.bump
theorem showMctp (h : Tidy U s) : Tidy U s.showMctp := h.fput.fset
theorem mctpSend (h : Tidy U s) : Tidy U s.mctpSend := h.modTwb.showMctp
theorem mctpAnswer {bytes} (h : Tidy U s) : Tidy U (s.mctpAnswer bytes) := h.emit.mctpSend
theorem setEid {eid} (h : Tidy U s) : Tidy U (Machine.setEid eid s) :=
  h.ite (h.mctpAnswer.ite h.fset.mctpAnswer)
theorem getEid (h : Tidy U s) : Tidy U (Machine.getEid s) := h.mctpAnswer.ite h
theorem getVersion (h : Tidy U s) : Tidy U (Machine.getVersion s) := h.mctpAnswer.ite h
theorem getTypes (h : Tidy U s) : Tidy U (Machine.getTypes s) := h.mctpAnswer.ite h

theorem controlRun {i} (h : Tidy U s) : Tidy U (Machine.controlRun i s) := by
  unfold Machine.controlRun; split
  · exact h.setEid
  · exact h.getEid
  · exact h.getVersion
  · exact h.getTypes
  · exact h.mctpDrop

theorem mctpPacket {src som eom ty bytes msg} (h : Tidy U s) :
    Tidy U (Machine.mctpPacket src som eom ty bytes msg s) := by
  unfold Machine.mctpPacket
  extract_lets old s1 s2 n
  have h2 : Tidy U s2 := (h.mctpDrop.ite h).modTwb
  exact h.ite (h2.mctpDrop.ite (h2.modTwb.ite (h2.controlRun.ite (h2.mctpDrop.ite h2.modTwb.showMctp))))

theorem mailboxRun {i} (h : Tidy U s) : Tidy U (Machine.mailboxRun i s) := by
  unfold Machine.mailboxRun; split
  · exact h.setTimestamp
  · exact h.getTimestamp
  · exact h.identify
  · exact h.backgroundStatus
  · exact h.responseLimit
  · exact h.getEvents
  · exact h.clearEvents
  · exact h.getPolicy
  · exact h.setPolicy
  · exact h.fwInfo
  · exact h.transferInitiate
  · exact h.transferContinue
  · exact h.transferEnd
  · exact h.transferFull
  · exact h.transferAbort
  · exact h.activate
  · exact h.activate
  · exact h.supportedLogs
  · exact h.getLog
  · exact h.identifyMemory
  · exact h.partitionInfo
  · exact h.healthInfo
  · exact h.getAlert
  · exact h.setAlert
  · exact h.getShutdown
  · exact h.setShutdown
  · exact h.poisonListCmd
  · exact h.injectPoison
  · exact h.clearPoison
  · exact h.scanCaps
  · exact h.scanMedia
  · exact h.scanResults
  · exact h.sanitize
  · exact h.secureErase
  · exact h.ldInfo
  · exact h.ldAllocations
  · exact h.setLdAllocations
  · exact h.getQos
  · exact h.setQos
  · exact h.qosStatus
  · exact h.getAlloc
  · exact h.setAlloc
  · exact h.getLimit
  · exact h.setLimit
  · exact h.persistInfo
  · exact h.setLdExtent
  · exact h.bindLdRow
  · exact h.rebindLdRow
  · exact h.unbindCmd
  · exact h.quiesceCmd
  · exact h.resumeCmd
  · exact h.regAccess
  · exact h.mailboxUnsupported

theorem fmApiMessage (h : Tidy U s) : Tidy U (Machine.fmApiMessage s) := by
  refine h.ite ?_
  split
  · exact h
  · exact h.modTwb.mailboxRun.mctpSend

theorem mctpGone (h : Tidy U s) : Tidy U s.mctpGone := h.modTwb.showMctp
theorem mctpGiveUp (h : Tidy U s) : Tidy U s.mctpGiveUp := h.bump.mctpDrop.mctpGone
theorem mctpTransmit {lost winner} (h : Tidy U s) : Tidy U (Machine.mctpTransmit lost winner s) :=
  h.ite ((h.modTwb.twbOpen.ite h.modTwb).ite h.emit.mctpGone)

theorem mctpRetry {lost} (h : Tidy U s) : Tidy U (Machine.mctpRetry lost s) := by
  unfold Machine.mctpRetry; split
  · exact h
  · exact h.ite (h.mctpGiveUp.ite (h.emit.mctpGone.ite (h.mctpGiveUp.ite h.modTwb)))

end Operations

/-! ## The commands -/

section Commands
variable {U : Nat → Prop} {s : State}

theorem next {a t : State} (h : Tidy U a)
    (e : Host.Outcome.next a = (.next t : Host.Outcome State Fault Refusal)) : Tidy U t := by
  cases e
  exact h

theorem next_ite {c : Prop} {_ : Decidable c} {a b t : State} (ha : Tidy U a) (hb : Tidy U b)
    (e : (if c then .next a else .next b) = (.next t : Host.Outcome State Fault Refusal)) : Tidy U t := by
  split at e
  · exact ha.next e
  · exact hb.next e

theorem execWmbPartialFill {dt rid result t} (h : Tidy U s)
    (e : Machine.execWmbPartialFill dt rid result s = .next t) : Tidy U t := by
  unfold Machine.execWmbPartialFill at e
  extract_lets at e
  split at e
  · exact h.elapse.decodeLine.wmbPartialFill.next e
  · exact h.elapse.next e

theorem exec {c t} (h : Tidy U s) (e : Machine.exec c s = .next t) : Tidy U t := by
  cases c with
  | beatBoundary => exact next_ite h (.boundary (h.toBoundary.foldl linkErrors)) e
  | weirInForce => exact h.elapse.weirForce.next e
  | memWrite => exact h.elapse.arrive.showWeir.next e
  | memRead => exact h.elapse.arrive.next e
  | memInv => exact h.elapse.memInv.next e
  | memSpecRd => exact h.elapse.next e
  | unsupportedRequest => exact h.elapse.unsupportedRequest.next e
  | trackerEntryFree => exact h.elapse.trackerEntryFree.next e
  | wmbPartialFill => exact execWmbPartialFill h e
  | heldWriteRelease => exact h.elapse.heldWriteRelease.next e
  | weirWaitExpiry => exact h.elapse.weirWaitExpiry.next e
  | ringWeirWaitExpiry => exact h.elapse.ringWeirWaitExpiry.next e
  | forkSlotWaitExpiry => exact h.elapse.forkSlotWaitExpiry.next e
  | forkCopyDone => exact h.elapse.forkCopyDone.next e
  | scarabPageDone => exact h.elapse.scarabDone.settle.next e
  | stripeProgramDone => exact h.elapse.stripeProgramDone.next e
  | stripeProgramFail => exact h.elapse.stripeProgramFail.next e
  | bandEraseDone => exact h.elapse.bandErased.afterFlash.next e
  | diePollTimeout => exact h.elapse.diePollTimeout.next e
  | flashReadDone => exact h.elapse.flashReadDone.next e
  | parityRebuildDone => exact h.elapse.parityRebuildDone.next e
  | drawDone => exact h.elapse.drawDone.next e
  | refillReadDone => exact h.elapse.refillReadDone.next e
  | foldReadbackDone => exact h.elapse.foldRead.tailAdvance.next e
  | scrubPeriod => exact h.elapse.scrubPeriod.next e
  | governorSlice => exact h.elapse.govSlice.next e
  | checkpointCut => exact h.checkpointCut.next e
  | cutBeatBoundary => exact h.cutBeatBoundary.next e
  | spillDrainDone => exact h.elapse.spillDrainDone.next e
  | spillTakeoverDone => exact h.elapse.spillTakeoverDone.next e
  | spillStageBEnd => exact h.elapse.spillStageBEnd.next e
  | spillStageCEnd => exact h.elapse.spillStageCEnd.next e
  | sealProgrammed => exact h.elapse.sealProgrammed.next e
  | sealHoldExpiry => exact h.sealHoldExpiry.next e
  | sealedReturnDecision => exact h.sealedReturnDecision.next e
  | elytraPage => exact h.elapse.elyFrame.next e
  | elytraProgram => exact h.elapse.elyPlain.next e
  | elytraSeal => exact h.elapse.elyPlain.next e
  | elytraJournal => exact h.elapse.elyPlain.next e
  | elytraRailOff => exact h.elapse.elyPlain.next e
  | elytraHeartbeat => exact h.elapse.elyPlain.next e
  | seqGap => exact h.elapse.seqGapRow.next e
  | selfCheck => exact h.elapse.selfCheck.next e
  | shadowPass => exact h.elapse.shadowPass.next e
  | heartbeatLost => exact h.elapse.heartbeatLost.next e
  | fenceApplied => exact h.elapse.fenceApplied.next e
  | elytraOnline => exact h.elapse.elytraOnline.next e
  | elytraOffline => exact h.elapse.elytraOffline.next e
  | inputCollapse => exact h.elapse.inputCollapse.next e
  | inputGoodRise => exact h.elapse.inputGoodRise.next e
  | fmCheckpoint => exact (h.elapse.viaReg fmCheckpoint).next e
  | fmSpill => exact h.elapse.fmSpill.next e
  | colonyCheckpoint => exact (h.elapse.viaReg colonyCheckpoint).next e
  | plungeNEdge => exact h.elapse.plungeNEdge.plungeNWake.next e
  | plungeRepeat => exact h.plungeRepeat.next e
  | plungeWindowClose => exact h.elapse.plungeWindowClose.next e
  | beaconRx => exact h.elapse.beaconRx.next e
  | fireflyRx => exact h.elapse.fireflyRx.next e
  | roleRx => exact h.elapse.roleRx.next e
  | configRx => exact h.elapse.configRx.next e
  | epochAnnounceRx => exact h.elapse.epochAnnounceRx.next e
  | plungeRx => exact h.elapse.plungeRx.next e
  | sealReportRx => exact h.elapse.sealReportRx.next e
  | isolationAutoLift => exact h.isolationAutoLift.next e
  | isolationLift => exact (h.elapse.viaReg (fun h => h.liftIsolation.ite h)).next e
  | portUp => exact h.elapse.portUp.next e
  | portDown => exact h.elapse.portDown.next e
  | portSilent => exact h.portSilentRow.next e
  | backupSelect => exact h.backupSelect.next e
  | upstreamSelect => exact h.upstreamSelect.next e
  | rolePeriodic => exact h.rolePeriodic.next e
  | configPeriodic => exact h.configPeriodic.next e
  | epochAnnounceSend => exact h.epochAnnounceSend.next e
  | cisternSample => exact h.cisternSample.next e
  | coulombSample => exact h.elapse.coulombSample.next e
  | socAnchor => exact h.elapse.socAnchor.next e
  | socUncGrowth => exact h.elapse.socUncGrowth.next e
  | calibrationGo => exact (h.elapse.viaReg calibrationGo).next e
  | calibrationPause => exact (h.elapse.viaReg calibrationPause).next e
  | calibrationAbort => exact (h.elapse.viaReg calibrationAbort).next e
  | calibrationFull => exact h.elapse.calibrationFull.next e
  | calibrationDischargeEnd => exact h.elapse.calibrationDischargeEnd.next e
  | lightPulse => exact h.elapse.lightPulse.next e
  | lightPulseEnd => exact h.elapse.lightPulseEnd.next e
  | rehearsalGo => exact (h.elapse.viaReg rehearsalGo).next e
  | rehearsalStart => exact h.elapse.rehearsalStart.next e
  | rehearsalLoad => exact h.rehearsalLoad.next e
  | rehearsalSample => exact h.elapse.rehearsalSample.next e
  | rehearsalEnd => exact h.elapse.rehearsalEnd.next e
  | rehearsalPublish => exact h.rehearsalPublish.next e
  | packRemoved => exact h.elapse.packRemoved.next e
  | packInserted => exact h.elapse.packInserted.next e
  | packCounted => exact h.elapse.packCounted.next e
  | alarmHit => exact h.elapse.alarmHit.next e
  | crystalTrim => exact h.elapse.crystalTrim.next e
  | setTimestamp => exact h.elapse.setTimestamp.next e
  | getTimestamp => exact h.elapse.getTimestamp.next e
  | gpfPhase1 => exact h.elapse.gpfPhase1.next e
  | gpfPhase2 => exact h.elapse.gpfPhase2.next e
  | gpfDrainDone => exact h.elapse.gpfDrainDone.next e
  | cxlResetLd => exact h.elapse.cxlResetLd.next e
  | ldResetEffect => exact h.elapse.ldResetEffect.next e
  | fabLinkUp => exact h.elapse.fabLinkUp.next e
  | fabLinkDown => exact next_ite h.elapse.linkDown h.elapse e
  | fabHotReset => exact h.elapse.fabHotReset.next e
  | hdmCommit => exact h.elapse.hdmCommit.next e
  | identify => exact h.elapse.identify.next e
  | backgroundOperationStatus => exact h.elapse.backgroundStatus.next e
  | getResponseMessageLimit => exact h.elapse.responseLimit.next e
  | getEventRecords => exact h.elapse.getEvents.next e
  | clearEventRecords => exact h.elapse.clearEvents.next e
  | getEventInterruptPolicy => exact h.elapse.getPolicy.next e
  | setEventInterruptPolicy => exact h.elapse.setPolicy.next e
  | getFwInfo => exact h.elapse.fwInfo.next e
  | transferFwInitiate => exact h.elapse.transferInitiate.next e
  | transferFwContinue => exact h.elapse.transferContinue.next e
  | transferFwEnd => exact h.elapse.transferEnd.next e
  | transferFwFull => exact h.elapse.transferFull.next e
  | transferFwAbort => exact h.elapse.transferAbort.next e
  | transferIdleTimeout => exact h.elapse.transferIdle.next e
  | fwPropagateCopyDone => exact h.elapse.propagateDone.next e
  | activateFwOnline => exact h.elapse.activate.next e
  | activateFwOffline => exact h.elapse.activate.next e
  | moltReady => exact h.elapse.moltReady.next e
  | moltTimeout => exact h.elapse.moltTimeout.next e
  | getSupportedLogs => exact h.elapse.supportedLogs.next e
  | getLog => exact h.elapse.getLog.next e
  | identifyMemoryDevice => exact h.elapse.identifyMemory.next e
  | getPartitionInfo => exact h.elapse.partitionInfo.next e
  | getHealthInfo => exact h.elapse.healthInfo.next e
  | getAlertConfiguration => exact h.elapse.getAlert.next e
  | setAlertConfiguration => exact h.elapse.setAlert.next e
  | getShutdownState => exact h.elapse.getShutdown.next e
  | setShutdownState => exact h.elapse.setShutdown.next e
  | getPoisonList => exact h.elapse.poisonListCmd.next e
  | injectPoison => exact h.elapse.injectPoison.next e
  | clearPoison => exact h.elapse.clearPoison.next e
  | getScanMediaCapabilities => exact h.elapse.scanCaps.next e
  | scanMedia => exact h.elapse.scanMedia.next e
  | getScanMediaResults => exact h.elapse.scanResults.next e
  | sanitize => exact h.elapse.sanitize.next e
  | secureErase => exact h.elapse.secureErase.next e
  | getLdInfo => exact h.elapse.ldInfo.next e
  | getLdAllocations => exact h.elapse.ldAllocations.next e
  | setLdAllocations => exact h.elapse.setLdAllocations.next e
  | getQosControl => exact h.elapse.getQos.next e
  | setQosControl => exact h.elapse.setQos.next e
  | getQosStatus => exact h.elapse.qosStatus.next e
  | getQosAllocatedBw => exact h.elapse.getAlloc.next e
  | setQosAllocatedBw => exact h.elapse.setAlloc.next e
  | getQosBwLimit => exact h.elapse.getLimit.next e
  | setQosBwLimit => exact h.elapse.setLimit.next e
  | mailboxUnsupported => exact h.elapse.mailboxUnsupported.next e
  | getPersistInfo => exact h.elapse.persistInfo.next e
  | setLdExtent => exact h.elapse.setLdExtent.next e
  | bindLd => exact h.elapse.bindLdRow.next e
  | rebindLd => exact h.elapse.rebindLdRow.next e
  | unbindLd => exact h.elapse.unbindCmd.next e
  | unbindComplete => exact h.elapse.unbindComplete.next e
  | quiesceLd => exact h.elapse.quiesceCmd.next e
  | quiesceWaitExpiry => exact h.elapse.quiesceWaitExpiry.next e
  | quiesceComplete => exact h.elapse.quiesceComplete.next e
  | resumeLd => exact h.elapse.resumeCmd.next e
  | regAccess => exact h.elapse.regAccess.next e
  | sqTailDoorbell => exact h.elapse.doorbell.next e
  | cqHeadDoorbell => exact h.elapse.doorbell.next e
  | descriptorFetchDone => exact h.elapse.descriptorFetchDone.next e
  | descriptorAccept => exact h.elapse.descriptorAccept.next e
  | noResourceNotice => exact h.elapse.noResourceNotice.next e
  | nop => exact (h.elapse.runOp finish).next e
  | persistRange => exact (kick (h.elapse.runOp persistBegin)).next e
  | checkpointAt => exact (h.elapse.runOp modAcc).next e
  | checkpointRelease => exact (h.elapse.runOp checkpointRelease).next e
  | rollbackTo => exact (showWeir (.settle (.kick (h.elapse.runOp rollbackTo)))).next e
  | queryPages => exact (h.elapse.runOp queryPages).next e
  | zeroRange => exact (showWeir (.settle (.kick (h.elapse.runOp zeroBegin)))).next e
  | sanitizeLd => exact (h.elapse.runOp sanitizeBegin).next e
  | fence => exact (kick (h.elapse.runOp id)).next e
  | readSeal => exact (settle (h.elapse.runOp readSeal)).next e
  | ringEnable => exact (h.elapse.viaRing ringEnable).next e
  | ringDisable => exact (h.elapse.viaRing ringDisable).next e
  | ringResume => exact (h.elapse.viaRing ringResume).next e
  | msixCoalesceTimeout => exact h.elapse.msixCoalesceTimeout.next e
  | ldGo => exact h.elapse.ldGo.next e
  | rebuildDone => exact h.elapse.rebuildDone.next e
  | coldStart => exact h.elapse.coldStartRow.next e
  | startStageComplete => exact h.elapse.startStageComplete.next e
  | deviceWarmReset => exact h.elapse.warmReset.next e
  | watchdogExpiry => exact h.elapse.watchdogExpiry.next e
  | startTimeout => exact h.elapse.startTimeout.next e
  | retry => exact h.elapse.retryStart.next e
  | bootCopyRepairDone => exact h.elapse.bootCopyRepairDone.next e
  | faultMessage => exact h.elapse.faultMessage.next e
  | faultIntake => exact h.elapse.faultIntake.next e
  | faultReaction => exact h.elapse.faultReaction.next e
  | isolationComplete => exact h.elapse.isolationComplete.next e
  | quietPeriodExpiry => exact h.elapse.quietPeriodExpiry.next e
  | recoveryDone => exact h.elapse.recoveryDone.next e
  | unitIsolate => exact (h.elapse.viaReg unitIsolate).next e
  | unitReturn => exact (h.elapse.viaReg unitReturn).next e
  | bistGo => exact (h.elapse.viaReg bistGo).next e
  | bistDone => exact h.elapse.bistDone.next e
  | injectionArm => exact (h.elapse.viaReg injectionArm).next e
  | latchClear => exact (h.elapse.viaReg latchClear).next e
  | journalRecordProgrammed => exact h.elapse.journalRecordProgrammed.next e
  | journalSealProgrammed => exact h.elapse.journalSealProgrammed.next e
  | jtagInstruction => exact h.elapse.jtagInstruction.next e
  | dieTempHigh => exact h.elapse.dieTempHigh.next e
  | railSlot => exact h.elapse.railSlot.next e
  | railTimeout => exact h.elapse.railTimeout.next e
  | powerUpRetry => exact h.elapse.powerUpRetry.next e
  | railSample => exact h.elapse.railSample.next e
  | railPgLoss => exact (h.elapse.railPgLoss.ite h.elapse).next e
  | resetStretchExpiry => exact h.elapse.resetStretchExpiry.next e
  | holdupEntry => exact h.elapse.holdupEntry.next e
  | holdupEnd => exact h.elapse.holdupEnd.next e
  | vaonPowerOn => exact h.vaonPowerOn.next e
  | vaonLoss => exact h.elapse.vaonGone.next e
  | porAssert => exact h.elapse.porAssert.next e
  | porRelease => exact h.elapse.porRelease.next e
  | domainWait => exact next_ite (h.elapse.viaReg domainWait) h.elapse.domainWait e
  | domainCancel => exact (h.elapse.viaReg domainCancel).next e
  | domainIdlePoint => exact h.elapse.domainIdlePoint.next e
  | domainCommitWindowEnd => exact h.elapse.domainCommitWindowEnd.next e
  | domainNoIdleTimeout => exact h.elapse.domainNoIdleTimeout.next e
  | wakeSource => exact h.elapse.wakeSource.next e
  | domainReady => exact h.elapse.domainReady.next e
  | dramRequestIssue => exact h.elapse.dramRequestIssue.next e
  | dramReadDone => exact h.elapse.dramReadDone.next e
  | refreshSlot => exact h.elapse.refreshSlot.next e
  | mr4Poll => exact h.mr4Poll.next e
  | rhTableClear => exact h.elapse.rhTableClear.next e
  | rankPowerDown => exact h.elapse.rankPowerDown.next e
  | dqsTrack => exact h.dqsTrack.next e
  | eyeSample => exact h.eyeSample.next e
  | rankRetrainDone => exact h.elapse.rankRetrainDone.next e
  | dramScrubRead => exact h.elapse.dramScrubRead.next e
  | alertFall => exact h.elapse.alertFall.next e
  | freezeHoldExpiry => exact h.elapse.freezeHoldExpiry.next e
  | channelOut => exact (h.elapse.viaReg channelOut).next e
  | channelIn => exact (h.elapse.viaReg channelIn).next e
  | channelVerifyDone => exact h.elapse.channelVerifyDone.next e
  | flmKeyWrite => exact h.elapse.flmKeyWrite.next e
  | flmCmdWrite => exact h.elapse.flmCmdWrite.next e
  | flmAddrWrite => exact h.elapse.flmAddrWrite.next e
  | flmSequenceTimeout => exact h.elapse.flmSequenceTimeout.next e
  | flmBufWrite => exact h.elapse.flmBufWrite.next e
  | readPage => exact h.elapse.flmData.next e
  | readParam => exact h.elapse.flmData.next e
  | readId => exact h.elapse.flmData.next e
  | readStatus => exact h.elapse.flmData.next e
  | readWord => exact h.elapse.flmData.next e
  | programPage => exact h.elapse.flmData.next e
  | programWord => exact h.elapse.flmData.next e
  | eraseBlock => exact h.elapse.flmData.next e
  | pwUnlock => exact h.elapse.flmData.next e
  | pwSet => exact h.elapse.flmData.next e
  | protSet => exact h.elapse.flmData.next e
  | protLock => exact h.elapse.flmData.next e
  | xipSelect => exact h.elapse.flmData.next e
  | flmInvalidOpcode => exact h.elapse.flmData.next e
  | flmOperationDone => exact h.elapse.flmOperationDone.next e
  | protSessionTimeout => exact h.elapse.protSessionTimeout.next e
  | twoWireStart => exact h.elapse.twoWireStart.next e
  | twoWireFrameEnd => exact h.elapse.twoWireFrameEnd.next e
  | twoWireTimeout => exact h.elapse.twoWireTimeout.next e
  | twoWireAwakeExpiry => exact h.elapse.twoWireAwakeExpiry.next e
  | read32 => exact h.elapse.read32.next e
  | write32 => exact h.elapse.write32.next e
  | summary => exact h.elapse.summary.next e
  | mctpPacketRx => exact h.elapse.mctpPacket.next e
  | fmApiMessage => exact h.elapse.fmApiMessage.next e
  | setEndpointId => exact h.elapse.setEid.next e
  | getEndpointId => exact h.elapse.getEid.next e
  | getMctpVersionSupport => exact h.elapse.getVersion.next e
  | getMessageTypeSupport => exact h.elapse.getTypes.next e
  | mctpTransmit => exact h.elapse.mctpTransmit.next e
  | mctpRetry => exact h.elapse.mctpRetry.next e
  | commitWrite => exact h.elapse.commitRow.next e
  | registerWrite => exact h.elapse.pathWrite.next e
  | rcRead => exact h.elapse.pathRead.answer.next e
  | rslRead => exact h.elapse.pathRead.answer.next e
  | minRunReached => exact h.elapse.minRun.next e
  | zeroFillDone => exact h.elapse.zeroFillDone.next e
  | configurationWriteDone => exact h.elapse.configurationWriteDone.next e

end Commands

end Tidy

/-- Settles O3: a step is `exec` of the front command, or idles; `Tidy.exec` with no ring in disorder. -/
theorem everyStepKeepsTablesCanonical : Obligations.EveryStepKeepsTablesCanonical := by
  unfold Obligations.EveryStepKeepsTablesCanonical
  intro s t h e
  unfold step at e
  split at e
  · cases e
    exact h
  · exact tidy_false.1 ((tidy_false.2 h).rest.exec e)

end Sys2Proof

/-! # What the wake-ups after a command leave unchanged (O5)

The ring engine and the dies' queues of reads touch few parts of the state: `RingWork` and `DieWork` say which. `Kept` lists
what no wake-up changes; one lemma per operation of the wake-ups, named after it, says that the operation keeps it. With `L` it
speaks of the LDs too: the requests that a page's turn wakes change nothing of an LD but counts. -/

namespace Sys2Proof
open Machine

/-- A relation that holds along every step of a fold holds from its beginning to its end. -/
theorem foldl_rel {α β : Type} {P : β → β → Prop} (hr : ∀ b, P b b) (ht : ∀ {a b c}, P a b → P b c → P a c)
    {f : β → α → β} (hf : ∀ b a, P b (f b a)) (l : List α) (b : β) : P b (l.foldl f b) := by
  induction l generalizing b with
  | nil => exact hr b
  | cons a l ih => exact ht (hf b a) (ih _)

/-! ## An LD after a change of one -/

theorem Machine.State.ld_modLd_self (s : State) (n : Nat) (f : Ld → Ld) : (s.modLd n f).ld n = f (s.ld n) := by
  simp [State.modLd, State.setLd, State.ld]

theorem Machine.State.ld_modLd_ne (s : State) {n m : Nat} (f : Ld → Ld) (h : m ≠ n) : (s.modLd n f).ld m = s.ld m := by
  simp [State.modLd, State.setLd, State.ld, tabGet_tabSet_ne _ _ _ h]

/-! ## The ring engine -/

/-- The second state differs from the first in the rings, the turn to fetch, registers, and what has left the device. -/
def RingWork (s t : State) : Prop := t = { s with regs := t.regs, out := t.out, rings := t.rings, rngAt := t.rngAt }

namespace RingWork
variable {s t u : State}

theorem refl (s : State) : RingWork s s := Eq.refl s
theorem trans (h : RingWork s t) (k : RingWork t u) : RingWork s u := by unfold RingWork at *; rw [k, h]

theorem ite {c : Prop} [Decidable c] (ht : RingWork s t) (hu : RingWork s u) : RingWork s (if c then t else u) := by
  split
  · exact ht
  · exact hu

theorem foldl {α : Type} {l : List α} {f : State → α → State} (h : RingWork s t) (hf : ∀ t a, RingWork t (f t a)) :
    RingWork s (l.foldl f t) := h.trans (foldl_rel refl trans hf l t)

theorem fset {f v} (h : RingWork s t) : RingWork s (t.fset f v) := h.trans (Eq.refl _)
theorem bump {c o n} (h : RingWork s t) : RingWork s (t.bump c o n) := h.fset.ite h.fset.fset
theorem emit {o} (h : RingWork s t) : RingWork s (t.emit o) := h.trans (Eq.refl _)
theorem modRing {ld n f} (h : RingWork s t) : RingWork s (t.modRing ld n f) := h.trans (Eq.refl _)
theorem modAcc {ld n ord f} (h : RingWork s t) : RingWork s (t.modAcc ld n ord f) := h.modRing
theorem showFlight {ld} (h : RingWork s t) : RingWork s (t.showFlight ld) := h.fset
theorem showHeld {ld n} (h : RingWork s t) : RingWork s (t.showHeld ld n) := h.fset

theorem writeCq {ld n tag status flags result} (h : RingWork s t) :
    RingWork s (t.writeCq ld n tag status flags result) := by
  unfold State.writeCq
  exact h.emit.modRing

theorem coalesce {ld n} (h : RingWork s t) : RingWork s (t.coalesce ld n) := h.modRing.modRing.emit.ite h.modRing

theorem postEntries {ld n k} (h : RingWork s t) : RingWork s (t.postEntries ld n k) := by
  induction k generalizing t with
  | zero => exact h
  | succ k ih =>
    unfold State.postEntries; split
    · exact .ite (ih (h.writeCq.modRing.ite h.writeCq.modRing.coalesce)) h
    · exact h

theorem postRing {ld n} (h : RingWork s t) : RingWork s (t.postRing ld n) :=
  (h.postEntries.modRing.emit.ite h.postEntries).showHeld

theorem finish {ld n ord status flags result} (h : RingWork s t) :
    RingWork s (t.finish ld n ord status flags result) :=
  (h.modAcc.bump.ite (h.modAcc.bump.ite h.modAcc)).showFlight.postRing

theorem fetchMore {ld n} (h : RingWork s t) : RingWork s (t.fetchMore ld n) := by
  refine h.trans ?_
  unfold State.fetchMore; split
  · exact refl t
  · split
    · exact Eq.refl _
    · exact refl t

theorem disableRing {ld n} (h : RingWork s t) : RingWork s (t.disableRing ld n) := h.fset.modRing.showHeld

theorem disableRings {ld} (h : RingWork s t) : RingWork s (t.disableRings ld) :=
  .fetchMore (.foldl (h.foldl fun t _ => (refl t).ite (refl t).disableRing) fun t _ => (refl t).disableRing)

theorem ringUnbound {ld n} (h : RingWork s t) : RingWork s (t.ringUnbound ld n) :=
  (h.disableRing.ite h.disableRing.bump).modRing.fset.fset.fset.fset.fset

theorem abortCuts {ld} (h : RingWork s t) : RingWork s (t.abortCuts ld) :=
  h.foldl fun t _ => (refl t).foldl fun t _ => (refl t).finish.ite (refl t)

end RingWork

/-! ## Reads queued at the dies -/

/-- The second state differs from the first in the rill, the restores, and the log's stripes and operations at dies. -/
def DieWork (s t : State) : Prop :=
  t = { s with
    rill := t.rill
    rfl_ := t.rfl_
    log := { s.log with stripes := t.log.stripes, dieOps := t.log.dieOps } }

namespace DieWork
variable {s t u : State}

theorem refl (s : State) : DieWork s s := Eq.refl s
theorem trans (h : DieWork s t) (k : DieWork t u) : DieWork s u := by unfold DieWork at *; rw [k, h]

theorem foldl {α : Type} {l : List α} {f : State → α → State} (h : DieWork s t) (hf : ∀ t a, DieWork t (f t a)) :
    DieWork s (l.foldl f t) := h.trans (foldl_rel refl trans hf l t)

theorem modRill {f} (h : DieWork s t) : DieWork s (t.modRill f) := h.trans (Eq.refl _)
theorem modRfl {f} (h : DieWork s t) : DieWork s (t.modRfl f) := h.trans (Eq.refl _)
theorem modLog {f} (h : DieWork s t)
    (hf : f t.log = { t.log with stripes := (f t.log).stripes, dieOps := (f t.log).dieOps } := by rfl) :
    DieWork s (t.modLog f) :=
  h.trans (show DieWork t _ from congrArg (fun l => ({ t with log := l } : State)) hf)
theorem modDraw {p f} (h : DieWork s t) : DieWork s (t.modDraw p f) := h.modRfl

theorem nextRead {ds} (h : DieWork s t) : DieWork s (t.nextRead ds) := by
  unfold State.nextRead; extract_lets; split
  · exact h
  · split
    · split
      · exact h.modDraw
      · exact h
    · split
      · exact h.foldl fun t _ => (refl t).modDraw
      · exact h

theorem resumeDie {ds} (h : DieWork s t) : DieWork s (t.resumeDie ds) := by
  unfold State.resumeDie; extract_lets; split
  · exact h
  · exact h.modLog

theorem dieFree {ds} (h : DieWork s t) : DieWork s (t.dieFree ds) := h.nextRead.resumeDie

theorem staleCopies {p} (h : DieWork s t) : DieWork s (t.staleCopies p) := h.modRill.modLog

theorem dropWork {n} (h : DieWork s t) : DieWork s (t.dropWork n) :=
  h.modRill.modLog.modRfl.modLog.foldl fun t _ => (refl t).dieFree

end DieWork

/-! ## What is kept -/

/-- The second LD differs from the first in its owed count and in what step 5 notes of it. -/
def SameButCounts (l m : Ld) : Prop := m = { l with owed := m.owed, bwUsed := m.bwUsed, waited5 := m.waited5 }

theorem SameButCounts.trans {l m k : Ld} (h : SameButCounts l m) (h' : SameButCounts m k) : SameButCounts l k := by
  unfold SameButCounts at *; rw [h', h]

/-- The first bit address beyond the FAB_ registers. -/
def fabEnd : Nat := 8 * 0x108000

/-- What no wake-up changes between two states. Requests only leave or move on: each of the later state is of an LD that had one
before. With `L`, the LDs change in counts only, and the FAB_ registers stay. -/
structure Kept (L : Prop) (s t : State) : Prop where
  flash : t.flash = s.flash
  sealedImg : t.sealedImg = s.sealedImg
  psq : t.psq = s.psq
  doms : t.doms = s.doms
  cis : t.cis = s.cis
  col : t.col = s.col
  boot : t.boot = s.boot
  flm : t.flm = s.flm
  twb : t.twb = s.twb
  mbx : t.mbx = s.mbx
  spill : t.spill = s.spill
  staged : t.staged = s.staged
  captured : t.captured = s.captured
  cfgHalf : t.cfgHalf = s.cfgHalf
  molt : t.molt = s.molt
  now : t.now = s.now
  colTime : t.colTime = s.colTime
  beat : t.beat = s.beat
  log : t.log = { s.log with
    stripes := t.log.stripes
    dieOps := t.log.dieOps
    poisonDue := t.log.poisonDue }
  reqs : ∀ r ∈ t.fab.reqs, ∃ q ∈ s.fab.reqs, q.ld = r.ld
  lds : L → ∀ n, SameButCounts (s.ld n) (t.ld n)
  fabRegs : L → ∀ f : Field, f.bit < fabEnd → t.fget f = s.fget f

namespace Kept

section Parts
variable {L : Prop} {s₀ s t : State}

theorem refl (L : Prop) (s : State) : Kept L s s where
  flash := rfl
  sealedImg := rfl
  psq := rfl
  doms := rfl
  cis := rfl
  col := rfl
  boot := rfl
  flm := rfl
  twb := rfl
  mbx := rfl
  spill := rfl
  staged := rfl
  captured := rfl
  cfgHalf := rfl
  molt := rfl
  now := rfl
  colTime := rfl
  beat := rfl
  log := rfl
  reqs r hr := ⟨r, hr, rfl⟩
  lds _ _ := rfl
  fabRegs _ _ _ := rfl

/-- What the list does not name may change. -/
theorem rest {pending freeCtr out commitHeld snaps heldLow cfgDue dev tx flt pages dram poison recIdx stripesOn eddy rill
    rfl_ rings accSeq rngAt elys targets chans mapGrain mapHash reservePm pdmLock vaonAt chrys chrysPsq timeLost}
    (h : Kept L s₀ s) : Kept L s₀ { s with
      pending := pending, freeCtr := freeCtr, out := out, commitHeld := commitHeld, snaps := snaps,
      heldLow := heldLow, cfgDue := cfgDue, dev := dev, tx := tx, flt := flt, pages := pages, dram := dram,
      poison := poison, recIdx := recIdx, stripesOn := stripesOn, eddy := eddy, rill := rill, rfl_ := rfl_,
      rings := rings, accSeq := accSeq, rngAt := rngAt, elys := elys, targets := targets, chans := chans,
      mapGrain := mapGrain, mapHash := mapHash, reservePm := reservePm, pdmLock := pdmLock, vaonAt := vaonAt,
      chrys := chrys, chrysPsq := chrysPsq, timeLost := timeLost } := { h with }

theorem modLog {f} (h : Kept L s₀ s)
    (hf : f s.log = { s.log with
      stripes := (f s.log).stripes
      dieOps := (f s.log).dieOps
      poisonDue := (f s.log).poisonDue } := by rfl) : Kept L s₀ (s.modLog f) :=
  { h with log := hf.trans (congrArg (fun l : LogState => { l with
      stripes := (f s.log).stripes
      dieOps := (f s.log).dieOps
      poisonDue := (f s.log).poisonDue }) h.log) }

theorem modFab {f} (h : Kept L s₀ s) (hf : ∀ r ∈ (f s.fab).reqs, ∃ q ∈ s.fab.reqs, q.ld = r.ld) :
    Kept L s₀ (s.modFab f) := by
  refine { h with reqs := fun r hr => ?_ }
  obtain ⟨q, hq, e⟩ := hf r hr
  obtain ⟨p, hp, e'⟩ := h.reqs q hq
  exact ⟨p, hp, e'.trans e⟩

/-- With `L`, an LD changes in counts only. -/
theorem modLd {n f} (h : Kept L s₀ s) (hf : L → ∀ l, SameButCounts l (f l) := by exact False.elim) :
    Kept L s₀ (s.modLd n f) := by
  refine { h with lds := fun hL m => ?_ }
  by_cases hm : m = n
  · subst hm
    rw [State.ld_modLd_self]
    exact (h.lds hL m).trans (hf hL _)
  · rw [State.ld_modLd_ne _ _ hm]
    exact h.lds hL m

/-- With `L`, no FAB_ register changes. -/
theorem fset {f v} (h : Kept L s₀ s) (hf : L → fabEnd ≤ f.bit := by exact False.elim) : Kept L s₀ (s.fset f v) :=
  { h with fabRegs := fun hL g hg =>
      (State.fget_fset_ne s (hg.trans_le (hf hL)).ne v).trans (h.fabRegs hL g hg) }

theorem ringWork (h : Kept False s₀ s) (k : RingWork s t) : Kept False s₀ t := by
  rw [k]
  exact { h with fabRegs := False.elim }

theorem dieWork (h : Kept L s₀ s) (k : DieWork s t) : Kept L s₀ t := by
  rw [k]
  exact (h.modLog (f := fun l => { l with stripes := t.log.stripes, dieOps := t.log.dieOps })).rest

theorem ite {c : Prop} {_ : Decidable c} {a b : State} (ha : Kept L s₀ a) (hb : Kept L s₀ b) :
    Kept L s₀ (if c then a else b) := by
  split
  · exact ha
  · exact hb

theorem ite_fst {α : Type} {c : Prop} {_ : Decidable c} {a b : State × α} (ha : Kept L s₀ a.1) (hb : Kept L s₀ b.1) :
    Kept L s₀ (if c then a else b).1 := by
  split
  · exact ha
  · exact hb

theorem pair {α : Type} {x : α} (h : Kept L s₀ s) : Kept L s₀ (s, x).1 := h

theorem foldl {α : Type} {l : List α} {f : State → α → State} (h : Kept L s₀ s)
    (hf : ∀ {s a}, Kept L s₀ s → Kept L s₀ (f s a)) : Kept L s₀ (l.foldl f s) := by
  induction l generalizing s with
  | nil => exact h
  | cons a l ih => exact ih (hf h)

theorem forUpto {n : Nat} {f : Nat → State → State} (h : Kept L s₀ s)
    (hf : ∀ {i s}, Kept L s₀ s → Kept L s₀ (f i s)) : Kept L s₀ (Machine.forUpto n f s) := h.foldl hf

end Parts

/-! ## A request that goes on -/

section Requests
variable {L : Prop} {s₀ s : State}

theorem fput {f b} (h : Kept L s₀ s) (hf : L → fabEnd ≤ f.bit := by exact False.elim) : Kept L s₀ (s.fput f b) :=
  h.fset hf
theorem fsat {f v} (h : Kept L s₀ s) (hf : L → fabEnd ≤ f.bit := by exact False.elim) : Kept L s₀ (s.fsat f v) :=
  h.fset hf

theorem bump {c o n} (h : Kept L s₀ s) (hc : L → fabEnd ≤ c.bit := by exact False.elim)
    (ho : L → fabEnd ≤ o.bit := by exact False.elim) : Kept L s₀ (s.bump c o n) := (h.fset hc).ite ((h.fset hc).fset ho)

theorem wrap {c o n} (h : Kept L s₀ s) (hc : L → fabEnd ≤ c.bit) (ho : L → fabEnd ≤ o.bit) : Kept L s₀ (s.wrap c o n) :=
  (h.fset hc).ite ((h.fset hc).fset ho)

theorem emit {o} (h : Kept L s₀ s) : Kept L s₀ (s.emit o) := h.rest
theorem modRill {f} (h : Kept L s₀ s) : Kept L s₀ (s.modRill f) := h.rest
theorem modRfl {f} (h : Kept L s₀ s) : Kept L s₀ (s.modRfl f) := h.rest
theorem modChan {c f} (h : Kept L s₀ s) : Kept L s₀ (s.modChan c f) := h.rest
theorem setPoison {n b} (h : Kept L s₀ s) : Kept L s₀ (s.setPoison n b) := h.rest
theorem writeBytes {a d mask} (h : Kept L s₀ s) : Kept L s₀ (s.writeBytes a d mask) := h.rest

theorem setPage {p r} (h : Kept L s₀ s) : Kept L s₀ (s.setPage p r) := h.rest.ite (modLd h.rest fun _ _ => rfl)
theorem staleCopies {p} (h : Kept L s₀ s) : Kept L s₀ (s.staleCopies p) := h.dieWork (DieWork.refl s).staleCopies
theorem keepLost {p} (h : Kept L s₀ s) : Kept L s₀ (s.keepLost p) := .ite (h.forUpto setPoison) h

theorem pageWritten {p} (h : Kept L s₀ s) : Kept L s₀ (s.pageWritten p) := by
  unfold State.pageWritten; extract_lets; split
  · exact h.setPage
  · exact h.setPage
  · exact h.staleCopies.setPage
  · exact h

theorem showSlots (h : Kept L s₀ s) : Kept L s₀ s.showSlots := h.fset fun _ => by decide
theorem forkBegin {p i} (h : Kept L s₀ s) : Kept L s₀ (s.forkBegin p i) := h.rest.showSlots
theorem enterWmb {line port ap} (h : Kept L s₀ s) : Kept L s₀ (s.enterWmb line port ap) := h.ite h.modChan

theorem queueRead {kind line port ap} (h : Kept L s₀ s) : Kept L s₀ (s.queueRead kind line port ap) := by
  unfold State.queueRead
  exact h.modChan

theorem queuePage {p base w urgent} (h : Kept L s₀ s) : Kept L s₀ (s.queuePage p base w urgent) := h.forUpto queueRead
theorem forkStart {p i} (h : Kept L s₀ s) : Kept L s₀ (s.forkStart p i) := h.forkBegin.queuePage
theorem forkGone {p i} (h : Kept L s₀ s) : Kept L s₀ (s.forkGone p i) := .rest (showSlots h.rest)

theorem nextRead {ds} (h : Kept L s₀ s) : Kept L s₀ (s.nextRead ds) := h.dieWork (DieWork.refl s).nextRead
theorem suspend {ds} (h : Kept L s₀ s) : Kept L s₀ (s.suspend ds) :=
  h.modLog.bump (fun _ => by decide) fun _ => by decide

theorem atDie {p ds refill} (h : Kept L s₀ s) : Kept L s₀ (s.atDie p ds refill) := by
  unfold State.atDie; split
  · exact h
  · exact h.ite (h.suspend.ite (h.modLog.bump (fun _ => by decide) fun _ => by decide))

theorem firstStep {p len dies refill} (h : Kept L s₀ s) : Kept L s₀ (s.firstStep p len dies refill).1 :=
  h.ite_fst (h.ite_fst (h.foldl atDie))

theorem issue {p refill} (h : Kept L s₀ s) : Kept L s₀ (s.issue p refill) := by
  unfold State.issue
  extract_lets r also x1 t s2
  have h2 : Kept L s₀ s2 := h.firstStep.setPage.modRfl
  exact h2.ite (h2.wrap (fun _ => by decide) fun _ => by decide)

theorem startDraw {p} (h : Kept L s₀ s) : Kept L s₀ (s.startDraw p).1 := .ite_fst (h.issue.foldl nextRead) h

theorem joinDraw {p} (h : Kept L s₀ s) : Kept L s₀ (s.joinDraw p) := by
  unfold State.joinDraw; split
  · refine .ite (wrap ?_ (fun _ => by decide) fun _ => by decide) h
    exact .foldl (.modRfl (h.ite (h.foldl atDie))) nextRead
  · exact h

theorem dropReq {rid} (h : Kept L s₀ s) : Kept L s₀ (s.dropReq rid) :=
  h.modFab fun r hr => ⟨r, (List.mem_filter.1 hr).1, rfl⟩

theorem setAt {rid st} (h : Kept L s₀ s) : Kept L s₀ (s.setAt rid st) :=
  h.modFab fun r hr => by
    obtain ⟨q, hq, rfl⟩ := List.mem_map.1 hr
    exact ⟨q, hq, by split <;> rfl⟩

theorem ndr {r} (h : Kept L s₀ s) : Kept L s₀ (s.ndr r) := h.dropReq.emit
theorem drs {r d} (h : Kept L s₀ s) : Kept L s₀ (s.drs r d) := h.dropReq.emit

theorem acceptWrite {r} (h : Kept L s₀ s) : Kept L s₀ (s.acceptWrite r) := by
  unfold State.acceptWrite
  extract_lets line hint s1 s2
  have h1 : Kept L s₀ s1 := h.keepLost.enterWmb.writeBytes
  have h2 : Kept L s₀ s2 := h1.setPoison.ite ((h1.setPoison.modFab fun r hr => ⟨r, hr, rfl⟩).ite h1)
  exact h2.pageWritten.ndr

theorem step7 {r} (h : Kept L s₀ s) : Kept L s₀ (s.step7 r) := by
  unfold State.step7; extract_lets; split
  · exact h.acceptWrite.ite (h.setAt.ite (h.acceptWrite.ite h.queueRead.setAt))
  · exact h.drs.ite (h.drs.ite h.queueRead.setAt)

theorem needPage {r} (h : Kept L s₀ s) : Kept L s₀ (s.needPage r) := by
  unfold State.needPage; extract_lets; split
  · exact h.startDraw.setAt.ite h.setAt
  · exact h.joinDraw.setAt

theorem needFork {r} (h : Kept L s₀ s) : Kept L s₀ (s.needFork r) := by
  refine .ite ?_ h.step7
  split
  · exact h.forkStart.setAt.ite h.setAt
  · exact setAt (h.bump (fun _ => by decide) fun _ => by decide)

theorem step6 {r} (h : Kept L s₀ s) : Kept L s₀ (s.step6 r) := by
  unfold State.step6; extract_lets; split
  · exact h.needPage
  · exact h.needPage
  · split
    · exact h.step7
    · refine .ite (setAt (h.bump (fun _ => ?_) fun _ => ?_)) h.needFork
      · simp only [fabEnd, Fld.WEIR_LD_CNTA.WAITS]; omega
      · simp only [fabEnd, Fld.WEIR_LD_CNTA.SAT]; omega

theorem step5 {r} (h : Kept L s₀ s) : Kept L s₀ (s.step5 r) :=
  h.step6.ite ((h.modLd fun _ _ => by rfl).setAt.ite (h.modLd fun _ _ => by rfl).step6)
theorem step4 {r} (h : Kept L s₀ s) : Kept L s₀ (s.step4 r) := h.setAt.ite h.step5

theorem countOor {n k} (h : Kept L s₀ s) : Kept L s₀ (s.countOor n k) := by
  unfold State.countOor; split
  · refine h.bump (fun _ => ?_) fun _ => ?_
    · simp only [fabEnd, Fld.SLU_LD_CNTA.OOR_RD]; omega
    · simp only [fabEnd, Fld.SLU_LD_CNTA.RD_SAT]; omega
  · refine h.bump (fun _ => ?_) fun _ => ?_
    · simp only [fabEnd, Fld.SLU_LD_CNTA.OOR_WR]; omega
    · simp only [fabEnd, Fld.SLU_LD_CNTA.WR_SAT]; omega

theorem noEffect {r} (h : Kept L s₀ s) : Kept L s₀ (s.noEffect r) := by
  unfold State.noEffect; split
  · exact h.drs
  · exact h.ndr

theorem step3 {r} (h : Kept L s₀ s) : Kept L s₀ (s.step3 r) := by
  refine h.setAt.ite (h.step4.ite ?_)
  split
  · exact h.countOor.noEffect
  · exact h.setAt.ite h.step4
  · exact h.setAt.ite h.step4
  · exact h.setAt

theorem wakeReq {rid} (h : Kept L s₀ s) : Kept L s₀ (s.wakeReq rid) := by
  unfold State.wakeReq; split
  · split
    · exact h.step4
    · split
      · exact h
      · exact h.step6
    · exact h.step6
    · exact h.step6
    · exact h.step5
    · exact h.step3
    · exact h
  · exact h

theorem wakePage {p} (h : Kept L s₀ s) : Kept L s₀ (s.wakePage p) := h.foldl wakeReq
theorem wakeAll {which} (h : Kept L s₀ s) : Kept L s₀ (s.wakeAll which) := h.foldl fun h => h.wakeReq.wakePage

theorem discard {which} (h : Kept L s₀ s) : Kept L s₀ (s.discard which) := by
  unfold State.discard
  extract_lets gone ids s1 keep cut s2 s3
  have h1 : Kept L s₀ s1 := h.foldl fun {s r} h => by
    extract_lets s1
    have h1 : Kept L s₀ s1 := .ite h.emit (.ite h (h.bump
      (fun _ => by simp only [fabEnd, Fld.SLU_LD_CNTB.DISCARDED]; omega)
      fun _ => by simp only [fabEnd, Fld.SLU_LD_CNTB.DS_SAT]; omega))
    split
    · exact h1.forkGone
    · exact h1
  have h2 : Kept L s₀ s2 := h1.rest
  have h3 : Kept L s₀ s3 := h2.modFab fun r hr => ⟨r, (List.mem_filter.1 hr).1, rfl⟩
  exact h3.foldl wakePage

end Requests

/-! ## Refill, rings and the ladder -/

section Wakes
variable {s₀ s : State}

theorem showUnfilled (h : Kept False s₀ s) : Kept False s₀ s.showUnfilled := .fsat (h.foldl fsat)
theorem setLdState {n st} (h : Kept False s₀ s) : Kept False s₀ (s.setLdState n st) := h.modLd.fset

theorem checkFilled (h : Kept False s₀ s) : Kept False s₀ s.checkFilled := by
  unfold State.checkFilled
  extract_lets s1 s2
  have h2 : Kept False s₀ s2 :=
    h.showUnfilled.foldl fun h => (h.setLdState.ite h).modLd.ite (h.setLdState.ite h)
  exact h.ite (.ite (.fset (.fset h2.rest)) h2)

theorem refillDie {g ds} (h : Kept False s₀ s) : Kept False s₀ (s.refillDie g ds) := by
  refine h.ite ?_
  split
  · exact .nextRead (h.foldl fun h => h.issue.ite h)
  · exact h

theorem refill (h : Kept False s₀ s) : Kept False s₀ s.refill := by
  unfold State.refill
  extract_lets g dies s1
  have h1 : Kept False s₀ s1 := h.foldl refillDie
  refine h.ite (h.ite (h1.ite ?_))
  split
  · exact h1.issue.ite h1
  · exact h1

theorem modFlt {f} (h : Kept False s₀ s) : Kept False s₀ (s.modFlt f) := h.rest

theorem fault {src kind addr cleared} (h : Kept False s₀ s) : Kept False s₀ (s.fault src kind addr cleared) := by
  rw [State.fault_frame]
  exact { h with fabRegs := False.elim }

theorem showCkpts {n} (h : Kept False s₀ s) : Kept False s₀ (s.showCkpts n) := h.fset.fset.fset.fput
theorem refitOverWeir {n} (h : Kept False s₀ s) : Kept False s₀ (s.refitOverWeir n) := h.modLd.showCkpts.ite h
theorem checkDeficit (h : Kept False s₀ s) : Kept False s₀ s.checkDeficit := h.fset.bump.fault.ite (h.fset.fault.ite h)
theorem showOwed (h : Kept False s₀ s) : Kept False s₀ s.showOwed := .fsat (.fsat (h.foldl fun h => h.fsat.fsat.fset))
theorem showWeir (h : Kept False s₀ s) : Kept False s₀ s.showWeir := .showOwed (h.checkDeficit.foldl refitOverWeir)

theorem modAcc {ld n ord f} (h : Kept False s₀ s) : Kept False s₀ (s.modAcc ld n ord f) := h.rest
theorem finish {ld n ord status flags result} (h : Kept False s₀ s) :
    Kept False s₀ (s.finish ld n ord status flags result) := h.ringWork (RingWork.refl s).finish

theorem persistRun {ld n a} (h : Kept False s₀ s) : Kept False s₀ (s.persistRun ld n a) := h.finish.ite h.modAcc.modRill
theorem fenceRun {ld n a} (h : Kept False s₀ s) : Kept False s₀ (s.fenceRun ld n a) := h.finish.ite h

theorem markPoisoned {p} (h : Kept False s₀ s) : Kept False s₀ (s.markPoisoned p) := by
  unfold State.markPoisoned
  exact modLog (modFab h.setPage fun r hr => ⟨r, hr, rfl⟩)
theorem dropWork {n} (h : Kept False s₀ s) : Kept False s₀ (s.dropWork n) := h.dieWork (DieWork.refl s).dropWork
theorem clearPages {n d} (h : Kept False s₀ s) : Kept False s₀ (s.clearPages n d) := .showSlots (.modLd h.rest)
theorem wipeExtent {n poisoned} (h : Kept False s₀ s) : Kept False s₀ (s.wipeExtent n poisoned) := by
  unfold State.wipeExtent
  exact .modLd h.rest

theorem rollRecs {n c} (h : Kept False s₀ s) : Kept False s₀ (s.rollRecs n c).1 := by
  unfold State.rollRecs
  extract_lets s1 new zero s2 s3 s4
  have h1 : Kept False s₀ s1 := h.dropWork.clearPages.wipeExtent
  have h2 : Kept False s₀ s2 := h1.foldl setPage
  have h3 : Kept False s₀ s3 := .ite (h2.foldl setPage) h2
  have h4 : Kept False s₀ s4 := h3.foldl markPoisoned
  exact pair h4.modLd

theorem restores {n} (h : Kept False s₀ s) : Kept False s₀ (s.restores n) := by
  unfold State.restores
  exact h.modLd

theorem journal {kind gen payload} (h : Kept False s₀ s) : Kept False s₀ (s.journal kind gen payload) :=
  h.bump.ite h.modFlt.fset.fset

theorem rollRun {ld n a} (h : Kept False s₀ s) : Kept False s₀ (s.rollRun ld n a) := by
  refine h.ite ?_
  split
  · exact h.modLd.finish
  · exact h.modLd.rollRecs.journal.restores.showSlots.finish

theorem sanitizePages {n} (h : Kept False s₀ s) : Kept False s₀ (s.sanitizePages n) := by
  unfold State.sanitizePages
  extract_lets s1 bad s2
  have h1 : Kept False s₀ s1 := h.modLd.showCkpts.dropWork
  exact (h1.clearPages.wipeExtent.ite (h1.clearPages.ite h1.clearPages)).restores

theorem sanitizeRun {ld n a} (h : Kept False s₀ s) : Kept False s₀ (s.sanitizeRun ld n a) :=
  h.ite h.sanitizePages.finish
theorem zeroReserve {ld n ord k} (h : Kept False s₀ s) : Kept False s₀ (s.zeroReserve ld n ord k) := h.modLd.modAcc
theorem useResv {ld n ord} (h : Kept False s₀ s) : Kept False s₀ (s.useResv ld n ord) := h.modLd.modAcc
theorem waitAt {ld n a p kind} (h : Kept False s₀ s) : Kept False s₀ (s.waitAt ld n a p kind) :=
  h.ite (h.bump.ite h.bump).modAcc
theorem waitOver {ld n ord p} (h : Kept False s₀ s) : Kept False s₀ (s.waitOver ld n ord p) := h.modAcc

theorem zeroStep5 {ld n ord p adm wr all} (h : Kept False s₀ s) :
    Kept False s₀ (s.zeroStep5 ld n ord p adm wr all).1 := by
  unfold State.zeroStep5
  extract_lets k w s1
  have h1 : Kept False s₀ s1 := h.ite h.modLd.modAcc
  exact h1.modLd.ite h1

theorem zeroPageRun {ld n a p} (h : Kept False s₀ s) : Kept False s₀ (s.zeroPageRun ld n a p).1 := by
  unfold State.zeroPageRun
  extract_lets all was behind x s1 ls up since s2 s3 s4 s5
  have h1 : Kept False s₀ s1 := .ite_fst h h.zeroStep5
  have h2 : Kept False s₀ s3 := (h1.useResv.ite h1).keepLost
  have h3 : Kept False s₀ s4 := h2.foldl fun h => h.enterWmb.writeBytes.setPoison
  refine .ite_fst h1 ?_
  split
  · exact h1.startDraw
  · exact h1.joinDraw
  · refine .ite_fst h1.waitAt (.ite_fst (.ite_fst h1 ?_) (.ite_fst h1 h3.modAcc.pageWritten.waitOver))
    split
    · exact .ite_fst (h1.forkStart.waitOver.useResv.ite h1.forkStart.waitOver) h1
    · exact h1.waitAt

theorem zeroPages {ld n ord ps} (h : Kept False s₀ s) : Kept False s₀ (s.zeroPages ld n ord ps) := by
  induction ps generalizing s with
  | nil => exact h
  | cons p ps ih =>
    unfold State.zeroPages; split
    · exact h
    · exact ih (h.zeroPageRun.modAcc.ite h.zeroPageRun)

theorem coveredBy {ld n z} (h : Kept False s₀ s) : Kept False s₀ (s.coveredBy ld n z) := by
  unfold State.coveredBy
  exact h.rest

theorem zeroRun {ld n a} (h : Kept False s₀ s) : Kept False s₀ (s.zeroRun ld n a) := by
  unfold State.zeroRun
  extract_lets r k s1
  have h1 : Kept False s₀ s1 := .ite (.ite h h.zeroReserve) h
  split
  · exact h1
  · extract_lets s2
    have h2 : Kept False s₀ s2 := h1.zeroPages
    refine .ite h1 ?_
    split
    · exact h2
    · exact h2.modLd.coveredBy.finish.ite h2

/-- The opcodes that run on, each by its own rule. -/
theorem advance {ld n a} (h : Kept False s₀ s) : Kept False s₀ (s.advance ld n a) := by
  refine h.ite ?_
  split
  · exact h.persistRun
  · exact h.rollRun
  · exact h.zeroRun.ite h
  · exact h.sanitizeRun
  · exact h.fenceRun
  · exact h

theorem kickOnly {fences} (h : Kept False s₀ s) : Kept False s₀ (s.kickOnly fences) := h.foldl fun h => by
  split
  · exact h.advance
  · exact h

theorem kick (h : Kept False s₀ s) : Kept False s₀ s.kick := h.kickOnly.kickOnly.showWeir
theorem showTrk (h : Kept False s₀ s) : Kept False s₀ s.showTrk := h.fsat.fsat.fsat
theorem settle (h : Kept False s₀ s) : Kept False s₀ s.settle := h.wakeAll.refill.checkFilled.kick.showTrk

end Wakes

end Kept

/-- Settles O5: every operation of `settle` and `showWeir` keeps what `Kept` lists. -/
theorem settlingLeavesTheRest : Obligations.SettlingLeavesTheRest := by
  unfold Obligations.SettlingLeavesTheRest
  rintro s t rfl
  have h := (Kept.refl False s).settle.showWeir
  have hl {α : Type} (f : LogState → α) := congrArg f h.log
  exact ⟨h.flash, h.sealedImg, h.psq, h.doms, h.cis, h.col, h.boot, h.flm, h.twb, h.mbx, h.spill, h.staged, h.captured,
    h.cfgHalf, h.molt, h.now, h.colTime, h.beat, hl (·.erases), hl (·.fold), hl (·.reloc), hl (·.verifying),
    hl (·.dieCause), hl (·.chOut), hl (·.tlc)⟩

end Sys2Proof

/-! # A write that nothing holds (O25) -/

namespace Sys2Proof
open Machine

namespace Machine

/-! ## A request that passes steps 1 to 5 at once -/

/-- The state at step 6 of a request that came through steps 1 to 5 without a wait: it holds an entry, and its LD has admitted
64 bytes more. -/
def State.taken (s : State) (r : Req) : State :=
  (s.modFab (fun f => { f with reqs := f.reqs ++ [{ r with at_ := .order }], nextRid := r.rid + 1 })).modLd r.ld
    (fun l => { l with bwUsed := l.bwUsed + 64 })

theorem State.step5_unlimited (s : State) (r : Req) (hp : r.port ≠ mboxPort)
    (hl : s.fget (Fld.SLU_LD_PCFG.BW_LIMIT r.ld) = 0) :
    s.step5 r = (s.modLd r.ld (fun l => { l with bwUsed := l.bwUsed + 64 })).step6 r := by
  simp [State.step5, hp, hl]

/-- A request with no earlier one to its page goes on to step 5 (R286). -/
theorem State.step4_first (s : State) (r : Req) (h : ∀ q ∈ s.fab.reqs, q.dpa / 4096 = r.dpa / 4096 → r.rid ≤ q.rid) :
    s.step4 r = s.step5 r := by
  have hb : s.fab.reqs.any (fun q => q.dpa / 4096 == r.dpa / 4096 && decide (q.rid < r.rid) && q.at_ != .ingress) = false :=
    List.any_eq_false.2 fun q hq => by
      by_cases e : q.dpa / 4096 = r.dpa / 4096
      · simp [Nat.not_lt.2 (h q hq e)]
      · simp [e]
  simp [State.step4, hb]

/-- An LD that serves, with no quiesce under way, lets a request pass step 3. -/
theorem State.step3_serves (s : State) (r : Req) (hp : r.port ≠ mboxPort) (hc : s.isCut = false)
    (hst : (s.ld r.ld).st = .refilling ∨ (s.ld r.ld).st = .serving) (hq : (s.ld r.ld).quiesce = none) :
    s.step3 r = s.step4 r := by
  rcases hst with h | h <;> simp [State.step3, hc, hp, h, hq]

theorem State.not_cut_of_open {s : State} (h : s.isOpen = true) : s.isCut = false := by
  revert h; unfold State.isOpen State.isCut; cases s.dev <;> decide

theorem State.not_basin_of_open {s : State} (h : s.isOpen = true) : s.basinLike = false := by
  revert h; unfold State.isOpen State.basinLike; cases s.dev <;> simp

/-- A request for which nothing waits in the sluice goes from step 2 to step 6 at once (R285 to R288). -/
theorem State.step2_passes {s : State} {port ldId hpa n a : Nat} (h : PassesAtOnce s port ldId hpa n a) {r q : Req}
    (hport : r.port = port) (hid : r.ldId = ldId) (hhpa : r.hpa = hpa / 64 * 64) (hrid : r.rid = s.fab.nextRid)
    (hq : q = { r with ld := n, dpa := a }) :
    (s.modFab (fun f => { f with reqs := f.reqs ++ [r], nextRid := r.rid + 1 })).step2 r = (s.taken q).step6 q := by
  obtain ⟨hp2, -, -, hopen, hat, hdec, hst, hquiesce, hlim, -, -, hreqs⟩ := h
  rw [← hport] at hp2
  rw [← hport, ← hid] at hat
  rw [← hhpa] at hdec
  have hp : r.port ≠ mboxPort := by unfold mboxPort; omega
  have hmap : s.fab.reqs.map (fun x => if x.rid == r.rid then { q with at_ := .order } else x) = s.fab.reqs :=
    (List.map_congr_left fun x hx => if_neg (by simpa [hrid] using (hreqs x hx).1.ne)).trans (List.map_id' _)
  generalize hs1 : s.modFab (fun f => { f with reqs := f.reqs ++ [r], nextRid := r.rid + 1 }) = s1
  have hbasin : s1.basinLike = false := by rw [← hs1]; exact State.not_basin_of_open hopen
  have hat1 : s1.ldAt r.port r.ldId = some n := by rw [← hs1]; exact hat
  have hdec1 : s1.decode n r.hpa = some a := by rw [← hs1]; exact hdec
  generalize hs2 : s1.modFab (fun f =>
    { f with reqs := f.reqs.map (fun x => if x.rid == r.rid then { q with at_ := .order } else x) }) = s2
  have h2 : s2 = s.modFab (fun f => { f with reqs := f.reqs ++ [{ q with at_ := .order }], nextRid := q.rid + 1 }) := by
    rw [← hs2, ← hs1]
    simpa [State.modFab, hq] using hmap
  have hfirst : ∀ x ∈ s2.fab.reqs, x.dpa / 4096 = q.dpa / 4096 → q.rid ≤ x.rid := by
    intro x hx hd
    rw [h2] at hx
    rcases List.mem_append.1 hx with hx | hx
    · exact absurd (by simpa [hq] using hd) (hreqs x hx).2.1
    · simp [List.mem_singleton.1 hx]
  calc s1.step2 r = s2.step3 q := by
        rw [← hs2, hq]
        simp only [State.step2, hp, if_false, hbasin, hat1, hdec1]
        rfl
    _ = s2.step4 q := State.step3_serves s2 q (by simpa [hq] using hp)
        (by rw [h2]; exact State.not_cut_of_open hopen) (by rw [h2, hq]; exact hst) (by rw [h2, hq]; exact hquiesce)
    _ = s2.step5 q := State.step4_first s2 q hfirst
    _ = (s.taken q).step6 q := by
        rw [State.step5_unlimited s2 q (by simpa [hq] using hp) (by rw [h2, hq]; exact hlim), h2]
        rfl

/-- A request that has just come holds no entry. -/
theorem State.trkFree_append_ingress (s : State) {r : Req} (hr : r.at_ = .ingress) (k p : Nat) :
    (s.modFab (fun f => { f with reqs := f.reqs ++ [r], nextRid := k })).trkFree p = s.trkFree p := by
  have hu (x) : (s.modFab (fun f => { f with reqs := f.reqs ++ [r], nextRid := k })).trkUsed x = s.trkUsed x := by
    simp [State.trkUsed, State.modFab, List.filter_append, hr]
  unfold State.trkFree
  rw [hu, hu, hu]
  rfl

/-- Such a request takes an entry and goes on in the step it arrives in. -/
theorem State.arrive_eq_step6 {s : State} {port ldId hpa n a : Nat} (h : PassesAtOnce s port ldId hpa n a) (tag : Nat)
    (kind : ReqKind) (data : Line) (mask : ByteMask) (poison : Bool) {r : Req}
    (hr : r = Req.mk s.fab.nextRid port ldId n kind (hpa / 64 * 64) a data mask poison tag .ingress false) :
    s.arrive port ldId hpa tag kind data mask poison = ((s.taken r).step6 r).countCaps.showTrk := by
  have hstep2 := State.step2_passes h (r := { r with dpa := 0 }) (q := r) (by rw [hr]) (by rw [hr]) (by rw [hr]) (by rw [hr])
    (by rw [hr])
  obtain ⟨-, -, hlink, hopen, hat, -, -, -, -, htrk, hcap, hreqs⟩ := h
  have hnone : s.fab.reqs.filter (fun r => r.port == port && r.at_ == .ingress) = [] :=
    List.filter_eq_nil_iff.2 fun q hq => by
      have := (hreqs q hq).2.2
      simp only [Bool.and_eq_true, beq_iff_eq, not_and']
      exact this
  have hslu (f) : (s.modFab f).sluiceOpen = true := by
    show s.sluiceOpen = true
    simp [State.sluiceOpen, hopen]
  rw [← hstep2, hr]
  simp [State.arrive, hnone, hlink, hat, hslu, hcap, htrk, State.trkFree_append_ingress]

/-! ## What the page and the ladder say at step 6 -/

@[simp] theorem State.taken_pages (s : State) (r : Req) : (s.taken r).pages = s.pages := rfl
@[simp] theorem State.taken_eddy (s : State) (r : Req) : (s.taken r).eddy = s.eddy := rfl
@[simp] theorem State.taken_now (s : State) (r : Req) : (s.taken r).now = s.now := rfl
@[simp] theorem State.taken_reqs (s : State) (r : Req) :
    (s.taken r).fab.reqs = s.fab.reqs ++ [{ r with at_ := .order }] := rfl
@[simp] theorem State.taken_fget (s : State) (r : Req) (f : Field) : (s.taken r).fget f = s.fget f := rfl
@[simp] theorem State.taken_ringWaits (s : State) (r : Req) (k : Nat) : (s.taken r).ringWaits k = s.ringWaits k := rfl

/-- Once it is gone the requests are those before it. -/
theorem State.taken_reqs_left {s : State} {r : Req} (h : ∀ q ∈ s.fab.reqs, q.rid < r.rid) :
    (s.taken r).fab.reqs.filter (fun q => q.rid != r.rid) = s.fab.reqs := by
  simpa [List.filter_append] using fun q hq => (h q hq).ne

/-- Of the LDs only what step 5 counts has changed. -/
theorem State.taken_ld (s : State) (r : Req) : ∃ b : Nat → Nat, ∀ m, (s.taken r).ld m = { s.ld m with bwUsed := b m } := by
  refine ⟨fun m => ((s.taken r).ld m).bwUsed, fun m => ?_⟩
  by_cases h : m = r.ld
  · subst h
    simp only [State.taken, State.ld_modLd_self]
    rfl
  · simp only [State.taken, State.ld_modLd_ne _ _ h]
    rfl

@[simp] theorem State.taken_page (s : State) (r : Req) (p : Nat) : (s.taken r).page p = s.page p := by
  obtain ⟨b, hb⟩ := s.taken_ld r
  simp [State.page, State.dfltRec, State.ldOfPage, hb]

@[simp] theorem State.taken_owedPage (s : State) (r : Req) (p : Nat) : (s.taken r).owedPage p = s.owedPage p := by
  obtain ⟨b, hb⟩ := s.taken_ld r
  simp [State.owedPage, State.oldTag, State.owedTo, hb]

@[simp] theorem State.taken_raises (s : State) (r : Req) (p : Nat) : (s.taken r).raises p = s.raises p := by
  simp [State.raises, State.cls]

@[simp] theorem State.taken_allow (s : State) (r : Req) (n : Nat) : (s.taken r).allow n = s.allow n := by
  obtain ⟨b, hb⟩ := s.taken_ld r
  have hg : (s.taken r).gshare = s.gshare := rfl
  have hborrow : (s.taken r).borrowed = s.borrowed := funext fun m => by simp [State.borrowed, hb, hg]
  have hshare : (s.taken r).shareLds = s.shareLds := by simp [State.shareLds, State.bound, State.cls, hb]
  simp [State.allow, State.poolFree, State.pool, State.weirW, State.on, hg, hborrow, hshare]

@[simp] theorem State.taken_mustHold (s : State) (r : Req) (n k : Nat) (p : Option Nat) :
    (s.taken r).mustHold n k p = s.mustHold n k p := by
  obtain ⟨b, hb⟩ := s.taken_ld r
  have hraising : (s.taken r).raising n p = s.raising n p := by
    simp [State.raising, State.cls, List.filter_append]
  unfold State.mustHold State.noRoom
  rw [State.taken_allow, hraising, hb]
  rfl

/-- A request is not behind itself. -/
theorem State.taken_heldAhead (s : State) (r : Req) (n t rid : Nat) :
    (s.taken r).heldAhead n (r.dpa / 4096) t rid = s.heldAhead n (r.dpa / 4096) t rid := by
  simp [State.heldAhead]

/-- A write to a page in DRAM that the ladder lets pass is accepted, or waits for the write-merge buffer (R125, R134). -/
theorem State.step6_taken_write (s : State) (r : Req) (hk : r.kind = .write) (hat : r.at_ = .ingress)
    (hpage : (s.page (r.dpa / 4096)).st = .dirty ∨ (s.page (r.dpa / 4096)).st = .clean ∧
      s.mustHold r.ld 1 (some (r.dpa / 4096)) = false ∧ s.heldAhead r.ld (r.dpa / 4096) (s.now + 1) r.rid = false)
    (howed : s.owedPage (r.dpa / 4096) = false) : (s.taken r).step6 r = (s.taken r).step7 r := by
  have hheld : (s.taken r).held r = false := by
    rcases hpage with hd | ⟨-, hm, ha⟩
    · simp [State.held, State.raises, hd, howed]
    · have hm' := hm
      simp only [State.mustHold, Bool.or_eq_false_iff] at hm
      rw [← State.taken_mustHold s r, State.mustHold, Bool.or_eq_false_iff] at hm'
      simp [State.held, State.heldBehind, hat, State.taken_heldAhead, ha, hm'.1, hm'.2]
  have hfork : (s.taken r).needFork r = (s.taken r).step7 r := by simp [State.needFork, howed]
  rcases hpage with hd | ⟨hd, -⟩ <;> simp [State.step6, hd, hk, hheld, hfork]

/-! ## What an accepted write changes -/

theorem forUpto_succ {α : Type} (k : Nat) (f : Nat → α → α) (a : α) : forUpto (k + 1) f a = f k (forUpto k f a) := by
  simp [forUpto, List.range_succ]

/-- The bytes of a line that the mask enables are the data's, all others stay. -/
theorem State.byte_writeBytes (s : State) (a : Nat) (d : Line) (mask : ByteMask) (b : Nat) :
    (s.writeBytes a d mask).byte b =
      if a ≤ b ∧ b < a + 64 ∧ mask.getLsbD (b - a) = true then lineByte d (b - a) else s.byte b := by
  have key (k : Nat) : tabGet 0 b (forUpto k (fun i m =>
      if mask.getLsbD i then tabSet (0 : Byte) (a + i) (lineByte d i) m else m) s.dram) =
        if a ≤ b ∧ b < a + k ∧ mask.getLsbD (b - a) = true then lineByte d (b - a) else s.byte b := by
    induction k with
    | zero =>
      rw [if_neg (by omega)]
      rfl
    | succ k ih =>
      rw [forUpto_succ]
      by_cases hb : b = a + k
      · subst hb
        by_cases hm : mask.getLsbD k = true
        · simp [hm]
        · rw [if_neg hm, ih]
          simp [hm]
      · have hlt : b < a + (k + 1) ↔ b < a + k := by omega
        simp only [hlt, ← ih]
        split
        · exact tabGet_tabSet_ne _ _ _ hb _
        · rfl
  exact key 64

/-- The record of an unlisted page depends on the LDs' extents and defaults only. -/
theorem State.dfltRec_modLd (s : State) (n p : Nat) (f : Ld → Ld)
    (hf : ∀ l, (f l).extBase = l.extBase ∧ (f l).extSize = l.extSize ∧ (f l).dflt = l.dflt) :
    (s.modLd n f).dfltRec p = s.dfltRec p := by
  have hld (m) : ((s.modLd n f).ld m).extBase = (s.ld m).extBase ∧ ((s.modLd n f).ld m).extSize = (s.ld m).extSize ∧
      ((s.modLd n f).ld m).dflt = (s.ld m).dflt := by
    by_cases h : m = n
    · subst h
      rw [State.ld_modLd_self]
      exact hf _
    · rw [State.ld_modLd_ne _ _ h]
      exact ⟨rfl, rfl, rfl⟩
  simp [State.dfltRec, State.ldOfPage, hld]

theorem State.page_setPage_self (s : State) (p : Nat) (r : PageRec) : (s.setPage p r).page p = r := by
  unfold State.setPage; extract_lets old s1
  have h1 : s1.page p = r := tabGet_tabSet_self _ _ _ _
  split
  · exact h1
  · have hd := s1.dfltRec_modLd r.ld p (fun l => { l with owed := l.owed + s.owedOf r - s.owedOf old }) fun _ =>
      ⟨rfl, rfl, rfl⟩
    unfold State.page
    rw [hd]
    exact h1

theorem State.enterWmb_eq (s : State) (line port : Nat) (ap : Bool) :
    s.enterWmb line port ap = { s with chans := (s.enterWmb line port ap).chans } := by
  unfold State.enterWmb; split <;> rfl

theorem State.chan_modChan_self (s : State) (c : Nat) (f : Chan → Chan) : (s.modChan c f).chan c = f (s.chan c) := by
  simp [State.modChan, State.chan]

theorem State.inWmb_enterWmb (s : State) (line port : Nat) (ap : Bool) : (s.enterWmb line port ap).inWmb line = true := by
  unfold State.enterWmb; split
  case isTrue h => exact h
  case isFalse h =>
    show ((s.modChan (s.lineChan line) _).chan (s.lineChan line)).wmb.any _ = true
    simp [State.chan_modChan_self]

/-- The line of a write without poison: its enabled bytes enter the write-merge buffer, and a whole line loses its poison and
what a media scan found of it (R15, R247, R294). -/
def State.writeLine (s : State) (r : Req) : State :=
  let t := (s.enterWmb (r.dpa / 64) (s.reqHint r).1 (s.reqHint r).2).writeBytes (r.dpa / 64 * 64) r.data r.mask
  if r.mask == BitVec.allOnes 64 then
    (t.setPoison (r.dpa / 64) false).modFab (fun f => { f with found := setDel (r.dpa / 64) f.found })
  else t

theorem State.writeLine_eq (s : State) (r : Req) : s.writeLine r = { s with
    chans := (s.enterWmb (r.dpa / 64) (s.reqHint r).1 (s.reqHint r).2).chans
    dram := (s.writeBytes (r.dpa / 64 * 64) r.data r.mask).dram
    poison := (s.writeLine r).poison
    fab := { s.fab with
      found := if r.mask = BitVec.allOnes 64 then setDel (r.dpa / 64) s.fab.found else s.fab.found } } := by
  unfold State.writeLine
  rw [State.enterWmb_eq]
  by_cases h : r.mask = BitVec.allOnes 64
  · rw [h]
    rfl
  · have hb : (r.mask == BitVec.allOnes 64) = false := by simpa using h
    rw [if_neg h, hb]
    rfl

/-- A page in DRAM that is written is DIRTY (Table 05-3). -/
theorem State.pageWritten_dirty {s : State} {p : Nat} (h : (s.page p).st = .dirty ∨ (s.page p).st = .clean) :
    ((s.pageWritten p).page p).st = .dirty ∧ s.pageWritten p = { s with
      pages := (s.pageWritten p).pages
      lds := (s.pageWritten p).lds } := by
  rcases h with h | h
  · simp [State.pageWritten, h]
  · simp only [State.pageWritten, h, State.page_setPage_self, true_and]
    unfold State.setPage; extract_lets; split <;> rfl

/-- A write without poison, of a line of a page in DRAM. -/
theorem State.acceptWrite_eq {s : State} {r : Req} (hport : r.port ≠ mboxPort) (hp : r.poison = false)
    (hst : (s.page (r.dpa / 4096)).st = .dirty ∨ (s.page (r.dpa / 4096)).st = .clean) :
    ∃ load, s.acceptWrite r =
      (((s.writeLine r).pageWritten (r.dpa / 4096)).dropReq r.rid).emit (.ndr r.port r.tag load) := by
  have hk : s.keepLost (r.dpa / 4096) = s := by
    rcases hst with h | h <;> simp [State.keepLost, h]
  exact ⟨_, by simp only [State.acceptWrite, hk, hp, Bool.false_eq_true, if_false, State.ndr, hport]; rfl⟩

/-- Step 7 accepts a write whose line the write-merge buffer holds, or a whole line it has a place for (R247). -/
theorem State.step7_accepts {s : State} {r : Req} (hk : r.kind = .write)
    (h : s.inWmb (r.dpa / 64) = true ∨ r.mask = BitVec.allOnes 64 ∧ s.wmbRoom (r.dpa / 64) = true) :
    s.step7 r = s.acceptWrite r := by
  by_cases hin : s.inWmb (r.dpa / 64) = true
  · simp [State.step7, hk, hin]
  · obtain ⟨hmask, hroom⟩ := h.resolve_left hin
    simp [State.step7, hk, hin, hmask, hroom]

/-- What is so after the acceptance of a write `r` that is not poisoned, to a page in DRAM (R12, R15, R247). -/
structure Accepted (s : State) (r : Req) (t : State) : Prop where
  frame : t = { s with
    out := t.out, fab := t.fab, lds := t.lds, chans := t.chans, dram := t.dram, poison := t.poison, pages := t.pages }
  fab : t.fab = { s.fab with
    reqs := s.fab.reqs.filter (fun q => q.rid != r.rid)
    granted := s.fab.granted.filter (· ≠ r.rid)
    found := if r.mask = BitVec.allOnes 64 then setDel (r.dpa / 64) s.fab.found else s.fab.found }
  out : ∃ load, t.out = s.out ++ [.ndr r.port r.tag load]
  dirty : (t.page (r.dpa / 4096)).st = .dirty
  byte : ∀ b, t.byte b = if r.dpa / 64 * 64 ≤ b ∧ b < r.dpa / 64 * 64 + 64 ∧ r.mask.getLsbD (b - r.dpa / 64 * 64) = true
    then lineByte r.data (b - r.dpa / 64 * 64) else s.byte b
  inWmb : t.inWmb (r.dpa / 64) = true

theorem State.acceptWrite_accepted {s : State} {r : Req} (hport : r.port ≠ mboxPort) (hp : r.poison = false)
    (hst : (s.page (r.dpa / 4096)).st = .dirty ∨ (s.page (r.dpa / 4096)).st = .clean) : Accepted s r (s.acceptWrite r) := by
  obtain ⟨load, h⟩ := State.acceptWrite_eq hport hp hst
  obtain ⟨hdirty, hpages⟩ : (((s.writeLine r).pageWritten (r.dpa / 4096)).page (r.dpa / 4096)).st = .dirty ∧ _ :=
    State.pageWritten_dirty (by rw [State.writeLine_eq]; exact hst)
  have hin := s.inWmb_enterWmb (r.dpa / 64) (s.reqHint r).1 (s.reqHint r).2
  rw [State.enterWmb_eq] at hin
  rw [h]
  generalize (s.writeLine r).pageWritten (r.dpa / 4096) = t at hdirty hpages ⊢
  rw [State.writeLine_eq] at hpages
  exact {
    frame := by rw [hpages]; rfl
    fab := by rw [hpages]; rfl
    out := ⟨load, by rw [hpages]; rfl⟩
    dirty := hdirty
    byte := by rw [hpages]; exact s.byte_writeBytes _ _ _
    inWmb := by rw [hpages]; exact hin }

/-! ## What the shown counts change -/

/-- The second state differs from the first in registers, the collector's messages, and the LDs' checkpoints. -/
def WeirWork (s t : State) : Prop :=
  t = { s with regs := t.regs, flt := t.flt, lds := t.lds } ∧ ∀ n, t.ld n = { s.ld n with ckpts := (t.ld n).ckpts }

namespace WeirWork
variable {s t u : State}

theorem refl (s : State) : WeirWork s s := ⟨Eq.refl _, fun _ => Eq.refl _⟩

theorem trans (h : WeirWork s t) (k : WeirWork t u) : WeirWork s u :=
  ⟨by rw [k.1, h.1], fun n => by rw [k.2, h.2]⟩

theorem fset {f v} (h : WeirWork s t) : WeirWork s (t.fset f v) := h.trans ⟨Eq.refl _, fun _ => Eq.refl _⟩

theorem bump {c o n} (h : WeirWork s t) : WeirWork s (t.bump c o n) := by
  unfold State.bump; split
  · exact h.fset
  · exact h.fset.fset

theorem fault {src kind addr cl} (h : WeirWork s t) : WeirWork s (t.fault src kind addr cl) := by
  refine h.trans ⟨?_, fun n => ?_⟩
  · rw [State.fault_frame]
  · rw [State.fault_frame]
    rfl

theorem checkDeficit (h : WeirWork s t) : WeirWork s t.checkDeficit := by
  unfold State.checkDeficit; extract_lets; split
  · exact h.fset.bump.fault
  · split
    · exact h.fset.fault
    · exact h

theorem refitOverWeir {n} (h : WeirWork s t) : WeirWork s (t.refitOverWeir n) := by
  unfold State.refitOverWeir; extract_lets a; split
  · refine fset (fset (fset (fset (h.trans ⟨Eq.refl _, fun m => ?_⟩))))
    by_cases hm : m = n
    · subst hm
      rw [State.ld_modLd_self]
    · rw [State.ld_modLd_ne _ _ hm]
  · exact h

theorem showOwed (h : WeirWork s t) : WeirWork s t.showOwed :=
  fset (fset (h.trans (foldl_rel refl trans (fun u _ => (refl u).fset.fset.fset) _ _)))

theorem showWeir (h : WeirWork s t) : WeirWork s t.showWeir :=
  showOwed (h.checkDeficit.trans (foldl_rel refl trans (fun u _ => (refl u).refitOverWeir) _ _))

theorem out (h : WeirWork s t) : t.out = s.out := by rw [h.1]
theorem byte (h : WeirWork s t) (b : Nat) : t.byte b = s.byte b := by rw [h.1]; rfl

/-- Pages keep their records: none depends on an LD's checkpoints. -/
theorem page (h : WeirWork s t) (p : Nat) : t.page p = s.page p := by
  have hp : t.pages = s.pages := by rw [h.1]
  have hl (n) : (t.ld n).extBase = (s.ld n).extBase ∧ (t.ld n).extSize = (s.ld n).extSize ∧
      (t.ld n).dflt = (s.ld n).dflt := by
    rw [h.2]
    exact ⟨rfl, rfl, rfl⟩
  simp [State.page, State.dfltRec, State.ldOfPage, hp, hl]

end WeirWork

/-! What the counts of waiting requests, of entries and of owed pages show sends nothing, and changes no page and no byte. -/

theorem State.shown_out (s : State) : s.countCaps.showTrk.showWeir.out = s.out := by
  rw [(WeirWork.refl _).showWeir.out, State.countCaps_eq]
  rfl

theorem State.shown_page (s : State) (p : Nat) : s.countCaps.showTrk.showWeir.page p = s.page p := by
  rw [(WeirWork.refl _).showWeir.page, State.countCaps_eq]
  rfl

theorem State.shown_byte (s : State) (b : Nat) : s.countCaps.showTrk.showWeir.byte b = s.byte b := by
  rw [(WeirWork.refl _).showWeir.byte, State.countCaps_eq]
  rfl

end Machine

/-! ## Time that passes leaves what a request finds -/

theorem PassesAtOnce.elapse {s : State} {port ldId hpa n a : Nat} (h : PassesAtOnce s port ldId hpa n a) (dt : Nat) :
    PassesAtOnce (s.elapse dt) port ldId hpa n a := by
  rw [State.elapse_only]
  exact h

@[simp] theorem Machine.State.elapse_mustHold (s : State) (dt n k : Nat) (p : Option Nat) :
    (s.elapse dt).mustHold n k p = s.mustHold n k p := by
  rw [State.elapse_only]
  rfl

@[simp] theorem Machine.State.elapse_heldAhead (s : State) (dt n p t rid : Nat) :
    (s.elapse dt).heldAhead n p t rid = s.heldAhead n p t rid := by
  rw [State.elapse_only]
  rfl

@[simp] theorem Machine.State.elapse_owedPage (s : State) (dt p : Nat) : (s.elapse dt).owedPage p = s.owedPage p := by
  rw [State.elapse_only]
  rfl

@[simp] theorem Machine.State.elapse_inWmb (s : State) (dt line : Nat) : (s.elapse dt).inWmb line = s.inWmb line := by
  rw [State.elapse_only]
  rfl

@[simp] theorem Machine.State.elapse_wmbRoom (s : State) (dt line : Nat) : (s.elapse dt).wmbRoom line = s.wmbRoom line := by
  rw [State.elapse_only]
  rfl

@[simp] theorem Machine.State.elapse_byte (s : State) (dt b : Nat) : (s.elapse dt).byte b = s.byte b := by
  simp [State.byte]

/-! ## The write -/

/-- A write that finds its page in DRAM, the ladder open and a place for its line is accepted as it arrives. -/
theorem Machine.State.arrive_accepts {s : State} {port ldId hpa n a : Nat} (h : PassesAtOnce s port ldId hpa n a) (tag : Nat)
    (data : Line) (mask : ByteMask)
    (hpage : (s.page (a / 4096)).st = .dirty ∨ (s.page (a / 4096)).st = .clean ∧
      s.mustHold n 1 (some (a / 4096)) = false ∧ s.heldAhead n (a / 4096) (s.now + 1) s.fab.nextRid = false)
    (howed : s.owedPage (a / 4096) = false)
    (hwmb : s.inWmb (a / 64) = true ∨ mask = BitVec.allOnes 64 ∧ s.wmbRoom (a / 64) = true) {r : Req}
    (hr : r = Req.mk s.fab.nextRid port ldId n .write (hpa / 64 * 64) a data mask false tag .ingress false) :
    ∃ u, s.arrive port ldId hpa tag .write data mask false = u.countCaps.showTrk ∧ Accepted (s.taken r) r u := by
  have hport : port ≠ mboxPort := by have := h.1; unfold mboxPort; omega
  have hst : ((s.taken r).page (a / 4096)).st = .dirty ∨ ((s.taken r).page (a / 4096)).st = .clean := by
    rw [State.taken_page]
    exact hpage.imp_right And.left
  have hstep : (s.taken r).step6 r = (s.taken r).acceptWrite r :=
    (State.step6_taken_write s r (by rw [hr]) (by rw [hr]) (by rw [hr]; exact hpage) (by rw [hr]; exact howed)).trans
      (State.step7_accepts (by rw [hr]) (by rw [hr]; exact hwmb))
  refine ⟨(s.taken r).acceptWrite r, ?_, ?_⟩
  · rw [State.arrive_eq_step6 h tag .write data mask false hr, hstep]
  · exact State.acceptWrite_accepted (by rw [hr]; exact hport) (by rw [hr]) (by rw [hr] at hst ⊢; exact hst)

/-- Settles O25: the write comes to step 6 at once (`arrive_eq_step6`), the ladder and the buffer take it, and what shows the
counts afterwards changes no page and no byte. -/
theorem writeIsAcceptedAndCompleted : Obligations.WriteIsAcceptedAndCompleted := by
  unfold Obligations.WriteIsAcceptedAndCompleted
  intro s dt port ldId hpa n a tag data mask h hpage howed hwmb
  obtain ⟨u, hu, hacc⟩ := State.arrive_accepts (h.elapse dt) tag data mask (by simpa using hpage) (by simpa using howed)
    (by simpa using hwmb) rfl
  obtain ⟨load, hout⟩ := hacc.out
  obtain ⟨-, -, -, -, -, -, -, -, -, -, -, hreqs⟩ := h.elapse dt
  refine ⟨_, u, load, congrArg (fun t : State => Host.Outcome.next t.showWeir) hu, rfl, ?_, ?_, ?_, ?_, ?_, ?_, ?_⟩
  · exact u.shown_out.trans hout
  · rw [State.shown_page]
    exact hacc.dirty
  · intro i hi
    rw [State.shown_byte, hacc.byte]
    have hin : s.byte (a / 64 * 64 + i) = (s.elapse dt).byte (a / 64 * 64 + i) := (s.elapse_byte dt _).symm
    rw [hin]
    simp only [Nat.le_add_right, Nat.add_lt_add_iff_left, hi, Nat.add_sub_cancel_left, true_and]
    rfl
  · intro b hb
    have hout : ¬ (a / 64 * 64 ≤ b ∧ b < a / 64 * 64 + 64) := by omega
    rw [State.shown_byte, hacc.byte, if_neg fun hin => hout ⟨hin.1, hin.2.1⟩]
    exact State.elapse_byte s dt b
  · rw [hacc.fab, State.taken_reqs_left fun q hq => (hreqs q hq).1]
    simp [State.taken, State.modFab, State.modLd, State.setLd]
  · exact hacc.inWmb
  · exact hacc.frame

end Sys2Proof

/-! # The vendor commands about LDs (O44) -/

namespace Sys2Proof
open Machine

/-! ## What a ring that is cleared leaves (R280, R281) -/

namespace Kept
variable {L : Prop} {s t : State}

theorem disableRing {ld n : Nat} (h : Kept L s t) : Kept L s (t.disableRing ld n) := by
  unfold State.disableRing State.showHeld
  refine .fset (.rest (h.fset fun _ => ?_)) fun _ => ?_
  · simp only [fabEnd, Fld.RNG_STS.STATE]
    omega
  · simp only [fabEnd, Fld.RNG_STS.HELD]
    omega

theorem fetchMore {ld n : Nat} (h : Kept L s t) : Kept L s (t.fetchMore ld n) := by
  unfold State.fetchMore
  split
  · exact h
  · split
    · exact h.rest
    · exact h

theorem disableRings {ld : Nat} (h : Kept L s t) : Kept L s (t.disableRings ld) :=
  .fetchMore (.foldl (h.foldl fun h => h.ite h.disableRing) disableRing)

theorem ringUnbound {n i : Nat} (h : Kept L s t) : Kept L s (t.ringUnbound n i) := by
  unfold State.ringUnbound
  extract_lets k a b c d
  have ha : Kept L s a := h.disableRing
  have hb : Kept L s b := ha.ite (ha.bump (fun _ => by simp only [fabEnd, Fld.RNG_LD_CNT.DB_DROP]; omega)
    fun _ => by simp only [fabEnd, Fld.RNG_LD_CNT.DB_SAT]; omega)
  clear_value b
  have hc : Kept L s c := .fset hb.rest fun _ => by simp only [fabEnd, Fld.RNG_TAG.TAG_HIGH]; omega
  clear_value c
  refine .fset (.fset (.fset (.fset hc fun _ => ?_) fun _ => ?_) fun _ => ?_) fun _ => ?_
  · simp only [fabEnd, Fld.RNG_STS.HEAD]; omega
  · simp only [fabEnd, Fld.RNG_STS.TAIL]; omega
  · simp only [fabEnd, Fld.RNG_STS.HELD]; omega
  · simp only [fabEnd, Fld.RNG_STS.HALT_REASON]; omega

end Kept

namespace Machine

/-! ## Who is answered (R295, R296) -/

/-- A vendor command that the FM may give now runs. -/
theorem State.vendor_runs {s : State} {n : Nat} (h : FmMayChange s) (hn : n < 32) (dt : Nat) (f : State → State) :
    (s.elapse dt).vendor .fm n f = f (s.elapse dt) := by
  unfold State.vendor
  rw [State.mboxGate_ready _ _ _ _ _ (MboxReady.elapse dt h.1) (.inl rfl)]
  simp [State.vendorTurn, h.2, Nat.not_le.2 hn]

theorem State.vendorBg_runs {s : State} {n : Nat} (h : FmMayChange s) (hn : n < 32) (hbg : s.fab.bg = none) (dt : Nat)
    (f : State → State) : (s.elapse dt).vendorBg .fm n f = f (s.elapse dt) := by
  unfold State.vendorBg
  rw [State.mboxGate_ready _ _ _ _ _ (MboxReady.elapse dt h.1) (.inl rfl)]
  simp [State.vendorTurn, h.2, hbg, Nat.not_le.2 hn]

/-- Out of service it is NOT_PERMITTED; an LD number above 31 is an INVALID_FIELD. -/
theorem State.vendorTurn_refuses {s : State} {n : Nat} (h : s.isOpen = false ∨ 32 ≤ n) (f : State → State) :
    s.vendorTurn n f = s.emit (.mbox .fm 2 [if s.isOpen then 3 else 0x0B]) := by
  by_cases ho : s.isOpen = true
  · have hn : 32 ≤ n := h.resolve_left (by simp [ho])
    simp [State.vendorTurn, ho, hn, State.refuse, State.reply]
  · simp [State.vendorTurn, ho, State.refuse, State.reply]

theorem State.vendor_refuses {s : State} {n : Nat} (h : MboxReady s .fm) (hn : s.isOpen = false ∨ 32 ≤ n) (dt : Nat)
    (f : State → State) :
    (s.elapse dt).vendor .fm n f = (s.elapse dt).emit (.mbox .fm 2 [if s.isOpen then 3 else 0x0B]) := by
  unfold State.vendor
  rw [State.mboxGate_ready _ _ _ _ _ (MboxReady.elapse dt h) (.inl rfl), State.vendorTurn_refuses (by simpa using hn),
    State.elapse_isOpen]

theorem State.vendorBg_refuses {s : State} {n : Nat} (h : MboxReady s .fm) (hn : s.isOpen = false ∨ 32 ≤ n)
    (hbg : s.fab.bg = none) (dt : Nat) (f : State → State) :
    (s.elapse dt).vendorBg .fm n f = (s.elapse dt).emit (.mbox .fm 2 [if s.isOpen then 3 else 0x0B]) := by
  unfold State.vendorBg
  rw [State.mboxGate_ready _ _ _ _ _ (MboxReady.elapse dt h) (.inl rfl), State.vendorTurn_refuses (by simpa using hn)]
  simp [hbg]

/-- A background operation is Busy while another runs. -/
theorem State.vendorBg_busy {s : State} (h : MboxReady s .fm) (hbg : s.fab.bg.isSome = true) (dt n : Nat)
    (f : State → State) : (s.elapse dt).vendorBg .fm n f = (s.elapse dt).emit (.mbox .fm 6 []) := by
  unfold State.vendorBg
  rw [State.mboxGate_ready _ _ _ _ _ (MboxReady.elapse dt h) (.inl rfl)]
  simp [hbg, State.reply]

/-! ## What the registers show of a binding (R281) -/

/-- The second state differs from the first in registers, and in the copy of them that is due. -/
def ShowWork (s t : State) : Prop := t = { s with regs := t.regs, cfgDue := t.cfgDue }

namespace ShowWork
variable {s t u : State}
theorem refl (s : State) : ShowWork s s := Eq.refl s
theorem trans (h : ShowWork s t) (k : ShowWork t u) : ShowWork s u := by unfold ShowWork at *; rw [k, h]
theorem fset {f v} (h : ShowWork s t) : ShowWork s (t.fset f v) := h.trans (Eq.refl _)
theorem due {c} (h : ShowWork s t) : ShowWork s { t with cfgDue := c } := h.trans (Eq.refl _)
theorem showBound (h : ShowWork s t) : ShowWork s t.showBound := h.fset.fset
theorem bindChanged {n} (h : ShowWork s t) : ShowWork s (t.bindChanged n) :=
  h.fset.fset.fset.fset.fset.fset.due.showBound

theorem ld (h : ShowWork s t) (m : Nat) : t.ld m = s.ld m := by rw [h]; rfl
theorem pages (h : ShowWork s t) : t.pages = s.pages := by rw [h]
theorem dram (h : ShowWork s t) : t.dram = s.dram := by rw [h]
theorem fab (h : ShowWork s t) : t.fab = s.fab := by rw [h]
theorem rings (h : ShowWork s t) : t.rings = s.rings := by rw [h]

end ShowWork

theorem State.cfgDue_showBound (s : State) : s.showBound.cfgDue = s.cfgDue := rfl

theorem State.cfgDue_bindChanged (s : State) (n : Nat) : (s.bindChanged n).cfgDue.isSome = true := by
  unfold State.bindChanged
  rw [State.cfgDue_showBound]
  rfl

theorem State.fget_withCfgDue (s : State) (c : Option Nat) (f : Field) :
    State.fget { s with cfgDue := c } f = s.fget f := rfl

theorem State.fget_showBound (s : State) {f : Field} (hf : ∀ p, f.bit ≠ (Fld.FAB_PORT_STS.LDS_BOUND p).bit) :
    s.showBound.fget f = s.fget f := by
  simp only [State.showBound, List.foldl_cons, List.foldl_nil]
  rw [State.fget_fset_ne _ (hf 1), State.fget_fset_ne _ (hf 0)]

/-- SLU_LD_BIND shows the LD's place, extent and role generation. -/
theorem State.fget_bindChanged (s : State) (n : Nat) :
    (s.bindChanged n).fget (Fld.SLU_LD_BIND.PORT n) = (s.ld n).port % 2 ^ (Fld.SLU_LD_BIND.PORT n).width ∧
    (s.bindChanged n).fget (Fld.SLU_LD_BIND.LD_ID n) = (s.ld n).ldId % 2 ^ (Fld.SLU_LD_BIND.LD_ID n).width ∧
    (s.bindChanged n).fget (Fld.SLU_LD_BIND.EXT_SIZE n) = (s.ld n).extSize % 2 ^ (Fld.SLU_LD_BIND.EXT_SIZE n).width ∧
    (s.bindChanged n).fget (Fld.SLU_LD_BIND.EXT_BASE n) = (s.ld n).extBase % 2 ^ (Fld.SLU_LD_BIND.EXT_BASE n).width ∧
    (s.bindChanged n).fget (Fld.SLU_LD_BIND.GEN n) = (s.ld n).gen % 2 ^ (Fld.SLU_LD_BIND.GEN n).width ∧
    (s.bindChanged n).fget (Fld.SLU_LD_BIND.STATE n) = s.fget (Fld.SLU_LD_BIND.STATE n) := by
  unfold State.bindChanged
  generalize s.ld n = l
  refine ⟨?_, ?_, ?_, ?_, ?_, ?_⟩
  all_goals
    rw [State.fget_showBound, State.fget_withCfgDue]
    · simp (disch := (simp only [Fld.SLU_LD_BIND.PORT, Fld.SLU_LD_BIND.LD_ID, Fld.SLU_LD_BIND.EXT_SIZE,
        Fld.SLU_LD_BIND.EXT_BASE, Fld.SLU_LD_BIND.GEN, Fld.SLU_LD_BIND.STATE, Fld.RNG_LD_STS.GEN]; omega)) only
        [State.fget_fset_self, State.fget_fset_ne]
    · intro p
      simp only [Fld.SLU_LD_BIND.PORT, Fld.SLU_LD_BIND.LD_ID, Fld.SLU_LD_BIND.EXT_SIZE, Fld.SLU_LD_BIND.EXT_BASE,
        Fld.SLU_LD_BIND.GEN, Fld.SLU_LD_BIND.STATE, Fld.FAB_PORT_STS.LDS_BOUND]
      omega

/-! ## Pages and bytes of an LD (R30, R278) -/

/-- The second state differs from the first in LDs, in pages and their bytes, in the work queued for them, and in registers. -/
def LdWork (s t : State) : Prop :=
  t = { s with
    regs := t.regs, lds := t.lds, pages := t.pages, eddy := t.eddy, dram := t.dram, poison := t.poison
    cfgDue := t.cfgDue, rill := t.rill, log := t.log, rfl_ := t.rfl_ }

namespace LdWork
variable {s t u : State}

theorem refl (s : State) : LdWork s s := Eq.refl s
theorem trans (h : LdWork s t) (k : LdWork t u) : LdWork s u := by unfold LdWork at *; rw [k, h]
theorem fset {f v} (h : LdWork s t) : LdWork s (t.fset f v) := h.trans (Eq.refl _)
theorem modLd {n f} (h : LdWork s t) : LdWork s (t.modLd n f) := h.trans (Eq.refl _)
theorem setLdState {n st} (h : LdWork s t) : LdWork s (t.setLdState n st) := h.modLd.fset
theorem dieWork (h : LdWork s t) (k : DieWork t u) : LdWork s u := h.trans (by rw [LdWork, k])
theorem showWork (h : LdWork s t) (k : ShowWork t u) : LdWork s u := h.trans (by rw [LdWork, k])
theorem clearPages {n d} (h : LdWork s t) : LdWork s (t.clearPages n d) := h.trans (Eq.refl _)
theorem wipeExtent {n b} (h : LdWork s t) : LdWork s (t.wipeExtent n b) := h.trans (Eq.refl _)

end LdWork

theorem State.ld_clearPages_self (s : State) (n d : Nat) :
    (s.clearPages n d).ld n = { s.ld n with dflt := d, owed := 0, fromStart := false } :=
  State.ld_modLd_self s n fun l => { l with dflt := d, owed := 0, fromStart := false }

theorem State.ld_clearPages_ne (s : State) {n m : Nat} (d : Nat) (h : m ≠ n) : (s.clearPages n d).ld m = s.ld m :=
  State.ld_modLd_ne s (fun l => { l with dflt := d, owed := 0, fromStart := false }) h

theorem State.ld_wipeExtent_self (s : State) (n : Nat) (b : Bool) :
    (s.wipeExtent n b).ld n = { s.ld n with poisoned := b } := State.ld_modLd_self s n fun l => { l with poisoned := b }

theorem State.ld_wipeExtent_ne (s : State) {n m : Nat} (b : Bool) (h : m ≠ n) : (s.wipeExtent n b).ld m = s.ld m :=
  State.ld_modLd_ne s (fun l => { l with poisoned := b }) h

theorem State.pages_clearPages (s : State) (n d : Nat) :
    (s.clearPages n d).pages = s.pages.filter (fun e => e.2.ld ≠ n) := rfl

theorem State.pages_wipeExtent (s : State) (n : Nat) (b : Bool) : (s.wipeExtent n b).pages = s.pages := rfl

/-- A key that a filter leaves out reads as the default. -/
theorem tabGet_filter_out {α : Type} (d : α) {k : Nat} {p : Nat × α → Bool} (hk : ∀ v, p (k, v) = false)
    (m : List (Nat × α)) : tabGet d k (m.filter p) = d := by
  induction m with
  | nil => rfl
  | cons e m ih =>
    rw [List.filter_cons]
    split
    · next h =>
      have he : e.1 ≠ k := by
        rintro rfl
        simp [hk e.2] at h
      simp [tabGet_cons, he, ih]
    · exact ih

/-- No byte of the extent is left standing. -/
theorem State.byte_wipeExtent (s : State) (n : Nat) (b : Bool) {a : Nat} (hl : (s.ld n).extBase * extPages ≤ a / 4096)
    (hu : a / 4096 < ((s.ld n).extBase + (s.ld n).extSize) * extPages) : (s.wipeExtent n b).byte a = 0 :=
  tabGet_filter_out 0 (fun _ => by simp [pageBytes, hl, hu]) _

/-- Between the two states LD `n`'s pages were cleared or wiped: the other LDs stay, it keeps its place, and no register but the
count of free eddy slots changes. -/
structure Cleared (n : Nat) (s t : State) : Prop where
  work : LdWork s t
  self : t.ld n = { s.ld n with
    dflt := (t.ld n).dflt
    owed := (t.ld n).owed
    fromStart := (t.ld n).fromStart
    poisoned := (t.ld n).poisoned }
  others : ∀ m, m ≠ n → t.ld m = s.ld m
  regs : ∀ f : Field, f.bit ≠ Fld.EDDY_STS.SLOTS_FREE.bit → t.fget f = s.fget f

namespace Cleared
variable {n : Nat} {s t u : State}

theorem refl (n : Nat) (s : State) : Cleared n s s := ⟨.refl s, rfl, fun _ _ => rfl, fun _ _ => rfl⟩

theorem trans (h : Cleared n s t) (k : Cleared n t u) : Cleared n s u where
  work := h.work.trans k.work
  self := by rw [k.self, h.self]
  others m hm := (k.others m hm).trans (h.others m hm)
  regs f hf := (k.regs f hf).trans (h.regs f hf)

theorem ite {c : Prop} [Decidable c] (ht : Cleared n s t) (hu : Cleared n s u) : Cleared n s (if c then t else u) := by
  split
  · exact ht
  · exact hu

theorem dropWork (h : Cleared n s t) : Cleared n s (t.dropWork n) := by
  have k := (DieWork.refl t).dropWork (n := n)
  have hl (m : Nat) : (t.dropWork n).ld m = t.ld m := by rw [k]; rfl
  exact h.trans ⟨(LdWork.refl t).dieWork k, by rw [hl], fun m _ => hl m, fun f _ => by rw [k]; rfl⟩

theorem clearPages {d} (h : Cleared n s t) : Cleared n s (t.clearPages n d) :=
  h.trans ⟨(LdWork.refl t).clearPages, by rw [State.ld_clearPages_self], fun _ => State.ld_clearPages_ne t d,
    fun _ hf => State.fget_fset_ne _ hf _⟩

theorem wipeExtent {b} (h : Cleared n s t) : Cleared n s (t.wipeExtent n b) :=
  h.trans ⟨(LdWork.refl t).wipeExtent, by rw [State.ld_wipeExtent_self], fun _ => State.ld_wipeExtent_ne t b,
    fun _ _ => rfl⟩

theorem applyPolicy (h : Cleared n s t) : Cleared n s (t.applyPolicy n) :=
  h.clearPages.wipeExtent.ite (h.clearPages.ite h.clearPages.wipeExtent)

end Cleared

/-! ### The start policy (R30) -/

theorem State.applyPolicy_dflt (s : State) (n : Nat) : ((s.applyPolicy n).ld n).dflt =
    if s.cls n = 2 then 3 else if s.on (Fld.RFL_LD_CFG.START_POLICY n) then 2 else 0 := by
  unfold State.applyPolicy
  by_cases hc : s.cls n = 2
  · simp [hc, State.ld_wipeExtent_self, State.ld_clearPages_self]
  · by_cases hp : s.on (Fld.RFL_LD_CFG.START_POLICY n) = true <;>
      simp [hc, hp, State.ld_wipeExtent_self, State.ld_clearPages_self]

theorem State.pages_applyPolicy (s : State) (n : Nat) :
    (s.applyPolicy n).pages = s.pages.filter (fun e => e.2.ld ≠ n) := by
  unfold State.applyPolicy
  by_cases hc : s.cls n = 2
  · simp [hc, State.pages_wipeExtent, State.pages_clearPages]
  · by_cases hp : s.on (Fld.RFL_LD_CFG.START_POLICY n) = true <;>
      simp [hc, hp, State.pages_wipeExtent, State.pages_clearPages]

/-- Without the policy's poison, the extent is zeros. -/
theorem State.byte_applyPolicy {s : State} {n : Nat} (hp : s.on (Fld.RFL_LD_CFG.START_POLICY n) = false) {a : Nat}
    (hl : (s.ld n).extBase * extPages ≤ a / 4096) (hu : a / 4096 < ((s.ld n).extBase + (s.ld n).extSize) * extPages) :
    (s.applyPolicy n).byte a = 0 := by
  unfold State.applyPolicy
  by_cases hc : s.cls n = 2
  · simp [hc, State.byte_wipeExtent, State.ld_clearPages_self, hl, hu]
  · simp [hc, hp, State.byte_wipeExtent, State.ld_clearPages_self, hl, hu]

/-! ## SET_LD_EXTENT (R278) -/

/-- The extent is moved, then the start policy applied to it. -/
theorem State.setExtent_steps (s : State) (n base size : Nat) : ∃ t : State,
    s.setExtent n base size = (t.applyPolicy n).bindChanged n ∧ LdWork s t ∧ (∀ m, m ≠ n → t.ld m = s.ld m) ∧
    (∀ f : Field, f.bit ≠ Fld.EDDY_STS.SLOTS_FREE.bit → t.fget f = s.fget f) ∧
    (t.ld n).extBase = base ∧ (t.ld n).extSize = size ∧ (t.ld n).st = (s.ld n).st ∧
    (t.ld n).classLast = if (s.ld n).wasBound then (s.ld n).classLast else some (s.cls n) := by
  unfold State.setExtent
  extract_lets t c u
  have h : Cleared n s t := (Cleared.refl n s).dropWork.wipeExtent.clearPages
  have hc : c = s.cls n := h.regs _ (by simp only [Fld.SLU_LD_PCFG.CLASS, Fld.EDDY_STS.SLOTS_FREE]; omega)
  clear_value t c
  refine ⟨u, rfl, h.work.modLd, fun m hm => (State.ld_modLd_ne t _ hm).trans (h.others m hm), h.regs, ?_⟩
  rw [State.ld_modLd_self, hc, h.self]
  exact ⟨rfl, rfl, rfl, rfl⟩

theorem State.setExtent_spec {s u : State} {n base size : Nat} (hu : u = s.setExtent n base size) :
    (u.ld n).extBase = base ∧ (u.ld n).extSize = size ∧ (u.ld n).st = (s.ld n).st ∧
    (u.ld n).classLast = (if (s.ld n).wasBound then (s.ld n).classLast else some (s.cls n)) ∧
    (u.ld n).dflt = (if s.cls n = 2 then 3 else if s.on (Fld.RFL_LD_CFG.START_POLICY n) then 2 else 0) ∧
    (∀ p r, (p, r) ∈ u.pages → r.ld ≠ n) ∧
    (s.on (Fld.RFL_LD_CFG.START_POLICY n) = false →
      ∀ a, base * extPages ≤ a / 4096 → a / 4096 < (base + size) * extPages → u.byte a = 0) ∧
    (∀ m, m ≠ n → u.ld m = s.ld m) ∧ u.cfgDue.isSome = true ∧
    u.fget (Fld.SLU_LD_BIND.EXT_BASE n) = base % 2 ^ (Fld.SLU_LD_BIND.EXT_BASE n).width ∧
    u.fget (Fld.SLU_LD_BIND.EXT_SIZE n) = size % 2 ^ (Fld.SLU_LD_BIND.EXT_SIZE n).width ∧ LdWork s u := by
  obtain ⟨t, e, ht, hothers, hregs, hbase, hsize, hst, hclass⟩ := s.setExtent_steps n base size
  have hp : Cleared n t (t.applyPolicy n) := (Cleared.refl n t).applyPolicy
  have hw : ShowWork (t.applyPolicy n) u := hu.trans e ▸ (ShowWork.refl _).bindChanged
  have hcls : t.cls n = s.cls n := hregs _ (by simp only [Fld.SLU_LD_PCFG.CLASS, Fld.EDDY_STS.SLOTS_FREE]; omega)
  have hpol : t.on (Fld.RFL_LD_CFG.START_POLICY n) = s.on (Fld.RFL_LD_CFG.START_POLICY n) := by
    unfold State.on
    rw [hregs _ (by simp only [Fld.RFL_LD_CFG.START_POLICY, Fld.EDDY_STS.SLOTS_FREE]; omega)]
  obtain ⟨-, -, hES, hEB, -, -⟩ := (t.applyPolicy n).fget_bindChanged n
  have hdue := (t.applyPolicy n).cfgDue_bindChanged n
  rw [← e, ← hu] at hES hEB hdue
  refine ⟨?_, ?_, ?_, ?_, ?_, ?_, ?_, ?_, hdue, ?_, ?_, (ht.trans hp.work).showWork hw⟩
  · rw [hw.ld, hp.self, ← hbase]
  · rw [hw.ld, hp.self, ← hsize]
  · rw [hw.ld, hp.self, ← hst]
  · rw [hw.ld, hp.self, ← hclass]
  · rw [hw.ld, State.applyPolicy_dflt, hcls, hpol]
  · intro p r hr
    rw [hw.pages, State.pages_applyPolicy] at hr
    simpa using (List.mem_filter.1 hr).2
  · intro hs a hl hh
    rw [State.byte, hw.dram]
    exact State.byte_applyPolicy (hpol.trans hs) (by rwa [hbase]) (by rwa [hbase, hsize])
  · intro m hm
    rw [hw.ld, hp.others m hm, hothers m hm]
  · rw [hEB, hp.self, ← hbase]
  · rw [hES, hp.self, ← hsize]

theorem State.elapse_cls (s : State) (dt n : Nat) : (s.elapse dt).cls n = s.cls n := State.elapse_fget s dt _

theorem State.elapse_extentOk (s : State) (dt n base size : Nat) :
    (s.elapse dt).extentOk n base size = s.extentOk n base size := by rw [State.elapse_only]; rfl

theorem exec_setLdExtent {s : State} {n base size : Nat} (h : FmMayChange s) (hn : n < 32) (hb : s.bound n = false)
    (hk : (s.ld n).ckpts = []) (he : s.extentOk n base size = true) (dt : Nat) :
    exec (.setLdExtent dt .fm n base size) s =
      .next ((((s.elapse dt).setExtent n base size).settle.showWeir).emit (.mbox .fm 0 [])) := by
  show Host.Outcome.next (setLdExtent .fm n base size (s.elapse dt)) = _
  unfold setLdExtent
  rw [State.vendor_runs h hn]
  simp [hb, hk, he, State.elapse_extentOk, State.reply]

/-! ## BIND_LD (R279) -/

theorem State.clearTags_eq (s : State) (n : Nat) : s.clearTags n = { s with pages := (s.clearTags n).pages } :=
  foldl_rel (P := fun a b : State => b = { a with pages := b.pages }) (fun _ => rfl)
    (fun h k => by rw [k, h]) (fun _ _ => rfl) _ _

/-- How many pages of an LD are unfilled is read from the pages, the LD's default and its size. -/
theorem State.unfilled_congr {s t : State} {n : Nat} (hp : t.pages = s.pages) (hd : (t.ld n).dflt = (s.ld n).dflt)
    (he : (t.ld n).extSize = (s.ld n).extSize) : t.unfilled n = s.unfilled n := by
  simp only [State.unfilled, State.pagesOf, hp, hd, he]

theorem State.fget_setLdState (s : State) (n : Nat) (st : LdState) :
    (s.setLdState n st).fget (Fld.SLU_LD_BIND.STATE n) = st.code := by
  unfold State.setLdState
  rw [State.fget_fset_self]
  cases st <;> rfl

theorem State.ld_setLdState_self (s : State) (n : Nat) (st : LdState) :
    (s.setLdState n st).ld n = { s.ld n with st := st } := State.ld_modLd_self s n fun l => { l with st := st }

theorem State.ld_setLdState_ne (s : State) {n m : Nat} (st : LdState) (h : m ≠ n) : (s.setLdState n st).ld m = s.ld m :=
  State.ld_modLd_ne s (fun l => { l with st := st }) h

/-- The LD takes its place, before the state it enters is settled. -/
theorem State.bindLd_steps (s : State) (n p id : Nat) : ∃ t : State,
    s.bindLd n p id =
      ((((t.setLdState n (if 0 < t.unfilled n then .refilling else .serving)).bindChanged n).refill).checkFilled).showWeir ∧
    LdWork s t ∧ (∀ m, m ≠ n → t.ld m = s.ld m) ∧
    (t.ld n).port = p ∧ (t.ld n).ldId = id ∧ (t.ld n).cutSeq = 0 ∧ (t.ld n).decs = [] ∧
    (t.ld n).bindGen = s.spill.usedGen ∧ (t.ld n).ckpts = (s.ld n).ckpts ∧ (t.ld n).cuts = (s.ld n).cuts ∧
    (t.ld n).reach = s.on (Fld.FAB_PORT_STS.LINK_UP p) := by
  unfold State.bindLd
  extract_lets t c g up u v
  have h : Cleared n s t := (Cleared.refl n s).ite (Cleared.refl n s).dropWork.applyPolicy
  have hg : g = s.spill.usedGen := by
    change t.spill.usedGen = _
    rw [h.work]
  have hup : up = s.on (Fld.FAB_PORT_STS.LINK_UP p) := by
    have := h.regs (Fld.FAB_PORT_STS.LINK_UP p) (by simp only [Fld.FAB_PORT_STS.LINK_UP, Fld.EDDY_STS.SLOTS_FREE]; omega)
    simp only [up, State.on, this]
  clear_value t c g up
  have hv (m : Nat) : v.ld m = u.ld m := by
    rw [show v = _ from State.clearTags_eq u n]
    rfl
  have hvw : LdWork u v := (LdWork.refl u).trans (by rw [LdWork, show v = _ from State.clearTags_eq u n])
  clear_value v
  refine ⟨v, rfl, h.work.modLd.trans hvw, ?_, ?_⟩
  · intro m hm
    rw [hv, ← h.others m hm]
    exact State.ld_modLd_ne t _ hm
  · rw [hv, show u.ld n = _ from State.ld_modLd_self t n _, hg, hup, h.self]
    exact ⟨rfl, rfl, rfl, rfl, rfl, rfl, rfl, rfl⟩

theorem State.bindLd_spec (s : State) {n p id : Nat} (hp : p < 2) (hid : id < 16) : ∃ u : State,
    s.bindLd n p id = ((u.refill).checkFilled).showWeir ∧
    (u.ld n).port = p ∧ (u.ld n).ldId = id ∧ (u.ld n).cutSeq = 0 ∧ (u.ld n).decs = [] ∧
    (u.ld n).bindGen = s.spill.usedGen ∧ (u.ld n).ckpts = (s.ld n).ckpts ∧ (u.ld n).cuts = (s.ld n).cuts ∧
    (u.ld n).reach = s.on (Fld.FAB_PORT_STS.LINK_UP p) ∧
    (u.ld n).st = (if 0 < u.unfilled n then .refilling else .serving) ∧
    u.fget (Fld.SLU_LD_BIND.PORT n) = p ∧ u.fget (Fld.SLU_LD_BIND.LD_ID n) = id ∧
    u.fget (Fld.SLU_LD_BIND.STATE n) = (u.ld n).st.code ∧ (∀ m, m ≠ n → u.ld m = s.ld m) ∧ LdWork s u := by
  obtain ⟨t, e, hw, hothers, hport, hid', hcut, hdecs, hgen, hckpts, hcuts, hreach⟩ := s.bindLd_steps n p id
  generalize hst : (if 0 < t.unfilled n then LdState.refilling else .serving) = st at e
  have hb : ShowWork (t.setLdState n st) ((t.setLdState n st).bindChanged n) := (ShowWork.refl _).bindChanged
  obtain ⟨hPORT, hID, -, -, -, hSTATE⟩ := (t.setLdState n st).fget_bindChanged n
  rw [State.fget_setLdState] at hSTATE
  rw [State.ld_setLdState_self] at hPORT hID
  generalize (t.setLdState n st).bindChanged n = u at e hb hPORT hID hSTATE
  have hld : u.ld n = { t.ld n with st := st } := by rw [hb.ld, State.ld_setLdState_self]
  have hun : u.unfilled n = t.unfilled n := State.unfilled_congr hb.pages (by rw [hld]) (by rw [hld])
  refine ⟨u, e, ?_⟩
  rw [hld, hun, hst]
  refine ⟨hport, hid', hcut, hdecs, hgen, hckpts, hcuts, hreach, rfl, ?_, ?_, hSTATE, ?_, hw.setLdState.showWork hb⟩
  · rw [hPORT, hport]
    exact Nat.mod_eq_of_lt hp
  · rw [hID, hid']
    exact Nat.mod_eq_of_lt hid
  · intro m hm
    rw [hb.ld, State.ld_setLdState_ne _ _ hm, hothers m hm]

/-- A place that can take an LD has a port and an LD-ID of the device. -/
theorem State.placeCheck_zero {s : State} {n p id : Nat} (h : s.placeCheck n p id = 0) : p < 2 ∧ id < 16 := by
  unfold State.placeCheck at h
  by_cases hc : (decide (2 ≤ p) || decide (16 ≤ id)) = true
  · simp [hc] at h
  · simpa using hc

theorem State.elapse_placeCheck (s : State) (dt n p id : Nat) :
    (s.elapse dt).placeCheck n p id = s.placeCheck n p id := by rw [State.elapse_only]; rfl

theorem exec_bindLd {s : State} {n p id : Nat} (h : FmMayChange s) (hn : n < 32) (hb : s.bound n = false)
    (he : (s.ld n).extSize ≠ 0) (hp : s.placeCheck n p id = 0) (dt : Nat) :
    exec (.bindLd dt .fm n p id) s = .next (((s.elapse dt).bindLd n p id).emit (.mbox .fm 0 [])) := by
  show Host.Outcome.next (bindLd .fm n p id (s.elapse dt)) = _
  unfold bindLd
  rw [State.vendor_runs h hn]
  simp [hb, he, hp, State.elapse_placeCheck, State.reply]

/-! ## What a discard of requests leaves (R280, R281) -/

theorem State.fab_bump (s : State) (c o : Field) (n : Nat) : (s.bump c o n).fab = s.fab := by
  unfold State.bump
  split <;> rfl

/-- No request that is discarded is left: only requests of LDs that some other request was of. -/
theorem State.reqs_discard {s : State} {which : Req → Bool} {r : Req} (hr : r ∈ (s.discard which).fab.reqs) :
    ∃ q ∈ s.fab.reqs, which q = false ∧ q.ld = r.ld := by
  unfold State.discard at hr
  extract_lets gone ids s1 keep cut s2 s3 at hr
  have hfab : s1.fab = s.fab := by
    refine foldl_rel (P := fun a b : State => b.fab = a.fab) (fun _ => rfl) (fun h k => k.trans h) ?_ _ _
    intro t q
    extract_lets t1
    have h1 : t1.fab = t.fab := by
      simp only [t1, apply_ite State.fab, State.fab_bump]
      simp [State.emit]
    split
    · exact h1
    · exact h1
  have h3 : s3.fab.reqs = s.fab.reqs.filter fun r => !ids.contains r.rid := by
    rw [← hfab]
    rfl
  obtain ⟨q, hq, e⟩ := ((Kept.refl True s3).foldl (l := (gone.map fun r => r.dpa / 4096).dedup) Kept.wakePage).reqs r hr
  rw [h3] at hq
  obtain ⟨hq, hid⟩ := List.mem_filter.1 hq
  refine ⟨q, hq, ?_, e⟩
  by_contra hw
  have : q.rid ∈ ids := List.mem_map.2 ⟨q, List.mem_filter.2 ⟨hq, by simpa using hw⟩, rfl⟩
  simp [this] at hid

/-- Where nothing is to be discarded, the pages, their bytes and the sluice stay. -/
theorem State.discard_none {s : State} {which : Req → Bool} (h : ∀ r ∈ s.fab.reqs, which r = false) :
    (s.discard which).pages = s.pages ∧ (s.discard which).dram = s.dram ∧ (s.discard which).fab = s.fab := by
  have hg : s.fab.reqs.filter which = [] := List.filter_eq_nil_iff.2 fun r hr => by simp [h r hr]
  unfold State.discard
  simp [hg, State.modFab]

/-! ## REBIND_LD (R280) -/

theorem State.rebindLd_spec (s : State) {n p id : Nat} (hp : p < 2) (hid : id < 16) : ∃ u : State,
    s.rebindLd n p id = u.settle.showWeir ∧
    (u.ld n).port = p ∧ (u.ld n).ldId = id ∧ (u.ld n).decs = [] ∧
    (u.ld n).reach = s.on (Fld.FAB_PORT_STS.LINK_UP p) ∧ (u.ld n).st = (s.ld n).st ∧
    (u.ld n).extBase = (s.ld n).extBase ∧ (u.ld n).extSize = (s.ld n).extSize ∧ (u.ld n).gen = (s.ld n).gen ∧
    (u.ld n).ckpts = (s.ld n).ckpts ∧ (∀ r ∈ u.fab.reqs, r.ld ≠ n) ∧
    ((∀ r ∈ s.fab.reqs, r.ld ≠ n) → u.pages = s.pages ∧ u.dram = s.dram ∧ u.fab = s.fab) ∧
    u.fget (Fld.SLU_LD_BIND.PORT n) = p ∧ u.fget (Fld.SLU_LD_BIND.LD_ID n) = id := by
  unfold State.rebindLd
  extract_lets t up v
  have hr : RingWork (s.discard fun r => r.ld == n) t := (RingWork.refl _).disableRings
  have hk : Kept True s t := (Kept.refl True s).discard.disableRings
  have hup : up = s.on (Fld.FAB_PORT_STS.LINK_UP p) := by
    have := hk.fabRegs trivial (Fld.FAB_PORT_STS.LINK_UP p) (by simp only [fabEnd, Fld.FAB_PORT_STS.LINK_UP]; omega)
    simp only [up, State.on, this]
  clear_value t up
  have hv : v.ld n = _ := State.ld_modLd_self t n _
  have hb : ShowWork v (v.bindChanged n) := (ShowWork.refl _).bindChanged
  have hfab : v.fab = t.fab := rfl
  have hpages : v.pages = t.pages := rfl
  have hdram : v.dram = t.dram := rfl
  clear_value v
  obtain ⟨hPORT, hID, -, -, -, -⟩ := v.fget_bindChanged n
  generalize v.bindChanged n = u at hb hPORT hID
  have hld := hb.ld n
  rw [hv, hk.lds trivial n] at hld
  refine ⟨u, rfl, ?_⟩
  rw [hld, hb.fab, hb.pages, hb.dram, hfab, hpages, hdram, hPORT, hID, hv]
  refine ⟨rfl, rfl, rfl, hup, rfl, rfl, rfl, rfl, rfl, ?_, ?_, Nat.mod_eq_of_lt hp, Nat.mod_eq_of_lt hid⟩
  · intro r hr'
    rw [show t.fab = (s.discard _).fab by rw [hr]] at hr'
    obtain ⟨q, -, hq, e⟩ := State.reqs_discard hr'
    rw [← e]
    simpa using hq
  · intro hno
    obtain ⟨h1, h2, h3⟩ := State.discard_none (which := fun r => r.ld == n) fun r hr => by simpa using hno r hr
    rw [hr]
    exact ⟨h1, h2, h3⟩

theorem exec_rebindLd {s : State} {n p id : Nat} (h : FmMayChange s) (hn : n < 32) (hb : s.bound n = true)
    (hp : s.placeCheck n p id = 0) (dt : Nat) :
    exec (.rebindLd dt .fm n p id) s = .next (((s.elapse dt).rebindLd n p id).emit (.mbox .fm 0 [])) := by
  show Host.Outcome.next (rebindLd .fm n p id (s.elapse dt)) = _
  unfold rebindLd
  rw [State.vendor_runs h hn]
  simp [hb, hp, State.elapse_placeCheck, State.reply]

/-! ## UNBIND_COMPLETE (R281, R324) -/

theorem State.ld_modLd_setLdState_self (s : State) (n : Nat) (f : Ld → Ld) (st : LdState) :
    ((s.modLd n f).setLdState n st).ld n = { f (s.ld n) with st := st } := by
  rw [State.ld_setLdState_self, State.ld_modLd_self]

/-- The second state differs from the first in registers and LDs. -/
def StateWork (s t : State) : Prop := t = { s with regs := t.regs, lds := t.lds }

namespace StateWork
variable {s t u : State}

theorem refl (s : State) : StateWork s s := Eq.refl s
theorem trans (h : StateWork s t) (k : StateWork t u) : StateWork s u := by unfold StateWork at *; rw [k, h]
theorem fset {f v} (h : StateWork s t) : StateWork s (t.fset f v) := h.trans (Eq.refl _)
theorem modLd {n f} (h : StateWork s t) : StateWork s (t.modLd n f) := h.trans (Eq.refl _)
theorem setLdState {n st} (h : StateWork s t) : StateWork s (t.setLdState n st) := h.modLd.fset

end StateWork

theorem State.ring_modRing_self (s : State) (n i : Nat) (f : Ring → Ring) : (s.modRing n i f).ring n i = f (s.ring n i) := by
  simp [State.modRing, State.ring]

theorem State.ring_modRing_ne (s : State) {n i j : Nat} (f : Ring → Ring) (h : j ≠ i) :
    (s.modRing n i f).ring n j = s.ring n j := tabGet_tabSet_ne _ _ _ (by omega) _

theorem State.ring_fset (s : State) (f : Field) (v n i : Nat) : (s.fset f v).ring n i = s.ring n i := rfl

theorem State.ring_bump (s : State) (c o : Field) (k n i : Nat) : (s.bump c o k).ring n i = s.ring n i := by
  unfold State.bump
  split
  · rfl
  · rfl

theorem State.ring_ringUnbound_self (s : State) (n i : Nat) : (s.ringUnbound n i).ring n i = Ring.new := by
  unfold State.ringUnbound
  simp only [State.ring_fset, State.ring_modRing_self]

theorem State.ring_disableRing_ne (s : State) {n i j : Nat} (h : j ≠ i) : (s.disableRing n i).ring n j = s.ring n j := by
  unfold State.disableRing State.showHeld
  simp only [State.ring_fset, State.ring_modRing_ne _ _ h]

theorem State.ring_ringUnbound_ne (s : State) {n i j : Nat} (h : j ≠ i) : (s.ringUnbound n i).ring n j = s.ring n j := by
  unfold State.ringUnbound
  simp only [State.ring_fset, State.ring_modRing_ne _ _ h]
  split
  · exact State.ring_disableRing_ne s h
  · rw [State.ring_bump, State.ring_disableRing_ne s h]

/-- The first `k` rings of an LD are cleared. -/
def State.ringsUnbound (s : State) (n k : Nat) : State := (List.range k).foldl (fun s i => s.ringUnbound n i) s

theorem State.ringsUnbound_succ (s : State) (n k : Nat) :
    s.ringsUnbound n (k + 1) = (s.ringsUnbound n k).ringUnbound n k := by
  simp [State.ringsUnbound, List.range_succ]

theorem State.ring_ringsUnbound (s : State) (n : Nat) {k i : Nat} (h : i < k) : (s.ringsUnbound n k).ring n i = Ring.new := by
  induction k with
  | zero => omega
  | succ k ih =>
    rw [State.ringsUnbound_succ]
    by_cases he : i = k
    · rw [he, State.ring_ringUnbound_self]
    · rw [State.ring_ringUnbound_ne _ he, ih (by omega)]

theorem State.ringWork_ringsUnbound (s : State) (n k : Nat) : RingWork s (s.ringsUnbound n k) :=
  (RingWork.refl s).foldl fun _ _ => (RingWork.refl _).ringUnbound

theorem State.kept_ringsUnbound {L : Prop} {s t : State} {n k : Nat} (h : Kept L s t) :
    Kept L s (t.ringsUnbound n k) := h.foldl Kept.ringUnbound

/-- An LD whose unbinding ends, before its state changes. -/
def Ld.unbindDone (l : Ld) : Ld := { l with
  gen := (l.gen + 1) % 2 ^ 32
  unbinding := false
  decs := []
  held := false
  returned := false
  restoring := false
  resetting := false }

/-- UNBIND_LD takes effect on the state that its discard and its rings leave. -/
theorem State.unbindLd_eq (s : State) (n : Nat) : s.unbindLd n =
    (((((s.discard (fun r => r.ld == n)).ringsUnbound n 256).modLd n Ld.unbindDone).setLdState n
      .unbound).bindChanged n).settle.showWeir := by
  unfold State.unbindLd State.ringsUnbound
  rfl

theorem State.unbindLd_spec (s : State) (n : Nat) : ∃ u : State, s.unbindLd n = u.settle.showWeir ∧
    (u.ld n).st = .unbound ∧ (u.ld n).gen = ((s.ld n).gen + 1) % 2 ^ 32 ∧ (u.ld n).unbinding = false ∧
    (u.ld n).decs = [] ∧ (u.ld n).ckpts = (s.ld n).ckpts ∧ (∀ k, k < 256 → u.ring n k = Ring.new) ∧
    ((∀ r ∈ s.fab.reqs, r.ld ≠ n) → u.pages = s.pages ∧ u.dram = s.dram) ∧
    u.fget (Fld.SLU_LD_BIND.GEN n) = ((s.ld n).gen + 1) % 2 ^ 32 % 2 ^ (Fld.SLU_LD_BIND.GEN n).width := by
  rw [State.unbindLd_eq]
  have hk : Kept True s ((s.discard (fun r => r.ld == n)).ringsUnbound n 256) :=
    State.kept_ringsUnbound (Kept.refl True s).discard
  have hr := State.ringWork_ringsUnbound (s.discard (fun r => r.ld == n)) n 256
  have hrings (k : Nat) (h : k < 256) := State.ring_ringsUnbound (s.discard (fun r => r.ld == n)) n h
  generalize (s.discard (fun r => r.ld == n)).ringsUnbound n 256 = b at hk hr hrings
  have hgen : (b.ld n).gen = (s.ld n).gen := by rw [hk.lds trivial n]
  have hckpts : (b.ld n).ckpts = (s.ld n).ckpts := by rw [hk.lds trivial n]
  have hd := ((StateWork.refl b).modLd (n := n) (f := Ld.unbindDone)).setLdState (n := n) (st := .unbound)
  have hld := State.ld_modLd_setLdState_self b n Ld.unbindDone .unbound
  generalize (b.modLd n Ld.unbindDone).setLdState n .unbound = d at hd hld
  have hw : ShowWork d (d.bindChanged n) := (ShowWork.refl d).bindChanged
  obtain ⟨-, -, -, -, hGEN, -⟩ := d.fget_bindChanged n
  generalize d.bindChanged n = u at hw hGEN
  refine ⟨u, rfl, ?_⟩
  rw [hGEN, hw.ld, hld, hw.pages, hw.dram, ← hgen, ← hckpts]
  refine ⟨rfl, rfl, rfl, rfl, rfl, fun k hk => ?_, fun hno => ?_, rfl⟩
  · rw [← hrings k hk, State.ring, State.ring, hw.rings, hd]
  · obtain ⟨hp, hm, -⟩ := State.discard_none (which := fun r => r.ld == n) fun r hr => by simpa using hno r hr
    rw [hd, hr]
    exact ⟨hp, hm⟩

theorem State.elapse_inFlight (s : State) (dt n : Nat) : (s.elapse dt).inFlight n = s.inFlight n := by
  rw [State.elapse_only]; rfl

theorem exec_unbindComplete {s : State} {n : Nat} (hn : n < 32) (ho : s.isOpen = true) (hu : (s.ld n).unbinding = true)
    (hp : (s.ld n).pending = []) (hw : (s.ld n).owed = 0) (hf : s.inFlight n = 0) (dt : Nat) :
    exec (.unbindComplete dt n) s =
      .next ((((s.elapse dt).unbindLd n).modFab (fun f => { f with bg := none })).emit (.mbox .fm 0 [])) := by
  show Host.Outcome.next (unbindComplete n (s.elapse dt)) = _
  unfold unbindComplete
  simp [State.unbindReady, hn, ho, hu, hp, hw, hf, State.elapse_inFlight, State.reply]

/-! ## QUIESCE_COMPLETE and RESUME_LD (R34, R192) -/

/-- An LD that enters a state with its quiesce and restore marks changed: registers but STATE stay. -/
theorem State.setLdState_regsBut (s : State) (n : Nat) (f : Ld → Ld) (st : LdState) :
    RegsBut [Fld.SLU_LD_BIND.STATE n] s ((s.modLd n f).setLdState n st) := fun g hg =>
  State.fget_fset_ne _ (by simpa using hg) _

theorem State.ld_modLd_setLdState_ne (s : State) {n m : Nat} (f : Ld → Ld) (st : LdState) (h : m ≠ n) :
    ((s.modLd n f).setLdState n st).ld m = s.ld m := by
  rw [State.ld_setLdState_ne _ _ h, State.ld_modLd_ne _ _ h]

theorem State.elapse_unfilled (s : State) (dt n : Nat) : (s.elapse dt).unfilled n = s.unfilled n := by
  rw [State.elapse_only]; rfl

theorem State.elapse_mayResume (s : State) (dt n : Nat) : (s.elapse dt).mayResume n = s.mayResume n := by
  rw [State.elapse_only]; rfl

theorem exec_quiesceComplete {s : State} {n : Nat} (hn : n < 32) (ho : s.isOpen = true)
    (hq : (s.ld n).quiesce.isSome = true) (hr : ∀ r ∈ s.fab.reqs, r.ld = n → r.pastThree = false) (dt : Nat) :
    exec (.quiesceComplete dt n) s =
      .next ((((s.elapse dt).enterQuiesced n).modFab (fun f => { f with bg := none })).emit (.mbox .fm 0 [])) := by
  have hany : s.fab.reqs.any (fun r => r.ld == n && r.pastThree) = false :=
    List.any_eq_false.2 fun r hm => by
      by_cases he : r.ld = n
      · simp [hr r hm he]
      · simp [he]
  show Host.Outcome.next (quiesceComplete n (s.elapse dt)) = _
  unfold quiesceComplete
  simp [State.quiesced, hn, ho, hq, hany, State.reply]

theorem exec_resumeLd {s : State} {n : Nat} (h : FmMayChange s) (hn : n < 32) (hr : s.mayResume n = true) (dt : Nat) :
    exec (.resumeLd dt .fm n) s = .next (((s.elapse dt).resumeLd n).emit (.mbox .fm 0 [])) := by
  show Host.Outcome.next (resumeCmd .fm n (s.elapse dt)) = _
  unfold resumeCmd
  rw [State.vendor_runs h hn]
  simp [hr, State.elapse_mayResume, State.reply]

/-! ## Background operations begin (R34, R281) -/

theorem State.ld_background (s : State) (m : Mbox) (b : BgOp) (op n : Nat) : (s.background m b op).ld n = s.ld n := rfl

theorem exec_unbindLd {s : State} {n : Nat} (h : FmMayChange s) (hn : n < 32) (hq : (s.ld n).st = .quiesced)
    (hbg : s.fab.bg = none) (dt : Nat) :
    exec (.unbindLd dt .fm n) s =
      .next ((((s.elapse dt).unbindBegin n).background .fm (.unbind n) 0xC004).settle.showWeir) := by
  show Host.Outcome.next (unbindCmd .fm n (s.elapse dt)) = _
  unfold unbindCmd
  rw [State.vendorBg_runs h hn hbg]
  simp [hq]

theorem exec_quiesceLd {s : State} {n : Nat} (h : FmMayChange s) (hn : n < 32)
    (hst : (s.ld n).st = .refilling ∨ (s.ld n).st = .serving) (hbg : s.fab.bg = none) (dt : Nat) :
    exec (.quiesceLd dt .fm n) s =
      .next (((s.elapse dt).modLd n (fun l => { l with quiesce := some (s.now + dt) })).background .fm (.quiesce n) 0xC005) := by
  show Host.Outcome.next (quiesceCmd .fm n (s.elapse dt)) = _
  unfold quiesceCmd
  rw [State.vendorBg_runs h hn hbg]
  rcases hst with hst | hst <;> simp [hst]

/-! ## REG_ACCESS (R295) -/

theorem exec_regAccess_read {s : State} (h : MboxReady s .fm) (dt width : Nat) {off : Nat} (ho : off < 2 ^ 28) (v : Word) :
    exec (.regAccess dt .fm off width false v) s =
      .next (((s.elapse dt).regRead off width).1.emit (.mbox .fm 0 [((s.elapse dt).regRead off width).2])) := by
  show Host.Outcome.next (regAccess .fm off width false v.toNat (s.elapse dt)) = _
  unfold regAccess
  rw [State.mboxGate_ready _ _ _ _ _ (MboxReady.elapse dt h) (.inl rfl), if_neg (Nat.not_le.2 ho)]
  simp [State.reply]

theorem exec_regAccess_write {s : State} (h : MboxReady s .fm) (dt width : Nat) {off : Nat} (ho : off < 2 ^ 28) (v : Word)
    (hw : s.fmWritable off = true) : exec (.regAccess dt .fm off width true v) s =
      .next (((s.elapse dt).regWrite .fm off width v.toNat).emit (.mbox .fm 0 [])) := by
  show Host.Outcome.next (regAccess .fm off width true v.toNat (s.elapse dt)) = _
  unfold regAccess
  rw [State.mboxGate_ready _ _ _ _ _ (MboxReady.elapse dt h) (.inl rfl), if_neg (Nat.not_le.2 ho)]
  simp [hw, State.reply]

/-! ## Refusals (R279, R280, R34, R295) -/

theorem exec_bindLd_bound {s : State} {n : Nat} (h : FmMayChange s) (hn : n < 32) (hb : s.bound n = true)
    (dt p id : Nat) : exec (.bindLd dt .fm n p id) s = .next ((s.elapse dt).emit (.mbox .fm 2 [0x0B])) := by
  show Host.Outcome.next (bindLd .fm n p id (s.elapse dt)) = _
  unfold bindLd
  rw [State.vendor_runs h hn]
  simp [hb, State.refuse, State.reply]

theorem exec_rebindLd_unbound {s : State} {n : Nat} (h : FmMayChange s) (hn : n < 32) (hb : s.bound n = false)
    (dt p id : Nat) : exec (.rebindLd dt .fm n p id) s = .next ((s.elapse dt).emit (.mbox .fm 2 [0x0B])) := by
  show Host.Outcome.next (rebindLd .fm n p id (s.elapse dt)) = _
  unfold rebindLd
  rw [State.vendor_runs h hn]
  simp [hb, State.refuse, State.reply]

theorem exec_resumeLd_refused {s : State} {n : Nat} (h : FmMayChange s) (hn : n < 32) (hr : s.mayResume n = false)
    (dt : Nat) : exec (.resumeLd dt .fm n) s = .next ((s.elapse dt).emit (.mbox .fm 2 [0x0B])) := by
  show Host.Outcome.next (resumeCmd .fm n (s.elapse dt)) = _
  unfold resumeCmd
  rw [State.vendor_runs h hn]
  simp [hr, State.elapse_mayResume, State.refuse, State.reply]

/-- Out of service, or for an LD number above 31, each command about an LD is turned away. -/
theorem exec_vendor_refused {s : State} {dt n p id : Nat} {c : Instr} (h : MboxReady s .fm)
    (hn : s.isOpen = false ∨ 32 ≤ n)
    (hc : c ∈ [Instr.setLdExtent dt .fm n p id, .bindLd dt .fm n p id, .rebindLd dt .fm n p id, .resumeLd dt .fm n] ∨
      (s.fab.bg = none ∧ c ∈ [Instr.quiesceLd dt .fm n, .unbindLd dt .fm n])) :
    exec c s = .next ((s.elapse dt).emit (.mbox .fm 2 [if s.isOpen then 3 else 0x0B])) := by
  simp only [List.mem_cons, List.not_mem_nil, or_false] at hc
  rcases hc with (rfl | rfl | rfl | rfl) | ⟨hbg, rfl | rfl⟩
  case inr.inl | inr.inr => exact congrArg Host.Outcome.next (State.vendorBg_refuses h hn hbg dt _)
  all_goals exact congrArg Host.Outcome.next (State.vendor_refuses h hn dt _)

theorem exec_vendorBg_busy {s : State} {dt n : Nat} {c : Instr} (h : MboxReady s .fm) (hbg : s.fab.bg.isSome = true)
    (hc : c ∈ [Instr.quiesceLd dt .fm n, .unbindLd dt .fm n]) : exec c s = .next ((s.elapse dt).emit (.mbox .fm 6 [])) := by
  simp only [List.mem_cons, List.not_mem_nil, or_false] at hc
  rcases hc with rfl | rfl
  all_goals exact congrArg Host.Outcome.next (State.vendorBg_busy h hbg dt n _)

end Machine

/-- Settles O44: for each command, what it answers (the lemmas `exec_…`) and what it does to the LD (the lemmas `…_spec`). -/
theorem vendorCommandsActOnLds : Obligations.VendorCommandsActOnLds := by
  unfold Obligations.VendorCommandsActOnLds
  refine ⟨?setLdExtent, ?bindLd, ?rebindLd, ?unbindLd, ?unbindComplete, ?quiesceLd, ?quiesceComplete, ?resumeLd, ?forbidden,
    ?refused, ?busy, ?regAccess⟩
  case setLdExtent =>
    intro s dt n base size h hn hb hk he
    have hst : (s.ld n).st = .unbound := by simpa [State.bound] using hb
    have spec := State.setExtent_spec (s := s.elapse dt) (n := n) (base := base) (size := size) rfl
    simp only [State.elapse_ld, State.elapse_on, State.elapse_cls, hst] at spec
    exact ⟨_, _, exec_setLdExtent h hn hb hk he dt, rfl, spec⟩
  case bindLd =>
    intro s dt n p id h hn hb he hp
    obtain ⟨hp2, hid⟩ := State.placeCheck_zero hp
    obtain ⟨u, hu, spec⟩ := (s.elapse dt).bindLd_spec (n := n) hp2 hid
    simp only [State.elapse_ld, State.elapse_on, State.elapse_spill] at spec
    exact ⟨_, u, exec_bindLd h hn hb he hp dt, by rw [hu], spec⟩
  case rebindLd =>
    intro s dt n p id h hn hb hp
    obtain ⟨hp2, hid⟩ := State.placeCheck_zero hp
    obtain ⟨u, hu, spec⟩ := (s.elapse dt).rebindLd_spec (n := n) hp2 hid
    simp only [State.elapse_ld, State.elapse_on, State.elapse_fab, State.elapse_pages, State.elapse_dram] at spec
    exact ⟨_, u, exec_rebindLd h hn hb hp dt, by rw [hu], spec⟩
  case unbindLd =>
    intro s dt n h hn hq hbg
    refine ⟨_, (s.elapse dt).modLd n (fun l => { l with unbinding := true }), _, exec_unbindLd h hn hq hbg dt, rfl, rfl, rfl,
      ?_, fun m hm => ?_, rfl⟩
    · rw [State.ld_modLd_self, State.elapse_ld]
    · rw [State.ld_modLd_ne _ _ hm, State.elapse_ld]
  case unbindComplete =>
    intro s dt n hn ho hu hp hw hf
    obtain ⟨u, he, spec⟩ := (s.elapse dt).unbindLd_spec n
    simp only [State.elapse_ld, State.elapse_fab, State.elapse_pages, State.elapse_dram] at spec
    exact ⟨_, u, exec_unbindComplete hn ho hu hp hw hf dt, by rw [he], spec⟩
  case quiesceLd =>
    intro s dt n h hn hst hbg
    refine ⟨_, exec_quiesceLd h hn hst hbg dt, ?_, fun m hm => ?_, ?_⟩
    · rw [State.ld_background, State.ld_modLd_self, State.elapse_ld]
    · rw [State.ld_background, State.ld_modLd_ne _ _ hm, State.elapse_ld]
    · simp only [State.background, State.modFab, State.reply, State.emit, ← State.elapse_fab s dt]
      rfl
  case quiesceComplete =>
    intro s dt n hn ho hq hr
    refine ⟨_, _, exec_quiesceComplete hn ho hq hr dt, rfl, ?_, fun m hm => ?_, State.fget_setLdState _ _ _,
      (StateWork.refl _).modLd.setLdState, fun f hf => ?_⟩
    · rw [State.ld_modLd_setLdState_self, State.elapse_ld, State.elapse_unfilled]
    · rw [State.ld_modLd_setLdState_ne _ _ _ hm, State.elapse_ld]
    · rw [State.setLdState_regsBut _ _ _ _ f hf, State.elapse_fget]
  case resumeLd =>
    intro s dt n h hn hr
    refine ⟨_, _, exec_resumeLd h hn hr dt, rfl, ?_, fun m hm => ?_, (StateWork.refl _).modLd.setLdState, fun f hf => ?_⟩
    · rw [State.ld_modLd_setLdState_self, State.elapse_ld, State.elapse_unfilled]
    · rw [State.ld_modLd_setLdState_ne _ _ _ hm, State.elapse_ld]
    · rw [State.setLdState_regsBut _ _ _ _ f hf, State.elapse_fget]
  case forbidden =>
    exact fun s dt n p id h hn => ⟨fun hb => exec_bindLd_bound h hn hb dt p id,
      fun hb => exec_rebindLd_unbound h hn hb dt p id, fun hr => exec_resumeLd_refused h hn hr dt⟩
  case refused => exact fun s dt n p id c h hn hc => exec_vendor_refused h hn hc
  case busy => exact fun s dt n c h hbg hc => exec_vendorBg_busy h hbg hc
  case regAccess =>
    exact fun s dt off width v h ho => ⟨exec_regAccess_read h dt width ho v, exec_regAccess_write h dt width ho v⟩

end Sys2Proof

/-! # The colony's operations, each said once (O6, O7, O8)

What the operations of the Thobor link change: `ColWork` names the parts of the state they may touch, `RegsBut` the register
fields, `SameLine` what a frame's way onto the line depends on. -/

namespace Sys2Proof
open Machine

/-! ## Register fields that stay -/

namespace RegsBut
variable {fs gs : List Field} {s t u : State}

theorem same (h : RegsBut fs s t) (e : u.regs = t.regs := by rfl) : RegsBut fs s u :=
  h.trans fun f _ => by simp only [State.fget, e]

theorem mono (h : RegsBut fs s t) (hs : ∀ f ∈ fs, f ∈ gs := by simp) : RegsBut gs s t :=
  fun f hf => h f fun hm => by
    obtain ⟨g, hg, e⟩ := List.mem_map.1 hm
    exact hf (List.mem_map.2 ⟨g, hs g hg, e⟩)

theorem fset {f : Field} {v : Nat} (h : RegsBut fs s t) (hf : f ∈ fs := by simp) : RegsBut fs s (t.fset f v) :=
  h.trans fun g hg => State.fget_fset_ne t (fun e => hg (e.symm ▸ List.mem_map_of_mem hf : g.bit ∈ fs.map Field.bit)) v

theorem fput {f : Field} {b : Bool} (h : RegsBut fs s t) (hf : f ∈ fs := by simp) : RegsBut fs s (t.fput f b) := h.fset hf
theorem fsat {f : Field} {v : Nat} (h : RegsBut fs s t) (hf : f ∈ fs := by simp) : RegsBut fs s (t.fsat f v) := h.fset hf

theorem ite {c : Prop} {_ : Decidable c} (ht : RegsBut fs s t) (hu : RegsBut fs s u) : RegsBut fs s (if c then t else u) := by
  split
  · exact ht
  · exact hu

theorem bump {c o : Field} {n : Nat} (h : RegsBut fs s t) (hc : c ∈ fs := by simp) (ho : o ∈ fs := by simp) :
    RegsBut fs s (t.bump c o n) := .ite (h.fset hc) ((h.fset hc).fset ho)

theorem fault {src kind addr : Nat} {cl : Bool} (h : RegsBut fs s t) (hs : ∀ f ∈ FaultRegs src, f ∈ fs := by simp [FaultRegs]) :
    RegsBut fs s (t.fault src kind addr cl) := h.trans ((State.fault_regsBut t src kind addr cl).mono hs)

theorem modCol {f : ColState → ColState} (h : RegsBut fs s t) : RegsBut fs s (t.modCol f) := h.same
theorem modPort {p : Nat} {f : Port → Port} (h : RegsBut fs s t) : RegsBut fs s (t.modPort p f) := h.same

theorem elapse {dt : Nat} : RegsBut fs s (s.elapse dt) := (RegsBut.refl fs s).same (State.elapse_regs s dt)

theorem of_elapse {dt : Nat} (h : RegsBut fs (s.elapse dt) t) : RegsBut fs s t := elapse.trans h

end RegsBut

/-! ## Parts of the state that stay -/

/-- The second state differs from the first in registers, the colony's and the collector's state, the transmitters and what has
left the device only. -/
def ColWork (s t : State) : Prop := t = { s with regs := t.regs, col := t.col, flt := t.flt, tx := t.tx, out := t.out }

namespace ColWork
variable {s t u : State}

theorem refl (s : State) : ColWork s s := Eq.refl s
theorem trans (h : ColWork s t) (k : ColWork t u) : ColWork s u := by unfold ColWork at *; rw [k, h]

theorem ite {c : Prop} {_ : Decidable c} (ht : ColWork s t) (hu : ColWork s u) : ColWork s (if c then t else u) := by
  split
  · exact ht
  · exact hu

theorem fset {f v} (h : ColWork s t) : ColWork s (t.fset f v) := h.trans (Eq.refl _)
theorem fput {f b} (h : ColWork s t) : ColWork s (t.fput f b) := h.fset
theorem bump {c o n} (h : ColWork s t) : ColWork s (t.bump c o n) := h.fset.ite h.fset.fset
theorem modCol {f} (h : ColWork s t) : ColWork s (t.modCol f) := h.trans (Eq.refl _)
theorem modPort {p f} (h : ColWork s t) : ColWork s (t.modPort p f) := h.modCol
theorem setUnit {p st} (h : ColWork s t) : ColWork s (t.setUnit p st) := h.fset.fput.fset
theorem fault {src kind addr cl} (h : ColWork s t) : ColWork s (t.fault src kind addr cl) :=
  h.trans (by unfold ColWork; rw [State.fault_frame])
theorem txOnly (h : ColWork s t) (k : TxOnly t u) : ColWork s u := h.trans (by unfold ColWork; rw [k])

theorem now (h : ColWork s t) : t.now = s.now := by rw [h]
theorem colTime (h : ColWork s t) : t.colTime = s.colTime := by rw [h]
theorem dev (h : ColWork s t) : t.dev = s.dev := by rw [h]
theorem curBeat (h : ColWork s t) : t.curBeat = s.curBeat := by simp only [State.curBeat, h.colTime]
theorem isOpen (h : ColWork s t) : t.isOpen = s.isOpen := by simp only [State.isOpen, h.dev]

theorem regsColTx (h : ColWork s t) (hf : t.flt = s.flt) :
    t = { s with regs := t.regs, col := t.col, tx := t.tx, out := t.out } := by unfold ColWork at h; rwa [hf] at h

end ColWork

/-- The second state differs from the first in registers and the colony's state only. -/
def RegsCol (s t : State) : Prop := t = { s with regs := t.regs, col := t.col }

namespace RegsCol
variable {s t u : State}

theorem refl (s : State) : RegsCol s s := Eq.refl s
theorem trans (h : RegsCol s t) (k : RegsCol t u) : RegsCol s u := by unfold RegsCol at *; rw [k, h]

theorem ite {c : Prop} {_ : Decidable c} (ht : RegsCol s t) (hu : RegsCol s u) : RegsCol s (if c then t else u) := by
  split
  · exact ht
  · exact hu

theorem fset {f v} (h : RegsCol s t) : RegsCol s (t.fset f v) := h.trans (Eq.refl _)
theorem fput {f b} (h : RegsCol s t) : RegsCol s (t.fput f b) := h.fset
theorem fsat {f v} (h : RegsCol s t) : RegsCol s (t.fsat f v) := h.fset
theorem bump {c o n} (h : RegsCol s t) : RegsCol s (t.bump c o n) := h.fset.ite h.fset.fset
theorem modCol {f} (h : RegsCol s t) : RegsCol s (t.modCol f) := h.trans (Eq.refl _)
theorem modPort {p f} (h : RegsCol s t) : RegsCol s (t.modPort p f) := h.modCol

theorem colWork (h : RegsCol s t) : ColWork s t := by unfold ColWork; rw [h]
theorem now (h : RegsCol s t) : t.now = s.now := by rw [h]
theorem colTime (h : RegsCol s t) : t.colTime = s.colTime := by rw [h]
theorem curBeat (h : RegsCol s t) : t.curBeat = s.curBeat := h.colWork.curBeat
theorem flt (h : RegsCol s t) : t.flt = s.flt := by rw [h]
theorem tx (h : RegsCol s t) : t.tx = s.tx := by rw [h]
theorem out (h : RegsCol s t) : t.out = s.out := by rw [h]

end RegsCol

namespace Machine

/-! ## Parts that single operations leave alone -/

@[simp] theorem State.fset_col (s : State) (f : Field) (v : Nat) : (s.fset f v).col = s.col := rfl
@[simp] theorem State.bump_col (s : State) (c o : Field) (n : Nat) : (s.bump c o n).col = s.col := by rw [State.bump_eq]
@[simp] theorem State.bump_flt (s : State) (c o : Field) (n : Nat) : (s.bump c o n).flt = s.flt := by rw [State.bump_eq]
@[simp] theorem State.bump_out (s : State) (c o : Field) (n : Nat) : (s.bump c o n).out = s.out := by rw [State.bump_eq]
@[simp] theorem State.fault_col (s : State) (src kind addr : Nat) (cl : Bool) : (s.fault src kind addr cl).col = s.col := by
  rw [State.fault_frame]
@[simp] theorem State.fault_tx (s : State) (src kind addr : Nat) (cl : Bool) : (s.fault src kind addr cl).tx = s.tx := by
  rw [State.fault_frame]
@[simp] theorem State.fault_out (s : State) (src kind addr : Nat) (cl : Bool) : (s.fault src kind addr cl).out = s.out := by
  rw [State.fault_frame]

/-- Of the colony's state, time that passes changes the fraction of a colony ns only (R53). -/
theorem State.elapse_col (s : State) (dt : Nat) : (s.elapse dt).col = { s.col with frac := (s.elapse dt).col.frac } := by
  have h := State.txDrain_only { s with
    now := s.now + dt
    colTime := s.colTime + (((dt : Int) * s.colRate + s.col.frac) / 128000000).toNat
    col := { s.col with frac := ((dt : Int) * s.colRate + s.col.frac) % 128000000 } }
  unfold State.elapse
  dsimp only
  rw [h]

@[simp] theorem State.elapse_window (s : State) (dt : Nat) : (s.elapse dt).col.window = s.col.window := by rw [State.elapse_col]
@[simp] theorem State.elapse_ports (s : State) (dt : Nat) : (s.elapse dt).col.ports = s.col.ports := by rw [State.elapse_col]
@[simp] theorem State.elapse_pend (s : State) (dt : Nat) : (s.elapse dt).col.pend = s.col.pend := by rw [State.elapse_col]
@[simp] theorem State.elapse_guard (s : State) (dt : Nat) : (s.elapse dt).col.guardNow = s.col.guardNow := by
  rw [State.elapse_col]
@[simp] theorem State.elapse_k (s : State) (dt : Nat) : (s.elapse dt).col.kNow = s.col.kNow := by rw [State.elapse_col]
@[simp] theorem State.elapse_reps (s : State) (dt : Nat) : (s.elapse dt).col.reps = s.col.reps := by rw [State.elapse_col]
@[simp] theorem State.elapse_fwd (s : State) (dt : Nat) : (s.elapse dt).col.fwd = s.col.fwd := by rw [State.elapse_col]
@[simp] theorem State.elapse_ownCut (s : State) (dt : Nat) : (s.elapse dt).col.ownCut = s.col.ownCut := by
  rw [State.elapse_col]
@[simp] theorem State.elapse_driveLow (s : State) (dt : Nat) : (s.elapse dt).col.driveLow = s.col.driveLow := by
  rw [State.elapse_col]
@[simp] theorem State.elapse_guardNow (s : State) (dt : Nat) : (s.elapse dt).guardNow = s.guardNow := by simp [State.guardNow]
@[simp] theorem State.elapse_kNow (s : State) (dt : Nat) : (s.elapse dt).kNow = s.kNow := by simp [State.kNow]
@[simp] theorem State.elapse_kAt (s : State) (dt b : Nat) : (s.elapse dt).kAt b = s.kAt b := by simp [State.kAt]
@[simp] theorem State.elapse_isEpoch (s : State) (dt b : Nat) : (s.elapse dt).isEpoch b = s.isEpoch b := by
  simp [State.isEpoch]

end Machine

/-! ## What the registers say of roles, ports and links -/

/-- The registers from COL_CTL to COL_PORT_STS (roles, identity, GUARD and K, the ports' states), and the state of domain 92,
read alike in both states. -/
structure SameLink (s t : State) : Prop where
  regs : ∀ f : Field, 8 * 0x190000 ≤ f.bit → f.bit < 8 * 0x190040 → t.fget f = s.fget f
  dom : t.thoborOn = s.thoborOn

/-- The field is none of those that `SameLink` speaks of. -/
abbrev OffLink (f : Field) : Prop :=
  (f.bit < 8 * 0x190000 ∨ 8 * 0x190040 ≤ f.bit) ∧ f.bit ≠ (Fld.PDM_MODE.STATE 92).bit

theorem RegsBut.sameLink {fs : List Field} {s t : State} (h : RegsBut fs s t) (hf : ∀ f ∈ fs, OffLink f) : SameLink s t where
  regs g hl hu := h g fun hm => by
    obtain ⟨f, hfm, e⟩ := List.mem_map.1 hm
    have := (hf f hfm).1
    omega
  dom := by
    unfold State.thoborOn
    rw [h _ fun hm => by
      obtain ⟨f, hfm, e⟩ := List.mem_map.1 hm
      exact (hf f hfm).2 e]

namespace SameLink
variable {s t u : State}

theorem refl (s : State) : SameLink s s := ⟨fun _ _ _ => rfl, rfl⟩

theorem of_regs (h : t.regs = s.regs) : SameLink s t :=
  ⟨fun f _ _ => by simp only [State.fget, h], by simp only [State.thoborOn, State.fget, h]⟩

theorem isStandalone (h : SameLink s t) : t.isStandalone = s.isStandalone := by
  simp only [State.isStandalone, h.regs Fld.COL_CTL.ROLE (by decide) (by decide)]
theorem isMember (h : SameLink s t) : t.isMember = s.isMember := by
  simp only [State.isMember, h.regs Fld.COL_CTL.ROLE (by decide) (by decide)]
theorem moduleId (h : SameLink s t) : t.moduleId = s.moduleId := h.regs Fld.COL_ID.MODULE_ID (by decide) (by decide)
theorem mkFrame (h : SameLink s t) (k : Nat) (b : FrameBody) : t.mkFrame k b = s.mkFrame k b := by
  simp only [State.mkFrame, h.moduleId]

theorem portRole (h : SameLink s t) {p : Nat} (hp : p < 4) : t.portRole p = s.portRole p :=
  h.regs _ (by simp only [Fld.COL_PORT_CFG.ROLE]; omega) (by simp only [Fld.COL_PORT_CFG.ROLE]; omega)
theorem portUp (h : SameLink s t) {p : Nat} (hp : p < 4) : t.portUp p = s.portUp p := by
  simp only [State.portUp, State.on]
  rw [h.regs _ (by simp only [Fld.COL_PORT_STS.LINK_UP]; omega) (by simp only [Fld.COL_PORT_STS.LINK_UP]; omega)]
theorem portIso (h : SameLink s t) {p : Nat} (hp : p < 4) : t.portIso p = s.portIso p := by
  simp only [State.portIso, State.on]
  rw [h.regs _ (by simp only [Fld.COL_PORT_STS.ISOLATED]; omega) (by simp only [Fld.COL_PORT_STS.ISOLATED]; omega)]
theorem selected (h : SameLink s t) {p : Nat} (hp : p < 4) :
    t.on (Fld.COL_PORT_STS.SELECTED p) = s.on (Fld.COL_PORT_STS.SELECTED p) := by
  simp only [State.on]
  rw [h.regs _ (by simp only [Fld.COL_PORT_STS.SELECTED]; omega) (by simp only [Fld.COL_PORT_STS.SELECTED]; omega)]
theorem canSend (h : SameLink s t) {p : Nat} (hp : p < 4) : t.canSend p = s.canSend p := by
  simp only [State.canSend, h.isStandalone, h.portRole hp, h.portUp hp, h.portIso hp, h.dom]

end SameLink

theorem mem_allPorts {p : Nat} : p ∈ allPorts ↔ p < 4 := by
  simp only [allPorts, List.mem_cons, List.not_mem_nil, or_false]
  omega

namespace SameLink
variable {s t : State}

theorem selPort (h : SameLink s t) : t.selPort = s.selPort := by
  simp only [State.selPort, allPorts, List.find?_cons, List.find?_nil, h.selected (p := 0) (by decide), h.selected (p := 1) (by decide),
    h.selected (p := 2) (by decide), h.selected (p := 3) (by decide)]
theorem plungePorts (h : SameLink s t) : t.plungePorts = s.plungePorts := by
  simp only [State.plungePorts, h.isStandalone]
  rw [List.filter_congr fun p hp => by rw [h.portRole (mem_allPorts.1 hp)]]
theorem downPorts (h : SameLink s t) : t.downPorts = s.downPorts :=
  List.filter_congr fun p hp => by rw [h.portRole (mem_allPorts.1 hp), h.canSend (mem_allPorts.1 hp)]

end SameLink

@[simp] theorem Machine.State.elapse_sameLink (s : State) (dt : Nat) : SameLink s (s.elapse dt) :=
  .of_regs (State.elapse_regs s dt)

/-! ## Frames on their way (R51) -/

/-- What a frame handed to a transmitter meets: the clocks, the transmitters and what has left are alike. -/
structure SameLine (s t : State) : Prop where
  now : t.now = s.now
  colTime : t.colTime = s.colTime
  rate : t.colRate = s.colRate
  tx : t.tx = s.tx
  out : t.out = s.out

namespace Machine

/-- A frame handed to a transmitter changes nothing but the transmitters and what has left the device. -/
theorem State.sendFrame_only (s : State) (p : Nat) (f : Frame) : TxOnly s (s.sendFrame p f) := by
  unfold State.sendFrame
  dsimp only
  split
  · exact Eq.refl _
  · exact Eq.refl _

theorem State.sendOn_only (s : State) (ps : List Nat) (f : Frame) : TxOnly s (s.sendOn ps f) :=
  .foldl _ (fun s p => s.sendFrame_only p f) ps s

end Machine

namespace Machine.TxOnly
variable {s t : State}

theorem regs (h : TxOnly s t) : t.regs = s.regs := by rw [h]
theorem col (h : TxOnly s t) : t.col = s.col := by rw [h]
theorem flt (h : TxOnly s t) : t.flt = s.flt := by rw [h]
theorem now (h : TxOnly s t) : t.now = s.now := by rw [h]
theorem colTime (h : TxOnly s t) : t.colTime = s.colTime := by rw [h]
theorem sameLink (h : TxOnly s t) : SameLink s t := .of_regs h.regs

end Machine.TxOnly

namespace SameLine
variable {s t : State}

/-- Registers and the colony's state, its clock's rate apart, play no part. -/
theorem of_regsCol (h : RegsCol s t) (ht : t.col.trim64 = s.col.trim64) (hs : t.col.slew = s.col.slew) : SameLine s t :=
  ⟨h.now, h.colTime, by simp only [State.colRate, ht, hs], h.tx, h.out⟩

theorem sendFrame (h : SameLine s t) (p : Nat) (f : Frame) : SameLine (s.sendFrame p f) (t.sendFrame p f) := by
  have hs := s.sendFrame_only p f
  have ht := t.sendFrame_only p f
  obtain ⟨hn, hc, hr, hx, ho⟩ := h
  have hp : t.txPort p = s.txPort p := by simp only [State.txPort, hx]
  refine ⟨by rw [ht.now, hs.now, hn], by rw [ht.colTime, hs.colTime, hc],
    by simp only [State.colRate, ht.col, hs.col] at hr ⊢; exact hr, ?_, ?_⟩
  all_goals
    unfold State.sendFrame
    dsimp only
    rw [hp, hn]
    split
    · simp only [State.startFrame, State.emit, State.timeAt, hp, hn, hc, hr, hx, ho]
    · simp only [hx, ho]

theorem sendOn (h : SameLine s t) (ps : List Nat) (f : Frame) : SameLine (s.sendOn ps f) (t.sendOn ps f) := by
  induction ps generalizing s t with
  | nil => exact h
  | cons p ps ih => exact ih (h.sendFrame p f)

/-- A frame sent on the way of a longer command was sent as from its beginning. -/
theorem sent (h : SameLine s t) (ps : List Nat) (f : Frame) : Sent s ps f (t.sendOn ps f) :=
  ⟨(h.sendOn ps f).tx, (h.sendOn ps f).out⟩

end SameLine

/-! ## Frames that arrive (R50, R81, R82) -/

namespace Machine

theorem State.codeErrors_regsBut (s : State) (p n : Nat) :
    RegsBut [Fld.COL_PORT_ERRA.CODE_ERR p, Fld.COL_PORT_ERRA.CODE_SAT p] s (s.codeErrors p n) :=
  .ite (.refl _ s) (.bump (.refl _ s))

theorem State.codeErrors_sameLink (s : State) (p n : Nat) : SameLink s (s.codeErrors p n) :=
  (s.codeErrors_regsBut p n).sameLink (by
    simp only [List.forall_mem_cons, OffLink, Fld.COL_PORT_ERRA.CODE_ERR, Fld.COL_PORT_ERRA.CODE_SAT, Fld.PDM_MODE.STATE]
    refine ⟨by omega, by omega, by simp⟩)

theorem State.codeErrors_eq (s : State) (p n : Nat) : s.codeErrors p n = { s with regs := (s.codeErrors p n).regs } := by
  unfold State.codeErrors
  split
  · rfl
  · exact State.bump_eq ..

end Machine

theorem Hears.elapse {s : State} {p : Nat} {f : Frame} (h : Hears s p f) (dt : Nat) : Hears (s.elapse dt) p f := by
  simpa [Hears, State.isStandalone, State.portRole, State.thoborOn, State.portIso] using h

/-- A frame that passes its checks is taken by its own rule, its code violations counted first. -/
theorem Hears.taken {s : State} {p : Nat} {f : Frame} (h : Hears s p f) (plunge : Bool) (take : State → State) :
    s.rxFrame p f true plunge take = take (s.codeErrors p f.codeErrs) := by
  obtain ⟨hp, hs, hr, ht, hc, hh, hi⟩ := h
  have hi' := (s.codeErrors_sameLink p f.codeErrs).portIso hp
  simp [State.rxFrame, hs, hr, ht, hc, hh, hi', hi]

/-- A frame that its port may not receive is malformed (R52, R81). -/
theorem Hears.refused {s : State} {p : Nat} {f : Frame} (h : Hears s p f) (plunge : Bool) (take : State → State) :
    s.rxFrame p f false plunge take = (s.codeErrors p f.codeErrs).malformed p := by
  obtain ⟨hp, hs, hr, ht, hc, hh, hi⟩ := h
  simp [State.rxFrame, hs, hr, ht, hc, hh]

end Sys2Proof

/-! # Plunges (O6) -/

namespace Sys2Proof
open Machine

/-- The fields that an announcement may change (R71). -/
@[simp] def annFields : List Field := [Fld.COL_PLUNGE_CNT.WINDOWS, Fld.COL_PLUNGE_CNT.WIN_SAT, Fld.COL_PLUNGE_INFO.MERGED,
  Fld.COL_PLUNGE_INFO.OWN_SPILL, Fld.COL_PLUNGE_CNT.LATE_CUTS, Fld.COL_PLUNGE_CNT.LATE_SAT, Fld.COL_PLUNGE_STS.OPEN,
  Fld.COL_PLUNGE_STS.LATE, Fld.COL_PLUNGE_STS.ORIGIN, Fld.COL_PLUNGE_STS.CUT_BEAT, Fld.COL_PLUNGE_INFO.CAUSE]

namespace Machine

theorem State.mergeAnn_regsBut (s : State) (t cause origin groups : Nat) (own : Bool) :
    RegsBut annFields s (s.mergeAnn t cause origin groups own) := by
  unfold State.mergeAnn
  extract_lets now wins late t' opening w0 open_ w s₁ s₂ s₃ s₄ s₅
  have h₁ : RegsBut annFields s s₁ := (RegsBut.refl _ s).same
  have h₂ : RegsBut annFields s s₂ := .ite (((h₁.bump).fset).fset) h₁
  have h₅ : RegsBut annFields s s₅ := ((RegsBut.ite h₂.fsat.bump h₂.fsat).fset).fput
  exact .ite h₅.fset.fset.fset h₅

theorem State.mergeAnn_regsCol (s : State) (t cause origin groups : Nat) (own : Bool) :
    RegsCol s (s.mergeAnn t cause origin groups own) := by
  unfold State.mergeAnn
  extract_lets now wins late t' opening w0 open_ w s₁ s₂ s₃ s₄ s₅
  have h₂ : RegsCol s s₂ := .ite (.fset (.fset (.bump (.modCol (.refl s))))) (.modCol (.refl s))
  have h₅ : RegsCol s s₅ := .fput (.fset (.ite (.bump (.fsat h₂)) (.fsat h₂)))
  exact .ite h₅.fset.fset.fset h₅


/-- The window that an announcement opens with cut beat `t` (R71). -/
def State.opened (s : State) (t groups : Nat) (own : Bool) : PlungeWin :=
  PlungeWin.mk s.colTime (if s.curBeat < t then t else s.curBeat + 1) (decide (t ≤ s.curBeat)) groups own none 0 false

theorem State.mergeAnn_opens_col (s : State) (h : s.col.window = none) (t cause origin groups : Nat) (own : Bool) :
    (s.mergeAnn t cause origin groups own).col = { s.col with window := some (s.opened t groups own) } := by
  by_cases hl : t ≤ s.curBeat <;> simp [State.mergeAnn, State.annWins, State.opened, h, hl, State.modCol, State.fput, State.satUp, State.fsat]

@[simp] theorem State.modCol_fget (s : State) (f : ColState → ColState) (g : Field) : (s.modCol f).fget g = s.fget g := rfl

/-- What the registers show of a window that opens (R71). -/
theorem State.mergeAnn_opens_shows (s : State) (h : s.col.window = none) (t cause origin groups : Nat) (own : Bool) {u : State}
    (hu : u = s.mergeAnn t cause origin groups own) :
    u.fget Fld.COL_PLUNGE_STS.OPEN = 1 ∧
    u.fget Fld.COL_PLUNGE_STS.CUT_BEAT = (s.opened t groups own).tw % 2 ^ 48 ∧
    u.fget Fld.COL_PLUNGE_STS.ORIGIN = origin % 2 ^ 14 ∧
    u.fget Fld.COL_PLUNGE_INFO.CAUSE = cause % 2 ^ 4 ∧
    u.fget Fld.COL_PLUNGE_CNT.WINDOWS = min (s.fget Fld.COL_PLUNGE_CNT.WINDOWS + 1) Fld.COL_PLUNGE_CNT.WINDOWS.max := by
  subst hu
  by_cases hl : t ≤ s.curBeat <;>
    simp (disch := decide) [State.mergeAnn, State.annWins, State.opened, h, hl, State.satUp, State.fsat, State.fput,
      State.fget_fset_ne, State.fget_bump_ne, State.fget_bump_self] 
  all_goals exact ⟨rfl, rfl, rfl⟩

theorem State.mergeAnn_sameLink (s : State) (t cause origin groups : Nat) (own : Bool) :
    SameLink s (s.mergeAnn t cause origin groups own) := (s.mergeAnn_regsBut t cause origin groups own).sameLink (by decide)


theorem State.announce_col (s : State) (cause cut groups : Nat) :
    (s.announce cause cut groups).col = { s.col with reps := s.col.reps ++ [PlungeRep.mk 0 cause cut groups] } := by
  simp only [State.announce, State.modCol, (s.sendOn_only _ _).col]

theorem State.announce_regs (s : State) (cause cut groups : Nat) : (s.announce cause cut groups).regs = s.regs :=
  (s.sendOn_only _ _).regs

theorem State.announce_colWork (s : State) (cause cut groups : Nat) : ColWork s (s.announce cause cut groups) :=
  ((ColWork.refl s).txOnly (s.sendOn_only _ _)).modCol

theorem State.announce_flt (s : State) (cause cut groups : Nat) : (s.announce cause cut groups).flt = s.flt :=
  (s.sendOn_only _ _).flt

/-- An announcement that is merged first goes out as from the state before. -/
theorem State.announce_sent {s v : State} (hl : SameLink s v) (h : SameLine s v) (cause cut groups : Nat) :
    Sent s s.plungePorts (s.mkFrame 0 (.plunge 0 cause cut (BitVec.ofNat 64 groups))) (v.announce cause cut groups) := by
  rw [← hl.plungePorts, ← hl.mkFrame]
  exact h.sent _ _

/-- Of the colony's state an announcement changes the window only. -/
theorem State.mergeAnn_col (s : State) (t cause origin groups : Nat) (own : Bool) :
    (s.mergeAnn t cause origin groups own).col =
      { s.col with window := (s.mergeAnn t cause origin groups own).col.window } := by
  simp only [State.mergeAnn, State.fput, State.satUp, State.fsat, apply_ite State.col, State.fset_col, State.bump_col, ite_self,
    State.modCol]

theorem State.mergeAnn_sameLine (s : State) (t cause origin groups : Nat) (own : Bool) :
    SameLine s (s.mergeAnn t cause origin groups own) := 
  .of_regsCol (s.mergeAnn_regsCol ..) (by rw [State.mergeAnn_col]) (by rw [State.mergeAnn_col])

end Machine

/-- From the first state, with no window open, an announcement has opened one and gone out on every port in use (R71, R73). -/
structure Announced (s u : State) (cause cut groups : Nat) (own : Bool) : Prop where
  work : ColWork s u
  flt : u.flt = s.flt
  regs : RegsBut annFields s u
  col : u.col = { s.col with
    window := some (s.opened cut groups own)
    reps := s.col.reps ++ [PlungeRep.mk 0 cause cut groups] }
  opened : u.fget Fld.COL_PLUNGE_STS.OPEN = 1
  cutBeat : u.fget Fld.COL_PLUNGE_STS.CUT_BEAT = (s.opened cut groups own).tw % 2 ^ 48
  origin : u.fget Fld.COL_PLUNGE_STS.ORIGIN = s.moduleId % 2 ^ 14
  shown : u.fget Fld.COL_PLUNGE_INFO.CAUSE = cause % 2 ^ 4
  counted : u.fget Fld.COL_PLUNGE_CNT.WINDOWS = min (s.fget Fld.COL_PLUNGE_CNT.WINDOWS + 1) Fld.COL_PLUNGE_CNT.WINDOWS.max
  sent : Sent s s.plungePorts (s.mkFrame 0 (.plunge 0 cause cut (BitVec.ofNat 64 groups))) u

namespace Machine

theorem State.announced (s : State) (h : s.col.window = none) (cause cut groups : Nat) (own : Bool) :
    Announced s ((s.mergeAnn cut cause s.moduleId groups own).announce cause cut groups) cause cut groups own := by
  obtain ⟨ho, hb, hi, hc, hn⟩ := s.mergeAnn_opens_shows h cut cause s.moduleId groups own rfl
  have hw := (s.mergeAnn_regsCol cut cause s.moduleId groups own)
  have hr := State.announce_regs (s.mergeAnn cut cause s.moduleId groups own) cause cut groups
  exact
    { work := hw.colWork.trans (State.announce_colWork ..)
      flt := (State.announce_flt ..).trans hw.flt
      regs := (s.mergeAnn_regsBut _ _ _ _ _).same hr
      col := by rw [State.announce_col, State.mergeAnn_opens_col s h]
      opened := by simpa only [State.fget, hr] using ho
      cutBeat := by simpa only [State.fget, hr] using hb
      origin := by simpa only [State.fget, hr] using hi
      shown := by simpa only [State.fget, hr] using hc
      counted := by simpa only [State.fget, hr] using hn
      sent := State.announce_sent (s.mergeAnn_sameLink ..) (s.mergeAnn_sameLine ..) cause cut groups }

/-- An event of the module's own with no window open opens one GUARD beats away (R73). -/
theorem State.ownPlunge_opens (s : State) (h : s.col.window = none) (cause : Nat) :
    Announced s (s.ownPlunge cause) cause (s.curBeat + s.guardNow) (s.fget Fld.COL_GROUP_MASK.GROUPS) true := by
  have e : s.ownPlunge cause = (s.mergeAnn (s.curBeat + s.guardNow) cause s.moduleId (s.fget Fld.COL_GROUP_MASK.GROUPS)
      true).announce cause (s.curBeat + s.guardNow) (s.fget Fld.COL_GROUP_MASK.GROUPS) := by
    simp [State.ownPlunge, State.annWins, h]
  rw [e]
  exact s.announced h ..

/-- A cut still to come is a window's T as announced (R71). -/
theorem State.opened_tw (s : State) {cut : Nat} (h : s.curBeat < cut) (groups : Nat) (own : Bool) :
    (s.opened cut groups own).tw = cut := if_pos h

theorem State.opened_late (s : State) {cut : Nat} (h : s.curBeat < cut) (groups : Nat) (own : Bool) :
    (s.opened cut groups own).late = false := decide_eq_false (by omega)

end Machine

theorem Announced.window {s u : State} {cause cut groups : Nat} {own : Bool} (a : Announced s u cause cut groups own) :
    u.col.window = some (s.opened cut groups own) := by rw [a.col]

namespace Machine

/-- The state after an announcement of cut beat `t` or later, merged into the window `w` (R71). -/
def State.joined (s : State) (w : PlungeWin) (groups : Nat) (own : Bool) : State :=
  (((s.modCol (fun c => { c with window := some { w with groups := w.groups ||| groups, own := w.own || own } })).satUp
    Fld.COL_PLUNGE_INFO.MERGED).fset Fld.COL_PLUNGE_STS.OPEN 1).fput Fld.COL_PLUNGE_STS.LATE w.late

/-- An own plunge no earlier than the open window's T is only merged (R71, R73). -/
theorem State.ownPlunge_joins {s : State} {w : PlungeWin} (h : s.col.window = some w) (hb : s.curBeat < w.tw)
    (hc : w.tw ≤ s.curBeat + s.guardNow) (cause : Nat) :
    s.ownPlunge cause = s.joined w (s.fget Fld.COL_GROUP_MASK.GROUPS) true := by
  have hn : ¬ s.curBeat + s.guardNow < w.tw := by omega
  simp [State.ownPlunge, State.mergeAnn, State.joined, State.annWins, h, hb, hn]

theorem State.joined_regsCol (s : State) (w : PlungeWin) (groups : Nat) (own : Bool) : RegsCol s (s.joined w groups own) :=
  (RegsCol.refl s).modCol.fsat.fset.fput

theorem State.joined_merged (s : State) (w : PlungeWin) (groups : Nat) (own : Bool) :
    (s.joined w groups own).fget Fld.COL_PLUNGE_INFO.MERGED = min (s.fget Fld.COL_PLUNGE_INFO.MERGED + 1) 255 := by
  simp (disch := decide) only [State.joined, State.fput, State.satUp, State.fsat, State.fget_fset_ne, State.fget_fset_self,
    State.modCol_fget]
  exact Nat.mod_eq_of_lt (Nat.lt_of_le_of_lt (Nat.min_le_right _ _) (by decide))

end Machine

/-- FM_CHECKPOINT on a device that is on is an own plunge of cause 2 (R74, Table 03-10). -/
theorem exec_fmCheckpoint {s : State} (hw : s.fmWritable 0x1900A0 = true) (dt : Nat) :
    exec (.fmCheckpoint dt) s = .next ((s.elapse dt).ownPlunge 2) := by
  have hd : s.dev ≠ .off := by
    intro h
    simp [State.fmWritable, h] at hw
  change execFmCheckpoint dt s = _
  simp [execFmCheckpoint, State.viaReg, fmCheckpoint, hw, hd]

end Sys2Proof

/-! # Power domains as other units wake them (R400, R403) -/

namespace Sys2Proof
open Machine

/-- The field lies outside the block of the power domains, or is PDM_CTL, PDM_WAKE_MASK or PDM_WAKE_STS. -/
def PdmApart (f : Field) : Prop := f.bit < 8 * 0x1C0000 ∨ (8 * 0x1C0180 ≤ f.bit ∧ f.bit < 8 * 0x1C0484)

/-- The second state differs from the first in registers and the power domains only. -/
def DomWork (s t : State) : Prop := t = { s with regs := t.regs, doms := t.doms }

theorem DomWork.trans {s t u : State} (h : DomWork s t) (k : DomWork t u) : DomWork s u := by unfold DomWork at *; rw [k, h]

/-- The second state differs from the first in the power domains and the registers that speak of them only. -/
structure PdmWork (s t : State) : Prop where
  frame : DomWork s t
  regs : ∀ f : Field, PdmApart f → t.fget f = s.fget f

namespace PdmWork
variable {s t u : State}

theorem refl (s : State) : PdmWork s s := ⟨rfl, fun _ _ => rfl⟩
theorem trans (h : PdmWork s t) (k : PdmWork t u) : PdmWork s u :=
  ⟨h.frame.trans k.frame, fun f hf => (k.regs f hf).trans (h.regs f hf)⟩

theorem ite {c : Prop} {_ : Decidable c} (ht : PdmWork s t) (hu : PdmWork s u) : PdmWork s (if c then t else u) := by
  split
  · exact ht
  · exact hu

theorem foldl {α : Type} {l : List α} {f : State → α → State} (h : PdmWork s t) (hf : ∀ a ∈ l, ∀ t, PdmWork t (f t a)) :
    PdmWork s (l.foldl f t) := by
  induction l generalizing t with
  | nil => exact h
  | cons a l ih => exact ih (h.trans (hf a (by simp) t)) fun b hb => hf b (by simp [hb])

theorem fset {f v} (h : PdmWork s t) (hf : ¬ PdmApart f) : PdmWork s (t.fset f v) :=
  h.trans ⟨rfl, fun _ hg => State.fget_fset_ne t (fun e => hf (by unfold PdmApart at *; rwa [e] at hg)) v⟩

theorem bump {c o n} (h : PdmWork s t) (hc : ¬ PdmApart c) (ho : ¬ PdmApart o) : PdmWork s (t.bump c o n) :=
  .ite (h.fset hc) ((h.fset hc).fset ho)

theorem modDom {d f} (h : PdmWork s t) : PdmWork s (t.modDom d f) := h.trans ⟨rfl, fun _ _ => rfl⟩

section Domain
variable {d : Nat} (hd : d < 96)
include hd

theorem clearPend (h : PdmWork s t) : PdmWork s (t.clearPend d) :=
  h.modDom.fset (by simp only [PdmApart, Fld.PDM_MODE.PENDING]; omega)

theorem wakeDom (h : PdmWork s t) : PdmWork s (t.wakeDom d) :=
  .ite h (h.modDom.fset (by simp only [PdmApart, Fld.PDM_MODE.STATE]; omega))

theorem pdmReport {cls mode reason : Nat} {refused : Bool} (h : PdmWork s t) :
    PdmWork s (t.pdmReport d cls mode reason refused) := by
  have h₁ : PdmWork s (((t.fset (Fld.PDM_MODE.LAST_UNIT d) (gateUnit d)).fset (Fld.PDM_MODE.LAST_REASON d) reason).fset
      (Fld.PDM_MODE.LAST_CLASS d) cls) :=
    ((h.fset (by simp only [PdmApart, Fld.PDM_MODE.LAST_UNIT]; omega)).fset
      (by simp only [PdmApart, Fld.PDM_MODE.LAST_REASON]; omega)).fset
      (by simp only [PdmApart, Fld.PDM_MODE.LAST_CLASS]; omega)
  refine .ite ?_ h₁
  exact (((((PdmWork.ite
    (h₁.bump (by simp only [PdmApart, Fld.PDM_REQ_CNT.REFUSALS]; omega)
      (by simp only [PdmApart, Fld.PDM_REQ_CNT.RF_SAT]; omega))
    (h₁.bump (by simp only [PdmApart, Fld.PDM_REQ_CNT.ABORTS]; omega)
      (by simp only [PdmApart, Fld.PDM_REQ_CNT.AB_SAT]; omega))).fset (by simp only [PdmApart, Fld.PDM_REQ_LAST.DOMAIN]; omega)).fset
    (by simp only [PdmApart, Fld.PDM_REQ_LAST.UNIT]; omega)).fset
    (by simp only [PdmApart, Fld.PDM_REQ_LAST.REASON]; omega)).fset
    (by simp only [PdmApart, Fld.PDM_REQ_LAST.MODE]; omega)).fset
    (by simp only [PdmApart, Fld.PDM_REQ_LAST.BEAT]; omega)

theorem pdmAbort {reason : Nat} (h : PdmWork s t) : PdmWork s (t.pdmAbort d reason) := by
  unfold State.pdmAbort
  split
  · exact (h.clearPend hd).pdmReport hd
  · exact h

theorem wakeOne {w : Nat} (h : PdmWork s t) : PdmWork s (t.wakeOne w d) := by
  refine .ite (.ite h.modDom (.ite (h.bump ?_ ?_) (h.bump ?_ ?_))) (.ite ((h.pdmAbort hd).wakeDom hd) (h.pdmAbort hd))
  all_goals
    simp only [PdmApart, Fld.PDM_WAKE_CNT.LOST_TWO_WIRE, Fld.PDM_WAKE_CNT.TW_SAT, Fld.PDM_WAKE_CNT.LOST_THOBOR,
      Fld.PDM_WAKE_CNT.TH_SAT]
    omega

end Domain

/-- A source that wakes domains changes, of what `PdmWork` keeps, LATCHED and LEVEL of PDM_WAKE_STS (R403). -/
theorem wakes {w : Nat} (h : PdmWork s t) :
    PdmWork s (((List.range 96).filter (fun d => t.wakes w d)).foldl (fun s d => s.wakeOne w d) t) :=
  h.foldl fun _ hd t => (refl t).wakeOne (List.mem_range.1 (List.mem_filter.1 hd).1)

end PdmWork

/-- A wake source changes power domains and the registers that speak of them only (R403). -/
theorem wakeSource_domWork (w : Nat) (s : State) : DomWork s (wakeSource w s) := by
  unfold wakeSource
  extract_lets s₁ s₂
  have h₂ : DomWork s s₂ := by
    unfold s₂
    split <;> exact Eq.refl _
  split
  · exact Eq.refl _
  · split
    · exact h₂
    · exact h₂.trans ((PdmWork.refl s₂).wakes).frame

theorem wakeSource_regs (w : Nat) (s : State) {f : Field} (hf : PdmApart f) (hl : f.bit ≠ Fld.PDM_WAKE_STS.LATCHED.bit)
    (hv : f.bit ≠ Fld.PDM_WAKE_STS.LEVEL.bit) : (wakeSource w s).fget f = s.fget f := by
  unfold wakeSource
  extract_lets s₁ s₂
  have h₁ : s₁.fget f = s.fget f := State.fget_fset_ne s hl _
  have h₂ : s₂.fget f = s.fget f := by
    unfold s₂
    split
    · rw [State.fget_fset_ne _ hv, h₁]
    · exact h₁
  split
  · rfl
  · split
    · exact h₂
    · rw [((PdmWork.refl s₂).wakes (w := w)).regs f hf, h₂]

end Sys2Proof

/-! # Frames that are handed to a transmitter (R51) -/

namespace Sys2Proof
open Machine

/-! ## What a frame of the module's own reads as (R49) -/

theorem Frame.word_zero_ofWords (w : Nat) (ws : List Nat) : (Frame.ofWords (w :: ws)).word 0 = w % 2 ^ 32 := by
  simp [Frame.ofWords, Frame.word]

/-- The TYPE of a header whose fields lie within their widths (Table 03-3). -/
theorem typeBits {t c l : Nat} (ht : t < 16) (hc : c < 4) (hl : l < 16) (h o : Nat) :
    bitsAt ((t * 2 ^ 28 + c * 2 ^ 26 + l * 2 ^ 22 + h % 16 * 2 ^ 18 + o % 2 ^ 14) % 2 ^ 32) 28 4 = t := by
  simp only [bitsAt]
  omega

/-- A frame reads as of the TYPE of the body it was made from (Table 03-4). -/
theorem FrameBody.type_frame (b : FrameBody) (hops origin : Nat) : (b.frame hops origin).type = b.type := by
  have hb : b.type < 8 := by cases b <;> simp only [FrameBody.type] <;> decide
  have hf : ∀ t < 8, ((typeForm t).getD (0, 0)).1 < 4 ∧ ((typeForm t).getD (0, 0)).2 < 16 := by decide
  rw [FrameBody.frame, Frame.type, Frame.word_zero_ofWords]
  exact typeBits (by omega) (hf _ hb).1 (hf _ hb).2 hops origin

/-- A frame of another TYPE than BEACON starts as it was handed over (Table 03-5). -/
theorem Frame.stamped_of_type {f : Frame} (h : f.type ≠ 1) (t : Nat) : f.stamped t = f := by
  unfold Frame.stamped
  split
  · next a b c d e hf =>
    unfold Frame.body at hf
    split at hf <;> simp_all
  · rfl

namespace Machine

theorem State.txPort_startFrame (s : State) (p q : Nat) (f : Frame) (at_ : Nat) (rest : List Frame) :
    (s.startFrame p f at_ rest).txPort q =
      if q = p then (s.txPort p).start f at_ (s.timeAt at_) rest else s.txPort q := by
  split
  · next h => subst h; simp [State.startFrame, State.txPort, State.emit]
  · next h => simp [State.startFrame, State.txPort, State.emit, tabGet_tabSet_ne _ _ _ h]

theorem State.out_startFrame (s : State) (p : Nat) (f : Frame) (at_ : Nat) (rest : List Frame) :
    (s.startFrame p f at_ rest).out = s.out ++ [.frame p (f.stamped (s.timeAt at_))] := rfl

/-- On a free line with nothing waiting a frame starts at once (R51). -/
theorem State.sendFrame_starts {s : State} {p : Nat} (hw : (s.txPort p).wait = []) (hf : (s.txPort p).freeAt ≤ s.now)
    (f : Frame) : s.sendFrame p f = s.startFrame p f s.now [] := by
  simp [State.sendFrame, hw, hf]

/-- Elsewhere it waits its turn (R51). -/
theorem State.sendFrame_waits {s : State} {p : Nat} (h : ¬ ((s.txPort p).wait = [] ∧ (s.txPort p).freeAt ≤ s.now))
    (f : Frame) : s.sendFrame p f =
      { s with tx := tabSet TxPort.new p { s.txPort p with wait := (s.txPort p).wait ++ [f] } s.tx } := by
  unfold State.sendFrame
  exact if_neg (by simpa using h)

end Machine

theorem handed_sendFrame (s : State) (p : Nat) {f : Frame} (hf : f.type ≠ 1) : Handed (s.sendFrame p f) p f := by
  by_cases h : (s.txPort p).wait = [] ∧ (s.txPort p).freeAt ≤ s.now
  · rw [State.sendFrame_starts h.1 h.2]
    exact .inl (by simp [State.out_startFrame, Frame.stamped_of_type hf])
  · rw [State.sendFrame_waits h]
    exact .inr (by simp [State.txPort])

namespace Handed
variable {s : State} {p : Nat} {f : Frame}

/-- What has been handed over stays with the transmitter or has left, whatever follows. -/
theorem sendFrame (h : Handed s p f) (q : Nat) (g : Frame) : Handed (s.sendFrame q g) p f := by
  by_cases hs : (s.txPort q).wait = [] ∧ (s.txPort q).freeAt ≤ s.now
  · rw [State.sendFrame_starts hs.1 hs.2]
    refine h.imp (fun ho => by simp [State.out_startFrame, ho]) fun hw => ?_
    rw [State.txPort_startFrame]
    split
    · next e => simp [e, hs.1] at hw
    · exact hw
  · rw [State.sendFrame_waits hs]
    refine h.imp id fun hw => ?_
    by_cases e : p = q
    · subst e
      simp [State.txPort] at hw ⊢
      exact .inl hw
    · simpa [State.txPort, tabGet_tabSet_ne _ _ _ e] using hw

theorem foldl {α : Type} {l : List α} {g : State → α → State} (h : Handed s p f)
    (hg : ∀ s a, Handed s p f → Handed (g s a) p f) : Handed (l.foldl g s) p f := by
  induction l generalizing s with
  | nil => exact h
  | cons a l ih => exact ih (hg s a h)

theorem sendOn (h : Handed s p f) (ps : List Nat) (g : Frame) : Handed (s.sendOn ps g) p f :=
  h.foldl fun _ q h => h.sendFrame q g

theorem congr {t : State} (h : Handed s p f) (hx : t.tx = s.tx) (ho : t.out = s.out) : Handed t p f := by
  simpa only [Handed, State.txPort, hx, ho] using h

/-- Of a fold of steps that only send, what one of them hands over is handed over at the end. -/
theorem of_mem {α : Type} {l : List α} {g : State → α → State} {a : α} (ha : a ∈ l) (ht : ∀ u b, TxOnly u (g u b))
    (hk : ∀ u b, Handed u p f → Handed (g u b) p f) (hg : ∀ u, TxOnly s u → Handed (g u a) p f) :
    Handed (l.foldl g s) p f := by
  suffices ∀ u, TxOnly s u → Handed (l.foldl g u) p f from this s (.rfl s)
  induction l with
  | nil => cases ha
  | cons b l ih =>
    intro u hu
    rcases List.mem_cons.1 ha with rfl | ha
    · exact (hg u hu).foldl hk
    · exact ih ha _ (hu.trans (ht u b))

end Handed

theorem handed_sendOn (s : State) {ps : List Nat} {p : Nat} (hp : p ∈ ps) {f : Frame} (hf : f.type ≠ 1) :
    Handed (s.sendOn ps f) p f :=
  Handed.of_mem hp (fun u q => u.sendFrame_only q f) (fun _ q h => h.sendFrame q f) fun u _ => handed_sendFrame u p hf

end Sys2Proof

namespace Sys2Proof
open Machine

/-! ## PLUNGE_N (R78) -/

theorem DomWork.after {s u t : State} (h : DomWork u t) (k : ColWork s u) (hf : u.flt = s.flt) :
    t = { s with regs := t.regs, col := t.col, doms := t.doms, tx := t.tx, out := t.out } := by
  have k' := k.regsColTx hf
  unfold DomWork at h
  rw [h, k']

theorem DomWork.col {s t : State} (h : DomWork s t) : t.col = s.col := by rw [h]
theorem DomWork.tx {s t : State} (h : DomWork s t) : t.tx = s.tx := by rw [h]
theorem DomWork.out {s t : State} (h : DomWork s t) : t.out = s.out := by rw [h]

theorem Sent.congr {s t u : State} {ps : List Nat} {f : Frame} (h : Sent s ps f t) (hx : u.tx = t.tx) (ho : u.out = t.out) :
    Sent s ps f u := ⟨hx.trans h.1, ho.trans h.2⟩

theorem Sent.of_sameLine {s t u : State} {ps : List Nat} {f : Frame} (h : SameLine s t) (k : Sent t ps f u) : Sent s ps f u :=
  ⟨k.1.trans (h.sendOn ps f).tx, k.2.trans (h.sendOn ps f).out⟩

namespace Machine

/-- A fall of PLUNGE_N on which the module acts opens a window, where none is open (R78). -/
theorem plungeNEdge_opens {s : State} (hn : s.on Fld.COL_CTL.PLUNGEN_EN = true) (he : s.edgeOn = true)
    (ho : s.isOpen = true) (h : s.col.window = none) :
    Announced (s.fset Fld.COL_PLUNGE_INFO.PLUNGEN_LOW 1) (plungeNEdge true s) 5 (s.curBeat + s.guardNow)
      (s.fget Fld.COL_PLUNGEN_MASK.GROUPS) false := by
  have r : RegsBut [Fld.COL_PLUNGE_INFO.PLUNGEN_LOW] s (s.fset Fld.COL_PLUNGE_INFO.PLUNGEN_LOW 1) := .fset (.refl _ s)
  have e : plungeNEdge true s = ((s.fset Fld.COL_PLUNGE_INFO.PLUNGEN_LOW 1).mergeAnn (s.curBeat + s.guardNow) 5
      (s.fset Fld.COL_PLUNGE_INFO.PLUNGEN_LOW 1).moduleId (s.fget Fld.COL_PLUNGEN_MASK.GROUPS) false).announce 5
      (s.curBeat + s.guardNow) (s.fget Fld.COL_PLUNGEN_MASK.GROUPS) := by
    have hn' : (s.fset Fld.COL_PLUNGE_INFO.PLUNGEN_LOW 1).on Fld.COL_CTL.PLUNGEN_EN = true := by
      rw [State.on, r _ (by decide)]; exact hn
    have he' : (s.fset Fld.COL_PLUNGE_INFO.PLUNGEN_LOW 1).edgeOn = true := by
      rw [State.edgeOn, r _ (by decide)]; exact he
    have hg : (s.fset Fld.COL_PLUNGE_INFO.PLUNGEN_LOW 1).guardNow = s.guardNow := by
      rw [State.guardNow, r _ (by decide)]; rfl
    have hm := r Fld.COL_PLUNGEN_MASK.GROUPS (by decide)
    have ho' : (s.fset Fld.COL_PLUNGE_INFO.PLUNGEN_LOW 1).isOpen = true := ho
    have hb : (s.fset Fld.COL_PLUNGE_INFO.PLUNGEN_LOW 1).curBeat = s.curBeat := rfl
    simp [plungeNEdge, State.fput, State.annWins, hn', he', ho', hg, hm, hb, h]
  rw [e]
  exact State.announced (s.fset Fld.COL_PLUNGE_INFO.PLUNGEN_LOW 1) h ..

/-- A fall of PLUNGE_N on which the module does not act shows in PLUNGEN_LOW (R74, R78). -/
theorem plungeNEdge_idle {s : State} (h : s.on Fld.COL_CTL.PLUNGEN_EN = false ∨ s.edgeOn = false ∨ s.isOpen = false) :
    plungeNEdge true s = s.fset Fld.COL_PLUNGE_INFO.PLUNGEN_LOW 1 := by
  have r : RegsBut [Fld.COL_PLUNGE_INFO.PLUNGEN_LOW] s (s.fset Fld.COL_PLUNGE_INFO.PLUNGEN_LOW 1) := .fset (.refl _ s)
  have hn : (s.fset Fld.COL_PLUNGE_INFO.PLUNGEN_LOW 1).on Fld.COL_CTL.PLUNGEN_EN = s.on Fld.COL_CTL.PLUNGEN_EN := by
    rw [State.on, r _ (by decide)]; rfl
  have he : (s.fset Fld.COL_PLUNGE_INFO.PLUNGEN_LOW 1).edgeOn = s.edgeOn := by
    rw [State.edgeOn, r _ (by decide)]; rfl
  have ho : (s.fset Fld.COL_PLUNGE_INFO.PLUNGEN_LOW 1).isOpen = s.isOpen := rfl
  rcases h with h | h | h <;> simp [plungeNEdge, State.fput, hn, he, ho, h]

theorem State.levelOff_regsBut (s : State) (w : Nat) : RegsBut [Fld.PDM_WAKE_STS.LEVEL] s (s.levelOff w) :=
  .ite (.fset (.refl _ s)) (.refl _ s)

theorem State.levelOff_eq (s : State) (w : Nat) : s.levelOff w = { s with regs := (s.levelOff w).regs } := by
  unfold State.levelOff
  dsimp only
  split <;> rfl

theorem plungeNWake_rise (s : State) : plungeNWake false s = if s.col.driveLow then s else s.levelOff 2 := rfl

theorem plungeN_rise_eq (s : State) : plungeNWake false (plungeNEdge false s) =
    { s with regs := (plungeNWake false (plungeNEdge false s)).regs } := by
  rw [plungeNWake_rise]
  split
  · rfl
  · rw [State.levelOff_eq]
    rfl

/-- A rise of PLUNGE_N changes PLUNGEN_LOW and, as a wake source, LEVEL of PDM_WAKE_STS (R78, Table 16-4). -/
theorem plungeN_rise_regsBut (s : State) :
    RegsBut [Fld.COL_PLUNGE_INFO.PLUNGEN_LOW, Fld.PDM_WAKE_STS.LEVEL] s (plungeNWake false (plungeNEdge false s)) := by
  have h : RegsBut [Fld.COL_PLUNGE_INFO.PLUNGEN_LOW, Fld.PDM_WAKE_STS.LEVEL] s (plungeNEdge false s) := .fput (.refl _ s)
  rw [plungeNWake_rise]
  exact .ite h (h.trans ((State.levelOff_regsBut _ 2).mono))

theorem plungeN_rise_low (s : State) : (plungeNWake false (plungeNEdge false s)).fget Fld.COL_PLUNGE_INFO.PLUNGEN_LOW =
    s.col.driveLow.toNat := by
  have h : (plungeNEdge false s).fget Fld.COL_PLUNGE_INFO.PLUNGEN_LOW = s.col.driveLow.toNat := by
    cases hd : s.col.driveLow <;> simp [plungeNEdge, State.fput, hd, Fld.COL_PLUNGE_INFO.PLUNGEN_LOW]
  rw [plungeNWake_rise]
  split
  · exact h
  · rw [State.levelOff_regsBut _ 2 _ (by decide), h]

/-! ## Repeats, forwarded frames and the window's end (R71, R76, R77) -/

/-- The frames of PLUNGE_REPEAT leave one after the other (R76). -/
def State.repeatOn (s : State) (r : PlungeRep) : State :=
  s.sendOn s.plungePorts (s.mkFrame 0 (.plunge (r.rep + 1) r.cause r.cutBeat (BitVec.ofNat 64 r.groups)))

/-- The own frames that PLUNGE_REPEAT sends again at beat `b` (R76). -/
def ColState.dueReps (c : ColState) (b : Nat) : List PlungeRep :=
  c.reps.filter (fun r => decide (b < r.cutBeat) && decide (r.rep < 3))

theorem plungeRepeat_eq (s : State) : plungeRepeat s =
    (((s.col.dueReps s.curBeat).foldl State.repeatOn s).modCol
      (fun c => { c with reps := (s.col.dueReps s.curBeat).map (fun r => { r with rep := r.rep + 1 }) })) := rfl

theorem State.repeatOn_only (s : State) (r : PlungeRep) : TxOnly s (s.repeatOn r) := State.sendOn_only ..

theorem State.repeats_handed (s : State) {r : PlungeRep} (hr : r ∈ s.col.reps) (hb : s.curBeat < r.cutBeat)
    (hn : r.rep < 3) {p : Nat} (hp : p ∈ s.plungePorts) : Handed ((s.col.dueReps s.curBeat).foldl State.repeatOn s) p
      (s.mkFrame 0 (.plunge (r.rep + 1) r.cause r.cutBeat (BitVec.ofNat 64 r.groups))) := by
  refine Handed.of_mem (a := r) (List.mem_filter.2 ⟨hr, by simp [hb, hn]⟩) State.repeatOn_only
    (fun u r h => h.sendOn ..) fun u hu => ?_
  rw [State.repeatOn, hu.sameLink.plungePorts, hu.sameLink.mkFrame]
  exact handed_sendOn u hp (by simp [State.mkFrame, FrameBody.type_frame, FrameBody.type])

theorem State.codeErrors_regsCol (s : State) (p n : Nat) : RegsCol s (s.codeErrors p n) := .ite (.refl s) (.bump (.refl s))

theorem State.codeErrors_col (s : State) (p n : Nat) : (s.codeErrors p n).col = s.col := by
  rw [State.codeErrors_eq]

/-- What is kept of the forwarded frames: those of the last 64 beats (R76). -/
def State.keptFwd (s : State) : List (Nat × Nat × Nat × Nat) :=
  s.col.fwd.filter (fun x => decide (s.curBeat < x.2.2.2 + 64))

/-- A PLUNGE that was not forwarded yet goes out on every port but its arrival port, with HOPS one higher (R76). -/
theorem State.forwardPlunge_new {s : State} {f : Frame} {rep cut : Nat}
    (hn : ∀ x ∈ s.col.fwd, ¬ (x.1 = f.origin ∧ x.2.1 = cut ∧ x.2.2.1 = rep)) (hh : f.hops < 15) (p : Nat) :
    s.forwardPlunge p f rep cut =
      (s.sendOn (s.plungePorts.filter (· != p)) (f.withHops (f.hops + 1))).modCol
        (fun c => { c with fwd := s.keptFwd ++ [(f.origin, cut, rep, s.curBeat)] }) := by
  have hs : s.keptFwd.any (fun x => x.1 == f.origin && x.2.1 == cut && x.2.2.1 == rep) = false := by
    rw [List.any_eq_false]
    intro x hx
    have := hn x (List.mem_of_mem_filter hx)
    simp only [Bool.and_eq_true, beq_iff_eq]
    tauto
  unfold State.keptFwd at hs
  have h15 : (f.hops == 15) = false := by simp; omega
  simp [State.forwardPlunge, hs, h15, State.keptFwd]

/-- What the forwarding of a new PLUNGE leaves, the code violations before it counted (R76, R81). -/
theorem State.forwardPlunge_spec {s u : State} {f : Frame} {rep cut : Nat}
    (hn : ∀ x ∈ s.col.fwd, ¬ (x.1 = f.origin ∧ x.2.1 = cut ∧ x.2.2.1 = rep)) (hh : f.hops < 15) (p : Nat)
    (hu : u = (s.codeErrors p f.codeErrs).forwardPlunge p f rep cut) :
    u.col = { s.col with fwd := s.keptFwd ++ [(f.origin, cut, rep, s.curBeat)] } ∧ ColWork s u ∧ u.flt = s.flt ∧
    Sent s (s.plungePorts.filter (· != p)) (f.withHops (f.hops + 1)) u := by
  have hc := s.codeErrors_regsCol p f.codeErrs
  have hcc := s.codeErrors_col p f.codeErrs
  have hp := (s.codeErrors_sameLink p f.codeErrs).plungePorts
  generalize s.codeErrors p f.codeErrs = c at hc hcc hp hu
  have hx := c.sendOn_only (s.plungePorts.filter (· != p)) (f.withHops (f.hops + 1))
  have hb : c.keptFwd = s.keptFwd := by simp only [State.keptFwd, hcc, hc.curBeat]
  rw [State.forwardPlunge_new (by rwa [hcc]) hh, hp, hb, hc.curBeat] at hu
  subst hu
  refine ⟨?_, (hc.colWork.txOnly hx).modCol, hx.flt.trans hc.flt, ?_⟩
  · simp only [State.modCol, hx.col, hcc]
  · exact (SameLine.of_regsCol hc (by rw [hcc]) (by rw [hcc])).sent ..

/-- A PLUNGE within 64 beats that arrives in REFILLING or SERVING is forwarded and merged (R71, R74, R76). -/
theorem plungeRx_merges {s : State} {p rep cause cut : Nat} {f : Frame} {g : Word} (hh : Hears s p f)
    (hf : f.body = .plunge rep cause cut g) (h1 : cut ≤ s.curBeat + 64) (h2 : s.curBeat ≤ cut + 64) (ho : s.isOpen = true) :
    plungeRx p f s = ((s.codeErrors p f.codeErrs).forwardPlunge p f rep cut).mergeAnn cut cause f.origin g.toNat false := by
  have hw : ColWork s ((s.codeErrors p f.codeErrs).forwardPlunge p f rep cut) := by
    have hc : ColWork s (s.codeErrors p f.codeErrs) := .ite (.refl s) (.bump (.refl s))
    exact .ite hc.modCol ((hc.txOnly (State.sendOn_only ..)).modCol)
  have hfar : ((s.codeErrors p f.codeErrs).forwardPlunge p f rep cut).farAnnounce cut = false := by
    simp only [State.farAnnounce, hw.curBeat, Bool.or_eq_false_iff, decide_eq_false_iff_not]
    omega
  have hop := hw.isOpen.trans ho
  rw [plungeRx, hh.taken]
  simp [hf, hfar, hop]

/-- A PLUNGE that arrives with no window open, not yet forwarded, opens one and goes on (R71, R76). -/
theorem plungeRx_opens {s : State} {p rep cause cut : Nat} {f : Frame} {g : Word} (hh : Hears s p f)
    (hf : f.body = .plunge rep cause cut g) (h1 : cut ≤ s.curBeat + 64) (h2 : s.curBeat ≤ cut + 64) (ho : s.isOpen = true)
    (h : s.col.window = none) (hk : f.hops < 15)
    (hn : ∀ x ∈ s.col.fwd, ¬ (x.1 = f.origin ∧ x.2.1 = cut ∧ x.2.2.1 = rep)) :
    (plungeRx p f s).col = { s.col with
      window := some (s.opened cut g.toNat false)
      fwd := s.keptFwd ++ [(f.origin, cut, rep, s.curBeat)] } ∧
    (plungeRx p f s).fget Fld.COL_PLUNGE_STS.ORIGIN = f.origin % 2 ^ 14 ∧
    Sent s (s.plungePorts.filter (· != p)) (f.withHops (f.hops + 1)) (plungeRx p f s) ∧
    ColWork s (plungeRx p f s) ∧ (plungeRx p f s).flt = s.flt := by
  rw [plungeRx_merges hh hf h1 h2 ho]
  obtain ⟨hu, hw, hfl, hs⟩ := State.forwardPlunge_spec hn hk p rfl
  generalize (s.codeErrors p f.codeErrs).forwardPlunge p f rep cut = u at hu hw hfl hs
  have hun : u.col.window = none := by rw [hu]; exact h
  have hm := u.mergeAnn_regsCol cut cause f.origin g.toNat false
  obtain ⟨-, -, hor, -, -⟩ := u.mergeAnn_opens_shows hun cut cause f.origin g.toNat false rfl
  refine ⟨?_, hor, hs.congr hm.tx hm.out, hw.trans hm.colWork, hm.flt.trans hfl⟩
  rw [State.mergeAnn_opens_col u hun, hu, State.opened, hw.colTime, hw.curBeat]
  rfl

theorem State.releasePlungeN_eq (s : State) : s.releasePlungeN = { s with
    col := { s.col with driveLow := false }
    out := s.out ++ (if s.col.driveLow then [.pin .plungeN true] else []) } := by
  unfold State.releasePlungeN
  split
  · rfl
  · next h =>
    have hc : ({ s.col with driveLow := false } : ColState) = s.col := by rw [← eq_false_of_ne_true h]
    rw [hc, List.append_nil]

/-- What a closing window leaves of a spill of the module's own (R144). -/
def State.ownCutLeft (s : State) (w : PlungeWin) : Option OwnCut :=
  (match w.ownSpill with
    | some t => if s.curBeat ≤ t || !w.cut then some (OwnCut.mk t w.spillCause w.late) else none
    | none => none).or s.col.ownCut

/-- The window closes: what that leaves (R71, R77). -/
theorem State.closeWindow_eq {s : State} {w : PlungeWin} (h : s.col.window = some w) : s.closeWindow = { s with
    regs := (s.fset Fld.COL_PLUNGE_STS.OPEN 0).regs
    col := { s.col with window := none, ownCut := s.ownCutLeft w, driveLow := false }
    out := s.out ++ (if s.col.driveLow then [.pin .plungeN true] else []) } := by
  simp only [State.closeWindow, State.releasePlungeN_eq, State.ownCutLeft, h, State.modCol]
  rfl

theorem exec_plungeWindowClose {s : State} {dt : Nat} {w : PlungeWin} (h : s.col.window = some w)
    (hc : w.openAt + 524288 ≤ (s.elapse dt).colTime) :
    exec (.plungeWindowClose dt) s = .next (s.elapse dt).closeWindow := by
  change execPlungeWindowClose dt s = _
  simp [execPlungeWindowClose, plungeWindowClose, h, beatNs, hc]

theorem mem_setIns_self (k : Nat) (l : List Nat) : k ∈ setIns k l := by
  induction l with
  | nil => simp [setIns]
  | cons a l ih =>
    unfold setIns
    split
    · simp
    · split
      · simp [*]
      · simp [ih]

/-- A colony checkpoint that is taken (R69). -/
theorem colonyCheckpoint_taken {s : State} {x : Nat} (hm : s.isMember = false) (hx : s.curBeat + 16 ≤ x)
    (he : s.isEpoch x = true) : colonyCheckpoint x s = s.modCol (fun c => { c with
      announce := tabIns x (s.fget Fld.COL_CKPT_MASK.GROUPS) (tabDel x c.announce)
      ckpts := tabIns x (s.fget Fld.COL_CKPT_MASK.GROUPS) (tabDel x c.ckpts)
      ckptTaken := setIns x c.ckptTaken }) := by
  simp [colonyCheckpoint, hm, hx, he]

theorem colonyCheckpoint_ignored {s : State} {x : Nat}
    (h : s.isMember = true ∨ x < s.curBeat + 16 ∨ s.isEpoch x = false) :
    colonyCheckpoint x s = s.bump Fld.COL_CKPT_CNT.IGNORED Fld.COL_CKPT_CNT.IG_SAT := by
  have hn : (!s.isMember && decide (s.curBeat + 16 ≤ x) && s.isEpoch x) = false := by
    rcases h with h | h | h
    · simp [h]
    · simp [Nat.not_le.2 h]
    · simp [h]
  simp [colonyCheckpoint, hn]

end Machine


/-- Settles O6, each command by the lemma that says what it leaves, from the state that time's passing leaves. -/
theorem plungesAreAnnouncedAndMerged : Obligations.PlungesAreAnnouncedAndMerged := by
  unfold Obligations.PlungesAreAnnouncedAndMerged
  refine ⟨?_, ?_, ?_, ?_, ?_, ?_, ?_, ?_, ?_, ?_⟩
  · rintro s dt b g hw h hg rfl rfl
    have a := (s.elapse dt).ownPlunge_opens (by simpa using h) 2
    have hb : (s.elapse dt).curBeat < (s.elapse dt).curBeat + (s.elapse dt).guardNow := by simpa using hg
    have hl := State.elapse_sameLink s dt
    refine ⟨_, _, exec_fmCheckpoint hw dt, a.window, ?_⟩
    refine ⟨?_, State.opened_late _ hb _ _, rfl, State.elapse_fget .., rfl, rfl, a.work.colTime.symm, a.opened, ?_, ?_, ?_, ?_,
      ?_, ?_, a.work.regsColTx a.flt⟩
    · rw [State.opened_tw _ hb, State.elapse_guardNow]
    · rw [a.cutBeat, State.opened_tw _ hb, State.elapse_guardNow]
    · rw [a.origin, hl.moduleId]
    · rw [a.shown]; rfl
    · rw [a.counted, State.elapse_fget]
    · rw [a.col, State.elapse_reps, State.elapse_guardNow, State.elapse_fget]
    · have := a.sent
      rwa [hl.plungePorts, hl.mkFrame, State.elapse_guardNow, State.elapse_fget] at this
  · rintro s dt b w hw h rfl hb hc
    have e := State.ownPlunge_joins (s := s.elapse dt) (by simpa using h) hb (by simpa using hc) 2
    refine ⟨_, exec_fmCheckpoint hw dt, ?_⟩
    rw [e, State.elapse_fget]
    refine ⟨?_, ?_, State.joined_regsCol .., ?_⟩
    · simp [State.joined, State.modCol, State.satUp, State.fsat, State.fput]
    · rw [State.joined_merged, State.elapse_fget]
    · exact RegsBut.fput (.fset (.fsat (.same .elapse)))
  · rintro s dt b g hn he ho h hg rfl rfl
    have hl := (State.elapse_sameLink s dt)
    have a := plungeNEdge_opens (s := s.elapse dt) (by simpa using hn) (by simpa [State.edgeOn] using he) (by simpa using ho)
      (by simpa using h)
    have hb : ((s.elapse dt).fset Fld.COL_PLUNGE_INFO.PLUNGEN_LOW 1).curBeat <
        (s.elapse dt).curBeat + (s.elapse dt).guardNow :=
      Nat.lt_add_of_pos_right (by simpa using hg)
    have hv : SameLink s ((s.elapse dt).fset Fld.COL_PLUNGE_INFO.PLUNGEN_LOW 1) :=
      RegsBut.sameLink (.fset .elapse (List.mem_singleton.2 rfl)) (by decide)
    have hd := wakeSource_domWork 2 (plungeNEdge true (s.elapse dt))
    have hr {f : Field} := wakeSource_regs 2 (plungeNEdge true (s.elapse dt)) (f := f)
    refine ⟨wakeSource 2 (plungeNEdge true (s.elapse dt)), _, rfl, by rw [hd.col, a.window], ?_⟩
    refine ⟨?_, rfl, State.elapse_fget .., State.opened_late _ hb _ _, ?_, ?_, ?_,
      hd.after (.trans (.fset (.refl _)) a.work) a.flt⟩
    · rw [State.opened_tw _ hb, State.elapse_guardNow]
    · rw [hr (.inl (by decide)) (by decide) (by decide), a.regs _ (by decide), State.fget_fset_self]
      rfl
    · rw [hr (.inl (by decide)) (by decide) (by decide), a.shown]
      rfl
    · have hs := a.sent.congr hd.tx hd.out
      rw [hv.plungePorts, hv.mkFrame, State.elapse_guardNow, State.elapse_fget] at hs
      exact hs.of_sameLine (.of_regsCol (.fset (.refl _)) rfl rfl)
  · intro s dt h
    have h' : (s.elapse dt).on Fld.COL_CTL.PLUNGEN_EN = false ∨ (s.elapse dt).edgeOn = false ∨ (s.elapse dt).isOpen = false := by
      simpa [State.edgeOn] using h
    rw [← plungeNEdge_idle h']
    rfl
  · intro s dt
    refine ⟨_, rfl, ?_, plungeN_rise_eq _, (plungeN_rise_regsBut _).of_elapse⟩
    rw [plungeN_rise_low, State.elapse_driveLow]
  · intro s
    refine ⟨_, rfl, rfl, ?_, ?_⟩
    · intro r hr hb hn p hp
      exact (s.repeats_handed hr hb hn hp).congr rfl rfl
    · have h : TxOnly s ((s.col.dueReps s.curBeat).foldl State.repeatOn s) := .foldl _ State.repeatOn_only _ s
      rw [plungeRepeat_eq, State.modCol, h]
  · rintro s dt p rep cause cut b f g hh hf rfl h1 h2 ho h hk hn
    obtain ⟨hc, hor, hs, hw, hfl⟩ := plungeRx_opens (hh.elapse dt) hf h1 h2 (by simpa using ho) (by simpa using h) hk
      (by simpa using hn)
    refine ⟨plungeRx p f (s.elapse dt), _, rfl, by rw [hc], ?_⟩
    refine ⟨rfl, decide_eq_true_iff, rfl, rfl, hor, ?_, ?_, hw.regsColTx hfl⟩
    · rw [hc]
      simp
    · rwa [(State.elapse_sameLink s dt).plungePorts] at hs
  · rintro s dt w h hc
    refine ⟨_, exec_plungeWindowClose h hc, ?_⟩
    rw [State.closeWindow_eq (by simpa using h)]
    refine ⟨rfl, rfl, rfl, ?_, ?_, (s.elapse dt).fget_fset_self Fld.COL_PLUNGE_STS.OPEN 0, ?_, rfl, ?_⟩
    · intro hn
      simp [State.ownCutLeft, hn]
    · intro x hx hb
      simp [State.ownCutLeft, hx, hb]
    · rw [State.elapse_driveLow]
    · exact (RegsBut.fset (f := Fld.COL_PLUNGE_STS.OPEN) (v := 0) (.elapse (dt := dt))).same
  · rintro s dt x hw hm hx he
    have e := colonyCheckpoint_taken (s := s.elapse dt) (by rwa [(State.elapse_sameLink s dt).isMember]) hx (by simpa using he)
    refine ⟨colonyCheckpoint x (s.elapse dt), ?_, ?_⟩
    · change execColonyCheckpoint dt x s = _
      simp [execColonyCheckpoint, State.viaReg, hw]
    · rw [e, State.elapse_fget]
      exact ⟨mem_tabIns_self .., mem_tabIns_self .., mem_setIns_self .., rfl⟩
  · rintro s dt x hw hx
    rw [← colonyCheckpoint_ignored (by simpa [(State.elapse_sameLink s dt).isMember] using hx)]
    change execColonyCheckpoint dt x s = _
    simp [execColonyCheckpoint, State.viaReg, hw]

end Sys2Proof

/-! # Thobor ports, selection and periodic frames (O8) -/

namespace Sys2Proof
open Machine

/-! ## Fault messages of the link -/

theorem Reports.of_flt {src kind : Nat} {r s t : State} (h : Reports src kind s t) (e : s.flt = r.flt) : Reports src kind r t := by
  unfold Reports at *
  rwa [← e]

/-- The field lies outside the registers of injection and lost messages that a fault message may change. -/
abbrev OffFault (f : Field) : Prop :=
  f.bit < 8 * 0x1D0050 ∨ (8 * 0x1D0058 ≤ f.bit ∧ f.bit < 8 * 0x1D2000) ∨ 8 * 0x1D3000 ≤ f.bit

theorem Machine.State.fget_fault (s : State) {src : Nat} (hs : src < 1024) (kind addr : Nat) (cl : Bool) {f : Field}
    (hf : OffFault f) : (s.fault src kind addr cl).fget f = s.fget f := by
  refine s.fault_regsBut src kind addr cl f ?_
  simp only [FaultRegs, Fld.FLT_INJ_STS.LEFT, Fld.FLT_SRC_CNT.LOST, Fld.FLT_SRC_CNT.LOST_SAT, List.map_cons, List.map_nil,
    List.mem_cons, List.not_mem_nil, or_false, not_or]
  unfold OffFault at hf
  omega

/-- The checkers of a port for CRC failures and isolation send (Table 14-3). -/
theorem sent_of_port {p k : Nat} (hp : p < 4) (hk : k = 2 ∨ k = 7) : Rst.sent (srcOf (72 + p) k) = true := by
  have h : ∀ p < 4, Rst.sent (srcOf (72 + p) 2) = true ∧ Rst.sent (srcOf (72 + p) 7) = true := by decide
  rcases hk with rfl | rfl
  · exact (h p hp).1
  · exact (h p hp).2

/-! ## Isolation (R82) -/

namespace Machine

theorem State.unitSt_setUnit (s : State) {u : Nat} (hu : u < 96) (st : Nat) : (s.setUnit u st).unitSt u = st % 4 := by
  have h1 : (Fld.FLT_UNIT_STS.STATE u).bit ≠ Fld.FLT_STS.ISOLATED.bit := by
    simp only [Fld.FLT_UNIT_STS.STATE, Fld.FLT_STS.ISOLATED]
    omega
  have h2 : (Fld.FLT_UNIT_STS.STATE u).bit ≠ Fld.FLT_STS.FAULTED.bit := by
    simp only [Fld.FLT_UNIT_STS.STATE, Fld.FLT_STS.FAULTED]
    omega
  simp only [State.setUnit, State.unitSt, State.fput]
  rw [State.fget_fset_ne _ h1, State.fget_fset_ne _ h2, State.fget_fset_self]
  rfl

theorem State.port_modPort_self (s : State) (p : Nat) (f : Port → Port) : (s.modPort p f).port p = f (s.port p) := by
  simp [State.modPort, State.modCol, State.port]

theorem State.port_modPort_ne (s : State) {p q : Nat} (h : q ≠ p) (f : Port → Port) : (s.modPort p f).port q = s.port q := by
  simp [State.modPort, State.modCol, State.port, tabGet_tabSet_ne _ _ _ h]

@[simp] theorem State.modPort_fget (s : State) (p : Nat) (f : Port → Port) (g : Field) : (s.modPort p f).fget g = s.fget g := rfl
@[simp] theorem State.newErrWindow_fget (s : State) (p : Nat) (g : Field) : (s.newErrWindow p).fget g = s.fget g := rfl

theorem State.port_congr {s t : State} (h : t.col = s.col) (p : Nat) : t.port p = s.port p := by
  simp only [State.port, h]

end Machine

/-- What the end of an isolation leaves (R82). -/
theorem liftIsolation_spec {s t : State} {p : Nat} (hp : p < 4) (hi : s.portIso p = true) (ht : t = s.liftIsolation p) :
    t.portIso p = false ∧ t.unitSt (72 + p) = 0 ∧ (t.port p).errWin = 0 ∧ Reports (srcOf (72 + p) 7) 0x4C s t ∧
    (∀ q, q ≠ p → t.port q = s.port q) ∧ ColWork s t := by
  have hs : srcOf (72 + p) 7 < 1024 := by simp only [srcOf]; omega
  have hu : (Fld.FLT_UNIT_STS.STATE (72 + p)).bit ≠ (Fld.COL_PORT_STS.ISOLATED p).bit := by
    simp only [Fld.FLT_UNIT_STS.STATE, Fld.COL_PORT_STS.ISOLATED]
    omega
  subst ht
  unfold State.liftIsolation
  rw [if_pos hi]
  refine ⟨?_, ?_, ?_, ?_, ?_, ?_⟩
  · rw [State.portIso, State.on, State.fget_fault _ hs _ _ _ (.inl (by simp only [Fld.COL_PORT_STS.ISOLATED]; omega)),
      State.newErrWindow_fget, State.fget_fset_self, Nat.zero_mod]
    rfl
  · rw [State.unitSt, State.fget_fault _ hs _ _ _ (.inr (.inr (by simp only [Fld.FLT_UNIT_STS.STATE]; omega))),
      State.newErrWindow_fget, State.fget_fset_ne _ hu]
    exact s.unitSt_setUnit (by omega) 0
  · rw [State.port_congr (State.fault_col ..), State.newErrWindow, State.port_modPort_self]
  · exact (State.fault_reports _ _ _ _ _ (sent_of_port hp (.inr rfl))).of_flt rfl
  · intro q hq
    rw [State.port_congr (State.fault_col ..), State.newErrWindow, State.port_modPort_ne _ hq]
    rfl
  · exact ((ColWork.refl s).setUnit.fset.modPort).fault

/-! ## A port comes up (R47, R52) -/

/-- The fields that a ROLE frame and the ports it goes out on depend on. -/
def roleView : List Field := [Fld.COL_CTL.ROLE, Fld.COL_ID.MODULE_ID, Fld.COL_TIME_STS.DEPTH, Fld.COL_TIME_STS.ROOT_ID,
  Fld.PDM_MODE.STATE 92] ++ allPorts.map Fld.COL_PORT_CFG.ROLE ++ allPorts.map Fld.COL_PORT_STS.ISOLATED

/-- The two states agree on those fields. -/
def RoleView (s t : State) : Prop := ∀ f ∈ roleView, t.fget f = s.fget f

namespace RoleView
variable {s t : State}

theorem of_regs (h : t.regs = s.regs) : RoleView s t := fun f _ => by simp only [State.fget, h]

theorem of_regsBut {fs : List Field} (h : RegsBut fs s t) (hf : ∀ f ∈ roleView, f.bit ∉ fs.map Field.bit) : RoleView s t :=
  fun f hm => h f (hf f hm)

theorem role (h : RoleView s t) : t.fget Fld.COL_CTL.ROLE = s.fget Fld.COL_CTL.ROLE := h _ (by simp [roleView])
theorem isStandalone (h : RoleView s t) : t.isStandalone = s.isStandalone := by simp only [State.isStandalone, h.role]
theorem thoborOn (h : RoleView s t) : t.thoborOn = s.thoborOn := by
  simp only [State.thoborOn, h (Fld.PDM_MODE.STATE 92) (by simp [roleView])]
theorem portRole (h : RoleView s t) {p : Nat} (hp : p < 4) : t.portRole p = s.portRole p :=
  h _ (List.mem_append_left _ (List.mem_append_right _ (List.mem_map_of_mem (mem_allPorts.2 hp))))
theorem portIso (h : RoleView s t) {p : Nat} (hp : p < 4) : t.portIso p = s.portIso p := by
  simp only [State.portIso, State.on]
  rw [h (Fld.COL_PORT_STS.ISOLATED p) (List.mem_append_right _ (List.mem_map_of_mem (mem_allPorts.2 hp)))]

theorem rolePorts (h : RoleView s t) : t.rolePorts = s.rolePorts :=
  List.filter_congr fun p hp => by
    rw [h.isStandalone, h.portRole (mem_allPorts.1 hp), h.portIso (mem_allPorts.1 hp), h.thoborOn]

theorem roleFrame (h : RoleView s t) {p : Nat} (hp : p < 4) : t.roleFrame p = s.roleFrame p := by
  have hm := h Fld.COL_ID.MODULE_ID (by simp [roleView])
  have hd := h Fld.COL_TIME_STS.DEPTH (by simp [roleView])
  have hr := h Fld.COL_TIME_STS.ROOT_ID (by simp [roleView])
  simp only [State.roleFrame, State.mkFrame, State.depth, State.rootId, State.isMember, State.moduleId, h.portRole hp, h.role,
    hm, hd, hr]
  rfl

end RoleView

namespace Machine

theorem State.mem_rolePorts {s : State} {p : Nat} :
    p ∈ s.rolePorts ↔ p < 4 ∧ s.isStandalone = false ∧ s.portRole p ≠ 0 ∧ s.portIso p = false ∧ s.thoborOn = true := by
  simp [State.rolePorts, List.mem_filter, mem_allPorts, and_assoc]

theorem State.sendRole_eq (s : State) (p : Nat) :
    s.sendRole p = if p ∈ s.rolePorts then s.sendFrame p (s.roleFrame p) else s := by
  simp [State.sendRole]

end Machine

theorem RoleView.refl (s : State) : RoleView s s := fun _ _ => rfl

namespace Machine

/-- A port that has come up, before its ROLE frame (R47). -/
def State.cameUp (s : State) (p : Nat) : State :=
  ((s.fset (Fld.COL_PORT_STS.LINK_UP p) 1).fset (Fld.COL_PORT_STS.SILENT p) 0).modPort p
    (fun q => { q with lastFirefly := s.curBeat })

theorem portUp_eq {s : State} {p : Nat} (hs : s.isStandalone = false) (hr : s.portRole p ≠ 0) (ht : s.thoborOn = true) :
    portUp p s = (s.cameUp p).sendRole p := by
  simp [portUp, hs, hr, ht, State.cameUp]

theorem State.cameUp_regsBut (s : State) (p : Nat) :
    RegsBut [Fld.COL_PORT_STS.LINK_UP p, Fld.COL_PORT_STS.SILENT p] s (s.cameUp p) := by
  unfold State.cameUp
  exact (RegsBut.refl _ s).fset.fset.modPort

theorem State.cameUp_regsCol (s : State) (p : Nat) : RegsCol s (s.cameUp p) := by
  unfold State.cameUp
  exact (RegsCol.refl s).fset.fset.modPort

theorem State.cameUp_sameLine (s : State) (p : Nat) : SameLine s (s.cameUp p) := .of_regsCol (s.cameUp_regsCol p) rfl rfl

theorem State.cameUp_roleView (s : State) {p : Nat} (hp : p < 4) : RoleView s (s.cameUp p) :=
  .of_regsBut (s.cameUp_regsBut p) (by
    have h : ∀ p < 4, ∀ f ∈ roleView, f.bit ∉ [Fld.COL_PORT_STS.LINK_UP p, Fld.COL_PORT_STS.SILENT p].map Field.bit := by
      decide
    exact h p hp)

theorem State.cameUp_shows (s : State) (p : Nat) : (s.cameUp p).portUp p = true ∧ (s.cameUp p).portSilent p = false ∧
    ((s.cameUp p).port p).lastFirefly = s.curBeat := by
  have hb : (Fld.COL_PORT_STS.LINK_UP p).bit ≠ (Fld.COL_PORT_STS.SILENT p).bit := by
    simp only [Fld.COL_PORT_STS.LINK_UP, Fld.COL_PORT_STS.SILENT]
    omega
  refine ⟨?_, ?_, ?_⟩
  · simp only [State.portUp, State.on, State.cameUp, State.modPort_fget, State.fget_fset_ne _ hb, State.fget_fset_self]
    rfl
  · simp only [State.portSilent, State.on, State.cameUp, State.modPort_fget, State.fget_fset_self]
    rfl
  · rw [State.cameUp, State.port_modPort_self]

/-- A port sends its ROLE frame unless it is isolated (R52, R82). -/
theorem State.cameUp_sends {s : State} {p : Nat} (hp : p < 4) (hs : s.isStandalone = false) (hr : s.portRole p ≠ 0)
    (ht : s.thoborOn = true) :
    (s.cameUp p).sendRole p = (s.cameUp p).sendOn (if s.portIso p then [] else [p]) (s.roleFrame p) := by
  have hv := s.cameUp_roleView hp
  rw [State.sendRole_eq, hv.rolePorts, hv.roleFrame hp]
  cases hi : s.portIso p <;> simp [State.mem_rolePorts, hp, hs, hr, ht, hi, State.sendOn]

/-! ## Selection (R42, R54, R60, R61) -/

/-- SELECTED shows port `p` and no other. -/
def State.showSelected (s : State) (p : Nat) : State :=
  allPorts.foldl (fun s q => s.fput (Fld.COL_PORT_STS.SELECTED q) (q == p)) s

/-- The depth and root of a port's last BEACON are taken (R43). -/
def State.takeBeacon (s : State) (p : Nat) : State :=
  match (s.port p).beacon with
  | some b => s.takeDepth b.depth b.rootId
  | none => s

/-- FREE and HOLDOVER become ACQUIRING (R54). -/
def State.acquire (s : State) : State :=
  if s.fget Fld.COL_TIME_STS.STATE == 0 || s.fget Fld.COL_TIME_STS.STATE == 3 then
    (s.setTime 1).modCol (fun c => { c with good := 0, bad := 0 }) else s

theorem State.select_eq (s : State) (p : Nat) :
    s.select p = (((s.showSelected p).takeBeacon p).modCol (fun c => { c with lost := false })).acquire := rfl

theorem State.showSelected_regsBut (s : State) (p : Nat) :
    RegsBut (allPorts.map Fld.COL_PORT_STS.SELECTED) s (s.showSelected p) := by
  unfold State.showSelected allPorts
  exact ((((RegsBut.refl _ s).fput).fput).fput).fput

theorem State.showSelected_fget (s : State) (p : Nat) {q : Nat} (hq : q < 4) :
    (s.showSelected p).fget (Fld.COL_PORT_STS.SELECTED q) = if q = p then 1 else 0 := by
  unfold State.showSelected allPorts
  simp only [List.foldl_cons, List.foldl_nil, State.fput]
  interval_cases q <;>
    simp (disch := decide) only [State.fget_fset_ne, State.fget_fset_self, beq_iff_eq] <;>
    split <;> rfl

/-- The fields of COL_TIME_STS that a port's BEACON gives (R43). -/
@[simp] def depthFields : List Field := [Fld.COL_TIME_STS.DEPTH, Fld.COL_TIME_STS.ROOT_ID, Fld.COL_TIME_STS.DEPTH_EXCEEDED]

theorem State.takeDepth_regsBut (s : State) (d root : Nat) : RegsBut depthFields s (s.takeDepth d root) :=
  .ite ((RegsBut.refl _ s).fsat.fset.fset) ((RegsBut.refl _ s).fsat.fset)

theorem State.takeDepth_eq (s : State) (d root : Nat) : s.takeDepth d root = { s with regs := (s.takeDepth d root).regs } := by
  unfold State.takeDepth
  dsimp only
  split <;> rfl

theorem State.takeDepth_depth (s : State) (d root : Nat) : (s.takeDepth d root).depth = min (d + 1) 15 := by
  have h : ((s.fsat Fld.COL_TIME_STS.DEPTH (d + 1)).fset Fld.COL_TIME_STS.ROOT_ID root).depth = min (d + 1) 15 := by
    simp (disch := decide) only [State.depth, State.fsat, State.fget_fset_ne, State.fget_fset_self]
    exact Nat.mod_eq_of_lt (Nat.lt_of_le_of_lt (Nat.min_le_right _ _) (by decide))
  unfold State.takeDepth
  dsimp only
  split
  · rw [State.depth, State.fget_fset_ne _ (by decide)]
    exact h
  · exact h

theorem State.takeBeacon_regsBut (s : State) (p : Nat) : RegsBut depthFields s (s.takeBeacon p) := by
  unfold State.takeBeacon
  split
  · exact s.takeDepth_regsBut _ _
  · exact .refl _ s

theorem State.takeBeacon_eq (s : State) (p : Nat) : s.takeBeacon p = { s with regs := (s.takeBeacon p).regs } := by
  unfold State.takeBeacon
  split
  · exact State.takeDepth_eq ..
  · rfl

theorem State.acquire_regsBut (s : State) : RegsBut [Fld.COL_TIME_STS.STATE] s s.acquire :=
  .ite ((RegsBut.refl _ s).fset.modCol) (.refl _ s)

theorem State.acquire_regsCol (s : State) : RegsCol s s.acquire := .ite ((RegsCol.refl s).fset.modCol) (.refl s)

theorem State.acquire_state {s : State} (h : s.fget Fld.COL_TIME_STS.STATE = 0 ∨ s.fget Fld.COL_TIME_STS.STATE = 3) :
    s.acquire.fget Fld.COL_TIME_STS.STATE = 1 := by
  have hb : (s.fget Fld.COL_TIME_STS.STATE == 0 || s.fget Fld.COL_TIME_STS.STATE == 3) = true := by simpa using h
  rw [State.acquire, if_pos hb, State.modCol_fget, State.setTime, State.fget_fset_self]
  rfl

theorem State.acquire_col (s : State) : s.acquire.col.lost = s.col.lost ∧ s.acquire.col.mayUp = s.col.mayUp := by
  unfold State.acquire
  split <;> exact ⟨rfl, rfl⟩

end Machine

/-- What the selection of a port leaves (R42, R54, R60). -/
structure Selected (s t : State) (p : Nat) : Prop where
  work : RegsCol s t
  selected : ∀ q, q < 4 → t.fget (Fld.COL_PORT_STS.SELECTED q) = if q = p then 1 else 0
  lost : t.col.lost = false
  mayUp : t.col.mayUp = s.col.mayUp
  state : s.fget Fld.COL_TIME_STS.STATE = 0 ∨ s.fget Fld.COL_TIME_STS.STATE = 3 → t.fget Fld.COL_TIME_STS.STATE = 1
  depth : ∀ x, (s.port p).beacon = some x → t.depth = min (x.depth + 1) 15

theorem Machine.State.selected (s : State) (p : Nat) : Selected s (s.select p) p := by
  rw [State.select_eq]
  have h1 := s.showSelected_regsBut p
  have h2 := (s.showSelected p).takeBeacon_regsBut p
  have h3 := (((s.showSelected p).takeBeacon p).modCol (fun c => { c with lost := false })).acquire_regsBut
  have hp : (s.showSelected p).port p = s.port p := State.port_congr rfl p
  have c2 : ((s.showSelected p).takeBeacon p).col = s.col := by
    rw [State.takeBeacon_eq]
    rfl
  have hst : ((s.showSelected p).takeBeacon p).fget Fld.COL_TIME_STS.STATE = s.fget Fld.COL_TIME_STS.STATE :=
    (h2 _ (by decide)).trans (h1 _ (by decide))
  have hsel : ∀ q < 4, (Fld.COL_PORT_STS.SELECTED q).bit ∉ depthFields.map Field.bit := by decide
  have hsel' : ∀ q < 4, (Fld.COL_PORT_STS.SELECTED q).bit ∉ [Fld.COL_TIME_STS.STATE].map Field.bit := by decide
  exact
    { work := by
        refine .trans ?_ (State.acquire_regsCol _)
        refine .modCol (.trans (t := s.showSelected p) (Eq.refl _) ?_)
        unfold RegsCol
        rw [State.takeBeacon_eq]
      selected := fun q hq => by
        rw [h3 _ (hsel' q hq), State.modCol_fget, h2 _ (hsel q hq), s.showSelected_fget p hq]
      lost := (State.acquire_col _).1
      mayUp := (State.acquire_col _).2.trans (by simp only [State.modCol, c2])
      state := fun h => State.acquire_state (by rwa [State.modCol_fget, hst])
      depth := fun x hx => by
        have ht : (s.showSelected p).takeBeacon p = (s.showSelected p).takeDepth x.depth x.rootId := by
          unfold State.takeBeacon
          rw [hp, hx]
        rw [State.depth, h3 _ (by decide), State.modCol_fget, ht]
        exact State.takeDepth_depth .. }

namespace Machine

/-! ## The loss of the selected port (R60) -/

theorem State.loseSelected_eq {s : State} {p : Nat} (h : s.selPort = some p) : s.loseSelected =
    (s.fset (Fld.COL_PORT_STS.SELECTED p) 0).modCol (fun c => { c with
      lost := true
      mayUp := false
      depthWas := s.depth
      rootWas := s.fget Fld.COL_TIME_STS.ROOT_ID }) := by
  simp [State.loseSelected, h]

/-- The depth that a candidate is compared by (R60). -/
def State.beaconDepth (s : State) (p : Nat) : Nat := match (s.port p).beacon with | some b => b.depth | none => 16

/-- A fold that keeps the first of the least takes what `List.argmin` takes. -/
theorem foldl_least {α : Type} {k : α → Nat} {f : Option α → α → Option α} (h0 : ∀ x, f none x = some x)
    (h1 : ∀ y x, f (some y) x = if k x < k y then some x else some y) (l : List α) : l.foldl f none = l.argmin k := by
  unfold List.argmin
  congr 1
  funext b x
  cases b with
  | none => exact h0 x
  | some y => exact h1 y x

theorem backupSelect_lost {s : State} {p : Nat} (hm : s.isMember = true) (h : s.selPort = some p)
    (hl : s.portUp p = false ∨ s.portSilent p = true) : backupSelect s = 
      match (allPorts.filter (s.loseSelected.eligible (s.fget Fld.COL_TIME_STS.ROOT_ID) s.depth)).argmin s.loseSelected.beaconDepth with
      | some q => s.loseSelected.select q
      | none => if s.loseSelected.fget Fld.COL_TIME_STS.STATE == 1 || s.loseSelected.fget Fld.COL_TIME_STS.STATE == 2 then s.loseSelected.setTime 3 else s.loseSelected := by
  have hc : (!s.portUp p || s.portSilent p) = true := by rcases hl with hl | hl <;> simp [hl]
  have hlost : s.loseSelected.col.lost = true := by rw [State.loseSelected_eq h]; rfl
  have hr : s.loseSelected.col.rootWas = s.fget Fld.COL_TIME_STS.ROOT_ID := by rw [State.loseSelected_eq h]; rfl
  have hd : s.loseSelected.col.depthWas = s.depth := by rw [State.loseSelected_eq h]; rfl
  simp only [backupSelect, hm, h, hc, if_true, Bool.not_true, Bool.false_eq_true, if_false, hlost, hr, hd]
  rw [foldl_least (k := s.loseSelected.beaconDepth) (fun _ => rfl) (fun _ _ => rfl)]
  rfl

theorem State.eligible_loseSelected {s : State} {p : Nat} (h : s.selPort = some p) (root depth : Nat) {q : Nat} (hq : q < 4)
    (hp : p < 4) : s.loseSelected.eligible root depth q = s.eligible root depth q := by
  have hr : RegsBut [Fld.COL_PORT_STS.SELECTED p] s s.loseSelected := by
    rw [State.loseSelected_eq h]
    exact (RegsBut.refl _ s).fset.modCol
  have hf : ∀ p < 4, ∀ q < 4, ∀ f ∈ [Fld.COL_PORT_CFG.ROLE q, Fld.COL_PORT_STS.LINK_UP q, Fld.COL_PORT_STS.SILENT q,
      Fld.COL_PORT_STS.ISOLATED q], f.bit ∉ [Fld.COL_PORT_STS.SELECTED p].map Field.bit := by decide
  have g := fun f hm => hr f (hf p hp q hq f hm)
  have hb : s.loseSelected.port q = s.port q := by
    rw [State.loseSelected_eq h]
    rfl
  simp only [State.eligible, State.portRole, State.portUp, State.portSilent, State.portIso, State.on, hb,
    g (Fld.COL_PORT_CFG.ROLE q) (by simp), g (Fld.COL_PORT_STS.LINK_UP q) (by simp), g (Fld.COL_PORT_STS.SILENT q) (by simp),
    g (Fld.COL_PORT_STS.ISOLATED q) (by simp)]

end Machine

/-- What becomes of a member that has lost its selected port, with `l` the BACKUP ports it may take (R54, R60). -/
theorem backupSelect_spec {s t : State} {p : Nat} {l : List Nat} (hm : s.isMember = true) (h : s.selPort = some p)
    (hl : s.portUp p = false ∨ s.portSilent p = true)
    (e : allPorts.filter (s.eligible (s.fget Fld.COL_TIME_STS.ROOT_ID) s.depth) = l) (ht : t = backupSelect s) :
    t.fget (Fld.COL_PORT_STS.SELECTED p) = 0 ∧ t.col.mayUp = false ∧
    (l = [] → t.col.lost = true ∧ ((s.fget Fld.COL_TIME_STS.STATE = 1 ∨ s.fget Fld.COL_TIME_STS.STATE = 2) →
      t.fget Fld.COL_TIME_STS.STATE = 3)) ∧
    (∀ q, l = [q] → t.fget (Fld.COL_PORT_STS.SELECTED q) = 1 ∧ t.col.lost = false ∧
        (s.fget Fld.COL_TIME_STS.STATE = 3 → t.fget Fld.COL_TIME_STS.STATE = 1) ∧
        (∀ x, (s.port q).beacon = some x → t.depth = min (x.depth + 1) 15)) ∧ RegsCol s t := by
  have hp : p < 4 := mem_allPorts.1 (List.mem_of_find?_eq_some h)
  have hf : allPorts.filter (s.loseSelected.eligible (s.fget Fld.COL_TIME_STS.ROOT_ID) s.depth) = l := by
    rw [← e]
    exact List.filter_congr fun q hq => State.eligible_loseSelected h _ _ (mem_allPorts.1 hq) hp
  have hpl : p ∉ l := by
    rw [← e, List.mem_filter]
    rintro ⟨-, he⟩
    rcases hl with hl | hl <;> simp [State.eligible, hl] at he
  have hlt : ∀ q ∈ l, q < 4 := fun q hq => by
    rw [← e] at hq
    exact mem_allPorts.1 (List.mem_of_mem_filter hq)
  rw [backupSelect_lost hm h hl, hf] at ht
  have hv := State.loseSelected_eq h
  have hst : s.loseSelected.fget Fld.COL_TIME_STS.STATE = s.fget Fld.COL_TIME_STS.STATE := by
    rw [hv, State.modCol_fget, State.fget_fset_ne _ (by simp only [Fld.COL_TIME_STS.STATE, Fld.COL_PORT_STS.SELECTED]; omega)]
  have hs0 : s.loseSelected.fget (Fld.COL_PORT_STS.SELECTED p) = 0 := by
    rw [hv, State.modCol_fget, State.fget_fset_self]
    rfl
  have hport : ∀ q, s.loseSelected.port q = s.port q := by
    rw [hv]
    exact fun _ => rfl
  have hlost : s.loseSelected.col.lost = true := by rw [hv]; rfl
  have hmay : s.loseSelected.col.mayUp = false := by rw [hv]; rfl
  have hw : RegsCol s s.loseSelected := by rw [hv]; exact (RegsCol.refl s).fset.modCol
  generalize s.loseSelected = v at ht hst hs0 hport hlost hmay hw
  cases ha : l.argmin v.beaconDepth with
  | none =>
    have hl0 : l = [] := List.argmin_eq_none.1 ha
    subst hl0
    rw [ha] at ht
    have hne : (Fld.COL_PORT_STS.SELECTED p).bit ≠ Fld.COL_TIME_STS.STATE.bit := by
      simp only [Fld.COL_TIME_STS.STATE, Fld.COL_PORT_STS.SELECTED]
      omega
    have ht' : t = if v.fget Fld.COL_TIME_STS.STATE = 1 ∨ v.fget Fld.COL_TIME_STS.STATE = 2 then v.setTime 3 else v := by
      simpa using ht
    refine ⟨?_, ?_, fun _ => ⟨?_, fun hs => ?_⟩, fun q hq => (nomatch hq), ?_⟩
    all_goals rw [ht']
    · split
      · rw [State.setTime, State.fget_fset_ne _ hne, hs0]
      · exact hs0
    · split <;> exact hmay
    · split <;> exact hlost
    · rw [if_pos (by rwa [hst]), State.setTime, State.fget_fset_self]
      rfl
    · exact .ite hw.fset hw
  | some q =>
    have hq : q ∈ l := List.argmin_mem ha
    rw [ha] at ht
    have hsel := v.selected q
    rw [← (show t = v.select q from ht)] at hsel
    have hpq : p ≠ q := fun e => hpl (e ▸ hq)
    refine ⟨by rw [hsel.selected p hp, if_neg hpq], hsel.mayUp.trans hmay, fun h0 => ?_, fun r hr => ?_, hw.trans hsel.work⟩
    · subst h0
      cases hq
    · subst hr
      obtain rfl := List.mem_singleton.1 hq
      exact ⟨by rw [hsel.selected q (hlt q hq), if_pos rfl], hsel.lost, fun h3 => hsel.state (.inr (hst.trans h3)),
        fun x hx => hsel.depth x (by rw [hport q]; exact hx)⟩

/-! ## Periodic frames (R52, R68, R69) -/

namespace Machine

/-- A fold that sends a ROLE frame on the ports that carry it is the fold over those ports. -/
theorem rolePeriodic_eq (s : State) : rolePeriodic s = s.rolePorts.foldl (fun u p => u.sendFrame p (s.roleFrame p)) s := by
  have h : ∀ (l : List Nat) (u : State), (∀ p ∈ l, p < 4) → TxOnly s u →
      l.foldl (fun s p => s.sendRole p) u = (l.filter (· ∈ s.rolePorts)).foldl (fun u p => u.sendFrame p (s.roleFrame p)) u := by
    intro l
    induction l with
    | nil => exact fun _ _ _ => rfl
    | cons p l ih =>
      intro u hl hu
      have hv : RoleView s u := .of_regs hu.regs
      have ht : TxOnly s (u.sendFrame p (s.roleFrame p)) := hu.trans (u.sendFrame_only p _)
      have hr := List.forall_mem_cons.1 hl
      rw [List.foldl_cons, State.sendRole_eq, hv.rolePorts, hv.roleFrame hr.1]
      by_cases hm : p ∈ s.rolePorts
      · rw [if_pos hm, ih _ hr.2 ht, List.filter_cons_of_pos (by simpa using hm), List.foldl_cons]
      · rw [if_neg hm, ih u hr.2 hu, List.filter_cons_of_neg (by simpa using hm)]
  have hf : allPorts.filter (· ∈ s.rolePorts) = s.rolePorts := by
    conv_rhs => rw [State.rolePorts]
    refine List.filter_congr fun p hp => ?_
    rw [Bool.eq_iff_iff]
    simp [State.mem_rolePorts, mem_allPorts.1 hp, and_assoc]
  rw [rolePeriodic, h allPorts s (fun _ => mem_allPorts.1) (.rfl s), hf]

theorem configPeriodic_sends {s : State} {f : Frame} (hr : s.isRoot = true)
    (hp : ∀ x, s.col.pend = some x → f = s.mkFrame 0 (.config s.col.cfgGen x.guard x.k x.beat))
    (hn : s.col.pend = none → f = s.mkFrame 0 (.config s.col.cfgGen s.guardNow s.kNow s.curBeat)) :
    configPeriodic s = s.sendOn s.downPorts f := by
  rw [configPeriodic, if_pos hr, State.sendConfig]
  cases h : s.col.pend with
  | none => rw [hn h]
  | some x => rw [hp x h]

theorem TxOnly.kAt {s u : State} (h : TxOnly s u) (b : Nat) : u.kAt b = s.kAt b := by
  simp only [State.kAt, State.kNow, State.fget, h.col, h.regs]

/-- One EPOCH_ANNOUNCE of the epoch boundary at beat `b`, of a checkpoint or of none. -/
def State.sendEpoch (s : State) (ckpt : Bool) (b m : Nat) : State :=
  s.sendOn s.downPorts (s.mkFrame 0 (.epochAnnounce ckpt (s.kAt b) b (BitVec.ofNat 64 m)))

theorem State.sendEpoch_only (s : State) (ckpt : Bool) (b m : Nat) : TxOnly s (s.sendEpoch ckpt b m) := s.sendOn_only _ _

/-- What is sent is what the state at the command's start gives. -/
theorem State.sendEpoch_of_txOnly {s u : State} (h : TxOnly s u) (ckpt : Bool) (b m : Nat) :
    u.sendEpoch ckpt b m = u.sendOn s.downPorts (s.mkFrame 0 (.epochAnnounce ckpt (s.kAt b) b (BitVec.ofNat 64 m))) := by
  rw [State.sendEpoch, h.kAt, h.sameLink.downPorts, h.sameLink.mkFrame]

/-- The checkpoints that are announced in this beat (R68). -/
def State.dueAnnounce (s : State) : List (Nat × Nat) :=
  s.col.announce.filter (fun e => e.1 == s.curBeat + 16 || e.1 == s.curBeat + 12 || e.1 == s.curBeat + 8)

/-- The announcements of those checkpoints. -/
def State.announceDue (s : State) : State := s.dueAnnounce.foldl (fun s e => s.sendEpoch true e.1 e.2) s

/-- The announcement of an epoch boundary that has no checkpoint. -/
def State.announceEmpty (s u : State) : State :=
  if u.isEpoch (s.curBeat + 8) && !(s.dueAnnounce.any (fun e => e.1 == s.curBeat + 8)) then
    u.sendEpoch false (s.curBeat + 8) 0 else u

theorem State.announceDue_only (s : State) : TxOnly s s.announceDue :=
  .foldl _ (fun _ _ => State.sendEpoch_only ..) _ _

theorem State.announceEmpty_only (s u : State) : TxOnly u (s.announceEmpty u) := by
  unfold State.announceEmpty
  split
  · exact State.sendEpoch_only ..
  · exact .rfl u

theorem epochAnnounceSend_eq {s : State} (h : s.isRoot = true) : epochAnnounceSend s =
    (s.announceEmpty s.announceDue).modCol (fun c => { c with
      announce := c.announce.filter (fun e => decide (s.curBeat + 8 < e.1)) }) := by
  rw [epochAnnounceSend, if_pos h]
  rfl

end Machine

theorem Handed.sendEpoch {u : State} {p : Nat} {f : Frame} (h : Handed u p f) (ckpt : Bool) (b m : Nat) :
    Handed (u.sendEpoch ckpt b m) p f := h.sendOn _ _

theorem handed_announceDue {s : State} {x m p : Nat} (hm : (x, m) ∈ s.col.announce)
    (hx : x ∈ [s.curBeat + 16, s.curBeat + 12, s.curBeat + 8]) (hp : p ∈ s.downPorts) :
    Handed s.announceDue p (s.mkFrame 0 (.epochAnnounce true (s.kAt x) x (BitVec.ofNat 64 m))) := by
  have hd : (x, m) ∈ s.dueAnnounce := by
    rw [State.dueAnnounce, List.mem_filter]
    exact ⟨hm, by simpa [or_assoc] using hx⟩
  refine Handed.of_mem hd (fun u e => u.sendEpoch_only true e.1 e.2) (fun u e h => h.sendEpoch true e.1 e.2) fun u hu => ?_
  rw [State.sendEpoch_of_txOnly hu]
  exact handed_sendOn u hp (by simp [State.mkFrame, FrameBody.type_frame, FrameBody.type])

theorem handed_announceEmpty {s : State} {p : Nat} (he : s.isEpoch (s.curBeat + 8) = true)
    (hn : ∀ e ∈ s.col.announce, e.1 ≠ s.curBeat + 8) (hp : p ∈ s.downPorts) :
    Handed (s.announceEmpty s.announceDue) p
      (s.mkFrame 0 (.epochAnnounce false (s.kAt (s.curBeat + 8)) (s.curBeat + 8) 0)) := by
  have hk : s.announceDue.isEpoch (s.curBeat + 8) = s.isEpoch (s.curBeat + 8) := by
    rw [State.isEpoch, s.announceDue_only.kAt, State.isEpoch]
  have hd : s.dueAnnounce.any (fun e => e.1 == s.curBeat + 8) = false := by
    rw [List.any_eq_false]
    exact fun e h => by simpa using hn e (List.mem_of_mem_filter h)
  rw [State.announceEmpty, hk, he, hd, Bool.not_false, Bool.and_true, if_pos rfl, State.sendEpoch_of_txOnly s.announceDue_only]
  exact handed_sendOn _ hp (by simp [State.mkFrame, FrameBody.type_frame, FrameBody.type])

theorem Handed.announceEmpty {s u : State} {p : Nat} {f : Frame} (h : Handed u p f) : Handed (s.announceEmpty u) p f := by
  unfold State.announceEmpty
  split
  · exact h.sendEpoch _ _ _
  · exact h

/-! ## What a port's line does (R51, R82) -/

namespace Machine

theorem TxPort.next_eq (x : TxPort) : x.next = x.wait.argmin Frame.cls := foldl_least (fun _ => rfl) (fun _ _ => rfl) _

@[simp] theorem State.timeAt_now (s : State) : s.timeAt s.now = s.colTime := by simp [State.timeAt]

theorem State.sendFrame_free {s : State} {p : Nat} (hw : (s.txPort p).wait = []) (hf : (s.txPort p).freeAt ≤ s.now) (f : Frame) :
    (s.sendFrame p f).out = s.out ++ [.frame p (f.stamped s.colTime)] ∧
    ((s.sendFrame p f).txPort p).freeAt = s.now + f.ns ∧
    (∀ q, f.fireflySeq = some q → ((s.sendFrame p f).txPort p).t3.head? = some (q, s.colTime % 2 ^ 32)) := by
  rw [State.sendFrame_starts hw hf, State.out_startFrame, State.txPort_startFrame, if_pos rfl, State.timeAt_now]
  refine ⟨rfl, rfl, fun q hq => ?_⟩
  simp [TxPort.start, hq]

theorem State.sendFrame_busy {s : State} {p : Nat} (h : s.now < (s.txPort p).freeAt) (f : Frame) :
    (s.sendFrame p f).out = s.out ∧ ((s.sendFrame p f).txPort p).wait = (s.txPort p).wait ++ [f] := by
  rw [State.sendFrame_waits (by omega)]
  exact ⟨rfl, by simp [State.txPort]⟩

/-- A new error window begins for a port, and of what waits there only PLUNGE stays (R82). -/
def State.mutePort (s : State) (p : Nat) : State :=
  { s.modPort p (fun q => { q with winStart := s.errWindow }) with
    tx := tabSet TxPort.new p { s.txPort p with wait := (s.txPort p).wait.filter (fun f => f.type == 3) } s.tx }

theorem State.isolatePort_eq (s : State) (p : Nat) : s.isolatePort p =
    if s.portIso p then (s.mutePort p).setUnit (72 + p) 2
    else (((s.mutePort p).setUnit (72 + p) 2).fset (Fld.COL_PORT_STS.ISOLATED p) 1).bump (Fld.COL_PORT_ERRB.ISO_EVENTS p)
      (Fld.COL_PORT_ERRB.ISO_SAT p) := rfl

theorem State.mutePort_wait (s : State) (p : Nat) :
    ((s.mutePort p).txPort p).wait = (s.txPort p).wait.filter (fun f => f.type == 3) := by
  simp [State.mutePort, State.txPort]

theorem State.mutePort_port (s : State) (p q : Nat) : ((s.mutePort p).port q).lastFirefly = (s.port q).lastFirefly := by
  have h : (s.mutePort p).port q = (s.modPort p (fun q => { q with winStart := s.errWindow })).port q := rfl
  rw [h]
  by_cases e : q = p
  · rw [e, State.port_modPort_self]
  · rw [State.port_modPort_ne _ e]

end Machine

/-- What the isolation of a port leaves (R82). -/
structure Isolated (s t : State) (p : Nat) : Prop where
  iso : t.portIso p = true
  unit : t.unitSt (72 + p) = 2
  wait : (t.txPort p).wait = (s.txPort p).wait.filter (fun f => f.type == 3)
  out : t.out = s.out
  flt : t.flt = s.flt
  port : ∀ q, (t.port q).lastFirefly = (s.port q).lastFirefly
  work : ColWork s t

theorem Isolated.of_mutePort {s t : State} {p : Nat} (ht : t = { s.mutePort p with regs := t.regs }) (hi : t.portIso p = true)
    (hu : t.unitSt (72 + p) = 2) : Isolated s t p where
  iso := hi
  unit := hu
  wait := by
    rw [← s.mutePort_wait p, ht]
    rfl
  out := by rw [ht]; rfl
  flt := by rw [ht]; rfl
  port q := by
    rw [← s.mutePort_port p q, ht]
    rfl
  work := by
    unfold ColWork
    rw [ht]
    rfl

theorem Machine.State.isolated (s : State) {p : Nat} (hp : p < 4) : Isolated s (s.isolatePort p) p := by
  have hb : ∀ p < 4, (Fld.COL_PORT_STS.ISOLATED p).bit ∉
      [Fld.FLT_UNIT_STS.STATE (72 + p), Fld.FLT_STS.ISOLATED, Fld.FLT_STS.FAULTED].map Field.bit := by decide
  have hne : ∀ p < 4, (Fld.FLT_UNIT_STS.STATE (72 + p)).bit ∉ [Fld.COL_PORT_STS.ISOLATED p, Fld.COL_PORT_ERRB.ISO_EVENTS p,
      Fld.COL_PORT_ERRB.ISO_SAT p].map Field.bit := by decide
  have hd : ∀ p < 4, (Fld.COL_PORT_STS.ISOLATED p).bit ≠ (Fld.COL_PORT_ERRB.ISO_EVENTS p).bit ∧
      (Fld.COL_PORT_STS.ISOLATED p).bit ≠ (Fld.COL_PORT_ERRB.ISO_SAT p).bit := by decide
  have hu : ((s.mutePort p).setUnit (72 + p) 2).unitSt (72 + p) = 2 := State.unitSt_setUnit _ (by omega) 2
  have hr : RegsBut [Fld.FLT_UNIT_STS.STATE (72 + p), Fld.FLT_STS.ISOLATED, Fld.FLT_STS.FAULTED] s
      ((s.mutePort p).setUnit (72 + p) 2) := ((RegsBut.refl _ s).same (u := s.mutePort p)).fset.fput.fset
  have he : (s.mutePort p).setUnit (72 + p) 2 = { s.mutePort p with regs := ((s.mutePort p).setUnit (72 + p) 2).regs } := rfl
  rw [State.isolatePort_eq]
  generalize (s.mutePort p).setUnit (72 + p) 2 = v at hu hr he
  split
  · next h => exact .of_mutePort he (by simpa only [State.portIso, State.on, hr _ (hb p hp)] using h) hu
  · refine .of_mutePort ?_ ?_ ?_
    · rw [State.bump_eq, he]
      rfl
    · simp only [State.portIso, State.on, State.fget_bump_ne _ (hd p hp).1 (hd p hp).2, State.fget_fset_self]
      rfl
    · have hw : RegsBut [Fld.COL_PORT_STS.ISOLATED p, Fld.COL_PORT_ERRB.ISO_EVENTS p, Fld.COL_PORT_ERRB.ISO_SAT p] v
          ((v.fset (Fld.COL_PORT_STS.ISOLATED p) 1).bump (Fld.COL_PORT_ERRB.ISO_EVENTS p) (Fld.COL_PORT_ERRB.ISO_SAT p)) :=
        (RegsBut.refl _ _).fset.bump
      rw [State.unitSt, hw _ (hne p hp)]
      exact hu

namespace Machine

theorem State.txStep_spec {s : State} {p : Nat} {f : Frame} (hn : (s.txPort p).next = some f) (hf : (s.txPort p).freeAt ≤ s.now) :
    (s.txStep p).out = s.out ++ [.frame p (f.stamped (s.timeAt (s.txPort p).freeAt))] ∧ f ∈ (s.txPort p).wait ∧
    (∀ g ∈ (s.txPort p).wait, f.cls ≤ g.cls) ∧ ((s.txStep p).txPort p).wait = (s.txPort p).wait.erase f := by
  have hm : f ∈ (s.txPort p).wait.argmin Frame.cls := by rw [← TxPort.next_eq, hn]; rfl
  have hs : s.txStep p = s.startFrame p f (s.txPort p).freeAt ((s.txPort p).wait.erase f) := by
    simp only [State.txStep, hn, if_pos hf]
  rw [hs, State.txPort_startFrame, if_pos rfl]
  exact ⟨rfl, List.argmin_mem hm, fun g hg => List.le_of_mem_argmin hg hm, rfl⟩

end Machine

/-- Settles O8: each row's effect, from what a selection, a port's coming up, an end of isolation and a frame handed over leave. -/
theorem portsSelectionAndPeriodicFrames : Obligations.PortsSelectionAndPeriodicFrames := by
  unfold Obligations.PortsSelectionAndPeriodicFrames
  refine ⟨?_, ?_, ?_, ?_, ?_, ?_, ?_, ?_, ?_, ?_, ?_, ?_⟩
  · intro s dt p hp hi c hc
    rcases hc with ⟨rfl, ha, hw⟩ | ⟨rfl, hw⟩
    · obtain ⟨h1, h2, h3, h4, h5, h6⟩ := liftIsolation_spec hp hi rfl
      refine ⟨s.liftIsolation p, ?_, h1, h2, h3, h4, h5, ?_⟩
      · change execIsolationAutoLift p s = _
        simp [execIsolationAutoLift, isolationAutoLift, ha, hw]
      · rw [h6]
    · obtain ⟨h1, h2, h3, h4, h5, h6⟩ := liftIsolation_spec (s := s.elapse dt) hp (by simpa [State.portIso] using hi) rfl
      refine ⟨(s.elapse dt).liftIsolation p, ?_, h1, h2, h3, h4.of_flt (State.elapse_flt ..), ?_, ?_⟩
      · change execIsolationLift dt p s = _
        simp [execIsolationLift, State.viaReg, hw, hp]
      · intro q hq
        rw [h5 q hq, State.port, State.elapse_ports]
        rfl
      · rw [h6, State.elapse_only]
  · intro s dt p hp hs hr ht
    have hl := s.elapse_sameLink dt
    have hs' : (s.elapse dt).isStandalone = false := by rwa [hl.isStandalone]
    have hr' : (s.elapse dt).portRole p ≠ 0 := by rwa [hl.portRole hp]
    have ht' : (s.elapse dt).thoborOn = true := by rwa [hl.dom]
    have hv : RoleView s (s.elapse dt) := .of_regs (State.elapse_regs ..)
    rw [← hl.portIso hp, ← hv.roleFrame hp]
    have hb : RegsBut [Fld.COL_PORT_STS.LINK_UP p, Fld.COL_PORT_STS.SILENT p] s ((s.elapse dt).cameUp p) :=
      .of_elapse ((s.elapse dt).cameUp_regsBut p)
    have hw := (s.elapse dt).cameUp_regsCol p
    have hsh := (s.elapse dt).cameUp_shows p
    have hln := (s.elapse dt).cameUp_sameLine p
    have e := State.cameUp_sends hp hs' hr' ht'
    have ex : exec (.portUp dt p) s = .next (portUp p (s.elapse dt)) := rfl
    rw [portUp_eq hs' hr' ht', e] at ex
    refine ⟨_, ex, ?_⟩
    have hx := ((s.elapse dt).cameUp p).sendOn_only (if (s.elapse dt).portIso p then [] else [p]) ((s.elapse dt).roleFrame p)
    have hsent := hln.sent (if (s.elapse dt).portIso p then [] else [p]) ((s.elapse dt).roleFrame p)
    generalize (State.sendOn _ _ _) = t at hx hsent ⊢
    obtain ⟨hup, hsi, hff⟩ := hsh
    refine ⟨?_, ?_, ?_, hsent, ?_, hb.same hx.regs⟩
    · simpa only [State.portUp, State.on, State.fget, hx.regs] using hup
    · simpa only [State.portSilent, State.on, State.fget, hx.regs] using hsi
    · rw [State.port_congr hx.col, hff]
    · exact (hw.colWork.txOnly hx).regsColTx (hx.flt.trans hw.flt)
  · exact fun _ _ _ => rfl
  · intro s p hu hf
    change execPortSilent p s = _
    simp [execPortSilent, portSilentRow, hu, hf]
  · intro s p hm h hl
    exact ⟨_, rfl, backupSelect_spec hm h hl rfl rfl⟩
  · intro s p hm hu hf hs
    have h := s.selected p
    have e : exec .upstreamSelect s = .next (s.select p) := by
      change execUpstreamSelect s = _
      simp [execUpstreamSelect, upstreamSelect, hm, hu, hf, hs]
    exact ⟨s.select p, e, h.selected, h.lost, fun h0 => h.state (.inl h0), h.work⟩
  · exact fun s => ⟨congrArg Host.Outcome.next (rolePeriodic_eq s), fun p => State.mem_rolePorts⟩
  · intro s f hr hp hn
    have hx := s.sendOn_only s.downPorts f
    rw [← configPeriodic_sends hr hp hn] at hx
    refine ⟨configPeriodic s, rfl, ?_, hx⟩
    rw [configPeriodic_sends hr hp hn]
    exact ⟨rfl, rfl⟩
  · intro s hr
    have hx : TxOnly s (s.announceEmpty s.announceDue) := s.announceDue_only.trans (s.announceEmpty_only _)
    refine ⟨epochAnnounceSend s, rfl, ?_⟩
    rw [epochAnnounceSend_eq hr]
    refine ⟨?_, fun x m hm hx p hp => ?_, fun he hn p hp => ?_, ?_⟩
    · rw [State.modCol, hx.col]
    · exact (handed_announceDue hm hx hp).announceEmpty.congr rfl rfl
    · exact (handed_announceEmpty he hn hp).congr rfl rfl
    · unfold TxOnly at hx
      rw [State.modCol, hx]
  · exact fun s p f => ⟨fun hw hf => State.sendFrame_free hw hf f, fun h => State.sendFrame_busy h f⟩
  · intro s p hp
    have h := s.isolated hp
    exact ⟨h.iso, h.wait, h.out⟩
  · exact fun s p f hn hf => State.txStep_spec hn hf

end Sys2Proof

/-! # What each Thobor frame that passes its checks does (O7) -/

namespace Sys2Proof
open Machine

/-! ## The clock of a member (R53, R54, R56) -/

/-- Registers, the colony's state, its clock and the beat are all that differs. -/
def ClockWork (s t : State) : Prop := t = { s with regs := t.regs, col := t.col, colTime := t.colTime, beat := t.beat }

namespace ClockWork
variable {s t u : State}

theorem refl (s : State) : ClockWork s s := Eq.refl s
theorem trans (h : ClockWork s t) (k : ClockWork t u) : ClockWork s u := by unfold ClockWork at *; rw [k, h]
theorem of_regsCol (h : RegsCol s t) : ClockWork s t := by unfold ClockWork; rw [h]
theorem fset {f v} (h : ClockWork s t) : ClockWork s (t.fset f v) := h.trans (Eq.refl _)
theorem modCol {f} (h : ClockWork s t) : ClockWork s (t.modCol f) := h.trans (Eq.refl _)

end ClockWork

namespace Machine

/-- The fields that a step of colony time may change (R56, R57, R75). -/
@[simp] def stepFields : List Field := [Fld.COL_TIME_STS.STEPPED, Fld.COL_PLUNGE_STS.LATE, Fld.COL_PLUNGE_CNT.LATE_CUTS,
  Fld.COL_PLUNGE_CNT.LATE_SAT, Fld.COL_PLUNGE_STS.CUT_BEAT]

/-- Colony time has stepped, and STEPPED says so. -/
def State.stepped (s : State) (offset : Int) : State :=
  ({ s with colTime := ((s.colTime : Int) - offset).toNat } : State).fset Fld.COL_TIME_STS.STEPPED 1

/-- The beat that the tables belong to does not lie behind a step back. -/
def State.beatBack (s : State) (old : Nat) : State := if s.curBeat < old then { s with beat := min s.beat s.curBeat } else s

/-- A plunge or a later cut of this module's own that a step skips shows as late (R57, R75). -/
def State.showLate (s : State) (late : Bool) : State :=
  if late then
    match s.col.window with
    | some w => if w.cut then (s.fset Fld.COL_PLUNGE_STS.LATE 1).bump Fld.COL_PLUNGE_CNT.LATE_CUTS Fld.COL_PLUNGE_CNT.LATE_SAT
      else ((s.fset Fld.COL_PLUNGE_STS.LATE 1).bump Fld.COL_PLUNGE_CNT.LATE_CUTS Fld.COL_PLUNGE_CNT.LATE_SAT).fset
        Fld.COL_PLUNGE_STS.CUT_BEAT w.tw
    | none => (s.fset Fld.COL_PLUNGE_STS.LATE 1).bump Fld.COL_PLUNGE_CNT.LATE_CUTS Fld.COL_PLUNGE_CNT.LATE_SAT
  else s

theorem State.stepTime_eq (s : State) (offset : Int) : ∃ w' o' late, s.stepTime offset =
    (((s.stepped offset).beatBack s.curBeat).modCol (fun c => { c with window := w', ownCut := o' })).showLate late :=
  ⟨_, _, _, rfl⟩

theorem State.showLate_eq (s : State) (late : Bool) : s.showLate late = { s with regs := (s.showLate late).regs } := by
  unfold State.showLate
  split
  · split
    · split
      · rw [State.bump_eq]
        rfl
      · rw [State.bump_eq]
        rfl
    · rw [State.bump_eq]
      rfl
  · rfl

theorem State.showLate_regsBut (s : State) (late : Bool) : RegsBut [Fld.COL_PLUNGE_STS.LATE, Fld.COL_PLUNGE_CNT.LATE_CUTS,
    Fld.COL_PLUNGE_CNT.LATE_SAT, Fld.COL_PLUNGE_STS.CUT_BEAT] s (s.showLate late) := by
  unfold State.showLate
  have h := (RegsBut.refl [Fld.COL_PLUNGE_STS.LATE, Fld.COL_PLUNGE_CNT.LATE_CUTS,
    Fld.COL_PLUNGE_CNT.LATE_SAT, Fld.COL_PLUNGE_STS.CUT_BEAT] s).fset (f := Fld.COL_PLUNGE_STS.LATE) (v := 1)
    |>.bump (c := Fld.COL_PLUNGE_CNT.LATE_CUTS) (o := Fld.COL_PLUNGE_CNT.LATE_SAT) (n := 1)
  split
  · split
    · exact .ite h h.fset
    · exact h
  · exact .refl _ s

theorem State.beatBack_eq (s : State) (old : Nat) : s.beatBack old = { s with beat := (s.beatBack old).beat } := by
  unfold State.beatBack
  split <;> rfl

end Machine

/-- What a step of colony time by `-offset` leaves (R56). -/
structure Stepped (s t : State) (offset : Int) : Prop where
  work : ClockWork s t
  regs : RegsBut stepFields s t
  ports : t.col.ports = s.col.ports
  colTime : t.colTime = ((s.colTime : Int) - offset).toNat
  shows : t.fget Fld.COL_TIME_STS.STEPPED = 1

theorem Machine.State.stepTime_stepped (s : State) (offset : Int) : Stepped s (s.stepTime offset) offset := by
  obtain ⟨w', o', late, e⟩ := s.stepTime_eq offset
  rw [e]
  have hr := (((s.stepped offset).beatBack s.curBeat).modCol (fun c => { c with window := w', ownCut := o' })).showLate_regsBut late
  have he := (((s.stepped offset).beatBack s.curBeat).modCol (fun c => { c with window := w', ownCut := o' })).showLate_eq late
  have hb : (((s.stepped offset).beatBack s.curBeat).modCol (fun c => { c with window := w', ownCut := o' })) =
      { s.stepped offset with
        beat := ((s.stepped offset).beatBack s.curBeat).beat
        col := { s.col with window := w', ownCut := o' } } := by
    rw [State.beatBack_eq]
    rfl
  have hs : ((s.stepped offset).fget Fld.COL_TIME_STS.STEPPED) = 1 := by
    rw [State.stepped, State.fget_fset_self]
    rfl
  have hsr : RegsBut [Fld.COL_TIME_STS.STEPPED] s (s.stepped offset) := (RegsBut.same (t := s) (.refl _ s)).fset
  generalize ((s.stepped offset).beatBack s.curBeat).modCol (fun c => { c with window := w', ownCut := o' }) = v at hr he hb
  have hv : v.regs = (s.stepped offset).regs := by rw [hb]
  refine ⟨?_, ?_, ?_, ?_, ?_⟩
  · unfold ClockWork
    rw [he, hb]
    rfl
  · exact ((hsr.same hv).mono).trans hr.mono
  · rw [he, hb]
  · rw [he, hb]
    rfl
  · rw [hr _ (by decide)]
    simpa only [State.fget, hv] using hs

namespace Machine

/-! ### The rule of an offset beyond 1,000 ns, the servo and the time state -/

/-- The fields that a measurement may change beyond COL_SYNC. -/
@[simp] def clockFields : List Field := Fld.COL_TIME_STS.TIME_FAR :: stepFields

theorem State.stepRule_work (s : State) (offset : Int) :
    ClockWork s (s.stepRule offset) ∧ RegsBut clockFields s (s.stepRule offset) ∧
      (s.stepRule offset).col.ports = s.col.ports := by
  have h := s.stepTime_stepped offset
  have hf : ClockWork s ((s.stepTime offset).fset Fld.COL_TIME_STS.TIME_FAR 0) ∧
      RegsBut clockFields s ((s.stepTime offset).fset Fld.COL_TIME_STS.TIME_FAR 0) ∧
      ((s.stepTime offset).fset Fld.COL_TIME_STS.TIME_FAR 0).col.ports = s.col.ports :=
    ⟨h.work.fset, h.regs.mono.fset, h.ports⟩
  unfold State.stepRule
  split
  · exact hf
  · exact hf
  · split
    · exact hf
    · split
      · exact ⟨(ClockWork.refl s).modCol.fset, (RegsBut.refl _ s).modCol.fset, rfl⟩
      · exact ⟨(ClockWork.refl s).fset, (RegsBut.refl _ s).fset, rfl⟩
  · split
    · exact hf
    · split
      · exact ⟨(ClockWork.refl s).modCol.fset, (RegsBut.refl _ s).modCol.fset, rfl⟩
      · exact ⟨(ClockWork.refl s).fset, (RegsBut.refl _ s).fset, rfl⟩
  · exact ⟨.refl s, .refl _ s, rfl⟩

theorem State.stepRule_training {s : State} (h : s.dev = .training) (offset : Int) :
    s.stepRule offset = (s.stepTime offset).fset Fld.COL_TIME_STS.TIME_FAR 0 := by
  simp only [State.stepRule, h]

theorem State.lockRule_regsCol (s : State) (offset : Int) : RegsCol s (s.lockRule offset) := by
  unfold State.lockRule
  dsimp only
  split
  · exact .ite (RegsCol.refl s).modCol.fset.modCol (RegsCol.refl s).modCol
  · exact .ite (RegsCol.refl s).modCol.fset.modCol (RegsCol.refl s).modCol
  · exact (RegsCol.refl s).modCol

theorem State.lockRule_regsBut (s : State) (offset : Int) : RegsBut [Fld.COL_TIME_STS.STATE] s (s.lockRule offset) := by
  unfold State.lockRule
  dsimp only
  split
  · exact .ite (RegsBut.refl _ s).modCol.fset.modCol (RegsBut.refl _ s).modCol
  · exact .ite (RegsBut.refl _ s).modCol.fset.modCol (RegsBut.refl _ s).modCol
  · exact (RegsBut.refl _ s).modCol

theorem State.lockRule_col (s : State) (offset : Int) :
    (s.lockRule offset).col.ports = s.col.ports ∧ (s.lockRule offset).col.trim64 = s.col.trim64 := by
  unfold State.lockRule
  dsimp only
  split
  · exact iteInduction (motive := fun t : State => t.col.ports = _ ∧ t.col.trim64 = _) (fun _ => ⟨rfl, rfl⟩) fun _ => ⟨rfl, rfl⟩
  · exact iteInduction (motive := fun t : State => t.col.ports = _ ∧ t.col.trim64 = _) (fun _ => ⟨rfl, rfl⟩) fun _ => ⟨rfl, rfl⟩
  · exact ⟨rfl, rfl⟩

/-- The 16th consecutive beat within 8 ns locks the time (R54). -/
theorem State.lockRule_locks {s : State} {offset : Int} (ho : offset.natAbs ≤ 8) (hs : s.fget Fld.COL_TIME_STS.STATE = 1)
    (hg : 15 ≤ s.col.good) (hm : s.col.measAt = s.curBeat) : (s.lockRule offset).fget Fld.COL_TIME_STS.STATE = 2 := by
  have h16 : 16 ≤ s.col.good + 1 := by omega
  simp [State.lockRule, State.setTime, ho, hs, hm, h16, State.fget_fset_self]
  rfl

theorem State.measured_eq (s : State) (delay offset : Int) : s.measured delay offset =
    (if 1000 < offset.natAbs then
      ((s.fset Fld.COL_SYNC.DELAY_NS (toField 16 delay)).fset Fld.COL_SYNC.OFFSET_NS (toField 32 offset)).stepRule offset
    else ((s.fset Fld.COL_SYNC.DELAY_NS (toField 16 delay)).fset Fld.COL_SYNC.OFFSET_NS (toField 32 offset)).servo
      offset).lockRule offset := rfl

end Machine

/-- What a measurement on the selected port leaves (R53, R54, R56). -/
structure Measured (s t : State) (delay offset : Int) : Prop where
  work : ClockWork s t
  regs : RegsBut (Fld.COL_SYNC.DELAY_NS :: Fld.COL_SYNC.OFFSET_NS :: Fld.COL_TIME_STS.STATE :: clockFields) s t
  ports : t.col.ports = s.col.ports
  showsDelay : t.fget Fld.COL_SYNC.DELAY_NS = toField 16 delay
  showsOffset : t.fget Fld.COL_SYNC.OFFSET_NS = toField 32 offset
  near : offset.natAbs ≤ 1000 → t.colTime = s.colTime ∧ t.fget Fld.COL_TIME_STS.TIME_FAR = 0 ∧
    t.col.trim64 = max (-12800) (min 12800 (s.col.trim64 - offset))
  far : 1000 < offset.natAbs → s.dev = .training → t.colTime = ((s.colTime : Int) - offset).toNat ∧
    t.fget Fld.COL_TIME_STS.STEPPED = 1
  locks : offset.natAbs ≤ 8 → s.fget Fld.COL_TIME_STS.STATE = 1 → 15 ≤ s.col.good → s.col.measAt = s.curBeat →
    t.fget Fld.COL_TIME_STS.STATE = 2

/-- COL_SYNC shows the measurement. -/
def Machine.State.showSync (s : State) (delay offset : Int) : State :=
  (s.fset Fld.COL_SYNC.DELAY_NS (toField 16 delay)).fset Fld.COL_SYNC.OFFSET_NS (toField 32 offset)

theorem toField_mod (w : Nat) (i : Int) : toField w i % 2 ^ w = toField w i := by
  have h : 0 < ((2 ^ w : Nat) : Int) := by positivity
  have := Int.emod_lt_of_pos i h
  refine Nat.mod_eq_of_lt ?_
  rw [toField]
  omega

theorem Machine.State.measured_measured (s : State) (delay offset : Int) : Measured s (s.measured delay offset) delay offset := by
  have hd : (s.showSync delay offset).fget Fld.COL_SYNC.DELAY_NS = toField 16 delay := by
    rw [State.showSync, State.fget_fset_ne _ (by decide), State.fget_fset_self]
    exact toField_mod 16 delay
  have ho : (s.showSync delay offset).fget Fld.COL_SYNC.OFFSET_NS = toField 32 offset := by
    rw [State.showSync, State.fget_fset_self]
    exact toField_mod 32 offset
  have hr : RegsBut [Fld.COL_SYNC.DELAY_NS, Fld.COL_SYNC.OFFSET_NS] s (s.showSync delay offset) := (RegsBut.refl _ s).fset.fset
  have he : s.showSync delay offset = { s with regs := (s.showSync delay offset).regs } := rfl
  rw [State.measured_eq, ← State.showSync]
  generalize s.showSync delay offset = v at hd ho hr he
  have hst : v.fget Fld.COL_TIME_STS.STATE = s.fget Fld.COL_TIME_STS.STATE := hr _ (by decide)
  have hcw : ClockWork s v := by rw [he]; exact Eq.refl _
  have hcol : v.col = s.col := by rw [he]
  have hdev : v.dev = s.dev := by rw [he]
  have htime : v.colTime = s.colTime := by rw [he]
  by_cases hf : 1000 < offset.natAbs
  · rw [if_pos hf]
    obtain ⟨h1, h2, h3⟩ := v.stepRule_work offset
    have hst := fun h : v.dev = .training => State.stepRule_training h offset
    generalize v.stepRule offset = u at h1 h2 h3 hst
    have k1 := u.lockRule_regsCol offset
    have k2 := u.lockRule_regsBut offset
    have k3 := (u.lockRule_col offset).1
    generalize u.lockRule offset = t at k1 k2 k3
    exact
      { work := (hcw.trans h1).trans (.of_regsCol k1)
        regs := (hr.mono.trans h2.mono).trans k2.mono
        ports := by rw [k3, h3, hcol]
        showsDelay := by rw [k2 _ (by decide), h2 _ (by decide), hd]
        showsOffset := by rw [k2 _ (by decide), h2 _ (by decide), ho]
        near := fun h => by omega
        far := fun _ h => by
          have hs := v.stepTime_stepped offset
          rw [k2 _ (by decide), k1.colTime, hst (hdev.trans h), State.fget_fset_ne _ (by decide), hs.shows]
          exact ⟨hs.colTime.trans (by rw [htime]), rfl⟩
        locks := fun h => by omega }
  · rw [if_neg hf]
    have h1 : RegsCol v (v.servo offset) := (RegsCol.refl v).modCol.fset
    have h2 : RegsBut [Fld.COL_TIME_STS.TIME_FAR] v (v.servo offset) := (RegsBut.refl _ v).modCol.fset
    have h3 : (v.servo offset).fget Fld.COL_TIME_STS.TIME_FAR = 0 := State.fget_fset_self ..
    have h4 : (v.servo offset).col.ports = v.col.ports ∧ (v.servo offset).col.good = v.col.good ∧
        (v.servo offset).col.measAt = v.col.measAt ∧
        (v.servo offset).col.trim64 = max (-12800) (min 12800 (v.col.trim64 - offset)) := ⟨rfl, rfl, rfl, rfl⟩
    obtain ⟨hp, hg, hm, ht⟩ := h4
    generalize v.servo offset = u at *
    have k1 := u.lockRule_regsCol offset
    have k2 := u.lockRule_regsBut offset
    obtain ⟨k3, k4⟩ := u.lockRule_col offset
    have k5 := State.lockRule_locks (s := u) (offset := offset)
    generalize u.lockRule offset = t at *
    exact
      { work := (hcw.trans (.of_regsCol h1)).trans (.of_regsCol k1)
        regs := (hr.mono.trans h2.mono).trans k2.mono
        ports := by rw [k3, hp, hcol]
        showsDelay := by rw [k2 _ (by decide), h2 _ (by decide), hd]
        showsOffset := by rw [k2 _ (by decide), h2 _ (by decide), ho]
        near := fun _ => ⟨by rw [k1.colTime, h1.colTime, htime], by rw [k2 _ (by decide), h3], by rw [k4, ht, hcol]⟩
        far := fun h => absurd h hf
        locks := fun ho hs hgd hma => k5 ho (by rw [h2 _ (by decide), hst, hs]) (by rw [hg, hcol]; exact hgd)
          (by rw [hm, hcol, hma, State.curBeat, State.curBeat, h1.colTime, htime]) }


/-! ## A frame that its port takes (R50, R59, R81) -/

/-- The state a frame's own rule begins in: its code violations are counted. -/
structure Heard (s c : State) (p n : Nat) : Prop where
  only : c = { s with regs := c.regs }
  regs : RegsBut [Fld.COL_PORT_ERRA.CODE_ERR p, Fld.COL_PORT_ERRA.CODE_SAT p] s c
  link : SameLink s c
  counts : n ≠ 0 → c.fget (Fld.COL_PORT_ERRA.CODE_ERR p) =
    min (s.fget (Fld.COL_PORT_ERRA.CODE_ERR p) + n) (Fld.COL_PORT_ERRA.CODE_ERR p).max

namespace Heard
variable {s c : State} {p n : Nat}

theorem col (h : Heard s c p n) : c.col = s.col := by rw [h.only]
theorem flt (h : Heard s c p n) : c.flt = s.flt := by rw [h.only]
theorem tx (h : Heard s c p n) : c.tx = s.tx := by rw [h.only]
theorem out (h : Heard s c p n) : c.out = s.out := by rw [h.only]
theorem regsCol (h : Heard s c p n) : RegsCol s c := by unfold RegsCol; rw [h.only]
theorem curBeat (h : Heard s c p n) : c.curBeat = s.curBeat := h.regsCol.curBeat
theorem port (h : Heard s c p n) (q : Nat) : c.port q = s.port q := State.port_congr h.col q

end Heard

theorem Machine.State.codeErrors_heard (s : State) (p n : Nat) : Heard s (s.codeErrors p n) p n where
  only := s.codeErrors_eq p n
  regs := s.codeErrors_regsBut p n
  link := s.codeErrors_sameLink p n
  counts h := by
    rw [State.codeErrors, if_neg h, State.fget_bump_self _ (by simp only [Fld.COL_PORT_ERRA.CODE_ERR, Fld.COL_PORT_ERRA.CODE_SAT]; omega)]

theorem SameLink.selRoot {s t : State} (h : SameLink s t) (e : t.col.ports = s.col.ports) : t.selRoot = s.selRoot := by
  simp only [State.selRoot, h.selPort, State.port, e]

namespace Machine

/-- No other root is heard (R59). -/
theorem State.checkRoot_same {s : State} {root : Nat} {beacon : Bool} (hm : s.isMember = true ∨ beacon = false)
    (h : s.isMember = true → ∀ x, s.selRoot = some x → root = x) : s.checkRoot root beacon = s := by
  refine if_neg ?_
  cases hb : s.isMember with
  | false => simp [hm.resolve_left (by simp [hb])]
  | true =>
    have hr := h hb
    cases hx : s.selRoot with
    | none => simp
    | some x => simp [hr x hx]

/-- Another root is heard (R59). -/
theorem State.checkRoot_other {s : State} {root x : Nat} (hm : s.isMember = true) (hx : s.selRoot = some x) (h : root ≠ x)
    (beacon : Bool) : s.checkRoot root beacon = (s.fset Fld.COL_TIME_STS.ROOT_CONFLICT 1).fault (srcOf 76 7) 0x49 root := by
  refine if_pos ?_
  simp [hm, hx, h.symm]

end Machine

/-! ## BEACON (R43, R53) -/

namespace Machine

/-- The last BEACON of a port is kept. -/
def State.keepBeacon (s : State) (p hops root st : Nat) : State :=
  s.modPort p (fun q => { q with beacon := some (BeaconInfo.mk hops root st), rootSeen := some root })

/-- A BEACON of the selected port that answers a FIREFLY of which t3 is known. -/
theorem beaconRx_selected {s : State} {p t2 tx st root e4 eq t3 : Nat} {f : Frame} (h : Hears s p f)
    (hf : f.body = .beacon tx st root e4 eq) (hm : s.isMember = true) (hr : s.portRole p = 1 ∨ s.portRole p = 3)
    (hs : s.selPort = some p) (hx : ∀ x, s.selRoot = some x → root = x)
    (ht : (s.txPort p).t3.find? (fun e => e.1 == eq) = some (eq, t3)) {delay off : Int}
    (hd : delay = (diff32 (diff32 ((t2 : Int) - tx) 0 + diff32 e4 t3) 0).tdiv 2)
    (ho : off = (t2 : Int) - tx - delay - ofField 8 (s.fget (Fld.COL_PORT_CFG.ASYM_NS p))) :
    beaconRx p t2 f s = (((s.codeErrors p f.codeErrs).keepBeacon p f.hops root st).takeDepth f.hops root).measured delay off := by
  have hc := s.codeErrors_heard p f.codeErrs
  have hen : (s.isMember && (s.portRole p == 1 || s.portRole p == 3)) = true := by simpa [hm] using hr
  have hp := h.1
  have e : beaconRx p t2 f s = s.rxFrame p f true false (fun s =>
      let sel := s.selPort == some p
      let s := s.keepBeacon p f.hops root st
      let s := if sel then s.takeDepth f.hops root else s
      match (s.txPort p).t3.find? (fun e => e.1 == eq) with
      | some e =>
        let fwd : Int := (t2 : Int) - (tx : Int)
        let delay := (diff32 (diff32 fwd 0 + diff32 (e4 : Int) (e.2 : Int)) 0).tdiv 2
        let offset := fwd - delay - ofField 8 (s.fget (Fld.COL_PORT_CFG.ASYM_NS p))
        if sel then s.measured delay offset else s
      | none => s) := by
    simp only [beaconRx, hf, hen, State.checkRoot_same (.inl hm) (fun _ => hx), ite_self]
    rfl
  rw [e, h.taken]
  generalize s.codeErrors p f.codeErrs = c at hc
  have hv : ((c.keepBeacon p f.hops root st).takeDepth f.hops root).txPort p = s.txPort p := by
    rw [State.takeDepth_eq]
    simp only [State.txPort, ← hc.tx]
    rfl
  have ha : ∀ p < 4, (Fld.COL_PORT_CFG.ASYM_NS p).bit ∉ depthFields.map Field.bit ∧ (Fld.COL_PORT_CFG.ASYM_NS p).bit ∉
      [Fld.COL_PORT_ERRA.CODE_ERR p, Fld.COL_PORT_ERRA.CODE_SAT p].map Field.bit := by decide
  have hy : ((c.keepBeacon p f.hops root st).takeDepth f.hops root).fget (Fld.COL_PORT_CFG.ASYM_NS p) =
      s.fget (Fld.COL_PORT_CFG.ASYM_NS p) := by
    rw [(c.keepBeacon p f.hops root st).takeDepth_regsBut _ _ _ (ha p hp).1, ← hc.regs _ (ha p hp).2]
    rfl
  simp only [hc.link.selPort, hs, beq_self_eq_true, if_true, hv, ht, hy, ← hd, ← ho]

end Machine

/-- What a BEACON of the selected port leaves (R43, R53). -/
theorem beaconRx_spec {s t : State} {p t2 tx st root e4 eq t3 : Nat} {f : Frame} (h : Hears s p f)
    (hf : f.body = .beacon tx st root e4 eq) (hm : s.isMember = true) (hr : s.portRole p = 1 ∨ s.portRole p = 3)
    (hs : s.selPort = some p) (hx : ∀ x, s.selRoot = some x → root = x)
    (ht : (s.txPort p).t3.find? (fun e => e.1 == eq) = some (eq, t3)) {delay off : Int}
    (hd : delay = (diff32 (diff32 ((t2 : Int) - tx) 0 + diff32 e4 t3) 0).tdiv 2)
    (ho : off = (t2 : Int) - tx - delay - ofField 8 (s.fget (Fld.COL_PORT_CFG.ASYM_NS p))) (e : t = beaconRx p t2 f s) :
    t.fget Fld.COL_SYNC.DELAY_NS = toField 16 delay ∧ t.fget Fld.COL_SYNC.OFFSET_NS = toField 32 off ∧
    t.fget Fld.COL_TIME_STS.DEPTH = min (f.hops + 1) 15 ∧ (t.port p).beacon = some (BeaconInfo.mk f.hops root st) ∧
    (off.natAbs ≤ 1000 → t.colTime = s.colTime ∧ t.fget Fld.COL_TIME_STS.TIME_FAR = 0 ∧
      t.col.trim64 = max (-12800) (min 12800 (s.col.trim64 - off))) ∧
    (1000 < off.natAbs → s.dev = .training →
      t.colTime = ((s.colTime : Int) - off).toNat ∧ t.fget Fld.COL_TIME_STS.STEPPED = 1) ∧
    (off.natAbs ≤ 8 → s.fget Fld.COL_TIME_STS.STATE = 1 → 15 ≤ s.col.good → s.col.measAt = s.curBeat →
      t.fget Fld.COL_TIME_STS.STATE = 2) ∧ ClockWork s t := by
  rw [beaconRx_selected h hf hm hr hs hx ht hd ho] at e
  have hc := s.codeErrors_heard p f.codeErrs
  generalize s.codeErrors p f.codeErrs = c at hc e
  have hv := (c.keepBeacon p f.hops root st).takeDepth_regsBut f.hops root
  have hd := (c.keepBeacon p f.hops root st).takeDepth_depth f.hops root
  have he := (c.keepBeacon p f.hops root st).takeDepth_eq f.hops root
  have hb : ((c.keepBeacon p f.hops root st).port p).beacon = some (BeaconInfo.mk f.hops root st) := by
    rw [State.keepBeacon, State.port_modPort_self]
  generalize (c.keepBeacon p f.hops root st).takeDepth f.hops root = v at hv hd he e
  have hM := v.measured_measured delay off
  rw [← e] at hM
  have hcw : ClockWork c v := by rw [he]; exact Eq.refl _
  have htime : v.colTime = s.colTime := by rw [he]; exact hc.regsCol.colTime
  have hcol : v.col.trim64 = s.col.trim64 ∧ v.col.good = s.col.good ∧ v.col.measAt = s.col.measAt := by
    rw [he, ← hc.col]
    exact ⟨rfl, rfl, rfl⟩
  have hdev : v.dev = s.dev := by rw [he]; exact hc.regsCol.colWork.dev
  have hst : v.fget Fld.COL_TIME_STS.STATE = s.fget Fld.COL_TIME_STS.STATE := by
    rw [hv _ (by decide), ← hc.regs Fld.COL_TIME_STS.STATE (by
      have hb : ∀ p < 4, Fld.COL_TIME_STS.STATE.bit ∉
          [Fld.COL_PORT_ERRA.CODE_ERR p, Fld.COL_PORT_ERRA.CODE_SAT p].map Field.bit := by decide
      exact hb p h.1)]
    rfl
  refine ⟨hM.showsDelay, hM.showsOffset, ?_, ?_, ?_, ?_, ?_, ((ClockWork.of_regsCol hc.regsCol).trans hcw).trans hM.work⟩
  · rw [hM.regs _ (by decide)]
    exact hd
  · rw [State.port, hM.ports, he]
    exact hb
  · rw [← htime, ← hcol.1]
    exact hM.near
  · rw [← htime, ← hdev]
    exact hM.far
  · rw [← hst, ← hcol.2.1, ← hcol.2.2, State.curBeat, ← htime]
    exact hM.locks

/-! ## FIREFLY and ROLE (R44, R47, R59) -/

namespace Machine

/-- A FIREFLY's stamp and root are kept, and the port is not silent. -/
def State.firefly (s : State) (p t4 q root : Nat) : State :=
  (s.modPort p (fun x => { x with lastFirefly := s.curBeat, echoT4 := t4 % 2 ^ 32, echoSeq := q, rootSeen := some root })).fset
    (Fld.COL_PORT_STS.SILENT p) 0

/-- A ROLE frame names the neighbour. -/
def State.neighbour (s : State) (p origin depth root : Nat) : State :=
  ((s.fset (Fld.COL_PORT_STS.NEIGH_ID p) origin).fset (Fld.COL_PORT_STS.NEIGH_DEPTH p) depth).modPort p
    (fun q => { q with rootSeen := some root })

/-- A neighbour that carries this module's MODULE_ID is reported (R44). -/
def State.checkId (s : State) (p origin : Nat) : State :=
  if origin == s.moduleId then (s.fset Fld.COL_TIME_STS.ID_CONFLICT 1).fault (srcOf 76 7) 0x4A p else s

theorem fireflyRx_eq {s : State} {p t4 a b c q root : Nat} {f : Frame} (h : Hears s p f) (hf : f.body = .firefly a b c q root) :
    fireflyRx p t4 f s = ((s.codeErrors p f.codeErrs).checkRoot root false).firefly p t4 q root := by
  rw [fireflyRx, h.taken]
  simp only [hf]
  rfl

theorem roleRx_eq {s : State} {p d a b c root : Nat} {f : Frame} (h : Hears s p f) (hf : f.body = .role d a b c root) :
    roleRx p f s = (((s.codeErrors p f.codeErrs).checkRoot root false).neighbour p f.origin d root).checkId p f.origin := by
  rw [roleRx, h.taken]
  simp only [hf]
  rfl

theorem State.firefly_regsBut (s : State) (p t4 q root : Nat) :
    RegsBut [Fld.COL_PORT_STS.SILENT p] s (s.firefly p t4 q root) := (RegsBut.refl _ s).modPort.fset
theorem State.firefly_regsCol (s : State) (p t4 q root : Nat) : RegsCol s (s.firefly p t4 q root) := (RegsCol.refl s).modPort.fset
theorem State.firefly_port (s : State) (p t4 q root : Nat) : (s.firefly p t4 q root).port p =
    { s.port p with lastFirefly := s.curBeat, echoT4 := t4 % 2 ^ 32, echoSeq := q, rootSeen := some root } := by
  rw [State.firefly, State.port_congr (State.fset_col ..), State.port_modPort_self]

theorem State.neighbour_regsBut (s : State) (p o d root : Nat) :
    RegsBut [Fld.COL_PORT_STS.NEIGH_ID p, Fld.COL_PORT_STS.NEIGH_DEPTH p] s (s.neighbour p o d root) :=
  (RegsBut.refl _ s).fset.fset.modPort
theorem State.neighbour_regsCol (s : State) (p o d root : Nat) : RegsCol s (s.neighbour p o d root) :=
  (RegsCol.refl s).fset.fset.modPort

theorem State.neighbour_shows (s : State) (p o d root : Nat) :
    (s.neighbour p o d root).fget (Fld.COL_PORT_STS.NEIGH_ID p) = o % 2 ^ 14 ∧
    (s.neighbour p o d root).fget (Fld.COL_PORT_STS.NEIGH_DEPTH p) = d % 16 ∧
    ((s.neighbour p o d root).port p).rootSeen = some root := by
  have hb : (Fld.COL_PORT_STS.NEIGH_ID p).bit ≠ (Fld.COL_PORT_STS.NEIGH_DEPTH p).bit := by
    simp only [Fld.COL_PORT_STS.NEIGH_ID, Fld.COL_PORT_STS.NEIGH_DEPTH]
    omega
  refine ⟨?_, ?_, ?_⟩
  · rw [State.neighbour, State.modPort_fget, State.fget_fset_ne _ hb, State.fget_fset_self]
    rfl
  · rw [State.neighbour, State.modPort_fget, State.fget_fset_self]
    rfl
  · rw [State.neighbour, State.port_modPort_self]

/-- The sources of the colony's own checker (Table 14-3). -/
theorem sent_of_colony : Rst.sent (srcOf 76 7) = true := by decide

end Machine

/-! ## Errored frames (R50, R81, R82) -/

theorem mem_tabIns_of_mem {α : Type} {k : Nat} {v : α} {e : Nat × α} {m : List (Nat × α)} (h : e ∈ m) : e ∈ tabIns k v m := by
  induction m with
  | nil => cases h
  | cons a r ih =>
    rw [tabIns]
    split
    · exact List.mem_cons_of_mem _ h
    · exact (List.mem_cons.1 h).elim (fun e => e ▸ List.mem_cons_self ..) fun h => List.mem_cons_of_mem _ (ih h)

/-- A message stays in its holding register whatever is reported after it (R357). -/
theorem Machine.State.fault_keeps (s : State) (src kind addr : Nat) (cl : Bool) {e : Nat × FMsg} (h : e ∈ s.flt.hold) :
    e ∈ (s.fault src kind addr cl).flt.hold := by
  have hm : ∀ (u : State) (c i : Bool), u.flt = s.flt → e ∈ (u.sendMsg src kind addr c i).flt.hold := by
    intro u c i hu
    rw [← hu] at h
    unfold State.sendMsg
    split
    · exact h
    · split
      · rw [State.countLost, State.modFlt]
        simpa using h
      · exact mem_tabIns_of_mem h
  unfold State.fault
  split
  · exact hm _ _ _ rfl
  · exact hm _ _ _ rfl

theorem Reports.mono {src kind : Nat} {s t u : State} (h : Reports src kind s t) (hk : ∀ e ∈ t.flt.hold, e ∈ u.flt.hold) :
    Reports src kind s u := fun hs => by
  obtain ⟨m, hm, hr⟩ := h hs
  exact ⟨m, hk _ hm, hr⟩

/-- The fields that isolation shows itself in. -/
@[simp] def isoFields (p : Nat) : List Field := [Fld.FLT_UNIT_STS.STATE (72 + p), Fld.FLT_STS.ISOLATED, Fld.FLT_STS.FAULTED,
  Fld.COL_PORT_STS.ISOLATED p, Fld.COL_PORT_ERRB.ISO_EVENTS p, Fld.COL_PORT_ERRB.ISO_SAT p]

theorem Machine.State.isolatePort_regsBut (s : State) (p : Nat) : RegsBut (isoFields p) s (s.isolatePort p) := by
  rw [State.isolatePort_eq]
  have h : RegsBut (isoFields p) s ((s.mutePort p).setUnit (72 + p) 2) :=
    ((RegsBut.refl _ s).same (u := s.mutePort p)).fset.fput.fset
  exact .ite h h.fset.bump

theorem Machine.State.isolatePort_pend (s : State) (p : Nat) : (s.isolatePort p).col.pend = s.col.pend := by
  rw [State.isolatePort_eq]
  split
  · rfl
  · rw [State.bump_col]
    rfl

/-- What an errored frame of a port leaves, once counted (R82). -/
structure PortErred (s t : State) (p : Nat) : Prop where
  out : t.out = s.out
  pend : t.col.pend = s.col.pend
  keeps : ∀ e ∈ s.flt.hold, e ∈ t.flt.hold
  port : ∀ q, (t.port q).lastFirefly = (s.port q).lastFirefly
  regs : ∀ f, OffFault f → f.bit ∉ (isoFields p).map Field.bit → t.fget f = s.fget f
  isolates : s.portIso p = false → s.fget Fld.COL_ISO_CFG.THRESH = 0 → t.portIso p = true ∧ t.unitSt (72 + p) = 2

/-- An errored frame falls into the present window of port `p`, as number `n`. -/
def Machine.State.countError (s : State) (p n : Nat) : State :=
  s.modPort p (fun q => { q with errWin := n, winStart := s.errWindow })

theorem Machine.State.portError_eq (s : State) (p : Nat) : ∃ n, s.portError p =
    if s.fget Fld.COL_ISO_CFG.THRESH < n + 1 && !s.portIso p then
      ((s.countError p (n + 1)).isolatePort p).fault (srcOf (72 + p) 7) 0x4C p
    else s.countError p (n + 1) := ⟨_, rfl⟩

theorem Machine.State.countError_port (s : State) (p n q : Nat) :
    ((s.countError p n).port q).lastFirefly = (s.port q).lastFirefly := by
  by_cases e : q = p
  · rw [e, State.countError, State.port_modPort_self]
  · rw [State.countError, State.port_modPort_ne _ e]

theorem Machine.State.portError_erred (s : State) {p : Nat} (hp : p < 4) : PortErred s (s.portError p) p := by
  obtain ⟨n, e⟩ := s.portError_eq p
  have hsrc : srcOf (72 + p) 7 < 1024 := by simp only [srcOf]; omega
  have hport := s.countError_port p (n + 1)
  have hI := (s.countError p (n + 1)).isolated hp
  have hr := (s.countError p (n + 1)).isolatePort_regsBut p
  have hpd := (s.countError p (n + 1)).isolatePort_pend p
  rw [e]
  split
  · refine ⟨?_, ?_, fun x hx => State.fault_keeps _ _ _ _ _ ?_, fun q => ?_, fun f ho hb => ?_, fun _ _ => ⟨?_, ?_⟩⟩
    · rw [State.fault_out, hI.out]
      rfl
    · rw [State.fault_col, hpd]
      rfl
    · rw [hI.flt]
      exact hx
    · rw [State.port_congr (State.fault_col ..), hI.port, hport]
    · rw [State.fget_fault _ hsrc _ _ _ ho, hr f hb]
      rfl
    · rw [State.portIso, State.on, State.fget_fault _ hsrc _ _ _ (.inl (by simp only [Fld.COL_PORT_STS.ISOLATED]; omega))]
      exact hI.iso
    · rw [State.unitSt, State.fget_fault _ hsrc _ _ _ (.inr (.inr (by simp only [Fld.FLT_UNIT_STS.STATE]; omega)))]
      exact hI.unit
  · next hn =>
    refine ⟨rfl, rfl, fun _ h => h, hport, fun _ _ _ => rfl, fun hi ht => absurd ?_ hn⟩
    simp [hi, ht]

theorem malformed_spec {s t : State} {p : Nat} (hp : p < 4) (e : t = s.malformed p) :
    t.fget (Fld.COL_PORT_ERRB.MALFORMED p) =
      min (s.fget (Fld.COL_PORT_ERRB.MALFORMED p) + 1) (Fld.COL_PORT_ERRB.MALFORMED p).max ∧
    t.col.pend = s.col.pend ∧ t.out = s.out := by
  have h := (s.bump (Fld.COL_PORT_ERRB.MALFORMED p) (Fld.COL_PORT_ERRB.MAL_SAT p)).portError_erred hp
  have hb : ∀ p < 4, OffFault (Fld.COL_PORT_ERRB.MALFORMED p) ∧
      (Fld.COL_PORT_ERRB.MALFORMED p).bit ∉ (isoFields p).map Field.bit ∧
      (Fld.COL_PORT_ERRB.MALFORMED p).bit ≠ (Fld.COL_PORT_ERRB.MAL_SAT p).bit := by decide
  obtain ⟨h1, h2, h3⟩ := hb p hp
  rw [← State.malformed, ← e] at h
  exact ⟨by rw [h.regs _ h1 h2, State.fget_bump_self _ h3], by rw [h.pend, State.bump_col], by rw [h.out, State.bump_out]⟩

theorem crcFail_spec {s t : State} {p : Nat} (hp : p < 4) (e : t = s.crcFail p) :
    t.fget (Fld.COL_PORT_ERRA.CRC_ERR p) =
      min (s.fget (Fld.COL_PORT_ERRA.CRC_ERR p) + 1) (Fld.COL_PORT_ERRA.CRC_ERR p).max ∧
    Reports (srcOf (72 + p) 2) 0x05 s t ∧ (t.port p).lastFirefly = (s.port p).lastFirefly ∧
    (s.portIso p = false → s.fget Fld.COL_ISO_CFG.THRESH = 0 → t.portIso p = true ∧ t.unitSt (72 + p) = 2) := by
  have hsrc : srcOf (72 + p) 2 < 1024 := by simp only [srcOf]; omega
  have hb : ∀ p < 4, OffFault (Fld.COL_PORT_ERRA.CRC_ERR p) ∧ (Fld.COL_PORT_ERRA.CRC_ERR p).bit ∉ (isoFields p).map Field.bit ∧
      (Fld.COL_PORT_ERRA.CRC_ERR p).bit ≠ (Fld.COL_PORT_ERRA.CRC_SAT p).bit ∧
      OffFault (Fld.COL_PORT_STS.ISOLATED p) ∧
      (Fld.COL_PORT_STS.ISOLATED p).bit ≠ (Fld.COL_PORT_ERRA.CRC_ERR p).bit ∧
      (Fld.COL_PORT_STS.ISOLATED p).bit ≠ (Fld.COL_PORT_ERRA.CRC_SAT p).bit ∧ OffFault Fld.COL_ISO_CFG.THRESH ∧
      Fld.COL_ISO_CFG.THRESH.bit ≠ (Fld.COL_PORT_ERRA.CRC_ERR p).bit ∧
      Fld.COL_ISO_CFG.THRESH.bit ≠ (Fld.COL_PORT_ERRA.CRC_SAT p).bit := by decide
  obtain ⟨h1, h2, h3, h4, h5, h6, h7, h8, h9⟩ := hb p hp
  have hR : Reports (srcOf (72 + p) 2) 0x05 s
      ((s.bump (Fld.COL_PORT_ERRA.CRC_ERR p) (Fld.COL_PORT_ERRA.CRC_SAT p)).fault (srcOf (72 + p) 2) 0x05 0) :=
    (State.fault_reports _ _ _ _ _ (sent_of_port hp (.inl rfl))).of_flt (State.bump_flt ..)
  have h := ((s.bump (Fld.COL_PORT_ERRA.CRC_ERR p) (Fld.COL_PORT_ERRA.CRC_SAT p)).fault (srcOf (72 + p) 2) 0x05 0).portError_erred hp
  rw [← State.crcFail, ← e] at h
  refine ⟨?_, hR.mono h.keeps, ?_, fun hi ht => h.isolates ?_ ?_⟩
  · rw [h.regs _ h1 h2, State.fget_fault _ hsrc _ _ _ h1, State.fget_bump_self _ h3]
  · rw [h.port, State.port_congr ((State.fault_col ..).trans (State.bump_col ..))]
  · rw [State.portIso, State.on, State.fget_fault _ hsrc _ _ _ h4, State.fget_bump_ne _ h5 h6]
    exact hi
  · rw [State.fget_fault _ hsrc _ _ _ h7, State.fget_bump_ne _ h8 h9, ht]

/-- A frame that fails its CRC is counted and not taken (R50). -/
theorem rxFrame_crcFail {s : State} {p : Nat} {f : Frame} (hs : s.isStandalone = false) (hr : s.portRole p ≠ 0)
    (ht : s.thoborOn = true) (hc : f.crcOk = false) (entitled plunge : Bool) (take : State → State) :
    s.rxFrame p f entitled plunge take = (s.codeErrors p f.codeErrs).crcFail p := by
  simp [State.rxFrame, hs, hr, ht, hc]

/-! ## CONFIG and EPOCH_ANNOUNCE (R67 to R69) -/

theorem SameLine.of_colWork {s t : State} (h : ColWork s t) (hc : t.col = s.col) (hx : t.tx = s.tx) (ho : t.out = s.out) :
    SameLine s t := ⟨h.now, h.colTime, by simp only [State.colRate, hc], hx, ho⟩

theorem Heard.kAt {s c : State} {p n : Nat} (h : Heard s c p n) (hp : p < 4) (b : Nat) : c.kAt b = s.kAt b := by
  have hb : ∀ p < 4, Fld.COL_EPOCH_CFG.K.bit ∉
      [Fld.COL_PORT_ERRA.CODE_ERR p, Fld.COL_PORT_ERRA.CODE_SAT p].map Field.bit := by decide
  simp only [State.kAt, State.kNow, h.col, h.regs _ (hb p hp)]

theorem Heard.isEpoch {s c : State} {p n : Nat} (h : Heard s c p n) (hp : p < 4) (b : Nat) : c.isEpoch b = s.isEpoch b := by
  rw [State.isEpoch, h.kAt hp, State.isEpoch]

namespace Machine

/-- GUARD and K of a CONFIG wait for their beat. -/
def State.keepConfig (s : State) (gen guard k eff : Nat) : State :=
  s.modCol (fun c => { c with pend := some (PendCfg.mk guard k eff), cfgLast := some gen })

theorem configRx_taken {s : State} {p gen guard k eff : Nat} {f : Frame} (h : Hears s p f) (hf : f.body = .config gen guard k eff)
    (hm : s.isMember = true) (hs : s.selPort = some p) (hg : 2 ≤ guard) (hg' : guard ≤ 15) (hk : 7 ≤ k) (hk' : k ≤ 21) :
    configRx p f s = (((s.codeErrors p f.codeErrs).keepConfig gen guard k eff).sendOn
      ((s.codeErrors p f.codeErrs).downPorts.filter (· != p)) f).applyConfig := by
  simp only [configRx, hf, hm, hs, hg, hg', hk, hk', decide_true, beq_self_eq_true, Bool.and_self, h.taken]
  rfl

theorem configRx_refused {s : State} {p gen guard k eff : Nat} {f : Frame} (h : Hears s p f) (hf : f.body = .config gen guard k eff)
    (hn : ¬ (s.isMember = true ∧ s.selPort = some p ∧ 2 ≤ guard ∧ guard ≤ 15 ∧ 7 ≤ k ∧ k ≤ 21)) :
    configRx p f s = (s.codeErrors p f.codeErrs).malformed p := by
  have hb : (s.isMember && s.selPort == some p && decide (2 ≤ guard) && decide (guard ≤ 15) && decide (7 ≤ k) &&
      decide (k ≤ 21)) = false := by
    rw [Bool.eq_false_iff]
    simpa [and_assoc] using hn
  simp only [configRx, hf, hb, h.refused]

/-- What waits comes into force at its beat (R67). -/
theorem State.applyConfig_spec {s : State} {guard k eff : Nat} (h : s.col.pend = some (PendCfg.mk guard k eff)) :
    (s.curBeat < eff → s.applyConfig = s) ∧
    (eff ≤ s.curBeat → s.applyConfig =
      s.modCol (fun c => { c with guardNow := some guard, kNow := some k, pend := none })) := by
  unfold State.applyConfig
  rw [h]
  exact ⟨fun hb => if_neg (by simpa using hb), fun hb => if_pos hb⟩

end Machine

/-- What a CONFIG of the selected port leaves (R67). -/
theorem configRx_spec {s t : State} {p gen guard k eff : Nat} {f : Frame} (h : Hears s p f)
    (hf : f.body = .config gen guard k eff) (hm : s.isMember = true) (hs : s.selPort = some p) (hg : 2 ≤ guard)
    (hg' : guard ≤ 15) (hk : 7 ≤ k) (hk' : k ≤ 21) (e : t = configRx p f s) :
    t.col.cfgLast = some gen ∧
    (s.curBeat < eff → t.col.pend = some (PendCfg.mk guard k eff) ∧ t.col.guardNow = s.col.guardNow) ∧
    (eff ≤ s.curBeat → t.col.pend = none ∧ t.guardNow = guard ∧ t.kNow = k) ∧ Sent s (s.downPorts.filter (· != p)) f t ∧
    t = { s with regs := t.regs, col := t.col, tx := t.tx, out := t.out } ∧
    RegsBut [Fld.COL_PORT_ERRA.CODE_ERR p, Fld.COL_PORT_ERRA.CODE_SAT p] s t := by
  rw [configRx_taken h hf hm hs hg hg' hk hk'] at e
  have hc := s.codeErrors_heard p f.codeErrs
  generalize s.codeErrors p f.codeErrs = c at hc e
  have hkc : RegsCol s (c.keepConfig gen guard k eff) := hc.regsCol.modCol
  have hcol : (c.keepConfig gen guard k eff).col = { s.col with pend := some (PendCfg.mk guard k eff), cfgLast := some gen } := by
    rw [← hc.col]
    rfl
  have hline : SameLine s (c.keepConfig gen guard k eff) := .of_regsCol hkc (by rw [hcol]) (by rw [hcol])
  have hreg : (c.keepConfig gen guard k eff).regs = c.regs := rfl
  rw [hc.link.downPorts] at e
  generalize c.keepConfig gen guard k eff = v at hkc hcol hline e hreg
  have hx := v.sendOn_only (s.downPorts.filter (· != p)) f
  have hsent := hline.sent (s.downPorts.filter (· != p)) f
  generalize v.sendOn (s.downPorts.filter (· != p)) f = u at hx hsent e
  have hu : u.col = { s.col with pend := some (PendCfg.mk guard k eff), cfgLast := some gen } := by rw [hx.col, hcol]
  have hw : ColWork s u := hkc.colWork.txOnly hx
  have hflt : u.flt = s.flt := by rw [hx.flt, hkc.flt]
  have hr : RegsBut [Fld.COL_PORT_ERRA.CODE_ERR p, Fld.COL_PORT_ERRA.CODE_SAT p] s u := hc.regs.same (by rw [hx.regs, hreg])
  obtain ⟨hlate, hnow⟩ := State.applyConfig_spec (s := u) (by rw [hu])
  rw [hw.curBeat] at hlate hnow
  rw [← e] at hlate hnow
  rcases Nat.lt_or_ge s.curBeat eff with hb | hb
  · rw [hlate hb]
    exact ⟨by rw [hu], fun _ => ⟨by rw [hu], by rw [hu]⟩, fun hb' => absurd hb (Nat.not_lt.2 hb'), hsent,
      hw.regsColTx hflt, hr⟩
  · have ht := hnow hb
    have htc : t.col = { u.col with guardNow := some guard, kNow := some k, pend := none } := by rw [ht]; rfl
    refine ⟨by rw [htc, hu], fun hb' => absurd hb (Nat.not_le.2 hb'), fun _ => ⟨by rw [htc], ?_, ?_⟩, ?_, ?_, ?_⟩
    · simp only [State.guardNow, htc, Option.getD_some]
    · simp only [State.kNow, htc, Option.getD_some]
    · rw [ht]
      exact hsent.congr rfl rfl
    · exact ColWork.regsColTx (by rw [ht]; exact hw.modCol) (by rw [ht]; exact hflt)
    · exact hr.same (by rw [ht]; rfl)

namespace Machine

/-- A boundary or a K that this member's own arithmetic does not give is reported (R68). -/
def State.checkEpoch (s : State) (k x : Nat) : State :=
  if k != s.kAt x || !s.isEpoch x then s.fault (srcOf 76 7) 0x4B (x % 2 ^ 40) else s

/-- A colony checkpoint that is announced is taken once (R69). -/
def State.noteCkpt (s : State) (ck : Bool) (x m : Nat) : State :=
  if ck && !s.col.ckptTaken.contains x then
    s.modCol (fun c => { c with ckpts := tabIns x m (tabDel x c.ckpts), ckptTaken := setIns x c.ckptTaken })
  else s

theorem epochAnnounceRx_taken {s : State} {p k x : Nat} {ck : Bool} {g : Word} {f : Frame} (h : Hears s p f)
    (hf : f.body = .epochAnnounce ck k x g) (hm : s.isMember = true) (hs : s.selPort = some p) :
    epochAnnounceRx p f s = ((((s.codeErrors p f.codeErrs).checkEpoch k x).sendOn
      (((s.codeErrors p f.codeErrs).checkEpoch k x).downPorts.filter (· != p)) f).noteCkpt ck x g.toNat) := by
  have hl := s.codeErrors_sameLink p f.codeErrs
  rw [epochAnnounceRx, h.taken]
  simp only [hf, hl.isMember, hm, hl.selPort, hs, beq_self_eq_true, Bool.and_self, if_true]
  rfl

theorem State.checkEpoch_work (s : State) (k x : Nat) : SameLine s (s.checkEpoch k x) ∧ SameLink s (s.checkEpoch k x) ∧
    ColWork s (s.checkEpoch k x) ∧ (s.checkEpoch k x).col = s.col := by
  unfold State.checkEpoch
  split
  · have hw := (ColWork.refl s).fault (src := srcOf 76 7) (kind := 0x4B) (addr := x % 2 ^ 40) (cl := false)
    refine ⟨.of_colWork hw (State.fault_col ..) (State.fault_tx ..) (State.fault_out ..), ?_, hw, State.fault_col ..⟩
    exact (State.fault_regsBut s _ _ _ _).sameLink (by decide)
  · exact ⟨.of_colWork (.refl s) rfl rfl rfl, .refl s, .refl s, rfl⟩

theorem State.checkEpoch_wrong {s : State} {k x : Nat} (h : k ≠ s.kAt x ∨ s.isEpoch x = false) :
    Reports (srcOf 76 7) 0x4B s (s.checkEpoch k x) := by
  have hb : (k != s.kAt x || !s.isEpoch x) = true := by simpa using h
  rw [State.checkEpoch, if_pos hb]
  exact State.fault_reports _ _ _ _ _ sent_of_colony

theorem State.checkEpoch_right {s : State} {k x : Nat} (h : k = s.kAt x) (he : s.isEpoch x = true) : s.checkEpoch k x = s := by
  simp [State.checkEpoch, h, he]

theorem State.noteCkpt_eq (s : State) (ck : Bool) (x m : Nat) : s.noteCkpt ck x m = { s with col := (s.noteCkpt ck x m).col } := by
  unfold State.noteCkpt
  split <;> rfl

theorem State.noteCkpt_spec (s : State) (ck : Bool) (x m : Nat) :
    (ck = true → s.col.ckptTaken.contains x = false →
      (x, m) ∈ (s.noteCkpt ck x m).col.ckpts ∧ x ∈ (s.noteCkpt ck x m).col.ckptTaken) ∧
    (ck = false ∨ s.col.ckptTaken.contains x = true → s.noteCkpt ck x m = s) := by
  refine ⟨fun hc hn => ?_, fun h => if_neg ?_⟩
  · rw [State.noteCkpt, if_pos (by rw [hc, hn]; rfl)]
    exact ⟨mem_tabIns_self .., mem_setIns_self ..⟩
  · rcases h with h | h
    · rw [h]
      exact Bool.false_ne_true
    · rw [h, Bool.not_true, Bool.and_false]
      exact Bool.false_ne_true

end Machine

/-- What an EPOCH_ANNOUNCE of the selected port leaves (R68, R69). -/
theorem epochAnnounceRx_spec {s t : State} {p k x : Nat} {ck : Bool} {g : Word} {f : Frame} (h : Hears s p f)
    (hf : f.body = .epochAnnounce ck k x g) (hm : s.isMember = true) (hs : s.selPort = some p)
    (e : t = epochAnnounceRx p f s) :
    ((k ≠ s.kAt x ∨ s.isEpoch x = false) → Reports (srcOf 76 7) 0x4B s t) ∧
    (k = s.kAt x → s.isEpoch x = true → t.flt = s.flt ∧
      RegsBut [Fld.COL_PORT_ERRA.CODE_ERR p, Fld.COL_PORT_ERRA.CODE_SAT p] s t) ∧
    (ck = true → s.col.ckptTaken.contains x = false → (x, g.toNat) ∈ t.col.ckpts ∧ x ∈ t.col.ckptTaken) ∧
    ((ck = false ∨ s.col.ckptTaken.contains x = true) → t.col = s.col) ∧ Sent s (s.downPorts.filter (· != p)) f t ∧
    ColWork s t := by
  rw [epochAnnounceRx_taken h hf hm hs] at e
  have hc := s.codeErrors_heard p f.codeErrs
  generalize s.codeErrors p f.codeErrs = c at hc e
  obtain ⟨hline, hlink, hwork, hcol⟩ := c.checkEpoch_work k x
  have hwrong := State.checkEpoch_wrong (s := c) (k := k) (x := x)
  have hright := State.checkEpoch_right (s := c) (k := k) (x := x)
  rw [hc.kAt h.1, hc.isEpoch h.1] at hwrong hright
  rw [hlink.downPorts, hc.link.downPorts] at e
  generalize c.checkEpoch k x = v at *
  have hx := v.sendOn_only (s.downPorts.filter (· != p)) f
  have hl : SameLine s v := by
    refine .of_colWork (hc.regsCol.colWork.trans hwork) (hcol.trans hc.col) ?_ ?_
    · rw [hline.tx, hc.tx]
    · rw [hline.out, hc.out]
  have hsent := hl.sent (s.downPorts.filter (· != p)) f
  generalize v.sendOn (s.downPorts.filter (· != p)) f = u at *
  have hu : u.col = s.col := by rw [hx.col, hcol, hc.col]
  obtain ⟨hck, hno⟩ := u.noteCkpt_spec ck x g.toNat
  have ht := u.noteCkpt_eq ck x g.toNat
  rw [hu] at hck hno
  rw [← e] at hck hno ht
  have htf : t.flt = v.flt := by rw [ht, ← hx.flt]
  have htr : t.regs = v.regs := by rw [ht, ← hx.regs]
  refine ⟨fun hw => ?_, fun hk he => ⟨?_, ?_⟩, hck, fun h => by rw [hno h, hu], ?_, ?_⟩
  · exact ((hwrong hw).of_flt hc.flt).mono (by rw [htf]; exact fun _ h => h)
  · rw [htf, hright hk he, hc.flt]
  · exact hc.regs.same (by rw [htr, hright hk he])
  · exact hsent.congr (by rw [ht]) (by rw [ht])
  · refine ((hc.regsCol.colWork.trans hwork).txOnly hx).trans ?_
    unfold ColWork
    rw [ht]

/-! ## SEAL_REPORT (R52) -/

namespace Machine

theorem sealReportRx_forwards {s : State} {p q kind cut gen : Nat} {cp late : Bool} {inc : BitVec 32} {f : Frame}
    (h : Hears s p f) (hf : f.body = .sealReport cp late kind cut gen inc) (hm : s.isMember = true) (hs : s.selPort = some q)
    (hc : s.canSend q = true) (hq : q ≠ p) : sealReportRx p f s = (s.codeErrors p f.codeErrs).sendOn [q] f := by
  have hl := s.codeErrors_sameLink p f.codeErrs
  have hq4 : q < 4 := mem_allPorts.1 (List.mem_of_find?_eq_some hs)
  rw [sealReportRx, h.taken]
  simp [hf, hl.isMember, hm, hl.selPort, hs, hl.canSend hq4, hc, hq, State.sendOn]

theorem sealReportRx_delivers {s : State} {p kind cut gen : Nat} {cp late : Bool} {inc : BitVec 32} {f : Frame}
    (h : Hears s p f) (hf : f.body = .sealReport cp late kind cut gen inc) (hm : s.isMember = false) :
    sealReportRx p f s = (s.codeErrors p f.codeErrs).postSealReport cp late kind cut gen inc f.origin true := by
  have hl := s.codeErrors_sameLink p f.codeErrs
  rw [sealReportRx, h.taken]
  simp [hf, hl.isMember, hm]

/-- An event record is the last of a log that is not full (R299). -/
theorem State.postEvent_spec {s : State} {k log kind : Nat} {words : List Nat} {l : EvLog}
    (hl : l = tabGet ({ } : EvLog) log (s.mb k).logs) (h : l.recs.length < 256) :
    tabGet ({ } : EvLog) log ((s.postEvent k log kind words).mb k).logs =
      { l with recs := l.recs ++ [EvRec.mk l.next kind words], next := l.next + 1 } := by
  have hf : decide (256 ≤ l.recs.length) = false := by simpa using h
  unfold State.postEvent
  simp only [← hl, hf]
  split <;> simp [State.mb, State.modMb, State.emit]

@[simp] theorem State.elapse_port (s : State) (dt q : Nat) : (s.elapse dt).port q = s.port q := by
  rw [State.port, State.elapse_ports, State.port]

theorem State.postEvent_eq (s : State) (k log kind : Nat) (words : List Nat) : s.postEvent k log kind words =
    { s with mbx := (s.postEvent k log kind words).mbx, out := (s.postEvent k log kind words).out } := by
  unfold State.postEvent
  dsimp only
  split <;> split <;> rfl

end Machine

theorem RegsBut.selPort {fs : List Field} {s t : State} (h : RegsBut fs s t)
    (hf : ∀ q < 4, (Fld.COL_PORT_STS.SELECTED q).bit ∉ fs.map Field.bit) : t.selPort = s.selPort := by
  have hs := fun q hq => h _ (hf q hq)
  simp only [State.selPort, State.on, allPorts, List.find?_cons, List.find?_nil, hs 0 (by decide), hs 1 (by decide),
    hs 2 (by decide), hs 3 (by decide)]

/-- What the report of another root leaves (R59). -/
theorem Machine.State.rootConflict_spec (s : State) (root : Nat) {t : State}
    (e : t = (s.fset Fld.COL_TIME_STS.ROOT_CONFLICT 1).fault (srcOf 76 7) 0x49 root) :
    t.fget Fld.COL_TIME_STS.ROOT_CONFLICT = 1 ∧ Reports (srcOf 76 7) 0x49 s t ∧ t.selPort = s.selPort := by
  subst e
  refine ⟨?_, (State.fault_reports _ _ _ _ _ sent_of_colony).of_flt rfl, ?_⟩
  · rw [State.fget_fault _ (by decide) _ _ _ (by decide), State.fget_fset_self]
    rfl
  · have hr : RegsBut (Fld.COL_TIME_STS.ROOT_CONFLICT :: FaultRegs (srcOf 76 7)) s
        ((s.fset Fld.COL_TIME_STS.ROOT_CONFLICT 1).fault (srcOf 76 7) 0x49 root) :=
      (RegsBut.refl _ s).fset.fault fun _ h => List.mem_cons_of_mem _ h
    exact hr.selPort (by decide)

/-- What a FIREFLY leaves that names no other root (R47, R53). -/
theorem fireflyRx_spec {s t : State} {p t4 a b c q root : Nat} {f : Frame} (h : Hears s p f) (hf : f.body = .firefly a b c q root)
    (hx : s.isMember = true → ∀ x, s.selRoot = some x → root = x) (e : t = fireflyRx p t4 f s) :
    t.fget (Fld.COL_PORT_STS.SILENT p) = 0 ∧ (t.port p).lastFirefly = s.curBeat ∧ (t.port p).echoT4 = t4 % 2 ^ 32 ∧
    (t.port p).echoSeq = q ∧
    (f.codeErrs ≠ 0 → t.fget (Fld.COL_PORT_ERRA.CODE_ERR p) =
      min (s.fget (Fld.COL_PORT_ERRA.CODE_ERR p) + f.codeErrs) (Fld.COL_PORT_ERRA.CODE_ERR p).max) ∧
    RegsCol s t ∧ RegsBut [Fld.COL_PORT_STS.SILENT p, Fld.COL_PORT_ERRA.CODE_ERR p, Fld.COL_PORT_ERRA.CODE_SAT p] s t := by
  have hc := s.codeErrors_heard p f.codeErrs
  rw [fireflyRx_eq h hf, State.checkRoot_same (.inr rfl) (by rwa [hc.link.isMember, hc.link.selRoot (by rw [hc.col])])] at e
  generalize s.codeErrors p f.codeErrs = v at hc e
  have hr := v.firefly_regsBut p t4 q root
  have hp := v.firefly_port p t4 q root
  have hw := v.firefly_regsCol p t4 q root
  have hsil : (v.firefly p t4 q root).fget (Fld.COL_PORT_STS.SILENT p) = 0 := State.fget_fset_self ..
  rw [← e] at hr hp hw hsil
  have hne : ∀ p < 4, (Fld.COL_PORT_ERRA.CODE_ERR p).bit ∉ [Fld.COL_PORT_STS.SILENT p].map Field.bit := by decide
  refine ⟨hsil, by rw [hp, hc.curBeat], by rw [hp], by rw [hp], fun hn => ?_, hc.regsCol.trans hw, hc.regs.mono.trans hr.mono⟩
  rw [hr _ (hne p h.1), hc.counts hn]

/-- A FIREFLY of another root than the selected port's (R59). -/
theorem fireflyRx_conflict {s t : State} {p t4 a b c q root x : Nat} {f : Frame} (h : Hears s p f)
    (hf : f.body = .firefly a b c q root) (hm : s.isMember = true) (hx : s.selRoot = some x) (hne : root ≠ x)
    (e : t = fireflyRx p t4 f s) :
    t.fget Fld.COL_TIME_STS.ROOT_CONFLICT = 1 ∧ Reports (srcOf 76 7) 0x49 s t ∧ t.selPort = s.selPort := by
  have hc := s.codeErrors_heard p f.codeErrs
  rw [fireflyRx_eq h hf, State.checkRoot_other (by rwa [hc.link.isMember]) (by rwa [hc.link.selRoot (by rw [hc.col])]) hne] at e
  generalize s.codeErrors p f.codeErrs = v at hc e
  obtain ⟨h1, h2, h3⟩ := v.rootConflict_spec root rfl
  generalize (v.fset Fld.COL_TIME_STS.ROOT_CONFLICT 1).fault (srcOf 76 7) 0x49 root = u at h1 h2 h3 e
  have hr := u.firefly_regsBut p t4 q root
  have hw := u.firefly_regsCol p t4 q root
  rw [← e] at hr hw
  have hb : ∀ p < 4, Fld.COL_TIME_STS.ROOT_CONFLICT.bit ∉ [Fld.COL_PORT_STS.SILENT p].map Field.bit ∧
      ∀ q < 4, (Fld.COL_PORT_STS.SELECTED q).bit ∉ [Fld.COL_PORT_STS.SILENT p].map Field.bit := by decide
  obtain ⟨hb1, hb2⟩ := hb p h.1
  exact ⟨by rw [hr _ hb1, h1], (h2.of_flt hc.flt).mono (by rw [hw.flt]; exact fun _ h => h),
    by rw [hr.selPort hb2, h3, hc.link.selPort]⟩

namespace Machine

/-- The fields that a neighbour with this module's MODULE_ID may change. -/
@[simp] def idFields : List Field := Fld.COL_TIME_STS.ID_CONFLICT :: FaultRegs (srcOf 76 7)

theorem State.checkId_work (s : State) (p origin : Nat) : ColWork s (s.checkId p origin) ∧ (s.checkId p origin).col = s.col ∧
    (s.checkId p origin).tx = s.tx ∧ (s.checkId p origin).out = s.out ∧ RegsBut idFields s (s.checkId p origin) := by
  unfold State.checkId
  split
  · exact ⟨(ColWork.refl s).fset.fault, State.fault_col .., State.fault_tx .., State.fault_out ..,
      (RegsBut.refl _ s).fset.fault fun _ h => List.mem_cons_of_mem _ h⟩
  · exact ⟨.refl s, rfl, rfl, rfl, .refl _ s⟩

theorem State.checkId_own {s : State} {origin : Nat} (h : origin = s.moduleId) (p : Nat) :
    (s.checkId p origin).fget Fld.COL_TIME_STS.ID_CONFLICT = 1 ∧ Reports (srcOf 76 7) 0x4A s (s.checkId p origin) := by
  rw [State.checkId, if_pos (by simpa using h)]
  refine ⟨?_, (State.fault_reports _ _ _ _ _ sent_of_colony).of_flt rfl⟩
  rw [State.fget_fault _ (by decide) _ _ _ (by decide), State.fget_fset_self]
  rfl

theorem State.checkId_other {s : State} {origin : Nat} (h : origin ≠ s.moduleId) (p : Nat) : s.checkId p origin = s :=
  if_neg (by simpa using h)

end Machine

/-- What a ROLE frame leaves that names no other root (R44, R47). -/
theorem roleRx_spec {s t : State} {p d a b c root : Nat} {f : Frame} (h : Hears s p f) (hf : f.body = .role d a b c root)
    (hx : s.isMember = true → ∀ x, s.selRoot = some x → root = x) (e : t = roleRx p f s) :
    t.fget (Fld.COL_PORT_STS.NEIGH_ID p) = f.origin % 2 ^ 14 ∧ t.fget (Fld.COL_PORT_STS.NEIGH_DEPTH p) = d % 16 ∧
    (t.port p).rootSeen = some root ∧
    (f.origin = s.moduleId → t.fget Fld.COL_TIME_STS.ID_CONFLICT = 1 ∧ Reports (srcOf 76 7) 0x4A s t) ∧
    (f.origin ≠ s.moduleId → t.flt = s.flt ∧
      RegsBut [Fld.COL_PORT_STS.NEIGH_ID p, Fld.COL_PORT_STS.NEIGH_DEPTH p, Fld.COL_PORT_ERRA.CODE_ERR p,
        Fld.COL_PORT_ERRA.CODE_SAT p] s t) ∧
    t = { s with regs := t.regs, col := t.col, flt := t.flt } := by
  have hc := s.codeErrors_heard p f.codeErrs
  rw [roleRx_eq h hf, State.checkRoot_same (.inr rfl) (by rwa [hc.link.isMember, hc.link.selRoot (by rw [hc.col])])] at e
  generalize s.codeErrors p f.codeErrs = v at hc e
  obtain ⟨hn1, hn2, hn3⟩ := v.neighbour_shows p f.origin d root
  have hr : RegsBut _ s (v.neighbour p f.origin d root) := hc.regs.mono.trans ((v.neighbour_regsBut p f.origin d root).mono
    (gs := [Fld.COL_PORT_STS.NEIGH_ID p, Fld.COL_PORT_STS.NEIGH_DEPTH p, Fld.COL_PORT_ERRA.CODE_ERR p, Fld.COL_PORT_ERRA.CODE_SAT p]))
  have hw : RegsCol s (v.neighbour p f.origin d root) := hc.regsCol.trans (v.neighbour_regsCol p f.origin d root)
  have hb : ∀ p < 4, (Fld.COL_PORT_STS.NEIGH_ID p).bit ∉ idFields.map Field.bit ∧
      (Fld.COL_PORT_STS.NEIGH_DEPTH p).bit ∉ idFields.map Field.bit ∧ Fld.COL_ID.MODULE_ID.bit ∉
      [Fld.COL_PORT_STS.NEIGH_ID p, Fld.COL_PORT_STS.NEIGH_DEPTH p, Fld.COL_PORT_ERRA.CODE_ERR p,
        Fld.COL_PORT_ERRA.CODE_SAT p].map Field.bit := by decide
  obtain ⟨hb1, hb2, hb3⟩ := hb p h.1
  have hid : (v.neighbour p f.origin d root).moduleId = s.moduleId := hr _ hb3
  generalize v.neighbour p f.origin d root = u at *
  obtain ⟨k1, k2, k3, k4, k5⟩ := u.checkId_work p f.origin
  have hown := State.checkId_own (s := u) (origin := f.origin)
  have hoth := State.checkId_other (s := u) (origin := f.origin)
  rw [hid] at hown hoth
  refine ⟨?_, ?_, ?_, fun ho => ?_, fun ho => ?_, ?_⟩
  · rw [e, k5 _ hb1, hn1]
  · rw [e, k5 _ hb2, hn2]
  · rw [e, State.port_congr k2, hn3]
  · rw [e]
    exact ⟨(hown ho p).1, (hown ho p).2.of_flt hw.flt⟩
  · rw [e, hoth ho p]
    exact ⟨hw.flt, hr⟩
  · have hk := hw.colWork.trans k1
    rw [← e] at hk k3 k4
    unfold ColWork at hk
    rw [k3, k4, hw.tx, hw.out] at hk
    exact hk

/-- A ROLE frame of another root than the selected port's (R59). -/
theorem roleRx_conflict {s t : State} {p d a b c root x : Nat} {f : Frame} (h : Hears s p f) (hf : f.body = .role d a b c root)
    (hm : s.isMember = true) (hx : s.selRoot = some x) (hne : root ≠ x) (e : t = roleRx p f s) :
    t.fget Fld.COL_TIME_STS.ROOT_CONFLICT = 1 ∧ t.selPort = s.selPort := by
  have hc := s.codeErrors_heard p f.codeErrs
  rw [roleRx_eq h hf, State.checkRoot_other (by rwa [hc.link.isMember]) (by rwa [hc.link.selRoot (by rw [hc.col])]) hne] at e
  generalize s.codeErrors p f.codeErrs = v at hc e
  obtain ⟨h1, -, h3⟩ := v.rootConflict_spec root rfl
  generalize (v.fset Fld.COL_TIME_STS.ROOT_CONFLICT 1).fault (srcOf 76 7) 0x49 root = u at h1 h3 e
  have hr : RegsBut (Fld.COL_PORT_STS.NEIGH_ID p :: Fld.COL_PORT_STS.NEIGH_DEPTH p :: idFields) u
      ((u.neighbour p f.origin d root).checkId p f.origin) :=
    ((u.neighbour_regsBut p f.origin d root).mono).trans
      (((u.neighbour p f.origin d root).checkId_work p f.origin).2.2.2.2.mono fun _ h =>
        List.mem_cons_of_mem _ (List.mem_cons_of_mem _ h))
  have hb : ∀ p < 4, Fld.COL_TIME_STS.ROOT_CONFLICT.bit ∉
        (Fld.COL_PORT_STS.NEIGH_ID p :: Fld.COL_PORT_STS.NEIGH_DEPTH p :: idFields).map Field.bit ∧
      ∀ q < 4, (Fld.COL_PORT_STS.SELECTED q).bit ∉
        (Fld.COL_PORT_STS.NEIGH_ID p :: Fld.COL_PORT_STS.NEIGH_DEPTH p :: idFields).map Field.bit := by decide
  obtain ⟨hb1, hb2⟩ := hb p h.1
  rw [← e] at hr
  exact ⟨by rw [hr _ hb1, h1], by rw [hr.selPort hb2, h3, hc.link.selPort]⟩

/-- Settles O7: each frame's rule from the state in which its code violations are counted. -/
theorem thoborFramesAreTaken : Obligations.ThoborFramesAreTaken := by
  unfold Obligations.ThoborFramesAreTaken
  refine ⟨?_, ?_, ?_, ?_, ?_, ?_, ?_, ?_, ?_, ?_⟩
  · intro s dt p t2 tx st root e4 eq t3 f delay off h hf hm hr hs hx ht hd ho
    have hl := s.elapse_sameLink dt
    obtain ⟨h1, h2, h3, h4, h5, h6, h7, h8⟩ := beaconRx_spec (t := beaconRx p t2 f (s.elapse dt)) (h.elapse dt) hf
      (by rwa [hl.isMember]) (by rwa [hl.portRole h.1]) (by rwa [hl.selPort])
      (by rwa [hl.selRoot (State.elapse_ports ..)]) ht (off := off) hd (by rw [State.elapse_fget]; exact ho) rfl
    have hcol : (s.elapse dt).col.trim64 = s.col.trim64 ∧ (s.elapse dt).col.good = s.col.good ∧
        (s.elapse dt).col.measAt = s.col.measAt := by
      rw [State.elapse_col]
      exact ⟨rfl, rfl, rfl⟩
    have hdev : (s.elapse dt).dev = s.dev := by rw [State.elapse_only]
    rw [hcol.1] at h5
    rw [hdev] at h6
    rw [State.elapse_fget, hcol.2.1, hcol.2.2] at h7
    exact ⟨_, rfl, h1, h2, h3, h4, h5, h6, h7, h8⟩
  · intro s dt p t4 a b c q root f h hf hx
    have hl := s.elapse_sameLink dt
    obtain ⟨h1, h2, h3, h4, h5, h6, h7⟩ := fireflyRx_spec (t := fireflyRx p t4 f (s.elapse dt)) (h.elapse dt) hf
      (by rwa [hl.isMember, hl.selRoot (State.elapse_ports ..)]) rfl
    rw [State.elapse_fget] at h5
    exact ⟨_, rfl, h1, h2, h3, h4, h5, h6, .of_elapse h7⟩
  · intro s dt p d a b c root f h hf hx
    have hl := s.elapse_sameLink dt
    obtain ⟨h1, h2, h3, h4, h5, h6⟩ := roleRx_spec (t := roleRx p f (s.elapse dt)) (h.elapse dt) hf
      (by rwa [hl.isMember, hl.selRoot (State.elapse_ports ..)]) rfl
    rw [hl.moduleId] at h4 h5
    exact ⟨_, rfl, h1, h2, h3, fun ho => ⟨(h4 ho).1, (h4 ho).2.of_flt (State.elapse_flt ..)⟩,
      fun ho => ⟨(h5 ho).1.trans (State.elapse_flt ..), .of_elapse (h5 ho).2⟩, h6⟩
  · intro s dt p t4 a b c d q root x f h hm hx hne
    have hl := s.elapse_sameLink dt
    have hm' : (s.elapse dt).isMember = true := by rwa [hl.isMember]
    have hx' : (s.elapse dt).selRoot = some x := by rwa [hl.selRoot (State.elapse_ports ..)]
    refine ⟨fun hf => ?_, fun hf => ?_⟩
    · obtain ⟨h1, h2, h3⟩ := fireflyRx_conflict (t4 := t4) (h.elapse dt) hf hm' hx' hne rfl
      exact ⟨_, rfl, h1, h2.of_flt (State.elapse_flt ..), h3.trans hl.selPort⟩
    · obtain ⟨h1, h2⟩ := roleRx_conflict (h.elapse dt) hf hm' hx' hne rfl
      exact ⟨_, rfl, h1, h2.trans hl.selPort⟩
  · intro s dt p gen guard k eff f h hf hm hs hg hg' hk hk'
    have hl := s.elapse_sameLink dt
    obtain ⟨h1, h2, h3, h4, h5, h6⟩ := configRx_spec (h.elapse dt) hf (by rwa [hl.isMember]) (by rwa [hl.selPort]) hg hg' hk hk' rfl
    rw [State.elapse_guard] at h2
    rw [hl.downPorts] at h4
    exact ⟨_, rfl, h1, h2, h3, h4, h5, .of_elapse h6⟩
  · intro s dt p gen guard k eff f h hf hn
    have hl := s.elapse_sameLink dt
    have hc := (s.elapse dt).codeErrors_heard p f.codeErrs
    have hb : ∀ p < 4, (Fld.COL_PORT_ERRB.MALFORMED p).bit ∉
        [Fld.COL_PORT_ERRA.CODE_ERR p, Fld.COL_PORT_ERRA.CODE_SAT p].map Field.bit := by decide
    obtain ⟨h1, h2, h3⟩ := malformed_spec h.1 (configRx_refused (h.elapse dt) hf (by rwa [hl.isMember, hl.selPort]))
    rw [hc.regs _ (hb p h.1), State.elapse_fget] at h1
    rw [hc.col, State.elapse_pend] at h2
    rw [hc.out] at h3
    exact ⟨_, rfl, h1, h2, h3⟩
  · intro s dt p k x ck g f h hf hm hs
    have hl := s.elapse_sameLink dt
    obtain ⟨h1, h2, h3, h4, h5, h6⟩ := epochAnnounceRx_spec (h.elapse dt) hf (by rwa [hl.isMember]) (by rwa [hl.selPort]) rfl
    rw [State.elapse_kAt, State.elapse_isEpoch] at h1 h2
    have hck : (s.elapse dt).col.ckptTaken = s.col.ckptTaken := by rw [State.elapse_col]
    rw [hck] at h3 h4
    rw [hl.downPorts] at h5
    exact ⟨_, rfl, fun hw => (h1 hw).of_flt (State.elapse_flt ..),
      fun hk he => ⟨(h2 hk he).1.trans (State.elapse_flt ..), .of_elapse (h2 hk he).2⟩, h3, h4, h5, h6⟩
  · intro s dt p q kind cut gen cp late inc f h hf hm hs hcs hq
    have hl := s.elapse_sameLink dt
    have hc := (s.elapse dt).codeErrors_heard p f.codeErrs
    have e := sealReportRx_forwards (h.elapse dt) hf (by rwa [hl.isMember]) (by rwa [hl.selPort])
      (by rwa [hl.canSend (mem_allPorts.1 (List.mem_of_find?_eq_some hs))]) hq
    have hx := ((s.elapse dt).codeErrors p f.codeErrs).sendOn_only [q] f
    have hsent := (SameLine.of_regsCol hc.regsCol (by rw [hc.col]) (by rw [hc.col])).sent [q] f
    rw [← e] at hx hsent
    refine ⟨_, rfl, hsent, ?_, (RegsBut.of_elapse hc.regs).same hx.regs⟩
    unfold TxOnly at hx
    rw [hx, hc.only]
  · intro s dt p kind cut gen cp late inc f l h hf hm hlog hlen
    have hl := s.elapse_sameLink dt
    have hc := (s.elapse dt).codeErrors_heard p f.codeErrs
    have e := sealReportRx_delivers (h.elapse dt) hf (by rwa [hl.isMember])
    have hb : ∀ p < 4, Fld.COL_TIME_STS.ROOT_ID.bit ∉
        [Fld.COL_PORT_ERRA.CODE_ERR p, Fld.COL_PORT_ERRA.CODE_SAT p].map Field.bit := by decide
    have hroot : ((s.elapse dt).codeErrors p f.codeErrs).rootId = s.rootId := by
      simp only [State.rootId, hl.isMember, hc.link.isMember, hl.moduleId, hc.link.moduleId, hc.regs _ (hb p h.1), State.elapse_fget]
    have hmb : ((s.elapse dt).codeErrors p f.codeErrs).mb fmLd = s.mb fmLd := by
      rw [hc.only, State.elapse_only]
      rfl
    rw [State.postSealReport, hroot, hc.curBeat] at e
    have hp := State.postEvent_eq ((s.elapse dt).codeErrors p f.codeErrs) fmLd (if cp then 0 else 1) 2
      [kind % 2 + (if late then 2 else 0) + (if cp then 4 else 0) + (if true = true then 8 else 0), f.origin, s.rootId,
        cut % 2 ^ 48, gen, inc.toNat, (s.elapse dt).curBeat]
    have hs := State.postEvent_spec (s := (s.elapse dt).codeErrors p f.codeErrs) (k := fmLd) (kind := 2)
      (words := [kind % 2 + (if late then 2 else 0) + (if cp then 4 else 0) + (if true = true then 8 else 0), f.origin, s.rootId,
        cut % 2 ^ 48, gen, inc.toNat, (s.elapse dt).curBeat]) (by rw [hmb]; exact hlog) hlen
    rw [← e] at hp hs
    refine ⟨_, _, rfl, hs, rfl, rfl, ?_, ?_⟩
    · rw [hp, hc.only]
    · exact (RegsBut.of_elapse hc.regs).same (by rw [hp])
  · intro s dt p t4 f hp hs hr ht hcr
    have hl := s.elapse_sameLink dt
    have hc := (s.elapse dt).codeErrors_heard p f.codeErrs
    have hb : ∀ p < 4, (Fld.COL_PORT_ERRA.CRC_ERR p).bit ∉
        [Fld.COL_PORT_ERRA.CODE_ERR p, Fld.COL_PORT_ERRA.CODE_SAT p].map Field.bit ∧ Fld.COL_ISO_CFG.THRESH.bit ∉
        [Fld.COL_PORT_ERRA.CODE_ERR p, Fld.COL_PORT_ERRA.CODE_SAT p].map Field.bit := by decide
    obtain ⟨hb1, hb2⟩ := hb p hp
    have e : fireflyRx p t4 f (s.elapse dt) = ((s.elapse dt).codeErrors p f.codeErrs).crcFail p :=
      rxFrame_crcFail (by rwa [hl.isStandalone]) (by rwa [hl.portRole hp]) (by rwa [hl.dom]) hcr _ _ _
    obtain ⟨h1, h2, h3, h4⟩ := crcFail_spec hp e
    rw [hc.regs _ hb1, State.elapse_fget] at h1
    rw [hc.port, State.elapse_port] at h3
    rw [hc.link.portIso hp, hl.portIso hp, hc.regs _ hb2, State.elapse_fget] at h4
    exact ⟨_, rfl, h1, h2.of_flt (hc.flt.trans (State.elapse_flt ..)), h3, h4⟩

end Sys2Proof

/-! # What a spill trigger does (R143, R144, R400) -/

namespace Sys2Proof
open Machine

/-! ## The cistern's part (R94, R99, R104) -/

/-- The field lies below the rail status, and outside the cistern's registers. -/
abbrev OffCis (f : Field) : Prop := f.bit < 8 * 0x1A0000 ∨ (8 * 0x1B0000 ≤ f.bit ∧ f.bit < 8 * 0x1B0200)

/-- The second state differs from the first in the cistern, what it drives, and the registers that speak of these. -/
structure CisWork (s t : State) : Prop where
  frame : t = { s with regs := t.regs, cis := t.cis, out := t.out }
  regs : ∀ f : Field, OffCis f → t.fget f = s.fget f

namespace CisWork
variable {s t u : State}

theorem refl (s : State) : CisWork s s := ⟨rfl, fun _ _ => rfl⟩
theorem trans (h : CisWork s t) (k : CisWork t u) : CisWork s u :=
  ⟨by rw [k.frame, h.frame], fun f hf => (k.regs f hf).trans (h.regs f hf)⟩

theorem ite {c : Prop} {_ : Decidable c} (ht : CisWork s t) (hu : CisWork s u) : CisWork s (if c then t else u) := by
  split
  · exact ht
  · exact hu

theorem foldl {α : Type} {l : List α} {f : State → α → State} (h : CisWork s t) (hf : ∀ a ∈ l, ∀ t, CisWork t (f t a)) :
    CisWork s (l.foldl f t) := by
  induction l generalizing t with
  | nil => exact h
  | cons a l ih => exact ih (h.trans (hf a (by simp) t)) fun b hb => hf b (by simp [hb])

theorem fset {f v} (h : CisWork s t) (hf : ¬ OffCis f) : CisWork s (t.fset f v) :=
  h.trans ⟨rfl, fun _ hg => State.fget_fset_ne t (fun e => hf (by unfold OffCis at *; rwa [e] at hg)) v⟩
theorem bump {c o n} (h : CisWork s t) (hc : ¬ OffCis c) (ho : ¬ OffCis o) : CisWork s (t.bump c o n) :=
  .ite (h.fset hc) ((h.fset hc).fset ho)
theorem emit {o} (h : CisWork s t) : CisWork s (t.emit o) := h.trans ⟨rfl, fun _ _ => rfl⟩
theorem modCis {f} (h : CisWork s t) : CisWork s (t.modCis f) := h.trans ⟨rfl, fun _ _ => rfl⟩
theorem modPack {p f} (h : CisWork s t) : CisWork s (t.modPack p f) := h.modCis

theorem driveRail {r high} (h : CisWork s t) : CisWork s (t.driveRail r high) :=
  .ite h (.emit (h.fset (by simp only [OffCis, Fld.PSQ_RAIL_STS.ENABLED]; omega)))

theorem inputPath {high} (h : CisWork s t) : CisWork s (t.inputPath high) := h.driveRail

theorem driveLim {p} (h : CisWork s t) : CisWork s (t.driveLim p) := h.emit
theorem driveChg {p high} (h : CisWork s t) (hp : p < 4) : CisWork s (t.driveChg p high) :=
  .ite h (.driveLim (.emit (h.fset (by simp only [OffCis, Fld.CIS_PACK_STS.CHARGING]; omega))))

theorem charge {p} (h : CisWork s t) (hp : p < 4) : CisWork s (t.charge p) :=
  .driveChg (.fset h.modPack (by simp only [OffCis, Fld.CIS_PACK_STS.CHG_BLOCK]; omega)) hp

theorem chargeAll (h : CisWork s t) : CisWork s t.chargeAll :=
  h.foldl fun p hp _ => (refl _).charge (by simp [allPacks] at hp; omega)

theorem learnReject (h : CisWork s t) : CisWork s t.learnReject := h.bump (by decide) (by decide)

theorem calEnd {st reason} (h : CisWork s t) : CisWork s (t.calEnd st reason) := by
  have h₁ : CisWork s (if t.calState == 2 then t.inputPath true else t) := .ite h.inputPath h
  exact .ite (.learnReject (.foldl ((h₁.fset (by decide)).fset (by decide)) fun _ _ t => (refl t).modPack)) h

theorem rehStop (h : CisWork s t) : CisWork s t.rehStop := .ite (.emit (.modCis h.modCis)) h.modCis

theorem rehAbort {result} (h : CisWork s t) : CisWork s (t.rehAbort result false) := .ite (h.rehStop.fset (by decide)) h

theorem cisTrigger (h : CisWork s t) : CisWork s t.cisTrigger := h.calEnd.rehAbort.chargeAll

end CisWork

namespace Machine

/-! ### No rehearsal goes on -/

theorem State.driveChg_cis (s : State) (p : Nat) (high : Bool) : (s.driveChg p high).cis = s.cis := by
  unfold State.driveChg
  split <;> rfl

theorem State.charge_rehAt (s : State) (p : Nat) : (s.charge p).cis.rehAt = s.cis.rehAt := by
  rw [State.charge, State.driveChg_cis]
  rfl

theorem State.chargeAll_rehAt (s : State) : s.chargeAll.cis.rehAt = s.cis.rehAt := by
  unfold State.chargeAll allPacks
  simp only [List.foldl_cons, List.foldl_nil, State.charge_rehAt]

theorem State.rehStop_rehAt (s : State) : s.rehStop.cis.rehAt = none := by
  unfold State.rehStop State.rehUnload
  split <;> rfl

theorem State.rehAbort_rehAt (s : State) (result : Nat) : (s.rehAbort result false).cis.rehAt = none := by
  unfold State.rehAbort
  split
  · exact s.rehStop_rehAt
  · next h => simpa using h

theorem State.cisTrigger_rehAt (s : State) : s.cisTrigger.cis.rehAt = none := by
  rw [State.cisTrigger, State.chargeAll_rehAt, State.rehAbort_rehAt]

/-! ### No pack is charged without the input (R104) -/

theorem State.chgBlock_noInput {s : State} (h : s.fget Fld.PSQ_STS.INPUT_GOOD = 0) (p : Nat) : (s.chgBlock p == 0) = false := by
  have hi : s.on Fld.PSQ_STS.INPUT_GOOD = false := by simp [State.on, h]
  unfold State.chgBlock
  simp only [hi, Bool.false_and, Bool.not_false, if_true]
  split
  · rfl
  · split
    · rfl
    · split <;> rfl

theorem State.driveChg_off (s : State) (p : Nat) : (s.driveChg p false).on (Fld.CIS_PACK_STS.CHARGING p) = false := by
  unfold State.driveChg
  split
  · next h => simpa using h
  · simp only [State.on, State.driveLim, State.emit, State.fput]
    exact congrArg (· == 1) (State.fget_fset_self s (Fld.CIS_PACK_STS.CHARGING p) 0)

theorem State.driveChg_regsBut (s : State) (p : Nat) (high : Bool) :
    RegsBut [Fld.CIS_PACK_STS.CHARGING p] s (s.driveChg p high) :=
  .ite (.refl _ s) (RegsBut.same (t := s.fput (Fld.CIS_PACK_STS.CHARGING p) high) (RegsBut.fput (.refl _ s)))

theorem State.charge_eq (s : State) (p : Nat) : ∃ f, s.charge p =
    ((s.modPack p f).fset (Fld.CIS_PACK_STS.CHG_BLOCK p) ((s.modPack p f).chgBlock p)).driveChg p ((s.modPack p f).chgBlock p == 0) :=
  ⟨_, rfl⟩

theorem State.charge_off {s : State} (h : s.fget Fld.PSQ_STS.INPUT_GOOD = 0) (p : Nat) :
    (s.charge p).on (Fld.CIS_PACK_STS.CHARGING p) = false := by
  obtain ⟨f, e⟩ := s.charge_eq p
  rw [e, State.chgBlock_noInput (s := s.modPack p f) h]
  exact State.driveChg_off ..

theorem State.charge_charging (s : State) {p q : Nat} (hp : p < 4) (hq : q < 4) (h : q ≠ p) :
    (s.charge p).on (Fld.CIS_PACK_STS.CHARGING q) = s.on (Fld.CIS_PACK_STS.CHARGING q) := by
  have hb : ∀ p < 4, ∀ q < 4, q ≠ p → (Fld.CIS_PACK_STS.CHARGING q).bit ∉
      [Fld.CIS_PACK_STS.CHG_BLOCK p, Fld.CIS_PACK_STS.CHARGING p].map Field.bit := by decide
  obtain ⟨f, e⟩ := s.charge_eq p
  have hr : RegsBut [Fld.CIS_PACK_STS.CHG_BLOCK p, Fld.CIS_PACK_STS.CHARGING p] s (s.charge p) := by
    rw [e]
    exact ((RegsBut.refl _ s).same (u := s.modPack p f)).fset.trans ((State.driveChg_regsBut _ _ _).mono)
  rw [State.on, hr _ (hb p hp q hq h), State.on]

theorem State.chargeAll_off {s : State} (h : s.fget Fld.PSQ_STS.INPUT_GOOD = 0) {p : Nat} (hp : p < 4) :
    s.chargeAll.on (Fld.CIS_PACK_STS.CHARGING p) = false := by
  have hk : ∀ (l : List Nat) (u : State), (∀ q ∈ l, q < 4) → u.fget Fld.PSQ_STS.INPUT_GOOD = 0 →
      (p ∈ l ∨ u.on (Fld.CIS_PACK_STS.CHARGING p) = false) →
      (l.foldl (fun s p => s.charge p) u).on (Fld.CIS_PACK_STS.CHARGING p) = false := by
    intro l
    induction l with
    | nil => exact fun u _ _ h => h.resolve_left (by simp)
    | cons q l ih =>
      intro u hl hu hc
      obtain ⟨hq, hl⟩ := List.forall_mem_cons.1 hl
      refine ih _ hl ((((CisWork.refl u).charge hq).regs _ (by decide)).trans hu) ?_
      by_cases e : p = q
      · exact .inr (e ▸ State.charge_off hu q)
      · rw [u.charge_charging hq hp e]
        exact hc.imp_left fun h => (List.mem_cons.1 h).resolve_left e
  exact hk allPacks s (fun q => by simp [allPacks]; omega) h (.inl (by simp [allPacks]; omega))

end Machine

/-! ## The domains' part (R400) -/

theorem PdmWork.pdmWindowSpill {s t : State} {d : Nat} (h : PdmWork s t) (hd : d < 96) : PdmWork s (t.pdmWindowSpill d) := by
  unfold State.pdmWindowSpill
  split
  · exact h
  · extract_lets u
    have hu : PdmWork s u := by
      unfold u
      split
      · exact .ite (h.modDom.pdmReport hd) h
      · exact h
    exact .ite hu.modDom hu

/-- The domains' part of a spill trigger, but for the lock. -/
def Machine.State.pdmSpillDoms (s : State) : State :=
  (List.range 96).foldl (fun s d =>
    let s := match (s.dom d).pend with
      | some (_, c) => if c < 3 then s.pdmAbort d 7 else s
      | none => s
    let s := s.pdmWindowSpill d
    if (s.dom d).mode = 1 && d != 8 && d != 10 then s.wakeDom d else s) s

theorem Machine.State.pdmSpill_eq (s : State) : s.pdmSpill = { s.pdmSpillDoms with pdmLock := true } := rfl

theorem Machine.State.pdmSpillDoms_work (s : State) : PdmWork s s.pdmSpillDoms := by
  refine (PdmWork.refl s).foldl fun d hd t => ?_
  have hd : d < 96 := List.mem_range.1 hd
  have h₁ : PdmWork t (match (t.dom d).pend with
      | some (_, c) => if c < 3 then t.pdmAbort d 7 else t
      | none => t) := by
    split
    · exact .ite ((PdmWork.refl t).pdmAbort hd) (.refl t)
    · exact .refl t
  exact .ite ((h₁.pdmWindowSpill hd).wakeDom hd) (h₁.pdmWindowSpill hd)

/-! ## The trigger (R72, R73, R143) -/

namespace Machine

/-- A spill trigger before its plunge. -/
def State.spillReady (s : State) : State := ((s.pdmSpill.modPsq (fun q => { q with detect := true })).cisTrigger).setStage 1

theorem State.spillTrigger_eq (s : State) (cause : Nat) : s.spillTrigger cause = s.spillReady.ownSpill cause := rfl

/-- The spill of this module's own is named in the window. -/
def State.nameSpill (s : State) (cause : Nat) : State :=
  s.modCol (fun c => { c with window := c.window.map (fun w =>
    { w with ownSpill := some w.tw, spillCause := if w.ownSpill.isNone then cause else w.spillCause }) })

theorem State.pullPlungeN_low (s : State) : s.pullPlungeN.fget Fld.COL_PLUNGE_INFO.PLUNGEN_LOW = 1 :=
  (s.modCol (fun c => { c with driveLow := true })).fget_fset_self Fld.COL_PLUNGE_INFO.PLUNGEN_LOW 1

theorem State.pullPlungeN_fget (s : State) {f : Field} (h : f.bit ≠ Fld.COL_PLUNGE_INFO.PLUNGEN_LOW.bit) :
    s.pullPlungeN.fget f = s.fget f :=
  (s.modCol (fun c => { c with driveLow := true })).fget_fset_ne h 1

theorem State.ownSpill_opens {s : State} (h : s.col.window = none) (cause : Nat) :
    s.ownSpill cause = (((s.ownPlunge cause).nameSpill cause).fset Fld.COL_PLUNGE_INFO.OWN_SPILL 1).pullPlungeN := by
  have hw : s.windowPassed = false := by simp [State.windowPassed, h]
  simp only [State.ownSpill, hw]
  rfl

end Machine

/-- What the ready state of a spill trigger keeps and shows. -/
structure SpillReady (s r : State) : Prop where
  frame : r = { s with regs := r.regs, doms := r.doms, pdmLock := true, psq := r.psq, cis := r.cis, out := r.out }
  regs : ∀ f : Field, OffCis f → f.bit ≠ Fld.SPL_STATE.STAGE.bit → r.fget f = s.fget f
  stage : r.stage = 1
  detect : r.psq.detect = true
  rehAt : r.cis.rehAt = none
  charge : s.fget Fld.PSQ_STS.INPUT_GOOD = 0 → ∀ p, p < 4 → r.on (Fld.CIS_PACK_STS.CHARGING p) = false

theorem pdmApart_of_offCis {f : Field} (h : OffCis f) : PdmApart f := by
  unfold OffCis at h
  unfold PdmApart
  omega

theorem Machine.State.spillReady_ready (s : State) : SpillReady s s.spillReady := by
  have hd := s.pdmSpillDoms_work
  rw [State.spillReady, State.pdmSpill_eq]
  generalize s.pdmSpillDoms = d at hd
  obtain ⟨hdf, hdr⟩ := hd
  have hc : CisWork (({ d with pdmLock := true } : State).modPsq (fun q => { q with detect := true }))
      (({ d with pdmLock := true } : State).modPsq (fun q => { q with detect := true })).cisTrigger := (CisWork.refl _).cisTrigger
  have hr := State.cisTrigger_rehAt (({ d with pdmLock := true } : State).modPsq (fun q => { q with detect := true }))
  have ho : ∀ p < 4, s.fget Fld.PSQ_STS.INPUT_GOOD = 0 →
      (({ d with pdmLock := true } : State).modPsq (fun q => { q with detect := true })).cisTrigger.on
        (Fld.CIS_PACK_STS.CHARGING p) = false := by
    intro p hp h0
    refine State.chargeAll_off ?_ hp
    rw [((CisWork.refl (({ d with pdmLock := true } : State).modPsq (fun q => { q with detect := true }))).calEnd.rehAbort).regs _
      (by decide)]
    exact (hdr _ (by simp [PdmApart, Fld.PSQ_STS.INPUT_GOOD])).trans h0
  generalize (({ d with pdmLock := true } : State).modPsq (fun q => { q with detect := true })).cisTrigger = c at hc hr ho
  obtain ⟨hcf, hcr⟩ := hc
  have hcp : ∀ f : Field, OffCis f → c.fget f = s.fget f := fun f hf => (hcr f hf).trans (hdr f (pdmApart_of_offCis hf))
  refine ⟨?_, fun f hf hn => ?_, ?_, ?_, hr, fun h0 p hp => ?_⟩
  · rw [State.setStage, State.fset, hcf, hdf]
    rfl
  · rw [State.setStage, State.fget_fset_ne _ hn, hcp f hf]
  · exact State.fget_fset_self ..
  · rw [State.setStage, hcf]
    rfl
  · rw [State.on, State.setStage, State.fget_fset_ne _ (by simp only [Fld.CIS_PACK_STS.CHARGING, Fld.SPL_STATE.STAGE]; omega)]
    exact ho p hp h0

theorem Handed.emit {t : State} {p : Nat} {f : Frame} (h : Handed t p f) (o : Out) : Handed (t.emit o) p f :=
  h.imp (fun h => List.mem_append_left _ h) id

theorem Handed.of_sent {s t : State} {ps : List Nat} {p : Nat} {f : Frame} (h : Sent s ps f t) (hp : p ∈ ps) (hf : f.type ≠ 1) :
    Handed t p f := (handed_sendOn s hp hf).congr h.1 h.2

/-- With no window open a spill trigger has opened one at whose T this module spills (R72, R73, R143, R400). -/
structure SpillSet (s t : State) (cause : Nat) : Prop where
  window : ∃ w, t.col.window = some w ∧ w.tw = s.curBeat + s.guardNow ∧ w.ownSpill = some w.tw ∧ w.spillCause = cause ∧
    w.own = true ∧ w.late = false ∧ w.cut = false
  stage : t.stage = 1
  driveLow : t.col.driveLow = true
  ownSpill : t.fget Fld.COL_PLUNGE_INFO.OWN_SPILL = 1
  plungeN : t.fget Fld.COL_PLUNGE_INFO.PLUNGEN_LOW = 1
  opened : t.fget Fld.COL_PLUNGE_STS.OPEN = 1
  cutBeat : t.fget Fld.COL_PLUNGE_STS.CUT_BEAT = (s.curBeat + s.guardNow) % 2 ^ 48
  handed : ∀ p ∈ s.plungePorts, Handed t p (s.mkFrame 0 (.plunge 0 cause (s.curBeat + s.guardNow)
    (BitVec.ofNat 64 (s.fget Fld.COL_GROUP_MASK.GROUPS))))
  rehAt : t.cis.rehAt = none
  detect : t.psq.detect = true
  frame : t = { s with
    regs := t.regs, doms := t.doms, pdmLock := true, psq := t.psq, cis := t.cis, col := t.col, tx := t.tx, out := t.out }
  input : ∀ f ∈ [Fld.PSQ_STS.INPUT_GOOD, Fld.PSQ_STS.INPUT_LOW], t.fget f = s.fget f
  charge : s.fget Fld.PSQ_STS.INPUT_GOOD = 0 → ∀ p, p < 4 → t.on (Fld.CIS_PACK_STS.CHARGING p) = false

/-- The fields of the colony that a plunge of the module's own depends on, and the ports it goes out on. -/
theorem SpillReady.colony {s r : State} (h : SpillReady s r) : r.curBeat = s.curBeat ∧ r.guardNow = s.guardNow ∧
    r.moduleId = s.moduleId ∧ r.fget Fld.COL_GROUP_MASK.GROUPS = s.fget Fld.COL_GROUP_MASK.GROUPS ∧
    r.plungePorts = s.plungePorts := by
  have hc : r.col = s.col := by rw [h.frame]
  have ht : r.colTime = s.colTime := by rw [h.frame]
  have hg : ∀ f ∈ [Fld.COL_CTL.ROLE, Fld.COL_ID.MODULE_ID, Fld.COL_GROUP_MASK.GROUPS, Fld.COL_EPOCH_CFG.GUARD] ++
      allPorts.map Fld.COL_PORT_CFG.ROLE, r.fget f = s.fget f := fun f hf => by
    have hb : ∀ f ∈ [Fld.COL_CTL.ROLE, Fld.COL_ID.MODULE_ID, Fld.COL_GROUP_MASK.GROUPS, Fld.COL_EPOCH_CFG.GUARD] ++
      allPorts.map Fld.COL_PORT_CFG.ROLE, OffCis f ∧ f.bit ≠ Fld.SPL_STATE.STAGE.bit := by decide
    exact h.regs f (hb f hf).1 (hb f hf).2
  have hp : ∀ p ∈ allPorts, r.portRole p = s.portRole p := fun p hp =>
    hg _ (List.mem_append_right _ (List.mem_map_of_mem hp))
  refine ⟨by rw [State.curBeat, ht, State.curBeat], by rw [State.guardNow, hc, hg _ (by simp), State.guardNow], hg _ (by simp),
    hg _ (by simp), ?_⟩
  simp only [State.plungePorts, State.isStandalone, hg Fld.COL_CTL.ROLE (by simp)]
  rw [List.filter_congr fun p hpm => by rw [hp p hpm]]
  rfl

theorem Machine.State.spillTrigger_set {s : State} (hw : s.col.window = none) (hg : 0 < s.guardNow) (cause : Nat) :
    SpillSet s (s.spillTrigger cause) cause := by
  have h := s.spillReady_ready
  rw [State.spillTrigger_eq]
  generalize s.spillReady = r at h
  obtain ⟨hb, hgn, hid, hgr, hpp⟩ := h.colony
  have hcol : r.col = s.col := by rw [h.frame]
  have hrw : r.col.window = none := by rw [hcol, hw]
  have a := r.ownPlunge_opens hrw cause
  rw [State.ownSpill_opens hrw]
  have hlt : r.curBeat < r.curBeat + r.guardNow := by omega
  have htw := r.opened_tw hlt (r.fget Fld.COL_GROUP_MASK.GROUPS) true
  have hlate := r.opened_late hlt (r.fget Fld.COL_GROUP_MASK.GROUPS) true
  generalize r.ownPlunge cause = u at a
  have hcut := a.cutBeat
  rw [htw, hb, hgn] at hcut
  have hreg : RegsBut (Fld.COL_PLUNGE_INFO.OWN_SPILL :: Fld.COL_PLUNGE_INFO.PLUNGEN_LOW :: annFields) r
      (((u.nameSpill cause).fset Fld.COL_PLUNGE_INFO.OWN_SPILL 1).pullPlungeN) :=
    RegsBut.same (RegsBut.fset (f := Fld.COL_PLUNGE_INFO.PLUNGEN_LOW) (v := 1) (RegsBut.modCol
      (RegsBut.fset (f := Fld.COL_PLUNGE_INFO.OWN_SPILL) (v := 1) (RegsBut.modCol
        (a.regs.mono fun _ h => List.mem_cons_of_mem _ (List.mem_cons_of_mem _ h))))))
  have hfg : ∀ f : Field, f.bit ∉ [Fld.COL_PLUNGE_INFO.OWN_SPILL, Fld.COL_PLUNGE_INFO.PLUNGEN_LOW].map Field.bit →
      (((u.nameSpill cause).fset Fld.COL_PLUNGE_INFO.OWN_SPILL 1).pullPlungeN).fget f = u.fget f :=
    fun f hf => (RegsBut.same (RegsBut.fset (f := Fld.COL_PLUNGE_INFO.PLUNGEN_LOW) (v := 1) (RegsBut.modCol
      (RegsBut.fset (f := Fld.COL_PLUNGE_INFO.OWN_SPILL) (v := 1) (RegsBut.modCol (RegsBut.refl _ u)))))) f hf
  have hn : ∀ p < 4, (Fld.CIS_PACK_STS.CHARGING p).bit ∉
      (Fld.COL_PLUNGE_INFO.OWN_SPILL :: Fld.COL_PLUNGE_INFO.PLUNGEN_LOW :: annFields).map Field.bit := by decide
  have hi : ∀ f ∈ [Fld.PSQ_STS.INPUT_GOOD, Fld.PSQ_STS.INPUT_LOW], f.bit ∉
      (Fld.COL_PLUNGE_INFO.OWN_SPILL :: Fld.COL_PLUNGE_INFO.PLUNGEN_LOW :: annFields).map Field.bit ∧
      OffCis f ∧ f.bit ≠ Fld.SPL_STATE.STAGE.bit := by decide
  refine
    { window := ⟨{ r.opened (r.curBeat + r.guardNow) (r.fget Fld.COL_GROUP_MASK.GROUPS) true with
          ownSpill := some (r.opened (r.curBeat + r.guardNow) (r.fget Fld.COL_GROUP_MASK.GROUPS) true).tw
          spillCause := cause }, ?_, ?_, rfl, rfl, rfl, hlate, rfl⟩
      stage := ?_
      driveLow := rfl
      ownSpill := ?_
      plungeN := State.pullPlungeN_low _
      opened := ?_
      cutBeat := ?_
      handed := fun p hp => ?_
      rehAt := ?_
      detect := ?_
      frame := ?_
      input := fun f hf => ?_
      charge := fun h0 p hp => ?_ }
  · simp [State.pullPlungeN, State.nameSpill, State.modCol, State.emit, a.window, State.opened]
  · exact htw.trans (by rw [hb, hgn])
  · rw [State.stage, hreg _ (by decide)]
    exact h.stage
  · rw [State.pullPlungeN_fget _ (by decide), State.fget_fset_self]
    rfl
  · rw [hfg _ (by decide)]
    exact a.opened
  · rw [hfg _ (by decide)]
    exact hcut
  · have hs := a.sent
    rw [hpp, hb, hgn, hgr, State.mkFrame, hid] at hs
    exact ((Handed.of_sent hs hp (by simp [FrameBody.type_frame, FrameBody.type])).congr (t := u) rfl rfl).emit _ |>.congr rfl rfl
  · exact (congrArg CisState.rehAt (show u.cis = r.cis by rw [a.work])).trans h.rehAt
  · exact (congrArg PsqState.detect (show u.psq = r.psq by rw [a.work])).trans h.detect
  · rw [a.work.regsColTx a.flt, h.frame]
    rfl
  · rw [hreg f (hi f hf).1, h.regs f (hi f hf).2.1 (hi f hf).2.2]
  · rw [State.on, hreg _ (hn p hp)]
    exact h.charge h0 p hp

end Sys2Proof

/-! # The input's rise (R381, R388) -/

namespace Sys2Proof
open Machine

/-- The field lies outside the rail status. -/
abbrev OffRails (f : Field) : Prop := f.bit < 8 * 0x1B0200 ∨ 8 * 0x1B0280 ≤ f.bit

/-- The second state differs from the first in the rails, what drives them, and their status; the sequence begun last is the
same. -/
structure RailWork (s t : State) : Prop where
  frame : t = { s with regs := t.regs, psq := t.psq, out := t.out }
  regs : ∀ f : Field, OffRails f → t.fget f = s.fget f
  startAt : t.psq.startAt = s.psq.startAt

namespace RailWork
variable {s t u : State}

theorem refl (s : State) : RailWork s s := ⟨rfl, fun _ _ => rfl, rfl⟩
theorem trans (h : RailWork s t) (k : RailWork t u) : RailWork s u :=
  ⟨by rw [k.frame, h.frame], fun f hf => (k.regs f hf).trans (h.regs f hf), k.startAt.trans h.startAt⟩

theorem ite {c : Prop} {_ : Decidable c} (ht : RailWork s t) (hu : RailWork s u) : RailWork s (if c then t else u) := by
  split
  · exact ht
  · exact hu

theorem foldl {α : Type} {l : List α} {f : State → α → State} (h : RailWork s t) (hf : ∀ a ∈ l, ∀ t, RailWork t (f t a)) :
    RailWork s (l.foldl f t) := by
  induction l generalizing t with
  | nil => exact h
  | cons a l ih => exact ih (h.trans (hf a (by simp) t)) fun b hb => hf b (by simp [hb])

theorem fset {f v} (h : RailWork s t) (hf : ¬ OffRails f) : RailWork s (t.fset f v) :=
  h.trans ⟨rfl, fun _ hg => State.fget_fset_ne t (fun e => hf (by unfold OffRails at *; rwa [e] at hg)) v, rfl⟩
theorem emit {o} (h : RailWork s t) : RailWork s (t.emit o) := h.trans ⟨rfl, fun _ _ => rfl, rfl⟩
theorem modRail {r f} (h : RailWork s t) : RailWork s (t.modRail r f) := h.trans ⟨rfl, fun _ _ => rfl, rfl⟩

theorem driveRail {r high} (h : RailWork s t) (hr : r < 32) : RailWork s (t.driveRail r high) :=
  .ite h (.emit (h.fset (by simp only [OffRails, Fld.PSQ_RAIL_STS.ENABLED]; omega)))

theorem latchSlots (h : RailWork s t) : RailWork s t.latchSlots := h.foldl fun _ _ t => (refl t).modRail

theorem inputRails (h : RailWork s t) : RailWork s t.inputRails :=
  h.foldl fun _ hr t => .ite ((refl t).driveRail (List.mem_range.1 hr)) (.refl t)

end RailWork

namespace Machine

/-- A power-up's rails begin anew. -/
def State.railsAnew (s : State) : State := allRails.foldl (fun s r => (s.modRail r (fun x => { x with
  goodRun := 0
  timed := false
  leaving := false
  judged := false
  low := 0
  high := 0
  inside := 0 })).fset (Fld.PSQ_RAIL_STS.GOOD r) 0) s

/-- The sequence of a power-up starts at time `t`. -/
def State.startUp (s : State) (t : Nat) : State :=
  ((s.setSeq 1).fset Fld.PSQ_STS.PENDING 0).modPsq (fun q => { q with startAt := t, failed := false, retryAt := none })

theorem State.railsAnew_work (s : State) : RailWork s s.railsAnew :=
  (RailWork.refl s).foldl fun r hr t => ((RailWork.refl t).modRail).fset (by
    have := List.mem_range.1 hr
    simp only [OffRails, Fld.PSQ_RAIL_STS.GOOD]
    omega)

theorem State.powerUp_eq (s : State) : s.powerUp = (s.latchSlots.inputRails.startUp s.now).railsAnew.slotAct := rfl

theorem State.slotAct_work (s : State) : RailWork (s.fsat Fld.PSQ_STS.SLOT s.slotNow) s.slotAct := by
  unfold State.slotAct
  exact .ite ((RailWork.refl _).foldl fun r hr t => (RailWork.refl t).driveRail
    (List.mem_range.1 (List.mem_of_mem_filter hr))) (.refl _)

end Machine

/-- What a power-up leaves (R381). -/
structure PoweredUp (s t : State) : Prop where
  frame : t = { s with regs := t.regs, psq := t.psq, out := t.out }
  state : t.seqSt = 1
  startAt : t.psq.startAt = s.now
  regs : ∀ f : Field, OffRails f → f.bit ∉ [Fld.PSQ_STS.STATE, Fld.PSQ_STS.PENDING, Fld.PSQ_STS.SLOT].map Field.bit →
    t.fget f = s.fget f

theorem Machine.State.powerUp_poweredUp (s : State) : PoweredUp s s.powerUp := by
  have h := (RailWork.refl s).latchSlots.inputRails
  rw [State.powerUp_eq]
  generalize s.latchSlots.inputRails = v at h
  have h₁ := (v.startUp s.now).railsAnew_work
  have hs : (v.startUp s.now).seqSt = 1 := by
    have hb : Fld.PSQ_STS.STATE.bit ≠ Fld.PSQ_STS.PENDING.bit := by decide
    exact ((v.setSeq 1).fget_fset_ne hb 0).trans (v.fget_fset_self Fld.PSQ_STS.STATE 1)
  have hr : RegsBut [Fld.PSQ_STS.STATE, Fld.PSQ_STS.PENDING] v (v.startUp s.now) := RegsBut.same (RegsBut.fset (f := Fld.PSQ_STS.PENDING) (v := 0)
    (RegsBut.fset (f := Fld.PSQ_STS.STATE) (v := 1) (.refl _ v)))
  have hf : (v.startUp s.now) = { v with regs := (v.startUp s.now).regs, psq := (v.startUp s.now).psq } := rfl
  have ha : (v.startUp s.now).psq.startAt = s.now := rfl
  generalize (v.startUp s.now) = u at h₁ hs hr hf ha
  have h₂ := u.railsAnew.slotAct_work
  generalize u.railsAnew = w at h₁ h₂
  have hw : w.fsat Fld.PSQ_STS.SLOT w.slotNow = { w with regs := (w.fsat Fld.PSQ_STS.SLOT w.slotNow).regs } := rfl
  refine ⟨?_, ?_, ?_, fun f ho hn => ?_⟩
  · rw [h₂.frame, hw, h₁.frame, hf, h.frame]
  · rw [State.seqSt, h₂.regs _ (by decide), State.fsat, State.fget_fset_ne _ (by decide), h₁.regs _ (by decide)]
    exact hs
  · rw [h₂.startAt]
    exact h₁.startAt.trans ha
  · simp only [List.map_cons, List.map_nil, List.mem_cons, List.not_mem_nil, or_false, not_or] at hn
    rw [h₂.regs f ho, State.fsat, State.fget_fset_ne _ hn.2.2, h₁.regs f ho, hr f (by simp [hn]), h.regs f ho]

/-- What an on request leaves (R381, R382, R384). -/
theorem Machine.State.onRequest_spec (s : State) : s.onRequest = { s with regs := s.onRequest.regs, psq := s.onRequest.psq, out := s.onRequest.out } ∧
    (∀ f ∈ [Fld.PSQ_STS.INPUT_GOOD, Fld.PSQ_STS.INPUT_LOW], s.onRequest.fget f = s.fget f) ∧
    ((s.seqSt = 0 ∨ s.seqSt = 5) → s.onRequest.seqSt = 1 ∧ s.onRequest.psq.startAt = s.now) ∧
    ((s.seqSt = 3 ∨ s.seqSt = 4) → s.onRequest.seqSt = s.seqSt ∧ s.onRequest.fget Fld.PSQ_STS.PENDING = 1) := by
  have hb : ∀ f ∈ [Fld.PSQ_STS.INPUT_GOOD, Fld.PSQ_STS.INPUT_LOW], OffRails f ∧
      f.bit ∉ [Fld.PSQ_STS.STATE, Fld.PSQ_STS.PENDING, Fld.PSQ_STS.SLOT].map Field.bit ∧
      f.bit ≠ Fld.PSQ_STS.PENDING.bit ∧ f.bit ≠ Fld.PSQ_STS.RETRIES.bit := by decide
  have hpend : (s.fset Fld.PSQ_STS.PENDING 1).seqSt = s.seqSt ∧ (s.fset Fld.PSQ_STS.PENDING 1).fget Fld.PSQ_STS.PENDING = 1 :=
    ⟨State.fget_fset_ne s (by decide) 1, State.fget_fset_self ..⟩
  unfold State.onRequest
  split
  · next h =>
    have hp := s.powerUp_poweredUp
    exact ⟨hp.frame, fun f hf => hp.regs f (hb f hf).1 (hb f hf).2.1, fun _ => ⟨hp.state, hp.startAt⟩, fun h' => by omega⟩
  · next h =>
    have hp := (s.fset Fld.PSQ_STS.RETRIES 0).powerUp_poweredUp
    refine ⟨?_, fun f hf => ?_, fun _ => ⟨hp.state, hp.startAt⟩, fun h' => by omega⟩
    · rw [hp.frame]
      rfl
    · rw [hp.regs f (hb f hf).1 (hb f hf).2.1, State.fget_fset_ne _ (hb f hf).2.2.2]
  · next h =>
    refine ⟨?_, fun f hf => ?_, fun h' => by omega, fun h' => by omega⟩
    · split <;> rfl
    · split
      · exact State.fget_fset_ne _ (hb f hf).2.2.1 _
      · rfl
  · next h => exact ⟨rfl, fun f hf => State.fget_fset_ne _ (hb f hf).2.2.1 _, fun h' => by omega, fun _ => hpend⟩
  · next h => exact ⟨rfl, fun f hf => State.fget_fset_ne _ (hb f hf).2.2.1 _, fun h' => by omega, fun _ => hpend⟩
  · next h0 h5 h1 h3 h4 =>
    exact ⟨rfl, fun _ _ => rfl, fun h' => (h'.elim h0 h5).elim, fun h' => (h'.elim h3 h4).elim⟩

/-- A source that is a level is latched and shows (R403). -/
theorem wakeSource_shows {w : Nat} (hw : w ≤ 2) (s : State) :
    ((wakeSource w s).fget Fld.PDM_WAKE_STS.LATCHED).testBit w = true ∧
    ((wakeSource w s).fget Fld.PDM_WAKE_STS.LEVEL).testBit w = true := by
  have hbit : ∀ x : Nat, ((x ||| 2 ^ w) % 2 ^ 5).testBit w = true := fun x => by
    rw [Nat.testBit_mod_two_pow, Nat.testBit_or, Nat.testBit_two_pow_self]
    simp
    omega
  unfold wakeSource
  extract_lets s₁ s₂
  have hs₁ : (s₁.fget Fld.PDM_WAKE_STS.LATCHED).testBit w = true := by
    unfold s₁
    rw [State.fget_fset_self]
    exact hbit _
  have e : s₂ = s₁.fset Fld.PDM_WAKE_STS.LEVEL (s₁.fget Fld.PDM_WAKE_STS.LEVEL ||| 2 ^ w) := if_pos hw
  have hs₂ : (s₂.fget Fld.PDM_WAKE_STS.LATCHED).testBit w = true ∧ (s₂.fget Fld.PDM_WAKE_STS.LEVEL).testBit w = true := by
    rw [e, State.fget_fset_self, State.fget_fset_ne _ (by decide)]
    exact ⟨hs₁, hbit _⟩
  rw [if_neg (by omega)]
  split
  · exact hs₂
  · have hr := ((PdmWork.refl s₂).wakes (w := w)).regs
    rw [hr _ (by simp [PdmApart, Fld.PDM_WAKE_STS.LATCHED]), hr _ (by simp [PdmApart, Fld.PDM_WAKE_STS.LEVEL])]
    exact hs₂

/-! ## The trigger's rows (R143, R145, R388) -/

namespace Machine

/-- The registers and the rest, however an own plunge falls. -/
theorem State.ownPlunge_work (s : State) (cause : Nat) : ColWork s (s.ownPlunge cause) ∧ (s.ownPlunge cause).flt = s.flt ∧
    RegsBut annFields s (s.ownPlunge cause) := by
  unfold State.ownPlunge
  extract_lets t g wins v
  have hc : RegsCol s v := s.mergeAnn_regsCol ..
  have hr : RegsBut annFields s v := s.mergeAnn_regsBut _ _ _ _ _
  split
  · exact ⟨hc.colWork.trans (State.announce_colWork ..), (State.announce_flt ..).trans hc.flt, hr.same (State.announce_regs ..)⟩
  · exact ⟨hc.colWork, hc.flt, hr⟩

end Machine

/-- An FM spill of a device that does not serve is counted as ignored and announced (R145). -/
theorem fmSpill_ignored {s t : State} (h : s.isCut = true ∨ s.dev = .basin) (e : t = fmSpill s) : t.dev = s.dev ∧ t.stage = s.stage ∧
    t.fget Fld.SPL_CNTB.IGNORED = min (s.fget Fld.SPL_CNTB.IGNORED + 1) Fld.SPL_CNTB.IGNORED.max ∧
    t.fget Fld.COL_PLUNGE_INFO.PLUNGEN_LOW = 1 ∧ t = { s with regs := t.regs, col := t.col, tx := t.tx, out := t.out } := by
  have e' : fmSpill s = ((s.bump Fld.SPL_CNTB.IGNORED Fld.SPL_CNTB.IG_SAT).ownPlunge 3).pullPlungeN := by
    rcases h with h | h
    · simp only [State.isCut, Bool.or_eq_true, beq_iff_eq] at h
      rcases h with h | h <;> simp only [fmSpill, h]
    · simp only [fmSpill, h]
  rw [e, e']
  have hbump := (ColWork.refl s).bump (c := Fld.SPL_CNTB.IGNORED) (o := Fld.SPL_CNTB.IG_SAT) (n := 1)
  have hbr : RegsBut [Fld.SPL_CNTB.IGNORED, Fld.SPL_CNTB.IG_SAT] s (s.bump Fld.SPL_CNTB.IGNORED Fld.SPL_CNTB.IG_SAT) := (RegsBut.refl _ s).bump
  have hcnt : (s.bump Fld.SPL_CNTB.IGNORED Fld.SPL_CNTB.IG_SAT).fget Fld.SPL_CNTB.IGNORED = _ := State.fget_bump_self s (by decide) 1
  have hfl := s.bump_flt Fld.SPL_CNTB.IGNORED Fld.SPL_CNTB.IG_SAT 1
  generalize s.bump Fld.SPL_CNTB.IGNORED Fld.SPL_CNTB.IG_SAT = v at *
  obtain ⟨h1, h2, h3⟩ := v.ownPlunge_work 3
  generalize v.ownPlunge 3 = u at *
  have hw := hbump.trans h1
  refine ⟨hw.dev, ?_, ?_, State.pullPlungeN_low _, ?_⟩
  · rw [State.stage, State.pullPlungeN_fget _ (by decide), h3 _ (by decide), hbr _ (by decide)]
    rfl
  · rw [State.pullPlungeN_fget _ (by decide), h3 _ (by decide), hcnt]
  · rw [hw.regsColTx (h2.trans hfl)]
    rfl

namespace Machine

/-- The input has failed, and every charger is down (R388, R104). -/
def State.inputLow (s : State) : State := (((s.fset Fld.PSQ_STS.INPUT_LOW 1).fset Fld.PSQ_STS.INPUT_GOOD 0).levelOff 1).chargeAll

/-- What the input's fall leaves for the trigger. -/
theorem State.inputLow_spec (s : State) : s.inputLow = { s with regs := s.inputLow.regs, cis := s.inputLow.cis, out := s.inputLow.out } ∧
    (∀ f : Field, OffCis f → f.bit ∉ [Fld.PSQ_STS.INPUT_LOW, Fld.PSQ_STS.INPUT_GOOD, Fld.PDM_WAKE_STS.LEVEL].map Field.bit →
      s.inputLow.fget f = s.fget f) ∧
    s.inputLow.fget Fld.PSQ_STS.INPUT_LOW = 1 ∧ s.inputLow.fget Fld.PSQ_STS.INPUT_GOOD = 0 := by
  have h₁ : RegsBut [Fld.PSQ_STS.INPUT_LOW, Fld.PSQ_STS.INPUT_GOOD] s ((s.fset Fld.PSQ_STS.INPUT_LOW 1).fset Fld.PSQ_STS.INPUT_GOOD 0) :=
    (RegsBut.refl _ s).fset.fset
  have hlow : ((s.fset Fld.PSQ_STS.INPUT_LOW 1).fset Fld.PSQ_STS.INPUT_GOOD 0).fget Fld.PSQ_STS.INPUT_LOW = 1 := by
    rw [State.fget_fset_ne _ (by decide), State.fget_fset_self]
    rfl
  have hgood : ((s.fset Fld.PSQ_STS.INPUT_LOW 1).fset Fld.PSQ_STS.INPUT_GOOD 0).fget Fld.PSQ_STS.INPUT_GOOD = 0 :=
    State.fget_fset_self ..
  have hf : (s.fset Fld.PSQ_STS.INPUT_LOW 1).fset Fld.PSQ_STS.INPUT_GOOD 0 =
      { s with regs := ((s.fset Fld.PSQ_STS.INPUT_LOW 1).fset Fld.PSQ_STS.INPUT_GOOD 0).regs } := rfl
  rw [State.inputLow]
  generalize (s.fset Fld.PSQ_STS.INPUT_LOW 1).fset Fld.PSQ_STS.INPUT_GOOD 0 = u at *
  have hl := u.levelOff_regsBut 1
  have hlf := u.levelOff_eq 1
  generalize u.levelOff 1 = v at *
  have hw : CisWork v v.chargeAll := (CisWork.refl _).chargeAll
  generalize v.chargeAll = t at *
  refine ⟨by rw [hw.frame, hlf, hf], fun f ho hn => ?_, ?_, ?_⟩
  · have hr : RegsBut [Fld.PSQ_STS.INPUT_LOW, Fld.PSQ_STS.INPUT_GOOD, Fld.PDM_WAKE_STS.LEVEL] s v := h₁.mono.trans hl.mono
    rw [hw.regs f ho, hr f hn]
  · rw [hw.regs _ (by decide), hl _ (by decide), hlow]
  · rw [hw.regs _ (by decide), hl _ (by decide), hgood]

theorem inputCollapse_open {s : State} (h : s.isOpen = true) : inputCollapse s = s.inputLow.spillTrigger 1 := by
  have hd : s.inputLow.dev = s.dev := by rw [s.inputLow_spec.1]
  rw [State.inputLow] at hd ⊢
  unfold inputCollapse
  generalize (((s.fset Fld.PSQ_STS.INPUT_LOW 1).fset Fld.PSQ_STS.INPUT_GOOD 0).levelOff 1).chargeAll = v at *
  simp only [State.isOpen, Bool.or_eq_true, beq_iff_eq] at h
  rcases h with h | h
  · simp only [hd, h]
  · simp only [hd, h]

theorem fmSpill_open {s : State} (h : s.isOpen = true) : fmSpill s = s.spillTrigger 3 := by
  simp only [State.isOpen, Bool.or_eq_true, beq_iff_eq] at h
  rcases h with h | h <;> simp only [fmSpill, h]

end Machine

/-- What the input's rise leaves (R381, R388, R403). -/
theorem inputGoodRise_spec {s t : State} (h : s.on Fld.PSQ_STS.INPUT_GOOD = false) (e : t = inputGoodRise s) :
    t.fget Fld.PSQ_STS.INPUT_GOOD = 1 ∧ t.fget Fld.PSQ_STS.INPUT_LOW = 0 ∧
    (t.fget Fld.PDM_WAKE_STS.LATCHED).testBit 1 = true ∧ (t.fget Fld.PDM_WAKE_STS.LEVEL).testBit 1 = true ∧
    ((s.seqSt = 0 ∨ s.seqSt = 5) → t.seqSt = 1 ∧ t.psq.startAt = s.now) ∧
    ((s.seqSt = 3 ∨ s.seqSt = 4) → t.seqSt = s.seqSt ∧ t.fget Fld.PSQ_STS.PENDING = 1) ∧
    t = { s with regs := t.regs, psq := t.psq, doms := t.doms, out := t.out } := by
  have e' : inputGoodRise s = wakeSource 1 ((s.fset Fld.PSQ_STS.INPUT_GOOD 1).fset Fld.PSQ_STS.INPUT_LOW 0).onRequest := by
    unfold inputGoodRise
    rw [if_neg (by simp [h])]
  have hu : (s.fset Fld.PSQ_STS.INPUT_GOOD 1).fset Fld.PSQ_STS.INPUT_LOW 0 =
      { s with regs := ((s.fset Fld.PSQ_STS.INPUT_GOOD 1).fset Fld.PSQ_STS.INPUT_LOW 0).regs } := rfl
  have hg : ((s.fset Fld.PSQ_STS.INPUT_GOOD 1).fset Fld.PSQ_STS.INPUT_LOW 0).fget Fld.PSQ_STS.INPUT_GOOD = 1 := by
    rw [State.fget_fset_ne _ (by decide), State.fget_fset_self]
    rfl
  have hl : ((s.fset Fld.PSQ_STS.INPUT_GOOD 1).fset Fld.PSQ_STS.INPUT_LOW 0).fget Fld.PSQ_STS.INPUT_LOW = 0 := State.fget_fset_self ..
  have hs : ((s.fset Fld.PSQ_STS.INPUT_GOOD 1).fset Fld.PSQ_STS.INPUT_LOW 0).seqSt = s.seqSt := by
    rw [State.seqSt, State.fget_fset_ne _ (by decide), State.fget_fset_ne _ (by decide)]
    rfl
  rw [e'] at e
  generalize (s.fset Fld.PSQ_STS.INPUT_GOOD 1).fset Fld.PSQ_STS.INPUT_LOW 0 = u at *
  obtain ⟨o1, o2, o3, o4⟩ := u.onRequest_spec
  generalize u.onRequest = o at *
  have hd := wakeSource_domWork 1 o
  have hr : ∀ f ∈ [Fld.PSQ_STS.INPUT_GOOD, Fld.PSQ_STS.INPUT_LOW, Fld.PSQ_STS.STATE, Fld.PSQ_STS.PENDING], t.fget f = o.fget f := by
    have hb : ∀ f ∈ [Fld.PSQ_STS.INPUT_GOOD, Fld.PSQ_STS.INPUT_LOW, Fld.PSQ_STS.STATE, Fld.PSQ_STS.PENDING],
        f.bit < 8 * 0x1C0000 ∧ f.bit ≠ Fld.PDM_WAKE_STS.LATCHED.bit ∧ f.bit ≠ Fld.PDM_WAKE_STS.LEVEL.bit := by decide
    intro f hf
    rw [e]
    exact wakeSource_regs 1 o (.inl (hb f hf).1) (hb f hf).2.1 (hb f hf).2.2
  obtain ⟨hla, hle⟩ := wakeSource_shows (by decide : 1 ≤ 2) o
  rw [← e] at hla hle hd
  have hpsq : t.psq = o.psq := by rw [hd]
  have hnow : u.now = s.now := by rw [hu]
  rw [hs] at o3 o4
  refine ⟨?_, ?_, hla, hle, fun h => ?_, fun h => ?_, ?_⟩
  · rw [hr _ (by simp), o2 _ (by simp), hg]
  · rw [hr _ (by simp), o2 _ (by simp), hl]
  · rw [State.seqSt, hr _ (by simp), hpsq, (o3 h).2, hnow]
    exact ⟨(o3 h).1, rfl⟩
  · rw [State.seqSt, hr _ (by simp), hr _ (by simp), (o4 h).2]
    exact ⟨(o4 h).1, rfl⟩
  · rw [hd, o1, hu]

end Sys2Proof

/-! # Cuts of the LDs (R69, R74, R133) -/

namespace Sys2Proof
open Machine

/-! ## What a cut of one LD changes -/

/-- The LD has a pending checkpoint of this number, identifier and cut beat. -/
def HasCut (l : Ld) (no id b : Nat) : Prop := ∃ k ∈ l.ckpts, k.no = no ∧ k.id = id ∧ k.cutBeat = b ∧ k.complete = false

/-- The second state differs from the first in registers and LD `n`, whose pending checkpoints are still there. -/
structure CutWork (n : Nat) (s t : State) : Prop where
  frame : t = { s with regs := t.regs, lds := t.lds }
  others : ∀ m, m ≠ n → t.ld m = s.ld m
  lasts : ∀ no id b, HasCut (s.ld n) no id b → HasCut (t.ld n) no id b

namespace CutWork
variable {n : Nat} {s t u : State}

theorem refl (s : State) : CutWork n s s := ⟨rfl, fun _ _ => rfl, fun _ _ _ h => h⟩
theorem trans (h : CutWork n s t) (k : CutWork n t u) : CutWork n s u :=
  ⟨by rw [k.frame, h.frame], fun m hm => (k.others m hm).trans (h.others m hm), fun no id b hc => k.lasts _ _ _ (h.lasts _ _ _ hc)⟩
theorem ite {c : Prop} {_ : Decidable c} (ht : CutWork n s t) (hu : CutWork n s u) : CutWork n s (if c then t else u) := by
  split
  · exact ht
  · exact hu
theorem curBeat (h : CutWork n s t) : t.curBeat = s.curBeat := by rw [h.frame]; rfl

theorem fset {f v} (h : CutWork n s t) : CutWork n s (t.fset f v) := h.trans ⟨rfl, fun _ _ => rfl, fun _ _ _ h => h⟩
theorem fput {f b} (h : CutWork n s t) : CutWork n s (t.fput f b) := h.fset
theorem showCkpts (h : CutWork n s t) : CutWork n s (t.showCkpts n) := h.fset.fset.fset.fput

theorem modLd {f} (h : CutWork n s t) (hf : ∀ l no id b, HasCut l no id b → HasCut (f l) no id b) : CutWork n s (t.modLd n f) :=
  h.trans ⟨rfl, fun _ hm => State.ld_modLd_ne _ f hm, fun no id b hc => by
    rw [State.ld_modLd_self]
    exact hf _ _ _ _ hc⟩

theorem recount (h : CutWork n s t) : CutWork n s (t.recount n) := h.modLd fun _ _ _ _ h => h

theorem modCkpt {no f} (h : CutWork n s t)
    (hf : ∀ c, (f c).no = c.no ∧ (f c).id = c.id ∧ (f c).cutBeat = c.cutBeat ∧ (f c).complete = c.complete) :
    CutWork n s (t.modCkpt n no f) := h.modLd fun l no' id b hc => by
  obtain ⟨k, hk, h1, h2, h3, h4⟩ := hc
  refine ⟨_, List.mem_map_of_mem hk, ?_⟩
  obtain ⟨f1, f2, f3, f4⟩ := hf k
  split
  · exact ⟨f1.trans h1, f2.trans h2, f3.trans h3, f4.trans h4⟩
  · exact ⟨h1, h2, h3, h4⟩

theorem dropCkpt {no} (h : CutWork n s t) : CutWork n s (t.dropCkpt n no) := (h.modLd fun l no' id b hc => by
  obtain ⟨k, hk, h1, h2, h3, h4⟩ := hc
  exact ⟨k, List.mem_filter.2 ⟨hk, by simp [h4]⟩, h1, h2, h3, h4⟩).showCkpts

theorem giveUp {no} (h : CutWork n s t) : CutWork n s (t.giveUp n no) := by
  unfold State.giveUp
  split
  · exact .ite h.dropCkpt (h.modCkpt fun _ => ⟨rfl, rfl, rfl, rfl⟩)
  · exact h

theorem takeRetain {want} (h : CutWork n s t) : CutWork n s (t.takeRetain n want).1 := by
  unfold State.takeRetain
  split
  · exact h.giveUp
  · exact h
  · exact h

end CutWork

namespace Machine

/-- A new checkpoint of LD `n` is in its list, before OVER_WEIR is judged. -/
def State.newCkpt (s : State) (n : Nat) (c : Ckpt) : State :=
  (fun s => if s.cls n == 1 then s.recount n else s)
    (s.modLd n (fun l => { l with cutSeq := c.id, cuts := c.no, ckpts := l.ckpts ++ [c] }))

theorem State.takeCkpt_full {s : State} {n : Nat} (h : 1024 ≤ (s.ld n).pending.length) (cause : Nat) (want late report : Bool)
    (rings : List (Nat × Nat)) : s.takeCkpt n cause want late report rings = (s, false) := if_pos h

theorem State.takeCkpt_taken {s : State} {n : Nat} (h : (s.ld n).pending.length < 1024) (cause : Nat) (want late report : Bool)
    (rings : List (Nat × Nat)) : ∃ c o, c.no = ((s.takeRetain n want).1.ld n).cuts + 1 ∧ c.cutBeat = (s.takeRetain n want).1.curBeat ∧ c.complete = false ∧
      s.takeCkpt n cause want late report rings = ((((s.takeRetain n want).1.newCkpt n c).modCkpt n c.no
        (fun c => { c with overWeir := o })).showCkpts n, true) := by
  unfold State.takeCkpt
  extract_lets l x s₁ retain l₁ id no left recs c s₂ s₃ tooBig s₄
  rw [if_neg (Nat.not_le.2 h)]
  exact ⟨c, tooBig, rfl, rfl, rfl, rfl⟩

theorem State.newCkpt_ld (s : State) (n : Nat) (c : Ckpt) : ∃ o, (s.newCkpt n c).ld n =
    { s.ld n with cutSeq := c.id, cuts := c.no, ckpts := (s.ld n).ckpts ++ [c], owed := o } := by
  unfold State.newCkpt
  dsimp only
  split
  · exact ⟨_, by rw [State.recount, State.ld_modLd_self, State.ld_modLd_self]⟩
  · exact ⟨(s.ld n).owed, by rw [State.ld_modLd_self]⟩

theorem State.ld_showCkpts (s : State) (n : Nat) : (s.showCkpts n).ld n = s.ld n := rfl

end Machine

theorem CutWork.newCkpt {n : Nat} {s t : State} (h : CutWork n s t) (c : Ckpt) : CutWork n s (t.newCkpt n c) := by
  have h₁ : CutWork n s (t.modLd n (fun l => { l with cutSeq := c.id, cuts := c.no, ckpts := l.ckpts ++ [c] })) :=
    h.modLd fun l no id b hc => by
      obtain ⟨k, hk, hr⟩ := hc
      exact ⟨k, List.mem_append_left _ hk, hr⟩
  exact .ite h₁.recount h₁

/-- A cut that is taken: what it changes, and the checkpoint it leaves. -/
structure Cut (n : Nat) (s : State) (x : State × Option (Nat × Nat)) : Prop where
  work : CutWork n s x.1
  took : ∀ c, x.2 = some c → HasCut (x.1.ld n) c.1 c.2 s.curBeat

namespace Machine

/-- The cut of an LD whose last checkpoint is of an earlier beat, or complete. -/
def State.cutAnew (s : State) (n cause : Nat) (want late report : Bool) (rings : List (Nat × Nat)) : State × Option (Nat × Nat) :=
  let x := s.takeCkpt n cause want late report rings
  (x.1, if x.2 then some ((x.1.ld n).cuts, (x.1.ld n).cutSeq) else none)

/-- The cut of an LD that shares the checkpoint `c` (R314). -/
def State.cutShared (s : State) (n : Nat) (c : Ckpt) (cause : Nat) (want late report : Bool) (rings : List (Nat × Nat)) :
    State × Option (Nat × Nat) :=
  let x := s.takeRetain n (want && !c.retain)
  ((x.1.modCkpt n c.no (fun c => { c with
    rings := c.rings ++ rings
    retain := c.retain || x.2
    kept := c.kept || (cause == 0 && want && (c.retain || x.2))
    cause := max c.cause cause
    late := c.late || late
    report := c.report || report })).showCkpts n, some (c.no, c.id))

theorem State.cutLd_eq (s : State) (n cause : Nat) (want late report : Bool) (rings : List (Nat × Nat)) :
    s.cutLd n cause want late report rings = match (s.ld n).ckpts.getLast? with
      | some c => if c.cutBeat == s.curBeat && !c.complete then s.cutShared n c cause want late report rings
        else s.cutAnew n cause want late report rings
      | none => s.cutAnew n cause want late report rings := rfl

theorem State.cutAnew_cut (s : State) (n cause : Nat) (want late report : Bool) (rings : List (Nat × Nat)) :
    Cut n s (s.cutAnew n cause want late report rings) ∧
    ((s.ld n).pending.length < 1024 → ∃ c, (s.cutAnew n cause want late report rings).2 = some c) := by
  unfold State.cutAnew
  rcases Nat.lt_or_ge (s.ld n).pending.length 1024 with h | h
  · obtain ⟨c, o, hno, hb, hc, e⟩ := State.takeCkpt_taken h cause want late report rings
    have hr := (CutWork.refl (n := n) s).takeRetain (want := want)
    rw [hr.curBeat] at hb
    simp only [e, if_true]
    generalize (s.takeRetain n want).1 = u at *
    have hn := hr.newCkpt c
    obtain ⟨o', hl⟩ := u.newCkpt_ld n c
    generalize u.newCkpt n c = v at *
    have hm := ((CutWork.refl v).modCkpt (n := n) (no := c.no) (f := fun c => { c with overWeir := o })
      fun _ => ⟨rfl, rfl, rfl, rfl⟩).showCkpts
    have hcut : (((v.modCkpt n c.no (fun c => { c with overWeir := o })).showCkpts n).ld n).cuts = c.no ∧
        (((v.modCkpt n c.no (fun c => { c with overWeir := o })).showCkpts n).ld n).cutSeq = c.id := by
      rw [State.ld_showCkpts, State.modCkpt, State.ld_modLd_self, hl]
      exact ⟨rfl, rfl⟩
    have hk : HasCut (v.ld n) c.no c.id s.curBeat := by
      rw [hl]
      exact ⟨c, List.mem_append_right _ (List.mem_singleton_self c), rfl, rfl, hb, hc⟩
    generalize (v.modCkpt n c.no (fun c => { c with overWeir := o })).showCkpts n = w at *
    refine ⟨⟨hn.trans hm, fun x hx => ?_⟩, fun _ => ⟨_, rfl⟩⟩
    rw [← Option.some.inj hx, hcut.1, hcut.2]
    exact hm.lasts _ _ _ hk
  · rw [State.takeCkpt_full h]
    exact ⟨⟨.refl s, fun _ hx => by cases hx⟩, fun h' => absurd h' (Nat.not_lt.2 h)⟩

theorem State.cutShared_cut {s : State} {n : Nat} {c : Ckpt} (hc : c ∈ (s.ld n).ckpts) (hb : c.cutBeat = s.curBeat)
    (hi : c.complete = false) (cause : Nat) (want late report : Bool) (rings : List (Nat × Nat)) :
    Cut n s (s.cutShared n c cause want late report rings) := by
  unfold State.cutShared
  extract_lets x
  have hr : CutWork n s x.1 := (CutWork.refl s).takeRetain
  clear_value x
  have h := (hr.modCkpt (no := c.no) (f := fun c => { c with
    rings := c.rings ++ rings
    retain := c.retain || x.2
    kept := c.kept || (cause == 0 && want && (c.retain || x.2))
    cause := max c.cause cause
    late := c.late || late
    report := c.report || report }) fun _ => ⟨rfl, rfl, rfl, rfl⟩).showCkpts
  refine ⟨h, fun y hy => ?_⟩
  rw [← Option.some.inj hy]
  exact h.lasts _ _ _ ⟨c, hc, rfl, rfl, hb, hi⟩

theorem State.cutLd_cut (s : State) (n cause : Nat) (want late report : Bool) (rings : List (Nat × Nat)) :
    Cut n s (s.cutLd n cause want late report rings) ∧
    ((s.ld n).pending.length < 1024 → ∃ c, (s.cutLd n cause want late report rings).2 = some c) := by
  rw [State.cutLd_eq]
  split
  · next c hc =>
    split
    · next h =>
      simp only [Bool.and_eq_true, beq_iff_eq, Bool.not_eq_true'] at h
      exact ⟨State.cutShared_cut (List.mem_of_getLast? hc) h.1 h.2 .., fun _ => ⟨_, rfl⟩⟩
    · exact s.cutAnew_cut ..
  · exact s.cutAnew_cut ..

end Machine

/-! ## The cut of every covered LD -/

/-- The second state differs from the first in registers and the LDs, whose pending checkpoints are still there. -/
structure CutsWork (s t : State) : Prop where
  frame : t = { s with regs := t.regs, lds := t.lds }
  lasts : ∀ n no id b, HasCut (s.ld n) no id b → HasCut (t.ld n) no id b

theorem CutsWork.refl (s : State) : CutsWork s s := ⟨rfl, fun _ _ _ _ h => h⟩
theorem CutsWork.trans {s t u : State} (h : CutsWork s t) (k : CutsWork t u) : CutsWork s u :=
  ⟨by rw [k.frame, h.frame], fun n no id b hc => k.lasts _ _ _ _ (h.lasts _ _ _ _ hc)⟩

theorem CutsWork.curBeat {s t : State} (h : CutsWork s t) : t.curBeat = s.curBeat := by rw [h.frame]; rfl

theorem CutWork.cuts {n : Nat} {s t : State} (h : CutWork n s t) : CutsWork s t :=
  ⟨h.frame, fun m no id b hc => by
    by_cases e : m = n
    · subst e
      exact h.lasts _ _ _ hc
    · rwa [h.others m e]⟩

namespace Machine

/-- One covered LD's cut, in the order of the LDs: the state so far, the cuts taken and the LDs refused. -/
def State.cutStep (cause : Nat) (want late : Bool) (x : State × List (Nat × Nat × Nat) × List Nat) (n : Nat) :
    State × List (Nat × Nat × Nat) × List Nat :=
  match (x.1.cutLd n cause want late true []).2 with
  | some c => ((x.1.cutLd n cause want late true []).1, x.2.1 ++ [(n, c.1, c.2)], x.2.2)
  | none => ((x.1.cutLd n cause want late true []).1, x.2.1, x.2.2 ++ [n])

/-- The cuts of all LDs that are covered. -/
def State.cutAll (s : State) (cause mask : Nat) (own late : Bool) : State × List (Nat × Nat × Nat) × List Nat :=
  (allLds.filter (s.covers mask own)).foldl (State.cutStep cause (s.on Fld.EDDY_CFG.PLUNGE_RETAIN) late) (s, [], [])

theorem State.cutCovered_eq (s : State) (cause beat mask : Nat) (own late : Bool) : s.cutCovered cause beat mask own late =
    (s.cutAll cause mask own late).1.modCol (fun c => { c with
      cuts := c.cuts ++ [PlungeCut.mk beat late (s.cutAll cause mask own late).2.1 (s.cutAll cause mask own late).2.2] }) := rfl

/-- One LD's step. -/
theorem State.cutStep_spec (cause : Nat) (want late : Bool) (x : State × List (Nat × Nat × Nat) × List Nat) (n : Nat) :
    CutWork n x.1 (State.cutStep cause want late x n).1 ∧ (∀ e ∈ x.2.1, e ∈ (State.cutStep cause want late x n).2.1) ∧
    ((x.1.ld n).pending.length < 1024 → ∃ no id, (n, no, id) ∈ (State.cutStep cause want late x n).2.1 ∧
      HasCut ((State.cutStep cause want late x n).1.ld n) no id x.1.curBeat) := by
  obtain ⟨⟨hw, ht⟩, hs⟩ := x.1.cutLd_cut n cause want late true []
  unfold State.cutStep
  cases hc : (x.1.cutLd n cause want late true []).2 with
  | some c => exact ⟨hw, fun e he => List.mem_append_left _ he, fun _ => ⟨c.1, c.2, by simp, ht c hc⟩⟩
  | none =>
    refine ⟨hw, fun e he => he, fun h => ?_⟩
    obtain ⟨c, e⟩ := hs h
    rw [hc] at e
    cases e

theorem State.cutSteps_spec (cause : Nat) (want late : Bool) (l : List Nat) (hl : l.Nodup)
    (x : State × List (Nat × Nat × Nat) × List Nat) :
    CutsWork x.1 (l.foldl (State.cutStep cause want late) x).1 ∧
    (∀ e ∈ x.2.1, e ∈ (l.foldl (State.cutStep cause want late) x).2.1) ∧
    (∀ n ∈ l, (x.1.ld n).pending.length < 1024 → ∃ no id, (n, no, id) ∈ (l.foldl (State.cutStep cause want late) x).2.1 ∧
      HasCut ((l.foldl (State.cutStep cause want late) x).1.ld n) no id x.1.curBeat) := by
  induction l generalizing x with
  | nil => exact ⟨.refl _, fun _ h => h, fun _ h => by cases h⟩
  | cons m l ih =>
    obtain ⟨hm, hn⟩ := List.nodup_cons.1 hl
    obtain ⟨h1, h2, h3⟩ := State.cutStep_spec cause want late x m
    obtain ⟨k1, k2, k3⟩ := ih hn (State.cutStep cause want late x m)
    rw [List.foldl_cons]
    refine ⟨h1.cuts.trans k1, fun e he => k2 e (h2 e he), fun n hnl hp => ?_⟩
    rcases List.mem_cons.1 hnl with rfl | hnl
    · obtain ⟨no, id, ha, hb⟩ := h3 hp
      exact ⟨no, id, k2 _ ha, k1.lasts _ _ _ _ hb⟩
    · rw [← h1.curBeat]
      exact k3 n hnl (by rwa [h1.others n fun e => hm (e ▸ hnl)])

end Machine

/-- What the cut of every covered LD leaves: its record, and the checkpoint of each LD that has room for one. -/
structure Covered (s t : State) (beat mask : Nat) (own late : Bool) : Prop where
  frame : t = { s with regs := t.regs, lds := t.lds, col := { s.col with cuts := t.col.cuts } }
  took : ∃ c, t.col.cuts = s.col.cuts ++ [c] ∧ c.beat = beat ∧ c.late = late ∧
    ∀ n, n < 32 → s.covers mask own n = true → (s.ld n).pending.length < 1024 →
      ∃ no id, (n, no, id) ∈ c.ckpts ∧ HasCut (t.ld n) no id s.curBeat

theorem Machine.State.cutCovered_covered (s : State) (cause beat mask : Nat) (own late : Bool) :
    Covered s (s.cutCovered cause beat mask own late) beat mask own late := by
  have hl : (allLds.filter (s.covers mask own)).Nodup := List.Nodup.filter _ List.nodup_range
  obtain ⟨h1, -, h3⟩ := State.cutSteps_spec cause (s.on Fld.EDDY_CFG.PLUNGE_RETAIN) late _ hl (s, [], [])
  rw [State.cutCovered_eq]
  rw [← State.cutAll] at h1 h3
  generalize s.cutAll cause mask own late = r at h1 h3
  have hc : r.1.col = s.col := by rw [h1.frame]
  refine ⟨?_, PlungeCut.mk beat late r.2.1 r.2.2, ?_, rfl, rfl, fun n hn hcov hp => ?_⟩
  · rw [State.modCol, h1.frame]
  · rw [State.modCol, hc]
  · exact h3 n (List.mem_filter.2 ⟨List.mem_range.2 hn, hcov⟩) hp

/-! ## The cuts that descriptors ask for (R314) -/

/-- The second state differs from the first in registers, the LDs, whose pending checkpoints are still there, and the rings. -/
structure AskWork (s t : State) : Prop where
  frame : t = { s with regs := t.regs, lds := t.lds, rings := t.rings, out := t.out, rngAt := t.rngAt }
  lasts : ∀ n no id b, HasCut (s.ld n) no id b → HasCut (t.ld n) no id b

namespace AskWork
variable {s t u : State}

theorem refl (s : State) : AskWork s s := ⟨rfl, fun _ _ _ _ h => h⟩
theorem trans (h : AskWork s t) (k : AskWork t u) : AskWork s u :=
  ⟨by rw [k.frame, h.frame], fun n no id b hc => k.lasts _ _ _ _ (h.lasts _ _ _ _ hc)⟩
theorem of_cuts (h : CutsWork s t) : AskWork s t := ⟨by rw [h.frame], h.lasts⟩
theorem of_rings (h : RingWork s t) : AskWork s t := by
  unfold RingWork at h
  refine ⟨by rw [h], fun n no id b hc => ?_⟩
  rw [h]
  exact hc
theorem col (h : AskWork s t) : t.col = s.col := by rw [h.frame]

theorem cutAsked (h : AskWork s t) (n : Nat) : AskWork s (t.cutAsked n) := by
  refine h.trans ?_
  unfold State.cutAsked
  extract_lets due x v
  have hx : AskWork t x.1 := .of_cuts (t.cutLd_cut n 0 _ false false _).1.work.cuts
  have hv : AskWork t v := hx.trans (.of_rings ((RingWork.refl _).foldl fun _ _ => (RingWork.refl _).modAcc))
  split
  · exact .refl t
  · split
    · exact hv
    · exact hv.trans (.of_rings ((RingWork.refl v).foldl fun _ _ => (RingWork.refl _).finish))

end AskWork

/-- What a colony checkpoint's boundary leaves of the cuts (R69, R133). -/
theorem checkpointCut_spec {s : State} {b m : Nat} (h : s.isOpen = true)
    (hd : s.col.ckpts.filter (fun e => decide (e.1 ≤ s.curBeat)) = [(b, m)]) :
    ∃ u : State, checkpointCut s = ((u.writeCkptRecs).reportCuts).showWeir ∧
      u.col.ckpts = s.col.ckpts.filter (fun e => decide (s.curBeat < e.1)) ∧
      ∃ c, u.col.cuts = s.col.cuts ++ [c] ∧ c.beat = b ∧
        ∀ n, n < 32 → s.covers m false n = true → (s.ld n).pending.length < 1024 →
          ∃ k ∈ (u.ld n).ckpts, (n, k.no, k.id) ∈ c.ckpts ∧ k.cutBeat = s.curBeat := by
  have hc := (s.modCol (fun c => { c with ckpts := c.ckpts.filter (fun e => decide (s.curBeat < e.1)) })).cutCovered_covered 1 b m
    false false
  have e : checkpointCut s = (((allLds.foldl (fun s n => s.cutAsked n)
      ((s.modCol (fun c => { c with ckpts := c.ckpts.filter (fun e => decide (s.curBeat < e.1)) })).cutCovered 1 b m
        false false)).writeCkptRecs).reportCuts).showWeir := by
    simp only [checkpointCut, h, Bool.not_true, Bool.false_eq_true, if_false, hd, List.foldl_cons, List.foldl_nil]
  generalize (s.modCol (fun c => { c with ckpts := c.ckpts.filter (fun e => decide (s.curBeat < e.1)) })).cutCovered 1 b m
    false false = v at *
  have ha : AskWork v (allLds.foldl (fun s n => s.cutAsked n) v) :=
    List.foldlRecOn allLds _ (.refl v) fun u hu n _ => hu.cutAsked n
  refine ⟨_, e, ?_⟩
  generalize allLds.foldl (fun s n => s.cutAsked n) v = u at *
  obtain ⟨hf, c, hcuts, hb, -, hk⟩ := hc
  refine ⟨?_, c, ?_, hb, fun n hn hcov hp => ?_⟩
  · rw [ha.col, hf]
    rfl
  · rw [ha.col, hcuts]
    rfl
  · obtain ⟨no, id, hm, hh⟩ := hk n hn hcov hp
    obtain ⟨k, hk, rfl, rfl, hbeat, -⟩ := ha.lasts n no id _ hh
    exact ⟨k, hk, hm, hbeat⟩

/-- What the boundary of T leaves of the cuts on a module that does not spill (R74). -/
theorem cutBeatBoundary_cuts {s : State} {w : PlungeWin} (hw : s.col.window = some w) (hc : w.cut = false) (hb : w.tw ≤ s.curBeat)
    (hs : w.ownSpill = none) (ho : s.col.ownCut = none) (h : s.isOpen = true) :
    ∃ u : State, cutBeatBoundary s = ((u.writeCkptRecs).reportCuts).showWeir ∧ u.col.window = some { w with cut := true } ∧
      ∃ c, u.col.cuts = s.col.cuts ++ [c] ∧ c.beat = w.tw ∧ c.late = w.late ∧
        ∀ n, n < 32 → s.covers w.groups w.own n = true → (s.ld n).pending.length < 1024 →
          ∃ k ∈ (u.ld n).ckpts, (n, k.no, k.id) ∈ c.ckpts ∧ k.cutBeat = s.curBeat := by
  have hcv := (s.modCol (fun c => { c with window := some { w with cut := true } })).cutCovered_covered 2 w.tw w.groups w.own w.late
  have hopen : ∀ f, (s.modCol f).isOpen = s.isOpen := fun _ => rfl
  have e : cutBeatBoundary s = (((s.modCol (fun c => { c with window := some { w with cut := true } })).cutCovered 2 w.tw w.groups
      w.own w.late).writeCkptRecs).reportCuts.showWeir := by
    simp [cutBeatBoundary, hw, hc, hb, hs, ho, hopen, h]
  refine ⟨_, e, ?_⟩
  generalize (s.modCol (fun c => { c with window := some { w with cut := true } })).cutCovered 2 w.tw w.groups w.own w.late = u at *
  obtain ⟨hf, c, hcuts, hbeat, hlate, hk⟩ := hcv
  refine ⟨?_, c, hcuts, hbeat, hlate, fun n hn hcov hp => ?_⟩
  · rw [hf]
    rfl
  · obtain ⟨no, id, hm, k, hk, rfl, rfl, hkb, -⟩ := hk n hn hcov hp
    exact ⟨k, hk, hm, hkb⟩

end Sys2Proof

/-! # The boundary of T on the module that spills (R146 to R150) -/

namespace Sys2Proof
open Machine

/-- The field is of SPL_, or MODE of JNL_STS. -/
abbrev SpillField (f : Field) : Prop := (8 * 0x120000 ≤ f.bit ∧ f.bit < 8 * 0x120038) ∨ f.bit = Fld.JNL_STS.MODE.bit

/-- The second state differs from the first in the sluice, the units that the takeover stops, and the registers that speak of
these; no LD has changed its state. -/
structure StopWork (s t : State) : Prop where
  frame : t = { s with
    regs := t.regs, flm := t.flm, chans := t.chans, fab := t.fab, rill := t.rill, log := t.log, rfl_ := t.rfl_, eddy := t.eddy
    pages := t.pages, lds := t.lds }
  regs : ∀ f : Field, SpillField f → t.fget f = s.fget f
  states : ∀ n, (t.ld n).st = (s.ld n).st

namespace StopWork
variable {s t u : State}

theorem refl (s : State) : StopWork s s := ⟨rfl, fun _ _ => rfl, fun _ => rfl⟩
theorem trans (h : StopWork s t) (k : StopWork t u) : StopWork s u :=
  ⟨by rw [k.frame, h.frame], fun f hf => (k.regs f hf).trans (h.regs f hf), fun n => (k.states n).trans (h.states n)⟩

theorem ite {c : Prop} {_ : Decidable c} (ht : StopWork s t) (hu : StopWork s u) : StopWork s (if c then t else u) := by
  split
  · exact ht
  · exact hu

theorem foldl {α : Type} {l : List α} {f : State → α → State} (h : StopWork s t) (hf : ∀ a ∈ l, ∀ t, StopWork t (f t a)) :
    StopWork s (l.foldl f t) := List.foldlRecOn l f h fun u hu a ha => hu.trans (hf a ha u)

theorem fset {f v} (h : StopWork s t) (hf : ¬ SpillField f) : StopWork s (t.fset f v) :=
  h.trans ⟨rfl, fun _ hg => State.fget_fset_ne t (fun e => hf (by unfold SpillField at *; rwa [e] at hg)) v, fun _ => rfl⟩
theorem bump {c o n} (h : StopWork s t) (hc : ¬ SpillField c) (ho : ¬ SpillField o) : StopWork s (t.bump c o n) :=
  .ite (h.fset hc) ((h.fset hc).fset ho)
theorem modFlm {f} (h : StopWork s t) : StopWork s (t.modFlm f) := h.trans ⟨rfl, fun _ _ => rfl, fun _ => rfl⟩
theorem modChan {c f} (h : StopWork s t) : StopWork s (t.modChan c f) := h.trans ⟨rfl, fun _ _ => rfl, fun _ => rfl⟩
theorem modFab {f} (h : StopWork s t) : StopWork s (t.modFab f) := h.trans ⟨rfl, fun _ _ => rfl, fun _ => rfl⟩
theorem modRill {f} (h : StopWork s t) : StopWork s (t.modRill f) := h.trans ⟨rfl, fun _ _ => rfl, fun _ => rfl⟩
theorem modLog {f} (h : StopWork s t) : StopWork s (t.modLog f) := h.trans ⟨rfl, fun _ _ => rfl, fun _ => rfl⟩
theorem modRfl {f} (h : StopWork s t) : StopWork s (t.modRfl f) := h.trans ⟨rfl, fun _ _ => rfl, fun _ => rfl⟩
theorem chans {c} (h : StopWork s t) : StopWork s { t with chans := c } := h.trans ⟨rfl, fun _ _ => rfl, fun _ => rfl⟩
theorem eddy {e} (h : StopWork s t) : StopWork s { t with eddy := e } := h.trans ⟨rfl, fun _ _ => rfl, fun _ => rfl⟩
theorem pages {p} (h : StopWork s t) : StopWork s { t with pages := p } := h.trans ⟨rfl, fun _ _ => rfl, fun _ => rfl⟩

theorem modLd {n f} (h : StopWork s t) (hf : ∀ l, (f l).st = l.st) : StopWork s (t.modLd n f) :=
  h.trans ⟨rfl, fun _ _ => rfl, fun m => by
    by_cases e : m = n
    · rw [e, State.ld_modLd_self, hf]
    · rw [State.ld_modLd_ne _ _ e]⟩

theorem setPage {p r} (h : StopWork s t) : StopWork s (t.setPage p r) := .ite h.pages (h.pages.modLd fun _ => rfl)
theorem setPState {p st} (h : StopWork s t) : StopWork s (t.setPState p st) := h.setPage
theorem dropReqs {which} (h : StopWork s t) : StopWork s (t.dropReqs which) := h.chans
theorem showSlots (h : StopWork s t) : StopWork s t.showSlots := h.fset (by decide)
theorem redoCkpts {keys items} (h : StopWork s t) : StopWork s (t.redoCkpts keys items) :=
  h.foldl fun _ _ u => (refl u).modLd fun _ => rfl

theorem closeSession (h : StopWork s t) : StopWork s t.closeSession := h.modFlm.fset (by decide)
theorem flmEnd {status us} (h : StopWork s t) : StopWork s (t.flmEnd status us) := by
  have h₁ := (((h.modFlm (f := fun f => { f with op := none })).fset (f := Fld.FLM_STS.STATE) (v := 6) (by decide)).fset
    (f := Fld.FLM_STS.STATUS) (v := status) (by decide)).fset (f := Fld.FLM_STS.TIME_US) (v := min us Fld.FLM_STS.TIME_US.max) (by decide)
  exact .ite (h₁.bump (by decide) (by decide)) h₁

theorem flmAtT (h : StopWork s t) : StopWork s t.flmAtT := by
  unfold State.flmAtT
  extract_lets u
  have hu : StopWork s u := h.closeSession
  split
  · exact .ite hu.modFlm (hu.flmEnd.fset (by decide))
  · exact hu

theorem showTrk (h : StopWork s t) : StopWork s t.showTrk := ((h.fset (by decide)).fset (by decide)).fset (by decide)
theorem closeSluice (h : StopWork s t) : StopWork s t.closeSluice := h.chans.modFab.showTrk

theorem exitRefresh {c} (h : StopWork s t) : StopWork s (t.exitRefresh c) := by
  unfold State.exitRefresh
  exact h.modChan

theorem setUnit {v st} (h : StopWork s t) (hv : v < 96) : StopWork s (t.setUnit v st) :=
  fset (fset (fset h (by simp only [SpillField, Fld.FLT_UNIT_STS.STATE, Fld.JNL_STS.MODE]; omega)) (by decide)) (by decide)

theorem unfreezeAll (h : StopWork s t) : StopWork s t.unfreezeAll := h.foldl fun c hc u => by
  have hc : c < 8 := List.mem_range.1 hc
  have h₁ : StopWork u (u.setUnit (32 + c) 0) := (refl u).setUnit (by omega)
  exact .ite (h₁.fset (by simp only [SpillField, Fld.DRC_STS.STATE, Fld.JNL_STS.MODE]; omega)).modChan.exitRefresh (.refl u)

theorem dropUnbegun (h : StopWork s t) : StopWork s t.dropUnbegun := by
  unfold State.dropUnbegun
  extract_lets open_ seqs items due back s₁ s₂ s₃ s₄ s₅ s₆ keep
  have h₂ : StopWork s s₂ := h.modRill.modLog.foldl fun i _ u => by
    extract_lets v
    have hv : StopWork u v := by
      unfold v
      split
      · exact .ite (refl u).eddy (.refl u)
      · exact .refl u
    exact .ite hv.setPState hv
  have h₄ : StopWork s s₄ := h₂.redoCkpts.foldl fun _ _ u => (refl u).setPState
  exact h₄.dropReqs.modRfl.modLog.eddy.showSlots

end StopWork
/-! ## The LDs enter SPILLING (R35) -/

/-- One LD enters SPILLING. -/
def Machine.State.ldSpills (s : State) (n : Nat) : State :=
  (s.modLd n (fun l => { l with prior := l.st, heldAtT := l.held })).setLdState n .spilling

/-- The second state differs from the first in registers that are none of the spill's, and in the LDs of `l`, which are SPILLING. -/
structure LdsSpilt (l : List Nat) (s t : State) : Prop where
  frame : t = { s with regs := t.regs, lds := t.lds }
  regs : ∀ f : Field, SpillField f → t.fget f = s.fget f
  others : ∀ n, n ∉ l → t.ld n = s.ld n
  states : ∀ n ∈ l, (t.ld n).st = .spilling ∧ (t.ld n).prior = (s.ld n).st

theorem Machine.State.ldSpills_ld (s : State) (n : Nat) : (s.ldSpills n).ld n =
    { s.ld n with prior := (s.ld n).st, heldAtT := (s.ld n).held, st := .spilling } := State.ld_modLd_setLdState_self ..

theorem ldsSpill_fold (l : List Nat) (hn : l.Nodup) (h : ∀ n ∈ l, n < 32) (s : State) :
    LdsSpilt l s (l.foldl State.ldSpills s) := by
  induction l generalizing s with
  | nil => exact ⟨rfl, fun _ _ => rfl, fun _ _ => rfl, fun _ h => by cases h⟩
  | cons n l ih =>
    obtain ⟨hnl, hn⟩ := List.nodup_cons.1 hn
    obtain ⟨h32, h⟩ := List.forall_mem_cons.1 h
    obtain ⟨k1, k2, k3, k4⟩ := ih hn h (s.ldSpills n)
    have hf : s.ldSpills n = { s with regs := (s.ldSpills n).regs, lds := (s.ldSpills n).lds } := by
      unfold State.ldSpills State.setLdState State.modLd State.fset
      rfl
    have hr : ∀ f : Field, SpillField f → (s.ldSpills n).fget f = s.fget f := fun f hf => by
      unfold State.ldSpills State.setLdState
      refine (State.fget_fset_ne _ ?_ _).trans rfl
      unfold SpillField at hf
      simp only [Fld.SLU_LD_BIND.STATE]
      simp only [Fld.JNL_STS.MODE] at hf
      omega
    have ho : ∀ m, m ≠ n → (s.ldSpills n).ld m = s.ld m := fun m hm => State.ld_modLd_setLdState_ne _ _ _ hm
    rw [List.foldl_cons]
    refine ⟨by rw [k1, hf], fun f hf => (k2 f hf).trans (hr f hf), fun m hm => ?_, fun m hm => ?_⟩
    · rw [List.mem_cons, not_or] at hm
      rw [k3 m hm.2, ho m hm.1]
    · by_cases e : m = n
      · subst e
        rw [k3 m hnl, State.ldSpills_ld]
        exact ⟨rfl, rfl⟩
      · have hml := (List.mem_cons.1 hm).resolve_left e
        rw [← ho m e]
        exact k4 m hml

theorem Machine.State.ldsSpill_spilt (s : State) : LdsSpilt (allLds.filter s.bound) s s.ldsSpill :=
  ldsSpill_fold _ (List.Nodup.filter _ List.nodup_range) (fun _ h => List.mem_range.1 (List.mem_of_mem_filter h)) s

/-! ## The takeover (R149) and the boot copies (R338) -/

theorem Machine.State.advanceRoles_spec (s : State) : s.advanceRoles = { s with
      regs := s.advanceRoles.regs
      spill := { s.spill with roleGen := s.spill.roleGen + 1, seqs := [], sent := [], sentS := [] }
      targets := [] } ∧
    ∀ f : Field, SpillField f → s.advanceRoles.fget f = s.fget f := by
  have h : ∀ (l : List Nat) (u : State) (g : Nat), (∀ k ∈ l, k < 16) →
      l.foldl (fun s k => s.fset (Fld.SCB_CL_STS.ROLE_GEN k) g) u =
        { u with regs := (l.foldl (fun s k => s.fset (Fld.SCB_CL_STS.ROLE_GEN k) g) u).regs } ∧
      ∀ f : Field, SpillField f → (l.foldl (fun s k => s.fset (Fld.SCB_CL_STS.ROLE_GEN k) g) u).fget f = u.fget f := by
    intro l
    induction l with
    | nil => exact fun u g _ => ⟨rfl, fun _ _ => rfl⟩
    | cons k l ih =>
      intro u g hk
      obtain ⟨hk, hl⟩ := List.forall_mem_cons.1 hk
      obtain ⟨h1, h2⟩ := ih (u.fset (Fld.SCB_CL_STS.ROLE_GEN k) g) g hl
      refine ⟨?_, fun f hf => (h2 f hf).trans (State.fget_fset_ne _ ?_ _)⟩
      · rw [List.foldl_cons, h1]
        rfl
      · unfold SpillField at hf
        simp only [Fld.SCB_CL_STS.ROLE_GEN]
        simp only [Fld.JNL_STS.MODE] at hf
        omega
  obtain ⟨h1, h2⟩ := h (List.range 16) { s.modSpill (fun x => { x with roleGen := s.spill.roleGen + 1, seqs := [], sent := [], sentS := [] }) with targets := [] }
    (s.spill.roleGen + 1) (fun k => List.mem_range.1)
  exact ⟨h1, h2⟩

theorem Machine.State.repairStops_spec (s : State) : s.repairStops = { s with regs := s.repairStops.regs, boot := s.repairStops.boot } ∧
    s.repairStops.boot.repair = [] ∧ s.repairStops.boot.outBeat = s.boot.outBeat ∧
    ∀ f : Field, SpillField f → s.repairStops.fget f = s.fget f := by
  unfold State.repairStops
  split
  · next h => exact ⟨rfl, List.isEmpty_iff.1 h, rfl, fun _ _ => rfl⟩
  · refine ⟨rfl, rfl, rfl, fun f hf => State.fget_fset_ne (s.modBoot _) ?_ _⟩
    unfold SpillField at hf
    simp only [Fld.BOOT_STS.REPAIR_ACTIVE]
    simp only [Fld.JNL_STS.MODE] at hf
    omega

/-! ## The SPILL_OPEN record (R150, R372) -/

/-- A record of the spill is staged and sent. -/
structure Recorded (s t : State) (kind gen : Nat) : Prop where
  frame : t = { s with regs := t.regs, flt := t.flt, spill := { s.spill with seqs := t.spill.seqs, sent := t.spill.sent }, out := t.out }
  regs : ∀ f : Field, f.bit < 8 * 0x1D8000 → t.fget f = s.fget f
  staged : s.fget Fld.JNL_STS.MODE ≠ 2 → s.flt.staging.length < 64 →
    ∃ r, t.flt.staging = s.flt.staging ++ [r] ∧ r.kind = kind ∧ r.gen = gen

theorem Machine.State.journal_recorded (s : State) {kind : Nat} (hk : kind ≤ 7) (gen : Nat) (payload : List (Nat × Nat)) :
    Recorded s (s.journal kind gen payload) kind gen := by
  unfold State.journal State.journalAt
  extract_lets room q r u
  have hroom : room = 64 := if_pos hk
  split
  · next h =>
    refine ⟨?_, fun f hf => ?_, fun h2 h64 => ?_⟩
    · rw [State.bump_eq]
    · refine State.fget_bump_ne _ ?_ ?_ _
      · simp only [Fld.JNL_CNT.DROPPED]
        omega
      · simp only [Fld.JNL_CNT.DR_SAT]
        omega
    · simp only [Bool.or_eq_true, beq_iff_eq, decide_eq_true_eq] at h
      omega
  · refine ⟨rfl, fun f hf => ?_, fun _ _ => ⟨_, rfl, rfl, rfl⟩⟩
    refine (State.fget_fset_ne _ ?_ _).trans (State.fget_fset_ne _ ?_ _)
    · simp only [Fld.JNL_STS.STAGED]
      omega
    · simp only [Fld.JNL_SEQ.NEXT_SEQ]
      omega

theorem Machine.State.elySend_spec (s : State) (opcode target : Nat) (args : List Nat) : s.elySend opcode target args = { s with
    spill := { s.spill with seqs := (s.elySend opcode target args).spill.seqs, sent := (s.elySend opcode target args).spill.sent }
    out := (s.elySend opcode target args).out } := rfl

theorem Machine.State.elyRecord_recorded (s : State) {kind : Nat} (hk : kind ≤ 7) (gen : Nat) (payload : List (Nat × Nat)) :
    Recorded s (s.elyRecord kind gen payload) kind gen := by
  have h := s.journal_recorded hk gen payload
  unfold State.elyRecord
  extract_lets q t
  have h : Recorded s t kind gen := h
  clear_value t
  split
  · exact h
  · have he := t.elySend_spec 4 journalTarget (journalArgs q)
    generalize t.elySend 4 journalTarget (journalArgs q) = v at he
    obtain ⟨h1, h2, h3⟩ := h
    have hr : v.regs = t.regs := by rw [he]
    have hf : v.flt = t.flt := by rw [he]
    refine ⟨?_, fun f hf => ?_, fun a b => ?_⟩
    · rw [he, h1]
    · rw [← h2 f hf, State.fget, hr, State.fget]
    · rw [hf]
      exact h3 a b

end Sys2Proof

/-! # A spill begins (R146 to R150) -/

namespace Sys2Proof
open Machine

/-- What T keeps of the spill: its generation, its cut, its cause, and that the drain and the takeover are still to come. -/
structure SpillStarts (x : SpillState) (g cut cause : Nat) (late : Bool) : Prop where
  gen : x.gen = g
  usedGen : x.usedGen = g
  cutBeat : x.cut = cut
  causeKept : x.cause = cause
  lateKept : x.late = late
  drained : x.drained = false
  taken : x.taken = false

/-- The bound LDs are SPILLING, the role generation has advanced, no boot copy is under repair and the device is SPILLING. -/
structure TakenOver (s t : State) : Prop where
  frame : t = { s with
    dev := .spilling, regs := t.regs, lds := t.lds, boot := t.boot, targets := t.targets
    spill := { s.spill with roleGen := t.spill.roleGen, seqs := t.spill.seqs, sent := t.spill.sent, sentS := t.spill.sentS } }
  regs : ∀ f : Field, SpillField f → f.bit ≠ Fld.SPL_STATE.STATE.bit → t.fget f = s.fget f
  states : ∀ n, n < 32 → s.bound n = true → (t.ld n).st = .spilling ∧ (t.ld n).prior = (s.ld n).st
  repair : t.boot.repair = []
  outBeat : t.boot.outBeat = s.boot.outBeat

theorem Machine.State.takenOver (s : State) : TakenOver s (s.ldsSpill.advanceRoles.repairStops.setDev .spilling) := by
  have h1 := s.ldsSpill_spilt
  generalize s.ldsSpill = u at h1 ⊢
  have h2 := u.advanceRoles_spec
  generalize u.advanceRoles = v at h2 ⊢
  have h3 := v.repairStops_spec
  generalize v.repairStops = w at h3 ⊢
  obtain ⟨f1, r1, -, k1⟩ := h1
  obtain ⟨f2, r2⟩ := h2
  obtain ⟨f3, hrep, hout, r3⟩ := h3
  have hw : w.lds = u.lds := by rw [f3, f2]
  have hf : w = { s with
      regs := w.regs, lds := w.lds, boot := w.boot, targets := w.targets
      spill := { s.spill with roleGen := w.spill.roleGen, seqs := w.spill.seqs, sent := w.spill.sent, sentS := w.spill.sentS } } := by
    rw [f3, f2, f1]
  refine ⟨?_, fun f hf hne => ?_, fun n hn hb => ?_, hrep, hout.trans ?_⟩
  · rw [State.setDev, hf]
    rfl
  · rw [State.setDev, State.fget_fset_ne _ hne]
    exact (r3 f hf).trans ((r2 f hf).trans (r1 f hf))
  · have hld : ∀ m, w.ld m = u.ld m := fun m => by rw [State.ld, hw, ← State.ld]
    have h := k1 n (List.mem_filter.2 ⟨List.mem_range.2 hn, hb⟩)
    rw [← hld] at h
    exact h
  · rw [f2, f1]

/-- The second state differs from the first in registers alone. -/
abbrev RegsOnly (s t : State) : Prop := t = { s with regs := t.regs }

theorem RegsOnly.fset {s t : State} {f : Field} {v : Nat} (h : RegsOnly s t) : RegsOnly s (t.fset f v) := by
  unfold RegsOnly State.fset
  rw [h]

/-- The registers of chapter 6 show that stage A of a spill has begun. -/
structure StageShown (s t : State) (cut : Nat) : Prop where
  frame : RegsOnly s t
  stage : t.stage = 3
  cutBeat : t.fget Fld.SPL_CUT.CUT_BEAT = cut % 2 ^ Fld.SPL_CUT.CUT_BEAT.width
  sealedOk : t.fget Fld.SPL_CUT.SEALED_OK = 0
  pagesDone : t.fget Fld.SPL_PROGRESS.PAGES_DONE = 0
  spills : t.fget Fld.SPL_CNTA.SPILLS = min (s.fget Fld.SPL_CNTA.SPILLS + 1) Fld.SPL_CNTA.SPILLS.max
  mode : t.fget Fld.JNL_STS.MODE = s.fget Fld.JNL_STS.MODE

/-- Stage A is shown, and the count of spills rises (R148, R150). -/
def Machine.State.showStageA (s : State) (cut origin devOwed : Nat) (late : Bool) : State :=
  let s := ((s.setStage 3).fset Fld.SPL_STATE.SHORTFALL 0).showLdNow
  let s := (((s.fput Fld.SPL_CUT.LATE late).fset Fld.SPL_CUT.SEALED_OK 0).fset Fld.SPL_CUT.T_ORIGIN origin).fset
    Fld.SPL_CUT.CUT_BEAT cut
  let s := (s.fsat Fld.SPL_PROGRESS.OWED_AT_T devOwed).fset Fld.SPL_PROGRESS.PAGES_DONE 0
  s.bump Fld.SPL_CNTA.SPILLS Fld.SPL_CNTA.SP_SAT

theorem Machine.State.stageShown (s : State) (cut origin devOwed : Nat) (late : Bool) :
    StageShown s (s.showStageA cut origin devOwed late) cut := by
  unfold State.showStageA
  extract_lets s6 s7 s8
  have h8 : RegsOnly s s8 := .fset (.fset (.fset (.fset (.fset (.fset (.fset (.fset (.fset rfl))))))))
  have hspills : s8.fget Fld.SPL_CNTA.SPILLS = s.fget Fld.SPL_CNTA.SPILLS := by
    simp (disch := decide) only [s8, s7, s6, State.fsat, State.fput, State.showLdNow, State.setStage, State.fget_fset_ne]
  have hmode : s8.fget Fld.JNL_STS.MODE = s.fget Fld.JNL_STS.MODE := by
    simp (disch := decide) only [s8, s7, s6, State.fsat, State.fput, State.showLdNow, State.setStage, State.fget_fset_ne]
  have hstage : s8.fget Fld.SPL_STATE.STAGE = 3 := by
    simp (disch := decide) only [s8, s7, s6, State.fsat, State.fput, State.showLdNow, State.setStage, State.fget_fset_ne]
    exact State.fget_fset_self ..
  have hcut : s8.fget Fld.SPL_CUT.CUT_BEAT = cut % 2 ^ Fld.SPL_CUT.CUT_BEAT.width := by
    simp (disch := decide) only [s8, State.fsat, State.fget_fset_ne]
    exact State.fget_fset_self ..
  have hok : s8.fget Fld.SPL_CUT.SEALED_OK = 0 := by
    simp (disch := decide) only [s8, s7, State.fsat, State.fget_fset_ne]
    exact State.fget_fset_self ..
  have hpages : s8.fget Fld.SPL_PROGRESS.PAGES_DONE = 0 := State.fget_fset_self ..
  clear_value s8
  have keep : ∀ f : Field, f.bit ≠ Fld.SPL_CNTA.SPILLS.bit → f.bit ≠ Fld.SPL_CNTA.SP_SAT.bit →
      (s8.bump Fld.SPL_CNTA.SPILLS Fld.SPL_CNTA.SP_SAT).fget f = s8.fget f := fun f h1 h2 => State.fget_bump_ne s8 h1 h2 1
  refine ⟨?_, (keep _ (by decide) (by decide)).trans hstage, (keep _ (by decide) (by decide)).trans hcut,
    (keep _ (by decide) (by decide)).trans hok, (keep _ (by decide) (by decide)).trans hpages, ?_,
    (keep _ (by decide) (by decide)).trans hmode⟩
  · rw [RegsOnly, State.bump_eq, h8]
  · rw [State.fget_bump_self s8 (by decide), hspills]

/-- What the boundary of T leaves on the module that spills. -/
structure SpillBegun (s t : State) (cut cause : Nat) (late : Bool) : Prop where
  dev : t.dev = .spilling
  stage : t.stage = 3
  spill : SpillStarts t.spill (max s.newestGen s.spill.usedGen + 1) cut cause late
  outBeat : t.boot.outBeat = s.curBeat
  cutBeat : t.fget Fld.SPL_CUT.CUT_BEAT = cut % 2 ^ Fld.SPL_CUT.CUT_BEAT.width
  sealedOk : t.fget Fld.SPL_CUT.SEALED_OK = 0
  pagesDone : t.fget Fld.SPL_PROGRESS.PAGES_DONE = 0
  spills : t.fget Fld.SPL_CNTA.SPILLS = min (s.fget Fld.SPL_CNTA.SPILLS + 1) Fld.SPL_CNTA.SPILLS.max
  states : ∀ n, n < 32 → s.bound n = true → (t.ld n).st = .spilling ∧ (t.ld n).prior = (s.ld n).st
  staged : s.fget Fld.JNL_STS.MODE ≠ 2 → s.flt.staging.length < 64 →
    ∃ r, t.flt.staging = s.flt.staging ++ [r] ∧ r.kind = 1 ∧ r.gen = max s.newestGen s.spill.usedGen + 1
  flash : t.flash = s.flash
  dram : t.dram = s.dram
  rings : t.rings = s.rings
  repair : t.boot.repair = []

/-- The parts of the boundary of T put together: what stops, what is kept, the takeover, what is shown, and the record. -/
theorem begun_of_parts {s s₁ s₄ s₅ u t : State} {x : SpillState} {cut cause : Nat} {late : Bool}
    (h₁ : StopWork s s₁) (h₄ : s₄ = { s₁ with spill := x, col := s₄.col, boot := s₄.boot })
    (hx : SpillStarts x (max s.newestGen s.spill.usedGen + 1) cut cause late) (hb : s₄.boot.outBeat = s₁.curBeat)
    (h₅ : TakenOver s₄ s₅) (h₆ : StageShown s₅ u cut) (h₇ : Recorded u t 1 u.spill.gen) :
    SpillBegun s t cut cause late := by
  obtain ⟨f₁, r₁, k₁⟩ := h₁
  obtain ⟨f₅, r₅, k₅, hrep, hout⟩ := h₅
  obtain ⟨f₆, hstage, hcut, hok, hpages, hspills, hmode⟩ := h₆
  obtain ⟨f₇, r₇, hst⟩ := h₇
  have hu : SpillStarts u.spill (max s.newestGen s.spill.usedGen + 1) cut cause late := by
    obtain ⟨a, b, c, d, e, f, g⟩ := hx
    rw [f₆, f₅, h₄]
    exact ⟨a, b, c, d, e, f, g⟩
  have regs : ∀ f : Field, SpillField f → f.bit ≠ Fld.SPL_STATE.STATE.bit → s₅.fget f = s.fget f := fun f hf hn => by
    rw [r₅ f hf hn, ← r₁ f hf, State.fget, h₄, State.fget]
  have lds : ∀ n, (s₄.ld n).st = (s.ld n).st := fun n => by
    rw [← k₁ n, State.ld, h₄, State.ld]
  have hflt : u.flt = s.flt := by rw [f₆, f₅, h₄, f₁]
  have tlds : t.lds = s₅.lds := by rw [f₇, f₆]
  have tboot : t.boot = s₅.boot := by rw [f₇, f₆]
  have hs : SpillStarts t.spill (max s.newestGen s.spill.usedGen + 1) cut cause late := by
    obtain ⟨a, b, c, d, e, f, g⟩ := hu
    rw [f₇]
    exact ⟨a, b, c, d, e, f, g⟩
  refine
    { dev := ?_, stage := (r₇ _ (by decide)).trans hstage, spill := hs, outBeat := ?_, cutBeat := (r₇ _ (by decide)).trans hcut
      sealedOk := (r₇ _ (by decide)).trans hok, pagesDone := (r₇ _ (by decide)).trans hpages, spills := ?_, states := fun n hn hbd => ?_
      staged := fun h2 h64 => ?_, flash := ?_, dram := ?_, rings := ?_, repair := ?_ }
  · rw [f₇, f₆, f₅]
  · rw [tboot, hout, hb, f₁, State.curBeat, State.curBeat]
  · rw [r₇ _ (by decide), hspills, regs _ (by decide) (by decide)]
  · rw [State.ld, tlds, ← State.ld, ← lds n]
    exact k₅ n hn (by rwa [State.bound, lds n])
  · rw [← hflt, ← hu.gen]
    refine hst ?_ (by rwa [hflt])
    rwa [hmode, regs _ (by decide) (by decide)]
  · rw [f₇, f₆, f₅, h₄, f₁]
  · rw [f₇, f₆, f₅, h₄, f₁]
  · rw [f₇, f₆, f₅, h₄, f₁]
  · rw [tboot, hrep]

theorem Machine.State.spillBegin_begun (s : State) (cut origin cause : Nat) (late own : Bool) :
    SpillBegun s (s.spillBegin cut origin cause late own) cut cause late := by
  unfold State.spillBegin
  extract_lets gen was owed allow devOwed over_ s1 order tail deficit head s2 b s3 boot s4 s5 s6 s7 s8
  have h1 : StopWork s s1 := (StopWork.refl s).flmAtT.closeSluice.unfreezeAll.dropUnbegun
  have h2 : s2 = { s1 with spill := s2.spill } := rfl
  have hsp : SpillStarts s2.spill gen cut cause late := ⟨rfl, rfl, rfl, rfl, rfl, rfl, rfl⟩
  clear_value s1 s2
  have hb : b = s1.curBeat := by
    unfold b State.curBeat
    rw [h2]
  clear_value b
  have h4 : s4 = { s1 with spill := s2.spill, col := s4.col, boot := s4.boot } := by
    unfold s4 s3
    rw [h2]
    rfl
  have hob : s4.boot.outBeat = b := rfl
  have h5 : TakenOver s4 s5 := s4.takenOver
  have h6 : StageShown s5 (s8.bump Fld.SPL_CNTA.SPILLS Fld.SPL_CNTA.SP_SAT) cut := s5.stageShown cut origin devOwed late
  clear_value s3 boot s4 s5 s8
  generalize s8.bump Fld.SPL_CNTA.SPILLS Fld.SPL_CNTA.SP_SAT = u at h6 ⊢
  have h7 : Recorded u u.spillOpen 1 u.spill.gen := u.elyRecord_recorded (by decide) ..
  generalize u.spillOpen = t at h7 ⊢
  exact begun_of_parts h1 h4 hsp (hob.trans hb) h5 h6 h7

end Sys2Proof

/-! # Spill triggers and cuts (O14) -/

namespace Sys2Proof
open Machine

/-- The boundary of T on a module that is to spill is the beginning of a spill (R72, R146). -/
theorem cutBeatBoundary_spills {s : State} {w : PlungeWin} {b : Nat} (hw : s.col.window = some w) (hc : w.cut = false)
    (htw : w.tw ≤ s.curBeat) (ho : w.ownSpill = some b) (hb : b ≤ s.curBeat) (h : s.isOpen = true ∨ s.dev = .training) :
    cutBeatBoundary s = (s.modCol (fun c => { c with window := some { w with cut := true } })).spillBegin w.tw
      (s.fget Fld.COL_PLUNGE_STS.ORIGIN) w.spillCause w.late false := by
  have able : (s.isOpen || s.dev == .training) = true := by simpa using h
  have hf : ∀ f, (s.modCol f).fget Fld.COL_PLUNGE_STS.ORIGIN = s.fget Fld.COL_PLUNGE_STS.ORIGIN := fun _ => rfl
  simp [cutBeatBoundary, hw, hc, htw, ho, hb, able, hf]

/-- Settles O14: an accepted trigger opens a window whose T is the module's own; an ignored
one is counted; at the boundary the covered LDs are cut, and on the module that spills the parts of the spill's beginning are put
together (`begun_of_parts`). -/
theorem spillTriggersAndCuts : Obligations.SpillTriggersAndCuts := by
  unfold Obligations.SpillTriggersAndCuts
  refine ⟨?_, ?_, ?_, ?_, ?_, ?_, ?_⟩
  · rintro s dt b ho hw hg rfl
    have hl := s.elapse_sameLink dt
    have hd : (s.elapse dt).isOpen = true := by rwa [State.isOpen, State.elapse_only, ← State.isOpen]
    have h := State.spillTrigger_set (s := s.elapse dt) (by simpa using hw) (by simpa using hg) 3
    rw [← fmSpill_open hd] at h
    have e : exec (.fmSpill dt) s = .next (fmSpill (s.elapse dt)) := rfl
    generalize fmSpill (s.elapse dt) = t at h e
    obtain ⟨⟨w, hw, h1, h2, h3, h4, h5, h6⟩, k1, k2, k3, k4, k5, k6, k7, k8, k9, k10, -, -⟩ := h
    rw [State.elapse_guardNow] at h1 k6 k7
    rw [hl.plungePorts, hl.mkFrame, State.elapse_fget] at k7
    exact ⟨t, w, e, hw, h1, h2, h3, h4, h5, h6, k1, k2, k3, k4, k5, k6, k7, k8, k9, by rw [k10], k10⟩
  · intro s dt h
    have hd : (s.elapse dt).dev = s.dev := by rw [State.elapse_only]
    have h' : (s.elapse dt).isCut = true ∨ (s.elapse dt).dev = .basin := by rwa [State.isCut, hd, ← State.isCut]
    obtain ⟨h1, h2, h3, h4, h5⟩ := fmSpill_ignored h' rfl
    rw [State.stage, State.stage, State.elapse_fget] at h2
    rw [State.elapse_fget] at h3
    exact ⟨_, rfl, h1.trans hd, h2, h3, h4, h5⟩
  · rintro s dt b ho hw hg rfl
    have hd : (s.elapse dt).isOpen = true := by rwa [State.isOpen, State.elapse_only, ← State.isOpen]
    obtain ⟨hx, hr, hlow, hgood⟩ := (s.elapse dt).inputLow_spec
    have e : exec (.inputCollapse dt) s = .next (inputCollapse (s.elapse dt)) := rfl
    rw [inputCollapse_open hd] at e
    generalize (s.elapse dt).inputLow = x at *
    have hcol : x.col = (s.elapse dt).col := by rw [hx]
    have hb : x.curBeat = (s.elapse dt).curBeat := by rw [hx]; rfl
    have hgn : x.guardNow = s.guardNow := by
      rw [State.guardNow, hcol, hr _ (by decide) (by decide), ← State.guardNow, State.elapse_guardNow]
    have h := State.spillTrigger_set (s := x) (by rw [hcol]; simpa using hw) (by rwa [hgn]) 1
    generalize x.spillTrigger 1 = t at h e
    obtain ⟨⟨w, hw, h1, h2, h3, -⟩, k1, -, -, k4, -, -, -, k8, k9, k10, k11, k12⟩ := h
    rw [hb, hgn] at h1
    have hgi := (k11 Fld.PSQ_STS.INPUT_GOOD (by simp)).trans hgood
    refine ⟨t, w, e, (k11 Fld.PSQ_STS.INPUT_LOW (by simp)).trans hlow, hgi, k12 hgood, hw, h1, h2, h3, k1, k9, by rw [k10], k4, ?_⟩
    rw [k10, hx]
  · intro s dt hi
    have e : exec (.inputGoodRise dt) s = .next (inputGoodRise (s.elapse dt)) := rfl
    have hn : (s.elapse dt).on Fld.PSQ_STS.INPUT_GOOD = false := by rwa [State.on, State.elapse_fget]
    obtain ⟨h1, h2, h3, h4, h5, h6, h7⟩ := inputGoodRise_spec hn rfl
    have hs : (s.elapse dt).seqSt = s.seqSt := State.elapse_fget ..
    have hnow : (s.elapse dt).now = s.now + dt := by rw [State.elapse_only]
    rw [hs, hnow] at h5
    rw [hs] at h6
    exact ⟨_, e, h1, h2, h3, h4, h5, h6, h7⟩
  · intro s b m h hd
    obtain ⟨u, e, hu⟩ := checkpointCut_spec h hd
    exact ⟨_, u, rfl, e, hu⟩
  · intro s w hw hc hb hs ho h
    obtain ⟨u, e, hu⟩ := cutBeatBoundary_cuts hw hc hb hs ho h
    exact ⟨_, u, rfl, e, hu⟩
  · intro s w b hw hc htw ho hb hopen
    have e : cutBeatBoundary s = (s.modCol (fun c => { c with window := some { w with cut := true } })).spillBegin w.tw
        (s.fget Fld.COL_PLUNGE_STS.ORIGIN) w.spillCause w.late false := cutBeatBoundary_spills hw hc htw ho hb hopen
    have h := (s.modCol (fun c => { c with window := some { w with cut := true } })).spillBegin_begun w.tw
      (s.fget Fld.COL_PLUNGE_STS.ORIGIN) w.spillCause w.late false
    rw [← e] at h
    have x : exec .cutBeatBoundary s = .next (cutBeatBoundary s) := rfl
    generalize cutBeatBoundary s = t at h x
    obtain ⟨hdev, hstage, ⟨hgen, hused, hcut, hcause, hlate, hdr, htk⟩, hout, hcb, hok, hpg, hsp, hst, hrec, hfl, hdram, hri, hrep⟩ := h
    exact ⟨t, x, hdev, hstage, hgen, hused.trans hgen.symm, hcut, hout, hcause, hlate, hdr, htk, hcb, hok, hpg, hsp, hst,
      hgen ▸ hrec, hfl, hdram, hri, hrep⟩

end Sys2Proof

/-! # Stripes and bands (O12)

What filling, closing and relocating changes: registers of the log, what the governor counts, and the log's own state. -/

namespace Sys2Proof
open Machine

/-! ## Chains of attempts -/

theorem getD_of {α : Type} {P : α → Prop} {o : Option α} {d : α} (h : P d) (ho : ∀ a ∈ o, P a) : P (o.getD d) := by
  cases o with
  | none => exact h
  | some a => exact ho a rfl

theorem forall_mem_bind {α β : Type} {P : β → Prop} {o : Option α} {f : α → Option β} (hf : ∀ a, ∀ b ∈ f a, P b) :
    ∀ b ∈ o.bind f, P b := fun b hb => by
  obtain ⟨a, -, ha⟩ := Option.bind_eq_some_iff.1 hb
  exact hf a b ha

theorem forall_mem_map {α β : Type} {P : β → Prop} {o : Option α} {f : α → β} (hf : ∀ a, P (f a)) : ∀ b ∈ o.map f, P b :=
  fun b hb => by
  obtain ⟨a, -, rfl⟩ := Option.map_eq_some_iff.1 hb
  exact hf a

/-! ## What the work of the log changes -/

/-- The register fields that show the ring of bands, the next sequence and the governor's counts. -/
def logFields : List Field := [Fld.LOG_WINDOW.FREE_BANDS, Fld.LOG_WINDOW.FREE_MIN, Fld.LOG_WINDOW.TAIL, Fld.LOG_WINDOW.HEAD,
  Fld.LOG_SEQ.NEXT_SEQ, Fld.RILL_OVR.OVERRIDE_MB, Fld.LOG_RELOC.RELOC_MB, Fld.LOG_RELOC.EXCESS_MB]

/-- The second rill differs from the first in what the governor counts (R132, R210). -/
def SameButGovernor (r x : RillState) : Prop :=
  x = { r with slices := x.slices, relocBytes := x.relocBytes, ovrBytes := x.ovrBytes, relBytes := x.relBytes, excBytes := x.excBytes }

/-- The second state differs from the first in `logFields`, the governor's counts and the log; no read-back of a fold has ended. -/
structure LogWork (s t : State) : Prop where
  frame : t = { s with regs := t.regs, rill := t.rill, log := t.log }
  rill : SameButGovernor s.rill t.rill
  fold : t.log.fold = s.log.fold
  regs : RegsBut logFields s t

namespace LogWork
variable {s₀ s t : State}

theorem refl (s : State) : LogWork s s := ⟨rfl, rfl, rfl, .refl _ s⟩

theorem trans (h : LogWork s₀ s) (k : LogWork s t) : LogWork s₀ t := by
  obtain ⟨h1, h2, h3, h4⟩ := h
  obtain ⟨k1, k2, k3, k4⟩ := k
  refine ⟨by rw [k1, h1], ?_, k3.trans h3, h4.trans k4⟩
  unfold SameButGovernor at *
  rw [k2, h2]

theorem ite {c : Prop} {_ : Decidable c} {a b : State} (ha : LogWork s₀ a) (hb : LogWork s₀ b) :
    LogWork s₀ (if c then a else b) := by
  split
  · exact ha
  · exact hb

theorem ite_fst {α : Type} {c : Prop} {_ : Decidable c} {a b : State × α} (ha : LogWork s₀ a.1) (hb : LogWork s₀ b.1) :
    LogWork s₀ (if c then a else b).1 := by
  split
  · exact ha
  · exact hb

theorem foldl {α : Type} {l : List α} {f : State → α → State} (h : LogWork s₀ s)
    (hf : ∀ {s a}, LogWork s₀ s → LogWork s₀ (f s a)) : LogWork s₀ (l.foldl f s) := by
  induction l generalizing s with
  | nil => exact h
  | cons a l ih => exact ih (hf h)

theorem fset {f v} (h : LogWork s₀ s) (hf : f ∈ logFields) : LogWork s₀ (s.fset f v) :=
  h.trans ⟨rfl, rfl, rfl, (RegsBut.refl _ s).fset hf⟩
theorem fsat {f v} (h : LogWork s₀ s) (hf : f ∈ logFields) : LogWork s₀ (s.fsat f v) := h.fset hf
theorem satUp {f n} (h : LogWork s₀ s) (hf : f ∈ logFields) : LogWork s₀ (s.satUp f n) := h.fsat hf
theorem modLog {f} (h : LogWork s₀ s) (hf : (f s.log).fold = s.log.fold) : LogWork s₀ (s.modLog f) :=
  h.trans ⟨rfl, rfl, hf, (RegsBut.refl _ s).same⟩
theorem modRill {f} (h : LogWork s₀ s) (hf : SameButGovernor s.rill (f s.rill)) : LogWork s₀ (s.modRill f) :=
  h.trans ⟨rfl, hf, rfl, (RegsBut.refl _ s).same⟩

theorem showWindow (h : LogWork s₀ s) : LogWork s₀ s.showWindow :=
  (((h.fsat (by simp [logFields])).fsat (by simp [logFields])).fset (by simp [logFields])).fset (by simp [logFields])

theorem needBand {writer} (h : LogWork s₀ s) : LogWork s₀ (s.needBand writer) := by
  refine .ite ?_ h
  split
  · exact (h.modLog rfl).showWindow
  · exact h

theorem newStripe {writer free} (h : LogWork s₀ s) : LogWork s₀ (s.newStripe writer free).1 := by
  unfold State.newStripe
  extract_lets s1
  have h1 : LogWork s₀ s1 := h.ite h.needBand
  clear_value s1
  split
  · exact h1
  · exact h1.ite_fst (h1.ite_fst ((h1.modLog (by rfl)).fset (by simp [logFields])))

theorem modStripe {q f} (h : LogWork s₀ s) : LogWork s₀ (s.modStripe q f) := h.modLog rfl

theorem addRecs {q} (h : LogWork s₀ s) : LogWork s₀ (s.addRecs q) := by
  unfold State.addRecs
  split
  · exact h
  · exact h.foldl modStripe

theorem startErase {b} (h : LogWork s₀ s) : LogWork s₀ (s.startErase b) := by
  unfold State.startErase
  exact h.modLog rfl

/-- The bytes of a stripe are counted for its writer (R132, R210). -/
theorem closeStripe {q} (h : LogWork s₀ s) : LogWork s₀ (s.closeStripe q) := by
  unfold State.closeStripe
  split
  · exact h
  · refine h.ite ?_
    extract_lets now s1 bytes s2
    have h2 : LogWork s₀ s2 := h.addRecs.modStripe.modLog rfl
    clear_value s2
    split
    · exact ((h2.modRill (by rfl)).modRill (by rfl)).satUp (by simp [logFields])
    · exact ((h2.modRill (by rfl)).modRill (by rfl)).satUp (by simp [logFields])
    · exact ((h2.modRill (by rfl)).satUp (by simp [logFields])).satUp (by simp [logFields])
    · exact ((h2.modRill (by rfl)).satUp (by simp [logFields])).satUp (by simp [logFields])
    · exact h2

theorem place {writer i} (h : LogWork s₀ s) : LogWork s₀ (s.place writer i).1 := by
  unfold State.place
  extract_lets r
  have hr : LogWork s₀ r.1 := by
    unfold r
    split
    · exact h.ite_fst (h.ite_fst (h.ite h.closeStripe).newStripe)
    · exact h.newStripe
  split
  · exact hr
  · exact hr.modStripe

theorem placeAll {writer is} (h : LogWork s₀ s) : LogWork s₀ (s.placeAll writer is).1 := by
  induction is generalizing s with
  | nil => exact h
  | cons i is ih =>
    unfold State.placeAll
    extract_lets
    split
    · exact h.place
    · exact ih h.place

theorem relocate {k tail} (h : LogWork s₀ s) : LogWork s₀ (s.relocate k tail) := h.ite h.place

theorem closeReloc (h : LogWork s₀ s) : LogWork s₀ s.closeReloc := h.foldl fun h => by
  split
  · exact h.closeStripe
  · exact h

theorem needTlc (h : LogWork s₀ s) : LogWork s₀ s.needTlc := by
  refine .ite ?_ h
  split
  · exact h.modLog rfl
  · exact h

theorem tlcReclaim (h : LogWork s₀ s) : LogWork s₀ s.tlcReclaim := by
  unfold State.tlcReclaim
  extract_lets
  split
  · exact h
  · exact (h.startErase.ite h).ite (h.foldl relocate)

theorem tailAdvance (h : LogWork s₀ s) : LogWork s₀ s.tailAdvance := by
  unfold State.tailAdvance
  extract_lets s1 s2 refs due s3 s4
  have h1 : LogWork s₀ s1 := by
    unfold s1
    split
    · exact h.startErase.ite h
    · exact h
  have h3 : LogWork s₀ s3 := (h1.needTlc.tlcReclaim.foldl relocate).modLog rfl
  have h4 : LogWork s₀ s4 := by
    unfold s4
    split
    · exact .ite (.ite h3.startErase (h3.foldl relocate)) h3
    · exact h3
  exact h.ite h4.closeReloc.showWindow

end LogWork

end Sys2Proof

/-! # What a beat boundary and the ends of programs keep (O12)

`Steady` names what no operation of a boundary or of a program's end changes once its own computation is done: flash and the time
among others. It holds of each of those operations in the order of the model. -/

namespace Sys2Proof
open Machine

/-- Between two states flash, the port, the sequencer and the time are the same, and so are the weir that waits for its time, the
DevLoad, the plunge window and a warm reset that waits; the device is in the same state, but that a refill may have ended. -/
structure Steady (s t : State) : Prop where
  flash : t.flash = s.flash
  stripesOn : t.stripesOn = s.stripesOn
  psq : t.psq = s.psq
  twb : t.twb = s.twb
  now : t.now = s.now
  colTime : t.colTime = s.colTime
  beat : t.beat = s.beat
  warmAtT : t.flt.warmAtT = s.flt.warmAtT
  pendW : t.rill.pendW = s.rill.pendW
  pendAt : t.rill.pendAt = s.rill.pendAt
  devLoad : t.fab.devLoad = s.fab.devLoad
  window : t.col.window = s.col.window
  dev : t.dev = s.dev ∨ s.dev = .refilling ∧ t.dev = .serving

namespace Steady
variable {s₀ s t : State}

theorem refl (s : State) : Steady s s := ⟨rfl, rfl, rfl, rfl, rfl, rfl, rfl, rfl, rfl, rfl, rfl, rfl, .inl rfl⟩

/-- What the list does not name may change. -/
theorem rest {pending freeCtr out regs staged captured commitHeld snaps heldLow cfgHalf cfgDue tx lds mbx pages dram poison recIdx
    eddy log rfl_ rings accSeq rngAt molt spill sealedImg elys targets chans mapGrain mapHash reservePm doms pdmLock vaonAt chrys
    chrysPsq timeLost cis boot flm}
    (h : Steady s₀ s) : Steady s₀ { s with
      pending := pending, freeCtr := freeCtr, out := out, regs := regs, staged := staged, captured := captured
      commitHeld := commitHeld, snaps := snaps, heldLow := heldLow, cfgHalf := cfgHalf, cfgDue := cfgDue, tx := tx, lds := lds
      mbx := mbx, pages := pages, dram := dram, poison := poison, recIdx := recIdx, eddy := eddy, log := log, rfl_ := rfl_
      rings := rings, accSeq := accSeq, rngAt := rngAt, molt := molt, spill := spill, sealedImg := sealedImg, elys := elys
      targets := targets, chans := chans, mapGrain := mapGrain, mapHash := mapHash, reservePm := reservePm, doms := doms
      pdmLock := pdmLock, vaonAt := vaonAt, chrys := chrys, chrysPsq := chrysPsq, timeLost := timeLost, cis := cis, boot := boot
      flm := flm } := { h with }

theorem modRill {f} (h : Steady s₀ s) (hw : (f s.rill).pendW = s.rill.pendW)
    (ha : (f s.rill).pendAt = s.rill.pendAt) : Steady s₀ (s.modRill f) :=
  { h with pendW := hw.trans h.pendW, pendAt := ha.trans h.pendAt }
theorem modFlt {f} (h : Steady s₀ s) (hf : (f s.flt).warmAtT = s.flt.warmAtT) : Steady s₀ (s.modFlt f) :=
  { h with warmAtT := hf.trans h.warmAtT }
theorem modFab {f} (h : Steady s₀ s) (hf : (f s.fab).devLoad = s.fab.devLoad) : Steady s₀ (s.modFab f) :=
  { h with devLoad := hf.trans h.devLoad }
theorem modCol {f} (h : Steady s₀ s) (hf : (f s.col).window = s.col.window) : Steady s₀ (s.modCol f) :=
  { h with window := hf.trans h.window }
theorem modPort {p f} (h : Steady s₀ s) : Steady s₀ (s.modPort p f) := h.modCol rfl

/-- The ring engine's work changes none of these. -/
theorem ringWork (h : Steady s₀ s) (k : RingWork s t) : Steady s₀ t := by
  rw [k]
  exact h.rest
theorem finish {ld n ord status flags result} (h : Steady s₀ s) : Steady s₀ (s.finish ld n ord status flags result) :=
  h.ringWork (RingWork.refl s).finish

/-- So does the work of the log. -/
theorem logWork (h : Steady s₀ s) (k : LogWork s t) : Steady s₀ t := by
  obtain ⟨k1, k2, -, -⟩ := k
  have hw : t.rill.pendW = s.rill.pendW := by rw [k2]
  have ha : t.rill.pendAt = s.rill.pendAt := by rw [k2]
  rw [k1]
  exact (h.rest (log := t.log) (regs := t.regs)).modRill (f := fun _ => t.rill) hw ha
theorem showWindow (h : Steady s₀ s) : Steady s₀ s.showWindow := h.logWork (LogWork.refl s).showWindow
theorem newStripe {w b} (h : Steady s₀ s) : Steady s₀ (s.newStripe w b).1 := h.logWork (LogWork.refl s).newStripe
theorem modStripe {q f} (h : Steady s₀ s) : Steady s₀ (s.modStripe q f) := h.logWork (LogWork.refl s).modStripe
theorem closeStripe {q} (h : Steady s₀ s) : Steady s₀ (s.closeStripe q) := h.logWork (LogWork.refl s).closeStripe
theorem place {w i} (h : Steady s₀ s) : Steady s₀ (s.place w i).1 := h.logWork (LogWork.refl s).place
theorem placeAll {w l} (h : Steady s₀ s) : Steady s₀ (s.placeAll w l).1 := h.logWork (LogWork.refl s).placeAll
theorem tailAdvance (h : Steady s₀ s) : Steady s₀ s.tailAdvance := h.logWork (LogWork.refl s).tailAdvance

/-! ### Combinators -/

theorem ite {c : Prop} {_ : Decidable c} {a b : State} (ha : Steady s₀ a) (hb : Steady s₀ b) :
    Steady s₀ (if c then a else b) := by
  split
  · exact ha
  · exact hb

theorem ite_fst {α : Type} {c : Prop} {_ : Decidable c} {a b : State × α} (ha : Steady s₀ a.1) (hb : Steady s₀ b.1) :
    Steady s₀ (if c then a else b).1 := by
  split
  · exact ha
  · exact hb

theorem pair {α : Type} {x : α} (h : Steady s₀ s) : Steady s₀ (s, x).1 := h

theorem foldl {α : Type} {l : List α} {f : State → α → State} (h : Steady s₀ s)
    (hf : ∀ {s a}, Steady s₀ s → Steady s₀ (f s a)) : Steady s₀ (l.foldl f s) := by
  induction l generalizing s with
  | nil => exact h
  | cons a l ih => exact ih (hf h)

theorem foldl_fst {α β : Type} {l : List α} {f : State × β → α → State × β} {x : State × β} (h : Steady s₀ x.1)
    (hf : ∀ {x a}, Steady s₀ x.1 → Steady s₀ (f x a).1) : Steady s₀ (l.foldl f x).1 := by
  induction l generalizing x with
  | nil => exact h
  | cons a l ih => exact ih (hf h)

theorem forUpto {n : Nat} {f : Nat → State → State} (h : Steady s₀ s) (hf : ∀ {i s}, Steady s₀ s → Steady s₀ (f i s)) :
    Steady s₀ (Machine.forUpto n f s) := h.foldl hf


/-! ### Registers and messages -/

theorem fset {f v} (h : Steady s₀ s) : Steady s₀ (s.fset f v) := h.rest
theorem fput {f b} (h : Steady s₀ s) : Steady s₀ (s.fput f b) := h.fset
theorem fsat {f v} (h : Steady s₀ s) : Steady s₀ (s.fsat f v) := h.fset
theorem bump {cnt sat n} (h : Steady s₀ s) : Steady s₀ (s.bump cnt sat n) := h.fset.ite h.fset.fset
theorem wrap {cnt ovf n} (h : Steady s₀ s) : Steady s₀ (s.wrap cnt ovf n) := h.fset.ite h.fset.fset
theorem satUp {cnt n} (h : Steady s₀ s) : Steady s₀ (s.satUp cnt n) := h.fsat

theorem emit {o} (h : Steady s₀ s) : Steady s₀ (s.emit o) := h.rest
theorem emits {os} (h : Steady s₀ s) : Steady s₀ (s.emits os) := h.rest
theorem startFrame {p f at_ rest} (h : Steady s₀ s) : Steady s₀ (s.startFrame p f at_ rest) := h.rest.emit

theorem sendFrame {p f} (h : Steady s₀ s) : Steady s₀ (s.sendFrame p f) := h.startFrame.ite h.rest
theorem setLd {n l} (h : Steady s₀ s) : Steady s₀ (s.setLd n l) := h.rest
theorem modLd {n f} (h : Steady s₀ s) : Steady s₀ (s.modLd n f) := h.setLd
theorem setLdState {n st} (h : Steady s₀ s) : Steady s₀ (s.setLdState n st) := h.modLd.fset
theorem modMb {k f} (h : Steady s₀ s) : Steady s₀ (s.modMb k f) := h.rest
theorem postEvent {k log kind words} (h : Steady s₀ s) : Steady s₀ (s.postEvent k log kind words) :=
  h.modMb.emit.ite h.modMb
theorem countLost {src} (h : Steady s₀ s) : Steady s₀ (s.countLost src) := h.bump.modFlt rfl

theorem sendMsg {src kind addr cleared injected} (h : Steady s₀ s) :
    Steady s₀ (s.sendMsg src kind addr cleared injected) :=
  h.ite (h.countLost.ite (h.modFlt rfl))

theorem fault {src kind addr cleared} (h : Steady s₀ s) : Steady s₀ (s.fault src kind addr cleared) :=
  h.fset.sendMsg.ite h.sendMsg
theorem setUnit {u st} (h : Steady s₀ s) : Steady s₀ (s.setUnit u st) := h.fset.fput.fset
theorem overrun {x} (h : Steady s₀ s) : Steady s₀ (s.overrun x) := (h.bump.fault.modCol rfl).ite h
theorem showJnl (h : Steady s₀ s) : Steady s₀ s.showJnl := h.fset
theorem journalAt {b kind gen payload} (h : Steady s₀ s) : Steady s₀ (s.journalAt b kind gen payload) :=
  h.bump.ite (h.modFlt rfl).fset.showJnl
theorem journal {kind gen payload} (h : Steady s₀ s) : Steady s₀ (s.journal kind gen payload) := h.journalAt


/-! ### DRAM, its pages and its channels -/

theorem writeBytes {a d mask} (h : Steady s₀ s) : Steady s₀ (s.writeBytes a d mask) := h.rest
theorem setPoison {n b} (h : Steady s₀ s) : Steady s₀ (s.setPoison n b) := h.rest
theorem setPage {p r} (h : Steady s₀ s) : Steady s₀ (s.setPage p r) := h.rest.ite h.rest.modLd
theorem setPState {p st} (h : Steady s₀ s) : Steady s₀ (s.setPState p st) := h.setPage
theorem showSlots (h : Steady s₀ s) : Steady s₀ s.showSlots := h.fset
theorem modLog {f} (h : Steady s₀ s) : Steady s₀ (s.modLog f) := h.rest
theorem modRfl {f} (h : Steady s₀ s) : Steady s₀ (s.modRfl f) := h.rest
theorem staleCopies {p} (h : Steady s₀ s) : Steady s₀ (s.staleCopies p) := (h.modRill rfl rfl).modLog
theorem forkBegin {p i} (h : Steady s₀ s) : Steady s₀ (s.forkBegin p i) := h.rest.showSlots

theorem forkDrop {i} (h : Steady s₀ s) : Steady s₀ (s.forkDrop i) := h.rest.showSlots
theorem keepLost {p} (h : Steady s₀ s) : Steady s₀ (s.keepLost p) := .ite (h.forUpto setPoison) h

theorem pageWritten {p} (h : Steady s₀ s) : Steady s₀ (s.pageWritten p) := by
  unfold State.pageWritten; extract_lets; split
  · exact h.setPage
  · exact h.setPage
  · exact h.staleCopies.setPage
  · exact h

theorem markPoisoned {p} (h : Steady s₀ s) : Steady s₀ (s.markPoisoned p) := by
  unfold State.markPoisoned
  exact (h.setPage.modFab rfl).modLog

theorem clearPages {n d} (h : Steady s₀ s) : Steady s₀ (s.clearPages n d) :=
  h.rest.rest.modLd.showSlots

theorem wipeExtent {n poisoned} (h : Steady s₀ s) : Steady s₀ (s.wipeExtent n poisoned) := by
  unfold State.wipeExtent
  exact h.rest.rest.modLd

theorem modChan {c f} (h : Steady s₀ s) : Steady s₀ (s.modChan c f) := h.rest
theorem enterWmb {line port ap} (h : Steady s₀ s) : Steady s₀ (s.enterWmb line port ap) := h.ite h.modChan

theorem queueRead {kind line port ap} (h : Steady s₀ s) : Steady s₀ (s.queueRead kind line port ap) := by
  unfold State.queueRead
  exact h.modChan

theorem drainAll (h : Steady s₀ s) : Steady s₀ s.drainAll := h.rest
theorem queuePage {p base w urgent} (h : Steady s₀ s) : Steady s₀ (s.queuePage p base w urgent) := h.forUpto queueRead
theorem dropReqs {which} (h : Steady s₀ s) : Steady s₀ (s.dropReqs which) := h.rest


/-! ### Checkpoints and what shows of the weir -/

theorem showCkpts {n} (h : Steady s₀ s) : Steady s₀ (s.showCkpts n) := h.fset.fset.fset.fput
theorem modCkpt {n no f} (h : Steady s₀ s) : Steady s₀ (s.modCkpt n no f) := h.modLd
theorem dropCkpt {n no} (h : Steady s₀ s) : Steady s₀ (s.dropCkpt n no) := h.modLd.showCkpts

theorem giveUp {n no} (h : Steady s₀ s) : Steady s₀ (s.giveUp n no) := by
  unfold State.giveUp; split
  · exact h.dropCkpt.ite h.modCkpt
  · exact h

theorem refitOverWeir {n} (h : Steady s₀ s) : Steady s₀ (s.refitOverWeir n) := h.modLd.showCkpts.ite h
theorem checkDeficit (h : Steady s₀ s) : Steady s₀ s.checkDeficit := h.fset.bump.fault.ite (h.fset.fault.ite h)
theorem showOwed (h : Steady s₀ s) : Steady s₀ s.showOwed := .fsat (.fsat (h.foldl fun h => h.fsat.fsat.fset))
theorem showWeir (h : Steady s₀ s) : Steady s₀ s.showWeir := .showOwed (h.checkDeficit.foldl refitOverWeir)

/-! ### The colony -/

theorem sendOn {ps f} (h : Steady s₀ s) : Steady s₀ (s.sendOn ps f) := h.foldl sendFrame
theorem setTime {st} (h : Steady s₀ s) : Steady s₀ (s.setTime st) := h.fset

theorem applyConfig (h : Steady s₀ s) : Steady s₀ s.applyConfig := by
  unfold State.applyConfig; split
  · exact (h.modCol rfl).ite h
  · exact h

theorem postSealReport {complete late kind cut gen inc origin relayed} (h : Steady s₀ s) :
    Steady s₀ (s.postSealReport complete late kind cut gen inc origin relayed) :=
  h.postEvent

theorem sendSealReport {complete late kind cut gen inc} (h : Steady s₀ s) :
    Steady s₀ (s.sendSealReport complete late kind cut gen inc) := by
  refine .ite ?_ h.postSealReport
  split
  · exact h.sendFrame.ite h
  · exact h

theorem sendRole {p} (h : Steady s₀ s) : Steady s₀ (s.sendRole p) := h.sendFrame.ite h
theorem loseSelected (h : Steady s₀ s) : Steady s₀ s.loseSelected := by
  unfold State.loseSelected; split
  · exact h.fset.modCol rfl
  · exact h

theorem rolePeriodic (h : Steady s₀ s) : Steady s₀ (Machine.rolePeriodic s) := h.foldl sendRole
theorem sendConfig (h : Steady s₀ s) : Steady s₀ s.sendConfig := h.sendOn
theorem configBeat (h : Steady s₀ s) : Steady s₀ s.configBeat := (h.sendConfig.modCol rfl).ite h
theorem sendBeacons (h : Steady s₀ s) : Steady s₀ s.sendBeacons := h.foldl sendFrame
theorem sendFireflies (h : Steady s₀ s) : Steady s₀ s.sendFireflies := h.foldl fun h => h.sendFrame.modPort
theorem rolesCommitted (h : Steady s₀ s) : Steady s₀ s.rolesCommitted :=
  ((h.setTime.fset.modCol rfl).ite h).ite (.modCol (.fset (.fset (h.setTime.foldl fset))) rfl)

theorem modAcc {ld n ord f} (h : Steady s₀ s) : Steady s₀ (s.modAcc ld n ord f) := h.rest
theorem ringsDisabled (h : Steady s₀ s) : Steady s₀ s.ringsDisabled := h.rest

/-! ### The log -/

theorem remapBlock {ds block} (h : Steady s₀ s) : Steady s₀ (s.remapBlock ds block) := by
  unfold State.remapBlock; extract_lets; split
  · exact h.modLog.modLog
  · exact h.modLog

theorem updateCredit (h : Steady s₀ s) : Steady s₀ s.updateCredit := ((h.modRill rfl rfl).fset.ite (h.modRill rfl rfl)).fset
theorem opOff {q dies} (h : Steady s₀ s) : Steady s₀ (s.opOff q dies) := by
  unfold State.opOff
  exact h.modLog.rest


/-! ### The rill -/

theorem selectLive {p} (h : Steady s₀ s) : Steady s₀ (s.selectLive p) := (h.staleCopies.setPage.modRill rfl rfl).queuePage
theorem selectEddy {i} (h : Steady s₀ s) : Steady s₀ (s.selectEddy i) := (h.rest.modRill rfl rfl).queuePage
theorem setRillTarget {lent} (h : Steady s₀ s) : Steady s₀ (s.setRillTarget lent) := (h.modRill rfl rfl).fput.fput.fput

theorem selectReset (h : Steady s₀ s) : Steady s₀ s.selectReset := by
  unfold State.selectReset
  exact .modRill (.foldl (h.foldl selectEddy) selectLive) rfl rfl

theorem rillSelect (h : Steady s₀ s) : Steady s₀ s.rillSelect := by
  unfold State.rillSelect
  extract_lets was s0 t dirs0 dirs s1 eds s2 rest s3 n s4
  have h2 : Steady s₀ s2 := (h.selectReset.foldl selectLive).foldl selectEddy
  have h3 : Steady s₀ s3 := h2.foldl fun h => h.selectLive.modRill rfl rfl
  clear_value s3
  exact (h3.modRill rfl rfl).fsat

theorem modSpill {f} (h : Steady s₀ s) : Steady s₀ (s.modSpill f) := h.rest

/-! ### Checkpoint records -/

theorem modSpillBack {i} (h : Steady s₀ s) : Steady s₀ (s.modSpillBack i) := h.modSpill
theorem writeCkptRec {n c} (h : Steady s₀ s) : Steady s₀ (s.writeCkptRec n c) := by
  refine getD_of h (forall_mem_bind fun ks => ?_)
  extract_lets addrs b
  have hb : Steady s₀ b.1 := h.placeAll.placeAll
  refine forall_mem_bind fun ms => ?_
  extract_lets d
  have hd : Steady s₀ d.1 := .ite_fst hb hb.placeAll
  exact forall_mem_bind fun tops => forall_mem_map fun q => hd.place.closeStripe.modCkpt

theorem writeCkptRecs (h : Steady s₀ s) : Steady s₀ s.writeCkptRecs :=
  h.foldl fun h => h.foldl fun h => h.writeCkptRec.ite h
theorem releaseOld {n no} (h : Steady s₀ s) : Steady s₀ (s.releaseOld n no) := h.foldl dropCkpt
theorem reportCuts (h : Steady s₀ s) : Steady s₀ s.reportCuts := (h.modCol rfl).foldl sendSealReport

theorem completeCkpt {n no} (h : Steady s₀ s) : Steady s₀ (s.completeCkpt n no) := by
  unfold State.completeCkpt; split
  · exact h
  · refine .showCkpts (.releaseOld (h.modCkpt.foldl fun h => ?_))
    split
    · exact h.finish
    · exact h

theorem completeCkpts {n k} (h : Steady s₀ s) : Steady s₀ (s.completeCkpts n k) := by
  induction k generalizing s with
  | zero => exact h
  | succ k ih =>
    unfold State.completeCkpts; split
    · exact .ite (ih h.completeCkpt) h
    · exact h

theorem completeAll (h : Steady s₀ s) : Steady s₀ s.completeAll := h.foldl completeCkpts

/-! ### Bands and stripes that come to their end -/

theorem logLow (h : Steady s₀ s) : Steady s₀ s.logLow := by
  unfold State.logLow
  extract_lets s1 s2
  have h1 : Steady s₀ s1 := h.foldl fun h => h.foldl fun h => h.ite h.giveUp
  exact .ite (h.ite h1.modLog.fset.fault.showWindow) (h.fset.modLog.ite h)

theorem dieRestored (h : Steady s₀ s) : Steady s₀ s.dieRestored := h.foldl fun h => h.fset.modLog.journal.ite h
theorem freeDies {t} (h : Steady s₀ s) : Steady s₀ (s.freeDies t) := h.opOff

theorem placeReady (h : Steady s₀ s) : Steady s₀ s.placeReady := by
  unfold State.placeReady
  refine .ite h ?_
  extract_lets x s1
  have h1 : Steady s₀ s1 := h.foldl_fst fun {x p} h => by
    refine .ite_fst h ?_
    split
    · exact pair (h.modRill rfl rfl)
    · extract_lets y
      have hy : Steady s₀ y.1 := h.place
      split
      · exact hy
      · exact pair (hy.modRill rfl rfl)
  split
  · exact h1.closeStripe.ite h1
  · exact h1


/-! ### Journal copies, dies and blocks -/

theorem jnlFree (h : Steady s₀ s) : Steady s₀ s.jnlFree := (h.modFlt rfl).showJnl
theorem jnlCopyFail {copy} (h : Steady s₀ s) : Steady s₀ (s.jnlCopyFail copy) :=
  h.ite (((h.fset.fault.ite h.fset.fault.bump).fset.modFlt rfl).showJnl.fault.ite h.fset.fault.jnlFree)
theorem showCap (h : Steady s₀ s) : Steady s₀ s.showCap := h.fset

theorem retireDie {ds cause} (h : Steady s₀ s) : Steady s₀ (s.retireDie ds cause) := by
  refine h.ite ?_
  split
  · exact h.fset.journal.fault.modLog.jnlCopyFail
  · exact h.fset.journal.fault.modLog

theorem retireBlock {ds block cause} (h : Steady s₀ s) : Steady s₀ (s.retireBlock ds block cause) :=
  h.retireDie.ite h.fset.satUp.modLog.remapBlock.showCap.journal.fault
theorem redoCkpts {keys items} (h : Steady s₀ s) : Steady s₀ (s.redoCkpts keys items) := h.foldl modLd

theorem rewriteStripe {q} (h : Steady s₀ s) : Steady s₀ (s.rewriteStripe q) := by
  unfold State.rewriteStripe; split
  · exact h
  · extract_lets due s1 r its s2
    have h1 : Steady s₀ s1 := h.freeDies.modLog
    refine h1.redoCkpts.writeCkptRecs.ite (.ite ?_ ?_)
    · have hr : Steady s₀ r.1 := h1.newStripe
      split
      · exact hr.modStripe
      · exact hr
    · have h2 : Steady s₀ s2 := h1.foldl fun {s i} h => by
        extract_lets r
        have hr : Steady s₀ r.1 := h.place
        split
        · exact hr
        · exact hr.modLog
        · exact hr.modSpillBack.ite ((hr.modRill rfl rfl).ite hr)
      split
      · exact h2.ite h2.closeStripe
      · exact h2

theorem stripeToSpill {q} (h : Steady s₀ s) : Steady s₀ (s.stripeToSpill q) := by
  unfold State.stripeToSpill; split
  · exact h
  · exact .modSpill (h.freeDies.modLog.redoCkpts.rest.foldl fun h => h.setPState.ite h)

theorem stripeFail {q c st} (h : Steady s₀ s) : Steady s₀ (s.stripeFail q c st) := by
  unfold State.stripeFail; split
  · exact h
  · extract_lets s1 ds s2 page s3 s4 with_
    have h2 : Steady s₀ s2 := h.closeStripe.bump
    have h4 : Steady s₀ s4 := (h2.fault.ite h2.fault).retireBlock
    exact h.ite (h4.foldl fun h => (h.bump.ite h).stripeToSpill.ite (h.bump.ite h).rewriteStripe)

theorem modBoot {f} (h : Steady s₀ s) : Steady s₀ (s.modBoot f) := h.rest
theorem modFlm {f} (h : Steady s₀ s) : Steady s₀ (s.modFlm f) := h.rest

/-! ### The Elytra -/

theorem modEly {e f} (h : Steady s₀ s) : Steady s₀ (s.modEly e f) := h.rest
theorem elyEmit {f} (h : Steady s₀ s) : Steady s₀ (s.elyEmit f) := h.emits
theorem elySend {opcode target args} (h : Steady s₀ s) : Steady s₀ (s.elySend opcode target args) :=
  h.modSpill.elyEmit
theorem elyRecord {kind gen payload} (h : Steady s₀ s) : Steady s₀ (s.elyRecord kind gen payload) :=
  h.journal.ite h.journal.elySend
theorem showLdNow (h : Steady s₀ s) : Steady s₀ s.showLdNow := h.fset

theorem elyPlace {es} (h : Steady s₀ s) : Steady s₀ (s.elyPlace es) := by
  induction es generalizing s with
  | nil => exact h.modSpill
  | cons e es ih =>
    unfold State.elyPlace
    refine .ite (ih h) ?_
    split
    · exact h.modSpill
    · extract_lets r
      have hr : Steady s₀ r.1 := h.place
      split
      · exact hr.modSpill
      · exact ih hr.modSpill.modEly

theorem askPage {e} (h : Steady s₀ s) : Steady s₀ (s.askPage e) := by
  unfold State.askPage
  exact h.elySend.modSpill

theorem elyAsk (h : Steady s₀ s) : Steady s₀ s.elyAsk := h.ite (h.modSpill.foldl askPage)
theorem sendPrograms {t} (h : Steady s₀ s) : Steady s₀ (s.sendPrograms t) := .modSpill (h.foldl elySend)

theorem sendSeal {t} (h : Steady s₀ s) : Steady s₀ (s.sendSeal t) := by
  unfold State.sendSeal
  exact .modFlt (.elyRecord (.modSpill (h.foldl elySend))) rfl

theorem elyPrograms (h : Steady s₀ s) : Steady s₀ s.elyPrograms := h.foldl fun h => h.sendSeal.ite h.sendPrograms
theorem elyPump (h : Steady s₀ s) : Steady s₀ s.elyPump := h.ite (h.ite h.elyPlace).elyAsk.elyPrograms.showLdNow


/-! ### Draws and refill -/

theorem modDraw {p f} (h : Steady s₀ s) : Steady s₀ (s.modDraw p f) := h.modRfl
theorem showUnfilled (h : Steady s₀ s) : Steady s₀ s.showUnfilled := .fsat (h.foldl fsat)

theorem suspend {ds} (h : Steady s₀ s) : Steady s₀ (s.suspend ds) := h.modLog.bump

theorem atDie {p ds refill} (h : Steady s₀ s) : Steady s₀ (s.atDie p ds refill) := by
  unfold State.atDie; split
  · exact h
  · exact h.ite (h.suspend.ite h.modLog.bump)

theorem firstStep {p len dies refill} (h : Steady s₀ s) : Steady s₀ (s.firstStep p len dies refill).1 :=
  h.ite_fst (h.ite_fst (h.foldl atDie))

theorem nextRead {ds} (h : Steady s₀ s) : Steady s₀ (s.nextRead ds) := by
  refine h.ite ?_
  split
  · exact h.modDraw.ite h
  · split
    · exact h.foldl modDraw
    · exact h

/-- A refill that ends lets the device serve (R193). -/
theorem checkFilled (h : Steady s₀ s) : Steady s₀ s.checkFilled := by
  unfold State.checkFilled
  extract_lets s1 s2
  have h2 : Steady s₀ s2 := h.showUnfilled.foldl fun h => (h.setLdState.ite h).modLd.ite (h.setLdState.ite h)
  refine h.ite ?_
  split
  · next hd =>
    have hr : s2.dev = .refilling := by simp_all
    have hs : s₀.dev = .refilling := h2.dev.elim (fun e => e ▸ hr) And.left
    clear_value s2
    have h3 : Steady s₀ { s2 with dev := .serving } := { h2 with dev := .inr ⟨hs, rfl⟩ }
    exact h3.rest
  · exact h2

theorem issue {p refill} (h : Steady s₀ s) : Steady s₀ (s.issue p refill) := by
  unfold State.issue
  extract_lets r also x1 t s2
  have h2 : Steady s₀ s2 := h.firstStep.setPage.modRfl
  exact h2.ite h2.wrap

theorem startDraw {p} (h : Steady s₀ s) : Steady s₀ (s.startDraw p).1 := .ite_fst (h.issue.foldl nextRead) h

theorem joinDraw {p} (h : Steady s₀ s) : Steady s₀ (s.joinDraw p) := by
  unfold State.joinDraw; split
  · exact .ite (.wrap (.foldl (.modRfl (h.ite (h.foldl atDie))) nextRead)) h
  · exact h

theorem resumeDie {ds} (h : Steady s₀ s) : Steady s₀ (s.resumeDie ds) := h.ite h.modLog
theorem dieFree {ds} (h : Steady s₀ s) : Steady s₀ (s.dieFree ds) := h.nextRead.resumeDie

theorem drawsToParity {ds} (h : Steady s₀ s) : Steady s₀ (s.drawsToParity ds) := h.foldl fun h => h.modDraw.ite h
theorem releaseDie {ds} (h : Steady s₀ s) : Steady s₀ (s.releaseDie ds) :=
  h.drawsToParity.ite (.ite (h.foldl atDie) h.nextRead)
theorem forkStart {p i} (h : Steady s₀ s) : Steady s₀ (s.forkStart p i) := h.forkBegin.queuePage
theorem forkGone {p i} (h : Steady s₀ s) : Steady s₀ (s.forkGone p i) := h.forkDrop.dropReqs
theorem refillDie {g ds} (h : Steady s₀ s) : Steady s₀ (s.refillDie g ds) := by
  refine h.ite ?_
  split
  · exact .nextRead (h.foldl fun h => h.issue.ite h)
  · exact h

theorem refill (h : Steady s₀ s) : Steady s₀ s.refill := by
  unfold State.refill
  extract_lets g dies s1
  have h1 : Steady s₀ s1 := h.foldl refillDie
  refine h.ite (h.ite (h1.ite ?_))
  split
  · exact h1.issue.ite h1
  · exact h1


/-! ### Descriptors that run on -/

theorem persistRun {ld n a} (h : Steady s₀ s) : Steady s₀ (s.persistRun ld n a) := h.finish.ite (h.modAcc.modRill rfl rfl)
theorem fenceRun {ld n a} (h : Steady s₀ s) : Steady s₀ (s.fenceRun ld n a) := h.finish.ite h
theorem dropWork {n} (h : Steady s₀ s) : Steady s₀ (s.dropWork n) := (h.modRill rfl rfl).modLog.modRfl.modLog.foldl dieFree

theorem rollRecs {n c} (h : Steady s₀ s) : Steady s₀ (s.rollRecs n c).1 := by
  unfold State.rollRecs
  extract_lets s1 new zero s2 s3 s4
  have h1 : Steady s₀ s1 := h.dropWork.clearPages.wipeExtent
  have h2 : Steady s₀ s2 := h1.foldl setPage
  have h3 : Steady s₀ s3 := .ite (h2.foldl setPage) h2
  have h4 : Steady s₀ s4 := h3.foldl markPoisoned
  exact pair h4.modLd

theorem restores {n} (h : Steady s₀ s) : Steady s₀ (s.restores n) := by
  unfold State.restores
  exact h.modLd

theorem rollRun {ld n a} (h : Steady s₀ s) : Steady s₀ (s.rollRun ld n a) := by
  refine h.ite ?_
  split
  · exact h.modLd.finish
  · exact h.modLd.rollRecs.journal.restores.showSlots.finish

theorem sanitizePages {n} (h : Steady s₀ s) : Steady s₀ (s.sanitizePages n) := by
  unfold State.sanitizePages
  extract_lets s1 bad s2
  have h1 : Steady s₀ s1 := h.modLd.showCkpts.dropWork
  exact (h1.clearPages.wipeExtent.ite (h1.clearPages.ite h1.clearPages)).restores

theorem sanitizeRun {ld n a} (h : Steady s₀ s) : Steady s₀ (s.sanitizeRun ld n a) := h.ite h.sanitizePages.finish
theorem zeroReserve {ld n ord k} (h : Steady s₀ s) : Steady s₀ (s.zeroReserve ld n ord k) := h.modLd.modAcc
theorem useResv {ld n ord} (h : Steady s₀ s) : Steady s₀ (s.useResv ld n ord) := h.modLd.modAcc
theorem waitAt {ld n a p kind} (h : Steady s₀ s) : Steady s₀ (s.waitAt ld n a p kind) :=
  h.ite (h.bump.ite h.bump).modAcc
theorem waitOver {ld n ord p} (h : Steady s₀ s) : Steady s₀ (s.waitOver ld n ord p) := h.modAcc

theorem zeroStep5 {ld n ord p adm wr all} (h : Steady s₀ s) : Steady s₀ (s.zeroStep5 ld n ord p adm wr all).1 := by
  unfold State.zeroStep5
  extract_lets k w s1
  have h1 : Steady s₀ s1 := h.ite h.modLd.modAcc
  exact h1.modLd.ite h1

theorem zeroPageRun {ld n a p} (h : Steady s₀ s) : Steady s₀ (s.zeroPageRun ld n a p).1 := by
  unfold State.zeroPageRun
  extract_lets all was behind x s1 ls up since s2 s3 s4 s5
  have h1 : Steady s₀ s1 := .ite_fst h h.zeroStep5
  refine .ite_fst h1 ?_
  split
  · exact h1.startDraw
  · exact h1.joinDraw
  · refine .ite_fst h1.waitAt (.ite_fst (.ite_fst h1 ?_) (.ite_fst h1 ?_))
    · split
      · refine .ite_fst ?_ h1
        exact .pair (.ite h1.forkStart.waitOver.useResv h1.forkStart.waitOver)
      · exact pair h1.waitAt
    · have h3 : Steady s₀ s3 := (h1.useResv.ite h1).keepLost
      have h4 : Steady s₀ s4 := h3.foldl fun h => h.enterWmb.writeBytes.setPoison
      exact pair h4.modAcc.pageWritten.waitOver

theorem zeroPages {ld n ord ps} (h : Steady s₀ s) : Steady s₀ (s.zeroPages ld n ord ps) := by
  induction ps generalizing s with
  | nil => exact h
  | cons p ps ih =>
    unfold State.zeroPages; split
    · exact h
    · exact ih (h.zeroPageRun.modAcc.ite h.zeroPageRun)

theorem coveredBy {ld n z} (h : Steady s₀ s) : Steady s₀ (s.coveredBy ld n z) := by
  unfold State.coveredBy
  exact h.rest

theorem zeroRun {ld n a} (h : Steady s₀ s) : Steady s₀ (s.zeroRun ld n a) := by
  unfold State.zeroRun
  extract_lets r k s1
  have h1 : Steady s₀ s1 := .ite (.ite h h.zeroReserve) h
  split
  · exact h1
  · extract_lets s2
    have h2 : Steady s₀ s2 := h1.zeroPages
    refine .ite h1 ?_
    split
    · exact h2
    · exact h2.modLd.coveredBy.finish.ite h2

theorem advance {ld n a} (h : Steady s₀ s) : Steady s₀ (s.advance ld n a) := by
  refine h.ite ?_
  split
  · exact h.persistRun
  · exact h.rollRun
  · exact h.zeroRun.ite h
  · exact h.sanitizeRun
  · exact h.fenceRun
  · exact h

theorem kickOnly {fences} (h : Steady s₀ s) : Steady s₀ (s.kickOnly fences) := h.foldl fun h => by
  split
  · exact h.advance
  · exact h

theorem kick (h : Steady s₀ s) : Steady s₀ s.kick := h.kickOnly.kickOnly.showWeir


/-! ### Requests -/

theorem showTrk (h : Steady s₀ s) : Steady s₀ s.showTrk := h.fsat.fsat.fsat
theorem dropReq {rid} (h : Steady s₀ s) : Steady s₀ (s.dropReq rid) := h.modFab rfl
theorem setAt {rid st} (h : Steady s₀ s) : Steady s₀ (s.setAt rid st) := h.modFab rfl
theorem ndr {r} (h : Steady s₀ s) : Steady s₀ (s.ndr r) := h.dropReq.emit
theorem drs {r d} (h : Steady s₀ s) : Steady s₀ (s.drs r d) := h.dropReq.emit

theorem acceptWrite {r} (h : Steady s₀ s) : Steady s₀ (s.acceptWrite r) := by
  unfold State.acceptWrite
  extract_lets line hint s1 s2
  have h1 : Steady s₀ s1 := h.keepLost.enterWmb.writeBytes
  have h2 : Steady s₀ s2 := h1.setPoison.ite ((h1.setPoison.modFab rfl).ite h1)
  exact h2.pageWritten.ndr

theorem step7 {r} (h : Steady s₀ s) : Steady s₀ (s.step7 r) := by
  unfold State.step7; extract_lets; split
  · exact h.acceptWrite.ite (h.setAt.ite (h.acceptWrite.ite h.queueRead.setAt))
  · exact h.drs.ite (h.drs.ite h.queueRead.setAt)

theorem needPage {r} (h : Steady s₀ s) : Steady s₀ (s.needPage r) := by
  unfold State.needPage; extract_lets; split
  · exact h.startDraw.setAt.ite h.setAt
  · exact h.joinDraw.setAt

theorem needFork {r} (h : Steady s₀ s) : Steady s₀ (s.needFork r) := by
  refine .ite ?_ h.step7
  split
  · exact h.forkStart.setAt.ite h.setAt
  · exact h.bump.setAt

theorem step6 {r} (h : Steady s₀ s) : Steady s₀ (s.step6 r) := by
  unfold State.step6; extract_lets; split
  · exact h.needPage
  · exact h.needPage
  · split
    · exact h.step7
    · exact h.bump.setAt.ite h.needFork

theorem step5 {r} (h : Steady s₀ s) : Steady s₀ (s.step5 r) := h.step6.ite (h.modLd.setAt.ite h.modLd.step6)
theorem step4 {r} (h : Steady s₀ s) : Steady s₀ (s.step4 r) := h.setAt.ite h.step5

theorem countOor {n k} (h : Steady s₀ s) : Steady s₀ (s.countOor n k) := by
  unfold State.countOor; split
  · exact h.bump
  · exact h.bump

theorem noEffect {r} (h : Steady s₀ s) : Steady s₀ (s.noEffect r) := by
  unfold State.noEffect; split
  · exact h.drs
  · exact h.ndr

theorem step3 {r} (h : Steady s₀ s) : Steady s₀ (s.step3 r) := by
  refine h.setAt.ite (h.step4.ite ?_)
  split
  · exact h.countOor.noEffect
  · exact h.setAt.ite h.step4
  · exact h.setAt.ite h.step4
  · exact h.setAt

theorem wakeReq {rid} (h : Steady s₀ s) : Steady s₀ (s.wakeReq rid) := by
  unfold State.wakeReq; split
  · split
    · exact h.step4
    · split
      · exact h
      · exact h.step6
    · exact h.step6
    · exact h.step6
    · exact h.step5
    · exact h.step3
    · exact h
  · exact h

theorem wakePage {p} (h : Steady s₀ s) : Steady s₀ (s.wakePage p) := h.foldl wakeReq
theorem wakeAll {which} (h : Steady s₀ s) : Steady s₀ (s.wakeAll which) := h.foldl fun h => h.wakeReq.wakePage
theorem wakePool (h : Steady s₀ s) : Steady s₀ s.wakePool := h.wakeAll
theorem settle (h : Steady s₀ s) : Steady s₀ s.settle := h.wakePool.refill.checkFilled.kick.showTrk

theorem discard {which} (h : Steady s₀ s) : Steady s₀ (s.discard which) := by
  unfold State.discard
  extract_lets gone ids s1 keep cut s2 s3
  have h1 : Steady s₀ s1 := h.foldl fun {s r} h => by
    extract_lets s1
    have h1 : Steady s₀ s1 := .ite h.emit (.ite h h.bump)
    split
    · exact h1.forkGone
    · exact h1
  have h2 : Steady s₀ s2 := h1.rest
  exact (h2.modFab rfl).foldl wakePage


/-! ### Leaving channels and domains -/

theorem selfRefresh {c} (h : Steady s₀ s) : Steady s₀ (s.selfRefresh c) := h.modChan.fset

theorem afterFlash {dies} (h : Steady s₀ s) : Steady s₀ (s.afterFlash dies) :=
  .showWeir (.elyPump (.settle (h.foldl releaseDie)))
theorem channelsLeave (h : Steady s₀ s) : Steady s₀ s.channelsLeave := h.modLog.foldl fun h => by
  extract_lets s1 s2 s3 s4
  have h2 : Steady s₀ s2 := h.fset.showCap
  have h3 : Steady s₀ s3 := h2.setUnit.ite h2
  refine forUpto ?_ drawsToParity
  unfold s4; split
  · exact h3.jnlCopyFail
  · exact h3

theorem modDom {d f} (h : Steady s₀ s) : Steady s₀ (s.modDom d f) := h.rest
theorem wakeDom {d} (h : Steady s₀ s) : Steady s₀ (s.wakeDom d) := h.ite h.modDom.fset
theorem clearPend {d} (h : Steady s₀ s) : Steady s₀ (s.clearPend d) := h.modDom.fset
theorem need {d} (h : Steady s₀ s) : Steady s₀ (s.need d) := h.clearPend.wakeDom.ite h

theorem driveRail {r high} (h : Steady s₀ s) : Steady s₀ (s.driveRail r high) := h.ite h.fput.emit

theorem driveLim {p} (h : Steady s₀ s) : Steady s₀ (s.driveLim p) := h.emit
theorem driveChg {p high} (h : Steady s₀ s) : Steady s₀ (s.driveChg p high) := h.ite h.fput.emit.driveLim
theorem railsUnused (h : Steady s₀ s) : Steady s₀ s.railsUnused := h.foldl fun h => h.ite h.driveRail.fset

/-! ### The cistern -/

theorem modCis {f} (h : Steady s₀ s) : Steady s₀ (s.modCis f) := h.rest
theorem modPack {p f} (h : Steady s₀ s) : Steady s₀ (s.modPack p f) := h.modCis
theorem healthShow {p} (h : Steady s₀ s) : Steady s₀ (s.healthShow p) := h.fset
theorem reDesign (h : Steady s₀ s) : Steady s₀ s.reDesign := .foldl (.ite (h.foldl modPack) h) healthShow

theorem recTouch {p} (h : Steady s₀ s) : Steady s₀ (s.recTouch p) := by
  unfold State.recTouch
  exact h.modPack

theorem recWrite {p} (h : Steady s₀ s) : Steady s₀ (s.recWrite p) := by
  unfold State.recWrite
  exact h.recTouch.modPack.rest

theorem zFlash {p} (h : Steady s₀ s) : Steady s₀ (s.zFlash p) := h.recWrite.modPack.ite h
theorem judgePack {p} (h : Steady s₀ s) : Steady s₀ (s.judgePack p) := h.fput
theorem limAccepted {was} (h : Steady s₀ s) : Steady s₀ (s.limAccepted was) := h.foldl fun h => h.driveLim.ite h
theorem charge {p} (h : Steady s₀ s) : Steady s₀ (s.charge p) := h.modPack.fset.driveChg
theorem chargeAll (h : Steady s₀ s) : Steady s₀ s.chargeAll := h.foldl charge
theorem rehFail (h : Steady s₀ s) : Steady s₀ s.rehFail := h.modCis.fset
theorem rehPlan (h : Steady s₀ s) : Steady s₀ s.rehPlan := (h.fsat.modCis.ite h.fsat.rehFail).ite h.fsat
theorem socReport {pps} (h : Steady s₀ s) : Steady s₀ (s.socReport pps) :=
  h.fput.fset.rest.ite (h.fput.fsat.ite (h.fput.ite h.fput.fset))
theorem publishUsable (h : Steady s₀ s) : Steady s₀ s.publishUsable :=
  .socReport (.fsat (.fsat (.fput (.fput (.foldl (h.foldl judgePack) (fun h => h.fsat.fset.fput))))))
theorem cisBeat (h : Steady s₀ s) : Steady s₀ s.cisBeat := .chargeAll (.publishUsable (h.rehPlan.foldl zFlash))

/-! ### Starts and resets -/

theorem closeSession (h : Steady s₀ s) : Steady s₀ s.closeSession := h.modFlm.fset

theorem heartbeats (h : Steady s₀ s) : Steady s₀ s.heartbeats := h.emits
theorem ldForget {n} (h : Steady s₀ s) : Steady s₀ (s.ldForget n) := by
  unfold State.ldForget
  exact h.discard.modLd.modMb

theorem reachAll {p b} (h : Steady s₀ s) : Steady s₀ (s.reachAll p b) := h.foldl modLd


/-! ### COMMIT sets -/

theorem withSet {set} (h : Steady s₀ s) : Steady s₀ (s.withSet set) := h.foldl fun h => by
  split
  · exact h.fset
  · exact h

theorem showRefusal {c set ok} (h : Steady s₀ s) : Steady s₀ (s.showRefusal c set ok) :=
  h.fput.ite ((h.fset.fset.ite ((h.ite h.fset).ite (h.ite h.fset).fset)).ite (h.fput.fset.ite (h.fput.ite h)))
theorem epochAccepted {was} (h : Steady s₀ s) : Steady s₀ (s.epochAccepted was) := (h.modCol rfl).ite ((h.modCol rfl).ite h)
theorem portsAccepted (h : Steady s₀ s) : Steady s₀ s.portsAccepted :=
  .rolePeriodic (.rolesCommitted (h.foldl fun h => (h.fset.ite h).loseSelected.ite (h.fset.ite h)))

theorem accepted {c set was} (h : Steady s₀ s) : Steady s₀ (s.accepted c set was) := by
  unfold State.accepted
  extract_lets ports roles s1 s2 s3
  have h1 : Steady s₀ s1 := h.portsAccepted.ite h
  have h2 : Steady s₀ s2 := (h1.modCol rfl).ite h1
  exact .ite h2.epochAccepted (.ite (h.foldl fun h => h.releaseOld.showCkpts.ite h)
    (.ite h.reDesign.limAccepted (.ite h.railsUnused.rest h)))

theorem commitCheck {c set} (h : Steady s₀ s) : Steady s₀ (s.commitCheck c set) := by
  unfold State.commitCheck
  extract_lets gone t0 now t
  have ht : Steady s₀ t := rest (h.rest.withSet : Steady s₀ t0)
  have hg : Steady s₀ gone := h.rest
  exact .ite ht.accepted.showRefusal hg.showRefusal

theorem commitChecks (h : Steady s₀ s) : Steady s₀ s.commitChecks := h.ite (h.foldl fun h => h.ite h.commitCheck)
theorem showTraining {k} (h : Steady s₀ s) : Steady s₀ (s.showTraining k) := .ite (h.foldl fun h => h.fset.ite h) h

theorem setStart {k} (h : Steady s₀ s) : Steady s₀ (s.setStart k) := by
  unfold State.setStart
  extract_lets s1
  have h1 : Steady s₀ s1 := h.fset.showTraining
  exact h1.fset.ite (h1.fset.ite h1)

theorem slotsFound (h : Steady s₀ s) : Steady s₀ s.slotsFound := h.fset.showSlots
theorem latchReserve (h : Steady s₀ s) : Steady s₀ s.latchReserve := (h.ite h.rest).slotsFound


/-! ### The parts of a boundary -/

theorem stormHand (h : Steady s₀ s) : Steady s₀ s.stormHand := by
  unfold State.stormHand; split
  · exact h.ite (h.journal.bump.modFlt rfl).fset
  · exact h

theorem stormBeat (h : Steady s₀ s) : Steady s₀ s.stormBeat := h.fput.stormHand.ite (h.fput.modFlt rfl).fset.stormHand

theorem planRefresh (h : Steady s₀ s) : Steady s₀ s.planRefresh := h.forUpto modChan

theorem logBeat (h : Steady s₀ s) : Steady s₀ s.logBeat :=
  h.placeReady.completeAll.writeCkptRecs.reportCuts.tailAdvance.ite h
theorem ladderBeat (h : Steady s₀ s) : Steady s₀ s.ladderBeat := h.foldl modLd

theorem admitAll {k} (h : Steady s₀ s) : Steady s₀ (s.admitAll k) := by
  induction k generalizing s with
  | zero => exact h
  | succ k ih =>
    unfold State.admitAll; split
    · exact h
    · exact ih h.wakeReq.wakePage

theorem bandwidthBeat (h : Steady s₀ s) : Steady s₀ s.bandwidthBeat := by
  unfold State.bandwidthBeat
  extract_lets turn s1 s2 still
  have h2 : Steady s₀ s2 := h.rest.admitAll
  exact h2.rest

theorem spillWatch (h : Steady s₀ s) : Steady s₀ s.spillWatch := h.modSpill.fset.ite h

theorem needAll (h : Steady s₀ s) : Steady s₀ s.needAll := by
  unfold State.needAll
  extract_lets ofOps ofDraws chans s1
  have h1 : Steady s₀ s1 := h.foldl fun h => h.need.need
  exact h1.ite (h1.foldl need)

theorem rillBeat {lent} (h : Steady s₀ s) : Steady s₀ (s.rillBeat lent) :=
  ((h.modRill rfl rfl).ite h.setRillTarget).rillSelect.ite h

theorem linkErrors {e} (h : Steady s₀ s) : Steady s₀ (s.linkErrors e) := h.bump.bump


end Steady

end Sys2Proof

/-! # A beat boundary (O12: R62, R65, R119, R289, R361) -/

namespace Sys2Proof
open Machine

/-! ## Time runs to the boundary -/

/-- The boundary that is processed next: the one on which colony time stands and that is still due, or the next one (R62). -/
theorem Machine.State.toBoundary_spec (s : State) : s.toBoundary = { s with
      now := s.toBoundary.now, colTime := s.toBoundary.colTime, col := s.toBoundary.col, tx := s.toBoundary.tx
      out := s.toBoundary.out } ∧
    s.toBoundary.col.window = s.col.window ∧ s.now ≤ s.toBoundary.now ∧ s.toBoundary.colTime % 8192 = 0 ∧
    (s.colTime % 8192 = 0 ∧ s.beat < s.colTime / 8192 → s.toBoundary.now = s.now ∧ s.toBoundary.colTime = s.colTime) ∧
    (¬ (s.colTime % 8192 = 0 ∧ s.beat < s.colTime / 8192) → s.toBoundary.colTime = (s.colTime / 8192 + 1) * 8192) := by
  by_cases h : s.colTime % 8192 = 0 ∧ s.beat < s.colTime / 8192
  · have e : s.toBoundary = s := by
      unfold State.toBoundary
      rw [if_pos (by simp only [Bool.and_eq_true, decide_eq_true_eq]; exact h)]
    rw [e]
    exact ⟨rfl, rfl, le_rfl, h.1, fun _ => ⟨rfl, rfl⟩, fun hn => absurd h hn⟩
  · unfold State.toBoundary
    rw [if_neg (by simp only [Bool.and_eq_true, decide_eq_true_eq]; exact h)]
    extract_lets next left ns
    have ht := State.txDrain_only { s with
      now := s.now + ns
      colTime := next
      col := { s.col with frac := max 0 (min 127999999 ((ns : Int) * s.colRate - left)) } }
    have hn : next = (s.colTime / 8192 + 1) * 8192 := rfl
    generalize State.txDrain _ = t at ht ⊢
    unfold TxOnly at ht
    clear_value ns left next
    subst hn
    refine ⟨by rw [ht], by rw [ht], ?_, ?_, fun hp => absurd hp h, fun _ => by rw [ht]⟩
    · rw [ht]
      exact Nat.le_add_right ..
    · rw [ht]
      exact Nat.mul_mod_left ..

/-! ## The computations of the beat -/

/-- What has been done when a warm reset that waited would follow. -/
structure BeatDone (s t : State) : Prop where
  flash : t.flash = s.flash
  psq : t.psq = s.psq
  twb : t.twb = s.twb
  now : t.now = s.now
  colTime : t.colTime = s.colTime
  beat : t.beat = s.curBeat
  weir : t.rill.pendW.isSome = true
  weirAt : t.rill.pendAt = s.now + 2000
  warmAtT : t.flt.warmAtT = s.flt.warmAtT
  window : t.col.window = s.col.window
  dev : t.dev = s.dev ∨ s.dev = .refilling ∧ t.dev = .serving

/-- The weir is computed and waits for its time (R119). -/
theorem Machine.State.computeWeir_steady (s : State) :
    Steady (s.modRill (fun r => { r with pendW := some s.weirPages, pendAt := s.now + 2000 })) s.computeWeir := by
  unfold State.computeWeir
  extract_lets w p t f avail t₁ t₂
  exact .ite (.refl _) (Steady.refl _).fsat.fsat.fsat

theorem BeatDone.steady {s t u : State} (h : BeatDone s t) (k : Steady t u) : BeatDone s u := by
  obtain ⟨h1, h2, h3, h4, h5, h6, h7, h8, h10, h11, h12⟩ := h
  obtain ⟨k1, -, k2, k3, k4, k5, k6, k7, k8, k9, -, k11, k12⟩ := k
  refine ⟨k1.trans h1, k2.trans h2, k3.trans h3, k4.trans h4, k5.trans h5, k6.trans h6, by rwa [k8], k9.trans h8,
    k7.trans h10, k11.trans h11, ?_⟩
  rcases k12 with e | ⟨e, e'⟩
  · rwa [e]
  · rcases h12 with f | ⟨f, f'⟩
    · exact .inr ⟨f ▸ e, e'⟩
    · rw [f'] at e
      cases e

/-- What changes nothing of these may come before. -/
theorem Steady.beatDone {s t u : State} (h : Steady s t) (k : BeatDone t u) : BeatDone s u := by
  obtain ⟨h1, -, h2, h3, h4, h5, -, h7, -, -, -, h8, h9⟩ := h
  obtain ⟨k1, k2, k3, k4, k5, k6, k7, k8, k9, k10, k11⟩ := k
  refine ⟨k1.trans h1, k2.trans h2, k3.trans h3, k4.trans h4, k5.trans h5, ?_, k7, by rw [k8, h4], k9.trans h7, k10.trans h8,
    ?_⟩
  · rw [k6, State.curBeat, h5, ← State.curBeat]
  · rcases h9 with e | ⟨e, e'⟩
    · rwa [← e]
    · rcases k11 with f | ⟨f, f'⟩
      · exact .inr ⟨e, f.trans e'⟩
      · rw [e'] at f
        cases f

theorem Steady.weirDone {s t : State} (h : Steady s.newBeat t) : BeatDone s t.computeWeir := by
  obtain ⟨h1, -, h2, h3, h4, h5, h6, h7, -, -, -, h8, h9⟩ := h
  have hw : BeatDone s (t.modRill (fun r => { r with pendW := some t.weirPages, pendAt := t.now + 2000 })) :=
    ⟨h1, h2, h3, h4, h5, h6, rfl, congrArg (· + 2000) h4, h7, h8, h9⟩
  exact hw.steady t.computeWeir_steady

theorem BeatDone.devLoadBeat {s t : State} (h : BeatDone s t) :
    BeatDone s t.devLoadBeat ∧ t.devLoadBeat.fab.devLoad.map (·.1) = [0, 1] := by
  obtain ⟨h1, h2, h3, h4, h5, h6, h7, h8, h9, h10, h11⟩ := h
  exact ⟨⟨h1, h2, h3, h4, h5, h6, h7, h8, h9, h10, h11⟩, rfl⟩

/-- A boundary is its computations, then a warm reset that waited, then what waits for either. -/
theorem Machine.State.boundary_spec (s : State) (ov : List (Nat × Nat)) (lent : Nat) :
    ∃ u : State, s.boundary ov lent = (u.resetAtT.settle).showWeir ∧ BeatDone s u ∧ u.fab.devLoad.map (·.1) = [0, 1] := by
  unfold State.boundary
  extract_lets s1 s2 s3 s4 s5 s6 s7 s8
  refine ⟨s8, rfl, ?_⟩
  have h3 : Steady s.newBeat s3 :=
    ((Steady.refl _).planRefresh.foldl Steady.overrun).commitChecks.applyConfig.stormBeat.cisBeat.channelsLeave.showCap
  have h5 : BeatDone s ((s5.rillBeat lent).needAll) := h3.weirDone.steady
    (((Steady.refl _).checkDeficit.updateCredit.ladderBeat).bandwidthBeat.logBeat).rillBeat.needAll
  obtain ⟨h6, hl⟩ : BeatDone s s6 ∧ s6.fab.devLoad.map (·.1) = [0, 1] := h5.devLoadBeat
  have h8 : Steady s6 s8 := (Steady.refl _).sendBeacons.sendFireflies.configBeat.heartbeats.spillWatch.elyPump
  exact ⟨h6.steady h8, by rw [h8.devLoad, hl]⟩

end Sys2Proof

/-! # A warm reset at the boundary, and the weir in force (O12: R119, R120, R361) -/

namespace Sys2Proof
open Machine

/-! ## A start begins -/

/-- What a start leaves of the state that it finds. -/
structure Started (s t : State) : Prop where
  flash : t.flash = s.flash
  psq : t.psq = s.psq
  now : t.now = s.now
  warmAtT : t.flt.warmAtT = s.flt.warmAtT

theorem Steady.started {s t : State} (h : Steady s t) : Started s t := ⟨h.flash, h.psq, h.now, h.warmAtT⟩

theorem Started.trans {s t u : State} (h : Started s t) (k : Started t u) : Started s u :=
  ⟨k.flash.trans h.flash, k.psq.trans h.psq, k.now.trans h.now, k.warmAtT.trans h.warmAtT⟩

theorem Machine.State.startTime_started (s : State) : Started s s.startTime := by
  unfold State.startTime
  split
  · exact ⟨rfl, rfl, rfl, rfl⟩
  · exact ⟨rfl, rfl, rfl, rfl⟩

/-- A start of a kind begins in TRAINING (R32, R334). -/
theorem Machine.State.beginStart_started (s : State) (kind : Nat) : Started s (s.beginStart kind) ∧ (s.beginStart kind).dev = .training := by
  unfold State.beginStart
  extract_lets t s1 s2 s3
  have h2 : Steady s s2 := .modBoot (.ite (Steady.refl s).rest.fset (.refl s))
  have h3 : Started s2 s3 := by
    unfold s3
    split
    · exact s2.startTime_started.trans (Steady.refl _).latchReserve.started
    · split
      · exact s2.startTime_started
      · exact (Steady.refl _).started
  clear_value s3
  have hd : Started s3 (s3.setDev .training) := ⟨rfl, rfl, rfl, rfl⟩
  have h4 : Steady (s3.setDev .training) _ := (((Steady.refl (s3.setDev .training)).fset (f := Fld.BOOT_STS.START_KIND) (v := kind)).fset
    (f := Fld.BOOT_STS.REPAIR_ACTIVE) (v := 0)).setStart (k := (stagesOf kind).headD 1)
  refine ⟨h2.started.trans (h3.trans (hd.trans h4.started)), ?_⟩
  rcases h4.dev with e | ⟨e, -⟩
  · exact e
  · cases e

/-- A device warm reset begins a start; what waited for the plunge's T waits no more (R334). -/
theorem Machine.State.warmReset_started {s : State} (h : s.isOpen = true) :
    s.warmReset.flash = s.flash ∧ s.warmReset.psq = s.psq ∧ s.warmReset.now = s.now ∧ s.warmReset.flt.warmAtT = false ∧
      s.warmReset.dev = .training := by
  unfold State.warmReset
  extract_lets s1 s2 s3 s4 dropQ dropAll warmMb fab s5 s6 s7 s8 open_ s9 b s10
  rw [if_neg (by simp [h])]
  have h1 : Steady s s1 := (Steady.refl s).foldl fun h => h.fset.reachAll
  have h2 : Steady s s2 := (h1.modFab rfl).foldl Steady.ldForget
  have h4 : Steady s s4 := h2.discard.drainAll.foldl fun h => h.selfRefresh.ite h
  clear_value s4
  have h5 : Steady s s5 := { h4 with }
  have h6 : Steady s s6 := h5.foldl Steady.modLd
  have h8 : Steady s s8 := .fset (.fset (.closeSession h6.ringsDisabled.rest))
  have h9 : Steady s s9 := h8.fset.ite h8
  have h10 : Steady s s10 := h9.modBoot
  clear_value s10
  obtain ⟨⟨k1, k2, k3, k4⟩, k5⟩ := (s10.modFlt (fun f => { f with warmAtT := false })).beginStart_started 1
  exact ⟨k1.trans h10.flash, k2.trans h10.psq, k3.trans h10.now, k4, k5⟩

/-- A warm reset that waited for T follows with the window gone (R361). -/
theorem Machine.State.resetAtT_resets {s : State} (h : s.isOpen = true) (hw : s.flt.warmAtT = true) (hc : s.col.window = none) :
    s.resetAtT = (s.modFlt (fun f => { f with warmAtT := false })).warmReset := by
  have ho : (s.modFlt (fun f => { f with warmAtT := false })).isOpen = true := h
  simp [State.resetAtT, hw, hc, ho]

theorem Machine.State.resetAtT_none {s : State} (hw : s.flt.warmAtT = false) : s.resetAtT = s := by
  simp [State.resetAtT, hw]

/-- A boundary with no warm reset waiting (R62, R119, R289). -/
theorem beatBoundary_done {s : State} (ov : List (Nat × Nat)) (obs : BeatObs) (h : s.dev ≠ .off) (hw : s.flt.warmAtT = false) :
    ∃ t, exec (.beatBoundary ov obs) s = .next t ∧ BeatDone s.toBoundary t ∧ t.fab.devLoad.map (·.1) = [0, 1] := by
  have hl : Steady s.toBoundary (obs.linkErrs.foldl State.linkErrors s.toBoundary) := (Steady.refl _).foldl Steady.linkErrors
  have e : exec (.beatBoundary ov obs) s = .next ((obs.linkErrs.foldl State.linkErrors s.toBoundary).boundary ov obs.lent) :=
    if_neg (by simpa using h)
  generalize obs.linkErrs.foldl State.linkErrors s.toBoundary = x at hl e
  obtain ⟨u, hu, hd, hload⟩ := x.boundary_spec ov obs.lent
  have hx : x.flt.warmAtT = false := by rw [hl.warmAtT, s.toBoundary_spec.1]; exact hw
  rw [hu, State.resetAtT_none (hd.warmAtT.trans hx)] at e
  have hs : Steady u (u.settle).showWeir := (Steady.refl u).settle.showWeir
  exact ⟨_, e, hl.beatDone (hd.steady hs), by rw [hs.devLoad, hload]⟩

/-- A boundary with a warm reset waiting whose plunge window has closed (R361). -/
theorem beatBoundary_resets {s : State} (ov : List (Nat × Nat)) (obs : BeatObs) (h : s.isOpen = true) (hw : s.flt.warmAtT = true)
    (hc : s.col.window = none) :
    ∃ t, exec (.beatBoundary ov obs) s = .next t ∧ t.flt.warmAtT = false ∧ t.dev = .training ∧ s.now ≤ t.now ∧
      t.flash = s.flash ∧ t.psq = s.psq := by
  have ho : s.dev = .refilling ∨ s.dev = .serving := by simpa [State.isOpen] using h
  have hl : Steady s.toBoundary (obs.linkErrs.foldl State.linkErrors s.toBoundary) := (Steady.refl _).foldl Steady.linkErrors
  have e : exec (.beatBoundary ov obs) s = .next ((obs.linkErrs.foldl State.linkErrors s.toBoundary).boundary ov obs.lent) := by
    refine if_neg ?_
    rcases ho with ho | ho <;> simp [ho]
  obtain ⟨hb, hwin, hnow, -⟩ := s.toBoundary_spec
  have hflt : s.toBoundary.flt = s.flt := by rw [hb]
  have hdev : s.toBoundary.dev = s.dev := by rw [hb]
  have hflash : s.toBoundary.flash = s.flash := by rw [hb]
  have hpsq : s.toBoundary.psq = s.psq := by rw [hb]
  generalize obs.linkErrs.foldl State.linkErrors s.toBoundary = x at hl e
  obtain ⟨u, hu, hd, -⟩ := x.boundary_spec ov obs.lent
  have hd : BeatDone s.toBoundary u := hl.beatDone hd
  have huo : u.isOpen = true := by
    rcases hd.dev with e | ⟨-, e⟩
    · rw [State.isOpen, e, hdev]
      exact h
    · rw [State.isOpen, e]
      rfl
  have huw : u.flt.warmAtT = true := by rw [hd.warmAtT, hflt, hw]
  rw [hu, State.resetAtT_resets huo huw (by rw [hd.window, hwin, hc])] at e
  obtain ⟨k1, k2, k3, k4, k5⟩ := State.warmReset_started (s := u.modFlt (fun f => { f with warmAtT := false })) huo
  generalize (u.modFlt (fun f => { f with warmAtT := false })).warmReset = v at *
  have hs : Steady v (v.settle).showWeir := (Steady.refl v).settle.showWeir
  refine ⟨_, e, hs.warmAtT.trans k4, ?_, ?_, hs.flash.trans (k1.trans (hd.flash.trans hflash)),
    hs.psq.trans (k2.trans (hd.psq.trans hpsq))⟩
  · rcases hs.dev with e | ⟨e, -⟩
    · rw [e, k5]
    · rw [k5] at e
      cases e
  · rw [hs.now, k3]
    exact hnow.trans_eq hd.now.symm

end Sys2Proof

/-! # The weir in force (O12: R119, R120) -/

namespace Sys2Proof
open Machine

/-- The field is one of WEIR_STS. -/
abbrev WeirField (f : Field) : Prop := 8 * 0x110018 ≤ f.bit ∧ f.bit < 8 * 0x110020

/-- WEIR_STS reads the same. -/
def SameWeir (s t : State) : Prop := ∀ f : Field, WeirField f → t.fget f = s.fget f

namespace SameWeir
variable {s t u : State}

theorem refl (s : State) : SameWeir s s := fun _ _ => rfl
theorem trans (h : SameWeir s t) (k : SameWeir t u) : SameWeir s u := fun f hf => (k f hf).trans (h f hf)
theorem fset {g v} (h : SameWeir s t) (hg : ¬ WeirField g) : SameWeir s (t.fset g v) :=
  h.trans fun _ hf => State.fget_fset_ne t (fun e => hg (e ▸ hf : 8 * 0x110018 ≤ g.bit ∧ g.bit < 8 * 0x110020)) v

theorem showCkpts {n} (h : SameWeir s t) : SameWeir s (t.showCkpts n) := by
  refine fset (fset (fset (fset h ?_) ?_) ?_) ?_
  · simp only [WeirField, Fld.EDDY_CKPT_STS.PENDING]; omega
  · simp only [WeirField, Fld.EDDY_CKPT_STS.RETAINED]; omega
  · simp only [WeirField, Fld.EDDY_CKPT_STS.NEWEST_DONE]; omega
  · simp only [WeirField, Fld.EDDY_CKPT_STS.OVER_WEIR]; omega

theorem refitOverWeir {n} (h : SameWeir s t) : SameWeir s (t.refitOverWeir n) := by
  unfold State.refitOverWeir
  extract_lets a
  split
  · exact showCkpts (h.trans fun _ _ => rfl)
  · exact h

theorem showOwed (h : SameWeir s t) : SameWeir s t.showOwed := by
  refine fset (fset (h.trans (foldl_rel refl trans (fun u n => ?_) _ _)) (by decide)) (by decide)
  refine fset (fset (fset (refl u) ?_) ?_) ?_
  · simp only [WeirField, Fld.WEIR_LD_STS.ALLOW]; omega
  · simp only [WeirField, Fld.WEIR_LD_STS.OWED]; omega
  · simp only [WeirField, Fld.WEIR_LD_STS.LEVEL]; omega

end SameWeir

/-- DEFICIT is set while the owed count is above W_hard (R120). -/
theorem Machine.State.checkDeficit_spec (s : State) :
    (s.checkDeficit.on Fld.WEIR_STS.DEFICIT = true ↔ s.weirHard < s.devOwed) ∧
      ∀ f : Field, WeirField f → f.bit ≠ Fld.WEIR_STS.DEFICIT.bit → s.checkDeficit.fget f = s.fget f := by
  have off : ∀ f : Field, WeirField f → OffFault f := fun f hf => .inl (by omega)
  have hd : WeirField Fld.WEIR_STS.DEFICIT := by decide
  unfold State.checkDeficit
  extract_lets deep
  have hdeep : deep = true ↔ s.weirHard < s.devOwed := decide_eq_true_iff
  rw [← hdeep]
  have hdef : s.deficit = s.on Fld.WEIR_STS.DEFICIT := rfl
  clear_value deep
  have out : ∀ (f : Field) (x : Field), WeirField f → ¬ WeirField x → f.bit ≠ x.bit := fun f x hf hx e => hx (by
    unfold WeirField at *
    rwa [← e])
  have keep : ∀ (f : Field), WeirField f → ∀ u : State, (u.bump Fld.WEIR_EVT.DEFICITS Fld.WEIR_EVT.SAT).fget f = u.fget f :=
    fun f hf u => State.fget_bump_ne u (out _ _ hf (by decide)) (out _ _ hf (by decide)) 1
  split
  · next h =>
    simp only [Bool.and_eq_true, Bool.not_eq_true'] at h
    refine ⟨?_, fun f hf hn => ?_⟩
    · rw [State.on, State.fget_fault _ (by decide) _ _ _ (off _ hd), keep _ hd, State.fget_fset_self]
      simp [h.1, Fld.WEIR_STS.DEFICIT]
    · rw [State.fget_fault _ (by decide) _ _ _ (off _ hf), keep _ hf, State.fget_fset_ne _ hn]
  · next h1 =>
    split
    · next h =>
      simp only [Bool.and_eq_true, Bool.not_eq_true'] at h
      refine ⟨?_, fun f hf hn => ?_⟩
      · rw [State.on, State.fget_fault _ (by decide) _ _ _ (off _ hd), State.fget_fset_self]
        simp [h.1]
      · rw [State.fget_fault _ (by decide) _ _ _ (off _ hf), State.fget_fset_ne _ hn]
    · next h2 =>
      rw [hdef] at h1 h2
      refine ⟨?_, fun _ _ _ => rfl⟩
      cases deep <;> simp_all

/-- What the owed counts show follows DEFICIT, and leaves the rest of WEIR_STS. -/
theorem Machine.State.showWeir_spec (s : State) :
    (s.showWeir.on Fld.WEIR_STS.DEFICIT = true ↔ s.weirHard < s.devOwed) ∧
      ∀ f : Field, WeirField f → f.bit ≠ Fld.WEIR_STS.DEFICIT.bit → s.showWeir.fget f = s.fget f := by
  have h : SameWeir s.checkDeficit s.showWeir :=
    .showOwed (foldl_rel SameWeir.refl SameWeir.trans (fun u _ => (SameWeir.refl u).refitOverWeir) _ _)
  obtain ⟨hd, hk⟩ := s.checkDeficit_spec
  refine ⟨?_, fun f hf hn => (h f hf).trans (hk f hf hn)⟩
  rw [State.on, h _ (by decide), ← State.on]
  exact hd

/-- W and W_hard in force, before what follows from them. -/
def Machine.State.setWeir (s : State) (w h : Nat) : State :=
  ((s.modRill (fun r => { r with pendW := none })).fset Fld.WEIR_STS.WEIR_PAGES w).fset Fld.WEIR_STS.HARD_PAGES h

theorem Machine.State.weirForce_due {s : State} {w h : Nat} (hp : s.rill.pendW = some (w, h)) (ha : s.rill.pendAt ≤ s.now) :
    s.weirForce = (s.setWeir w h).showWeir := by
  simp [State.weirForce, State.setWeir, hp, ha]

/-- The owed count depends on the LDs and their classes. -/
theorem devOwed_congr {s t : State} (hl : t.lds = s.lds) (hc : ∀ n < 32, t.cls n = s.cls n) : t.devOwed = s.devOwed := by
  unfold State.devOwed State.bound State.ld
  rw [hl]
  refine congrArg sumNat (List.map_congr_left fun n hn => ?_)
  rw [hc n (List.mem_range.1 hn)]

theorem Machine.State.setWeir_spec (s : State) (w h : Nat) :
    (s.setWeir w h).fget Fld.WEIR_STS.WEIR_PAGES = w % 2 ^ Fld.WEIR_STS.WEIR_PAGES.width ∧
      (s.setWeir w h).weirHard = h % 2 ^ Fld.WEIR_STS.HARD_PAGES.width ∧ (s.setWeir w h).devOwed = s.devOwed ∧
      s.setWeir w h = { s with regs := (s.setWeir w h).regs, rill := { s.rill with pendW := none } } := by
  refine ⟨?_, State.fget_fset_self .., devOwed_congr rfl fun n hn => ?_, rfl⟩
  · rw [State.setWeir, State.fget_fset_ne _ (by decide), State.fget_fset_self]
  · unfold State.cls State.setWeir
    rw [State.fget_fset_ne _ ?_, State.fget_fset_ne _ ?_]
    · rfl
    · simp only [Fld.SLU_LD_PCFG.CLASS, Fld.WEIR_STS.WEIR_PAGES]
      omega
    · simp only [Fld.SLU_LD_PCFG.CLASS, Fld.WEIR_STS.HARD_PAGES]
      omega

/-- The weir that waits comes into force once its time has passed (R119), and DEFICIT follows it (R120). -/
theorem weirInForce_spec {s : State} {dt w h : Nat} (hp : s.rill.pendW = some (w, h)) (ha : s.rill.pendAt ≤ s.now + dt) :
    ∃ t, exec (.weirInForce dt) s = .next t ∧
      t.fget Fld.WEIR_STS.WEIR_PAGES = w % 2 ^ Fld.WEIR_STS.WEIR_PAGES.width ∧
      t.fget Fld.WEIR_STS.HARD_PAGES = h % 2 ^ Fld.WEIR_STS.HARD_PAGES.width ∧
      (t.on Fld.WEIR_STS.DEFICIT = true ↔ h % 2 ^ Fld.WEIR_STS.HARD_PAGES.width < s.devOwed) ∧
      t.rill = { s.rill with pendW := none } ∧
      t = { s.elapse dt with regs := t.regs, flt := t.flt, rill := t.rill, lds := t.lds } := by
  have hr : (s.elapse dt).rill = s.rill := by rw [State.elapse_only]
  have hn : (s.elapse dt).now = s.now + dt := by rw [State.elapse_only]
  have hl : (s.elapse dt).devOwed = s.devOwed := devOwed_congr (by rw [State.elapse_only]) fun n _ => State.elapse_fget ..
  have e : exec (.weirInForce dt) s = .next (s.elapse dt).weirForce := rfl
  generalize s.elapse dt = y at *
  rw [State.weirForce_due (by rw [hr, hp]) (by rwa [hr, hn])] at e
  refine ⟨_, e, ?_⟩
  obtain ⟨hw, hh, ho, hx⟩ := y.setWeir_spec w h
  generalize y.setWeir w h = x at *
  obtain ⟨hd, hk⟩ := x.showWeir_spec
  have hs := (WeirWork.refl x).showWeir.1
  refine ⟨(hk _ (by decide) (by decide)).trans hw, (hk _ (by decide) (by decide)).trans hh, by rw [hd, hh, ho, hl], ?_, ?_⟩
  · rw [hs, hx, hr]
  · rw [hs, hx]

end Sys2Proof

/-! # A page that the Scarab has finished (O12: R6, R7) -/

namespace Sys2Proof
open Machine

/-! ## Placing what is ready -/

/-- The second state differs from the first in `logFields`, the rill and the log. -/
structure PlaceWork (s t : State) : Prop where
  frame : t = { s with regs := t.regs, rill := t.rill, log := t.log }
  regs : RegsBut logFields s t

namespace PlaceWork
variable {s₀ s t : State}

theorem refl (s : State) : PlaceWork s s := ⟨rfl, .refl _ s⟩
theorem logWork (h : PlaceWork s₀ s) (k : LogWork s t) : PlaceWork s₀ t :=
  ⟨by rw [k.frame, h.frame], h.regs.trans k.regs⟩
theorem modRill {f} (h : PlaceWork s₀ s) : PlaceWork s₀ (s.modRill f) :=
  ⟨by rw [State.modRill, h.frame], h.regs.trans ((RegsBut.refl _ s).same)⟩

theorem ite {c : Prop} {_ : Decidable c} {a b : State} (ha : PlaceWork s₀ a) (hb : PlaceWork s₀ b) :
    PlaceWork s₀ (if c then a else b) := by
  split
  · exact ha
  · exact hb

theorem pair {α : Type} {x : α} (h : PlaceWork s₀ s) : PlaceWork s₀ (s, x).1 := h

theorem placeReady (h : PlaceWork s₀ s) : PlaceWork s₀ s.placeReady := by
  unfold State.placeReady
  refine .ite h ?_
  extract_lets x s1
  have h1 : PlaceWork s₀ s1 := by
    unfold s1 x
    refine List.foldlRecOn (motive := fun x : State × Bool => PlaceWork s₀ x.1) s.rill.ready _ h fun x hx p _ => ?_
    split
    · exact hx
    · split
      · exact pair hx.modRill
      · extract_lets y
        have hy : PlaceWork s₀ y.1 := hx.logWork (LogWork.refl _).place
        split
        · exact hy
        · exact pair hy.modRill
  split
  · exact (h1.logWork (LogWork.refl _).closeStripe).ite h1
  · exact h1

end PlaceWork

/-- A form that fits its writer's open stripe goes there. -/
theorem Machine.State.place_fits {s : State} {w : Nat} {i : Item} {x : Stripe} (h : s.openStripe w = some x) (hf : s.fits x i = true) :
    s.place w i = (s.modStripe x.seq (fun t => s.withItem t i), some x.seq) := by
  simp [State.place, h, hf]

/-- The one page that is ready is placed, and waits no more. -/
theorem Machine.State.placeReady_one {s : State} {p : Nat} {i : Item} {x : Stripe} (h : s.isOpen = true) (hr : s.rill.ready = [p])
    (hi : s.rill.sel.find? (fun i => i.form.page == p) = some i) (hx : s.openStripe 1 = some x) (hf : s.fits x i = true) :
    s.placeReady.rill.sel = s.rill.sel.erase i ∧ s.placeReady.rill.ready = [] := by
  have hp := State.place_fits hx hf
  have hw : LogWork ((s.modStripe x.seq (fun t => s.withItem t i)).modRill (fun r => { r with sel := r.sel.erase i, ready := r.ready.erase p }))
      s.placeReady := by
    unfold State.placeReady
    rw [if_neg (by simp [h])]
    simp only [hr, List.foldl_cons, List.foldl_nil, hi, hp, Bool.false_eq_true, if_false]
    split
    · exact (LogWork.refl _).closeStripe.ite (.refl _)
    · exact .refl _
  have hk := hw.rill
  unfold SameButGovernor at hk
  refine ⟨by rw [hk]; rfl, ?_⟩
  rw [hk]
  show s.rill.ready.erase p = []
  rw [hr]
  simp

/-! ## Whether a form fits -/

section
variable {s t : State}

/-- What the room in a stripe depends on. -/
structure SameRoom (s t : State) : Prop where
  dieSets : t.dieSets = s.dieSets
  newestGen : t.newestGen = s.newestGen
  log : t.log = s.log
  pages : t.pages = s.pages
  lds : t.lds = s.lds

theorem ld_congr (hl : t.lds = s.lds) : t.ld = s.ld := funext fun n => by
  rw [State.ld, hl, State.ld]
theorem ldOfPage_congr (hl : t.ld = s.ld) : t.ldOfPage = s.ldOfPage := funext fun p => by
  rw [State.ldOfPage, hl, State.ldOfPage]
theorem dfltRec_congr (hl : t.ld = s.ld) : t.dfltRec = s.dfltRec := funext fun p => by
  rw [State.dfltRec, ldOfPage_congr hl, hl, State.dfltRec]

/-- A page's record depends on the page records and the LDs. -/
theorem page_congr (hp : t.pages = s.pages) (hl : t.lds = s.lds) : t.page = s.page := funext fun p => by
  rw [State.page, dfltRec_congr (ld_congr hl), hp, State.page]

theorem SameRoom.page (h : SameRoom s t) : t.page = s.page := page_congr h.pages h.lds

theorem SameRoom.withItem (h : SameRoom s t) (x : Stripe) (i : Item) : t.withItem x i = s.withItem x i := by
  unfold State.withItem State.nextKey State.stripeSet
  rw [h.dieSets]

theorem SameRoom.stripeGroups (h : SameRoom s t) (x : Stripe) : t.stripeGroups x = s.stripeGroups x := by
  unfold State.stripeGroups
  rw [h.page, h.log]

theorem SameRoom.recForm (h : SameRoom s t) (x : Stripe) : t.recForm x = s.recForm x := funext fun g => by
  have hr : t.recOf x = s.recOf x := funext fun p => by
    unfold State.recOf
    rw [h.page, h.log]
  unfold State.recForm State.newForm
  rw [hr, h.newestGen]

theorem SameRoom.fits (h : SameRoom s t) (x : Stripe) (i : Item) : t.fits x i = s.fits x i := by
  unfold State.fits State.stripeFits
  rw [h.withItem, h.stripeGroups, h.recForm]

end

/-! ## The lines that were read leave the queues -/

/-- The field is none of a DRAM channel. -/
abbrev OffChannels (f : Field) : Prop := f.bit < 8 * 0x160000 ∨ 8 * 0x170000 ≤ f.bit

/-- The second state differs from the first in the DRAM channels and their registers. -/
structure ChanWork (s t : State) : Prop where
  frame : t = { s with regs := t.regs, chans := t.chans }
  regs : ∀ f : Field, OffChannels f → t.fget f = s.fget f

theorem ChanWork.trans {s t u : State} (h : ChanWork s t) (k : ChanWork t u) : ChanWork s u :=
  ⟨by rw [k.frame, h.frame], fun f hf => (k.regs f hf).trans (h.regs f hf)⟩

theorem ChanWork.issueReq {s t : State} (h : ChanWork s t) {c : Nat} (hc : c < 8) (i : Nat) (q : DReq) : ChanWork s (t.issueReq c i q) := by
  refine h.trans ?_
  unfold State.issueReq
  extract_lets a x clk openNow hit x1 x2 rest keepOpen t' w x3 rh x4 b seen
  clear_value x4 b seen
  refine ⟨by rw [State.bump_eq]; rfl, fun f hf => ?_⟩
  refine (State.fget_bump_ne _ ?_ ?_ _).trans rfl
  · simp only [Fld.DRC_MAINT_CNT.NEIGHBOUR]
    omega
  · simp only [Fld.DRC_MAINT_CNT.NB_SAT]
    omega

/-- What holds of every value of a table and of its default holds of what it gives. -/
theorem tabGet_of {α : Type} {P : α → Prop} {d : α} (hd : P d) {m : List (Nat × α)} (hm : ∀ e ∈ m, P e.2) (k : Nat) :
    P (tabGet d k m) := by
  induction m with
  | nil => exact hd
  | cons e r ih =>
    obtain ⟨he, hr⟩ := List.forall_mem_cons.1 hm
    unfold tabGet
    split
    · exact he
    · exact ih hr

theorem Machine.State.dropReqs_queues (s : State) (which : DReq → Bool) (c i : Nat) :
    ∀ q ∈ (((s.dropReqs which).chan c).sub i).queue, which q = false := by
  refine tabGet_of (P := fun k : Chan => ∀ q ∈ (k.sub i).queue, which q = false) (fun q hq => ?_) (fun e he => ?_) c
  · cases hq
  · obtain ⟨x, -, rfl⟩ := List.mem_map.1 he
    refine tabGet_of (P := fun k : Sub => ∀ q ∈ k.queue, which q = false) (fun q hq => ?_) (fun e he q hq => ?_) i
    · cases hq
    · obtain ⟨y, -, rfl⟩ := List.mem_map.1 he
      simpa using (List.mem_filter.1 hq).2

theorem Machine.State.pageRead_spec (s : State) (base port : Nat) : ChanWork s (s.pageRead base port) ∧
    ∀ c i, ∀ q ∈ (((s.pageRead base port).chan c).sub i).queue, q.readsFor base port = false := by
  unfold State.pageRead
  extract_lets todo
  have ht : ∀ e ∈ todo, e.1 < 8 := by
    intro e he
    simp only [todo, List.mem_flatMap, List.mem_map, List.mem_range] at he
    obtain ⟨c, hc, i, -, q, -, rfl⟩ := he
    exact hc
  have h : ChanWork s (todo.foldl (fun s e => s.issueReq e.1 e.2.1 e.2.2) s) :=
    List.foldlRecOn todo _ ⟨rfl, fun _ _ => rfl⟩ fun t h e he => h.issueReq (ht e he) ..
  exact ⟨h.trans ⟨rfl, fun _ _ => rfl⟩, fun c i => State.dropReqs_queues _ _ c i⟩

/-! ## The page is done -/

theorem Machine.State.fget_wrap_self (s : State) {c o : Field} (h : c.bit ≠ o.bit) (n : Nat) :
    (s.wrap c o n).fget c = (s.fget c + n) % 2 ^ c.width := by
  unfold State.wrap
  split
  · rw [State.fget_fset_self]
  · rw [State.fget_fset_ne _ h, State.fget_fset_self, Nat.mod_mod]

/-- The reads of a page have come back, it waits for a stripe and its cluster has counted it. -/
structure PageDone (s t : State) (p k base : Nat) : Prop where
  frame : t = { s with regs := t.regs, chans := t.chans, rill := { s.rill with ready := s.rill.ready ++ [p] } }
  pages : t.fget (Fld.SCB_CL_CNT.PAGES k) = (s.fget (Fld.SCB_CL_CNT.PAGES k) + 1) % 2 ^ (Fld.SCB_CL_CNT.PAGES k).width
  regs : ∀ f : Field, f.bit < 8 * 0x160000 → t.fget f = s.fget f
  reads : ∀ c j, ∀ q ∈ ((t.chan c).sub j).queue, q.readsFor base 2 = false

/-- The page's work up to its place in a stripe. -/
def Machine.State.pageDone (s : State) (p k base : Nat) : State :=
  ((s.pageRead base scarabPort).modRill (fun r => { r with ready := r.ready ++ [p] })).wrap (Fld.SCB_CL_CNT.PAGES k)
    (Fld.SCB_CL_CNT.OVF k)

theorem Machine.State.pageDone_spec (s : State) (p k base : Nat) : PageDone s (s.pageDone p k base) p k base := by
  unfold State.pageDone
  obtain ⟨⟨h1, h2⟩, h3⟩ := s.pageRead_spec base scarabPort
  generalize s.pageRead base scarabPort = y at *
  have hr : y.rill = s.rill := by rw [h1]
  have ho : (Fld.SCB_CL_CNT.PAGES k).bit ≠ (Fld.SCB_CL_CNT.OVF k).bit := by
    simp only [Fld.SCB_CL_CNT.PAGES, Fld.SCB_CL_CNT.OVF]
    omega
  have hy : ∀ f : Field, (y.modRill (fun r => { r with ready := r.ready ++ [p] })).fget f = y.fget f := fun _ => rfl
  refine ⟨?_, ?_, fun f hf => ?_, fun c j => ?_⟩
  · rw [State.wrap_eq, State.modRill, hr]
    rw [h1]
  · rw [State.fget_wrap_self _ ho, hy, h2 _ (.inr ?_)]
    simp only [Fld.SCB_CL_CNT.PAGES]
    omega
  · rw [State.fget_wrap_ne, hy, h2 _ (.inl hf)]
    · simp only [Fld.SCB_CL_CNT.PAGES]
      omega
    · simp only [Fld.SCB_CL_CNT.OVF]
      omega
  · rw [State.wrap_eq]
    exact h3 c j

/-- A page that the Scarab has finished: nothing while a stopped channel holds its lines, else it is done and is placed. -/
theorem Machine.State.scarabDone_eq {s : State} {p k base : Nat} {i : Item} {l : List Item}
    (h : (s.rill.sel.filter (fun i => i.form.page == p)).drop (s.rill.ready.count p) = i :: l)
    (hb : base = (match i.slot with | some e => if i.form.kind = 2 then s.slotLine e else p * 64 | none => p * 64)) :
    s.scarabDone p k = if s.linesStopped base then s else (s.pageDone p k base).placeReady := by
  unfold State.scarabDone
  rw [h, hb]
  rfl

/-- What a finished page leaves, before what waits for it. -/
theorem scarabPageDone_spec {s : State} (dt : Nat) {p k base : Nat} {i : Item} {l : List Item}
    (h : (s.rill.sel.filter (fun i => i.form.page == p)).drop (s.rill.ready.count p) = i :: l)
    (hb : base = (match i.slot with | some e => if i.form.kind = 2 then s.slotLine e else p * 64 | none => p * 64)) :
    (s.linesStopped base = true → exec (.scarabPageDone dt p k) s = .next (s.elapse dt).settle) ∧
    (s.linesStopped base = false →
    ∃ t u : State, exec (.scarabPageDone dt p k) s = .next t ∧ t = u.settle ∧
      u.fget (Fld.SCB_CL_CNT.PAGES k) = (s.fget (Fld.SCB_CL_CNT.PAGES k) + 1) % 2 ^ (Fld.SCB_CL_CNT.PAGES k).width ∧
      (s.isOpen = false → u.rill = { s.rill with ready := s.rill.ready ++ [p] } ∧ u.log = s.log) ∧
      (∀ i x, s.isOpen = true → s.rill.ready = [] → s.rill.sel.find? (fun i => i.form.page == p) = some i →
        s.openStripe 1 = some x → s.fits x i = true → u.rill.sel = s.rill.sel.erase i ∧ u.rill.ready = []) ∧
      (∀ c j, ∀ q ∈ ((u.chan c).sub j).queue, q.readsFor base 2 = false) ∧
      u = { s.elapse dt with regs := u.regs, rill := u.rill, log := u.log, chans := u.chans }) := by
  have hr : (s.elapse dt).rill = s.rill := by rw [State.elapse_only]
  have hls : ∀ b, (s.elapse dt).linesStopped b = s.linesStopped b := fun b => by
    rw [State.elapse_only]
    rfl
  have hsl : ∀ e, (s.elapse dt).slotLine e = s.slotLine e := fun e => by
    rw [State.elapse_only]
    rfl
  have e : exec (.scarabPageDone dt p k) s = .next ((s.elapse dt).scarabDone p k).settle := rfl
  rw [State.scarabDone_eq (base := base) (by rwa [hr]) (by simp only [hsl]; exact hb), hls] at e
  refine ⟨fun hs => ?_, fun hs => ?_⟩
  · rw [e, if_pos hs]
  · rw [if_neg (by simp [hs])] at e
    refine ⟨_, ((s.elapse dt).pageDone p k base).placeReady, e, rfl, ?_⟩
    obtain ⟨hf, hp, hregs, hq⟩ := (s.elapse dt).pageDone_spec p k base
    generalize (s.elapse dt).pageDone p k base = v at *
    have hw : PlaceWork v v.placeReady := (PlaceWork.refl v).placeReady
    have hrill : v.rill = { s.rill with ready := s.rill.ready ++ [p] } := by rw [hf, hr]
    have hlog : v.log = s.log := by rw [hf, State.elapse_only]
    have ho : v.isOpen = s.isOpen := by rw [hf, State.elapse_only, State.isOpen, State.isOpen]
    have hroom : SameRoom s v := by
      refine ⟨?_, ?_, hlog, by rw [hf, State.elapse_only], by rw [hf, State.elapse_only]⟩
      · exact (hregs _ (by decide)).trans (State.elapse_fget ..)
      · exact (hregs _ (by decide)).trans (State.elapse_fget ..)
    have hc : v.placeReady.chans = v.chans := by rw [hw.frame]
    refine ⟨?_, fun hn => ?_, fun i x hopen hready hi hx hfit => ?_, fun c j q hqm => ?_, ?_⟩
    · refine (hw.regs _ ?_).trans (hp.trans (by rw [State.elapse_fget]))
      simp only [logFields, Fld.LOG_WINDOW.FREE_BANDS, Fld.LOG_WINDOW.FREE_MIN, Fld.LOG_WINDOW.TAIL, Fld.LOG_WINDOW.HEAD,
        Fld.LOG_SEQ.NEXT_SEQ, Fld.RILL_OVR.OVERRIDE_MB, Fld.LOG_RELOC.RELOC_MB, Fld.LOG_RELOC.EXCESS_MB, Fld.SCB_CL_CNT.PAGES,
        List.map_cons, List.map_nil, List.mem_cons, List.not_mem_nil, not_or, or_false]
      omega
    · have e : v.placeReady = v := if_pos (by simp [ho, hn])
      rw [e]
      exact ⟨hrill, hlog⟩
    · have hsel : v.rill.sel = s.rill.sel := by rw [hrill]
      rw [← hsel]
      refine State.placeReady_one (ho.trans hopen) (by rw [hrill, hready]; rfl) (by rw [hsel, hi]) ?_ ((hroom.fits x i).trans hfit)
      rw [State.openStripe, hlog]
      exact hx
    · rw [State.chan, hc] at hqm
      exact hq c j q hqm
    · rw [hw.frame, hf]

end Sys2Proof

/-! # What the end of a stripe's programs puts on flash (O12: R128, R215) -/

namespace Sys2Proof
open Machine

/-! ## The forms of a stripe -/

namespace Steady
variable {s₀ s : State}

theorem persistCopied {p stamp} (h : Steady s₀ s) : Steady s₀ (s.persistCopied p stamp) := h.rest
theorem ckptCopied {n no p r} (h : Steady s₀ s) : Steady s₀ (s.ckptCopied n no p r) := h.modCkpt
theorem freeEddy {i} (h : Steady s₀ s) : Steady s₀ (s.freeEddy i) := (h.rest.modLd.setPState.ite h.rest.modLd).showSlots.ite h
theorem moveRefs {a b} (h : Steady s₀ s) : Steady s₀ (s.moveRefs a b) := by
  unfold State.moveRefs
  exact h.rest

end Steady

/-- A form takes effect where it stands on flash now, or, discarded, nowhere. -/
def Lands (s : State) (i : Item) (t : State) : Prop := Steady s t ∨ Steady (s.onFlash i) t

theorem Lands.ite {s t u : State} {i : Item} {c : Prop} {_ : Decidable c} (ht : Lands s i t) (hu : Lands s i u) :
    Lands s i (if c then t else u) := by
  split
  · exact ht
  · exact hu

theorem Machine.State.relocCopied_lands (s : State) (i : Item) (k : Nat) : Lands s i (s.relocCopied i k) :=
  .ite (.inr (Steady.refl _).moveRefs) (.inl (.refl s))

theorem Machine.State.recCopied_lands (s : State) (i : Item) : Lands s i (s.recCopied i) :=
  .inr (.ite (Steady.refl _).rest (.refl _))

theorem Machine.State.liveCopied_steady {s : State} {i : Item} (hs : i.stale = false) (hc : (s.page i.form.page).st = .cleaning) :
    Steady (s.onFlash i) (s.liveCopied i) := by
  unfold State.liveCopied
  extract_lets p r r'
  rw [if_neg (by simp [hs, r, p, hc])]
  exact ((Steady.refl _).foldl Steady.ckptCopied).setPage

theorem Machine.State.liveCopied_lands (s : State) (i : Item) : Lands s i (s.liveCopied i) := by
  unfold State.liveCopied
  extract_lets p r r'
  exact .ite (.inl (Steady.refl s).wrap.persistCopied) (.inr ((Steady.refl _).foldl Steady.ckptCopied).setPage)

theorem Machine.State.ckptFormCopied_lands (s : State) (i : Item) : Lands s i (s.ckptFormCopied i) :=
  .inr (.ite ((Steady.refl _).foldl Steady.modCkpt) (.refl _))

/-- Whatever the writer of its stripe. -/
theorem Machine.State.itemDone_lands (s : State) (w : Nat) (i : Item) : Lands s i (s.itemDone w i) := by
  unfold State.itemDone
  refine .ite (.inl (Steady.refl s).modLog) ?_
  split
  · exact s.relocCopied_lands i _
  · refine .ite (s.ckptFormCopied_lands i) (.ite (s.recCopied_lands i) (.ite (.inr (Steady.refl _).modSpill) (.ite ?_ (.ite (.inl (.refl s)) ?_))))
    · exact .inr (Steady.fset (Steady.rest (Steady.refl (s.onFlash i)) (spill := _)))
    · split
      · exact .inr ((Steady.refl _).foldl Steady.ckptCopied).freeEddy
      · exact s.liveCopied_lands i

/-- Only forms at the log addresses of `keys` differ, and no stripe. -/
structure OnlyForms (keys : List Nat) (s t : State) : Prop where
  forms : ∀ k, k ∉ keys → t.formAt k = s.formAt k
  stripesOn : t.stripesOn = s.stripesOn

theorem OnlyForms.trans {keys : List Nat} {s t u : State} (h : OnlyForms keys s t) (k : OnlyForms keys t u) : OnlyForms keys s u :=
  ⟨fun a ha => (k.forms a ha).trans (h.forms a ha), k.stripesOn.trans h.stripesOn⟩

theorem Steady.onlyForms {keys : List Nat} {s t : State} (h : Steady s t) : OnlyForms keys s t :=
  ⟨fun k _ => by rw [State.formAt, h.flash, State.formAt], h.stripesOn⟩

@[simp] theorem Machine.State.formAt_onFlash_self (s : State) (i : Item) : (s.onFlash i).formAt i.key = i.form :=
  tabGet_tabSet_self ..
theorem Machine.State.formAt_onFlash_ne (s : State) {i : Item} {k : Nat} (h : k ≠ i.key) : (s.onFlash i).formAt k = s.formAt k :=
  tabGet_tabSet_ne _ _ _ h _

theorem Lands.onlyForms {keys : List Nat} {s t : State} {i : Item} (h : Lands s i t) (hi : i.key ∈ keys) : OnlyForms keys s t := by
  rcases h with h | h
  · exact h.onlyForms
  · have ho : OnlyForms keys s (s.onFlash i) := ⟨fun k hk => s.formAt_onFlash_ne fun e => hk (e ▸ hi), rfl⟩
    exact ho.trans h.onlyForms

/-! ## A stripe that lands -/

/-- The stripe stands on flash and its forms have no effect yet. -/
def Machine.State.entered (s : State) (x : Stripe) : State :=
  { s.modLog (fun l => { l with
      stripes := l.stripes.filter (fun y => y.seq != x.seq)
      recDue := l.recDue.filter (fun e => e.1 != x.seq) }) with
    stripesOn := tabIns x.seq (s.onFlashStripe x) (tabDel x.seq s.stripesOn) }

theorem Machine.State.land_eq (s : State) (x : Stripe) :
    s.land x = x.items.foldl (fun s i => s.itemDone x.writer i) (s.entered x) := rfl

theorem Machine.State.land_onlyForms (s : State) (x : Stripe) : OnlyForms (x.items.map (·.key)) (s.entered x) (s.land x) := by
  rw [State.land_eq]
  exact List.foldlRecOn x.items _ ⟨fun _ _ => rfl, rfl⟩ fun t h i hi =>
    h.trans ((t.itemDone_lands x.writer i).onlyForms (List.mem_map_of_mem hi))

theorem Machine.State.closeStripe_closed {s : State} {q : Nat} {x : Stripe} (h : s.stripe? q = some x) (hc : x.closed = true) :
    s.closeStripe q = s := by
  simp [State.closeStripe, h, hc]

/-- The second state differs from the first in registers, the port and the log. -/
abbrev FreeWork (s t : State) : Prop := t = { s with regs := t.regs, flm := t.flm, log := t.log }

theorem FreeWork.formAt {s t : State} (h : FreeWork s t) (k : Nat) : t.formAt k = s.formAt k := by
  rw [State.formAt, h, State.formAt]
theorem FreeWork.page {s t : State} (h : FreeWork s t) : t.page = s.page := page_congr (by rw [h]) (by rw [h])

theorem Machine.State.freeDies_freeWork (s : State) (x : Stripe) : FreeWork s (s.freeDies x) := by
  unfold State.freeDies State.opOff
  rfl
theorem FreeWork.measure {s t : State} (h : FreeWork s t) (us : Nat) : FreeWork s (t.measure us) := by
  unfold FreeWork State.measure State.fsat State.fset State.modLog
  rw [h]

/-- The end of a stripe's programs: its dies are free, it lands, and what waited for it follows. -/
theorem Machine.State.stripeDone_steady {s : State} {q us : Nat} {x : Stripe} (h : s.stripe? q = some x) (hc : x.closed = true) :
    ∃ v : State, FreeWork s v ∧ Steady (v.land x) (s.stripeDone q us) := by
  unfold State.stripeDone
  rw [State.closeStripe_closed h hc, h, Option.filter_some, if_pos hc]
  split
  case h_1 e => cases e
  case h_2 y e =>
  obtain rfl : x = y := Option.some.inj e
  extract_lets s1 s2 cleaned s3
  refine ⟨if x.writer = 4 then s1 else s1.measure us, ?_, ?_⟩
  · have h1 : FreeWork s s1 := s.freeDies_freeWork x
    split
    · exact h1
    · exact h1.measure us
  · have h2 : Steady s2 s2 := .refl s2
    have h3 : Steady s2 s3 := .ite (h2.wrap.modRill rfl rfl) (.ite h2.modSpill h2)
    exact .ite h3 h3.completeAll.writeCkptRecs.reportCuts.tailAdvance.logLow.dieRestored.showWeir

/-- A stripe whose members have all reported success. -/
theorem stripeProgramDone_lands {s : State} (dt us : Nat) {q : Nat} {x : Stripe} (h : s.stripe? q = some x) (hc : x.closed = true) :
    ∃ v t : State, exec (.stripeProgramDone dt q us) s = .next t ∧ FreeWork (s.elapse dt) v ∧ Steady (v.land x) t := by
  have hy : (s.elapse dt).stripe? q = some x := by
    rw [State.stripe?, State.elapse_only]
    exact h
  obtain ⟨v, hv, hs⟩ := State.stripeDone_steady (us := us) hy hc
  exact ⟨v, _, rfl, hv, hs.afterFlash⟩

/-- The forms of a stripe on flash, and the stripe (R128). -/
theorem stripeProgramDone_forms {s : State} (dt us : Nat) {q : Nat} {x : Stripe} (h : s.stripe? q = some x) (hc : x.closed = true) :
    ∃ t, exec (.stripeProgramDone dt q us) s = .next t ∧ (∀ k, (∀ i ∈ x.items, i.key ≠ k) → t.formAt k = s.formAt k) ∧
      (∃ f, (q, f) ∈ t.stripesOn ∧ f.writer = x.writer ∧ f.members = x.members ∧
        f.forms = x.items.map (fun i => (i.key, i.form))) := by
  obtain ⟨v, t, e, hv, hs⟩ := stripeProgramDone_lands dt us h hc
  obtain ⟨hf, ho⟩ := v.land_onlyForms x
  obtain ⟨hf', ho'⟩ := hs.onlyForms (keys := x.items.map (·.key))
  have hq : x.seq = q := by simpa using List.find?_some h
  refine ⟨t, e, fun k hk => ?_, v.onFlashStripe x, ?_, rfl, rfl, rfl⟩
  · have hk' : k ∉ x.items.map (·.key) := fun hm => by
      obtain ⟨i, hi, rfl⟩ := List.mem_map.1 hm
      exact hk i hi rfl
    calc t.formAt k = (v.land x).formAt k := hf' k hk'
      _ = (v.entered x).formAt k := hf k hk'
      _ = v.formAt k := rfl
      _ = (s.elapse dt).formAt k := hv.formAt k
      _ = s.formAt k := by rw [State.formAt, State.elapse_only, State.formAt]
  · rw [ho', ho, ← hq]
    exact mem_tabIns_self ..

/-- A cleaned page's form on flash (R128). -/
theorem stripeProgramDone_cleaned {s : State} (dt us : Nat) {q : Nat} {x : Stripe} {i : Item} (h : s.stripe? q = some x)
    (hc : x.closed = true) (hw : x.writer = 1) (hx : x.items = [i]) (hk : i.form.kind = 1) (hsrc : i.src = none) (hslot : i.slot = none)
    (hst : i.stale = false) (hp : (s.page i.form.page).st = .cleaning) :
    ∃ t, exec (.stripeProgramDone dt q us) s = .next t ∧ t.formAt i.key = i.form ∧
      (∀ k, k ≠ i.key → t.formAt k = s.formAt k) := by
  obtain ⟨v, t, e, hv, hs⟩ := stripeProgramDone_lands dt us h hc
  have hl : v.land x = (v.entered x).liveCopied i := by
    rw [State.land_eq, hx, hw]
    simp [State.itemDone, hsrc, hk, hslot]
  have hpage : ((v.entered x).page i.form.page).st = .cleaning := by
    have hv' : (v.entered x).page = v.page := page_congr rfl rfl
    have hs' : (s.elapse dt).page = s.page := page_congr (by rw [State.elapse_only]) (by rw [State.elapse_only])
    rwa [hv', hv.page, hs']
  rw [hl] at hs
  obtain ⟨hf, -⟩ := ((State.liveCopied_steady hst hpage).onlyForms (keys := [])).trans hs.onlyForms
  refine ⟨t, e, (hf _ (by simp)).trans (State.formAt_onFlash_self ..), fun k hne => ?_⟩
  calc t.formAt k = ((v.entered x).onFlash i).formAt k := hf _ (by simp)
    _ = v.formAt k := State.formAt_onFlash_ne _ hne
    _ = s.formAt k := by rw [hv.formAt, State.formAt, State.elapse_only, State.formAt]

end Sys2Proof

/-! # A member that fails (O12: R215), and a fold that is read back (R213) -/

namespace Sys2Proof
open Machine

/-! ## A stripe that is written anew leaves the failure's counts -/

/-- The register fields that writing a stripe anew may change. -/
def rewriteFields : List Field := Fld.SPL_CNTB.STRIPE_REWRITES :: Fld.SPL_CNTB.RW_SAT :: logFields

/-- The second state shows the same in every other field. -/
abbrev Rewrites (s t : State) : Prop := RegsBut rewriteFields s t

namespace Rewrites
variable {s₀ s t : State}

theorem logWork (h : Rewrites s₀ s) (k : LogWork s t) : Rewrites s₀ t :=
  h.trans (k.regs.mono fun _ hf => List.mem_cons_of_mem _ (List.mem_cons_of_mem _ hf))

theorem foldl {α : Type} {l : List α} {f : State → α → State} (h : Rewrites s₀ s)
    (hf : ∀ {s a}, Rewrites s₀ s → Rewrites s₀ (f s a)) : Rewrites s₀ (l.foldl f s) :=
  List.foldlRecOn l f h fun _ hu _ _ => hf hu

theorem ite_fst {α : Type} {c : Prop} {_ : Decidable c} {a b : State × α} (ha : Rewrites s₀ a.1) (hb : Rewrites s₀ b.1) :
    Rewrites s₀ (if c then a else b).1 := by
  split
  · exact ha
  · exact hb

theorem rewritten (h : Rewrites s₀ s) : Rewrites s₀ (s.bump Fld.SPL_CNTB.STRIPE_REWRITES Fld.SPL_CNTB.RW_SAT) :=
  h.bump (by simp [rewriteFields]) (by simp [rewriteFields])

theorem place {w i} (h : Rewrites s₀ s) : Rewrites s₀ (s.place w i).1 := h.logWork (LogWork.refl s).place
theorem placeAll {w l} (h : Rewrites s₀ s) : Rewrites s₀ (s.placeAll w l).1 := h.logWork (LogWork.refl s).placeAll
theorem closeStripe {q} (h : Rewrites s₀ s) : Rewrites s₀ (s.closeStripe q) := h.logWork (LogWork.refl s).closeStripe

theorem writeCkptRec {n c} (h : Rewrites s₀ s) : Rewrites s₀ (s.writeCkptRec n c) := by
  refine getD_of h (forall_mem_bind fun ks => ?_)
  extract_lets addrs b
  have hb : Rewrites s₀ b.1 := h.placeAll.placeAll
  refine forall_mem_bind fun ms => ?_
  extract_lets d
  have hd : Rewrites s₀ d.1 := ite_fst hb hb.placeAll
  exact forall_mem_bind fun tops => forall_mem_map fun q => RegsBut.same hd.place.closeStripe

theorem writeCkptRecs (h : Rewrites s₀ s) : Rewrites s₀ s.writeCkptRecs :=
  h.foldl fun h => h.foldl fun h => .ite h.writeCkptRec h

theorem redoCkpts {keys items} (h : Rewrites s₀ s) : Rewrites s₀ (s.redoCkpts keys items) := h.foldl fun h => h.same

theorem rewriteStripe {q} (h : Rewrites s₀ s) : Rewrites s₀ (s.rewriteStripe q) := by
  unfold State.rewriteStripe
  split
  · exact h
  · extract_lets due s1 r its s2
    have h1 : Rewrites s₀ s1 := h.same
    clear_value s1
    refine .ite h1.redoCkpts.writeCkptRecs (.ite ?_ ?_)
    · have hr : Rewrites s₀ r.1 := h1.logWork (LogWork.refl _).newStripe
      split
      · exact hr.logWork (LogWork.refl _).modStripe
      · exact hr
    · have h2 : Rewrites s₀ s2 := h1.foldl fun {s i} h => by
        extract_lets r
        have hr : Rewrites s₀ r.1 := h.place
        split
        · exact hr
        · exact hr.same
        · exact .ite hr.same (.ite hr.same hr)
      split
      · exact .ite h2 h2.closeStripe
      · exact h2

theorem stripeToSpill {q} (h : Rewrites s₀ s) : Rewrites s₀ (s.stripeToSpill q) := by
  unfold State.stripeToSpill
  split
  · exact h
  · extract_lets due s1 s2 eds back s3 s4
    have h1 : Rewrites s₀ s1 := h.same
    have h2 : Rewrites s₀ s2 := h1.redoCkpts
    clear_value s2
    have h3 : Rewrites s₀ s3 := h2.same
    have h4 : Rewrites s₀ s4 := h3.foldl fun {s i} h => .ite (.ite h.same h.same) h
    clear_value s4
    exact h4.same

end Rewrites

/-! ## A block that is retired -/

theorem Machine.State.remapBlock_regs (s : State) (ds block : Nat) : (s.remapBlock ds block).regs = s.regs := by
  unfold State.remapBlock
  extract_lets u
  split
  · rfl
  · rfl

/-- A spare block takes the place of one of a die (R215). -/
def Machine.State.spareTaken (s : State) (ds block : Nat) : State :=
  let s := (s.fset (Fld.LOG_DIE_STS.SPARES ds) (s.fget (Fld.LOG_DIE_STS.SPARES ds) - 1)).satUp (Fld.LOG_DIE_STS.RETIRED ds)
  let s := s.modLog (fun l => { l with retired := setIns (blockKey ds (s.physBlock ds block)) l.retired })
  s.remapBlock ds block

theorem Machine.State.spareTaken_fget (s : State) (ds block : Nat) (f : Field) : (s.spareTaken ds block).fget f =
    ((s.fset (Fld.LOG_DIE_STS.SPARES ds) (s.fget (Fld.LOG_DIE_STS.SPARES ds) - 1)).satUp (Fld.LOG_DIE_STS.RETIRED ds)).fget f := by
  unfold State.spareTaken
  extract_lets u v
  have hv : v.regs = u.regs := rfl
  rw [State.fget, State.remapBlock_regs, hv, ← State.fget]

theorem Machine.State.retireBlock_eq {s : State} {ds : Nat} (block cause : Nat) (h : 0 < s.fget (Fld.LOG_DIE_STS.SPARES ds)) :
    s.retireBlock ds block cause = ((s.spareTaken ds block).showCap.journal 5 (s.spareTaken ds block).showCap.newestGen
      [(0x20, ds), (0x22, block), (0x24, cause)]).fault (srcOf 83 7) 0x4E (ds * 2 ^ 25 + block * 2 ^ 11) :=
  if_neg (Nat.ne_of_gt h)

/-- What the registers of the log show of a retired block. -/
theorem Machine.State.retireBlock_fget {s : State} {ds : Nat} (block cause : Nat) (h : 0 < s.fget (Fld.LOG_DIE_STS.SPARES ds)) {f : Field}
    (hf : f.bit < 8 * 0x1D0050) (hc : f.bit ≠ Fld.LOG_CAP.PSLC_BYTES.bit) : (s.retireBlock ds block cause).fget f =
      ((s.fset (Fld.LOG_DIE_STS.SPARES ds) (s.fget (Fld.LOG_DIE_STS.SPARES ds) - 1)).satUp (Fld.LOG_DIE_STS.RETIRED ds)).fget f := by
  rw [State.retireBlock_eq block cause h, State.fget_fault _ (by decide) _ _ _ (.inl hf)]
  have hj := (s.spareTaken ds block).showCap.journal_recorded (kind := 5) (by decide)
    (s.spareTaken ds block).showCap.newestGen [(0x20, ds), (0x22, block), (0x24, cause)]
  rw [hj.regs f (by omega), ← State.spareTaken_fget s ds block f]
  exact State.fget_fset_ne _ hc _

/-! ## A member that reports failure -/

/-- A stripe with a member in flight on the block is written anew: by the Elytra in SPILLING, else at the head (R215, R161). -/
def Machine.State.anew (s : State) (x : Stripe) : State :=
  let s := if s.dev == .spilling then s.bump Fld.SPL_CNTB.STRIPE_REWRITES Fld.SPL_CNTB.RW_SAT else s
  if s.dev == .spilling && !byElytra x.writer then s.stripeToSpill x.seq else s.rewriteStripe x.seq

theorem Rewrites.anew {s₀ s : State} {x : Stripe} (h : Rewrites s₀ s) : Rewrites s₀ (s.anew x) := by
  unfold State.anew
  extract_lets v
  have hv : Rewrites s₀ v := .ite h.rewritten h
  exact .ite hv.stripeToSpill hv.rewriteStripe

/-- A failure is counted and reported, its block is retired, and stripes are written anew. -/
theorem Machine.State.stripeFail_eq {s : State} {q c : Nat} {st : MediaStatus} {x : Stripe} (h : s.stripe? q = some x)
    (hc : x.closed = true) (hst : st ≠ .ok) (hm : c ∈ x.members) (hc16 : c < 16) :
    ∃ (src kind addr cause : Nat) (l : List Stripe), src < 1024 ∧ s.stripeFail q c st = l.foldl State.anew
      (((s.bump Fld.LOG_ERR_CNT.PROGRAM_FAIL Fld.LOG_ERR_CNT.PF_SAT).fault src kind addr).retireBlock (32 * c + s.stripeSet x)
        x.band cause) := by
  unfold State.stripeFail
  rw [State.closeStripe_closed h hc, h, Option.filter_some, if_pos hc]
  split
  case h_1 e => cases e
  case h_2 y e =>
  obtain rfl : x = y := Option.some.inj e
  have hno : ¬ (st == MediaStatus.ok || !x.members.contains c) = true := by simp [hst, hm]
  rw [if_neg hno]
  by_cases ht : st = .timeout
  · subst ht
    exact ⟨srcOf (40 + c) 4, _, _, _, _, by unfold srcOf; omega, rfl⟩
  · have hf : (st == MediaStatus.timeout) = false := by simp [ht]
    simp only [hf, Bool.false_eq_true, if_false]
    exact ⟨srcOf (40 + c) 6, _, _, _, _, by unfold srcOf; omega, rfl⟩

/-- A failed member counts, and a spare takes its block's place (R215). -/
theorem Machine.State.stripeFail_counts {s : State} {q c : Nat} {st : MediaStatus} {x : Stripe} (h : s.stripe? q = some x)
    (hc : x.closed = true) (hst : st ≠ .ok) (hm : c ∈ x.members) (hc16 : c < 16) (hset : s.stripeSet x < 32)
    (hs : 0 < s.fget (Fld.LOG_DIE_STS.SPARES (32 * c + s.stripeSet x)))
    (hmax : s.fget (Fld.LOG_DIE_STS.SPARES (32 * c + s.stripeSet x)) ≤ (Fld.LOG_DIE_STS.SPARES (32 * c + s.stripeSet x)).max) :
    (s.stripeFail q c st).fget Fld.LOG_ERR_CNT.PROGRAM_FAIL =
        min (s.fget Fld.LOG_ERR_CNT.PROGRAM_FAIL + 1) Fld.LOG_ERR_CNT.PROGRAM_FAIL.max ∧
      (s.stripeFail q c st).fget (Fld.LOG_DIE_STS.SPARES (32 * c + s.stripeSet x)) =
        s.fget (Fld.LOG_DIE_STS.SPARES (32 * c + s.stripeSet x)) - 1 := by
  obtain ⟨src, kind, addr, cause, l, hsrc, e⟩ := State.stripeFail_eq h hc hst hm hc16
  rw [e]
  have hds : 32 * c + s.stripeSet x < 512 := by omega
  generalize 32 * c + s.stripeSet x = ds at *
  have h3 : ∀ f : Field, f.bit < 8 * 0x1D0050 → ((s.bump Fld.LOG_ERR_CNT.PROGRAM_FAIL Fld.LOG_ERR_CNT.PF_SAT).fault src kind addr).fget f =
      (s.bump Fld.LOG_ERR_CNT.PROGRAM_FAIL Fld.LOG_ERR_CNT.PF_SAT).fget f := fun f hf => State.fget_fault _ hsrc _ _ _ (.inl hf)
  have hpf := (h3 _ (by decide)).trans (State.fget_bump_self s (c := Fld.LOG_ERR_CNT.PROGRAM_FAIL) (o := Fld.LOG_ERR_CNT.PF_SAT) (by decide) 1)
  have hsp : ((s.bump Fld.LOG_ERR_CNT.PROGRAM_FAIL Fld.LOG_ERR_CNT.PF_SAT).fault src kind addr).fget (Fld.LOG_DIE_STS.SPARES ds) =
      s.fget (Fld.LOG_DIE_STS.SPARES ds) := by
    refine (h3 _ ?_).trans (State.fget_bump_ne s ?_ ?_ 1)
    · simp only [Fld.LOG_DIE_STS.SPARES]
      omega
    · simp only [Fld.LOG_DIE_STS.SPARES, Fld.LOG_ERR_CNT.PROGRAM_FAIL]
      omega
    · simp only [Fld.LOG_DIE_STS.SPARES, Fld.LOG_ERR_CNT.PF_SAT]
      omega
  generalize (s.bump Fld.LOG_ERR_CNT.PROGRAM_FAIL Fld.LOG_ERR_CNT.PF_SAT).fault src kind addr = v at hpf hsp
  have hpos : 0 < v.fget (Fld.LOG_DIE_STS.SPARES ds) := by rwa [hsp]
  have hl : Rewrites (v.retireBlock ds x.band cause) (l.foldl State.anew (v.retireBlock ds x.band cause)) :=
    .foldl (.refl _ _) Rewrites.anew
  refine ⟨(hl _ (by decide)).trans ?_, (hl _ ?_).trans ?_⟩
  · rw [State.retireBlock_fget _ _ hpos (by decide) (by decide), State.satUp, State.fsat, State.fget_fset_ne, State.fget_fset_ne, hpf]
    · simp only [Fld.LOG_ERR_CNT.PROGRAM_FAIL, Fld.LOG_DIE_STS.SPARES]
      omega
    · simp only [Fld.LOG_ERR_CNT.PROGRAM_FAIL, Fld.LOG_DIE_STS.RETIRED]
      omega
  · simp only [rewriteFields, logFields, Fld.LOG_WINDOW.FREE_BANDS, Fld.LOG_WINDOW.FREE_MIN, Fld.LOG_WINDOW.TAIL, Fld.LOG_WINDOW.HEAD,
      Fld.LOG_SEQ.NEXT_SEQ, Fld.RILL_OVR.OVERRIDE_MB, Fld.LOG_RELOC.RELOC_MB, Fld.LOG_RELOC.EXCESS_MB,
      Fld.SPL_CNTB.STRIPE_REWRITES, Fld.SPL_CNTB.RW_SAT, Fld.LOG_DIE_STS.SPARES, List.map_cons, List.map_nil, List.mem_cons,
      List.not_mem_nil, not_or, or_false]
    omega
  · rw [State.retireBlock_fget _ _ hpos ?_ ?_, State.satUp, State.fsat, State.fget_fset_ne, State.fget_fset_self, hsp, Nat.mod_eq_of_lt]
    · have := Field.max_lt (Fld.LOG_DIE_STS.SPARES ds)
      omega
    · simp only [Fld.LOG_DIE_STS.SPARES, Fld.LOG_DIE_STS.RETIRED]
      omega
    · simp only [Fld.LOG_DIE_STS.SPARES]
      omega
    · simp only [Fld.LOG_DIE_STS.SPARES, Fld.LOG_CAP.PSLC_BYTES]
      omega

end Sys2Proof

/-! # Boundaries and the ends of programs take effect (O12)

A stripe's failed member and the read-back of a fold after time has passed, then the obligation from the parts. -/

namespace Sys2Proof
open Machine

/-! ## A failed member, counted after time has passed -/

theorem Machine.State.elapse_stripe? (s : State) (dt q : Nat) : (s.elapse dt).stripe? q = s.stripe? q := by
  rw [State.stripe?, State.elapse_log, State.stripe?]

theorem Machine.State.elapse_stripeSet (s : State) (dt : Nat) (x : Stripe) : (s.elapse dt).stripeSet x = s.stripeSet x := by
  unfold State.stripeSet State.dieSets
  rw [State.elapse_fget]

theorem Machine.State.elapse_diesOfStripe (s : State) (dt q : Nat) : (s.elapse dt).diesOfStripe q = s.diesOfStripe q := by
  have hd : (s.elapse dt).stripeDies = s.stripeDies := funext fun x => by
    rw [State.stripeDies, State.elapse_stripeSet, State.stripeDies]
  unfold State.diesOfStripe
  rw [State.elapse_stripe?, State.elapse_log, hd]

/-- A failed member counts, and a spare takes its block's place; flash is as it was (R215). -/
theorem stripeProgramFail_counts {s : State} (dt : Nat) {q c : Nat} {st : MediaStatus} {x : Stripe} (h : s.stripe? q = some x)
    (hc : x.closed = true) (hst : st ≠ .ok) (hm : c ∈ x.members) (hc16 : c < 16) (hset : s.stripeSet x < 32)
    (hs : 0 < s.fget (Fld.LOG_DIE_STS.SPARES (32 * c + s.stripeSet x)))
    (hmax : s.fget (Fld.LOG_DIE_STS.SPARES (32 * c + s.stripeSet x)) ≤ (Fld.LOG_DIE_STS.SPARES (32 * c + s.stripeSet x)).max) :
    ∃ t u : State, exec (.stripeProgramFail dt q c st) s = .next t ∧ t = u.afterFlash (s.diesOfStripe q) ∧
      u.fget Fld.LOG_ERR_CNT.PROGRAM_FAIL =
        min (s.fget Fld.LOG_ERR_CNT.PROGRAM_FAIL + 1) Fld.LOG_ERR_CNT.PROGRAM_FAIL.max ∧
      u.fget (Fld.LOG_DIE_STS.SPARES (32 * c + s.stripeSet x)) =
        s.fget (Fld.LOG_DIE_STS.SPARES (32 * c + s.stripeSet x)) - 1 ∧ t.flash = s.flash := by
  have e : exec (.stripeProgramFail dt q c st) s =
      .next (((s.elapse dt).stripeFail q c st).afterFlash ((s.elapse dt).diesOfStripe q)) := rfl
  rw [State.elapse_diesOfStripe] at e
  have hq : (s.elapse dt).stripe? q = some x := by rw [State.elapse_stripe?, h]
  have hcount := State.stripeFail_counts hq hc hst hm hc16
  simp only [State.elapse_stripeSet, State.elapse_fget] at hcount
  obtain ⟨hpf, hsp⟩ := hcount hset hs hmax
  have hflash := ((Steady.refl (s.elapse dt)).stripeFail (q := q) (c := c) (st := st)).afterFlash (dies := s.diesOfStripe q) |>.flash
  exact ⟨_, _, e, rfl, hpf, hsp, by rw [hflash, State.elapse_only]⟩

/-! ## The read-back of a fold (R213) -/

/-- The records of a band whose group is whole and whose read-back has ended wait no more. -/
def Machine.State.foldEnded (s : State) (b : Nat) : State :=
  s.modLog fun l => { l with fold := l.fold.filter fun e => !(e.1 == b && s.groupWhole e.2.key) }

theorem Machine.State.elapse_groupWhole (s : State) (dt k : Nat) : (s.elapse dt).groupWhole k = s.groupWhole k := by
  unfold State.groupWhole State.dieSets
  rw [State.elapse_stripesOn, State.elapse_fget]

/-- A fold that does not read back at level 0 moves no record. -/
theorem Machine.State.foldRead_failed (s : State) (b : Nat) {r : ReadResult} (h : r ≠ .decoded 0) : s.foldRead b r = s.foldEnded b :=
  if_neg (by simpa using h)

/-- One that does moves its only record. -/
theorem Machine.State.foldRead_single {s : State} {b k : Nat} {i : Item} (h : s.log.fold = [(b, i)]) (hw : s.groupWhole i.key = true)
    (hk : i.src = some k) : s.foldRead b (.decoded 0) = (s.foldEnded b).relocCopied i k := by
  simp [State.foldRead, State.foldEnded, h, hw, hk]

theorem Machine.State.foldEnded_elapse_fold (s : State) (dt b : Nat) : ((s.elapse dt).foldEnded b).log.fold =
    s.log.fold.filter fun e => !(e.1 == b && s.groupWhole e.2.key) := by
  simp only [State.foldEnded, State.modLog, State.elapse_log, State.elapse_groupWhole]

theorem foldReadbackDone_failed (s : State) (dt b : Nat) {r : ReadResult} (h : r ≠ .decoded 0) :
    ∃ t, exec (.foldReadbackDone dt b r) s = .next t ∧
      (∀ e ∈ t.log.fold, e ∈ s.log.fold ∧ ¬ (e.1 = b ∧ s.groupWhole e.2.key = true)) ∧
      t = { s.elapse dt with regs := t.regs, rill := t.rill, log := t.log, freeCtr := t.freeCtr } := by
  have e : exec (.foldReadbackDone dt b r) s = .next ((s.elapse dt).foldRead b r).tailAdvance := rfl
  rw [State.foldRead_failed _ _ h] at e
  obtain ⟨hframe, -, hfold, -⟩ := (LogWork.refl ((s.elapse dt).foldEnded b)).tailAdvance
  refine ⟨_, e, fun x hx => ?_, by rw [hframe]; rfl⟩
  rw [hfold, State.foldEnded_elapse_fold] at hx
  simpa [imp_iff_not_or] using hx

theorem refs_congr {s t : State} (hp : t.pages = s.pages) (hx : t.recIdx = s.recIdx) (hl : t.lds = s.lds)
    (hi : t.sealedImg = s.sealedImg) : t.refs = s.refs := by
  unfold State.refs
  rw [hp, hx, hi, ld_congr hl]

theorem Machine.State.elapse_refs (s : State) (dt : Nat) : (s.elapse dt).refs = s.refs :=
  refs_congr (by rw [State.elapse_only]) (by rw [State.elapse_only]) (by rw [State.elapse_only]) (by rw [State.elapse_only])

theorem foldReadbackDone_moves {s : State} (dt : Nat) {b k : Nat} {i : Item} (h : s.log.fold = [(b, i)])
    (hw : s.groupWhole i.key = true) (hk : i.src = some k) (hr : k ∈ s.refs) :
    ∃ t, exec (.foldReadbackDone dt b (.decoded 0)) s = .next t ∧ t.formAt i.key = i.form ∧
      (∀ p r, (p, r) ∈ s.pages → r.loc = k → (p, { r with loc := i.key }) ∈ t.pages) := by
  have e : exec (.foldReadbackDone dt b (.decoded 0)) s = .next ((s.elapse dt).foldRead b (.decoded 0)).tailAdvance := rfl
  rw [State.foldRead_single (by rwa [State.elapse_log]) (by rwa [State.elapse_groupWhole]) hk] at e
  have hp : ((s.elapse dt).foldEnded b).pages = s.pages := State.elapse_pages ..
  have href : ((s.elapse dt).foldEnded b).refs = s.refs := (refs_congr rfl rfl rfl rfl).trans (s.elapse_refs dt)
  generalize (s.elapse dt).foldEnded b = y at e hp href
  rw [State.relocCopied, if_pos (by simpa [href] using hr)] at e
  have hm : Steady (y.onFlash i) ((y.onFlash i).moveRefs k i.key) := (Steady.refl _).moveRefs
  have hpages : ∀ p r, (p, r) ∈ s.pages → r.loc = k → (p, { r with loc := i.key }) ∈ ((y.onFlash i).moveRefs k i.key).pages :=
    fun p r hpr hloc => List.mem_map.2 ⟨(p, r), hp ▸ hpr, if_pos hloc⟩
  generalize (y.onFlash i).moveRefs k i.key = z at e hm hpages
  obtain ⟨hframe, -, -, -⟩ := (LogWork.refl z).tailAdvance
  refine ⟨_, e, ?_, fun p r hpr hloc => ?_⟩
  · rw [State.formAt, hframe, hm.flash]
    exact y.formAt_onFlash_self i
  · rw [hframe]
    exact hpages p r hpr hloc

/-! ## The obligation -/

/-- Before a warm reset, what a boundary leaves (R62, R65, R118, R119, R289). -/
theorem beatBoundary_takesEffect {s : State} (ov : List (Nat × Nat)) (obs : BeatObs) (h : s.dev ≠ .off) (hw : s.flt.warmAtT = false) :
    ∃ t, exec (.beatBoundary ov obs) s = .next t ∧ t.colTime % 8192 = 0 ∧ t.beat = t.colTime / 8192 ∧
      (s.colTime % 8192 = 0 ∧ s.beat < s.colTime / 8192 → t.now = s.now ∧ t.colTime = s.colTime) ∧
      (¬ (s.colTime % 8192 = 0 ∧ s.beat < s.colTime / 8192) → t.colTime = (s.colTime / 8192 + 1) * 8192) ∧
      t.rill.pendW.isSome = true ∧ t.rill.pendAt = t.now + 2000 ∧ t.fab.devLoad.map (·.1) = [0, 1] ∧
      t.flash = s.flash ∧ t.psq = s.psq ∧ t.twb = s.twb := by
  obtain ⟨t, e, hd, hload⟩ := beatBoundary_done ov obs h hw
  obtain ⟨hframe, -, -, h0, hat, hnext⟩ := s.toBoundary_spec
  have hflash : s.toBoundary.flash = s.flash := by rw [hframe]
  have hpsq : s.toBoundary.psq = s.psq := by rw [hframe]
  have htwb : s.toBoundary.twb = s.twb := by rw [hframe]
  obtain ⟨kflash, kpsq, ktwb, know, kcol, kbeat, kweir, kat, -, -, -⟩ := hd
  generalize s.toBoundary = y at *
  refine ⟨t, e, by rw [kcol, h0], ?_, fun hh => ?_, fun hh => by rw [kcol, hnext hh], kweir, by rw [kat, know], hload,
    kflash.trans hflash, kpsq.trans hpsq, ktwb.trans htwb⟩
  · rw [kbeat, kcol]
    rfl
  · obtain ⟨hn, hc⟩ := hat hh
    exact ⟨know.trans hn, kcol.trans hc⟩

/-- Settles O12: each command leaves the state its operations compute, and what they do not change (`Steady`, `LogWork`) is as it
was. -/
theorem boundariesAndProgramsTakeEffect : Obligations.BoundariesAndProgramsTakeEffect := by
  unfold Obligations.BoundariesAndProgramsTakeEffect
  refine ⟨fun s ov obs => beatBoundary_takesEffect ov obs, fun s ov obs => beatBoundary_resets ov obs, fun s ov obs h => ?_,
    fun s dt w h => weirInForce_spec, fun s dt p k base i l _ => scarabPageDone_spec dt,
    fun s dt q us x => stripeProgramDone_forms dt us, fun s dt q us x i => stripeProgramDone_cleaned dt us,
    fun s dt q c st x => stripeProgramFail_counts dt, fun s dt b r => foldReadbackDone_failed s dt b,
    fun s dt b k i => foldReadbackDone_moves dt⟩
  exact if_pos (by simp [h])

end Sys2Proof

/-! # The timestamp (O39) -/

namespace Sys2Proof
open Machine

namespace Machine

theorem State.elapse_nowUs (s : State) (dt : Nat) : (s.elapse dt).nowUs = (s.now + dt - s.vaonAt) / 1000 := by
  simp [State.nowUs]

/-- The timestamp of a module that has not lost its time (R111). -/
theorem State.timestamp_kept {s : State} (h : s.fget Fld.CIS_TIME_STS.TIME_LOST = 0) : s.timestamp =
    (s.fget Fld.CIS_TS_BASE.TS_BASE + 1000 * (s.nowUs - s.fget Fld.CIS_TS_MARK.TS_MARK)) % 2 ^ 64 :=
  if_neg (by simp [State.on, h])

/-- The registers that Set Timestamp writes (R111). -/
def State.setTime64 (s : State) (v : Word) : State :=
  ((s.fset Fld.CIS_TS_BASE.TS_BASE v.toNat).fset Fld.CIS_TS_MARK.TS_MARK s.nowUs).fset Fld.CIS_TIME_STS.TIME_LOST 0

theorem State.setTime64_spec (s : State) (v : Word) :
    (s.setTime64 v).fget Fld.CIS_TS_BASE.TS_BASE = v.toNat ∧
    (s.setTime64 v).fget Fld.CIS_TS_MARK.TS_MARK = s.nowUs % 2 ^ 64 ∧
    (s.setTime64 v).fget Fld.CIS_TIME_STS.TIME_LOST = 0 ∧
    RegsBut [Fld.CIS_TS_BASE.TS_BASE, Fld.CIS_TS_MARK.TS_MARK, Fld.CIS_TIME_STS.TIME_LOST] s (s.setTime64 v) := by
  unfold State.setTime64
  refine ⟨?_, ?_, State.fget_fset_self .., (RegsBut.refl _ s).fset.fset.fset⟩
  · rw [State.fget_fset_ne _ (by decide), State.fget_fset_ne _ (by decide), State.fget_fset_self]
    exact Nat.mod_eq_of_lt v.isLt
  · rw [State.fget_fset_ne _ (by decide), State.fget_fset_self]
    rfl

theorem exec_setTimestamp {s : State} (h : MboxReady s .fm) (dt : Nat) (v : Word) :
    exec (.setTimestamp dt .fm v) s = .next (((s.elapse dt).setTime64 v).reply .fm 0 []) :=
  congrArg Host.Outcome.next (State.mboxGate_ready _ _ _ _ _ (MboxReady.elapse dt h) (.inl rfl))

theorem exec_getTimestamp {s : State} {m : Mbox} (h : MboxReady s m) (dt : Nat) :
    exec (.getTimestamp dt m) s = .next ((s.elapse dt).emit (.mbox m 0 [(s.elapse dt).timestamp])) :=
  congrArg Host.Outcome.next (State.mboxGate_ready _ _ _ _ _ (MboxReady.elapse dt h) (.inr rfl))

end Machine

/-- Settles O39: Set Timestamp is three register writes (`setTime64_spec`), and a timestamp is the sum where no time is lost
(`timestamp_kept`), in the answer as at a start. -/
theorem timestampIsSetAndReported : Obligations.TimestampIsSetAndReported := by
  unfold Obligations.TimestampIsSetAndReported
  refine ⟨fun s dt v h => ?_, fun s dt m h hl _ => ?_, fun s hm hl => ?_⟩
  · obtain ⟨hbase, hmark, hlost, hregs⟩ := (s.elapse dt).setTime64_spec v
    exact ⟨_, exec_setTimestamp h dt v, hbase, hmark, hlost, rfl, hregs.of_elapse.same⟩
  · have ht := State.timestamp_kept (s := s.elapse dt) (by simpa using hl)
    simp only [State.elapse_fget] at ht
    exact ⟨_, 0, exec_getTimestamp h dt, ht⟩
  · simp [State.startTime, hm, State.timestamp_kept hl]

end Sys2Proof

/-! # The cistern's operations, each said once (O9, O10, O11)

What the operations of the cistern change and what they leave: `CisWork` names the parts of the state they may touch, `ChargeWork`
what the chargers' control leaves of packs and registers, `RecWork` what a learned record and its copies do. -/

namespace Sys2Proof
open Machine

namespace Machine

/-! ## Packs and time that passes -/

@[simp] theorem State.pack_modPack_self (s : State) (p : Nat) (f : Pack → Pack) : (s.modPack p f).pack p = f (s.pack p) := by
  simp [State.modPack, State.modCis, State.pack]

theorem State.pack_modPack_ne (s : State) {p q : Nat} (h : q ≠ p) (f : Pack → Pack) : (s.modPack p f).pack q = s.pack q := by
  simp [State.modPack, State.modCis, State.pack, tabGet_tabSet_ne, h]

@[simp] theorem State.pack_fset (s : State) (f : Field) (v q : Nat) : (s.fset f v).pack q = s.pack q := rfl

theorem State.pack_congr {s t : State} (h : t.cis.packs = s.cis.packs) (q : Nat) : t.pack q = s.pack q := by
  unfold State.pack
  rw [h]

@[simp] theorem State.elapse_pack (s : State) (dt p : Nat) : (s.elapse dt).pack p = s.pack p := State.pack_congr (by simp) p
@[simp] theorem State.elapse_counted (s : State) (dt p : Nat) : (s.elapse dt).counted p = s.counted p := State.elapse_on ..
@[simp] theorem State.elapse_packTemp (s : State) (dt p : Nat) : (s.elapse dt).packTemp p = s.packTemp p := by
  simp [State.packTemp]
@[simp] theorem State.elapse_calState (s : State) (dt : Nat) : (s.elapse dt).calState = s.calState := State.elapse_fget ..
@[simp] theorem State.elapse_calRuns (s : State) (dt : Nat) : (s.elapse dt).calRuns = s.calRuns := by simp [State.calRuns]
@[simp] theorem State.elapse_rehearsing (s : State) (dt : Nat) : (s.elapse dt).rehearsing = s.rehearsing := by
  simp [State.rehearsing]
@[simp] theorem State.elapse_countedPacks (s : State) (dt : Nat) : (s.elapse dt).countedPacks = s.countedPacks := by
  simp [State.countedPacks, funext (s.elapse_counted dt)]
@[simp] theorem State.elapse_rehOk (s : State) (dt : Nat) : (s.elapse dt).rehOk = s.rehOk := by simp [State.rehOk]
@[simp] theorem State.elapse_ocv (s : State) (dt : Nat) : (s.elapse dt).ocv = s.ocv := by simp [State.ocv]
@[simp] theorem State.elapse_zEntry (s : State) (dt p i : Nat) : (s.elapse dt).zEntry p i = s.zEntry p i := by
  simp [State.zEntry]
@[simp] theorem State.elapse_defaultZ (s : State) (dt i : Nat) : (s.elapse dt).defaultZ i = s.defaultZ i := by
  simp [State.defaultZ, State.cfgBest]

theorem mem_allPacks {p : Nat} : p ∈ allPacks ↔ p < 4 := by
  simp [allPacks]
  omega

theorem State.calRuns_iff (s : State) : s.calRuns = true ↔ 1 ≤ s.calState ∧ s.calState ≤ 4 := by simp [State.calRuns]

end Machine

namespace RegsBut
variable {fs : List Field} {s t : State}

theorem modCis {f : CisState → CisState} (h : RegsBut fs s t) : RegsBut fs s (t.modCis f) := h.same
theorem modPack {p : Nat} {f : Pack → Pack} (h : RegsBut fs s t) : RegsBut fs s (t.modPack p f) := h.same
theorem emit {o : Out} (h : RegsBut fs s t) : RegsBut fs s (t.emit o) := h.same

end RegsBut

namespace Machine

/-- A write to a register that may be written has its effect (Table 13-4). -/
theorem State.viaReg_writable {s : State} {off : Nat} (h : s.fmWritable off = true) (f : State → State) : s.viaReg off f = f s :=
  if_pos h

/-! ## A pass over the packs -/

/-- In a pass over different packs only the turn of pack `p` changes what the turns of the others leave (`K`). -/
theorem foldl_turn {α β : Type} {K : β → β → Prop} (hr : ∀ b, K b b) (ht : ∀ {a b c}, K a b → K b c → K a c)
    {step : β → α → β} {p : α} {l : List α} (hp : p ∈ l) (hl : l.Nodup) (hk : ∀ q ∈ l, q ≠ p → ∀ b, K b (step b q)) (b : β) :
    ∃ u, K b u ∧ K (step u p) (l.foldl step b) := by
  induction l generalizing b with
  | nil => simp at hp
  | cons a l ih =>
    obtain ⟨ha, hl⟩ := List.nodup_cons.1 hl
    by_cases e : p = a
    · subst e
      have hpass : ∀ (m : List α), (∀ q ∈ m, q ∈ p :: l ∧ q ≠ p) → ∀ c, K c (m.foldl step c) := fun m => by
        induction m with
        | nil => exact fun _ c => hr c
        | cons q m im =>
          exact fun hm c => ht (hk q (hm q (by simp)).1 (hm q (by simp)).2 c) (im (fun x hx => hm x (by simp [hx])) _)
      exact ⟨b, hr b, hpass l (fun q hq => ⟨by simp [hq], fun e => ha (e ▸ hq)⟩) _⟩
    · obtain ⟨u, hu, hv⟩ := ih ((List.mem_cons.1 hp).resolve_left e) hl (fun q hq => hk q (by simp [hq])) (step b a)
      exact ⟨u, ht (hk a (by simp) (Ne.symm e) b) hu, hv⟩

theorem nodup_allPacks : allPacks.Nodup := by decide

/-- A pass that changes each pack by what the registers say of it. -/
theorem State.foldl_modPack {s : State} {step : State → Nat → State} {g : Nat → Pack → Pack} {l : List Nat}
    (h : ∀ u : State, u.regs = s.regs → ∀ p, step u p = u.modPack p (g p)) (hl : l.Nodup) :
    l.foldl step s = { s with cis := { s.cis with packs := (l.foldl step s).cis.packs } } ∧
    ∀ q, (l.foldl step s).pack q = if q ∈ l then g q (s.pack q) else s.pack q := by
  induction l generalizing s with
  | nil => exact ⟨rfl, fun _ => rfl⟩
  | cons p l ih =>
    obtain ⟨hp, hl⟩ := List.nodup_cons.1 hl
    have e : (p :: l).foldl step s = l.foldl step (s.modPack p (g p)) := by rw [List.foldl_cons, h s rfl]
    obtain ⟨hf, hq⟩ := ih (s := s.modPack p (g p)) h hl
    refine ⟨by rw [e, hf]; rfl, fun q => ?_⟩
    rw [e, hq]
    by_cases hqp : q = p
    · subst hqp
      simp [hp]
    · simp [State.pack_modPack_ne s hqp, hqp]

/-! ## The input path (R94, R98) -/

theorem State.driveRail_on (s : State) (r : Nat) (high : Bool) :
    (s.driveRail r high).on (Fld.PSQ_RAIL_STS.ENABLED r) = high := by
  unfold State.driveRail
  split
  · next h => simpa using h
  · simp only [State.on, State.emit_fget, State.fput, State.fget_fset_self]
    cases high <;> rfl

theorem State.driveRail_eq (s : State) (r : Nat) (high : Bool) :
    s.driveRail r high = { s with regs := (s.driveRail r high).regs, out := (s.driveRail r high).out } := by
  unfold State.driveRail
  split <;> rfl

theorem State.driveRail_regsBut (s : State) (r : Nat) (high : Bool) :
    RegsBut [Fld.PSQ_RAIL_STS.ENABLED r] s (s.driveRail r high) :=
  .ite (.refl _ s) (RegsBut.same (t := s.fput (Fld.PSQ_RAIL_STS.ENABLED r) high) (RegsBut.fput (.refl _ s)))

end Machine

/-- The second state differs from the first in the pin of the input path `r` and the register that shows it. -/
structure PathWork (r : Nat) (s t : State) : Prop where
  frame : t = { s with regs := t.regs, out := t.out }
  regs : RegsBut [Fld.PSQ_RAIL_STS.ENABLED r] s t

theorem Machine.State.inputPath_work (s : State) (high : Bool) :
    PathWork (s.fget Fld.CIS_CFG.INPUT_RAIL) s (s.inputPath high) :=
  ⟨s.driveRail_eq _ high, s.driveRail_regsBut _ high⟩

theorem Machine.State.inputPath_on (s : State) (high : Bool) :
    (s.inputPath high).on (Fld.PSQ_RAIL_STS.ENABLED (s.fget Fld.CIS_CFG.INPUT_RAIL)) = high := s.driveRail_on _ high

namespace PathWork
variable {r : Nat} {s t : State}

theorem cis (h : PathWork r s t) : t.cis = s.cis := by rw [h.frame]
theorem now (h : PathWork r s t) : t.now = s.now := by rw [h.frame]
theorem pack (h : PathWork r s t) (q : Nat) : t.pack q = s.pack q := State.pack_congr (by rw [h.cis]) q

/-- A register below those of the rails stays. -/
theorem fget (h : PathWork r s t) {f : Field} (hf : f.bit < 8 * 0x1B0000) : t.fget f = s.fget f :=
  h.regs f (by simp only [List.map_cons, List.map_nil, List.mem_singleton, Fld.PSQ_RAIL_STS.ENABLED]; omega)

end PathWork

/-! ## The chargers (R104) -/

/-- The registers that show the chargers of some packs. -/
def chargeFields (ps : List Nat) : List Field := ps.flatMap fun p => [Fld.CIS_PACK_STS.CHARGING p, Fld.CIS_PACK_STS.CHG_BLOCK p]

/-- The second state differs from the first in what the control of the chargers of the packs `ps` sets. -/
structure ChargeWork (ps : List Nat) (s t : State) : Prop where
  frame : t = { s with regs := t.regs, cis := { s.cis with packs := t.cis.packs }, out := t.out }
  packs : ∀ q, t.pack q = { s.pack q with stopped := (t.pack q).stopped }
  others : ∀ q, q ∉ ps → t.pack q = s.pack q
  regs : RegsBut (chargeFields ps) s t

namespace ChargeWork
variable {ps : List Nat} {s t u : State}

theorem refl (ps : List Nat) (s : State) : ChargeWork ps s s := ⟨rfl, fun _ => rfl, fun _ _ => rfl, .refl _ s⟩

theorem trans (h : ChargeWork ps s t) (k : ChargeWork ps t u) : ChargeWork ps s u where
  frame := by rw [k.frame, h.frame]
  packs q := by rw [k.packs q, h.packs q]
  others q hq := (k.others q hq).trans (h.others q hq)
  regs := h.regs.trans k.regs

theorem mono {qs : List Nat} (h : ChargeWork ps s t) (hs : ∀ p ∈ ps, p ∈ qs) : ChargeWork qs s t where
  frame := h.frame
  packs := h.packs
  others q hq := h.others q fun hm => hq (hs q hm)
  regs := h.regs.mono fun f hf => by
    obtain ⟨p, hp, hf⟩ := List.mem_flatMap.1 hf
    exact List.mem_flatMap.2 ⟨p, hs p hp, hf⟩

/-- A register below those of the rails, and of no charger, stays. -/
theorem fget (h : ChargeWork ps s t) {f : Field} (hf : ∀ p ∈ ps, f.bit ≠ (Fld.CIS_PACK_STS.CHARGING p).bit ∧
    f.bit ≠ (Fld.CIS_PACK_STS.CHG_BLOCK p).bit) : t.fget f = s.fget f :=
  h.regs f (by simp only [chargeFields, List.map_flatMap, List.mem_flatMap]; rintro ⟨p, hp, hm⟩; simp [hf p hp] at hm)

theorem cis (h : ChargeWork ps s t) : t.cis = { s.cis with packs := t.cis.packs } := by rw [h.frame]

/-- No rail is driven. -/
theorem enabled (h : ChargeWork ps s t) (hs : ∀ p ∈ ps, p < 4) (r : Nat) :
    t.on (Fld.PSQ_RAIL_STS.ENABLED r) = s.on (Fld.PSQ_RAIL_STS.ENABLED r) := by
  rw [State.on, h.fget fun p hp => ?_, State.on]
  have := hs p hp
  simp only [Fld.PSQ_RAIL_STS.ENABLED, Fld.CIS_PACK_STS.CHARGING, Fld.CIS_PACK_STS.CHG_BLOCK]
  omega

end ChargeWork

namespace Machine

theorem State.driveChg_eq (s : State) (p : Nat) (high : Bool) :
    s.driveChg p high = { s with regs := (s.driveChg p high).regs, out := (s.driveChg p high).out } := by
  unfold State.driveChg
  split <;> rfl

theorem State.charge_work (s : State) (p : Nat) : ChargeWork [p] s (s.charge p) := by
  unfold State.charge
  extract_lets soc top s₁ b
  have e := (s₁.fset (Fld.CIS_PACK_STS.CHG_BLOCK p) b).driveChg_eq p (b == 0)
  have hpack : ∀ q, ((s₁.fset (Fld.CIS_PACK_STS.CHG_BLOCK p) b).driveChg p (b == 0)).pack q = s₁.pack q :=
    fun q => State.pack_congr (by rw [State.driveChg_cis]; rfl) q
  refine ⟨?_, fun q => ?_, fun q hq => ?_, ?_⟩
  · rw [e]
    rfl
  · rw [hpack]
    by_cases h : q = p
    · rw [h, State.pack_modPack_self]
    · rw [State.pack_modPack_ne s h]
  · rw [hpack, State.pack_modPack_ne s (by simpa using hq)]
  · exact ((RegsBut.same (u := s₁) (.refl _ s)).fset (by simp [chargeFields])).trans
      ((State.driveChg_regsBut _ _ _).mono (by simp [chargeFields]))

theorem State.charges_work (ps : List Nat) (s : State) : ChargeWork ps s (ps.foldl (fun s p => s.charge p) s) := by
  induction ps generalizing s with
  | nil => exact .refl _ s
  | cons p ps ih => exact ((s.charge_work p).mono (by simp)).trans ((ih _).mono fun q hq => by simp [hq])

theorem State.chargeAll_work (s : State) : ChargeWork allPacks s s.chargeAll := s.charges_work allPacks

/-- A pack whose charge the cistern itself holds off: it is not counted, or a light pulse, a rehearsal or a calibration past its
charge runs (R104). -/
def State.chgHeld (s : State) (p : Nat) : Bool :=
  !s.counted p || (s.pack p).pulse.isSome || s.rehearsing || (s.calRuns && s.calState != 1)

theorem State.chgBlock_held {s : State} {p : Nat} (h : s.chgHeld p = true) : (s.chgBlock p == 0) = false := by
  unfold State.chgHeld at h
  unfold State.chgBlock
  extract_lets temp soc done st
  split
  · rfl
  · next hc =>
    have hr : ((s.pack p).pulse.isSome || s.rehearsing || s.calRuns && s.calState != 1) = true := by simpa [hc] using h
    simp only [hr, if_true]
    repeat' split
    all_goals rfl

end Machine

theorem ChargeWork.chgHeld {ps : List Nat} {s t : State} (h : ChargeWork ps s t) (hs : ∀ p ∈ ps, p < 4) {p : Nat} (hp : p < 4) :
    t.chgHeld p = s.chgHeld p := by
  have hc : ∀ q < 4, ∀ p < 4, (Fld.CIS_PACK_STS.COUNTED q).bit ≠ (Fld.CIS_PACK_STS.CHARGING p).bit ∧
    (Fld.CIS_PACK_STS.COUNTED q).bit ≠ (Fld.CIS_PACK_STS.CHG_BLOCK p).bit := by decide
  have hst : ∀ p < 4, Fld.CIS_CAL_STS.STATE.bit ≠ (Fld.CIS_PACK_STS.CHARGING p).bit ∧
    Fld.CIS_CAL_STS.STATE.bit ≠ (Fld.CIS_PACK_STS.CHG_BLOCK p).bit := by decide
  have h1 : t.counted p = s.counted p := congrArg (· == 1) (h.fget fun q hq => hc p hp q (hs q hq))
  have h2 : t.calState = s.calState := h.fget fun q hq => hst q (hs q hq)
  have h3 : t.rehearsing = s.rehearsing := by
    unfold State.rehearsing
    rw [h.frame]
  have h4 : (t.pack p).pulse = (s.pack p).pulse := by rw [h.packs p]
  simp only [State.chgHeld, State.calRuns, h1, h2, h3, h4]

namespace Machine

theorem State.charge_held {s : State} {p : Nat} (h : s.chgHeld p = true) :
    (s.charge p).on (Fld.CIS_PACK_STS.CHARGING p) = false := by
  unfold State.charge
  extract_lets soc top s₁ b
  have hp : (s₁.pack p).pulse = (s.pack p).pulse := by rw [State.pack_modPack_self]
  have h₁ : s₁.chgHeld p = true := by
    unfold State.chgHeld at h ⊢
    rw [hp]
    exact h
  have hb : (b == 0) = false := State.chgBlock_held h₁
  rw [hb]
  exact State.driveChg_off ..

/-- The chargers' control leaves every pack that the cistern holds off without its charger. -/
theorem State.chargeAll_held {s : State} {p : Nat} (hp : p < 4) (h : s.chgHeld p = true) :
    s.chargeAll.on (Fld.CIS_PACK_STS.CHARGING p) = false := by
  have hk : ∀ q ∈ allPacks, q ≠ p → ∀ u : State, (u.charge q).on (Fld.CIS_PACK_STS.CHARGING p) =
      u.on (Fld.CIS_PACK_STS.CHARGING p) ∧ (u.charge q).chgHeld p = u.chgHeld p := fun q hq hne u =>
    ⟨u.charge_charging (mem_allPacks.1 hq) hp (Ne.symm hne),
      (u.charge_work q).chgHeld (fun r hr => by rw [List.mem_singleton.1 hr]; exact mem_allPacks.1 hq) hp⟩
  obtain ⟨u, ⟨-, hu⟩, hv, -⟩ := foldl_turn
    (K := fun a b : State => b.on (Fld.CIS_PACK_STS.CHARGING p) = a.on (Fld.CIS_PACK_STS.CHARGING p) ∧ b.chgHeld p = a.chgHeld p)
    (fun _ => ⟨rfl, rfl⟩) (fun h k => ⟨k.1.trans h.1, k.2.trans h.2⟩) (mem_allPacks.2 hp) nodup_allPacks hk s
  exact hv.trans (State.charge_held (hu.trans h))

end Machine

/-! ## A calibration ends (R93, R94) -/

/-- The second state differs from the first in what the end of a calibration sets: its state, its count, the packs that take part
and the input path. -/
structure CalWork (s t : State) : Prop where
  frame : t = { s with regs := t.regs, cis := { s.cis with packs := t.cis.packs }, out := t.out }
  packs : ∀ q, t.pack q = { s.pack q with inCal := (t.pack q).inCal }
  regs : RegsBut [Fld.CIS_CAL_STS.STATE, Fld.CIS_CAL_STS.REASON, Fld.CIS_EVT_CNT.LEARN_REJECT, Fld.CIS_EVT_CNT.REJ_SAT,
    Fld.PSQ_RAIL_STS.ENABLED (s.fget Fld.CIS_CFG.INPUT_RAIL)] s t

/-- A calibration that ran has ended in a state with a reason. -/
structure CalEnded (st reason : Nat) (s t : State) : Prop where
  state : t.calState = st
  reason : t.fget Fld.CIS_CAL_STS.REASON = reason
  rejects : t.fget Fld.CIS_EVT_CNT.LEARN_REJECT = min (s.fget Fld.CIS_EVT_CNT.LEARN_REJECT + 1) Fld.CIS_EVT_CNT.LEARN_REJECT.max
  path : s.calState = 2 → t.on (Fld.PSQ_RAIL_STS.ENABLED (s.fget Fld.CIS_CFG.INPUT_RAIL)) = true
  packs : ∀ q, q < 4 → (t.pack q).inCal = false

namespace Machine

/-- The input path where a discharge has it off is given back. -/
def State.pathBack (s : State) : State := if s.calState == 2 then s.inputPath true else s

theorem State.pathBack_work (s : State) : PathWork (s.fget Fld.CIS_CFG.INPUT_RAIL) s s.pathBack := by
  unfold State.pathBack
  split
  · exact s.inputPath_work true
  · exact ⟨rfl, .refl _ s⟩

/-- What is shown of a calibration that ends. -/
def State.calShowEnd (s : State) (st reason : Nat) : State :=
  (s.pathBack.fset Fld.CIS_CAL_STS.STATE st).fset Fld.CIS_CAL_STS.REASON reason

theorem State.calShowEnd_pack (s : State) (st reason q : Nat) : (s.calShowEnd st reason).pack q = s.pack q := s.pathBack_work.pack q

theorem State.calEnd_eq {s : State} (h : s.calRuns = true) (st reason : Nat) : ∃ u : State, s.calEnd st reason = u.learnReject ∧
    u = { s.calShowEnd st reason with cis := { s.cis with packs := u.cis.packs } } ∧
    (∀ q, u.pack q = if q ∈ allPacks then { s.pack q with inCal := false } else s.pack q) := by
  have e : s.calEnd st reason = (allPacks.foldl (fun s p => s.modPack p (fun k => { k with inCal := false }))
      (s.calShowEnd st reason)).learnReject := if_pos h
  obtain ⟨hframe, hpack⟩ := State.foldl_modPack (s := s.calShowEnd st reason)
    (step := fun s p => s.modPack p (fun k => { k with inCal := false })) (fun _ _ _ => rfl) nodup_allPacks
  simp only [State.calShowEnd_pack] at hpack
  have hcis : (s.calShowEnd st reason).cis = s.cis := s.pathBack_work.cis
  rw [hcis] at hframe
  exact ⟨_, e, hframe, hpack⟩

theorem State.calShowEnd_frame (s : State) (st reason : Nat) : s.calShowEnd st reason =
    { s with regs := (s.calShowEnd st reason).regs, out := (s.calShowEnd st reason).out } := by
  unfold State.calShowEnd
  rw [s.pathBack_work.frame]
  rfl

theorem State.learnReject_eq (s : State) : s.learnReject = { s with regs := s.learnReject.regs } := State.bump_eq ..

theorem State.calEnd_work (s : State) (st reason : Nat) : CalWork s (s.calEnd st reason) := by
  by_cases h : s.calRuns = true
  · obtain ⟨u, e, hframe, hpack⟩ := s.calEnd_eq h st reason
    have hreject := u.learnReject_eq
    have hu : u = { s with regs := u.regs, cis := { s.cis with packs := u.cis.packs }, out := u.out } := by
      rw [hframe, State.calShowEnd_frame]
    refine ⟨?_, fun q => ?_, ?_⟩
    · rw [e, hreject]
      exact congrArg (fun x : State => { x with regs := u.learnReject.regs }) hu
    · have hq : (s.calEnd st reason).pack q = u.pack q := State.pack_congr (by rw [e, hreject]) q
      rw [hq, hpack]
      split <;> rfl
    · have hshow : RegsBut [Fld.CIS_CAL_STS.STATE, Fld.CIS_CAL_STS.REASON, Fld.CIS_EVT_CNT.LEARN_REJECT, Fld.CIS_EVT_CNT.REJ_SAT,
          Fld.PSQ_RAIL_STS.ENABLED (s.fget Fld.CIS_CFG.INPUT_RAIL)] s (s.calShowEnd st reason) :=
        (s.pathBack_work.regs.mono).fset.fset
      rw [e]
      exact (hshow.same (u := u) (by rw [hframe])).bump
  · have e : s.calEnd st reason = s := if_neg h
    rw [e]
    exact ⟨rfl, fun _ => rfl, .refl _ s⟩

theorem State.calEnd_ended {s : State} (h : s.calRuns = true) {st reason : Nat} (hst : st < 16) (hr : reason < 16) :
    CalEnded st reason s (s.calEnd st reason) := by
  obtain ⟨u, e, hframe, hpack⟩ := s.calEnd_eq h st reason
  have hget : ∀ f, u.fget f = (s.calShowEnd st reason).fget f := fun f => by rw [hframe]; rfl
  have hne : ∀ {f : Field}, f.bit ≠ Fld.CIS_EVT_CNT.LEARN_REJECT.bit → f.bit ≠ Fld.CIS_EVT_CNT.REJ_SAT.bit →
      u.learnReject.fget f = (s.calShowEnd st reason).fget f := fun h1 h2 => (State.fget_bump_ne _ h1 h2 _).trans (hget _)
  rw [e]
  refine ⟨?_, ?_, ?_, fun h2 => ?_, fun q hq => ?_⟩
  · rw [State.calState, hne (by decide) (by decide), State.calShowEnd, State.fget_fset_ne _ (by decide), State.fget_fset_self]
    exact Nat.mod_eq_of_lt hst
  · rw [hne (by decide) (by decide), State.calShowEnd, State.fget_fset_self]
    exact Nat.mod_eq_of_lt hr
  · rw [State.learnReject, State.fget_bump_self _ (by decide), hget, State.calShowEnd, State.fget_fset_ne _ (by decide),
      State.fget_fset_ne _ (by decide), s.pathBack_work.fget (by decide)]
  · rw [State.on, hne (by simp only [Fld.PSQ_RAIL_STS.ENABLED, Fld.CIS_EVT_CNT.LEARN_REJECT]; omega)
      (by simp only [Fld.PSQ_RAIL_STS.ENABLED, Fld.CIS_EVT_CNT.REJ_SAT]; omega), State.calShowEnd,
      State.fget_fset_ne _ (by simp only [Fld.PSQ_RAIL_STS.ENABLED, Fld.CIS_CAL_STS.REASON]; omega),
      State.fget_fset_ne _ (by simp only [Fld.PSQ_RAIL_STS.ENABLED, Fld.CIS_CAL_STS.STATE]; omega), State.pathBack,
      if_pos (by simp [h2])]
    exact s.inputPath_on true
  · have hk : u.learnReject.pack q = u.pack q := State.pack_congr (by rw [State.learnReject_eq]) q
    rw [hk, hpack, if_pos (mem_allPacks.2 hq)]

end Machine

/-! ## Learned records (R96) -/

/-- The second state differs from the first in the copies of the learned record of pack `p` and in what of them is to be written. -/
structure RecWork (p : Nat) (s t : State) : Prop where
  frame : t = { s with cis := { s.cis with packs := t.cis.packs }, cfgDue := t.cfgDue }
  others : ∀ q, q ≠ p → t.pack q = s.pack q
  pack : t.pack p = { s.pack p with
    chrysR := (t.pack p).chrysR, recDue := (t.pack p).recDue, zAt := (t.pack p).zAt }

namespace RecWork
variable {p : Nat} {s t u : State}

theorem refl (p : Nat) (s : State) : RecWork p s s := ⟨rfl, fun _ _ => rfl, rfl⟩

theorem trans (h : RecWork p s t) (k : RecWork p t u) : RecWork p s u where
  frame := by rw [k.frame, h.frame]
  others q hq := (k.others q hq).trans (h.others q hq)
  pack := by rw [k.pack, h.pack]

theorem ite {c : Prop} {_ : Decidable c} (ht : RecWork p s t) (hu : RecWork p s u) : RecWork p s (if c then t else u) := by
  split
  · exact ht
  · exact hu

theorem modPack {f : Pack → Pack} (h : RecWork p s t)
    (hf : ∀ k, f k = { k with chrysR := (f k).chrysR, recDue := (f k).recDue, zAt := (f k).zAt }) : RecWork p s (t.modPack p f) :=
  h.trans ⟨rfl, fun _ hq => State.pack_modPack_ne t hq f, by rw [State.pack_modPack_self]; exact hf _⟩

theorem due {c : Option Nat} (h : RecWork p s t) : RecWork p s { t with cfgDue := c } := h.trans ⟨rfl, fun _ _ => rfl, rfl⟩

theorem recTouch (h : RecWork p s t) : RecWork p s (t.recTouch p) := by
  unfold State.recTouch
  exact h.modPack fun _ => rfl

theorem recWrite (h : RecWork p s t) : RecWork p s (t.recWrite p) := (h.recTouch.modPack fun _ => rfl).due
theorem zFlash (h : RecWork p s t) : RecWork p s (t.zFlash p) := .ite (h.recWrite.modPack fun _ => rfl) h
theorem zChanged (h : RecWork p s t) : RecWork p s (t.zChanged p) := h.recTouch.zFlash

theorem regs (h : RecWork p s t) : t.regs = s.regs := by rw [h.frame]
theorem fget (h : RecWork p s t) (f : Field) : t.fget f = s.fget f := by rw [State.fget, h.regs, State.fget]

end RecWork

/-- The second state differs from the first in registers, the cistern, what leaves the device and what is due to be written. -/
def CisDue (s t : State) : Prop := t = { s with regs := t.regs, cis := t.cis, out := t.out, cfgDue := t.cfgDue }

namespace CisDue
variable {p : Nat} {ps : List Nat} {s t u : State}

theorem refl (s : State) : CisDue s s := Eq.refl s
theorem trans (h : CisDue s t) (k : CisDue t u) : CisDue s u := by unfold CisDue at *; rw [k, h]
theorem fset {f v} (h : CisDue s t) : CisDue s (t.fset f v) := h.trans (Eq.refl _)
theorem modCis {f} (h : CisDue s t) : CisDue s (t.modCis f) := h.trans (Eq.refl _)
theorem modPack {q f} (h : CisDue s t) : CisDue s (t.modPack q f) := h.modCis
theorem recWork (h : CisDue s t) (k : RecWork p t u) : CisDue s u := h.trans (by unfold CisDue; rw [k.frame])
theorem chargeWork (h : CisDue s t) (k : ChargeWork ps t u) : CisDue s u := h.trans (by unfold CisDue; rw [k.frame])

end CisDue

/-! ## Impedance entries (R97) -/

/-- The register field that holds entry `i` of a pack's impedance table. -/
def zField (p i : Nat) : Field := if i % 2 = 0 then Fld.CIS_ZTAB.Z_LO p (i / 2) else Fld.CIS_ZTAB.Z_HI p (i / 2)

theorem zField_bit (p i : Nat) : (zField p i).bit = 8 * (0x1a0100 + 0x80 * p) + 16 * i := by
  unfold zField
  split
  · simp only [Fld.CIS_ZTAB.Z_LO]; omega
  · simp only [Fld.CIS_ZTAB.Z_HI]; omega

theorem zField_width (p i : Nat) : (zField p i).width = 16 := by
  unfold zField
  split <;> rfl

/-- The entries of the four tables lie apart. -/
theorem zField_ne {p q i j : Nat} (hi : i < 40) (hj : j < 40) (h : q ≠ p ∨ j ≠ i) : (zField q j).bit ≠ (zField p i).bit := by
  rw [zField_bit, zField_bit]
  omega

namespace Machine

theorem State.zEntry_eq (s : State) (p i : Nat) : s.zEntry p i = s.fget (zField p i) := by
  unfold State.zEntry zField
  split <;> rfl

theorem State.setZ_eq (s : State) (p i v : Nat) : s.setZ p i v = s.fset (zField p i) (min v 65535) := by
  unfold State.setZ zField
  split <;> rfl

theorem State.zEntry_modPack (s : State) (p : Nat) (f : Pack → Pack) (q i : Nat) : (s.modPack p f).zEntry q i = s.zEntry q i := rfl

theorem State.pack_setZ (s : State) (p i v q : Nat) : (s.setZ p i v).pack q = s.pack q := by rw [State.setZ_eq, State.pack_fset]

theorem State.zEntry_setZ_self (s : State) (p i v : Nat) : (s.setZ p i v).zEntry p i = min v 65535 := by
  rw [State.zEntry_eq, State.setZ_eq, State.fget_fset_self, zField_width]
  exact Nat.mod_eq_of_lt (lt_of_le_of_lt (min_le_right _ _) (by decide))

theorem State.zEntry_setZ_ne (s : State) {p q i j : Nat} (hi : i < 40) (hj : j < 40) (h : q ≠ p ∨ j ≠ i) (v : Nat) :
    (s.setZ p i v).zEntry q j = s.zEntry q j := by
  rw [State.zEntry_eq, State.setZ_eq, State.fget_fset_ne _ (zField_ne hi hj h), State.zEntry_eq]

end Machine

theorem RecWork.zEntry {p : Nat} {s t : State} (h : RecWork p s t) (q i : Nat) : t.zEntry q i = s.zEntry q i := by
  rw [State.zEntry_eq, h.fget, State.zEntry_eq]

theorem ChargeWork.zEntry {ps : List Nat} {s t : State} (h : ChargeWork ps s t) (hs : ∀ p ∈ ps, p < 4) (q i : Nat) :
    t.zEntry q i = s.zEntry q i := by
  rw [State.zEntry_eq, State.zEntry_eq, h.fget fun p hp => ?_]
  have := hs p hp
  rw [zField_bit]
  simp only [Fld.CIS_PACK_STS.CHARGING, Fld.CIS_PACK_STS.CHG_BLOCK]
  omega

/-! ## A rehearsal stops (R99) -/

/-- The fields of the log lie below those of the cistern. -/
theorem logFields_below {f : Field} (h : 8 * 0x1A0000 ≤ f.bit) : f.bit ∉ logFields.map Field.bit := fun hm => by
  have hb : ∀ b ∈ logFields.map Field.bit, b < 8 * 0x1A0000 := by decide
  exact absurd (hb _ hm) (by omega)

namespace Machine

theorem State.rehStop_spec (s : State) : s.rehStop = { s with cis := s.rehStop.cis, out := s.rehStop.out } ∧
    s.rehStop.cis = { s.cis with rehAt := none, rehLoad := false, rehFrom := none, rehReq := false } ∧
    (s.cis.rehLoad = true → Out.spillLoad false ∈ s.rehStop.out) := by
  have e : s.rehStop = if s.cis.rehLoad then
      (s.modCis (fun c => { c with rehAt := none, rehLoad := false, rehFrom := none, rehReq := false })).emit (.spillLoad false)
    else s.modCis (fun c => { c with rehAt := none, rehFrom := none, rehReq := false }) := rfl
  cases h : s.cis.rehLoad with
  | true =>
    rw [e, if_pos h]
    exact ⟨rfl, rfl, fun _ => by simp⟩
  | false =>
    rw [e, if_neg (by simp [h])]
    refine ⟨rfl, ?_, fun h' => absurd h' (by decide)⟩
    rw [← h]
    rfl

/-- The input path is on again after a rehearsal, and programs that were held off began. -/
structure PathRestored (s t : State) : Prop where
  frame : t = { s with regs := t.regs, out := t.out, rill := t.rill, log := t.log }
  path : t.on (Fld.PSQ_RAIL_STS.ENABLED (s.fget Fld.CIS_CFG.INPUT_RAIL)) = true
  outs : ∀ o ∈ s.out, o ∈ t.out
  regs : RegsBut (Fld.PSQ_RAIL_STS.ENABLED (s.fget Fld.CIS_CFG.INPUT_RAIL) :: logFields) s t
  quiet : s.log.stripes = [] → t.rill = s.rill ∧ t.log = s.log ∧
    RegsBut [Fld.PSQ_RAIL_STS.ENABLED (s.fget Fld.CIS_CFG.INPUT_RAIL)] s t

theorem State.driveRail_outs (s : State) (r : Nat) (high : Bool) : ∀ o ∈ s.out, o ∈ (s.driveRail r high).out := by
  unfold State.driveRail
  split
  · exact fun _ h => h
  · exact fun _ h => List.mem_append_left _ h

theorem State.rehPath_restored (s : State) : PathRestored s s.rehPath := by
  have hw := s.inputPath_work true
  have hon := s.inputPath_on true
  have hout : ∀ o ∈ s.out, o ∈ (s.inputPath true).out := s.driveRail_outs _ true
  have hl : LogWork (s.inputPath true) s.rehPath := (LogWork.refl _).foldl fun h => h.closeStripe
  have hq : s.log.stripes = [] → s.rehPath = s.inputPath true := fun h => by rw [State.rehPath, h, List.foldl_nil]
  generalize s.inputPath true = u at hw hon hout hl hq
  refine ⟨by rw [hl.frame, hw.frame], ?_, fun o ho => ?_, ?_, fun h => ?_⟩
  · rw [State.on, hl.regs _ (logFields_below (by simp only [Fld.PSQ_RAIL_STS.ENABLED]; omega))]
    exact hon
  · rw [hl.frame]
    exact hout o ho
  · exact (hw.regs.mono (by simp)).trans (hl.regs.mono fun f hf => List.mem_cons_of_mem _ hf)
  · rw [hq h]
    exact ⟨by rw [hw.frame], by rw [hw.frame], hw.regs⟩

/-- A rehearsal was ended without its results, the input path given back. -/
structure RehAborted (result : Nat) (s t : State) : Prop where
  frame : t = { s with regs := t.regs, cis := t.cis, out := t.out, rill := t.rill, log := t.log }
  cis : t.cis = { s.cis with rehAt := none, rehLoad := false, rehFrom := none, rehReq := false }
  result : t.fget Fld.CIS_REH_STS.RESULT = result
  load : s.cis.rehLoad = true → Out.spillLoad false ∈ t.out
  regs : RegsBut (Fld.CIS_REH_STS.RESULT :: Fld.PSQ_RAIL_STS.ENABLED (s.fget Fld.CIS_CFG.INPUT_RAIL) :: logFields) s t

theorem State.rehAbort_aborted {s : State} (h : s.cis.rehAt.isSome = true) {result : Nat} (hr : result < 16) :
    RehAborted result s (s.rehAbort result true) := by
  have e : s.rehAbort result true = (s.rehStop.fset Fld.CIS_REH_STS.RESULT result).rehPath := by
    rw [State.rehAbort, if_pos h, if_pos rfl]
  obtain ⟨hstop, hcis, hload⟩ := s.rehStop_spec
  generalize s.rehStop = a at e hstop hcis hload
  have ha : RegsBut [Fld.CIS_REH_STS.RESULT] s (a.fset Fld.CIS_REH_STS.RESULT result) :=
    (RegsBut.same (t := s) (.refl _ s) (by rw [hstop])).fset
  obtain ⟨pframe, -, pouts, pregs, -⟩ := (a.fset Fld.CIS_REH_STS.RESULT result).rehPath_restored
  rw [ha _ (by decide)] at pregs
  rw [e]
  refine ⟨?_, ?_, ?_, fun hl => pouts _ (hload hl), (ha.mono (by simp)).trans (pregs.mono fun f hf => List.mem_cons_of_mem _ hf)⟩
  · rw [pframe, State.fset, hstop]
  · rw [pframe]
    exact hcis
  · have hne : Fld.CIS_REH_STS.RESULT.bit ≠ (Fld.PSQ_RAIL_STS.ENABLED (s.fget Fld.CIS_CFG.INPUT_RAIL)).bit := by
      simp only [Fld.CIS_REH_STS.RESULT, Fld.PSQ_RAIL_STS.ENABLED]
      omega
    rw [pregs _ (fun hm => (List.mem_cons.1 hm).elim hne (logFields_below (by decide))), State.fget_fset_self]
    exact Nat.mod_eq_of_lt hr

end Machine

end Sys2Proof

/-! # Calibrations and light pulses (O10) -/

namespace Sys2Proof
open Machine

namespace Machine

/-! ## A calibration starts (R92, R94) -/

/-- What the start of a calibration makes of a pack. -/
def Pack.calStart (k : Pack) (counted : Bool) : Pack := { k with
  inCal := counted
  stopped := false
  full := false
  fullAt := none
  calOut := 0
  calN := 0
  calTemp := false }

/-- The state in which the packs of a calibration that starts are chosen. -/
def State.calBegin (s : State) (p : Nat) : State :=
  (((s.fset Fld.CIS_CAL_STS.INTERRUPTIONS 0).modCis (fun c => { c with
    calPack := p % 4
    pauseFm := false
    pauseT := false
    pausedAt := none
    longPause := false })).fset Fld.CIS_CAL_STS.STATE 1).fset Fld.CIS_CAL_STS.REASON 0

theorem calibrationGo_starts {s : State} (hc : ¬ (1 ≤ s.calState ∧ s.calState ≤ 4)) (hw : s.col.window = none)
    (hr : s.rehearsing = false) (hd : s.dev = .serving) (p : Nat) : ∃ t, calibrationGo p s = t ∧
      t = { s with regs := (s.calBegin p).regs, cis := { (s.calBegin p).cis with packs := t.cis.packs } } ∧
      ∀ q, q < 4 → t.pack q = (s.pack q).calStart (s.counted q) := by
  have h3 : (s.calState == 3) = false := by
    simp only [beq_eq_false_iff_ne]
    omega
  have hruns : s.calRuns = false := by
    rw [← Bool.not_eq_true, State.calRuns_iff]
    exact hc
  have e : calibrationGo p s = allPacks.foldl (fun u q => u.modPack q (fun k => k.calStart (u.counted q))) (s.calBegin p) := by
    unfold calibrationGo
    rw [if_neg (by simp [h3]), if_neg (by simp [hruns])]
    exact if_neg (by
      have hr' : s.cis.rehAt.isSome = false ∧ s.cis.rehEnd.isSome = false := by simpa [State.rehearsing] using hr
      simp [State.rehearsing, State.modCis, State.fset, hw, hd, hr'])
  have hcount : ∀ q < 4, (s.calBegin p).counted q = s.counted q := by
    have hb : ∀ q < 4, (Fld.CIS_PACK_STS.COUNTED q).bit ∉
        [Fld.CIS_CAL_STS.INTERRUPTIONS, Fld.CIS_CAL_STS.STATE, Fld.CIS_CAL_STS.REASON].map Field.bit := by decide
    have hregs : RegsBut [Fld.CIS_CAL_STS.INTERRUPTIONS, Fld.CIS_CAL_STS.STATE, Fld.CIS_CAL_STS.REASON] s (s.calBegin p) :=
      (RegsBut.refl _ s).fset.modCis.fset.fset
    exact fun q hq => congrArg (· == 1) (hregs _ (hb q hq))
  obtain ⟨hframe, hpack⟩ := State.foldl_modPack (s := s.calBegin p)
    (step := fun u q => u.modPack q (fun k => k.calStart (u.counted q)))
    (g := fun q k => k.calStart ((s.calBegin p).counted q))
    (fun u hu q => by simp only [State.counted, State.on, State.fget, hu]) nodup_allPacks
  refine ⟨_, e, hframe, fun q hq => ?_⟩
  rw [hpack, if_pos (mem_allPacks.2 hq), hcount q hq]
  rfl

/-- A calibration starts, and the packs that are counted take part in it. -/
theorem exec_calibrationGo_start {s : State} {p : Nat} (hf : s.fmWritable 0x1A0090 = true) (hp : p < 4)
    (hc : ¬ (1 ≤ s.calState ∧ s.calState ≤ 4)) (hw : s.col.window = none) (hr : s.rehearsing = false) (hd : s.dev = .serving)
    (dt : Nat) : ∃ t, exec (.calibrationGo dt p) s = .next t ∧ t.calState = 1 ∧ t.fget Fld.CIS_CAL_STS.REASON = 0 ∧
      t.fget Fld.CIS_CAL_STS.INTERRUPTIONS = 0 ∧ t.cis.calPack = p ∧
      (∀ q, q < 4 → (t.pack q).inCal = s.counted q ∧ (t.pack q).full = false ∧ (t.pack q).calOut = 0) ∧
      t = { s.elapse dt with regs := t.regs, cis := t.cis } ∧
      RegsBut [Fld.CIS_CAL_STS.STATE, Fld.CIS_CAL_STS.REASON, Fld.CIS_CAL_STS.INTERRUPTIONS] s t := by
  obtain ⟨t, e, hframe, hpack⟩ := calibrationGo_starts (s := s.elapse dt) (by simpa using hc) (by simpa using hw)
    (by simpa using hr) (by simpa using hd) p
  have hregs : ∀ f, t.fget f = ((s.elapse dt).calBegin p).fget f := fun f => by rw [hframe]; rfl
  refine ⟨t, congrArg Host.Outcome.next ((State.viaReg_writable (by simpa using hf) _).trans e), ?_, ?_, ?_, ?_, fun q hq => ?_, ?_, ?_⟩
  · rw [State.calState, hregs, State.calBegin, State.fget_fset_ne _ (by decide), State.fget_fset_self]
    rfl
  · rw [hregs, State.calBegin, State.fget_fset_self]
    rfl
  · rw [hregs, State.calBegin, State.fget_fset_ne _ (by decide), State.fget_fset_ne _ (by decide)]
    exact State.fget_fset_self (s.elapse dt) Fld.CIS_CAL_STS.INTERRUPTIONS 0
  · rw [hframe]
    exact Nat.mod_eq_of_lt hp
  · rw [hpack q hq, State.elapse_counted]
    exact ⟨rfl, rfl, rfl⟩
  · rw [hframe]
  · have h : RegsBut [Fld.CIS_CAL_STS.STATE, Fld.CIS_CAL_STS.REASON, Fld.CIS_CAL_STS.INTERRUPTIONS] (s.elapse dt)
        ((s.elapse dt).calBegin p) := (RegsBut.refl _ _).fset.modCis.fset.fset
    exact h.of_elapse.same (by rw [hframe])

/-! ## The discharge pauses and resumes (R94) -/

/-- The state of a calibration is shown beside the input path, which the discharge has off. -/
theorem State.calShow (s : State) (high : Bool) {r st : Nat} (hr : r = s.fget Fld.CIS_CFG.INPUT_RAIL) (hst : st < 16) :
    PathWork r s (s.inputPath high) ∧ ((s.inputPath high).fset Fld.CIS_CAL_STS.STATE st).calState = st ∧
    ((s.inputPath high).fset Fld.CIS_CAL_STS.STATE st).on (Fld.PSQ_RAIL_STS.ENABLED r) = high ∧
    RegsBut [Fld.CIS_CAL_STS.STATE, Fld.PSQ_RAIL_STS.ENABLED r] s ((s.inputPath high).fset Fld.CIS_CAL_STS.STATE st) := by
  subst hr
  have hw := s.inputPath_work high
  refine ⟨hw, ?_, ?_, (hw.regs.mono).fset⟩
  · rw [State.calState, State.fget_fset_self]
    exact Nat.mod_eq_of_lt hst
  · rw [State.on, State.fget_fset_ne _ (by simp only [Fld.PSQ_RAIL_STS.ENABLED, Fld.CIS_CAL_STS.STATE]; omega)]
    exact s.inputPath_on high

/-- GO ends the FM's pause of a calibration. -/
def CisState.resume (c : CisState) (t : Nat) : CisState := { c with
  pauseFm := false
  pausedAt := none
  longPause := c.longPause || (match c.pausedAt with | some u => decide (u + 600000000000 < t) | none => false) }

theorem calibrationGo_resumes {s : State} (hc : s.calState = 3) (hp : s.cis.pauseT = false) (p : Nat) : calibrationGo p s =
    ((s.modCis (fun c => c.resume s.now)).inputPath false).fset Fld.CIS_CAL_STS.STATE 2 := by
  unfold calibrationGo
  rw [if_pos (by simp [hc])]
  exact if_neg (by simp [State.modCis, hp])

theorem calibrationPause_pauses {s : State} (hc : s.calState = 2) : calibrationPause s =
    (((s.modCis (fun c => { c with pauseFm := true, pausedAt := some s.now })).inputPath true).fset Fld.CIS_CAL_STS.STATE 3).satUp
      Fld.CIS_CAL_STS.INTERRUPTIONS := by
  unfold calibrationPause
  rw [if_pos (by simp [hc])]
  rfl

theorem calibrationDischargeEnd_ends {s : State} (hc : s.calState = 2)
    (hu : s.fget Fld.CIS_USABLE.USABLE_J ≤ 500 * s.fget Fld.CIS_CFG.CAL_RESERVE) :
    calibrationDischargeEnd s = (s.inputPath true).fset Fld.CIS_CAL_STS.STATE 4 := if_pos (by simp [hc, hu])

theorem exec_calibrationGo_resume {s : State} (hf : s.fmWritable 0x1A0090 = true) (hc : s.calState = 3) (hp : s.cis.pauseT = false)
    (dt p : Nat) : ∃ t, exec (.calibrationGo dt p) s = .next t ∧ t.calState = 2 ∧ t.cis.pauseFm = false ∧ t.cis.pausedAt = none ∧
      t.on (Fld.PSQ_RAIL_STS.ENABLED (s.fget Fld.CIS_CFG.INPUT_RAIL)) = false ∧
      t = { s.elapse dt with regs := t.regs, cis := t.cis, out := t.out } ∧
      RegsBut [Fld.CIS_CAL_STS.STATE, Fld.PSQ_RAIL_STS.ENABLED (s.fget Fld.CIS_CFG.INPUT_RAIL)] s t := by
  have e := calibrationGo_resumes (s := s.elapse dt) (by simpa using hc) (by simpa using hp) p
  obtain ⟨hw, hst, hon, hregs⟩ := ((s.elapse dt).modCis (fun c => c.resume (s.elapse dt).now)).calShow (st := 2) false
    (s.elapse_fget dt _).symm (by decide)
  have hcis := hw.cis
  refine ⟨_, congrArg Host.Outcome.next ((State.viaReg_writable (by simpa using hf) _).trans e), hst, ?_, ?_, hon, ?_, ?_⟩
  · exact congrArg CisState.pauseFm hcis
  · exact congrArg CisState.pausedAt hcis
  · rw [hw.frame]
    rfl
  · exact ((RegsBut.refl _ (s.elapse dt)).modCis.trans hregs).of_elapse

theorem exec_calibrationPause {s : State} (hf : s.fmWritable 0x1A0090 = true) (hc : s.calState = 2) (dt : Nat) :
    ∃ t, exec (.calibrationPause dt) s = .next t ∧ t.calState = 3 ∧
      t.fget Fld.CIS_CAL_STS.INTERRUPTIONS = min (s.fget Fld.CIS_CAL_STS.INTERRUPTIONS + 1) 15 ∧
      t.cis = { s.cis with pauseFm := true, pausedAt := some (s.now + dt) } ∧
      t.on (Fld.PSQ_RAIL_STS.ENABLED (s.fget Fld.CIS_CFG.INPUT_RAIL)) = true ∧
      t = { s.elapse dt with regs := t.regs, cis := t.cis, out := t.out } ∧
      RegsBut [Fld.CIS_CAL_STS.STATE, Fld.CIS_CAL_STS.INTERRUPTIONS,
        Fld.PSQ_RAIL_STS.ENABLED (s.fget Fld.CIS_CFG.INPUT_RAIL)] s t := by
  have e := calibrationPause_pauses (s := s.elapse dt) (by simpa using hc)
  obtain ⟨hw, hst, hon, hregs⟩ := ((s.elapse dt).modCis (fun c => { c with pauseFm := true, pausedAt := some (s.elapse dt).now })).calShow
    (st := 3) true (s.elapse_fget dt _).symm (by decide)
  have hcis := hw.cis
  have hint := hregs Fld.CIS_CAL_STS.INTERRUPTIONS (by
    simp [Fld.CIS_CAL_STS.INTERRUPTIONS, Fld.CIS_CAL_STS.STATE, Fld.PSQ_RAIL_STS.ENABLED]
    omega)
  refine ⟨_, congrArg Host.Outcome.next ((State.viaReg_writable (by simpa using hf) _).trans e), ?_, ?_, ?_, ?_, ?_, ?_⟩
  · rw [State.calState, State.satUp, State.fsat, State.fget_fset_ne _ (by decide)]
    exact hst
  · rw [State.satUp, State.fsat, State.fget_fset_self, hint]
    simp only [State.modCis, State.fget, State.elapse_regs]
    exact Nat.mod_eq_of_lt (lt_of_le_of_lt (min_le_right _ _) (by decide))
  · refine Eq.trans hcis ?_
    simp [State.modCis]
  · rw [State.on, State.satUp, State.fsat, State.fget_fset_ne _ (by
      simp only [Fld.PSQ_RAIL_STS.ENABLED, Fld.CIS_CAL_STS.INTERRUPTIONS]; omega)]
    exact hon
  · rw [hw.frame]
    rfl
  · exact ((((RegsBut.refl _ (s.elapse dt)).modCis.trans hregs).mono (by simp +contextual)).fsat (by simp)).of_elapse

theorem exec_calibrationDischargeEnd {s : State} (hc : s.calState = 2)
    (hu : s.fget Fld.CIS_USABLE.USABLE_J ≤ 500 * s.fget Fld.CIS_CFG.CAL_RESERVE) (dt : Nat) :
    ∃ t, exec (.calibrationDischargeEnd dt) s = .next t ∧ t.calState = 4 ∧
      t.on (Fld.PSQ_RAIL_STS.ENABLED (s.fget Fld.CIS_CFG.INPUT_RAIL)) = true ∧
      t = { s.elapse dt with regs := t.regs, out := t.out } ∧
      RegsBut [Fld.CIS_CAL_STS.STATE, Fld.PSQ_RAIL_STS.ENABLED (s.fget Fld.CIS_CFG.INPUT_RAIL)] s t := by
  have e := calibrationDischargeEnd_ends (s := s.elapse dt) (by simpa using hc) (by simpa using hu)
  obtain ⟨hw, hst, hon, hregs⟩ := (s.elapse dt).calShow (st := 4) true (s.elapse_fget dt _).symm (by decide)
  refine ⟨_, congrArg Host.Outcome.next e, hst, hon, ?_, hregs.of_elapse⟩
  rw [hw.frame]
  rfl

theorem exec_calibrationAbort {s : State} (hf : s.fmWritable 0x1A0090 = true) (h1 : 1 ≤ s.calState) (h4 : s.calState ≤ 4)
    (dt : Nat) : ∃ t, exec (.calibrationAbort dt) s = .next t ∧ t.calState = 7 ∧ t.fget Fld.CIS_CAL_STS.REASON = 8 ∧
      t.fget Fld.CIS_EVT_CNT.LEARN_REJECT = min (s.fget Fld.CIS_EVT_CNT.LEARN_REJECT + 1) Fld.CIS_EVT_CNT.LEARN_REJECT.max ∧
      (s.calState = 2 → t.on (Fld.PSQ_RAIL_STS.ENABLED (s.fget Fld.CIS_CFG.INPUT_RAIL)) = true) ∧
      (∀ q, q < 4 → (t.pack q).inCal = false) ∧ t = { s.elapse dt with regs := t.regs, cis := t.cis, out := t.out } := by
  have hr : (s.elapse dt).calRuns = true := (State.calRuns_iff _).2 (by simp [h1, h4])
  obtain ⟨hst, hre, hrej, hpath, hpacks⟩ := State.calEnd_ended hr (st := 7) (reason := 8) (by decide) (by decide)
  have hframe := ((s.elapse dt).calEnd_work 7 8).frame
  simp only [State.elapse_fget, State.elapse_calState] at hrej hpath
  refine ⟨_, congrArg Host.Outcome.next (State.viaReg_writable (by simpa using hf) _), hst, hre, hrej, hpath, hpacks, ?_⟩
  exact ((CisWork.refl _).calEnd).frame

/-! ## Every pack is full (R94) -/

/-- A pack of the calibration whose current has stayed low for its time is full. -/
def State.fillPack (s : State) (p : Nat) : State :=
  let k := s.pack p
  let ok := match k.fullAt with | some t => decide (t + 60000000000 ≤ s.now) | none => false
  if k.inCal && !k.full && ok then
    (s.modPack p (fun k => { k with full := true, resid := 0 })).fset (Fld.CIS_PACK_EST.SOC p) 1000
  else s

/-- What the turn of another pack leaves of pack `p`. -/
structure SamePack (p : Nat) (s t : State) : Prop where
  pack : t.pack p = s.pack p
  now : t.now = s.now
  soc : t.fget (Fld.CIS_PACK_EST.SOC p) = s.fget (Fld.CIS_PACK_EST.SOC p)

theorem SamePack.trans {p : Nat} {s t u : State} (h : SamePack p s t) (k : SamePack p t u) : SamePack p s u :=
  ⟨k.pack.trans h.pack, k.now.trans h.now, k.soc.trans h.soc⟩

/-- The second state differs from the first in the fill of packs and their state of charge. -/
structure FillWork (s t : State) : Prop where
  frame : t = { s with regs := t.regs, cis := { s.cis with packs := t.cis.packs } }
  regs : RegsBut [Fld.CIS_PACK_EST.SOC 0, Fld.CIS_PACK_EST.SOC 1, Fld.CIS_PACK_EST.SOC 2, Fld.CIS_PACK_EST.SOC 3] s t

theorem State.fillPack_work (s : State) {p : Nat} (hp : p < 4) : FillWork s (s.fillPack p) := by
  unfold State.fillPack
  extract_lets k ok
  split
  · refine ⟨rfl, (RegsBut.refl _ s).modPack.fset ?_⟩
    have : p = 0 ∨ p = 1 ∨ p = 2 ∨ p = 3 := by omega
    rcases this with rfl | rfl | rfl | rfl <;> simp
  · exact ⟨rfl, .refl _ s⟩

theorem State.fillPack_other (s : State) {p q : Nat} (h : q ≠ p) : SamePack p s (s.fillPack q) := by
  unfold State.fillPack
  extract_lets k ok
  split
  · exact ⟨(State.pack_fset ..).trans (State.pack_modPack_ne s (Ne.symm h) _), rfl,
      State.fget_fset_ne _ (by simp only [Fld.CIS_PACK_EST.SOC]; omega) _⟩
  · exact ⟨rfl, rfl, rfl⟩

theorem State.fillPack_full {s : State} {p : Nat} (hc : (s.pack p).inCal = true)
    (hf : (s.pack p).full = false → ∃ u, (s.pack p).fullAt = some u ∧ u + 60000000000 ≤ s.now) :
    ((s.fillPack p).pack p).full = true ∧
    ((s.pack p).full = false → (s.fillPack p).fget (Fld.CIS_PACK_EST.SOC p) = 1000) := by
  cases h : (s.pack p).full with
  | true =>
    have e : s.fillPack p = s := if_neg (by simp [h])
    rw [e]
    exact ⟨h, fun h' => absurd h' (by decide)⟩
  | false =>
    obtain ⟨u, hu, hle⟩ := hf h
    have e : s.fillPack p = (s.modPack p (fun k => { k with full := true, resid := 0 })).fset (Fld.CIS_PACK_EST.SOC p) 1000 :=
      if_pos (by simp [hc, hu, hle, h])
    rw [e]
    exact ⟨by rw [State.pack_fset, State.pack_modPack_self], fun _ => State.fget_fset_self ..⟩

/-- The turn of every pack in the fill of a calibration. -/
def State.fillAll (s : State) : State := allPacks.foldl (fun s p => s.fillPack p) s

theorem State.fillAll_work (s : State) : FillWork s s.fillAll := by
  have hk : ∀ (l : List Nat), (∀ p ∈ l, p < 4) → ∀ u : State, FillWork u (l.foldl (fun s p => s.fillPack p) u) := fun l => by
    induction l with
    | nil => exact fun _ u => ⟨rfl, .refl _ u⟩
    | cons p l ih =>
      intro hl u
      obtain ⟨hf, hr⟩ := u.fillPack_work (hl p (by simp))
      obtain ⟨kf, kr⟩ := ih (fun q hq => hl q (by simp [hq])) (u.fillPack p)
      exact ⟨by rw [List.foldl_cons, kf, hf], hr.trans kr⟩
  exact hk allPacks (fun p => mem_allPacks.1) s

theorem State.fillAll_inCal (s : State) {p : Nat} (hp : p < 4) : (s.fillAll.pack p).inCal = (s.pack p).inCal := by
  obtain ⟨u, hu, hv⟩ := foldl_turn (K := SamePack p) (step := fun s p => s.fillPack p) (fun _ => ⟨rfl, rfl, rfl⟩) .trans
    (mem_allPacks.2 hp) nodup_allPacks (fun q _ hq b => b.fillPack_other hq) s
  have hi : ((u.fillPack p).pack p).inCal = (u.pack p).inCal := by
    unfold State.fillPack
    extract_lets k ok
    split
    · rw [State.pack_fset, State.pack_modPack_self]
    · rfl
  rw [State.fillAll, hv.pack, hi, hu.pack]

theorem State.fillAll_full {s : State} {p : Nat} (hp : p < 4) (hc : (s.pack p).inCal = true)
    (hf : (s.pack p).full = false → ∃ u, (s.pack p).fullAt = some u ∧ u + 60000000000 ≤ s.now) :
    (s.fillAll.pack p).full = true ∧ ((s.pack p).full = false → s.fillAll.fget (Fld.CIS_PACK_EST.SOC p) = 1000) := by
  obtain ⟨u, hu, hv⟩ := foldl_turn (K := SamePack p) (step := fun s p => s.fillPack p) (fun _ => ⟨rfl, rfl, rfl⟩) .trans
    (mem_allPacks.2 hp) nodup_allPacks (fun q _ hq b => b.fillPack_other hq) s
  rw [← hu.pack, ← hu.now] at hf
  obtain ⟨h1, h2⟩ := State.fillPack_full (s := u) (p := p) (by rwa [hu.pack]) hf
  rw [hu.pack] at h2
  rw [State.fillAll]
  exact ⟨by rw [hv.pack, h1], fun h => hv.soc.trans (h2 h)⟩

theorem calibrationFull_discharges {s : State} (hc : s.calState = 1)
    (hf : ∀ p, p < 4 → (s.pack p).inCal = true → (s.pack p).full = false →
      ∃ u, (s.pack p).fullAt = some u ∧ u + 60000000000 ≤ s.now) :
    calibrationFull s = ((s.fillAll.fset Fld.CIS_CAL_STS.STATE 2).inputPath false).chargeAll := by
  have hall : allPacks.all (fun p => !(s.fillAll.pack p).inCal || (s.fillAll.pack p).full) = true := by
    rw [List.all_eq_true]
    intro p hp
    have hp := mem_allPacks.1 hp
    rw [s.fillAll_inCal hp]
    cases hi : (s.pack p).inCal with
    | false => rfl
    | true => exact (State.fillAll_full hp hi (hf p hp hi)).1
  unfold calibrationFull
  rw [if_pos (by simp [hc])]
  exact if_pos hall

/-- The discharge of a calibration has begun: its state shows, the input path and the chargers are off. -/
structure DischargeBegun (s t : State) : Prop where
  state : t.calState = 2
  path : t.on (Fld.PSQ_RAIL_STS.ENABLED (s.fget Fld.CIS_CFG.INPUT_RAIL)) = false
  chargers : ∀ p, p < 4 → t.on (Fld.CIS_PACK_STS.CHARGING p) = false
  full : ∀ p, (t.pack p).full = (s.pack p).full
  soc : ∀ p, p < 4 → t.fget (Fld.CIS_PACK_EST.SOC p) = s.fget (Fld.CIS_PACK_EST.SOC p)
  frame : t = { s with regs := t.regs, cis := t.cis, out := t.out }

theorem State.discharge_begun (s : State) :
    DischargeBegun s ((s.fset Fld.CIS_CAL_STS.STATE 2).inputPath false).chargeAll := by
  have hrail : (s.fset Fld.CIS_CAL_STS.STATE 2).fget Fld.CIS_CFG.INPUT_RAIL = s.fget Fld.CIS_CFG.INPUT_RAIL :=
    State.fget_fset_ne _ (by decide) _
  have hw := (s.fset Fld.CIS_CAL_STS.STATE 2).inputPath_work false
  have hon := (s.fset Fld.CIS_CAL_STS.STATE 2).inputPath_on false
  rw [hrail] at hw hon
  have hst : ((s.fset Fld.CIS_CAL_STS.STATE 2).inputPath false).calState = 2 := (hw.fget (by decide)).trans (State.fget_fset_self ..)
  have hframe := ((((CisWork.refl s).fset (f := Fld.CIS_CAL_STS.STATE) (v := 2) (by decide)).inputPath (high := false)).chargeAll).frame
  generalize (s.fset Fld.CIS_CAL_STS.STATE 2).inputPath false = v at hw hon hst hframe ⊢
  have hc := v.chargeAll_work
  refine ⟨(hc.fget (by decide)).trans hst, ?_, fun p hp => State.chargeAll_held hp ?_, fun p => ?_, fun p hp => ?_, hframe⟩
  · rw [hc.enabled fun p => mem_allPacks.1]
    exact hon
  · simp [State.chgHeld, State.calRuns, hst]
  · rw [hc.packs p, hw.pack]
    rfl
  · have hb : ∀ p < 4, ∀ q ∈ allPacks, (Fld.CIS_PACK_EST.SOC p).bit ≠ (Fld.CIS_PACK_STS.CHARGING q).bit ∧
        (Fld.CIS_PACK_EST.SOC p).bit ≠ (Fld.CIS_PACK_STS.CHG_BLOCK q).bit := by decide
    rw [hc.fget (hb p hp), hw.fget (by simp only [Fld.CIS_PACK_EST.SOC]; omega),
      State.fget_fset_ne _ (by simp only [Fld.CIS_PACK_EST.SOC, Fld.CIS_CAL_STS.STATE]; omega)]

theorem exec_calibrationFull {s : State} (hc : s.calState = 1) (dt : Nat)
    (hf : ∀ p, p < 4 → (s.pack p).inCal = true → (s.pack p).full = false →
      ∃ u, (s.pack p).fullAt = some u ∧ u + 60000000000 ≤ s.now + dt) :
    ∃ t, exec (.calibrationFull dt) s = .next t ∧ t.calState = 2 ∧
      t.on (Fld.PSQ_RAIL_STS.ENABLED (s.fget Fld.CIS_CFG.INPUT_RAIL)) = false ∧
      (∀ p, p < 4 → (s.pack p).inCal = true → (t.pack p).full = true ∧
        ((s.pack p).full = false → t.fget (Fld.CIS_PACK_EST.SOC p) = 1000)) ∧
      (∀ p, p < 4 → t.on (Fld.CIS_PACK_STS.CHARGING p) = false) ∧
      t = { s.elapse dt with regs := t.regs, cis := t.cis, out := t.out } := by
  have e := calibrationFull_discharges (s := s.elapse dt) (by simpa using hc) (by simpa using hf)
  have hfill : ∀ p, p < 4 → (s.pack p).inCal = true → ((s.elapse dt).fillAll.pack p).full = true ∧
      ((s.pack p).full = false → (s.elapse dt).fillAll.fget (Fld.CIS_PACK_EST.SOC p) = 1000) := fun p hp hi => by
    simpa using State.fillAll_full (s := s.elapse dt) hp (by simpa using hi) (by simpa using hf p hp hi)
  obtain ⟨wf, wr⟩ := (s.elapse dt).fillAll_work
  generalize (s.elapse dt).fillAll = u at e wf wr hfill
  obtain ⟨hst, hpath, hch, hfull, hsoc, hframe⟩ := u.discharge_begun
  rw [wr _ (by decide), State.elapse_fget] at hpath
  refine ⟨_, congrArg Host.Outcome.next e, hst, hpath, fun p hp hi => ?_, hch, ?_⟩
  · obtain ⟨h1, h2⟩ := hfill p hp hi
    exact ⟨(hfull p).trans h1, fun h => (hsoc p hp).trans (h2 h)⟩
  · rw [hframe, wf]

/-! ## Light pulses (R97) -/

theorem lightPulse_begins {s : State} {p : Nat} (hp : p < 4) (hc : s.on (Fld.CIS_PACK_STS.CHARGING p) = true) (hi : (s.pack p).cur < 0)
    (hb : belowC (s.pack p).cur (s.pack p).q (s.fget (Fld.CIS_PACK_CFG.SHUNT_UOHM p)) 10 = false)
    (hd : ∀ u, (s.pack p).pulseAt = some u → u + 3600000000000 ≤ s.now) :
    lightPulse p s = (s.modPack p (fun k => { k with pulse := some s.now, pulseAt := some s.now })).charge p := by
  cases h : (s.pack p).pulseAt with
  | none => exact if_pos (by simp [hp, hc, hi, hb, h])
  | some u => exact if_pos (by simp [hp, hc, hi, hb, h, hd u h])

/-- A charger that is on and is held off goes off, and its duty with it (R104, R105). -/
theorem State.charge_stops {s : State} {p : Nat} (hc : s.on (Fld.CIS_PACK_STS.CHARGING p) = true) (h : s.chgHeld p = true) :
    (s.charge p).out = s.out ++ [.pin (.chgEn p) false, .chgLim p 0] := by
  unfold State.charge
  extract_lets soc top s₁ b
  have hp : (s₁.pack p).pulse = (s.pack p).pulse := by rw [State.pack_modPack_self]
  have h₁ : s₁.chgHeld p = true := by
    unfold State.chgHeld at h ⊢
    rw [hp]
    exact h
  have hb : (b == 0) = false := State.chgBlock_held h₁
  have hon : (s₁.fset (Fld.CIS_PACK_STS.CHG_BLOCK p) b).on (Fld.CIS_PACK_STS.CHARGING p) = true := by
    rw [State.on, State.fget_fset_ne _ (by simp only [Fld.CIS_PACK_STS.CHARGING, Fld.CIS_PACK_STS.CHG_BLOCK]; omega)]
    exact hc
  have hoff : ((s₁.fset (Fld.CIS_PACK_STS.CHG_BLOCK p) b).fput (Fld.CIS_PACK_STS.CHARGING p) false).on (Fld.CIS_PACK_STS.CHARGING p)
      = false := congrArg (· == 1) (State.fget_fset_self _ (Fld.CIS_PACK_STS.CHARGING p) 0)
  rw [hb, State.driveChg, if_neg (by simp [hon]), State.driveLim, State.emit_out, State.emit_out]
  have hlim : ∀ o n, (if (((s₁.fset (Fld.CIS_PACK_STS.CHG_BLOCK p) b).fput (Fld.CIS_PACK_STS.CHARGING p) false).emit o).on
      (Fld.CIS_PACK_STS.CHARGING p) then n else 0) = 0 := fun o n => if_neg (by simpa [State.on] using hoff)
  rw [hlim, List.append_assoc]
  rfl

theorem exec_lightPulse {s : State} {dt p : Nat} (hp : p < 4) (hc : s.on (Fld.CIS_PACK_STS.CHARGING p) = true)
    (hi : (s.pack p).cur < 0)
    (hb : belowC (s.pack p).cur (s.pack p).q (s.fget (Fld.CIS_PACK_CFG.SHUNT_UOHM p)) 10 = false)
    (hd : ∀ u, (s.pack p).pulseAt = some u → u + 3600000000000 ≤ s.now + dt) :
    ∃ t, exec (.lightPulse dt p) s = .next t ∧ (t.pack p).pulse = some (s.now + dt) ∧
      (t.pack p).pulseAt = some (s.now + dt) ∧ t.on (Fld.CIS_PACK_STS.CHARGING p) = false ∧
      t.out = (s.elapse dt).out ++ [.pin (.chgEn p) false, .chgLim p 0] ∧ (∀ q, q ≠ p → t.pack q = s.pack q) ∧
      t = { s.elapse dt with regs := t.regs, cis := t.cis, out := t.out } ∧
      RegsBut [Fld.CIS_PACK_STS.CHARGING p, Fld.CIS_PACK_STS.CHG_BLOCK p] s t := by
  have e := lightPulse_begins (s := s.elapse dt) hp (by simpa using hc) (by simpa using hi) (by simpa using hb) (by simpa using hd)
  generalize hu : (s.elapse dt).modPack p
    (fun k => { k with pulse := some (s.elapse dt).now, pulseAt := some (s.elapse dt).now }) = u at e
  have hw := u.charge_work p
  have hpack : u.pack p = { s.pack p with pulse := some (s.now + dt), pulseAt := some (s.now + dt) } := by
    rw [← hu, State.pack_modPack_self]
    simp
  have hheld : u.chgHeld p = true := by simp [State.chgHeld, hpack]
  have hcu : u.on (Fld.CIS_PACK_STS.CHARGING p) = true := by
    rw [← hu]
    exact (s.elapse_on dt _).trans hc
  refine ⟨_, congrArg Host.Outcome.next e, ?_, ?_, State.charge_held hheld, ?_, fun q hq => ?_, ?_, ?_⟩
  · rw [hw.packs p, hpack]
  · rw [hw.packs p, hpack]
  · rw [State.charge_stops hcu hheld, ← hu]
    rfl
  · rw [hw.others q (by simpa using hq), ← hu, State.pack_modPack_ne _ hq, State.elapse_pack]
  · rw [hw.frame, ← hu]
    rfl
  · rw [← hu] at hw ⊢
    exact ((RegsBut.refl _ (s.elapse dt)).modPack.trans hw.regs).of_elapse

theorem nearest_lt (x : Int) {l : List Int} (h : 0 < l.length) : nearest x l < l.length := by
  have hk : ∀ (m : List Nat), (∀ i ∈ m, i < l.length) → ∀ b < l.length, m.foldl (fun b i =>
      if (l.getD i 0 - x).natAbs < (l.getD b 0 - x).natAbs then i else b) b < l.length := fun m => by
    induction m with
    | nil => exact fun _ b hb => hb
    | cons i m ih =>
      intro hm b hb
      refine ih (fun j hj => hm j (by simp [hj])) _ ?_
      beta_reduce
      split
      · exact hm i (by simp)
      · exact hb
  exact hk _ (fun i => List.mem_range.1) 0 h

/-- The entry that a light pulse of a pack measures (R97). -/
def State.pulseEntry (s : State) (p : Nat) : Nat :=
  8 * nearest (s.packTemp p) zTemps + nearest (s.fget (Fld.CIS_PACK_EST.SOC p)) (zSocs.map (fun (n : Nat) => (n : Int)))

theorem State.pulseEntry_lt (s : State) (p : Nat) : s.pulseEntry p < 40 := by
  have h1 : nearest (s.packTemp p) zTemps < 5 := nearest_lt _ (by decide)
  have h2 : nearest (s.fget (Fld.CIS_PACK_EST.SOC p)) (zSocs.map (fun (n : Nat) => (n : Int))) < 8 := nearest_lt _ (by decide)
  unfold State.pulseEntry
  omega

theorem lightPulseEnd_measures {s : State} {p u : Nat} {dv di : Int} (hk : (s.pack p).pulse = some u) (hu : u + 10000000 ≤ s.now)
    (hd : di ≠ 0) : lightPulseEnd p dv di s = (((s.setZ p (s.pulseEntry p) ((s.zEntry p (s.pulseEntry p) : Int) +
      (dv * 100000 / di - s.zEntry p (s.pulseEntry p)) / 4).toNat).modPack p (fun k => { k with pulse := none })).zChanged p).charge p := by
  unfold lightPulseEnd
  rw [hk]
  simp only [if_pos hu, if_neg hd]
  rfl

/-- Entry `i` of a pack's impedance table takes a value measured in a light pulse, which is over. -/
def State.pulseDone (s : State) (p i x : Nat) : State :=
  (((s.setZ p i x).modPack p (fun k => { k with pulse := none })).zChanged p).charge p

theorem State.pulseDone_spec (s : State) {p i : Nat} (hp : p < 4) (hi : i < 40) (x : Nat) :
    ((s.pulseDone p i x).pack p).pulse = none ∧ (s.pulseDone p i x).zEntry p i = min x 65535 ∧
    (∀ q j, j < 40 → (q ≠ p ∨ j ≠ i) → (s.pulseDone p i x).zEntry q j = s.zEntry q j) ∧
    (∀ q, q ≠ p → (s.pulseDone p i x).pack q = s.pack q) ∧ CisDue s (s.pulseDone p i x) := by
  unfold State.pulseDone
  have hr := (RecWork.refl p ((s.setZ p i x).modPack p (fun k => { k with pulse := none }))).zChanged
  have hc := (((s.setZ p i x).modPack p (fun k => { k with pulse := none })).zChanged p).charge_work p
  have hz := fun q j => (hc.zEntry (fun r hr => by rw [List.mem_singleton.1 hr]; exact hp) q j).trans (hr.zEntry q j)
  simp only [State.zEntry_modPack] at hz
  refine ⟨?_, ?_, fun q j hj hne => ?_, fun q hq => ?_, ?_⟩
  · rw [hc.packs p, hr.pack, State.pack_modPack_self]
  · rw [hz, State.zEntry_setZ_self]
  · rw [hz, State.zEntry_setZ_ne _ hi hj hne]
  · rw [hc.others q (by simpa using hq), hr.others q hq, State.pack_modPack_ne _ hq, State.pack_setZ]
  · have h1 : CisDue s (s.setZ p i x) := by
      rw [State.setZ_eq]
      exact (CisDue.refl s).fset
    exact (h1.modPack.recWork hr).chargeWork hc

theorem exec_lightPulseEnd {s : State} {dt p u : Nat} {dv di : Int} (hp : p < 4) (hk : (s.pack p).pulse = some u)
    (hu : u + 10000000 ≤ s.now + dt) (hd : di ≠ 0) :
    ∃ t i, exec (.lightPulseEnd dt p dv di) s = .next t ∧ (t.pack p).pulse = none ∧
      i = 8 * nearest (s.packTemp p) zTemps + nearest (s.fget (Fld.CIS_PACK_EST.SOC p)) (zSocs.map (fun (n : Nat) => (n : Int))) ∧
      t.zEntry p i = min ((s.zEntry p i : Int) + (dv * 100000 / di - s.zEntry p i) / 4).toNat 65535 ∧
      (∀ q j, q < 4 → j < 40 → (q ≠ p ∨ j ≠ i) → t.zEntry q j = s.zEntry q j) ∧
      (∀ q, q ≠ p → t.pack q = s.pack q) ∧
      t = { s.elapse dt with regs := t.regs, cis := t.cis, out := t.out, cfgDue := t.cfgDue } := by
  have e := lightPulseEnd_measures (s := s.elapse dt) (dv := dv) (by simpa using hk) (by simpa using hu) hd
  have hi : (s.elapse dt).pulseEntry p = s.pulseEntry p := by simp [State.pulseEntry]
  simp only [hi, State.elapse_zEntry] at e
  obtain ⟨hpulse, hz, hzs, hpacks, hframe⟩ := (s.elapse dt).pulseDone_spec hp (s.pulseEntry_lt p)
    ((s.zEntry p (s.pulseEntry p) : Int) + (dv * 100000 / di - s.zEntry p (s.pulseEntry p)) / 4).toNat
  exact ⟨_, s.pulseEntry p, congrArg Host.Outcome.next e, hpulse, rfl, hz,
    fun q j _ hj hne => (hzs q j hj hne).trans (s.elapse_zEntry ..), fun q hq => (hpacks q hq).trans (s.elapse_pack ..), hframe⟩

end Machine

/-- Settles O10: each command is run once (`exec_calibrationGo_start` and what follows it), the chargers and the input path through
`ChargeWork` and `PathWork`. -/
theorem calibrationsAndLightPulses : Obligations.CalibrationsAndLightPulses := by
  unfold Obligations.CalibrationsAndLightPulses
  exact ⟨fun s dt p hf hp hc hw hr hd => exec_calibrationGo_start hf hp hc hw hr hd dt,
    fun s dt p hf hc hp _ => exec_calibrationGo_resume hf hc hp dt p,
    fun s dt hf hc _ => exec_calibrationPause hf hc dt,
    fun s dt hf h1 h4 _ => exec_calibrationAbort hf h1 h4 dt,
    fun s dt hc _ hf => exec_calibrationFull hc dt hf,
    fun s dt hc _ hu => exec_calibrationDischargeEnd hc hu dt,
    fun s dt p hp hc hi hb hd => exec_lightPulse hp hc hi hb hd,
    fun s dt p u dv di hp hk hu hd => exec_lightPulseEnd hp hk hu hd⟩

end Sys2Proof

/-! # The rehearsal (O11) -/

namespace Sys2Proof
open Machine

namespace Machine

/-! ## It is asked for, starts and takes its load (R98) -/

theorem rehearsalGo_asks {s : State} (h : s.rehearsing = false) : rehearsalGo s =
    if s.rehOk then s.modCis (fun c => { c with rehReq := true, rehRetry := none })
    else (s.modCis (fun c => { c with rehReq := true, rehRetry := none })).rehFail := if_neg (by simp [h])

theorem exec_rehearsalGo {s : State} (hf : s.fmWritable 0x1A0098 = true) (h : s.rehearsing = false) (dt : Nat) :
    (s.rehOk = true → exec (.rehearsalGo dt) s = .next { s.elapse dt with
      cis := { s.cis with rehReq := true, rehRetry := none } }) ∧
    (s.rehOk = false → exec (.rehearsalGo dt) s = .next (({ s.elapse dt with
      cis := { s.cis with rehReq := true, rehRetry := some (s.now + dt), rehFrom := none } } : State).fset
        Fld.CIS_REH_STS.RESULT 4)) := by
  have e : exec (.rehearsalGo dt) s = .next (rehearsalGo (s.elapse dt)) :=
    congrArg Host.Outcome.next (State.viaReg_writable (by simpa using hf) _)
  rw [rehearsalGo_asks (by simpa using h), State.elapse_rehOk] at e
  refine ⟨fun ho => ?_, fun ho => ?_⟩
  · rw [e, if_pos ho, State.modCis, State.elapse_cis]
  · rw [e, if_neg (by simp [ho])]
    simp only [State.rehFail, State.modCis, State.elapse_cis, State.elapse_now]

/-- The state in which a rehearsal has noted the packs' voltages and currents. -/
def State.rehNote (s : State) : State := allPacks.foldl (fun s p => s.modPack p (fun k => { k with
  v0 := s.fget (Fld.CIS_PACK_STS.VOLT_MV p), i0 := ofField 16 (s.fget (Fld.CIS_PACK_STS.CURRENT p)) * 10 })) s

theorem State.rehNote_spec (s : State) : s.rehNote = { s with cis := { s.cis with packs := s.rehNote.cis.packs } } ∧
    ∀ p, p < 4 → (s.rehNote.pack p).v0 = s.fget (Fld.CIS_PACK_STS.VOLT_MV p) := by
  obtain ⟨hframe, hpack⟩ := State.foldl_modPack (s := s) (l := allPacks)
    (step := fun s p => s.modPack p (fun k => { k with
      v0 := s.fget (Fld.CIS_PACK_STS.VOLT_MV p), i0 := ofField 16 (s.fget (Fld.CIS_PACK_STS.CURRENT p)) * 10 }))
    (g := fun p k => { k with
      v0 := s.fget (Fld.CIS_PACK_STS.VOLT_MV p), i0 := ofField 16 (s.fget (Fld.CIS_PACK_STS.CURRENT p)) * 10 })
    (fun u hu p => by simp only [State.fget, hu]) nodup_allPacks
  refine ⟨hframe, fun p hp => ?_⟩
  rw [State.rehNote, hpack, if_pos (mem_allPacks.2 hp)]

theorem rehearsalStart_starts {s : State} {b : Nat} (hb : s.cis.rehFrom = some b) (hr : s.rehearsing = false) (hc : b + 1 ≤ s.curBeat)
    (ho : s.rehOk = true) : rehearsalStart s =
    ((s.rehNote.modCis (fun c => { c with rehAt := some s.now, rehLoad := false })).inputPath false).chargeAll := by
  have hn : s.rehNote.now = s.now := by rw [s.rehNote_spec.1]
  unfold rehearsalStart
  rw [hb]
  dsimp only
  rw [if_neg (by simp [hr]; omega), if_neg (by simp [ho]), ← hn]
  rfl

theorem exec_rehearsalStart {s : State} {dt b : Nat} (hb : s.cis.rehFrom = some b) (hr : s.rehearsing = false)
    (hc : b + 1 ≤ (s.elapse dt).curBeat) (ho : s.rehOk = true) :
    ∃ t, exec (.rehearsalStart dt) s = .next t ∧ t.cis.rehAt = some (s.now + dt) ∧ t.cis.rehLoad = false ∧
      t.rehearsing = true ∧ t.on (Fld.PSQ_RAIL_STS.ENABLED (s.fget Fld.CIS_CFG.INPUT_RAIL)) = false ∧
      (∀ p, p < 4 → t.on (Fld.CIS_PACK_STS.CHARGING p) = false ∧ (t.pack p).v0 = s.fget (Fld.CIS_PACK_STS.VOLT_MV p)) ∧
      t = { s.elapse dt with regs := t.regs, cis := t.cis, out := t.out } := by
  have e := rehearsalStart_starts (s := s.elapse dt) (by simpa using hb) (by simpa using hr) hc (by simpa using ho)
  obtain ⟨hn, hv0⟩ := (s.elapse dt).rehNote_spec
  simp only [State.elapse_fget, State.elapse_now] at hv0 e
  generalize (s.elapse dt).rehNote = u at e hn hv0
  have hrail : u.fget Fld.CIS_CFG.INPUT_RAIL = s.fget Fld.CIS_CFG.INPUT_RAIL := by
    rw [← s.elapse_fget dt, hn]
    rfl
  have hw := (u.modCis (fun c => { c with rehAt := some (s.now + dt), rehLoad := false })).inputPath_work false
  have hon := (u.modCis (fun c => { c with rehAt := some (s.now + dt), rehLoad := false })).inputPath_on false
  have hframe := (((CisWork.refl u).modCis (f := fun c => { c with rehAt := some (s.now + dt), rehLoad := false })).inputPath
    (high := false)).chargeAll.frame
  have hcis := hw.cis
  have hpack := hw.pack
  generalize (u.modCis (fun c => { c with rehAt := some (s.now + dt), rehLoad := false })).inputPath false = v at *
  have hg := v.chargeAll_work
  have hat : v.cis.rehAt = some (s.now + dt) := congrArg CisState.rehAt hcis
  have hheld : ∀ p, v.chgHeld p = true := fun p => by simp [State.chgHeld, State.rehearsing, hat]
  have htat : v.chargeAll.cis.rehAt = some (s.now + dt) := by rw [hg.cis]; exact hat
  refine ⟨_, congrArg Host.Outcome.next e, htat, ?_, by simp [State.rehearsing, htat], ?_, fun p hp => ⟨?_, ?_⟩, ?_⟩
  · rw [hg.cis]
    exact congrArg CisState.rehLoad hcis
  · rw [hg.enabled fun p => mem_allPacks.1, ← hrail]
    exact hon
  · exact State.chargeAll_held hp (hheld p)
  · rw [hg.packs p, hpack]
    exact hv0 p hp
  · rw [hframe, hn]

theorem exec_rehearsalLoad {s : State} {u : Nat} (h : s.cis.rehAt = some u) (hu : u + 8192 ≤ s.now) :
    (s.cis.rehLoad = false →
      exec .rehearsalLoad s = .next { s with cis := { s.cis with rehLoad := true }, out := s.out ++ [.spillLoad true] }) ∧
    (s.cis.rehLoad = true → exec .rehearsalLoad s = .next s) := by
  have e : rehearsalLoad s = if u + beatNs ≤ s.now && !s.cis.rehLoad then
      (s.modCis (fun c => { c with rehLoad := true })).emit (.spillLoad true) else s := by
    unfold rehearsalLoad
    rw [h]
  refine ⟨fun hl => congrArg Host.Outcome.next (e.trans (if_pos ?_)), fun hl => congrArg Host.Outcome.next (e.trans (if_neg ?_))⟩
  · simp [hl, beatNs, hu]
  · simp [hl]

/-! ## It ends (R99) -/

theorem rehearsalEnd_ends {s : State} {u : Nat} (h : s.cis.rehAt = some u) (hu : u + 2000000000 ≤ s.now) (w : Nat) (mv ma : List Int) :
    rehearsalEnd w mv ma s = (s.rehStop.modCis (fun c => { c with rehRetry := none, rehEnd := some (w, mv, ma) })).rehPath := by
  unfold rehearsalEnd
  rw [h]
  exact if_pos hu

theorem exec_rehearsalEnd {s : State} {dt u : Nat} (h : s.cis.rehAt = some u) (hu : u + 2000000000 ≤ s.now + dt) (w : Nat)
    (mv ma : List Int) : ∃ t, exec (.rehearsalEnd dt w mv ma) s = .next t ∧
      t.cis = { s.cis with
        rehAt := none, rehLoad := false, rehFrom := none, rehReq := false, rehRetry := none, rehEnd := some (w, mv, ma) } ∧
      t.on (Fld.PSQ_RAIL_STS.ENABLED (s.fget Fld.CIS_CFG.INPUT_RAIL)) = true ∧
      (s.cis.rehLoad = true → Out.spillLoad false ∈ t.out) ∧
      t = { s.elapse dt with
        regs := t.regs, cis := t.cis, out := t.out, rill := t.rill, log := t.log, freeCtr := t.freeCtr } ∧
      (s.log.stripes = [] → t.rill = s.rill ∧ t.log = s.log ∧
        RegsBut [Fld.PSQ_RAIL_STS.ENABLED (s.fget Fld.CIS_CFG.INPUT_RAIL)] s t) := by
  have e := rehearsalEnd_ends (s := s.elapse dt) (by simpa using h) (by simpa using hu) w mv ma
  obtain ⟨hstop, hcis, hload⟩ := (s.elapse dt).rehStop_spec
  rw [State.elapse_cis] at hcis hload
  generalize (s.elapse dt).rehStop = v at e hstop hcis hload
  have hregs : v.regs = s.regs := by rw [hstop, State.elapse_regs]
  have hrail : (v.modCis (fun c => { c with rehRetry := none, rehEnd := some (w, mv, ma) })).fget Fld.CIS_CFG.INPUT_RAIL =
      s.fget Fld.CIS_CFG.INPUT_RAIL := congrArg (tabGet Fld.CIS_CFG.INPUT_RAIL.reset Fld.CIS_CFG.INPUT_RAIL.bit) hregs
  obtain ⟨hframe, hpath, houts, -, hquiet⟩ :=
    (v.modCis (fun c => { c with rehRetry := none, rehEnd := some (w, mv, ma) })).rehPath_restored
  rw [hrail] at hpath hquiet
  refine ⟨_, congrArg Host.Outcome.next e, ?_, hpath, fun hl => houts _ (hload hl), ?_, fun hs => ?_⟩
  · rw [hframe, State.modCis, hcis]
  · rw [hframe]
    simp only [State.modCis]
    rw [hstop]
  · have hlog : v.log = s.log := by rw [hstop, State.elapse_log]
    have hrill : v.rill = s.rill := by rw [hstop, State.elapse_rill]
    obtain ⟨h1, h2, h3⟩ := hquiet (by rw [← hs, ← hlog]; rfl)
    exact ⟨h1.trans hrill, h2.trans hlog, ((RegsBut.refl _ s).same (u := v.modCis _) hregs).trans h3⟩

/-! ## A sample below the cut-off ends it (R99) -/

/-- The packs whose sample lies below their cut-off voltage with 5 % to spare. -/
def State.sagging (s : State) (mv : List Int) : List Nat := s.countedPacks.filter (fun p =>
  match mv[p]? with
  | some v => decide (v * 100 < ((s.fget (Fld.CIS_PACK_CFG.CELLS p) * s.fget (Fld.CIS_PACK_CFG.V_CUT_MV p) * 105 : Nat) : Int))
  | none => false)

/-- A pack that sags shows and reports it. -/
def State.sag (s : State) (p : Nat) : State := (s.fset (Fld.CIS_PACK_EST.LOAD_F p) 255).fault (srcOf 78 7) 0x48 p

theorem rehearsalSample_eq (s : State) (mv : List Int) : rehearsalSample mv s =
    if s.cis.rehAt.isSome then
      if (s.sagging mv).isEmpty then s
      else s.countedPacks.foldl (fun s p => s.recWrite p) ((s.sagging mv).foldl (fun s p => s.sag p) (s.rehAbort 2 true))
    else s := by
  unfold rehearsalSample State.sagging
  rfl

theorem State.mem_countedPacks {s : State} {p : Nat} : p ∈ s.countedPacks ↔ p < 4 ∧ s.counted p = true := by
  rw [State.countedPacks, List.mem_filter, mem_allPacks]

theorem State.mem_sagging {s : State} {mv : List Int} {p : Nat} : p ∈ s.sagging mv ↔ (p < 4 ∧ s.counted p = true) ∧
    ∃ v, mv[p]? = some v ∧
      v * 100 < ((s.fget (Fld.CIS_PACK_CFG.CELLS p) * s.fget (Fld.CIS_PACK_CFG.V_CUT_MV p) * 105 : Nat) : Int) := by
  rw [State.sagging, List.mem_filter, State.mem_countedPacks]
  cases mv[p]? <;> simp

/-- The second state differs from the first in what packs that sag show and report. -/
structure SagWork (s t : State) : Prop where
  frame : t = { s with regs := t.regs, flt := t.flt }
  regs : RegsBut ([Fld.CIS_PACK_EST.LOAD_F 0, Fld.CIS_PACK_EST.LOAD_F 1, Fld.CIS_PACK_EST.LOAD_F 2, Fld.CIS_PACK_EST.LOAD_F 3] ++
    FaultRegs (srcOf 78 7)) s t
  holds : ∀ e ∈ s.flt.hold, e ∈ t.flt.hold

theorem State.sag_work (s : State) {p : Nat} (hp : p < 4) : SagWork s (s.sag p) := by
  have hmem : ∀ p < 4, Fld.CIS_PACK_EST.LOAD_F p ∈ [Fld.CIS_PACK_EST.LOAD_F 0, Fld.CIS_PACK_EST.LOAD_F 1,
    Fld.CIS_PACK_EST.LOAD_F 2, Fld.CIS_PACK_EST.LOAD_F 3] := by decide
  refine ⟨?_, ?_, fun e he => State.fault_keeps _ _ _ _ _ he⟩
  · rw [State.sag, State.fault_frame]
    rfl
  · exact ((RegsBut.refl _ s).fset (List.mem_append_left _ (hmem p hp))).fault (fun f hf => List.mem_append_right _ hf)

theorem State.sags_work {l : List Nat} (hl : ∀ p ∈ l, p < 4) (s : State) : SagWork s (l.foldl (fun s p => s.sag p) s) := by
  induction l generalizing s with
  | nil => exact ⟨rfl, .refl _ s, fun _ h => h⟩
  | cons p l ih =>
    obtain ⟨hf, hr, hh⟩ := s.sag_work (hl p (by simp))
    obtain ⟨kf, kr, kh⟩ := ih (fun q hq => hl q (by simp [hq])) (s.sag p)
    exact ⟨by rw [List.foldl_cons, kf, hf], hr.trans kr, fun e he => kh e (hh e he)⟩

/-- The first pack that sags is in the holding register, where that stood empty. -/
theorem State.sags_report {l : List Nat} (hl : ∀ p ∈ l, p < 4) (hne : l ≠ []) (s : State) :
    Reports (srcOf 78 7) 0x48 s (l.foldl (fun s p => s.sag p) s) := by
  cases l with
  | nil => exact absurd rfl hne
  | cons p l =>
    have h : Reports (srcOf 78 7) 0x48 s (s.sag p) :=
      Reports.of_flt (s := s.fset (Fld.CIS_PACK_EST.LOAD_F p) 255) (State.fault_reports _ _ _ _ _ (by decide)) rfl
    exact h.mono (State.sags_work (fun q hq => hl q (by simp [hq])) (s.sag p)).holds

theorem State.sags_load {l : List Nat} (hl : ∀ p ∈ l, p < 4) (hd : l.Nodup) {p : Nat} (hp : p ∈ l) (s : State) :
    (l.foldl (fun s p => s.sag p) s).fget (Fld.CIS_PACK_EST.LOAD_F p) = 255 := by
  have hf : ∀ q < 4, (Fld.CIS_PACK_EST.LOAD_F q).bit ∉ (FaultRegs (srcOf 78 7)).map Field.bit := by decide
  have hk : ∀ q ∈ l, q ≠ p → ∀ u : State, (u.sag q).fget (Fld.CIS_PACK_EST.LOAD_F p) = u.fget (Fld.CIS_PACK_EST.LOAD_F p) := by
    intro q hq hne u
    rw [State.sag, State.fault_regsBut _ _ _ _ _ _ (hf p (hl p hp)), State.fget_fset_ne _ (by
      simp only [Fld.CIS_PACK_EST.LOAD_F]; omega)]
  obtain ⟨u, -, hv⟩ := foldl_turn
    (K := fun a b : State => b.fget (Fld.CIS_PACK_EST.LOAD_F p) = a.fget (Fld.CIS_PACK_EST.LOAD_F p))
    (fun _ => rfl) (fun h k => k.trans h) hp hd hk s
  rw [hv, State.sag, State.fault_regsBut _ _ _ _ _ _ (hf p (hl p hp)), State.fget_fset_self]
  rfl

/-- The second state differs from the first in the packs' records and what is due to be written. -/
def RecsWork (s t : State) : Prop := t = { s with cis := { s.cis with packs := t.cis.packs }, cfgDue := t.cfgDue }

theorem State.recWrite_due (s : State) (p : Nat) : (s.recWrite p).cfgDue = some (s.cfgDue.getD s.now) := rfl

theorem State.recWrites_work (l : List Nat) (s : State) : RecsWork s (l.foldl (fun s p => s.recWrite p) s) := by
  induction l generalizing s with
  | nil => exact Eq.refl s
  | cons p l ih =>
    have h := (RecWork.refl p s).recWrite.frame
    have k := ih (s.recWrite p)
    unfold RecsWork at *
    rw [List.foldl_cons, k, h]

/-- A write of the records is due since the first time that one was. -/
theorem State.recWrites_due {l : List Nat} (h : l ≠ []) (s : State) :
    (l.foldl (fun s p => s.recWrite p) s).cfgDue = some (s.cfgDue.getD s.now) := by
  have hk : ∀ (m : List Nat) (u : State) (x : Nat), u.cfgDue = some x → (m.foldl (fun s p => s.recWrite p) u).cfgDue = some x :=
    fun m => by
      induction m with
      | nil => exact fun _ _ h => h
      | cons p m ih => exact fun u x hx => ih (u.recWrite p) x (by rw [State.recWrite_due, hx, Option.getD_some])
  cases l with
  | nil => exact absurd rfl h
  | cons p l => rw [List.foldl_cons, hk l _ _ (s.recWrite_due p)]

theorem exec_rehearsalSample_sags {s : State} {dt u p : Nat} {mv : List Int} {v : Int} (h : s.cis.rehAt = some u) (hp : p < 4)
    (hc : s.counted p = true) (hv : mv[p]? = some v)
    (hl : v * 100 < ((s.fget (Fld.CIS_PACK_CFG.CELLS p) * s.fget (Fld.CIS_PACK_CFG.V_CUT_MV p) * 105 : Nat) : Int)) (ma : List Int) :
    ∃ t, exec (.rehearsalSample dt mv ma) s = .next t ∧ t.cis.rehAt = none ∧ t.cis.rehReq = false ∧
      t.fget Fld.CIS_REH_STS.RESULT = 2 ∧ t.fget (Fld.CIS_PACK_EST.LOAD_F p) = 255 ∧
      Reports (srcOf 78 7) 0x48 s t ∧ (s.cis.rehLoad = true → Out.spillLoad false ∈ t.out) ∧
      t.cfgDue = some (s.cfgDue.getD (s.now + dt)) ∧
      t = { s.elapse dt with
        regs := t.regs, cis := t.cis, cfgDue := t.cfgDue, flt := t.flt, out := t.out, rill := t.rill, log := t.log
        freeCtr := t.freeCtr } := by
  have hsag : p ∈ (s.elapse dt).sagging mv := State.mem_sagging.2 ⟨⟨hp, by simpa using hc⟩, v, hv, by simpa using hl⟩
  have hlt : ∀ q ∈ (s.elapse dt).sagging mv, q < 4 := fun q hq => (State.mem_sagging.1 hq).1.1
  have hnd : ((s.elapse dt).sagging mv).Nodup := (nodup_allPacks.filter _).filter _
  have hne : (s.elapse dt).countedPacks ≠ [] := List.ne_nil_of_mem (List.mem_filter.1 hsag).1
  have e := rehearsalSample_eq (s.elapse dt) mv
  rw [if_pos (by simp [h]), if_neg (by simpa using List.ne_nil_of_mem hsag)] at e
  obtain ⟨aframe, acis, ares, aload, -⟩ := State.rehAbort_aborted (s := s.elapse dt) (by simp [h]) (result := 2) (by decide)
  rw [State.elapse_cis] at acis aload
  generalize (s.elapse dt).rehAbort 2 true = b at e aframe acis ares aload
  obtain ⟨sframe, sregs, -⟩ := State.sags_work hlt b
  have hrep := State.sags_report hlt (List.ne_nil_of_mem hsag) b
  have hload := State.sags_load hlt hnd hsag b
  generalize ((s.elapse dt).sagging mv).foldl (fun s p => s.sag p) b = c at e sframe sregs hrep hload
  have rframe := State.recWrites_work (s.elapse dt).countedPacks c
  have hdue := State.recWrites_due hne c
  generalize (s.elapse dt).countedPacks.foldl (fun s p => s.recWrite p) c = t at e rframe hdue
  unfold RecsWork at rframe
  have hcis : c.cis = b.cis := by rw [sframe]
  have hregs : ∀ f, t.fget f = c.fget f := fun f => by rw [rframe]; rfl
  have hbf : b.flt = s.flt := by rw [aframe, State.elapse_flt]
  refine ⟨t, congrArg Host.Outcome.next e, ?_, ?_, ?_, ?_, ?_, fun hl => ?_, ?_, ?_⟩
  · rw [rframe, hcis, acis]
  · rw [rframe, hcis, acis]
  · rw [hregs, sregs _ (by decide), ares]
  · rw [hregs, hload]
  · exact (hrep.of_flt hbf).mono fun x hx => by rw [rframe]; exact hx
  · rw [rframe, sframe]
    exact aload hl
  · rw [hdue, sframe, aframe, State.elapse_cfgDue, State.elapse_now]
  · rw [rframe, sframe, aframe]

theorem exec_rehearsalSample_holds {s : State} {mv : List Int} (h : ∀ p v, p < 4 → s.counted p = true → mv[p]? = some v →
      ((s.fget (Fld.CIS_PACK_CFG.CELLS p) * s.fget (Fld.CIS_PACK_CFG.V_CUT_MV p) * 105 : Nat) : Int) ≤ v * 100) (dt : Nat)
    (ma : List Int) : exec (.rehearsalSample dt mv ma) s = .next (s.elapse dt) := by
  have hsag : (s.elapse dt).sagging mv = [] := List.eq_nil_iff_forall_not_mem.2 fun p hp => by
    obtain ⟨⟨hp, hc⟩, v, hv, hlt⟩ := State.mem_sagging.1 hp
    rw [State.elapse_counted] at hc
    simp only [State.elapse_fget] at hlt
    exact absurd hlt (not_lt.2 (h p v hp hc hv))
  have e : rehearsalSample mv (s.elapse dt) = s.elapse dt := by
    rw [rehearsalSample_eq, hsag, List.isEmpty_nil, if_pos rfl, ite_self]
  exact congrArg Host.Outcome.next e

/-! ## Its result is published (R99) -/

/-- The second state differs from the first in load factors, packs' records, what is due to be written and free values drawn. -/
structure FactorWork (s t : State) : Prop where
  frame : t = { s with
    regs := t.regs, cis := { s.cis with packs := t.cis.packs }, cfgDue := t.cfgDue, freeCtr := t.freeCtr }

theorem FactorWork.trans {s t u : State} (h : FactorWork s t) (k : FactorWork t u) : FactorWork s u :=
  ⟨by rw [k.frame, h.frame]⟩

theorem State.rehFactor_work (s : State) (p : Nat) (v i : Int) : FactorWork s (s.rehFactor p v i) := by
  unfold State.rehFactor
  extract_lets k z di n sf s₁
  have h₁ : FactorWork s s₁ := by
    unfold s₁
    split
    · exact ⟨rfl⟩
    · exact ⟨rfl⟩
  clear_value s₁
  exact h₁.trans ⟨by rw [(RecWork.refl p s₁).recWrite.frame]⟩

theorem State.rehFactors_work (mv ma : List Int) (l : List Nat) (s : State) :
    FactorWork s (l.foldl (fun s p => s.rehFactor p (mv.getD p 0) (ma.getD p 0)) s) := by
  induction l generalizing s with
  | nil => exact ⟨rfl⟩
  | cons p l ih => exact (s.rehFactor_work p _ _).trans (ih _)

/-- What a rehearsal that is over publishes in its registers. -/
def State.rehShow (s : State) (w sag : Nat) : State :=
  (((s.fset Fld.CIS_REH_STS.RESULT 1).fsat Fld.CIS_REH_STS.P_MEAS w).fset Fld.CIS_REH_STS.DAYS_SINCE 0).fsat
    Fld.CIS_REH_STS.SAG_MV sag

theorem State.rehShow_eq (s : State) (w sag : Nat) : s.rehShow w sag = { s with regs := (s.rehShow w sag).regs } := rfl

theorem State.rehPublish_eq (s : State) (w sag t : Nat) :
    (s.modCis (fun c => { c with rehEnd := none, rehLast := t })).rehShow w sag = { s with
      regs := ((s.modCis (fun c => { c with rehEnd := none, rehLast := t })).rehShow w sag).regs
      cis := { s.cis with rehEnd := none, rehLast := t } } := State.rehShow_eq ..

theorem State.rehShow_shows (s : State) (w sag : Nat) : (s.rehShow w sag).fget Fld.CIS_REH_STS.RESULT = 1 ∧
    (s.rehShow w sag).fget Fld.CIS_REH_STS.P_MEAS = min w 65535 ∧ (s.rehShow w sag).fget Fld.CIS_REH_STS.DAYS_SINCE = 0 := by
  simp only [State.rehShow, State.fsat]
  refine ⟨?_, ?_, ?_⟩
  · rw [State.fget_fset_ne _ (by decide), State.fget_fset_ne _ (by decide), State.fget_fset_ne _ (by decide), State.fget_fset_self]
    rfl
  · rw [State.fget_fset_ne _ (by decide), State.fget_fset_ne _ (by decide), State.fget_fset_self]
    exact Nat.mod_eq_of_lt (lt_of_le_of_lt (min_le_right _ _) (by decide))
  · rw [State.fget_fset_ne _ (by decide), State.fget_fset_self]
    rfl

theorem exec_rehearsalPublish {s : State} {w : Nat} {mv ma : List Int} (h : s.cis.rehEnd = some (w, mv, ma)) :
    ∃ t, exec .rehearsalPublish s = .next t ∧ t.cis.rehEnd = none ∧ t.cis.rehLast = s.nowUs ∧
      t.fget Fld.CIS_REH_STS.RESULT = 1 ∧ t.fget Fld.CIS_REH_STS.P_MEAS = min w 65535 ∧
      t.fget Fld.CIS_REH_STS.DAYS_SINCE = 0 ∧
      t = { s with regs := t.regs, cis := t.cis, out := t.out, cfgDue := t.cfgDue, freeCtr := t.freeCtr } := by
  have e : ∃ sag, rehearsalPublish s = (((s.countedPacks.foldl (fun s p => s.rehFactor p (mv.getD p 0) (ma.getD p 0)) s).modCis
      (fun c => { c with
        rehEnd := none
        rehLast := (s.countedPacks.foldl (fun s p => s.rehFactor p (mv.getD p 0) (ma.getD p 0)) s).nowUs })).rehShow w sag).chargeAll := by
    unfold rehearsalPublish
    rw [h]
    exact ⟨_, rfl⟩
  obtain ⟨sag, e⟩ := e
  obtain ⟨hframe⟩ := State.rehFactors_work mv ma s.countedPacks s
  generalize s.countedPacks.foldl (fun s p => s.rehFactor p (mv.getD p 0) (ma.getD p 0)) s = u at e hframe
  have hnow : u.nowUs = s.nowUs := by rw [State.nowUs, hframe, State.nowUs]
  rw [hnow] at e
  obtain ⟨h1, h2, h3⟩ := (u.modCis (fun c => { c with rehEnd := none, rehLast := s.nowUs })).rehShow_shows w sag
  have hsh := u.rehPublish_eq w sag s.nowUs
  generalize (u.modCis (fun c => { c with rehEnd := none, rehLast := s.nowUs })).rehShow w sag = v at *
  have hc := v.chargeAll_work
  refine ⟨_, congrArg Host.Outcome.next e, ?_, ?_, (hc.fget (by decide)).trans h1, (hc.fget (by decide)).trans h2,
    (hc.fget (by decide)).trans h3, ?_⟩
  · rw [hc.cis, hsh]
  · rw [hc.cis, hsh]
  · rw [hc.frame, hsh, hframe]

end Machine

/-- Settles O11: each command is run once (`exec_rehearsalGo` and what follows it), what ends a rehearsal through `rehStop_spec` and
`rehPath_restored`. -/
theorem rehearsalRunsAndPublishes : Obligations.RehearsalRunsAndPublishes := by
  unfold Obligations.RehearsalRunsAndPublishes
  exact ⟨fun s dt hf h => exec_rehearsalGo hf h dt,
    fun s dt b hb hr hc ho _ => exec_rehearsalStart hb hr hc ho,
    fun s u h hu => exec_rehearsalLoad h hu,
    fun s dt u p mv ma v h hp hc hv hl => exec_rehearsalSample_sags h hp hc hv hl ma,
    fun s dt mv ma h => exec_rehearsalSample_holds h dt ma,
    fun s dt w u mv ma h hu _ => exec_rehearsalEnd h hu w mv ma,
    fun s w mv ma h => exec_rehearsalPublish h⟩

end Sys2Proof

/-! # The shunt conversions of the packs (O9) -/

namespace Sys2Proof
open Machine

/-! ## What a pack's turn leaves of the others -/

/-- The second state differs from the first in fields `fs`, in pack `p`, and in what is due to be written. -/
structure PackWork (p : Nat) (fs : List Field) (s t : State) : Prop where
  frame : t = { s with regs := t.regs, cis := { s.cis with packs := t.cis.packs }, cfgDue := t.cfgDue }
  others : ∀ q, q ≠ p → t.pack q = s.pack q
  regs : RegsBut fs s t

namespace PackWork
variable {p : Nat} {fs gs : List Field} {s t u : State}

theorem refl (p : Nat) (fs : List Field) (s : State) : PackWork p fs s s := ⟨rfl, fun _ _ => rfl, .refl _ s⟩

theorem trans (h : PackWork p fs s t) (k : PackWork p fs t u) : PackWork p fs s u where
  frame := by rw [k.frame, h.frame]
  others q hq := (k.others q hq).trans (h.others q hq)
  regs := h.regs.trans k.regs

theorem mono (h : PackWork p fs s t) (hs : ∀ f ∈ fs, f ∈ gs := by simp) : PackWork p gs s t := ⟨h.frame, h.others, h.regs.mono hs⟩

theorem ite {c : Prop} {_ : Decidable c} (ht : PackWork p fs s t) (hu : PackWork p fs s u) :
    PackWork p fs s (if c then t else u) := by
  split
  · exact ht
  · exact hu

theorem fset {f : Field} {v : Nat} (h : PackWork p fs s t) (hf : f ∈ fs := by simp) : PackWork p fs s (t.fset f v) :=
  h.trans ⟨rfl, fun _ _ => rfl, (RegsBut.refl fs t).fset hf⟩
theorem fsat {f : Field} {v : Nat} (h : PackWork p fs s t) (hf : f ∈ fs := by simp) : PackWork p fs s (t.fsat f v) := h.fset hf

theorem modPack {f : Pack → Pack} (h : PackWork p fs s t) : PackWork p fs s (t.modPack p f) :=
  h.trans ⟨rfl, fun _ hq => State.pack_modPack_ne t hq f, (RegsBut.refl fs t).modPack⟩

theorem recWork (h : PackWork p fs s t) (k : RecWork p t u) : PackWork p fs s u := h.trans ⟨by
  rw [k.frame], k.others, (RegsBut.refl fs t).same k.regs⟩

end PackWork

/-! ## Shunt conversions (R87, R88, R96) -/

/-- The fields that a shunt conversion of a pack may change. -/
@[simp] def shuntFields (p : Nat) : List Field :=
  [Fld.CIS_PACK_STS.CURRENT p, Fld.CIS_PACK_STS.AT_REST p, Fld.CIS_PACK_EST.SOC p, Fld.CIS_PACK_EST.CYCLES p]

namespace Machine

/-- The charge counted moves SOC, and nothing of the pack but its remainder. -/
theorem State.socCount_work (s : State) (p : Nat) : PackWork p [Fld.CIS_PACK_EST.SOC p] s (s.socCount p) ∧
    (s.socCount p).pack p = { s.pack p with resid := ((s.socCount p).pack p).resid } := by
  unfold State.socCount
  extract_lets k cap steps soc rest clip
  split
  · exact ⟨.refl _ _ s, rfl⟩
  · exact ⟨(PackWork.refl _ _ s).modPack.fset, by rw [State.pack_fset, State.pack_modPack_self]⟩

/-- CYCLES counts with the charge discharged, and the learned record holds it. -/
theorem State.cyclesUp_work (s : State) (p : Nat) : PackWork p [Fld.CIS_PACK_EST.CYCLES p] s (s.cyclesUp p) ∧
    ((s.cyclesUp p).pack p).cur = (s.pack p).cur ∧ ((s.cyclesUp p).pack p).count = (s.pack p).count := by
  unfold State.cyclesUp
  extract_lets k cap
  split
  · exact ⟨.refl _ _ s, rfl, rfl⟩
  · set u := (s.modPack p (fun k => { k with dis := k.dis - cap })).satUp (Fld.CIS_PACK_EST.CYCLES p) with hu
    have h := (RecWork.refl p u).recWrite
    have hp : u.pack p = { s.pack p with dis := (s.pack p).dis - cap } := by
      rw [hu, State.satUp, State.fsat, State.pack_fset, State.pack_modPack_self]
    exact ⟨(PackWork.refl _ _ s).modPack.fsat.recWork h, by rw [h.pack, hp], by rw [h.pack, hp]⟩

/-- What a shunt conversion notes before the charge moves SOC (R87). -/
structure ShuntNoted (p : Nat) (v : Int) (s t : State) : Prop where
  work : PackWork p [Fld.CIS_PACK_STS.CURRENT p, Fld.CIS_PACK_STS.AT_REST p] s t
  current : t.fget (Fld.CIS_PACK_STS.CURRENT p) = toField 16 (if s.fget (Fld.CIS_PACK_CFG.SHUNT_UOHM p) = 0 then 0 else
    v * 15625 / ((80 * s.fget (Fld.CIS_PACK_CFG.SHUNT_UOHM p) : Nat) : Int))
  cur : (t.pack p).cur = v
  count : (t.pack p).count = ofField 48 (toField 48 ((s.pack p).count + v))

theorem State.coulomb_noted (s : State) (p : Nat) (v : Int) : ∃ u, ShuntNoted p (max (-32768) (min 32767 v)) s u ∧
    s.coulomb p v = if s.on (Fld.CIS_PACK_STS.PRESENT p) then (u.socCount p).cyclesUp p else u := by
  unfold State.coulomb
  extract_lets v sh t cal mv cells s₁ here s₂ s₃
  have hhere : here = s.on (Fld.CIS_PACK_STS.PRESENT p) := congrArg (· == 1) (State.fget_fset_ne s
    (by simp only [Fld.CIS_PACK_STS.PRESENT, Fld.CIS_PACK_STS.CURRENT]; omega) _)
  have h₂ : ShuntNoted p v s s₂ := by
    refine ⟨(PackWork.refl p _ s).fset.modPack, ?_, ?_, ?_⟩
    · exact (State.fget_fset_self s _ _).trans (toField_mod 16 _)
    · simp only [s₂, State.pack_modPack_self]
    · simp only [s₂, s₁, State.pack_modPack_self, State.pack_fset]
  refine ⟨s₃, ?_, by rw [hhere]⟩
  unfold s₃
  split
  · refine ⟨h₂.work.fset, ?_, h₂.cur, h₂.count⟩
    rw [State.fget_fset_ne _ (by simp only [Fld.CIS_PACK_STS.AT_REST, Fld.CIS_PACK_STS.CURRENT]; omega)]
    exact h₂.current
  · exact h₂

theorem State.coulomb_work (s : State) (p : Nat) (v : Int) : PackWork p (shuntFields p) s (s.coulomb p v) := by
  obtain ⟨u, hu, e⟩ := s.coulomb_noted p v
  rw [e]
  exact .ite ((hu.work.mono.trans (u.socCount_work p).1.mono).trans ((u.socCount p).cyclesUp_work p).1.mono) hu.work.mono

/-- A conversion sets CURRENT and counts the charge; SOC stays while the pack is absent. -/
theorem State.coulomb_counts {s : State} {p : Nat} {v : Int} (hl : -32768 ≤ v) (hh : v ≤ 32767)
    (hs : 0 < s.fget (Fld.CIS_PACK_CFG.SHUNT_UOHM p)) :
    (s.coulomb p v).fget (Fld.CIS_PACK_STS.CURRENT p) =
      toField 16 (v * 15625 / ((80 * s.fget (Fld.CIS_PACK_CFG.SHUNT_UOHM p) : Nat) : Int)) ∧
    ((s.coulomb p v).pack p).cur = v ∧ ((s.coulomb p v).pack p).count = ofField 48 (toField 48 ((s.pack p).count + v)) ∧
    (s.on (Fld.CIS_PACK_STS.PRESENT p) = false →
      (s.coulomb p v).fget (Fld.CIS_PACK_EST.SOC p) = s.fget (Fld.CIS_PACK_EST.SOC p)) := by
  obtain ⟨u, ⟨hwork, hcurrent, hcur, hcount⟩, e⟩ := s.coulomb_noted p v
  rw [show max (-32768) (min 32767 v) = v by omega] at hcurrent hcur hcount
  rw [if_neg (by omega)] at hcurrent
  rw [e]
  split
  · next h =>
    obtain ⟨hw, hp⟩ := u.socCount_work p
    obtain ⟨kw, kcur, kcount⟩ := (u.socCount p).cyclesUp_work p
    refine ⟨?_, by rw [kcur, hp, hcur], by rw [kcount, hp, hcount], fun h' => by simp [h] at h'⟩
    rw [kw.regs _ (by simp [Fld.CIS_PACK_STS.CURRENT, Fld.CIS_PACK_EST.CYCLES]; omega),
      hw.regs _ (by simp [Fld.CIS_PACK_STS.CURRENT, Fld.CIS_PACK_EST.SOC]; omega)]
    exact hcurrent
  · exact ⟨hcurrent, hcur, hcount, fun _ => hwork.regs _
      (by simp [Fld.CIS_PACK_STS.CURRENT, Fld.CIS_PACK_EST.SOC, Fld.CIS_PACK_STS.AT_REST]; omega)⟩

/-- A pack's part of a list of conversions. -/
def State.shuntTurn (sh : List Int) (s : State) (p : Nat) : State := match sh[p]? with | some v => s.coulomb p v | none => s

theorem State.shuntTurn_work (sh : List Int) (s : State) (p : Nat) : PackWork p (shuntFields p) s (s.shuntTurn sh p) := by
  unfold State.shuntTurn
  split
  · exact s.coulomb_work p _
  · exact .refl _ _ s

/-- The registers of a pack that its conversion reads or sets, as far as O9 speaks of them. -/
@[simp] def shuntSeen (p : Nat) : List Field :=
  [Fld.CIS_PACK_STS.CURRENT p, Fld.CIS_PACK_STS.PRESENT p, Fld.CIS_PACK_CFG.SHUNT_UOHM p, Fld.CIS_PACK_EST.SOC p]

/-- Pack `p` and those registers of it are the same in both states. -/
def ShuntSame (p : Nat) (s t : State) : Prop := t.pack p = s.pack p ∧ ∀ f ∈ shuntSeen p, t.fget f = s.fget f

theorem State.shuntTurn_same (sh : List Int) {p q : Nat} (hp : p < 4) (hq : q < 4) (h : q ≠ p) (s : State) :
    ShuntSame p s (s.shuntTurn sh q) := by
  have hw := s.shuntTurn_work sh q
  have hne : ∀ p < 4, ∀ q < 4, q ≠ p → ∀ b ∈ (shuntSeen p).map Field.bit, b ∉ (shuntFields q).map Field.bit := by decide
  exact ⟨hw.others p (Ne.symm h), fun f hf => hw.regs f (hne p hp q hq h _ (List.mem_map_of_mem hf))⟩

/-- In a pass over the packs, a pack's own turn alone concerns it. -/
theorem State.coulombSample_turn (sh : List Int) (s : State) {p : Nat} (hp : p < 4) :
    ∃ u, ShuntSame p s u ∧ ShuntSame p (u.shuntTurn sh p) (coulombSample sh s) :=
  foldl_turn (K := ShuntSame p) (fun _ => ⟨rfl, fun _ _ => rfl⟩)
    (fun h k => ⟨k.1.trans h.1, fun f hf => (k.2 f hf).trans (h.2 f hf)⟩) (mem_allPacks.2 hp) nodup_allPacks
    (fun _ hq h u => u.shuntTurn_same sh hp (mem_allPacks.1 hq) h) s

end Machine

/-- A conversion of a pack's shunt sets CURRENT and adds to its charge count (R87). -/
theorem coulombSample_counts (s : State) (sh : List Int) {p : Nat} (hp : p < 4) :
    (∀ v, sh[p]? = some v → -32768 ≤ v → v ≤ 32767 → 0 < s.fget (Fld.CIS_PACK_CFG.SHUNT_UOHM p) →
      (coulombSample sh s).fget (Fld.CIS_PACK_STS.CURRENT p) =
        toField 16 (v * 15625 / ((80 * s.fget (Fld.CIS_PACK_CFG.SHUNT_UOHM p) : Nat) : Int)) ∧
      ((coulombSample sh s).pack p).cur = v ∧
      ((coulombSample sh s).pack p).count = ofField 48 (toField 48 ((s.pack p).count + v)) ∧
      (s.on (Fld.CIS_PACK_STS.PRESENT p) = false →
        (coulombSample sh s).fget (Fld.CIS_PACK_EST.SOC p) = s.fget (Fld.CIS_PACK_EST.SOC p))) ∧
    (sh[p]? = none → (coulombSample sh s).pack p = s.pack p) := by
  obtain ⟨u, ⟨hpack, hfld⟩, kpack, kfld⟩ := s.coulombSample_turn sh hp
  refine ⟨fun v hv hl hh hs => ?_, fun hn => ?_⟩
  · have e : u.shuntTurn sh p = u.coulomb p v := by rw [State.shuntTurn, hv]
    have hshunt := hfld (Fld.CIS_PACK_CFG.SHUNT_UOHM p) (by simp)
    obtain ⟨h1, h2, h3, h4⟩ := State.coulomb_counts (s := u) hl hh (by rwa [hshunt])
    rw [e] at kpack kfld
    refine ⟨?_, by rw [kpack, h2], by rw [kpack, h3, hpack], fun ha => ?_⟩
    · rw [kfld _ (by simp), h1, hshunt]
    · rw [kfld _ (by simp), h4 (by rwa [State.on, hfld _ (by simp)]), hfld _ (by simp)]
  · rw [kpack, State.shuntTurn, hn, hpack]

/-- The second state differs from the first in what the conversions of the packs change. -/
structure ShuntWork (s t : State) : Prop where
  frame : t = { s with regs := t.regs, cis := t.cis, cfgDue := t.cfgDue }
  regs : RegsBut ([0, 1, 2, 3].flatMap shuntFields) s t

theorem ShuntWork.trans {s t u : State} (h : ShuntWork s t) (k : ShuntWork t u) : ShuntWork s u :=
  ⟨by rw [k.frame, h.frame], h.regs.trans k.regs⟩

theorem ShuntWork.of_turn (sh : List Int) {p : Nat} (hp : p < 4) (s : State) : ShuntWork s (s.shuntTurn sh p) := by
  have hw := s.shuntTurn_work sh p
  exact ⟨by rw [hw.frame], hw.regs.mono fun f hf => List.mem_flatMap.2 ⟨p, mem_allPacks.2 hp, hf⟩⟩

theorem coulombSample_work (s : State) (sh : List Int) : ShuntWork s (coulombSample sh s) := by
  have hall : ∀ l : List Nat, (∀ p ∈ l, p < 4) → ∀ u : State, ShuntWork u (l.foldl (State.shuntTurn sh) u) := fun l => by
    induction l with
    | nil => exact fun _ u => ⟨rfl, .refl _ u⟩
    | cons p l ih => exact fun hl u => (ShuntWork.of_turn sh (hl p (by simp)) u).trans (ih (fun q hq => hl q (by simp [hq])) _)
  exact hall allPacks (fun p => mem_allPacks.1) s

end Sys2Proof

/-! # The voltage and temperature conversions of the packs (O9) -/

namespace Sys2Proof
open Machine

/-- A voltage outside the bounds of R86. -/
def badVolts (mv cells : Nat) : Bool := decide (mv < 7500 ∨ 21000 < mv ∨ mv < 2000 * cells ∨ 4350 * cells < mv)

/-- The fields of a pack that its conversion sets, beside COUNTED. -/
@[simp] def sampleShown (p : Nat) : List Field := [Fld.CIS_PACK_STS.VOLT_MV p, Fld.CIS_PACK_STS.TEMP_C p,
  Fld.CIS_PACK_STS.NTC_FAULT p, Fld.CIS_PACK_STS.VOLT_FAULT p]

/-- The fields that a conversion of a pack may change. -/
@[simp] def sampleFields (p : Nat) : List Field :=
  Fld.CIS_PACK_STS.COUNTED p :: sampleShown p ++ FaultRegs (srcOf 78 7)

/-- What the conversion `x` of a pack is shown as (R86, R87). -/
structure SampleShown (p : Nat) (x : PackSample) (cells : Nat) (t : State) : Prop where
  volts : t.fget (Fld.CIS_PACK_STS.VOLT_MV p) = min x.mv 65535
  temp : t.fget (Fld.CIS_PACK_STS.TEMP_C p) = toField 8 (max (-128) (min 127 x.tempC))
  ntc : t.on (Fld.CIS_PACK_STS.NTC_FAULT p) = x.ntcFault
  bad : t.on (Fld.CIS_PACK_STS.VOLT_FAULT p) = badVolts x.mv cells
  counted : t.on (Fld.CIS_PACK_STS.VOLT_FAULT p) = true → t.counted p = false

theorem SampleShown.of_same {p cells : Nat} {x : PackSample} {s t : State} (h : SampleShown p x cells s)
    (e : ∀ f ∈ Fld.CIS_PACK_STS.COUNTED p :: sampleShown p, t.fget f = s.fget f) : SampleShown p x cells t := by
  have hon : ∀ f ∈ Fld.CIS_PACK_STS.COUNTED p :: sampleShown p, t.on f = s.on f := fun f hf => congrArg (· == 1) (e f hf)
  obtain ⟨hv, ht, hn, hb, hc⟩ := h
  refine ⟨(e _ (by simp)).trans hv, (e _ (by simp)).trans ht, (hon _ (by simp)).trans hn, ?_, ?_⟩
  · rw [hon _ (by simp), hb]
  · rw [hon _ (by simp), State.counted, hon _ (by simp)]
    exact hc

/-- The second state differs from the first in registers, packs and fault messages. -/
def SampleFrame (s t : State) : Prop := t = { s with regs := t.regs, cis := { s.cis with packs := t.cis.packs }, flt := t.flt }

theorem SampleFrame.trans {s t u : State} (h : SampleFrame s t) (k : SampleFrame t u) : SampleFrame s u := by
  unfold SampleFrame at *
  rw [k, h]

namespace Machine

theorem State.on_fput_self (s : State) (f : Field) (b : Bool) (hf : f.width = 1) : (s.fput f b).on f = b := by
  rw [State.on, State.fput, State.fget_fset_self, hf]
  cases b <;> rfl

/-- COUNTED is judged: it is 0 with VOLT_FAULT (R86). -/
theorem State.judgePack_uncounts {s : State} {p : Nat} (h : s.on (Fld.CIS_PACK_STS.VOLT_FAULT p) = true) :
    (s.judgePack p).counted p = false := by
  have e : s.judgePack p = s.fput (Fld.CIS_PACK_STS.COUNTED p) false := by
    unfold State.judgePack
    simp only [h, Bool.not_true, Bool.and_false, Bool.false_and]
  rw [e]
  exact State.on_fput_self s _ _ rfl

/-- The registers as a conversion shows itself. -/
def State.showSample (s : State) (p : Nat) (x : PackSample) : State :=
  (((s.fsat (Fld.CIS_PACK_STS.VOLT_MV p) x.mv).fset (Fld.CIS_PACK_STS.TEMP_C p) (toField 8 (max (-128) (min 127 x.tempC)))).fput
    (Fld.CIS_PACK_STS.NTC_FAULT p) x.ntcFault).fput (Fld.CIS_PACK_STS.VOLT_FAULT p)
      (badVolts x.mv (s.fget (Fld.CIS_PACK_CFG.CELLS p)))

/-- A conversion shows itself, is reported where its voltage is a new fault, and has COUNTED judged again. -/
theorem State.packSample_eq (s : State) (p : Nat) (x : PackSample) : ∃ (f : Pack → Pack) (u : State),
    (u = s.showSample p x ∨ u = (s.showSample p x).fault (srcOf 78 7) 0x47 p) ∧
    s.packSample p x = (u.modPack p f).judgePack p := by
  unfold State.packSample
  extract_lets cells bad new s₁ s₂ s₃ warm dis
  refine ⟨_, s₃, ?_, rfl⟩
  unfold s₃
  split
  · exact .inr rfl
  · exact .inl rfl

theorem State.judgePack_frame (s : State) (p : Nat) : s.judgePack p = { s with regs := (s.judgePack p).regs } := rfl

theorem State.judgePack_regs (s : State) (p : Nat) : RegsBut [Fld.CIS_PACK_STS.COUNTED p] s (s.judgePack p) :=
  (RegsBut.refl _ s).fput

theorem State.packSample_work (s : State) (p : Nat) (x : PackSample) :
    SampleFrame s (s.packSample p x) ∧ RegsBut (sampleFields p) s (s.packSample p x) := by
  obtain ⟨f, u, hu, e⟩ := s.packSample_eq p x
  have h₁ : SampleFrame s (s.showSample p x) ∧ RegsBut (sampleFields p) s (s.showSample p x) :=
    ⟨rfl, (RegsBut.refl _ s).fsat.fset.fput.fput⟩
  have h₂ : SampleFrame s u ∧ RegsBut (sampleFields p) s u := by
    rcases hu with rfl | rfl
    · exact h₁
    · generalize s.showSample p x = v at h₁
      exact ⟨h₁.1.trans (by unfold SampleFrame; rw [State.fault_frame]), h₁.2.fault⟩
  rw [e]
  exact ⟨h₂.1.trans rfl, h₂.2.modPack.trans ((State.judgePack_regs _ p).mono)⟩

theorem State.showSample_shows (s : State) (p : Nat) (x : PackSample) :
    (s.showSample p x).fget (Fld.CIS_PACK_STS.VOLT_MV p) = min x.mv 65535 ∧
    (s.showSample p x).fget (Fld.CIS_PACK_STS.TEMP_C p) = toField 8 (max (-128) (min 127 x.tempC)) ∧
    (s.showSample p x).on (Fld.CIS_PACK_STS.NTC_FAULT p) = x.ntcFault ∧
    (s.showSample p x).on (Fld.CIS_PACK_STS.VOLT_FAULT p) = badVolts x.mv (s.fget (Fld.CIS_PACK_CFG.CELLS p)) := by
  refine ⟨?_, ?_, ?_, State.on_fput_self _ _ _ rfl⟩
  · simp [State.showSample, State.fput, State.fsat, Field.max, State.fget_fset_ne, Fld.CIS_PACK_STS.VOLT_MV, Fld.CIS_PACK_STS.TEMP_C,
      Fld.CIS_PACK_STS.NTC_FAULT, Fld.CIS_PACK_STS.VOLT_FAULT]
  · rw [State.showSample, State.fput, State.fput,
      State.fget_fset_ne _ (by simp only [Fld.CIS_PACK_STS.TEMP_C, Fld.CIS_PACK_STS.VOLT_FAULT]; omega),
      State.fget_fset_ne _ (by simp only [Fld.CIS_PACK_STS.TEMP_C, Fld.CIS_PACK_STS.NTC_FAULT]; omega), State.fget_fset_self]
    exact toField_mod 8 _
  · rw [State.showSample, State.on, State.fput,
      State.fget_fset_ne _ (by simp only [Fld.CIS_PACK_STS.NTC_FAULT, Fld.CIS_PACK_STS.VOLT_FAULT]; omega)]
    exact State.on_fput_self _ _ _ rfl

theorem State.packSample_shows {s : State} {p : Nat} (hp : p < 4) (x : PackSample) :
    SampleShown p x (s.fget (Fld.CIS_PACK_CFG.CELLS p)) (s.packSample p x) := by
  have hfault : ∀ p < 4, ∀ b ∈ (sampleShown p).map Field.bit, b ∉ (FaultRegs (srcOf 78 7)).map Field.bit := by decide
  obtain ⟨note, u, hu, e⟩ := s.packSample_eq p x
  obtain ⟨hv, ht, hn, hb⟩ := s.showSample_shows p x
  have hsame : ∀ f ∈ sampleShown p, u.fget f = (s.showSample p x).fget f := fun f hf => by
    rcases hu with rfl | rfl
    · rfl
    · exact State.fault_regsBut _ _ _ _ _ f (hfault p hp _ (List.mem_map_of_mem hf))
  have hcounted : ∀ p < 4, ∀ b ∈ (sampleShown p).map Field.bit, b ∉ [Fld.CIS_PACK_STS.COUNTED p].map Field.bit := by decide
  have hshow : ∀ f ∈ sampleShown p, (s.packSample p x).fget f = (s.showSample p x).fget f := fun f hf => by
    rw [e]
    exact (State.judgePack_regs _ p f (hcounted p hp _ (List.mem_map_of_mem hf))).trans (hsame f hf)
  have hbad : (s.packSample p x).on (Fld.CIS_PACK_STS.VOLT_FAULT p) = u.on (Fld.CIS_PACK_STS.VOLT_FAULT p) :=
    congrArg (· == 1) ((hshow _ (by simp)).trans (hsame _ (by simp)).symm)
  refine ⟨(hshow _ (by simp)).trans hv, (hshow _ (by simp)).trans ht, ?_, ?_, fun h => ?_⟩
  · rw [State.on, hshow _ (by simp)]
    exact hn
  · rw [State.on, hshow _ (by simp)]
    exact hb
  · rw [e]
    exact State.judgePack_uncounts (s := u.modPack p note) (hbad ▸ h)

/-- What the watch over a calibration's temperature may change. -/
structure WatchWork (s t : State) : Prop where
  frame : t = { s with regs := t.regs, cis := t.cis, out := t.out }
  regs : RegsBut [Fld.CIS_CAL_STS.STATE, Fld.CIS_CAL_STS.INTERRUPTIONS,
    Fld.PSQ_RAIL_STS.ENABLED (s.fget Fld.CIS_CFG.INPUT_RAIL)] s t

theorem WatchWork.of_modCis {f : CisState → CisState} {s t : State} (h : WatchWork (s.modCis f) t) : WatchWork s t :=
  ⟨by rw [h.frame]; rfl, h.regs⟩

/-- A calibration's state is shown beside the input path. -/
theorem State.pathShown (s : State) (high : Bool) (st : Nat) :
    WatchWork s ((s.inputPath high).fset Fld.CIS_CAL_STS.STATE st) := by
  have h := s.inputPath_work high
  exact ⟨by rw [h.frame]; rfl, (h.regs.mono).fset⟩

theorem State.calPause_work (s : State) : WatchWork s s.calPause := by
  have h := ((s.modCis (fun c => { c with pausedAt := some s.now })).pathShown true 3).of_modCis
  unfold State.calPause
  dsimp only
  generalize ((s.modCis (fun c => { c with pausedAt := some s.now })).inputPath true).fset Fld.CIS_CAL_STS.STATE 3 = t at h
  exact ⟨by rw [h.frame]; rfl, h.regs.fsat⟩

theorem State.calWatch_work (s : State) : WatchWork s s.calWatch := by
  unfold State.calWatch
  split
  · exact (s.modCis (fun c => { c with pauseT := true })).calPause_work.of_modCis
  · split
    · next h =>
      obtain ⟨⟨h3, hp⟩, -⟩ : (s.calState = 3 ∧ s.cis.pauseT = true) ∧ s.calHot = false := by simpa using h
      dsimp only
      split
      · exact ⟨rfl, .refl _ s⟩
      · rw [calibrationGo_resumes (by exact h3) rfl]
        exact (State.pathShown _ false 2).of_modCis.of_modCis
    · exact ⟨rfl, .refl _ s⟩

/-- A pack's part of a list of conversions. -/
def State.sampleTurn (xs : List PackSample) (s : State) (p : Nat) : State :=
  match xs[p]? with | some x => s.packSample p x | none => s

theorem State.sampleTurn_work (xs : List PackSample) (s : State) (p : Nat) :
    SampleFrame s (s.sampleTurn xs p) ∧ RegsBut (sampleFields p) s (s.sampleTurn xs p) := by
  unfold State.sampleTurn
  split
  · exact s.packSample_work p _
  · exact ⟨rfl, .refl _ s⟩

/-- The registers of pack `p` that its conversion is judged by or sets are the same in both states. -/
def SampleSame (p : Nat) (s t : State) : Prop :=
  ∀ f ∈ Fld.CIS_PACK_CFG.CELLS p :: Fld.CIS_PACK_STS.COUNTED p :: sampleShown p, t.fget f = s.fget f

theorem SampleSame.trans {p : Nat} {s t u : State} (h : SampleSame p s t) (k : SampleSame p t u) : SampleSame p s u :=
  fun f hf => (k f hf).trans (h f hf)

theorem State.sampleTurn_same (xs : List PackSample) {p q : Nat} (hp : p < 4) (hq : q < 4) (h : q ≠ p) (s : State) :
    SampleSame p s (s.sampleTurn xs q) := fun f hf => by
  have hne : ∀ p < 4, ∀ q < 4, q ≠ p → ∀ b ∈ (Fld.CIS_PACK_CFG.CELLS p :: Fld.CIS_PACK_STS.COUNTED p :: sampleShown p).map Field.bit,
    b ∉ (sampleFields q).map Field.bit := by decide
  exact (s.sampleTurn_work xs q).2 f (hne p hp q hq h _ (List.mem_map_of_mem hf))

/-- The conversions of all packs. -/
def State.samplePass (xs : List PackSample) (s : State) : State := allPacks.foldl (State.sampleTurn xs) s

theorem State.samplePass_frame (xs : List PackSample) (s : State) : SampleFrame s (s.samplePass xs) :=
  foldl_rel (P := SampleFrame) (fun _ => rfl) SampleFrame.trans (fun u p => (u.sampleTurn_work xs p).1) _ s

theorem State.samplePass_shows {xs : List PackSample} {p : Nat} {x : PackSample} (hp : p < 4) (hx : xs[p]? = some x) (s : State) :
    SampleShown p x (s.fget (Fld.CIS_PACK_CFG.CELLS p)) (s.samplePass xs) := by
  obtain ⟨u, hu, hk⟩ := foldl_turn (K := SampleSame p) (fun _ _ _ => rfl) SampleSame.trans (mem_allPacks.2 hp) nodup_allPacks
    (fun _ hq h u => u.sampleTurn_same xs hp (mem_allPacks.1 hq) h) s
  have e : u.sampleTurn xs p = u.packSample p x := by rw [State.sampleTurn, hx]
  have h := State.packSample_shows (s := u) hp x
  rw [hu _ (by simp)] at h
  rw [e] at hk
  exact h.of_same fun f hf => hk f (List.mem_cons_of_mem _ hf)

/-- Neither the watch over a calibration nor the chargers change what a conversion shows. -/
theorem State.watched_same (s : State) {p : Nat} (hp : p < 4) :
    ∀ f ∈ Fld.CIS_PACK_STS.COUNTED p :: sampleShown p, s.calWatch.chargeAll.fget f = s.fget f := fun f hf => by
  have hcharge : ∀ p < 4, ∀ q < 4, ∀ b ∈ (Fld.CIS_PACK_STS.COUNTED p :: sampleShown p).map Field.bit,
    b ≠ (Fld.CIS_PACK_STS.CHARGING q).bit ∧ b ≠ (Fld.CIS_PACK_STS.CHG_BLOCK q).bit := by decide
  have hwatch : ∀ p < 4, ∀ b ∈ (Fld.CIS_PACK_STS.COUNTED p :: sampleShown p).map Field.bit,
    b ≠ Fld.CIS_CAL_STS.STATE.bit ∧ b ≠ Fld.CIS_CAL_STS.INTERRUPTIONS.bit ∧ b < 8 * 0x1B0000 := by decide
  have hb := List.mem_map_of_mem (f := Field.bit) hf
  obtain ⟨h1, h2, h3⟩ := hwatch p hp _ hb
  rw [s.calWatch.chargeAll_work.fget fun q hq => hcharge p hp q (mem_allPacks.1 hq) _ hb]
  refine s.calWatch_work.regs f ?_
  simp [h1, h2, Fld.PSQ_RAIL_STS.ENABLED]
  omega

end Machine

/-- A temperature within its field is read as it is (R87). -/
theorem ofField_toField_temp {v : Int} (hl : -128 ≤ v) (hh : v ≤ 127) : ofField 8 (toField 8 (max (-128) (min 127 v))) = v := by
  unfold ofField toField
  split <;> omega

/-- A conversion shows voltage, temperature and faults, and a pack with VOLT_FAULT is not counted (R86, R87). -/
theorem exec_cisternSample (s : State) (xs : List PackSample) : ∃ t, exec (.cisternSample xs) s = .next t ∧
    (∀ p x, p < 4 → xs[p]? = some x → -128 ≤ x.tempC → x.tempC ≤ 127 →
      t.fget (Fld.CIS_PACK_STS.VOLT_MV p) = min x.mv 65535 ∧ t.packTemp p = x.tempC ∧
      t.on (Fld.CIS_PACK_STS.NTC_FAULT p) = x.ntcFault ∧
      (t.on (Fld.CIS_PACK_STS.VOLT_FAULT p) = true ↔ x.mv < 7500 ∨ 21000 < x.mv ∨
        x.mv < 2000 * s.fget (Fld.CIS_PACK_CFG.CELLS p) ∨ 4350 * s.fget (Fld.CIS_PACK_CFG.CELLS p) < x.mv) ∧
      (t.on (Fld.CIS_PACK_STS.VOLT_FAULT p) = true → t.counted p = false)) ∧
    t = { s with regs := t.regs, cis := t.cis, flt := t.flt, out := t.out } := by
  refine ⟨(s.samplePass xs).calWatch.chargeAll, rfl, fun p x hp hx hl hh => ?_, ?_⟩
  · obtain ⟨hv, ht, hn, hb, hc⟩ := (State.samplePass_shows hp hx s).of_same ((s.samplePass xs).watched_same hp)
    refine ⟨hv, ?_, hn, ?_, hc⟩
    · rw [State.packTemp, ht, ofField_toField_temp hl hh]
    · rw [hb]
      exact decide_eq_true_iff
  · rw [(s.samplePass xs).calWatch.chargeAll_work.frame, (s.samplePass xs).calWatch_work.frame, s.samplePass_frame xs]

end Sys2Proof

/-! # Packs are counted, charge is anchored, and the alarm strikes (O9) -/

namespace Sys2Proof
open Machine

/-- COUNTED is judged when a pack has been present for its time (R86). -/
theorem exec_packCounted (s : State) (dt : Nat) {p : Nat} (hp : p < 4) :
    exec (.packCounted dt p) s = .next ((s.elapse dt).fput (Fld.CIS_PACK_STS.COUNTED p)
      (s.on (Fld.CIS_PACK_CFG.ENABLE p) && s.on (Fld.CIS_PACK_STS.PRESENT p) && !(s.pack p).swapDue &&
        decide ((s.pack p).heldAt + 1000000000 ≤ s.now + dt) && !s.on (Fld.CIS_PACK_STS.VOLT_FAULT p) &&
        (s.on (Fld.CIS_PACK_STS.NTC_FAULT p) || decide (-40 ≤ s.packTemp p ∧ s.packTemp p ≤ 70)))) := by
  have e : exec (.packCounted dt p) s = .next ((s.elapse dt).judgePack p) := congrArg Host.Outcome.next (if_pos hp)
  rw [e, State.judgePack]
  simp only [State.elapse_on, State.elapse_pack, State.elapse_packTemp, State.elapse_now]

/-! ## A rest anchors SOC (R88, R89) -/

/-- SOC is set through the OCV table after a rest. -/
def Machine.State.anchored (s : State) (p : Nat) : State :=
  (((((s.socFrom p (s.fget (Fld.CIS_PACK_STS.VOLT_MV p))).modPack p (fun k => { k with uncAt := s.now })).fset
    (Fld.CIS_PACK_EST.SOC_UNC p) 20).fset (Fld.CIS_PACK_STS.AT_REST p) 1).fset (Fld.CIS_PACK_STS.INSERT_EST p) 0)

/-- The fields that an anchor sets. -/
@[simp] def anchorFields (p : Nat) : List Field := [Fld.CIS_PACK_EST.SOC p, Fld.CIS_PACK_EST.SOC_UNC p, Fld.CIS_PACK_STS.AT_REST p,
  Fld.CIS_PACK_STS.INSERT_EST p]

namespace Machine

theorem State.socFrom_frame (s : State) (p mv : Nat) :
    s.socFrom p mv = { s with regs := (s.socFrom p mv).regs, cis := (s.socFrom p mv).cis } := rfl

theorem State.socFrom_work (s : State) (p mv : Nat) : PackWork p [Fld.CIS_PACK_EST.SOC p] s (s.socFrom p mv) :=
  (PackWork.refl p _ s).modPack.fset

theorem State.anchored_work (s : State) (p : Nat) : PackWork p (anchorFields p) s (s.anchored p) :=
  ((s.socFrom_work p _).mono.modPack.fset).fset.fset

theorem State.socFrom_soc {s : State} (h : ocvValid s.ocv = true) (p mv : Nat) :
    (s.socFrom p mv).fget (Fld.CIS_PACK_EST.SOC p) =
      socOf s.ocv ((1000 * mv / max 1 (s.fget (Fld.CIS_PACK_CFG.CELLS p)) : Nat) : Int) % 1024 := by
  unfold State.socFrom
  extract_lets t n
  rw [State.fget_fset_self, if_pos h]
  rfl

/-- What an anchor shows. -/
structure Anchored (p : Nat) (s t : State) : Prop where
  soc : t.fget (Fld.CIS_PACK_EST.SOC p) = socOf s.ocv ((1000 * s.fget (Fld.CIS_PACK_STS.VOLT_MV p) /
    max 1 (s.fget (Fld.CIS_PACK_CFG.CELLS p)) : Nat) : Int) % 1024
  unc : t.fget (Fld.CIS_PACK_EST.SOC_UNC p) = 20
  rest : t.fget (Fld.CIS_PACK_STS.AT_REST p) = 1
  est : t.fget (Fld.CIS_PACK_STS.INSERT_EST p) = 0
  uncAt : (t.pack p).uncAt = s.now
  frame : t = { s with regs := t.regs, cis := t.cis }

theorem State.anchored_shows {s : State} (h : ocvValid s.ocv = true) {p : Nat} (hp : p < 4) : Anchored p s (s.anchored p) := by
  have hne : ∀ p < 4, (anchorFields p).Pairwise fun f g => f.bit ≠ g.bit := by decide
  simp only [anchorFields, List.pairwise_cons, List.mem_cons, List.not_mem_nil, or_false, forall_eq_or_imp, forall_eq] at hne
  obtain ⟨⟨h1, h2, h3⟩, ⟨h4, h5⟩, h6, -⟩ := hne p hp
  refine ⟨?_, ?_, ?_, ?_, ?_, ?_⟩
  · rw [State.anchored, State.fget_fset_ne _ h3, State.fget_fset_ne _ h2, State.fget_fset_ne _ h1]
    exact State.socFrom_soc h p _
  · rw [State.anchored, State.fget_fset_ne _ h5, State.fget_fset_ne _ h4, State.fget_fset_self]
    rfl
  · rw [State.anchored, State.fget_fset_ne _ h6, State.fget_fset_self]
    rfl
  · rw [State.anchored, State.fget_fset_self, Nat.zero_mod]
  · simp only [State.anchored, State.pack_fset, State.pack_modPack_self]
  · have hdue : (s.anchored p).cfgDue = s.cfgDue := by
      simp only [State.anchored, State.socFrom, State.fset, State.modPack, State.modCis]
    rw [(s.anchored_work p).frame, hdue]

/-- A pack at rest for its time is anchored, where no calibration waits for it. -/
theorem socAnchor_anchors {s : State} {p u : Nat} (hp : p < 4) (hh : s.on (Fld.CIS_PACK_STS.PRESENT p) = true)
    (hr : (s.pack p).restAt = some u) (hu : u + 1200000000000 ≤ s.now) (ha : s.on (Fld.CIS_PACK_STS.AT_REST p) = false)
    (ho : ocvValid s.ocv = true) (hc : s.calState ≠ 4) : socAnchor p s = s.anchored p := by
  have e : socAnchor p s = (s.anchored p).calAnchor p := by
    unfold socAnchor
    rw [hr]
    exact if_pos (by simp [hp, hh, hu, ha, ho])
  have hst : (s.anchored p).calState = s.calState := (s.anchored_work p).regs _ (by
    simp [Fld.CIS_CAL_STS.STATE, Fld.CIS_PACK_EST.SOC, Fld.CIS_PACK_EST.SOC_UNC, Fld.CIS_PACK_STS.AT_REST, Fld.CIS_PACK_STS.INSERT_EST]
    omega)
  rw [e]
  exact if_neg (by simp [hst, hc])

end Machine

theorem exec_socAnchor {s : State} {dt p u : Nat} (hp : p < 4) (hh : s.on (Fld.CIS_PACK_STS.PRESENT p) = true)
    (hr : (s.pack p).restAt = some u) (hu : u + 1200000000000 ≤ s.now + dt) (ha : s.on (Fld.CIS_PACK_STS.AT_REST p) = false)
    (ho : ocvValid s.ocv = true) (hc : s.calState ≠ 4) : ∃ t, exec (.socAnchor dt p) s = .next t ∧
      t.fget (Fld.CIS_PACK_EST.SOC p) = socOf s.ocv ((1000 * s.fget (Fld.CIS_PACK_STS.VOLT_MV p) /
        max 1 (s.fget (Fld.CIS_PACK_CFG.CELLS p)) : Nat) : Int) % 1024 ∧
      t.fget (Fld.CIS_PACK_EST.SOC_UNC p) = 20 ∧ t.fget (Fld.CIS_PACK_STS.AT_REST p) = 1 ∧
      t.fget (Fld.CIS_PACK_STS.INSERT_EST p) = 0 ∧ (t.pack p).uncAt = s.now + dt ∧
      (∀ q, q ≠ p → t.pack q = s.pack q) ∧ t = { s.elapse dt with regs := t.regs, cis := t.cis } ∧
      RegsBut (anchorFields p) s t := by
  have e := socAnchor_anchors (s := s.elapse dt) hp (by simpa using hh) (by simpa using hr) (by simpa using hu) (by simpa using ha)
    (by simpa using ho) (by simpa using hc)
  obtain ⟨hsoc, hunc, hrest, hest, hat, hframe⟩ := State.anchored_shows (s := s.elapse dt) (by simpa using ho) hp
  have hw := (s.elapse dt).anchored_work p
  simp only [State.elapse_ocv, State.elapse_fget, State.elapse_now] at hsoc hat
  exact ⟨_, congrArg Host.Outcome.next e, hsoc, hunc, hrest, hest, hat,
    fun q hq => (hw.others q hq).trans (State.elapse_pack ..), hframe, hw.regs.of_elapse⟩

/-! ## The uncertainty grows (R89) -/

theorem socUncGrowth_grows {s : State} {p : Nat} (hp : p < 4) (hh : s.on (Fld.CIS_PACK_STS.PRESENT p) = true)
    (hd : (s.pack p).uncAt + 86400000000000 ≤ s.now) : socUncGrowth p s =
    (s.modPack p (fun k => { k with uncAt := k.uncAt + 86400000000000 })).fset (Fld.CIS_PACK_EST.SOC_UNC p)
      (min 200 (s.fget (Fld.CIS_PACK_EST.SOC_UNC p) + 10)) := if_pos (by simp [hp, hh, hd, dayNs])

theorem exec_socUncGrowth {s : State} {dt p : Nat} (hp : p < 4) (hh : s.on (Fld.CIS_PACK_STS.PRESENT p) = true)
    (hd : (s.pack p).uncAt + 86400000000000 ≤ s.now + dt) : ∃ t, exec (.socUncGrowth dt p) s = .next t ∧
      t.fget (Fld.CIS_PACK_EST.SOC_UNC p) = min 200 (s.fget (Fld.CIS_PACK_EST.SOC_UNC p) + 10) ∧
      t.pack p = { s.pack p with uncAt := (s.pack p).uncAt + 86400000000000 } ∧
      t = { s.elapse dt with regs := t.regs, cis := t.cis } ∧ RegsBut [Fld.CIS_PACK_EST.SOC_UNC p] s t := by
  have e := socUncGrowth_grows (s := s.elapse dt) hp (by simpa using hh) (by simpa using hd)
  refine ⟨_, congrArg Host.Outcome.next e, ?_, ?_, ?_, (RegsBut.refl _ (s.elapse dt)).modPack.fset.of_elapse⟩
  · rw [State.fget_fset_self, State.elapse_fget]
    exact Nat.mod_eq_of_lt (lt_of_le_of_lt (min_le_left _ _) (by simp [Fld.CIS_PACK_EST.SOC_UNC]))
  · rw [State.pack_fset, State.pack_modPack_self, State.elapse_pack]
  · rfl

/-! ## The alarm (R112) -/

theorem alarmHit_hits {s : State} (h0 : s.fget Fld.CIS_ALARM.ALARM_US ≠ 0) (ht : s.fget Fld.CIS_ALARM.ALARM_US ≤ s.nowUs)
    (hd : s.cis.alarmDone = false) :
    alarmHit s = wakeSource 0 ((s.fset Fld.CIS_TIME_STS.ALARM_HIT 1).modCis (fun c => { c with alarmDone := true })) :=
  if_pos (by simp [h0, ht, hd])

theorem exec_alarmHit {s : State} {dt : Nat} (h0 : s.fget Fld.CIS_ALARM.ALARM_US ≠ 0)
    (ht : s.fget Fld.CIS_ALARM.ALARM_US ≤ (s.now + dt - s.vaonAt) / 1000) (hd : s.cis.alarmDone = false) :
    ∃ t, exec (.alarmHit dt) s = .next t ∧ t.fget Fld.CIS_TIME_STS.ALARM_HIT = 1 ∧ t.cis = { s.cis with alarmDone := true } ∧
      (t.fget Fld.PDM_WAKE_STS.LATCHED).testBit 0 = true ∧ (t.fget Fld.PDM_WAKE_STS.LEVEL).testBit 0 = true ∧
      t.flash = s.flash ∧ t.psq = s.psq ∧ t.dram = s.dram ∧ t.dev = s.dev := by
  have e := alarmHit_hits (s := s.elapse dt) (by simpa using h0) (by simpa [State.nowUs] using ht) (by simpa using hd)
  have hit := State.fget_fset_self (s.elapse dt) Fld.CIS_TIME_STS.ALARM_HIT 1
  have hcis : (((s.elapse dt).fset Fld.CIS_TIME_STS.ALARM_HIT 1).modCis (fun c => { c with alarmDone := true })).cis =
    { s.cis with alarmDone := true } := by simp [State.modCis, State.fset]
  have hrest : ∀ t : State, t = ((s.elapse dt).fset Fld.CIS_TIME_STS.ALARM_HIT 1).modCis (fun c => { c with alarmDone := true }) →
      t.fget Fld.CIS_TIME_STS.ALARM_HIT = 1 ∧ t.cis = { s.cis with alarmDone := true } ∧ t.flash = s.flash ∧ t.psq = s.psq ∧
      t.dram = s.dram ∧ t.dev = s.dev := by
    rintro t rfl
    exact ⟨hit, hcis, by simp [State.modCis, State.fset], by simp [State.modCis, State.fset], by simp [State.modCis], by simp [State.modCis]⟩
  generalize ((s.elapse dt).fset Fld.CIS_TIME_STS.ALARM_HIT 1).modCis (fun c => { c with alarmDone := true }) = u at e hrest
  obtain ⟨hfld, hc, hflash, hpsq, hdram, hdev⟩ := hrest u rfl
  obtain ⟨hlatched, hlevel⟩ := wakeSource_shows (w := 0) (by decide) u
  have hw := wakeSource_domWork 0 u
  refine ⟨_, congrArg Host.Outcome.next e, ?_, ?_, hlatched, hlevel, ?_, ?_, ?_, ?_⟩
  · rw [wakeSource_regs 0 u (by simp [PdmApart, Fld.CIS_TIME_STS.ALARM_HIT]) (by decide) (by decide)]
    exact hfld
  all_goals rw [hw]; assumption

end Sys2Proof

/-! # A pack leaves (O9) -/

namespace Sys2Proof
open Machine

namespace Machine

/-! ## What ends with a pack that leaves (R106) -/

theorem State.rehAbort_none {s : State} (h : s.cis.rehAt = none) (result : Nat) (path : Bool) : s.rehAbort result path = s :=
  if_neg (by simp [h])

/-- A calibration and a rehearsal end, whichever pack left, and the chargers follow. -/
def State.lossEnds (s : State) : State := ((s.calEnd 6 6).rehAbort 3 true).chargeAll

/-- The fields that the end of a calibration and of a rehearsal set, beside the input path's and the log's. -/
@[simp] def lossEndFields : List Field := [Fld.CIS_CAL_STS.STATE, Fld.CIS_CAL_STS.REASON, Fld.CIS_EVT_CNT.LEARN_REJECT,
  Fld.CIS_EVT_CNT.REJ_SAT, Fld.CIS_REH_STS.RESULT]

theorem calWork_below {s t : State} (h : CalWork s t) {f : Field} (hb : f.bit < 8 * 0x1B0000)
    (hn : f.bit ∉ lossEndFields.map Field.bit) : t.fget f = s.fget f := by
  refine h.regs f ?_
  simp only [lossEndFields, List.map_cons, List.map_nil, List.mem_cons, List.not_mem_nil, or_false, not_or] at hn ⊢
  obtain ⟨h1, h2, h3, h4, -⟩ := hn
  exact ⟨h1, h2, h3, h4, by simp only [Fld.PSQ_RAIL_STS.ENABLED]; omega⟩

/-- No rehearsal runs any more; of the packs and the cistern's registers only what speaks of rehearsals, calibrations and chargers
has changed. -/
structure LossEnded (s t : State) : Prop where
  frame : t = { s with regs := t.regs, cis := t.cis, out := t.out, rill := t.rill, log := t.log }
  packs : ∀ q, t.pack q = { s.pack q with inCal := (t.pack q).inCal, stopped := (t.pack q).stopped }
  rehAt : t.cis.rehAt = none
  cal : s.calRuns = true → t.calState = 6 ∧ t.fget Fld.CIS_CAL_STS.REASON = 6
  regs : ∀ f : Field, 8 * 0x1A0000 ≤ f.bit → f.bit < 8 * 0x1B0000 → f.bit ∉ (lossEndFields ++ chargeFields allPacks).map Field.bit →
    t.fget f = s.fget f
  held : ∀ p, p < 4 → s.counted p = false → t.on (Fld.CIS_PACK_STS.CHARGING p) = false
  quiet : s.cis.rehAt = none → t.rill = s.rill ∧ t.log = s.log

/-- The end of a rehearsal, should one run. -/
theorem State.rehAbort_ends (s : State) : ∀ t, t = s.rehAbort 3 true →
    t = { s with regs := t.regs, cis := t.cis, out := t.out, rill := t.rill, log := t.log } ∧ t.cis.packs = s.cis.packs ∧
    t.cis.rehAt = none ∧ (∀ f : Field, 8 * 0x1A0000 ≤ f.bit → f.bit < 8 * 0x1B0000 → f.bit ≠ Fld.CIS_REH_STS.RESULT.bit →
      t.fget f = s.fget f) ∧ (s.cis.rehAt = none → t.rill = s.rill ∧ t.log = s.log) := by
  rintro t rfl
  cases h : s.cis.rehAt with
  | none =>
    rw [State.rehAbort_none h]
    exact ⟨rfl, rfl, h, fun _ _ _ _ => rfl, fun _ => ⟨rfl, rfl⟩⟩
  | some u =>
    have ha := State.rehAbort_aborted (s := s) (by simp [h]) (result := 3) (by decide)
    refine ⟨ha.frame, by rw [ha.cis], by rw [ha.cis], fun f hl hh hr => ha.regs f ?_, fun hn => by simp at hn⟩
    have hlog := logFields_below hl
    simp only [List.map_cons, List.mem_cons, not_or]
    exact ⟨hr, by simp only [Fld.PSQ_RAIL_STS.ENABLED]; omega, hlog⟩

theorem State.lossEnds_ended (s : State) : LossEnded s s.lossEnds := by
  have hw := s.calEnd_work 6 6
  have hcal : s.calRuns = true → CalEnded 6 6 s (s.calEnd 6 6) := fun h => State.calEnd_ended h (by decide) (by decide)
  unfold State.lossEnds
  generalize s.calEnd 6 6 = a at hw hcal
  obtain ⟨bframe, bpacks, brehAt, bregs, bquiet⟩ := a.rehAbort_ends _ rfl
  generalize a.rehAbort 3 true = b at bframe bpacks brehAt bregs bquiet
  have hc := b.chargeAll_work
  have hrehAt : a.cis.rehAt = s.cis.rehAt := by rw [hw.frame]
  have hback : ∀ f : Field, f.bit ∉ (chargeFields allPacks).map Field.bit → b.chargeAll.fget f = b.fget f := hc.regs
  refine ⟨by rw [hc.frame, bframe, hw.frame], fun q => ?_, ?_, fun h => ?_, fun f hl hh hn => ?_, fun p hp h => ?_, fun h => ?_⟩
  · rw [hc.packs, State.pack_congr bpacks, hw.packs]
  · rw [hc.cis]
    exact brehAt
  · obtain ⟨hstate, hreason, -⟩ := hcal h
    refine ⟨?_, ?_⟩
    · rw [State.calState, hback _ (by decide), bregs _ (by decide) (by decide) (by decide)]
      exact hstate
    · rw [hback _ (by decide), bregs _ (by decide) (by decide) (by decide)]
      exact hreason
  · rw [List.map_append, List.mem_append, not_or] at hn
    obtain ⟨hend, hch⟩ := hn
    rw [hback f hch, bregs f hl hh fun h => hend (by simp [h]), calWork_below hw hh hend]
  · have hbits : ∀ p < 4, 8 * 0x1A0000 ≤ (Fld.CIS_PACK_STS.COUNTED p).bit ∧ (Fld.CIS_PACK_STS.COUNTED p).bit < 8 * 0x1B0000 ∧
        (Fld.CIS_PACK_STS.COUNTED p).bit ∉ lossEndFields.map Field.bit := by decide
    obtain ⟨hl, hh, hn⟩ := hbits p hp
    have hb : b.counted p = s.counted p := by
      rw [State.counted, State.on, bregs _ hl hh fun h => hn (by simp [h]), calWork_below hw hh hn]
      rfl
    exact State.chargeAll_held hp (by simp [State.chgHeld, hb, h])
  · obtain ⟨hr, hlg⟩ := bquiet (by rw [hrehAt, h])
    refine ⟨?_, ?_⟩
    · rw [hc.frame]
      exact hr.trans (by rw [hw.frame])
    · rw [hc.frame]
      exact hlg.trans (by rw [hw.frame])

/-! ## What is noted of a pack that leaves -/

/-- The pack is excluded. -/
def State.pulled (s : State) (p : Nat) : State :=
  (((s.fset (Fld.CIS_PACK_STS.PRESENT p) 0).fset (Fld.CIS_PACK_STS.COUNTED p) 0).modPack p (fun k => { k with
    swapDue := true
    pulse := none
    restAt := none })).fset (Fld.CIS_PACK_STS.AT_REST p) 0

/-- The loss is shown and counted. -/
def State.lossShown (s : State) (p : Nat) : State :=
  (((s.pulled p).charge p).fset Fld.CIS_TIME_STS.PACK_LOST 1).bump Fld.CIS_EVT_CNT.PACK_LOSS Fld.CIS_EVT_CNT.LOSS_SAT

/-- The loss is reported. -/
def State.lossNoted (s : State) (p : Nat) : State := (s.lossShown p).fault (srcOf 78 7) 0x46 p

theorem packRemoved_eq {s : State} {p : Nat} (hp : p < 4) (h : s.on (Fld.CIS_PACK_STS.PRESENT p) = true) :
    packRemoved p s = (s.lossNoted p).lossEnds := if_pos (by simp [hp, h])

/-- A pack that left is excluded, counted and reported. -/
structure LossNoted (p : Nat) (s t : State) : Prop where
  frame : t = { s with regs := t.regs, cis := { s.cis with packs := t.cis.packs }, flt := t.flt, out := t.out }
  present : t.fget (Fld.CIS_PACK_STS.PRESENT p) = 0
  counted : t.fget (Fld.CIS_PACK_STS.COUNTED p) = 0
  lost : t.fget Fld.CIS_TIME_STS.PACK_LOST = 1
  losses : t.fget Fld.CIS_EVT_CNT.PACK_LOSS = min (s.fget Fld.CIS_EVT_CNT.PACK_LOSS + 1) Fld.CIS_EVT_CNT.PACK_LOSS.max
  cal : t.calState = s.calState
  pack : (t.pack p).swapDue = true ∧ (t.pack p).pulse = none
  reports : Reports (srcOf 78 7) 0x46 s t

/-- The fields that the exclusion of a pack sets, and those by which it is shown and counted. -/
@[simp] def pulledFields (p : Nat) : List Field := [Fld.CIS_PACK_STS.PRESENT p, Fld.CIS_PACK_STS.COUNTED p, Fld.CIS_PACK_STS.AT_REST p]
@[simp] def lossFields : List Field := [Fld.CIS_TIME_STS.PACK_LOST, Fld.CIS_EVT_CNT.PACK_LOSS, Fld.CIS_EVT_CNT.LOSS_SAT]

theorem State.pulled_work (s : State) (p : Nat) : PackWork p (pulledFields p) s (s.pulled p) :=
  (PackWork.refl p _ s).fset.fset.modPack.fset

theorem State.lossShown_frame (s : State) (p : Nat) : s.lossShown p =
    { s with regs := (s.lossShown p).regs, cis := { s.cis with packs := (s.lossShown p).cis.packs }, out := (s.lossShown p).out } := by
  have hp : s.pulled p = { s with regs := (s.pulled p).regs, cis := { s.cis with packs := (s.pulled p).cis.packs } } := rfl
  have hc := ((s.pulled p).charge_work p).frame
  unfold State.lossShown
  rw [State.bump_eq]
  generalize (s.pulled p).charge p = c at hc ⊢
  rw [State.fset, hc, hp]

theorem State.pulled_fields (s : State) (p : Nat) : (s.pulled p).fget (Fld.CIS_PACK_STS.PRESENT p) = 0 ∧
    (s.pulled p).fget (Fld.CIS_PACK_STS.COUNTED p) = 0 := by
  have e : ∀ f : Field, f.bit ≠ (Fld.CIS_PACK_STS.AT_REST p).bit → (s.pulled p).fget f =
    ((s.fset (Fld.CIS_PACK_STS.PRESENT p) 0).fset (Fld.CIS_PACK_STS.COUNTED p) 0).fget f := fun _ hf => State.fget_fset_ne _ hf _
  constructor
  · rw [e _ (by simp only [Fld.CIS_PACK_STS.PRESENT, Fld.CIS_PACK_STS.AT_REST]; omega),
      State.fget_fset_ne _ (by simp only [Fld.CIS_PACK_STS.PRESENT, Fld.CIS_PACK_STS.COUNTED]; omega), State.fget_fset_self, Nat.zero_mod]
  · rw [e _ (by simp only [Fld.CIS_PACK_STS.COUNTED, Fld.CIS_PACK_STS.AT_REST]; omega), State.fget_fset_self, Nat.zero_mod]

/-- The exclusion of a pack, the counters of its loss and the report each leave the others' fields. -/
theorem State.lossNoted_regs (s : State) (p : Nat) :
    RegsBut (chargeFields [p] ++ (lossFields ++ FaultRegs (srcOf 78 7))) (s.pulled p) (s.lossNoted p) := by
  have hshown : RegsBut (chargeFields [p] ++ lossFields) (s.pulled p) (s.lossShown p) :=
    ((((s.pulled p).charge_work p).regs.mono fun f hf => List.mem_append_left _ hf).fset).bump
  exact (hshown.mono fun f hf => by rw [← List.append_assoc]; exact List.mem_append_left _ hf).fault

theorem State.lossNoted_noted (s : State) {p : Nat} (hp : p < 4) : LossNoted p s (s.lossNoted p) := by
  have hframe : s.lossNoted p = { s.lossShown p with regs := (s.lossNoted p).regs, flt := (s.lossNoted p).flt } := State.fault_frame ..
  have hregs := s.lossNoted_regs p
  have hfault : RegsBut (FaultRegs (srcOf 78 7)) (s.lossShown p) (s.lossNoted p) := State.fault_regsBut _ _ _ _ _
  have hrep : Reports (srcOf 78 7) 0x46 (s.lossShown p) (s.lossNoted p) := State.fault_reports _ _ _ _ _ (by decide)
  have hsf := s.lossShown_frame p
  have hpack : (s.lossShown p).cis.packs = ((s.pulled p).charge p).cis.packs := by rw [State.lossShown, State.bump_eq]; rfl
  obtain ⟨hpresent, hcounted⟩ := s.pulled_fields p
  have hcharge := (s.pulled p).charge_work p
  have hpc : ∀ p < 4, ∀ b ∈ [(Fld.CIS_PACK_STS.PRESENT p).bit, (Fld.CIS_PACK_STS.COUNTED p).bit, Fld.CIS_CAL_STS.STATE.bit],
    b ∉ (chargeFields [p] ++ (lossFields ++ FaultRegs (srcOf 78 7))).map Field.bit := by decide
  have hcount : ∀ p < 4, Fld.CIS_EVT_CNT.PACK_LOSS.bit ∉ (chargeFields [p]).map Field.bit := by decide
  have hpull : ∀ p < 4, ∀ b ∈ [Fld.CIS_CAL_STS.STATE.bit, Fld.CIS_EVT_CNT.PACK_LOSS.bit], b ∉ (pulledFields p).map Field.bit := by decide
  refine ⟨?_, ?_, ?_, ?_, ?_, ?_, ?_, ?_⟩
  · rw [hframe, hsf]
  · rw [hregs _ (hpc p hp _ (by simp)), hpresent]
  · rw [hregs _ (hpc p hp _ (by simp)), hcounted]
  · rw [hfault _ (by decide), State.lossShown, State.fget_bump_ne _ (by decide) (by decide), State.fget_fset_self]
    rfl
  · rw [hfault _ (by decide), State.lossShown, State.fget_bump_self _ (by decide), State.fget_fset_ne _ (by decide),
      hcharge.regs _ (hcount p hp), (s.pulled_work p).regs _ (hpull p hp _ (by simp))]
  · rw [State.calState, hregs _ (hpc p hp _ (by simp)), (s.pulled_work p).regs _ (hpull p hp _ (by simp))]
    rfl
  · have e : (s.lossNoted p).pack p = ((s.pulled p).charge p).pack p := by
      rw [State.pack_congr (s := s.lossShown p) (by rw [hframe]), State.pack_congr hpack]
    rw [e, hcharge.packs]
    simp [State.pulled]
  · exact hrep.of_flt (by rw [hsf])

end Machine

theorem exec_packRemoved {s : State} {p : Nat} (dt : Nat) (hp : p < 4) (h : s.on (Fld.CIS_PACK_STS.PRESENT p) = true) :
    ∃ t, exec (.packRemoved dt p) s = .next t ∧ t.fget (Fld.CIS_PACK_STS.PRESENT p) = 0 ∧
      t.fget (Fld.CIS_PACK_STS.COUNTED p) = 0 ∧ t.on (Fld.CIS_PACK_STS.CHARGING p) = false ∧
      t.fget Fld.CIS_TIME_STS.PACK_LOST = 1 ∧
      (1 ≤ s.calState → s.calState ≤ 4 → t.calState = 6 ∧ t.fget Fld.CIS_CAL_STS.REASON = 6) ∧
      t.fget Fld.CIS_EVT_CNT.PACK_LOSS = min (s.fget Fld.CIS_EVT_CNT.PACK_LOSS + 1) Fld.CIS_EVT_CNT.PACK_LOSS.max ∧
      (t.pack p).swapDue = true ∧ (t.pack p).pulse = none ∧ t.cis.rehAt = none ∧ Reports (srcOf 78 7) 0x46 s t ∧
      (s.cis.rehAt = none → t.rill = s.rill ∧ t.log = s.log ∧ t.freeCtr = s.freeCtr) ∧
      t = { s.elapse dt with
        regs := t.regs, cis := t.cis, flt := t.flt, out := t.out, rill := t.rill, log := t.log, freeCtr := t.freeCtr } := by
  have e := packRemoved_eq (s := s.elapse dt) hp (by simpa using h)
  obtain ⟨nframe, npresent, ncounted, nlost, nlosses, ncal, ⟨nswap, npulse⟩, nreports⟩ := (s.elapse dt).lossNoted_noted hp
  simp only [State.elapse_fget, State.elapse_calState] at nlosses ncal
  generalize (s.elapse dt).lossNoted p = a at e nframe npresent ncounted nlost nlosses ncal nswap npulse nreports
  obtain ⟨eframe, epacks, erehAt, ecal, eregs, eheld, equiet⟩ := a.lossEnds_ended
  have hflds : ∀ p < 4, ∀ b ∈ [(Fld.CIS_PACK_STS.PRESENT p).bit, (Fld.CIS_PACK_STS.COUNTED p).bit, Fld.CIS_TIME_STS.PACK_LOST.bit,
      Fld.CIS_EVT_CNT.PACK_LOSS.bit], 8 * 0x1A0000 ≤ b ∧ b < 8 * 0x1B0000 ∧ b ∉ (lossEndFields ++ chargeFields allPacks).map Field.bit := by
    decide
  have hkeep : ∀ f : Field, f.bit ∈ [(Fld.CIS_PACK_STS.PRESENT p).bit, (Fld.CIS_PACK_STS.COUNTED p).bit, Fld.CIS_TIME_STS.PACK_LOST.bit,
      Fld.CIS_EVT_CNT.PACK_LOSS.bit] → a.lossEnds.fget f = a.fget f := fun f hf => by
    obtain ⟨hl, hh, hn⟩ := hflds p hp _ hf
    exact eregs f hl hh hn
  generalize a.lossEnds = t at e eframe epacks erehAt ecal eregs eheld equiet hkeep
  have aflt : (s.elapse dt).flt = s.flt := State.elapse_flt ..
  refine ⟨t, congrArg Host.Outcome.next e, ?_, ?_, ?_, ?_, fun h1 h4 => ecal ?_, ?_, ?_, ?_, erehAt, ?_, fun hn => ?_, ?_⟩
  · rw [hkeep _ (by simp), npresent]
  · rw [hkeep _ (by simp), ncounted]
  · exact eheld p hp (by simp [State.counted, State.on, ncounted])
  · rw [hkeep _ (by simp), nlost]
  · rw [State.calRuns_iff, ncal]
    exact ⟨h1, h4⟩
  · rw [hkeep _ (by simp), nlosses]
  · rw [epacks]
    exact nswap
  · rw [epacks]
    exact npulse
  · exact (nreports.of_flt aflt).mono fun x hx => by rw [eframe]; exact hx
  · have ha : a.cis.rehAt = none ∧ a.rill = s.rill ∧ a.log = s.log ∧ a.freeCtr = s.freeCtr := by
      rw [nframe]
      exact ⟨by rw [State.elapse_cis]; exact hn, State.elapse_rill .., State.elapse_log .., State.elapse_freeCtr ..⟩
    obtain ⟨har, hrill, hlog, hfree⟩ := ha
    obtain ⟨hr, hl⟩ := equiet har
    exact ⟨hr.trans hrill, hl.trans hlog, by rw [eframe]; exact hfree⟩
  · rw [eframe, nframe]

end Sys2Proof

/-! # A pack arrives (O9) -/

namespace Sys2Proof
open Machine

namespace Machine

/-! ## What is noted of a pack that arrives, and of one that is taken in (R107) -/

/-- The pack is present, at its voltage. -/
def State.arrived (s : State) (p mv : Nat) : State :=
  ((s.fset (Fld.CIS_PACK_STS.PRESENT p) 1).fsat (Fld.CIS_PACK_STS.VOLT_MV p) mv).modPack p (fun k => { k with
    heldAt := s.now
    vIn := some mv
    swapDue := true })

/-- SOC is set from the pack's voltage, and waits for an anchor. -/
def State.estimated (s : State) (p : Nat) : State :=
  ((((s.socFrom p ((s.pack p).vIn.getD (s.fget (Fld.CIS_PACK_STS.VOLT_MV p)))).modPack p (fun k => { k with
    vIn := none
    swapDue := false
    uncAt := s.now
    restAt := none
    pulse := none
    pulseAt := none })).fset (Fld.CIS_PACK_EST.SOC_UNC p) 50).fset (Fld.CIS_PACK_STS.INSERT_EST p) 1).fset
    (Fld.CIS_PACK_STS.AT_REST p) 0

/-- The default table of impedances is taken. -/
def State.defaultTable (s : State) (p : Nat) (d : Nat → Nat) : State := (List.range 40).foldl (fun s i => s.setZ p i (d i)) s

/-- The learned record starts anew. -/
def State.forgotten (s : State) (p : Nat) : State :=
  ((s.modPack p (fun k => { k with q := k.qDes * 80 / 100, dis := 0 })).fset (Fld.CIS_PACK_EST.LOAD_F p) 255).fset
    (Fld.CIS_PACK_EST.CYCLES p) 0

theorem State.swapIn_eq (s : State) (p : Nat) : s.swapIn p =
    if (s.estimated p).on Fld.CIS_CFG.SWAP_POLICY then s.estimated p
    else ((((s.estimated p).forgotten p).defaultTable p ((s.estimated p).forgotten p).defaultZ).healthShow p).zChanged p := rfl

theorem packInserted_eq {s : State} {p : Nat} (hp : p < 4) (h : s.on (Fld.CIS_PACK_STS.PRESENT p) = false) (mv : Nat) :
    packInserted p mv s = if s.dev == .off then s.arrived p mv else (s.arrived p mv).swapIn p := if_pos (by simp [hp, h])

theorem State.arrived_frame (s : State) (p mv : Nat) :
    s.arrived p mv = { s with regs := (s.arrived p mv).regs, cis := (s.arrived p mv).cis } := rfl

theorem State.arrived_pack (s : State) (p mv : Nat) : (s.arrived p mv).pack p =
    { s.pack p with heldAt := s.now, vIn := some mv, swapDue := true } := by
  simp only [State.arrived, State.pack_modPack_self, State.fsat, State.pack_fset]

/-! ## The fields of each -/

@[simp] def arriveFields (p : Nat) : List Field := [Fld.CIS_PACK_STS.PRESENT p, Fld.CIS_PACK_STS.VOLT_MV p]
@[simp] def estimateFields (p : Nat) : List Field := [Fld.CIS_PACK_EST.SOC p, Fld.CIS_PACK_EST.SOC_UNC p, Fld.CIS_PACK_STS.INSERT_EST p,
  Fld.CIS_PACK_STS.AT_REST p]
/-- The fields of a learned record. -/
def recordFields (p : Nat) : List Field := Fld.CIS_PACK_EST.LOAD_F p :: Fld.CIS_PACK_EST.CYCLES p :: Fld.CIS_PACK_EST.HEALTH p ::
  (List.range 40).map (zField p)

theorem State.arrived_work (s : State) (p mv : Nat) : PackWork p (arriveFields p) s (s.arrived p mv) :=
  (PackWork.refl p _ s).fset.fsat.modPack

theorem State.estimated_work (s : State) (p : Nat) : PackWork p (estimateFields p) s (s.estimated p) :=
  (((s.socFrom_work p _).mono.modPack.fset).fset).fset

theorem State.forgotten_work (s : State) (p : Nat) : PackWork p (recordFields p) s (s.forgotten p) :=
  ((PackWork.refl p _ s).modPack.fset (by simp [recordFields])).fset (by simp [recordFields])

theorem State.setZ_work (s : State) (p : Nat) {i : Nat} (hi : i < 40) (v : Nat) :
    PackWork p ((List.range 40).map (zField p)) s (s.setZ p i v) := by
  rw [State.setZ_eq]
  exact (PackWork.refl p _ s).fset (List.mem_map_of_mem (List.mem_range.2 hi))

/-- The table's entries are the registers of the pack's impedances. -/
theorem State.defaultTable_regs (s : State) (p : Nat) (d : Nat → Nat) :
    PackWork p ((List.range 40).map (zField p)) s (s.defaultTable p d) ∧ (s.defaultTable p d).pack p = s.pack p := by
  have hall : ∀ l : List Nat, (∀ i ∈ l, i < 40) → ∀ u : State,
      PackWork p ((List.range 40).map (zField p)) u (l.foldl (fun s i => s.setZ p i (d i)) u) ∧
      (l.foldl (fun s i => s.setZ p i (d i)) u).pack p = u.pack p := fun l => by
    induction l with
    | nil => exact fun _ u => ⟨.refl _ _ u, rfl⟩
    | cons i l ih =>
      intro hl u
      obtain ⟨hw, hp⟩ := ih (fun j hj => hl j (by simp [hj])) (u.setZ p i (d i))
      exact ⟨(u.setZ_work p (hl i (by simp)) (d i)).trans hw, hp.trans (u.pack_setZ ..)⟩
  exact hall (List.range 40) (fun i => List.mem_range.1) s

theorem State.defaultTable_work (s : State) (p : Nat) (d : Nat → Nat) : PackWork p (recordFields p) s (s.defaultTable p d) :=
  (s.defaultTable_regs p d).1.mono fun f hf => by simp only [recordFields, List.mem_cons]; exact .inr (.inr (.inr hf))

/-- Every entry of the table is its default, as far as its register holds it. -/
theorem State.defaultTable_zEntry (s : State) (p : Nat) (d : Nat → Nat) {i : Nat} (hi : i < 40) :
    (s.defaultTable p d).zEntry p i = min (d i) 65535 := by
  obtain ⟨u, -, hv⟩ := foldl_turn (K := fun a b : State => b.zEntry p i = a.zEntry p i) (fun _ => rfl) (fun h k => k.trans h)
    (List.mem_range.2 hi) List.nodup_range
    (fun j hj h (u : State) => u.zEntry_setZ_ne (List.mem_range.1 hj) hi (.inr (Ne.symm h)) (d j)) s
  exact hv.trans (u.zEntry_setZ_self p i (d i))

theorem State.defaultZ_congr {s t : State} (h : t.cfgHalf = s.cfgHalf) (hb : t.boot = s.boot) : t.defaultZ = s.defaultZ := by
  funext i
  simp only [State.defaultZ, State.cfgBest, h, hb]

/-! ## A pack that arrives learns anew (SWAP_POLICY 0) -/

/-- The record of a pack learns anew, and its copies are to be written. -/
def State.relearned (s : State) (p : Nat) : State :=
  (((s.forgotten p).defaultTable p (s.forgotten p).defaultZ).healthShow p).zChanged p

/-- A pack's record is what its design and the default table make it (R107). -/
structure Relearned (p : Nat) (s t : State) : Prop where
  work : PackWork p (recordFields p) s t
  load : t.fget (Fld.CIS_PACK_EST.LOAD_F p) = 255
  cycles : t.fget (Fld.CIS_PACK_EST.CYCLES p) = 0
  table : ∀ i, i < 40 → t.zEntry p i = min (s.defaultZ i) 65535
  pack : t.pack p = { s.pack p with
    q := (s.pack p).qDes * 80 / 100
    dis := 0
    chrysR := (t.pack p).chrysR
    recDue := (t.pack p).recDue
    zAt := (t.pack p).zAt }

theorem State.relearned_spec (s : State) (p : Nat) : Relearned p s (s.relearned p) := by
  have hf := s.forgotten_work p
  have hd : (s.forgotten p).defaultZ = s.defaultZ := State.defaultZ_congr (by rw [hf.frame]) (by rw [hf.frame])
  have hload : (s.forgotten p).fget (Fld.CIS_PACK_EST.LOAD_F p) = 255 := by
    rw [State.forgotten, State.fget_fset_ne _ (by simp only [Fld.CIS_PACK_EST.LOAD_F, Fld.CIS_PACK_EST.CYCLES]; omega),
      State.fget_fset_self]
    rfl
  have hcycles : (s.forgotten p).fget (Fld.CIS_PACK_EST.CYCLES p) = 0 := by
    rw [State.forgotten, State.fget_fset_self, Nat.zero_mod]
  have hpack : (s.forgotten p).pack p = { s.pack p with q := (s.pack p).qDes * 80 / 100, dis := 0 } := by
    simp only [State.forgotten, State.pack_fset, State.pack_modPack_self]
  unfold State.relearned
  rw [hd]
  generalize s.forgotten p = a at hf hload hcycles hpack
  have hw := a.defaultTable_work p s.defaultZ
  obtain ⟨⟨-, -, hwr⟩, hwp⟩ := a.defaultTable_regs p s.defaultZ
  have hz := fun i (hi : i < 40) => a.defaultTable_zEntry p s.defaultZ hi
  generalize a.defaultTable p s.defaultZ = b at hw hwp hwr hz
  have hh : RegsBut [Fld.CIS_PACK_EST.HEALTH p] b (b.healthShow p) := (RegsBut.refl _ b).fset
  have hhw : PackWork p (recordFields p) b (b.healthShow p) := (PackWork.refl p _ b).fset (by simp [recordFields])
  have hhp : (b.healthShow p).pack p = b.pack p := rfl
  generalize b.healthShow p = c at hh hhw hhp
  have hr := (RecWork.refl p c).zChanged
  have hzp : ∀ f : Field, f.bit = 8 * (0x1a0050 + 8 * p) ∨ f.bit = 8 * (0x1a0050 + 8 * p) + 48 →
      f.bit ∉ ((List.range 40).map (zField p)).map Field.bit := by
    intro f hf hm
    simp only [List.map_map, List.mem_map, Function.comp_apply, zField_bit] at hm
    obtain ⟨i, -, hi⟩ := hm
    omega
  refine ⟨((hf.trans hw).trans hhw).recWork hr, ?_, ?_, fun i hi => ?_, ?_⟩
  · rw [hr.fget, hh _ (by simp [Fld.CIS_PACK_EST.LOAD_F, Fld.CIS_PACK_EST.HEALTH]), hwr _ (hzp _ (.inl rfl)), hload]
  · rw [hr.fget, hh _ (by simp [Fld.CIS_PACK_EST.CYCLES, Fld.CIS_PACK_EST.HEALTH]), hwr _ (hzp _ (.inr rfl)), hcycles]
  · rw [hr.zEntry, State.zEntry_eq, hh _ (by
      rw [zField_bit]
      simp only [Fld.CIS_PACK_EST.HEALTH, List.map_cons, List.map_nil, List.mem_singleton]
      omega), ← State.zEntry_eq, hz i hi]
  · rw [hr.pack, hhp, hwp, hpack]

/-! ## What is shown of the pack that arrived -/

/-- The pack is present, at its voltage. -/
structure Arrived (p mv : Nat) (s t : State) : Prop where
  present : t.fget (Fld.CIS_PACK_STS.PRESENT p) = 1
  volts : t.fget (Fld.CIS_PACK_STS.VOLT_MV p) = min mv 65535
  heldAt : (t.pack p).heldAt = s.now

/-- Its charge is an estimate. -/
structure Estimated (p : Nat) (s t : State) : Prop where
  due : (t.pack p).swapDue = false
  unc : t.fget (Fld.CIS_PACK_EST.SOC_UNC p) = 50
  est : t.fget (Fld.CIS_PACK_STS.INSERT_EST p) = 1
  uncAt : (t.pack p).uncAt = s.now

theorem State.arrived_arrived (s : State) (p mv : Nat) : Arrived p mv s (s.arrived p mv) := by
  have e : ∀ f, (s.arrived p mv).fget f =
    ((s.fset (Fld.CIS_PACK_STS.PRESENT p) 1).fsat (Fld.CIS_PACK_STS.VOLT_MV p) mv).fget f := fun _ => rfl
  refine ⟨?_, ?_, by simp only [State.arrived, State.pack_modPack_self]⟩
  · rw [e, State.fsat, State.fget_fset_ne _ (by simp only [Fld.CIS_PACK_STS.PRESENT, Fld.CIS_PACK_STS.VOLT_MV]; omega),
      State.fget_fset_self]
    rfl
  · rw [e, State.fsat, State.fget_fset_self]
    exact Nat.mod_eq_of_lt (lt_of_le_of_lt (min_le_right _ _) (by simp [Field.max, Fld.CIS_PACK_STS.VOLT_MV]))

theorem State.estimated_estimated (s : State) (p : Nat) : Estimated p s (s.estimated p) ∧
    ((s.estimated p).pack p).heldAt = (s.pack p).heldAt ∧ ((s.estimated p).pack p).q = (s.pack p).q ∧
    ((s.estimated p).pack p).qDes = (s.pack p).qDes := by
  have hk : (s.estimated p).pack p = { (s.pack p) with
      resid := 0, vIn := none, swapDue := false, uncAt := s.now, restAt := none, pulse := none, pulseAt := none } := by
    simp only [State.estimated, State.socFrom, State.pack_fset, State.pack_modPack_self]
  refine ⟨⟨by rw [hk], ?_, ?_, by rw [hk]⟩, by rw [hk], by rw [hk], by rw [hk]⟩
  · rw [State.estimated, State.fget_fset_ne _ (by simp only [Fld.CIS_PACK_EST.SOC_UNC, Fld.CIS_PACK_STS.AT_REST]; omega),
      State.fget_fset_ne _ (by simp only [Fld.CIS_PACK_EST.SOC_UNC, Fld.CIS_PACK_STS.INSERT_EST]; omega), State.fget_fset_self]
    rfl
  · rw [State.estimated, State.fget_fset_ne _ (by simp only [Fld.CIS_PACK_STS.INSERT_EST, Fld.CIS_PACK_STS.AT_REST]; omega),
      State.fget_fset_self]
    rfl

/-- The fields that show an arrival and its estimate are not of the learned record. -/
theorem not_recordFields {p : Nat} (hp : p < 4) : ∀ b ∈ (arriveFields p ++ estimateFields p).map Field.bit,
    b ∉ (recordFields p).map Field.bit := by
  have h : ∀ p < 4, ∀ b ∈ (arriveFields p ++ estimateFields p).map Field.bit, b ∉ (recordFields p).map Field.bit := by decide
  exact h p hp

/-- What is shown of an arrival stays, where a pack's further turn sets other fields. -/
theorem Arrived.kept {p mv : Nat} {fs : List Field} {s t u : State} (h : Arrived p mv s t) (k : PackWork p fs t u)
    (hf : ∀ b ∈ (arriveFields p).map Field.bit, b ∉ fs.map Field.bit) (hh : (u.pack p).heldAt = (t.pack p).heldAt) :
    Arrived p mv s u where
  present := (k.regs _ (hf _ (by simp))).trans h.present
  volts := (k.regs _ (hf _ (by simp))).trans h.volts
  heldAt := hh.trans h.heldAt

/-- A pack that arrived is taken in by SWAP_POLICY at once: what is noted of it either way. -/
theorem State.swapIn_taken {s : State} {p : Nat} (hp : p < 4) : ∃ fs, PackWork p fs s (s.swapIn p) ∧ Estimated p s (s.swapIn p) ∧
    ((s.swapIn p).pack p).heldAt = (s.pack p).heldAt ∧ (∀ b ∈ (arriveFields p).map Field.bit, b ∉ fs.map Field.bit) ∧
    (s.on Fld.CIS_CFG.SWAP_POLICY = true → ((s.swapIn p).pack p).q = (s.pack p).q ∧ fs = estimateFields p) ∧
    (s.on Fld.CIS_CFG.SWAP_POLICY = false → ((s.swapIn p).pack p).q = (s.pack p).qDes * 80 / 100 ∧
      (s.swapIn p).fget (Fld.CIS_PACK_EST.LOAD_F p) = 255 ∧ (s.swapIn p).fget (Fld.CIS_PACK_EST.CYCLES p) = 0 ∧
      ∀ i, i < 40 → (s.swapIn p).zEntry p i = min (s.defaultZ i) 65535) := by
  have hpol : ∀ p < 4, Fld.CIS_CFG.SWAP_POLICY.bit ∉ (estimateFields p).map Field.bit := by decide
  have hes : ∀ p < 4, ∀ b ∈ (arriveFields p).map Field.bit, b ∉ (estimateFields p).map Field.bit := by decide
  have hw := s.estimated_work p
  have hon : (s.estimated p).on Fld.CIS_CFG.SWAP_POLICY = s.on Fld.CIS_CFG.SWAP_POLICY := congrArg (· == 1) (hw.regs _ (hpol p hp))
  have e : s.swapIn p = if s.on Fld.CIS_CFG.SWAP_POLICY then s.estimated p else (s.estimated p).relearned p := by
    rw [← hon]
    exact s.swapIn_eq p
  obtain ⟨hest, hheld, hq, hdes⟩ := s.estimated_estimated p
  have hd : (s.estimated p).defaultZ = s.defaultZ := State.defaultZ_congr (by rw [hw.frame]) (by rw [hw.frame])
  rw [e]
  generalize s.estimated p = a at *
  cases h : s.on Fld.CIS_CFG.SWAP_POLICY with
  | true =>
    rw [if_pos rfl]
    exact ⟨estimateFields p, hw, hest, hheld, hes p hp, fun _ => ⟨hq, rfl⟩, fun h => by simp at h⟩
  | false =>
    rw [if_neg (by simp)]
    obtain ⟨rwork, rload, rcycles, rtable, rpack⟩ := a.relearned_spec p
    generalize a.relearned p = b at *
    have hkeep : ∀ f ∈ estimateFields p, b.fget f = a.fget f := fun f hf => rwork.regs f
      (not_recordFields hp _ (List.mem_map_of_mem (List.mem_append_right _ hf)))
    refine ⟨estimateFields p ++ recordFields p, ?_, ?_, ?_, fun x hx => ?_, fun h => by simp at h, fun _ => ⟨?_, rload, rcycles, ?_⟩⟩
    · exact (hw.mono fun f hf => List.mem_append_left _ hf).trans (rwork.mono fun f hf => List.mem_append_right _ hf)
    · obtain ⟨edue, eunc, eest, eat⟩ := hest
      exact ⟨by rw [rpack]; exact edue, (hkeep _ (by simp)).trans eunc, (hkeep _ (by simp)).trans eest, by rw [rpack]; exact eat⟩
    · rw [rpack]
      exact hheld
    · rw [List.map_append, List.mem_append, not_or]
      refine ⟨hes p hp x hx, not_recordFields hp x ?_⟩
      rw [List.map_append]
      exact List.mem_append_left _ hx
    · rw [rpack, ← hdes]
    · rwa [← hd]

end Machine

theorem exec_packInserted {s : State} (dt : Nat) {p : Nat} (mv : Nat) (hp : p < 4) (h : s.on (Fld.CIS_PACK_STS.PRESENT p) = false) :
    ∃ t, exec (.packInserted dt p mv) s = .next t ∧ t.fget (Fld.CIS_PACK_STS.PRESENT p) = 1 ∧
      t.fget (Fld.CIS_PACK_STS.VOLT_MV p) = min mv 65535 ∧ (t.pack p).heldAt = s.now + dt ∧
      (s.dev = .off → (t.pack p).swapDue = true ∧ (t.pack p).vIn = some mv ∧
        t = { s.elapse dt with regs := t.regs, cis := t.cis } ∧
        RegsBut [Fld.CIS_PACK_STS.PRESENT p, Fld.CIS_PACK_STS.VOLT_MV p] s t) ∧
      (s.dev ≠ .off → (t.pack p).swapDue = false ∧ t.fget (Fld.CIS_PACK_EST.SOC_UNC p) = 50 ∧
        t.fget (Fld.CIS_PACK_STS.INSERT_EST p) = 1 ∧ (t.pack p).uncAt = s.now + dt) ∧
      (s.dev ≠ .off → s.on Fld.CIS_CFG.SWAP_POLICY = true → (t.pack p).q = (s.pack p).q ∧
        RegsBut [Fld.CIS_PACK_STS.PRESENT p, Fld.CIS_PACK_STS.VOLT_MV p, Fld.CIS_PACK_EST.SOC p, Fld.CIS_PACK_EST.SOC_UNC p,
          Fld.CIS_PACK_STS.INSERT_EST p, Fld.CIS_PACK_STS.AT_REST p] s t) ∧
      (s.dev ≠ .off → s.on Fld.CIS_CFG.SWAP_POLICY = false → (t.pack p).q = (s.pack p).qDes * 80 / 100 ∧
        t.fget (Fld.CIS_PACK_EST.LOAD_F p) = 255 ∧ t.fget (Fld.CIS_PACK_EST.CYCLES p) = 0 ∧
        (∀ i, i < 40 → t.zEntry p i = min (s.defaultZ i) 65535)) ∧
      (∀ q, q ≠ p → t.pack q = s.pack q) ∧ t = { s.elapse dt with regs := t.regs, cis := t.cis, cfgDue := t.cfgDue } := by
  have e := packInserted_eq (s := s.elapse dt) hp (by simpa using h) mv
  have hw := (s.elapse dt).arrived_work p mv
  have ha := (s.elapse dt).arrived_arrived p mv
  have hpack := (s.elapse dt).arrived_pack p mv
  have hframe := (s.elapse dt).arrived_frame p mv
  have hz : ((s.elapse dt).arrived p mv).defaultZ = s.defaultZ :=
    (State.defaultZ_congr (by rw [hw.frame]) (by rw [hw.frame])).trans (funext fun i => State.elapse_defaultZ s dt i)
  have hpol : ∀ p < 4, Fld.CIS_CFG.SWAP_POLICY.bit ∉ (arriveFields p).map Field.bit := by decide
  have hon : ((s.elapse dt).arrived p mv).on Fld.CIS_CFG.SWAP_POLICY = s.on Fld.CIS_CFG.SWAP_POLICY :=
    congrArg (· == 1) ((hw.regs.of_elapse) _ (hpol p hp))
  have hnow : ((s.elapse dt).arrived p mv).now = s.now + dt := by rw [hw.frame, State.elapse_now]
  generalize (s.elapse dt).arrived p mv = a at *
  simp only [State.elapse_pack, State.elapse_now, State.elapse_dev] at hpack e
  have hothers : ∀ q, q ≠ p → a.pack q = s.pack q := fun q hq => (hw.others q hq).trans (State.elapse_pack ..)
  by_cases hd : s.dev = .off
  · rw [if_pos (by simp [hd])] at e
    exact ⟨a, congrArg Host.Outcome.next e, ha.present, ha.volts, by rw [hpack],
      fun _ => ⟨by rw [hpack], by rw [hpack], hframe, hw.regs.of_elapse⟩, fun h => absurd hd h, fun h => absurd hd h,
      fun h => absurd hd h, hothers, by rw [hw.frame]⟩
  · rw [if_neg (by simpa using hd)] at e
    obtain ⟨fs, hwork, ⟨hdue, hunc, hest, hat⟩, hheld, harr, hkeep, hlearn⟩ := State.swapIn_taken (s := a) hp
    generalize a.swapIn p = t at *
    have hin := ha.kept hwork harr hheld
    rw [hon] at hkeep hlearn
    refine ⟨t, congrArg Host.Outcome.next e, hin.present, hin.volts, by rw [hheld, hpack], fun h => absurd h hd,
      fun _ => ⟨hdue, hunc, hest, hat.trans hnow⟩, fun _ hp => ?_, fun _ hp => ?_, fun q hq => (hwork.others q hq).trans (hothers q hq), ?_⟩
    · obtain ⟨hq, rfl⟩ := hkeep hp
      exact ⟨hq.trans (by rw [hpack]), (hw.regs.of_elapse.mono).trans (hwork.regs.mono)⟩
    · rw [hz, hpack] at hlearn
      exact hlearn hp
    · rw [hwork.frame, hw.frame]

end Sys2Proof

/-! # What the converters bring, and the packs that leave and arrive (O9) -/

namespace Sys2Proof
open Machine

theorem exec_coulombSample (s : State) (dt : Nat) (sh : List Int) :
    ∃ t, exec (.coulombSample dt sh) s = .next t ∧
      (∀ p v, p < 4 → sh[p]? = some v → -32768 ≤ v → v ≤ 32767 → 0 < s.fget (Fld.CIS_PACK_CFG.SHUNT_UOHM p) →
        t.fget (Fld.CIS_PACK_STS.CURRENT p) =
          toField 16 (v * 15625 / ((80 * s.fget (Fld.CIS_PACK_CFG.SHUNT_UOHM p) : Nat) : Int)) ∧
        (t.pack p).cur = v ∧ (t.pack p).count = ofField 48 (toField 48 ((s.pack p).count + v)) ∧
        (s.on (Fld.CIS_PACK_STS.PRESENT p) = false →
          t.fget (Fld.CIS_PACK_EST.SOC p) = s.fget (Fld.CIS_PACK_EST.SOC p))) ∧
      (∀ p, p < 4 → sh[p]? = none → t.pack p = s.pack p) ∧
      t = { s.elapse dt with regs := t.regs, cis := t.cis, cfgDue := t.cfgDue } ∧
      RegsBut ([0, 1, 2, 3].flatMap shuntFields) s t := by
  obtain ⟨hframe, hregs⟩ := coulombSample_work (s.elapse dt) sh
  have hcounts := fun (p : Nat) (hp : p < 4) => coulombSample_counts (s.elapse dt) sh hp
  simp only [State.elapse_fget, State.elapse_pack, State.elapse_on] at hcounts
  exact ⟨_, rfl, fun p v hp => (hcounts p hp).1 v, fun p hp => (hcounts p hp).2, hframe, hregs.of_elapse⟩

/-- Settles O9, event by event: a pass over the packs in which a pack's own turn alone concerns it, the anchors and the alarm, and
what a pack that leaves ends and one that arrives begins. -/
theorem packsAreMeasuredAndSwapped : Obligations.PacksAreMeasuredAndSwapped := by
  unfold Obligations.PacksAreMeasuredAndSwapped
  refine ⟨exec_coulombSample, exec_cisternSample, fun s dt p hp => exec_packCounted s dt hp,
    fun s dt p u hp hh hr hu ha ho hc => exec_socAnchor hp hh hr hu ha ho hc, fun s dt p hp hh hd => exec_socUncGrowth hp hh hd,
    fun s dt h0 ht hd => exec_alarmHit h0 ht hd, fun s dt b => rfl, fun s dt p hp h => exec_packRemoved dt hp h,
    fun s dt p mv hp h => exec_packInserted dt mv hp h⟩

end Sys2Proof

/-! # Always-on time and what has left the device only grow (O4)

One lemma per operation of the model, named after it and with the hypothesis first, so that the proof for an operation reads as
the operation does: `h.modRing.fset.emit` for `((s.modRing …).fset …).emit …`. Only `emit` and `emits` write the output and only
`elapse` and the way to a beat boundary write the time; every other record update is `rest`. The invariant of O3 speaks of the
tables alone, so the operations are gone through here for what it leaves open. -/

namespace Sys2Proof
open Machine

/-- Since `s₀` time has not run back, and the output holds what it held. -/
structure Grown (s₀ s : State) : Prop where
  now : s₀.now ≤ s.now
  out : s₀.out <+: s.out

namespace Grown

theorem refl (s : State) : Grown s s := ⟨le_rfl, ⟨[], List.append_nil _⟩⟩

/-! ## Time, output, and the rest -/

section Updates
variable {s₀ s : State}

/-- What is neither time nor output does not matter. -/
theorem rest
    {pending colTime beat freeCtr regs staged captured commitHeld snaps heldLow cfgHalf cfgDue dev col tx flt fab lds mbx pages dram
    poison flash recIdx stripesOn eddy rill log rfl_ rings accSeq rngAt molt spill sealedImg elys targets chans mapGrain mapHash
    reservePm psq doms pdmLock vaonAt chrys chrysPsq timeLost cis boot flm twb}
    (h : Grown s₀ s) : Grown s₀ { s with
      pending := pending, colTime := colTime, beat := beat, freeCtr := freeCtr, regs := regs, staged := staged
      captured := captured, commitHeld := commitHeld, snaps := snaps, heldLow := heldLow, cfgHalf := cfgHalf, cfgDue := cfgDue
      dev := dev, col := col, tx := tx, flt := flt, fab := fab, lds := lds, mbx := mbx, pages := pages, dram := dram
      poison := poison, flash := flash, recIdx := recIdx, stripesOn := stripesOn, eddy := eddy, rill := rill, log := log
      rfl_ := rfl_, rings := rings, accSeq := accSeq, rngAt := rngAt, molt := molt, spill := spill, sealedImg := sealedImg
      elys := elys, targets := targets, chans := chans, mapGrain := mapGrain, mapHash := mapHash, reservePm := reservePm
      psq := psq, doms := doms, pdmLock := pdmLock, vaonAt := vaonAt, chrys := chrys, chrysPsq := chrysPsq
      timeLost := timeLost, cis := cis, boot := boot, flm := flm, twb := twb } := ⟨h.now, h.out⟩

theorem later {dt : Nat} (h : Grown s₀ s) : Grown s₀ { s with now := s.now + dt } := ⟨h.now.trans (Nat.le_add_right _ _), h.out⟩
theorem emits {os} (h : Grown s₀ s) : Grown s₀ (s.emits os) := ⟨h.now, h.out.trans ⟨_, rfl⟩⟩
theorem emit {o} (h : Grown s₀ s) : Grown s₀ (s.emit o) := ⟨h.now, h.out.trans ⟨_, rfl⟩⟩

end Updates

/-! ## Branches and folds -/

section Control
variable {s₀ s : State}

theorem ite {c : Prop} {_ : Decidable c} {a b : State} (ha : Grown s₀ a) (hb : Grown s₀ b) :
    Grown s₀ (if c then a else b) := by
  split
  · exact ha
  · exact hb

theorem ite_fst {α : Type} {c : Prop} {_ : Decidable c} {a b : State × α} (ha : Grown s₀ a.1) (hb : Grown s₀ b.1) :
    Grown s₀ (if c then a else b).1 := by
  split
  · exact ha
  · exact hb

theorem pair {α : Type} {x : α} (h : Grown s₀ s) : Grown s₀ (s, x).1 := h

theorem foldl {α : Type} {l : List α} {f : State → α → State} (h : Grown s₀ s)
    (hf : ∀ {s a}, Grown s₀ s → Grown s₀ (f s a)) : Grown s₀ (l.foldl f s) := by
  induction l generalizing s with
  | nil => exact h
  | cons a l ih => exact ih (hf h)

theorem foldl_fst {α β : Type} {l : List α} {f : State × β → α → State × β} {x : State × β} (h : Grown s₀ x.1)
    (hf : ∀ {x a}, Grown s₀ x.1 → Grown s₀ (f x a).1) : Grown s₀ (l.foldl f x).1 := by
  induction l generalizing x with
  | nil => exact h
  | cons a l ih => exact ih (hf h)

theorem forUpto {n : Nat} {f : Nat → State → State} (h : Grown s₀ s) (hf : ∀ {i s}, Grown s₀ s → Grown s₀ (f i s)) :
    Grown s₀ (Machine.forUpto n f s) := h.foldl hf

theorem getD {o : Option State} (h : Grown s₀ s) (ho : ∀ t ∈ o, Grown s₀ t) : Grown s₀ (o.getD s) := by
  cases o with
  | none => exact h
  | some t => exact ho t rfl

theorem mem_bind {α : Type} {o : Option α} {f : α → Option State} (hf : ∀ a, ∀ t ∈ f a, Grown s₀ t) :
    ∀ t ∈ o.bind f, Grown s₀ t := fun t ht => by
  obtain ⟨a, -, ha⟩ := Option.bind_eq_some_iff.1 ht
  exact hf a t ha

theorem mem_map {α : Type} {o : Option α} {f : α → State} (hf : ∀ a, Grown s₀ (f a)) :
    ∀ t ∈ o.map f, Grown s₀ t := fun t ht => by
  obtain ⟨a, -, rfl⟩ := Option.map_eq_some_iff.1 ht
  exact hf a

end Control

/-! ## The operations of the model, in the order of their files -/

section Operations
variable {s₀ s : State}

/-! ### Register fields and the flags that go with counters -/

theorem fset {f v} (h : Grown s₀ s) : Grown s₀ (s.fset f v) := h.rest
theorem fput {f b} (h : Grown s₀ s) : Grown s₀ (s.fput f b) := h.fset
theorem fsat {f v} (h : Grown s₀ s) : Grown s₀ (s.fsat f v) := h.fset
theorem bump {cnt sat n} (h : Grown s₀ s) : Grown s₀ (s.bump cnt sat n) := h.fset.ite h.fset.fset
theorem wrap {cnt ovf n} (h : Grown s₀ s) : Grown s₀ (s.wrap cnt ovf n) := h.fset.ite h.fset.fset
theorem satUp {cnt n} (h : Grown s₀ s) : Grown s₀ (s.satUp cnt n) := h.fsat

/-! ### The operations every unit shares -/

theorem startFrame {p f at_ rest} (h : Grown s₀ s) : Grown s₀ (s.startFrame p f at_ rest) := h.rest.emit

theorem txStep {p} (h : Grown s₀ s) : Grown s₀ (s.txStep p) := by
  unfold State.txStep; extract_lets; split
  · exact h.startFrame.ite h
  · exact h

theorem txDrain (h : Grown s₀ s) : Grown s₀ s.txDrain := h.foldl fun h => h.forUpto txStep
theorem sendFrame {p f} (h : Grown s₀ s) : Grown s₀ (s.sendFrame p f) := h.startFrame.ite h.rest
theorem elapse {dt} (h : Grown s₀ s) : Grown s₀ (s.elapse dt) := h.later.rest.txDrain
theorem setDev {d} (h : Grown s₀ s) : Grown s₀ (s.setDev d) := h.rest.fset
theorem viaReg {off f} (h : Grown s₀ s) (hf : ∀ {s}, Grown s₀ s → Grown s₀ (f s)) : Grown s₀ (s.viaReg off f) :=
  (hf h).ite h
theorem deny (h : Grown s₀ s) : Grown s₀ s.deny := h.bump
theorem setLd {n l} (h : Grown s₀ s) : Grown s₀ (s.setLd n l) := h.rest
theorem modLd {n f} (h : Grown s₀ s) : Grown s₀ (s.modLd n f) := h.setLd
theorem setLdState {n st} (h : Grown s₀ s) : Grown s₀ (s.setLdState n st) := h.modLd.fset
theorem modMb {k f} (h : Grown s₀ s) : Grown s₀ (s.modMb k f) := h.rest
theorem postEvent {k log kind words} (h : Grown s₀ s) : Grown s₀ (s.postEvent k log kind words) :=
  h.modMb.emit.ite h.modMb
theorem modFlt {f} (h : Grown s₀ s) : Grown s₀ (s.modFlt f) := h.rest
theorem modCol {f} (h : Grown s₀ s) : Grown s₀ (s.modCol f) := h.rest
theorem modFab {f} (h : Grown s₀ s) : Grown s₀ (s.modFab f) := h.rest
theorem countLost {src} (h : Grown s₀ s) : Grown s₀ (s.countLost src) := h.bump.modFlt

theorem sendMsg {src kind addr cleared injected} (h : Grown s₀ s) :
    Grown s₀ (s.sendMsg src kind addr cleared injected) :=
  h.ite (h.countLost.ite h.modFlt)

theorem fault {src kind addr cleared} (h : Grown s₀ s) : Grown s₀ (s.fault src kind addr cleared) :=
  h.fset.sendMsg.ite h.sendMsg
theorem setUnit {u st} (h : Grown s₀ s) : Grown s₀ (s.setUnit u st) := h.fset.fput.fset
theorem overrun {x} (h : Grown s₀ s) : Grown s₀ (s.overrun x) := h.bump.fault.modCol.ite h
theorem blockReset {p} (h : Grown s₀ s) : Grown s₀ (s.blockReset p) := h.rest
theorem showJnl (h : Grown s₀ s) : Grown s₀ s.showJnl := h.fset
theorem journalAt {b kind gen payload} (h : Grown s₀ s) : Grown s₀ (s.journalAt b kind gen payload) :=
  h.bump.ite h.modFlt.fset.showJnl
theorem journal {kind gen payload} (h : Grown s₀ s) : Grown s₀ (s.journal kind gen payload) := h.journalAt

/-! ### Pages, their lines and the weir's shares -/

theorem writeBytes {a d mask} (h : Grown s₀ s) : Grown s₀ (s.writeBytes a d mask) := h.rest

theorem setPoison {n b} (h : Grown s₀ s) : Grown s₀ (s.setPoison n b) := h.rest
theorem zeroPage {p} (h : Grown s₀ s) : Grown s₀ (s.zeroPage p) := h.rest.forUpto fun h => h.setPoison.ite h

theorem restore {p c} (h : Grown s₀ s) : Grown s₀ (s.restore p c) := by
  unfold State.restore
  exact h.zeroPage.rest.foldl setPoison

theorem setPage {p r} (h : Grown s₀ s) : Grown s₀ (s.setPage p r) := h.rest.ite h.rest.modLd
theorem setPState {p st} (h : Grown s₀ s) : Grown s₀ (s.setPState p st) := h.setPage
theorem recount {n} (h : Grown s₀ s) : Grown s₀ (s.recount n) := h.modLd
theorem showSlots (h : Grown s₀ s) : Grown s₀ s.showSlots := h.fset
theorem modRill {f} (h : Grown s₀ s) : Grown s₀ (s.modRill f) := h.rest
theorem modLog {f} (h : Grown s₀ s) : Grown s₀ (s.modLog f) := h.rest
theorem modRfl {f} (h : Grown s₀ s) : Grown s₀ (s.modRfl f) := h.rest
theorem staleCopies {p} (h : Grown s₀ s) : Grown s₀ (s.staleCopies p) := h.modRill.modLog
theorem forkBegin {p i} (h : Grown s₀ s) : Grown s₀ (s.forkBegin p i) := h.rest.showSlots

theorem forkDone {i} (h : Grown s₀ s) : Grown s₀ (s.forkDone i) := by
  unfold State.forkDone
  extract_lets e r cuts s1 s2 s3
  have h2 : Grown s₀ s2 := h.rest.modRill.modLog.ite h.rest.staleCopies
  exact (h2.ite h2.setPage).modLd

theorem forkDrop {i} (h : Grown s₀ s) : Grown s₀ (s.forkDrop i) := h.rest.showSlots
theorem freeEddy {i} (h : Grown s₀ s) : Grown s₀ (s.freeEddy i) :=
  (h.rest.modLd.setPState.ite h.rest.modLd).showSlots.ite h
theorem keepLost {p} (h : Grown s₀ s) : Grown s₀ (s.keepLost p) := .ite (h.forUpto setPoison) h

theorem pageWritten {p} (h : Grown s₀ s) : Grown s₀ (s.pageWritten p) := by
  unfold State.pageWritten; extract_lets; split
  · exact h.setPage
  · exact h.setPage
  · exact h.staleCopies.setPage
  · exact h

theorem markPoisoned {p} (h : Grown s₀ s) : Grown s₀ (s.markPoisoned p) := by
  unfold State.markPoisoned
  exact h.setPage.modFab.modLog

theorem clearPages {n d} (h : Grown s₀ s) : Grown s₀ (s.clearPages n d) :=
  h.rest.modLd.showSlots

theorem wipeExtent {n poisoned} (h : Grown s₀ s) : Grown s₀ (s.wipeExtent n poisoned) := h.rest

theorem applyPolicy {n} (h : Grown s₀ s) : Grown s₀ (s.applyPolicy n) :=
  h.clearPages.wipeExtent.ite (h.clearPages.ite h.clearPages.wipeExtent)

/-! ### Channel queues and write-merge buffers -/

theorem modChan {c f} (h : Grown s₀ s) : Grown s₀ (s.modChan c f) := h.rest
theorem enterWmb {line port ap} (h : Grown s₀ s) : Grown s₀ (s.enterWmb line port ap) := h.ite h.modChan

theorem queueRead {kind line port ap} (h : Grown s₀ s) : Grown s₀ (s.queueRead kind line port ap) := h.rest

theorem drainOne {c e} (h : Grown s₀ s) : Grown s₀ (Machine.drainOne s c e) := h.modChan.ite h
theorem moveWmb {c} (h : Grown s₀ s) : Grown s₀ (s.moveWmb c) := h.foldl drainOne
theorem drainAll (h : Grown s₀ s) : Grown s₀ s.drainAll := h.rest
theorem queuePage {p base w urgent} (h : Grown s₀ s) : Grown s₀ (s.queuePage p base w urgent) := h.forUpto queueRead
theorem dropReqs {which} (h : Grown s₀ s) : Grown s₀ (s.dropReqs which) := h.rest

/-! ### A DRAM channel's scheduler -/

theorem issueReq {c i q} (h : Grown s₀ s) : Grown s₀ (s.issueReq c i q) := h.modChan.bump

theorem passRead {line} (h : Grown s₀ s) : Grown s₀ (s.passRead line) := by
  unfold State.passRead
  exact h.issueReq.modChan

theorem pageRead {base port} (h : Grown s₀ s) : Grown s₀ (s.pageRead base port) := .dropReqs (h.foldl issueReq)
theorem showPostponed {c} (h : Grown s₀ s) : Grown s₀ (s.showPostponed c) := h.fsat
theorem takeSlot {c rank} (h : Grown s₀ s) : Grown s₀ (s.takeSlot c rank) :=
  h.modChan.modChan.showPostponed.ite (h.modChan.modChan.ite h.modChan.modChan.overrun).showPostponed
theorem refreshDue {c} (h : Grown s₀ s) : Grown s₀ (s.refreshDue c) := h.foldl fun h => h.takeSlot.ite h

/-! ### Checkpoints of an LD -/

theorem showCkpts {n} (h : Grown s₀ s) : Grown s₀ (s.showCkpts n) := h.fset.fset.fset.fput
theorem modCkpt {n no f} (h : Grown s₀ s) : Grown s₀ (s.modCkpt n no f) := h.modLd
theorem dropCkpt {n no} (h : Grown s₀ s) : Grown s₀ (s.dropCkpt n no) := h.modLd.showCkpts

theorem giveUp {n no} (h : Grown s₀ s) : Grown s₀ (s.giveUp n no) := by
  unfold State.giveUp; split
  · exact h.dropCkpt.ite h.modCkpt
  · exact h

theorem takeRetain {n want} (h : Grown s₀ s) : Grown s₀ (s.takeRetain n want).1 := by
  unfold State.takeRetain; split
  · exact h.giveUp
  · exact h
  · exact h

theorem takeCkpt {n cause want late report rings} (h : Grown s₀ s) :
    Grown s₀ (s.takeCkpt n cause want late report rings).1 :=
  h.ite_fst (h.takeRetain.modLd.recount.ite h.takeRetain.modLd).modCkpt.showCkpts

theorem refitOverWeir {n} (h : Grown s₀ s) : Grown s₀ (s.refitOverWeir n) := h.modLd.showCkpts.ite h
theorem checkDeficit (h : Grown s₀ s) : Grown s₀ s.checkDeficit := h.fset.bump.fault.ite (h.fset.fault.ite h)
theorem showOwed (h : Grown s₀ s) : Grown s₀ s.showOwed := .fsat (.fsat (h.foldl fun h => h.fsat.fsat.fset))
theorem showWeir (h : Grown s₀ s) : Grown s₀ s.showWeir := .showOwed (h.checkDeficit.foldl refitOverWeir)
theorem ckptCopied {n no p r} (h : Grown s₀ s) : Grown s₀ (s.ckptCopied n no p r) := h.modCkpt
theorem poisonPage {p} (h : Grown s₀ s) : Grown s₀ (s.poisonPage p) :=
  .markPoisoned (h.staleCopies.foldl ckptCopied)

/-! ### Colony time, the Thobor link and the plunge -/

theorem modPort {p f} (h : Grown s₀ s) : Grown s₀ (s.modPort p f) := h.modCol
theorem sendOn {ps f} (h : Grown s₀ s) : Grown s₀ (s.sendOn ps f) := h.foldl sendFrame
theorem setTime {st} (h : Grown s₀ s) : Grown s₀ (s.setTime st) := h.fset

theorem newErrWindow {p} (h : Grown s₀ s) : Grown s₀ (s.newErrWindow p) := h.rest

theorem isolatePort {p} (h : Grown s₀ s) : Grown s₀ (s.isolatePort p) := by
  unfold State.isolatePort
  exact h.modPort.rest.setUnit.ite h.modPort.rest.setUnit.fset.bump

theorem portError {p} (h : Grown s₀ s) : Grown s₀ (s.portError p) := h.modPort.isolatePort.fault.ite h.modPort
theorem malformed {p} (h : Grown s₀ s) : Grown s₀ (s.malformed p) := h.bump.portError
theorem crcFail {p} (h : Grown s₀ s) : Grown s₀ (s.crcFail p) := h.bump.fault.portError
theorem liftIsolation {p} (h : Grown s₀ s) : Grown s₀ (s.liftIsolation p) := h.setUnit.fset.newErrWindow.fault.ite h
theorem codeErrors {p n} (h : Grown s₀ s) : Grown s₀ (s.codeErrors p n) := h.ite h.bump

theorem rxFrame {p f entitled plunge take} (h : Grown s₀ s) (hf : ∀ {s}, Grown s₀ s → Grown s₀ (take s)) :
    Grown s₀ (s.rxFrame p f entitled plunge take) := by
  unfold State.rxFrame
  extract_lets s1
  have h1 : Grown s₀ s1 := h.codeErrors
  exact h.ite (h1.crcFail.ite (h1.malformed.ite (h1.malformed.ite (h1.ite (hf h1)))))

theorem checkRoot {root beacon} (h : Grown s₀ s) : Grown s₀ (s.checkRoot root beacon) := h.fset.fault.ite h

theorem mergeAnn {t cause origin groups own} (h : Grown s₀ s) :
    Grown s₀ (s.mergeAnn t cause origin groups own) := by
  unfold State.mergeAnn
  extract_lets now wins late t' opening w0 open_ w s1 s2 s3 s4 s5
  have h2 : Grown s₀ s2 := h.modCol.bump.fset.fset.ite h.modCol
  exact (h2.satUp.bump.ite h2.satUp).fset.fput.fset.fset.fset.ite (h2.satUp.bump.ite h2.satUp).fset.fput

theorem announce {cause cut groups} (h : Grown s₀ s) : Grown s₀ (s.announce cause cut groups) := h.sendOn.modCol
theorem ownPlunge {cause} (h : Grown s₀ s) : Grown s₀ (s.ownPlunge cause) := h.mergeAnn.announce.ite h.mergeAnn
theorem pullPlungeN (h : Grown s₀ s) : Grown s₀ s.pullPlungeN := h.modCol.fset.emit
theorem releasePlungeN (h : Grown s₀ s) : Grown s₀ s.releasePlungeN := h.modCol.emit.ite h
theorem ownSpill {cause} (h : Grown s₀ s) : Grown s₀ (s.ownSpill cause) :=
  (h.mergeAnn.announce.modCol.ite h.ownPlunge.modCol).fset.pullPlungeN
theorem fmCheckpoint (h : Grown s₀ s) : Grown s₀ (Machine.fmCheckpoint s) := h.ite h.ownPlunge
theorem colonyCheckpoint {boundary} (h : Grown s₀ s) : Grown s₀ (Machine.colonyCheckpoint boundary s) :=
  h.modCol.ite h.bump
theorem plungeNEdge {low} (h : Grown s₀ s) : Grown s₀ (Machine.plungeNEdge low s) :=
  (h.fput.mergeAnn.announce.ite h.fput.mergeAnn).ite h.fput

theorem plungeRepeat (h : Grown s₀ s) : Grown s₀ (Machine.plungeRepeat s) := by
  unfold Machine.plungeRepeat
  exact .modCol (h.foldl sendOn)

theorem closeWindow (h : Grown s₀ s) : Grown s₀ s.closeWindow := h.modCol.fset.releasePlungeN

theorem plungeWindowClose (h : Grown s₀ s) : Grown s₀ (Machine.plungeWindowClose s) := by
  unfold Machine.plungeWindowClose; split
  · exact h.closeWindow.ite h
  · exact h

theorem forwardPlunge {p f rep cut} (h : Grown s₀ s) : Grown s₀ (s.forwardPlunge p f rep cut) :=
  h.modCol.ite h.sendOn.modCol

theorem plungeRx {p f} (h : Grown s₀ s) : Grown s₀ (Machine.plungeRx p f s) := h.rxFrame fun h => by
  split
  · exact h.forwardPlunge.malformed.ite (h.forwardPlunge.mergeAnn.ite h.forwardPlunge)
  · exact h

theorem stepTime {offset} (h : Grown s₀ s) : Grown s₀ (s.stepTime offset) := by
  unfold State.stepTime
  extract_lets old s1 new s2 skips w' o' late s3
  have h1 : Grown s₀ s1 := h.rest.fset
  have h3 : Grown s₀ s3 := .modCol (.ite h1.rest h1)
  clear_value w'
  split
  · split
    · exact h3.fset.bump.ite h3.fset.bump.fset
    · exact h3.fset.bump
  · exact h3

theorem stepRule {offset} (h : Grown s₀ s) : Grown s₀ (s.stepRule offset) := by
  unfold State.stepRule; split
  · exact h.stepTime.fset
  · exact h.stepTime.fset
  · exact h.stepTime.fset.ite (h.modCol.fset.ite h.fset)
  · exact h.stepTime.fset.ite (h.modCol.fset.ite h.fset)
  · exact h

theorem servo {offset} (h : Grown s₀ s) : Grown s₀ (s.servo offset) := h.modCol.fset

theorem lockRule {offset} (h : Grown s₀ s) : Grown s₀ (s.lockRule offset) := by
  unfold State.lockRule; extract_lets; split
  · exact h.modCol.setTime.modCol.ite h.modCol
  · exact h.modCol.setTime.modCol.ite h.modCol
  · exact h.modCol

theorem measured {delay offset} (h : Grown s₀ s) : Grown s₀ (s.measured delay offset) :=
  (h.fset.fset.stepRule.ite h.fset.fset.servo).lockRule
theorem takeDepth {depth root} (h : Grown s₀ s) : Grown s₀ (s.takeDepth depth root) :=
  h.fsat.fset.fset.ite h.fsat.fset

theorem beaconRx {p t2 f} (h : Grown s₀ s) : Grown s₀ (Machine.beaconRx p t2 f s) := by
  unfold Machine.beaconRx; extract_lets; split
  · refine (h.checkRoot.ite h).rxFrame fun h => ?_
    extract_lets sel s1 s2
    have h2 : Grown s₀ s2 := h.modPort.takeDepth.ite h.modPort
    split
    · exact h2.measured.ite h2
    · exact h2
  · exact h.rxFrame id

theorem fireflyRx {p t4 f} (h : Grown s₀ s) : Grown s₀ (Machine.fireflyRx p t4 f s) := h.rxFrame fun h => by
  split
  · exact h.checkRoot.modPort.fset
  · exact h

theorem roleRx {p f} (h : Grown s₀ s) : Grown s₀ (Machine.roleRx p f s) := h.rxFrame fun h => by
  split
  · exact h.checkRoot.fset.fset.modPort.fset.fault.ite h.checkRoot.fset.fset.modPort
  · exact h

theorem applyConfig (h : Grown s₀ s) : Grown s₀ s.applyConfig := by
  unfold State.applyConfig; split
  · exact h.modCol.ite h
  · exact h

theorem configRx {p f} (h : Grown s₀ s) : Grown s₀ (Machine.configRx p f s) := by
  unfold Machine.configRx; split
  · exact h.rxFrame (fun h => h.modCol.sendOn.applyConfig)
  · exact h.rxFrame id

theorem epochAnnounceRx {p f} (h : Grown s₀ s) : Grown s₀ (Machine.epochAnnounceRx p f s) := h.rxFrame fun h => by
  split
  · exact ((h.fault.ite h).sendOn.modCol.ite (h.fault.ite h).sendOn).ite h
  · exact h

theorem postSealReport {complete late kind cut gen inc origin relayed} (h : Grown s₀ s) :
    Grown s₀ (s.postSealReport complete late kind cut gen inc origin relayed) :=
  h.postEvent

theorem sendSealReport {complete late kind cut gen inc} (h : Grown s₀ s) :
    Grown s₀ (s.sendSealReport complete late kind cut gen inc) := by
  refine .ite ?_ h.postSealReport
  split
  · exact h.sendFrame.ite h
  · exact h

theorem sealReportRx {p f} (h : Grown s₀ s) : Grown s₀ (Machine.sealReportRx p f s) := h.rxFrame fun h => by
  split
  · refine .ite ?_ h.postSealReport
    split
    · exact h.sendFrame.ite h
    · exact h
  · exact h

theorem isolationAutoLift {p} (h : Grown s₀ s) : Grown s₀ (Machine.isolationAutoLift p s) := h.liftIsolation.ite h
theorem sendRole {p} (h : Grown s₀ s) : Grown s₀ (s.sendRole p) := h.sendFrame.ite h
theorem portUp {p} (h : Grown s₀ s) : Grown s₀ (Machine.portUp p s) := h.ite h.fset.fset.modPort.sendRole
theorem portDown {p} (h : Grown s₀ s) : Grown s₀ (Machine.portDown p s) := h.fset
theorem portSilentRow {p} (h : Grown s₀ s) : Grown s₀ (Machine.portSilentRow p s) := h.fset.ite h

theorem select {p} (h : Grown s₀ s) : Grown s₀ (s.select p) := by
  unfold State.select
  extract_lets s1 s2 s3
  have h1 : Grown s₀ s1 := h.foldl fput
  have h2 : Grown s₀ s2 := by
    unfold s2; split
    · exact h1.takeDepth
    · exact h1
  exact h2.modCol.setTime.modCol.ite h2.modCol

theorem loseSelected (h : Grown s₀ s) : Grown s₀ s.loseSelected := by
  unfold State.loseSelected; split
  · exact h.fset.modCol
  · exact h

theorem backupSelect (h : Grown s₀ s) : Grown s₀ (Machine.backupSelect s) := by
  unfold Machine.backupSelect
  refine .ite h ?_
  extract_lets s1 cands depthOf
  have h1 : Grown s₀ s1 := by
    unfold s1; split
    · exact h.loseSelected.ite h
    · exact h
  refine .ite ?_ h1
  split
  · exact h1.select
  · exact h1.setTime.ite h1

theorem upstreamSelect (h : Grown s₀ s) : Grown s₀ (Machine.upstreamSelect s) := by
  refine .ite ?_ h
  split
  · exact h.ite h.select
  · exact h

theorem rolePeriodic (h : Grown s₀ s) : Grown s₀ (Machine.rolePeriodic s) := h.foldl sendRole
theorem sendConfig (h : Grown s₀ s) : Grown s₀ s.sendConfig := h.sendOn
theorem configPeriodic (h : Grown s₀ s) : Grown s₀ (Machine.configPeriodic s) := h.sendConfig.ite h
theorem configBeat (h : Grown s₀ s) : Grown s₀ s.configBeat := h.sendConfig.modCol.ite h
theorem epochAnnounceSend (h : Grown s₀ s) : Grown s₀ (Machine.epochAnnounceSend s) :=
  .ite (.modCol (.ite (.sendOn (h.foldl sendOn)) (h.foldl sendOn))) h
theorem sendBeacons (h : Grown s₀ s) : Grown s₀ s.sendBeacons := h.foldl sendFrame
theorem sendFireflies (h : Grown s₀ s) : Grown s₀ s.sendFireflies := h.foldl fun h => h.sendFrame.modPort
theorem rolesCommitted (h : Grown s₀ s) : Grown s₀ s.rolesCommitted :=
  (h.setTime.fset.modCol.ite h).ite (.modCol (.fset (.fset (h.setTime.foldl fset))))

/-! ### Command rings -/

theorem modRing {ld n f} (h : Grown s₀ s) : Grown s₀ (s.modRing ld n f) := h.rest
theorem showFlight {ld} (h : Grown s₀ s) : Grown s₀ (s.showFlight ld) := h.fset

theorem writeCq {ld n tag status flags result} (h : Grown s₀ s) :
    Grown s₀ (s.writeCq ld n tag status flags result) := by
  unfold State.writeCq
  exact h.emit.modRing

theorem coalesce {ld n} (h : Grown s₀ s) : Grown s₀ (s.coalesce ld n) := h.modRing.modRing.emit.ite h.modRing
theorem showHeld {ld n} (h : Grown s₀ s) : Grown s₀ (s.showHeld ld n) := h.fset

theorem postEntries {ld n k} (h : Grown s₀ s) : Grown s₀ (s.postEntries ld n k) := by
  induction k generalizing s with
  | zero => exact h
  | succ k ih =>
    unfold State.postEntries; split
    · exact .ite (ih (h.writeCq.modRing.ite h.writeCq.modRing.coalesce)) h
    · exact h

theorem postRing {ld n} (h : Grown s₀ s) : Grown s₀ (s.postRing ld n) :=
  (h.postEntries.modRing.emit.ite h.postEntries).showHeld

theorem postNotices {ld n k} (h : Grown s₀ s) : Grown s₀ (s.postNotices ld n k) := by
  induction k generalizing s with
  | zero => exact h
  | succ k ih =>
    unfold State.postNotices; split
    · exact .ite (ih h.writeCq.modRing.bump.emit) h
    · exact h

theorem notice {ld n status result} (h : Grown s₀ s) : Grown s₀ (s.notice ld n status result) :=
  h.ite h.modRing.postNotices
theorem modAcc {ld n ord f} (h : Grown s₀ s) : Grown s₀ (s.modAcc ld n ord f) := h.modRing
theorem finish {ld n ord status flags result} (h : Grown s₀ s) : Grown s₀ (s.finish ld n ord status flags result) :=
  (h.modAcc.bump.ite (h.modAcc.bump.ite h.modAcc)).showFlight.postRing
theorem haltRing {ld n reason} (h : Grown s₀ s) : Grown s₀ (s.haltRing ld n reason) := h.fset.fset.fault
theorem waitRoom {ld n} (h : Grown s₀ s) : Grown s₀ (s.waitRoom ld n) := h.modRing.ite h
theorem waitRooms (h : Grown s₀ s) : Grown s₀ s.waitRooms := h.foldl waitRoom

theorem fetchMore {ld n} (h : Grown s₀ s) : Grown s₀ (s.fetchMore ld n) := by
  unfold State.fetchMore
  refine h.ite ?_
  split
  · exact h.modRing.rest.emit
  · exact h

theorem takeSq {ld n v} (h : Grown s₀ s) : Grown s₀ (s.takeSq ld n v) :=
  h.haltRing.notice.ite h.modRing.fset.fetchMore
theorem takeCq {ld n v} (h : Grown s₀ s) : Grown s₀ (s.takeCq ld n v) :=
  h.haltRing.ite h.modRing.postRing.postNotices.waitRooms
theorem doorbell {ld n offset width v sq} (h : Grown s₀ s) : Grown s₀ (s.doorbell ld n offset width v sq) :=
  h.bump.ite (h.modRing.ite (h.takeSq.ite h.takeCq))

theorem takeKept (h : Grown s₀ s) : Grown s₀ s.takeKept := by
  refine .fetchMore (.waitRooms (h.foldl fun {s e} h => ?_))
  extract_lets ld n s1 s2
  have h1 : Grown s₀ s1 := h.modRing
  have h2 : Grown s₀ s2 := by
    unfold s2; split
    · exact h1.takeCq.ite h1
    · exact h1
  split
  · exact h2.takeSq.ite h2
  · exact h2

theorem takeShadow {ld n tail head} (h : Grown s₀ s) : Grown s₀ (s.takeShadow ld n tail head) :=
  h.modRing.takeCq.takeSq.ite h.modRing.takeCq

theorem addFetched {ld n ds} (h : Grown s₀ s) : Grown s₀ (s.addFetched ld n ds) := h.rest

theorem caughtUp {ld n tail1 head1 tail2} (h : Grown s₀ s) : Grown s₀ (s.caughtUp ld n tail1 head1 tail2) :=
  h.takeShadow.modRing.emit.takeSq.ite h.takeShadow.fetchMore

theorem descriptorFetchDone {ld n r tail1 head1 tail2} (h : Grown s₀ s) :
    Grown s₀ (Machine.descriptorFetchDone ld n r tail1 head1 tail2 s) := by
  unfold Machine.descriptorFetchDone
  refine .ite (h.takeShadow.ite h) ?_
  split
  · exact h.modRing.haltRing.fetchMore
  · exact h.modRing.addFetched.caughtUp.waitRooms.ite h.modRing.addFetched.waitRooms.fetchMore

theorem runOp {ld n idx op f} (h : Grown s₀ s) (hf : ∀ {a s}, Grown s₀ s → Grown s₀ (f a s)) :
    Grown s₀ (s.runOp ld n idx op f) := by
  unfold State.runOp; split
  · exact .ite h.finish (hf h.modAcc)
  · exact h

theorem descriptorAccept {ld n} (h : Grown s₀ s) : Grown s₀ (Machine.descriptorAccept ld n s) := by
  unfold Machine.descriptorAccept; split
  · exact h
  · extract_lets was order a head s1 s2 s3 s4 s5 s6
    have h5 : Grown s₀ s5 := h.rest.modRing.fset.fset.emit.showFlight
    have h6 : Grown s₀ s6 := h5.finish.ite h5
    exact h.ite (h.waitRoom.ite h6.waitRooms.fetchMore)

theorem noResourceNotice {ld n} (h : Grown s₀ s) : Grown s₀ (Machine.noResourceNotice ld n s) := by
  unfold Machine.noResourceNotice; split
  · exact h.notice.ite h
  · exact h

theorem releaseCkpt {n id r} (h : Grown s₀ s) (e : s.releaseCkpt n id = some r) : Grown s₀ r.2.2 := by
  unfold State.releaseCkpt at e
  split at e
  · cases e
  · split_ifs at e <;> cases e
    · exact h
    · exact h.dropCkpt
    · exact h.modCkpt

theorem checkpointRelease {ld n a} (h : Grown s₀ s) : Grown s₀ (Machine.checkpointRelease ld n a s) := by
  unfold Machine.checkpointRelease; split
  case h_1 e => exact (h.releaseCkpt e).finish
  case h_2 e => exact (h.releaseCkpt e).finish
  case h_3 => exact h.finish

theorem queryPages {ld n a} (h : Grown s₀ s) : Grown s₀ (Machine.queryPages ld n a s) := h.emit.finish

theorem persistBegin {ld n a} (h : Grown s₀ s) : Grown s₀ (Machine.persistBegin ld n a s) := h.rest

theorem persistCopied {p stamp} (h : Grown s₀ s) : Grown s₀ (s.persistCopied p stamp) := h.rest

theorem viaRing {path ld n f} (h : Grown s₀ s) (hf : ∀ {s}, Grown s₀ s → Grown s₀ (f s)) :
    Grown s₀ (s.viaRing path ld n f) := by
  refine h.ite ?_
  split
  · exact h.ite (hf h)
  · exact h.ite h.deny
  · exact (hf h).ite h

theorem ctlReject {ld n} (h : Grown s₀ s) : Grown s₀ (s.ctlReject ld n) := h.fset

theorem ringEnable {ld n clearTags} (h : Grown s₀ s) : Grown s₀ (Machine.ringEnable ld n clearTags s) :=
  (h.modRing.fset.fset.fset.fset.fset.fset.fset.ite h.modRing.fset.fset.fset.fset.fset.fset).postRing.ite
    h.ctlReject

theorem disableRing {ld n} (h : Grown s₀ s) : Grown s₀ (s.disableRing ld n) := h.fset.modRing.showHeld

theorem ringDisable {ld n} (h : Grown s₀ s) : Grown s₀ (Machine.ringDisable ld n s) := h.disableRing.fset.fetchMore
theorem ringResume {ld n} (h : Grown s₀ s) : Grown s₀ (Machine.ringResume ld n s) :=
  (h.fset.fset.fset.modRing.ite h.fset.fset.fset).postRing.postNotices.waitRoom.fetchMore.ite h.ctlReject

theorem msixCoalesceTimeout {ld n} (h : Grown s₀ s) : Grown s₀ (Machine.msixCoalesceTimeout ld n s) := by
  unfold Machine.msixCoalesceTimeout; split
  · exact h.modRing.emit.ite h
  · exact h

theorem abortCuts {ld} (h : Grown s₀ s) : Grown s₀ (s.abortCuts ld) :=
  h.foldl fun h => h.foldl fun h => h.finish.ite h
theorem ringsDisabled (h : Grown s₀ s) : Grown s₀ s.ringsDisabled := h.rest
theorem disableRings {ld} (h : Grown s₀ s) : Grown s₀ (s.disableRings ld) :=
  .fetchMore (.foldl (h.foldl fun h => h.ite h.disableRing) disableRing)

/-! ### The weir, the rill and the spillway log -/

theorem remapBlock {ds block} (h : Grown s₀ s) : Grown s₀ (s.remapBlock ds block) := by
  unfold State.remapBlock; extract_lets; split
  · exact h.modLog.modLog
  · exact h.modLog

theorem computeWeir (h : Grown s₀ s) : Grown s₀ s.computeWeir := h.modRill.ite h.modRill.fsat.fsat.fsat

theorem weirForce (h : Grown s₀ s) : Grown s₀ s.weirForce := by
  unfold State.weirForce; split
  · exact h.modRill.fset.fset.showWeir.ite h
  · exact h

theorem updateCredit (h : Grown s₀ s) : Grown s₀ s.updateCredit := (h.modRill.fset.ite h.modRill).fset
theorem showWindow (h : Grown s₀ s) : Grown s₀ s.showWindow := h.fsat.fsat.fset.fset

theorem needBand {writer} (h : Grown s₀ s) : Grown s₀ (s.needBand writer) := by
  refine .ite ?_ h
  split
  · exact h.modLog.showWindow
  · exact h

theorem newStripe {writer free} (h : Grown s₀ s) : Grown s₀ (s.newStripe writer free).1 := by
  unfold State.newStripe; extract_lets; split
  · exact h.ite h.needBand
  · exact (h.ite h.needBand).ite_fst ((h.ite h.needBand).ite_fst (h.ite h.needBand).modLog.fset)

theorem modStripe {q f} (h : Grown s₀ s) : Grown s₀ (s.modStripe q f) := h.modLog

theorem addRecs {q} (h : Grown s₀ s) : Grown s₀ (s.addRecs q) := by
  unfold State.addRecs; split
  · exact h
  · exact h.foldl modStripe

theorem opOff {q dies} (h : Grown s₀ s) : Grown s₀ (s.opOff q dies) := h.rest

theorem startErase {b} (h : Grown s₀ s) : Grown s₀ (s.startErase b) := h.rest

theorem closeStripe {q} (h : Grown s₀ s) : Grown s₀ (s.closeStripe q) := by
  unfold State.closeStripe; split
  · exact h
  · refine h.ite ?_
    extract_lets now s1 bytes s2
    have h2 : Grown s₀ s2 := h.addRecs.modStripe.modLog
    split
    · exact h2.modRill.modRill.satUp
    · exact h2.modRill.modRill.satUp
    · exact h2.modRill.satUp.satUp
    · exact h2.modRill.satUp.satUp
    · exact h2

theorem place {writer i} (h : Grown s₀ s) : Grown s₀ (s.place writer i).1 := by
  unfold State.place
  extract_lets r
  have hr : Grown s₀ r.1 := by
    unfold r; split
    · exact h.ite_fst (h.ite_fst (h.ite h.closeStripe).newStripe)
    · exact h.newStripe
  split
  · exact hr
  · exact hr.modStripe

theorem placeAll {writer is} (h : Grown s₀ s) : Grown s₀ (s.placeAll writer is).1 := by
  induction is generalizing s with
  | nil => exact h
  | cons i is ih =>
    unfold State.placeAll; extract_lets; split
    · exact h.place
    · exact ih h.place

theorem selectLive {p} (h : Grown s₀ s) : Grown s₀ (s.selectLive p) := h.staleCopies.setPage.modRill.queuePage
theorem selectEddy {i} (h : Grown s₀ s) : Grown s₀ (s.selectEddy i) := h.rest.modRill.queuePage
theorem setRillTarget {lent} (h : Grown s₀ s) : Grown s₀ (s.setRillTarget lent) := h.modRill.fput.fput.fput

theorem selectReset (h : Grown s₀ s) : Grown s₀ s.selectReset := by
  unfold State.selectReset
  exact .modRill (.foldl (h.foldl selectEddy) selectLive)

theorem rillSelect (h : Grown s₀ s) : Grown s₀ s.rillSelect := by
  unfold State.rillSelect
  extract_lets was s0 t dirs0 dirs s1 eds s2 rest s3 n s4
  have h2 : Grown s₀ s2 := (h.selectReset.foldl selectLive).foldl selectEddy
  have h3 : Grown s₀ s3 := h2.foldl fun h => h.selectLive.modRill
  exact h3.modRill.fsat

theorem moveRefs {a b} (h : Grown s₀ s) : Grown s₀ (s.moveRefs a b) := h.rest

theorem modSpill {f} (h : Grown s₀ s) : Grown s₀ (s.modSpill f) := h.rest
theorem modSpillMeta {k} (h : Grown s₀ s) : Grown s₀ (s.modSpillMeta k) := h.modSpill
theorem modSpillList {q k} (h : Grown s₀ s) : Grown s₀ (s.modSpillList q k) := h.modSpill
theorem modSpillBack {i} (h : Grown s₀ s) : Grown s₀ (s.modSpillBack i) := h.modSpill
theorem onFlash {i} (h : Grown s₀ s) : Grown s₀ (s.onFlash i) := h.rest
theorem recCopied {i} (h : Grown s₀ s) : Grown s₀ (s.recCopied i) := h.onFlash.rest.ite h.onFlash
theorem liveCopied {i} (h : Grown s₀ s) : Grown s₀ (s.liveCopied i) :=
  h.wrap.persistCopied.ite (.setPage (h.onFlash.foldl ckptCopied))
theorem eddyCopied {i slot} (h : Grown s₀ s) : Grown s₀ (s.eddyCopied i slot) :=
  .freeEddy (h.onFlash.foldl ckptCopied)
theorem spillCopied {i} (h : Grown s₀ s) : Grown s₀ (s.spillCopied i) := h.rest.fset
theorem relocCopied {i src} (h : Grown s₀ s) : Grown s₀ (s.relocCopied i src) := h.onFlash.moveRefs.ite h

theorem writeCkptRec {n c} (h : Grown s₀ s) : Grown s₀ (s.writeCkptRec n c) := by
  refine h.getD (mem_bind fun ks => ?_)
  extract_lets addrs b
  have hb : Grown s₀ b.1 := h.placeAll.placeAll
  refine mem_bind fun ms => ?_
  extract_lets d
  have hd : Grown s₀ d.1 := .ite_fst hb hb.placeAll
  exact mem_bind fun tops => mem_map fun q => hd.place.closeStripe.modCkpt

theorem writeCkptRecs (h : Grown s₀ s) : Grown s₀ s.writeCkptRecs :=
  h.foldl fun h => h.foldl fun h => h.writeCkptRec.ite h
theorem releaseOld {n no} (h : Grown s₀ s) : Grown s₀ (s.releaseOld n no) := h.foldl dropCkpt
theorem reportCuts (h : Grown s₀ s) : Grown s₀ s.reportCuts := h.modCol.foldl sendSealReport

theorem completeCkpt {n no} (h : Grown s₀ s) : Grown s₀ (s.completeCkpt n no) := by
  unfold State.completeCkpt; split
  · exact h
  · refine .showCkpts (.releaseOld (h.modCkpt.foldl fun h => ?_))
    split
    · exact h.finish
    · exact h

theorem completeCkpts {n k} (h : Grown s₀ s) : Grown s₀ (s.completeCkpts n k) := by
  induction k generalizing s with
  | zero => exact h
  | succ k ih =>
    unfold State.completeCkpts; split
    · exact .ite (ih h.completeCkpt) h
    · exact h

theorem ckptFormCopied {i} (h : Grown s₀ s) : Grown s₀ (s.ckptFormCopied i) :=
  .ite (h.onFlash.foldl modCkpt) h.onFlash
theorem completeAll (h : Grown s₀ s) : Grown s₀ s.completeAll := h.foldl completeCkpts
theorem relocate {k tail} (h : Grown s₀ s) : Grown s₀ (s.relocate k tail) := h.ite h.place

theorem closeReloc (h : Grown s₀ s) : Grown s₀ s.closeReloc := h.foldl fun h => by
  split
  · exact h.closeStripe
  · exact h

theorem needTlc (h : Grown s₀ s) : Grown s₀ s.needTlc := by
  refine .ite ?_ h
  split
  · exact h.modLog
  · exact h

theorem tlcReclaim (h : Grown s₀ s) : Grown s₀ s.tlcReclaim := by
  unfold State.tlcReclaim; extract_lets; split
  · exact h
  · exact (h.startErase.ite h).ite (h.foldl relocate)

theorem tailAdvance (h : Grown s₀ s) : Grown s₀ s.tailAdvance := by
  unfold State.tailAdvance
  extract_lets s1 s2 refs due s3 s4
  have h1 : Grown s₀ s1 := by
    unfold s1; split
    · exact h.startErase.ite h
    · exact h
  have h3 : Grown s₀ s3 := modLog (h1.needTlc.tlcReclaim.foldl relocate)
  have h4 : Grown s₀ s4 := by
    unfold s4; split
    · exact .ite (.ite h3.startErase (h3.foldl relocate)) h3
    · exact h3
  exact h.ite h4.closeReloc.showWindow

theorem logLow (h : Grown s₀ s) : Grown s₀ s.logLow := by
  unfold State.logLow
  extract_lets s1 s2
  have h1 : Grown s₀ s1 := h.foldl fun h => h.foldl fun h => h.ite h.giveUp
  exact .ite (h.ite h1.modLog.fset.fault.showWindow) (h.fset.modLog.ite h)

theorem dieRestored (h : Grown s₀ s) : Grown s₀ s.dieRestored := h.foldl fun h => h.fset.modLog.journal.ite h
theorem measure {us} (h : Grown s₀ s) : Grown s₀ (s.measure us) := h.modLog.fsat
theorem freeDies {t} (h : Grown s₀ s) : Grown s₀ (s.freeDies t) := h.opOff

theorem itemDone {w i} (h : Grown s₀ s) : Grown s₀ (s.itemDone w i) := by
  unfold State.itemDone
  refine h.modLog.ite ?_
  split
  · exact h.relocCopied
  · refine h.ckptFormCopied.ite (h.recCopied.ite (h.onFlash.modSpillMeta.ite (h.spillCopied.ite (h.ite ?_))))
    split
    · exact h.eddyCopied
    · exact h.liveCopied

theorem land {t} (h : Grown s₀ s) : Grown s₀ (s.land t) := by
  unfold State.land
  exact h.modLog.rest.foldl itemDone

theorem stripeDone {q us} (h : Grown s₀ s) : Grown s₀ (s.stripeDone q us) := by
  unfold State.stripeDone; split
  · exact h
  · extract_lets s1 s2 cleaned s3
    have h1 : Grown s₀ s1 := h.closeStripe.freeDies
    have h2 : Grown s₀ s2 := (h1.ite h1.measure).land
    have h3 : Grown s₀ s3 := h2.wrap.modRill.ite (h2.modSpillList.ite h2)
    exact h3.ite h3.completeAll.writeCkptRecs.reportCuts.tailAdvance.logLow.dieRestored.showWeir

theorem placeReady (h : Grown s₀ s) : Grown s₀ s.placeReady := by
  unfold State.placeReady
  refine .ite h ?_
  extract_lets x s1
  have h1 : Grown s₀ s1 := h.foldl_fst fun {x p} h => by
    refine .ite_fst h ?_
    split
    · exact pair h.modRill
    · extract_lets y
      have hy : Grown s₀ y.1 := h.place
      split
      · exact hy
      · exact pair hy.modRill
  split
  · exact h1.closeStripe.ite h1
  · exact h1

theorem scarabDone {p cluster} (h : Grown s₀ s) : Grown s₀ (s.scarabDone p cluster) := by
  unfold State.scarabDone; split
  · exact h
  · exact h.ite h.pageRead.modRill.wrap.placeReady

theorem govSlice (h : Grown s₀ s) : Grown s₀ s.govSlice := h.modRill.fsat.fsat.placeReady.writeCkptRecs
theorem jnlFree (h : Grown s₀ s) : Grown s₀ s.jnlFree := h.modFlt.showJnl
theorem jnlCopyFail {copy} (h : Grown s₀ s) : Grown s₀ (s.jnlCopyFail copy) :=
  h.ite ((h.fset.fault.ite h.fset.fault.bump).fset.modFlt.showJnl.fault.ite h.fset.fault.jnlFree)
theorem jnlCopyBack {copy} (h : Grown s₀ s) : Grown s₀ (s.jnlCopyBack copy) := h.ite (h.fset.fset.ite h.fset)
theorem showCap (h : Grown s₀ s) : Grown s₀ s.showCap := h.fset

theorem retireDie {ds cause} (h : Grown s₀ s) : Grown s₀ (s.retireDie ds cause) := by
  refine h.ite ?_
  split
  · exact h.fset.journal.fault.modLog.jnlCopyFail
  · exact h.fset.journal.fault.modLog

theorem retireBlock {ds block cause} (h : Grown s₀ s) : Grown s₀ (s.retireBlock ds block cause) :=
  h.retireDie.ite h.fset.satUp.modLog.remapBlock.showCap.journal.fault
theorem redoCkpts {keys items} (h : Grown s₀ s) : Grown s₀ (s.redoCkpts keys items) := h.foldl modLd

theorem rewriteStripe {q} (h : Grown s₀ s) : Grown s₀ (s.rewriteStripe q) := by
  unfold State.rewriteStripe; split
  · exact h
  · extract_lets due s1 r its s2
    have h1 : Grown s₀ s1 := h.freeDies.modLog
    refine h1.redoCkpts.writeCkptRecs.ite (.ite ?_ ?_)
    · have hr : Grown s₀ r.1 := h1.newStripe
      split
      · exact hr.modStripe
      · exact hr
    · have h2 : Grown s₀ s2 := h1.foldl fun {s i} h => by
        extract_lets r
        have hr : Grown s₀ r.1 := h.place
        split
        · exact hr
        · exact hr.modLog
        · exact hr.modSpillBack.ite (hr.modRill.ite hr)
      split
      · exact h2.ite h2.closeStripe
      · exact h2

theorem stripeToSpill {q} (h : Grown s₀ s) : Grown s₀ (s.stripeToSpill q) := by
  unfold State.stripeToSpill; split
  · exact h
  · exact .modSpill (h.freeDies.modLog.redoCkpts.rest.foldl fun h => h.setPState.ite h)

theorem stripeFail {q c st} (h : Grown s₀ s) : Grown s₀ (s.stripeFail q c st) := by
  unfold State.stripeFail; split
  · exact h
  · extract_lets s1 ds s2 page s3 s4 with_
    have h2 : Grown s₀ s2 := h.closeStripe.bump
    have h4 : Grown s₀ s4 := (h2.fault.ite h2.fault).retireBlock
    exact h.ite (h4.foldl fun h => (h.bump.ite h).stripeToSpill.ite (h.bump.ite h).rewriteStripe)

theorem bandErased {b failed st} (h : Grown s₀ s) : Grown s₀ (s.bandErased b failed st) := by
  unfold State.bandErased
  extract_lets s1 wasTlc s2 s3 dies
  have h1 : Grown s₀ s1 := h.ite (h.foldl fun h => (h.bump.fault.ite h.bump.fault).retireBlock)
  have h2 : Grown s₀ s2 := h1.rest
  exact h.ite h2.modLog.opOff.showWindow.logLow.tailAdvance

theorem foldRead {b r} (h : Grown s₀ s) : Grown s₀ (s.foldRead b r) := by
  refine .ite (h.modLog.foldl fun h => ?_) h.modLog
  split
  · exact h.relocCopied
  · exact h.recCopied

theorem relocStripe {k} (h : Grown s₀ s) : Grown s₀ (s.relocStripe k) := h.rest

theorem scrubMore (h : Grown s₀ s) : Grown s₀ s.scrubMore := h.modLog.emits

theorem ladderRead {k r} (h : Grown s₀ s) : Grown s₀ (s.ladderRead k r) := by
  unfold State.ladderRead
  extract_lets ch addr; split
  · extract_lets s1 s2
    have h1 : Grown s₀ s1 := (h.satUp.ite h.fset.fset).ite (h.satUp.ite h.fset.fset)
    have h2 : Grown s₀ s2 := h.ite h1.fault
    exact h2.relocStripe.ite h2
  · exact h.relocStripe

/-! ### What stands on flash beside the log -/

theorem modBoot {f} (h : Grown s₀ s) : Grown s₀ (s.modBoot f) := h.rest
theorem modFlm {f} (h : Grown s₀ s) : Grown s₀ (s.modFlm f) := h.rest
theorem draw (h : Grown s₀ s) : Grown s₀ s.draw.1 := h.rest

theorem rawAt {ds block page plane tlc} (h : Grown s₀ s) : Grown s₀ (s.rawAt ds block page plane tlc).1 := by
  unfold State.rawAt; split
  · exact h
  · extract_lets d free
    have hd : Grown s₀ d.1 := h.draw
    split
    · exact .ite_fst hd h
    · split
      · exact hd
      · exact h
    · exact h
    · exact hd
    · split
      · exact hd
      · exact hd

theorem wordAt {ds block page plane w} (h : Grown s₀ s) : Grown s₀ (s.wordAt ds block page plane w).1 := by
  unfold State.wordAt; extract_lets; split
  · exact h
  · split
    · exact h
    · exact h
    · exact h.rawAt
    · exact h.draw

theorem bootTouched {ds} (h : Grown s₀ s) : Grown s₀ (s.bootTouched ds) := h.modBoot.ite h

theorem setWord {key v} (h : Grown s₀ s) : Grown s₀ (s.setWord key v) := by
  unfold State.setWord; extract_lets; split
  · exact .ite h.modFlm.rest h.modFlm
  · exact h.modFlm

theorem flmEffect {o ok} (h : Grown s₀ s) : Grown s₀ (s.flmEffect o ok) :=
  h.draw.modFlm.bootTouched.ite (h.wordAt.draw.setWord.ite h.draw.modFlm.bootTouched)
theorem wordsErased {bs} (h : Grown s₀ s) : Grown s₀ (s.wordsErased bs) := h.modFlm

theorem flmCut (h : Grown s₀ s) : Grown s₀ s.flmCut := by
  unfold State.flmCut; split
  · exact (h.flmEffect.ite h).modFlm
  · exact h

/-! ### What the Elytra send in a spill -/

theorem modEly {e f} (h : Grown s₀ s) : Grown s₀ (s.modEly e f) := h.rest
theorem modTarget {t f} (h : Grown s₀ s) : Grown s₀ (s.modTarget t f) := h.rest
theorem elyEmit {f} (h : Grown s₀ s) : Grown s₀ (s.elyEmit f) := h.emits
theorem elySend {opcode target args} (h : Grown s₀ s) : Grown s₀ (s.elySend opcode target args) :=
  h.modSpill.elyEmit
theorem elyRecord {kind gen payload} (h : Grown s₀ s) : Grown s₀ (s.elyRecord kind gen payload) :=
  h.journal.ite h.journal.elySend
theorem setStage {k} (h : Grown s₀ s) : Grown s₀ (s.setStage k) := h.fset
theorem showLdNow (h : Grown s₀ s) : Grown s₀ s.showLdNow := h.fset

theorem elyPlace {es} (h : Grown s₀ s) : Grown s₀ (s.elyPlace es) := by
  induction es generalizing s with
  | nil => exact h.modSpill
  | cons e es ih =>
    unfold State.elyPlace
    refine .ite (ih h) ?_
    split
    · exact h.modSpill
    · extract_lets r
      have hr : Grown s₀ r.1 := h.place
      split
      · exact hr.modSpill
      · exact ih hr.modSpill.modEly

theorem askPage {e} (h : Grown s₀ s) : Grown s₀ (s.askPage e) := by
  unfold State.askPage
  exact h.elySend.modSpill

theorem elyAsk (h : Grown s₀ s) : Grown s₀ s.elyAsk := h.ite (h.modSpill.foldl askPage)
theorem sendPrograms {t} (h : Grown s₀ s) : Grown s₀ (s.sendPrograms t) := .modSpill (h.foldl elySend)

theorem sendSeal {t} (h : Grown s₀ s) : Grown s₀ (s.sendSeal t) := by
  unfold State.sendSeal
  exact .modFlt (.elyRecord (.modSpill (h.foldl elySend)))

theorem elyPrograms (h : Grown s₀ s) : Grown s₀ s.elyPrograms := h.foldl fun h => h.sendSeal.ite h.sendPrograms
theorem elyPump (h : Grown s₀ s) : Grown s₀ s.elyPump := h.ite (h.ite h.elyPlace).elyAsk.elyPrograms.showLdNow

/-! ### Draws and the refill sequencer -/

theorem modDraw {p f} (h : Grown s₀ s) : Grown s₀ (s.modDraw p f) := h.modRfl
theorem showUnfilled (h : Grown s₀ s) : Grown s₀ s.showUnfilled := .fsat (h.foldl fsat)

theorem checkFilled (h : Grown s₀ s) : Grown s₀ s.checkFilled := by
  unfold State.checkFilled
  extract_lets s1 s2
  have h2 : Grown s₀ s2 := h.showUnfilled.foldl fun h => (h.setLdState.ite h).modLd.ite (h.setLdState.ite h)
  exact h.ite (h2.setDev.fset.ite h2)

theorem suspend {ds} (h : Grown s₀ s) : Grown s₀ (s.suspend ds) := h.modLog.bump

theorem atDie {p ds refill} (h : Grown s₀ s) : Grown s₀ (s.atDie p ds refill) := by
  unfold State.atDie; split
  · exact h
  · exact h.ite (h.suspend.ite h.modLog.bump)

theorem firstStep {p len dies refill} (h : Grown s₀ s) : Grown s₀ (s.firstStep p len dies refill).1 :=
  h.ite_fst (h.ite_fst (h.foldl atDie))

theorem nextRead {ds} (h : Grown s₀ s) : Grown s₀ (s.nextRead ds) := by
  refine h.ite ?_
  split
  · exact h.modDraw.ite h
  · split
    · exact h.foldl modDraw
    · exact h

theorem issue {p refill} (h : Grown s₀ s) : Grown s₀ (s.issue p refill) := by
  unfold State.issue
  extract_lets r also x1 t s2
  have h2 : Grown s₀ s2 := h.firstStep.setPage.modRfl
  exact h2.ite h2.wrap

theorem startDraw {p} (h : Grown s₀ s) : Grown s₀ (s.startDraw p).1 := .ite_fst (h.issue.foldl nextRead) h

theorem joinDraw {p} (h : Grown s₀ s) : Grown s₀ (s.joinDraw p) := by
  unfold State.joinDraw; split
  · exact .ite (.wrap (.foldl (.modRfl (h.ite (h.foldl atDie))) nextRead)) h
  · exact h

theorem resumeDie {ds} (h : Grown s₀ s) : Grown s₀ (s.resumeDie ds) := h.ite h.modLog
theorem dieFree {ds} (h : Grown s₀ s) : Grown s₀ (s.dieFree ds) := h.nextRead.resumeDie

theorem minRun {ds} (h : Grown s₀ s) : Grown s₀ (s.minRun ds) := by
  unfold State.minRun; split
  · exact h.suspend.modLog.nextRead.ite h
  · exact h

theorem drawsToParity {ds} (h : Grown s₀ s) : Grown s₀ (s.drawsToParity ds) := h.foldl fun h => h.modDraw.ite h
theorem releaseDie {ds} (h : Grown s₀ s) : Grown s₀ (s.releaseDie ds) :=
  h.drawsToParity.ite (.ite (h.foldl atDie) h.nextRead)
theorem forkStart {p i} (h : Grown s₀ s) : Grown s₀ (s.forkStart p i) := h.forkBegin.queuePage
theorem forkGone {p i} (h : Grown s₀ s) : Grown s₀ (s.forkGone p i) := h.forkDrop.dropReqs
theorem forkEnd {p i} (h : Grown s₀ s) : Grown s₀ (s.forkEnd p i) := h.pageRead.queuePage.forkDone

theorem endDraw {p} (h : Grown s₀ s) : Grown s₀ (s.endDraw p) := by
  unfold State.endDraw; split
  · exact (h.modRfl.ite h.modRfl.fsat.fsat).foldl dieFree
  · exact h

theorem restorePage {p} (h : Grown s₀ s) : Grown s₀ (s.restorePage p) :=
  (h.queuePage.zeroPage.ite h.queuePage.restore).endDraw.setPage
theorem noteLoss {n} (h : Grown s₀ s) : Grown s₀ (s.noteLoss n) := (h.ite h.modLd).ite (h.ite h.modLd).modFab

theorem lostPage {p} (h : Grown s₀ s) : Grown s₀ (s.lostPage p) := by
  unfold State.lostPage
  extract_lets r s1 s2 s3
  have h1 : Grown s₀ s1 := h.endDraw.markPoisoned
  exact (h1.bump.fault.noteLoss.ite h1.bump.fault).forUpto setPoison

theorem refillDie {g ds} (h : Grown s₀ s) : Grown s₀ (s.refillDie g ds) := by
  refine h.ite ?_
  split
  · exact .nextRead (h.foldl fun h => h.issue.ite h)
  · exact h

theorem refill (h : Grown s₀ s) : Grown s₀ s.refill := by
  unfold State.refill
  extract_lets g dies s1
  have h1 : Grown s₀ s1 := h.foldl refillDie
  refine h.ite (h.ite (h1.ite ?_))
  split
  · exact h1.issue.ite h1
  · exact h1

/-! ### Ring commands that run on -/

theorem persistRun {ld n a} (h : Grown s₀ s) : Grown s₀ (s.persistRun ld n a) := h.finish.ite h.modAcc.modRill
theorem fenceRun {ld n a} (h : Grown s₀ s) : Grown s₀ (s.fenceRun ld n a) := h.finish.ite h
theorem dropWork {n} (h : Grown s₀ s) : Grown s₀ (s.dropWork n) := h.modRill.modLog.modRfl.modLog.foldl dieFree

theorem rollRecs {n c} (h : Grown s₀ s) : Grown s₀ (s.rollRecs n c).1 := by
  unfold State.rollRecs
  extract_lets s1 new zero s2 s3 s4
  have h1 : Grown s₀ s1 := h.dropWork.clearPages.wipeExtent
  have h2 : Grown s₀ s2 := h1.foldl setPage
  have h3 : Grown s₀ s3 := .ite (h2.foldl setPage) h2
  have h4 : Grown s₀ s4 := h3.foldl markPoisoned
  exact pair h4.modLd

theorem restores {n} (h : Grown s₀ s) : Grown s₀ (s.restores n) := h.rest

theorem rollRun {ld n a} (h : Grown s₀ s) : Grown s₀ (s.rollRun ld n a) := by
  refine h.ite ?_
  split
  · exact h.modLd.finish
  · exact h.modLd.rollRecs.journal.restores.showSlots.finish

theorem newKey {n} (h : Grown s₀ s) : Grown s₀ (s.newKey n) := h.rest

theorem sanitizePages {n} (h : Grown s₀ s) : Grown s₀ (s.sanitizePages n) := by
  unfold State.sanitizePages
  extract_lets s1 bad s2
  have h1 : Grown s₀ s1 := h.modLd.showCkpts.dropWork
  exact (h1.clearPages.wipeExtent.ite (h1.clearPages.ite h1.clearPages)).restores

theorem sanitizeRun {ld n a} (h : Grown s₀ s) : Grown s₀ (s.sanitizeRun ld n a) := h.ite h.sanitizePages.finish
theorem zeroReserve {ld n ord k} (h : Grown s₀ s) : Grown s₀ (s.zeroReserve ld n ord k) := h.modLd.modAcc
theorem useResv {ld n ord} (h : Grown s₀ s) : Grown s₀ (s.useResv ld n ord) := h.modLd.modAcc
theorem waitAt {ld n a p kind} (h : Grown s₀ s) : Grown s₀ (s.waitAt ld n a p kind) :=
  h.ite (h.bump.ite h.bump).modAcc
theorem waitOver {ld n ord p} (h : Grown s₀ s) : Grown s₀ (s.waitOver ld n ord p) := h.modAcc

theorem zeroStep5 {ld n ord p adm wr all} (h : Grown s₀ s) : Grown s₀ (s.zeroStep5 ld n ord p adm wr all).1 := by
  unfold State.zeroStep5
  extract_lets k w s1
  have h1 : Grown s₀ s1 := h.ite h.modLd.modAcc
  exact h1.modLd.ite h1

theorem zeroPageRun {ld n a p} (h : Grown s₀ s) : Grown s₀ (s.zeroPageRun ld n a p).1 := by
  unfold State.zeroPageRun
  extract_lets all was behind x s1 ls up since s2 s3 s4 s5
  have h1 : Grown s₀ s1 := .ite_fst h h.zeroStep5
  refine .ite_fst h1 ?_
  split
  · exact h1.startDraw
  · exact h1.joinDraw
  · refine .ite_fst h1.waitAt (.ite_fst (.ite_fst h1 ?_) (.ite_fst h1 ?_))
    · split
      · refine .ite_fst ?_ h1
        exact .pair (.ite h1.forkStart.waitOver.useResv h1.forkStart.waitOver)
      · exact pair h1.waitAt
    · have h3 : Grown s₀ s3 := (h1.useResv.ite h1).keepLost
      have h4 : Grown s₀ s4 := h3.foldl fun h => h.enterWmb.writeBytes.setPoison
      exact pair h4.modAcc.pageWritten.waitOver

theorem zeroPages {ld n ord ps} (h : Grown s₀ s) : Grown s₀ (s.zeroPages ld n ord ps) := by
  induction ps generalizing s with
  | nil => exact h
  | cons p ps ih =>
    unfold State.zeroPages; split
    · exact h
    · exact ih (h.zeroPageRun.modAcc.ite h.zeroPageRun)

theorem coveredBy {ld n z} (h : Grown s₀ s) : Grown s₀ (s.coveredBy ld n z) := h.rest

theorem zeroRun {ld n a} (h : Grown s₀ s) : Grown s₀ (s.zeroRun ld n a) := by
  unfold State.zeroRun
  extract_lets r k s1
  have h1 : Grown s₀ s1 := .ite (.ite h h.zeroReserve) h
  split
  · exact h1
  · extract_lets s2
    have h2 : Grown s₀ s2 := h1.zeroPages
    refine .ite h1 ?_
    split
    · exact h2
    · exact h2.modLd.coveredBy.finish.ite h2

theorem advance {ld n a} (h : Grown s₀ s) : Grown s₀ (s.advance ld n a) := by
  refine h.ite ?_
  split
  · exact h.persistRun
  · exact h.rollRun
  · exact h.zeroRun.ite h
  · exact h.sanitizeRun
  · exact h.fenceRun
  · exact h

theorem kickOnly {fences} (h : Grown s₀ s) : Grown s₀ (s.kickOnly fences) := h.foldl fun h => by
  split
  · exact h.advance
  · exact h

theorem kick (h : Grown s₀ s) : Grown s₀ s.kick := h.kickOnly.kickOnly.showWeir

/-! ### The sluice -/

theorem showTrk (h : Grown s₀ s) : Grown s₀ s.showTrk := h.fsat.fsat.fsat
theorem dropReq {rid} (h : Grown s₀ s) : Grown s₀ (s.dropReq rid) := h.modFab
theorem setAt {rid st} (h : Grown s₀ s) : Grown s₀ (s.setAt rid st) := h.modFab
theorem ndr {r} (h : Grown s₀ s) : Grown s₀ (s.ndr r) := h.dropReq.emit
theorem drs {r d} (h : Grown s₀ s) : Grown s₀ (s.drs r d) := h.dropReq.emit

theorem acceptWrite {r} (h : Grown s₀ s) : Grown s₀ (s.acceptWrite r) := by
  unfold State.acceptWrite
  extract_lets line hint s1 s2
  have h1 : Grown s₀ s1 := h.keepLost.enterWmb.writeBytes
  have h2 : Grown s₀ s2 := h1.setPoison.ite (h1.setPoison.modFab.ite h1)
  exact h2.pageWritten.ndr

theorem step7 {r} (h : Grown s₀ s) : Grown s₀ (s.step7 r) := by
  unfold State.step7; extract_lets; split
  · exact h.acceptWrite.ite (h.setAt.ite (h.acceptWrite.ite h.queueRead.setAt))
  · exact h.drs.ite (h.drs.ite h.queueRead.setAt)

theorem needPage {r} (h : Grown s₀ s) : Grown s₀ (s.needPage r) := by
  unfold State.needPage; extract_lets; split
  · exact h.startDraw.setAt.ite h.setAt
  · exact h.joinDraw.setAt

theorem needFork {r} (h : Grown s₀ s) : Grown s₀ (s.needFork r) := by
  refine .ite ?_ h.step7
  split
  · exact h.forkStart.setAt.ite h.setAt
  · exact h.bump.setAt

theorem step6 {r} (h : Grown s₀ s) : Grown s₀ (s.step6 r) := by
  unfold State.step6; extract_lets; split
  · exact h.needPage
  · exact h.needPage
  · split
    · exact h.step7
    · exact h.bump.setAt.ite h.needFork

theorem step5 {r} (h : Grown s₀ s) : Grown s₀ (s.step5 r) := h.step6.ite (h.modLd.setAt.ite h.modLd.step6)
theorem step4 {r} (h : Grown s₀ s) : Grown s₀ (s.step4 r) := h.setAt.ite h.step5

theorem countOor {n k} (h : Grown s₀ s) : Grown s₀ (s.countOor n k) := by
  unfold State.countOor; split
  · exact h.bump
  · exact h.bump

theorem noEffect {r} (h : Grown s₀ s) : Grown s₀ (s.noEffect r) := by
  unfold State.noEffect; split
  · exact h.drs
  · exact h.ndr

theorem step3 {r} (h : Grown s₀ s) : Grown s₀ (s.step3 r) := by
  refine h.setAt.ite (h.step4.ite ?_)
  split
  · exact h.countOor.noEffect
  · exact h.setAt.ite h.step4
  · exact h.setAt.ite h.step4
  · exact h.setAt

theorem outOfRange {r n} (h : Grown s₀ s) : Grown s₀ (s.outOfRange r n) := by
  refine .noEffect (.fault (.fset (.fset (.fset (.fput (.fset (.fset ?_)))))))
  split
  · exact h.countOor
  · exact h

theorem step2 {r} (h : Grown s₀ s) : Grown s₀ (s.step2 r) := by
  refine h.step3.ite (h.outOfRange.ite ?_)
  split
  · exact h.outOfRange
  · split
    · exact h.outOfRange
    · exact h.modFab.step3

theorem countCaps (h : Grown s₀ s) : Grown s₀ s.countCaps := h.modFab.foldl bump

theorem arrive {port ldId hpa tag kind data mask poison} (h : Grown s₀ s) :
    Grown s₀ (s.arrive port ldId hpa tag kind data mask poison) :=
  h.ite (h.modFab.step2.ite h.modFab).countCaps.showTrk

theorem wakeReq {rid} (h : Grown s₀ s) : Grown s₀ (s.wakeReq rid) := by
  unfold State.wakeReq; split
  · split
    · exact h.step4
    · split
      · exact h
      · exact h.step6
    · exact h.step6
    · exact h.step6
    · exact h.step5
    · exact h.step3
    · exact h
  · exact h

theorem wakePage {p} (h : Grown s₀ s) : Grown s₀ (s.wakePage p) := h.foldl wakeReq
theorem wakeAll {which} (h : Grown s₀ s) : Grown s₀ (s.wakeAll which) := h.foldl fun h => h.wakeReq.wakePage
theorem wakePool (h : Grown s₀ s) : Grown s₀ s.wakePool := h.wakeAll
theorem wakeWmb (h : Grown s₀ s) : Grown s₀ s.wakeWmb := h.wakeAll
theorem wakeLd {n} (h : Grown s₀ s) : Grown s₀ (s.wakeLd n) := h.wakeAll
theorem settle (h : Grown s₀ s) : Grown s₀ s.settle := h.wakePool.refill.checkFilled.kick.showTrk

theorem discard {which} (h : Grown s₀ s) : Grown s₀ (s.discard which) := by
  unfold State.discard
  extract_lets gone ids s1 keep cut s2 s3
  have h1 : Grown s₀ s1 := h.foldl fun {s r} h => by
    extract_lets s1
    have h1 : Grown s₀ s1 := .ite h.emit (.ite h h.bump)
    split
    · exact h1.forkGone
    · exact h1
  have h2 : Grown s₀ s2 := h1.rest
  exact h2.modFab.foldl wakePage

theorem ueLine {line} (h : Grown s₀ s) : Grown s₀ (s.ueLine line) := by
  unfold State.ueLine; extract_lets; split
  · exact (h.bump.issue.nextRead.ite h.bump.setPState).bump
  · exact h.bump
  · exact h.bump
  · exact h.bump.poisonPage.fault.forUpto setPoison
  · exact h.bump.poisonPage.fault.forUpto setPoison
  · exact h.bump.poisonPage.fault.forUpto setPoison
  · exact h.bump.setPoison
  · exact h.bump.setPoison

theorem memInv {port ldId tag} (h : Grown s₀ s) : Grown s₀ (Machine.memInv port ldId tag s) := h.emit.ite h

theorem unsupportedRequest {port channel opcode} (h : Grown s₀ s) :
    Grown s₀ (Machine.unsupportedRequest port channel opcode s) :=
  h.bump.fault

theorem trackerEntryFree {port} (h : Grown s₀ s) : Grown s₀ (Machine.trackerEntryFree port s) := by
  refine .ite ?_ h
  split
  · exact h.step2.countCaps.showTrk.showWeir
  · exact h

theorem markDevice {c i rank dev} (h : Grown s₀ s) : Grown s₀ (s.markDevice c i rank dev) :=
  (h.ite h.fset.fset.fset.fsat.fault).ite h.fset.fset.fset.fault
theorem showCand {c i} (h : Grown s₀ s) : Grown s₀ (s.showCand c i) := h.fsat.fset.fset
theorem chargeDevice {line dev n} (h : Grown s₀ s) : Grown s₀ (s.chargeDevice line dev n) :=
  h.modChan.showCand.markDevice.ite h.modChan.showCand
theorem corrected {line symbols} (h : Grown s₀ s) : Grown s₀ (s.corrected line symbols) :=
  h.bump.fault.foldl chargeDevice

theorem decodeLine {line r} (h : Grown s₀ s) : Grown s₀ (s.decodeLine line r).1 := by
  unfold State.decodeLine; extract_lets; split
  · exact h.corrected
  · split
    · refine h.markDevice.ite_fst ?_
      split
      · exact h.markDevice.corrected
      · exact h.markDevice
    · exact h
  · exact h

theorem lineBack {line d} (h : Grown s₀ s) : Grown s₀ (s.lineBack line d).1 := by
  unfold State.lineBack; split
  · exact h
  · exact h
  · exact h.setPoison
  · exact h.ueLine

theorem wmbPartialFill {rid d} (h : Grown s₀ s) : Grown s₀ (Machine.wmbPartialFill rid d s) := by
  unfold Machine.wmbPartialFill; split
  · extract_lets line cut s1 x s2
    have hx : Grown s₀ x.1 := h.modChan.lineBack
    have h2 : Grown s₀ s2 := by
      unfold s2; split
      · exact hx.step6
      · exact hx.step6
      · exact hx.step6.ite hx.acceptWrite
    exact h2.wakePage.settle.showWeir
  · exact h

theorem passHold {r} (h : Grown s₀ s) : Grown s₀ (s.passHold r) := h.step6.wakePage.settle.showWeir

theorem weirWaitExpiry {rid} (h : Grown s₀ s) : Grown s₀ (Machine.weirWaitExpiry rid s) := by
  unfold Machine.weirWaitExpiry; split
  · split
    · exact (h.bump.modFab.passHold.ite h.bump.setAt).ite h
    · exact h
  · exact h

theorem forkSlotWaitExpiry {rid} (h : Grown s₀ s) : Grown s₀ (Machine.forkSlotWaitExpiry rid s) := by
  unfold Machine.forkSlotWaitExpiry; split
  · split
    · exact h.bump.setAt.ite h
    · exact h
  · exact h

theorem forkCopyDone {p} (h : Grown s₀ s) : Grown s₀ (Machine.forkCopyDone p s) := by
  unfold Machine.forkCopyDone; split
  · extract_lets owedStill s1 s2
    have h1 : Grown s₀ s1 := h.forkEnd.ite h.forkGone
    have h2 : Grown s₀ s2 := by
      unfold s2; split
      · exact h1.step7.ite h1.step6
      · exact h1
    exact h.ite h2.wakePage.settle.showWeir
  · exact h

theorem drawn {p} (h : Grown s₀ s) : Grown s₀ (s.drawn p) := h.wakePage.settle.showWeir

theorem flashReadDone {p res} (h : Grown s₀ s) : Grown s₀ (Machine.flashReadDone p res s) := by
  unfold Machine.flashReadDone
  extract_lets k s1
  have h1 : Grown s₀ s1 := h.ladderRead.modLog.scrubMore
  split
  · refine .ite ?_ h1
    split
    · exact h1.modDraw.foldl dieFree
    · exact .fault (h1.modDraw.foldl dieFree)
  · exact h1

theorem endRestore {d formOk} (h : Grown s₀ s) : Grown s₀ (s.endRestore d formOk) :=
  h.restorePage.ite (h.lostPage.ite h.modDraw)

theorem parityRebuildDone {p ok} (h : Grown s₀ s) : Grown s₀ (Machine.parityRebuildDone p ok s) := by
  unfold Machine.parityRebuildDone; split
  · exact (h.satUp.restorePage.bump.relocStripe.drawn.ite h.satUp.lostPage.drawn).ite h
  · exact h

theorem drawDone {p formOk} (h : Grown s₀ s) : Grown s₀ (Machine.drawDone p formOk s) := by
  unfold Machine.drawDone; split
  · exact h.ite (h.endRestore.drawn.ite (h.restorePage.drawn.ite h))
  · exact h

theorem refillReadDone {ps formOk} (h : Grown s₀ s) : Grown s₀ (Machine.refillReadDone ps formOk s) := by
  refine .showWeir (.settle (h.foldl fun h => ?_))
  split
  · exact h.endRestore.wakePage.ite h
  · exact h

theorem zeroFillDone {p} (h : Grown s₀ s) : Grown s₀ (Machine.zeroFillDone p s) := by
  unfold Machine.zeroFillDone; split
  · exact h.restorePage.drawn.ite h
  · exact h

/-! ### The commands of the DRAM channels -/

theorem nextIssue {c i} (h : Grown s₀ s) : Grown s₀ (s.nextIssue c i) := by
  unfold State.nextIssue; extract_lets; split
  · exact h.moveWmb.modChan.issueReq.wakeWmb.showTrk
  · exact h.moveWmb.modChan.wakeWmb.showTrk

theorem dramRequestIssue {c i} (h : Grown s₀ s) : Grown s₀ (Machine.dramRequestIssue c i s) := by
  unfold Machine.dramRequestIssue
  refine .ite h ?_
  extract_lets s1 x
  have h1 : Grown s₀ s1 := h.refreshDue
  split
  · exact h1.modChan.ite h1
  · exact h1.nextIssue

theorem recordGone {p} (h : Grown s₀ s) : Grown s₀ (s.recordGone p) := by
  unfold State.recordGone; split
  · exact h
  · exact .ite (h.setPage.foldl ckptCopied) h.setPage.markPoisoned

theorem lostRecord {p} (h : Grown s₀ s) : Grown s₀ (s.lostRecord p) := h.rest.ite h.rest.recordGone
theorem ueReserve {line} (h : Grown s₀ s) : Grown s₀ (s.ueReserve line) :=
  h.bump.fault.ite (.ite (h.bump.forUpto lostRecord) (h.bump.rest.modRill.ite h.bump))

theorem engineLine {line port d} (h : Grown s₀ s) : Grown s₀ (s.engineLine line port d) := by
  unfold State.engineLine
  extract_lets s1
  have h1 : Grown s₀ s1 := h.lineBack
  refine .ite h1 (.ite h.ueReserve ?_)
  split
  · exact .ite h1.rest h1
  · exact h1

theorem readBack {c i d} (h : Grown s₀ s) (hd : ∀ {s line}, Grown s₀ s → Grown s₀ (d s line).1) :
    Grown s₀ (s.readBack c i d) := by
  unfold State.readBack; split
  · exact h
  · extract_lets s1 x y
    have hx : Grown s₀ x.1 := hd h.modChan
    split
    · exact hx.wmbPartialFill
    · split
      · extract_lets s2
        have hy : Grown s₀ y.1 := hx.lineBack
        have h2 : Grown s₀ s2 := hy.drs.ite (by
          split
          · exact hy.setAt
          · exact hy.setAt
          · exact hy.drs)
        exact h2.wakePage.settle.showWeir
      · exact hx.lineBack
    · exact hx.engineLine.settle.showWeir
    · exact hx

theorem dramReadDone {c i r} (h : Grown s₀ s) : Grown s₀ (Machine.dramReadDone c i r s) := h.readBack decodeLine

theorem scrubTurn {c line t} (h : Grown s₀ s) (e : s.scrubTurn c line = some t) : Grown s₀ t := by
  unfold State.scrubTurn at e
  extract_lets at e
  split_ifs at e <;> cases e
  · exact h.modChan
  · exact h.modChan

theorem dramScrubRead {line d} (h : Grown s₀ s) : Grown s₀ (Machine.dramScrubRead line d s) := by
  unfold Machine.dramScrubRead
  refine .ite h ?_
  split
  · exact h
  case h_2 e =>
    extract_lets x s1
    have hx : Grown s₀ x.1 := (h.scrubTurn e).passRead.decodeLine
    have h1 : Grown s₀ s1 := .ite (by
      split
      · exact hx.ueReserve
      · exact hx) hx.lineBack
    exact h1.settle

theorem refreshSlot {c rank} (h : Grown s₀ s) : Grown s₀ (Machine.refreshSlot c rank s) := h.ite h.takeSlot

theorem sendRank {c rank cmd} (h : Grown s₀ s) : Grown s₀ (s.sendRank c rank cmd) := h.rest

theorem mr4Poll {c readOk hottest} (h : Grown s₀ s) : Grown s₀ (Machine.mr4Poll c readOk hottest s) := by
  unfold Machine.mr4Poll
  extract_lets s1 s2 n s3
  have h1 : Grown s₀ s1 := h.foldl sendRank
  have h2 : Grown s₀ s2 := h1.modChan
  have h3 : Grown s₀ s3 := h1.modChan
  exact h.ite (.ite (h2.ite h2.fset.fault) (h3.fset.fault.ite h3))

theorem rhTableClear {c} (h : Grown s₀ s) : Grown s₀ (Machine.rhTableClear c s) := h.modChan.ite h
theorem rankPowerDown {c rank} (h : Grown s₀ s) : Grown s₀ (Machine.rankPowerDown c rank s) := h.ite h.modChan
theorem dqsTrack {c rank drift} (h : Grown s₀ s) : Grown s₀ (Machine.dqsTrack c rank drift s) :=
  h.ite (h.sendRank.sendRank.modChan.ite h.sendRank.sendRank)
theorem setRetrain {c rank b} (h : Grown s₀ s) : Grown s₀ (s.setRetrain c rank b) := h.fset

theorem eyeSample {c rank left right vref} (h : Grown s₀ s) :
    Grown s₀ (Machine.eyeSample c rank left right vref s) := by
  unfold Machine.eyeSample
  extract_lets line s1 n publish ranks s2 s3 s4
  have h3 : Grown s₀ s3 := .foldl (h.forUpto passRead).modChan fsat
  have h4 : Grown s₀ s4 := h3.fsat.fsat.fsat
  exact h.ite (.ite (h4.setRetrain.ite h4) h3)

theorem settings {c ranks} (h : Grown s₀ s) : Grown s₀ (s.settings c ranks) := h.modChan
theorem rankRetrainDone {c rank better} (h : Grown s₀ s) : Grown s₀ (Machine.rankRetrainDone c rank better s) :=
  h.ite (h.setRetrain.bump.settings.ite h.setRetrain.bump.fault)

theorem captureFreeze {c i rank cause} (h : Grown s₀ s) : Grown s₀ (s.captureFreeze c i rank cause) := by
  unfold State.captureFreeze
  extract_lets k s1 s2 s3 s4
  have h3 : Grown s₀ s3 := h.rest.fset.fset.fset.fset.fput
  have h4 : Grown s₀ s4 := h3.forUpto fun h => h.forUpto fun h => h.fset.fset.fset.fset.fset.fset
  exact h4.forUpto fun h => h.forUpto fun h => h.fset.fset.fset.fset

theorem freeze {c i rank cause} (h : Grown s₀ s) : Grown s₀ (s.freeze c i rank cause) :=
  h.captureFreeze.modChan.setUnit.fset.bump.fault
theorem failAll {c i} (h : Grown s₀ s) : Grown s₀ (s.failAll c i) :=
  .foldl (h.foldl fun h => h.readBack id) (fun h => h.ueReserve.ite h.ueLine)
theorem alertFall {c i rank cause} (h : Grown s₀ s) : Grown s₀ (Machine.alertFall c i rank cause s) :=
  h.ite (h.modChan.bump.ite ((h.modChan.setRetrain.bump.ite h.modChan.failAll.modChan).ite h.modChan.freeze))

theorem rillFails {c t} (h : Grown s₀ s) : Grown s₀ (s.rillFails c t) := h.modRill.dropReqs.foldl fun h => by
  split
  · exact h.ite h.rest
  · exact h.setPState.ite h

theorem freezeHoldExpiry {c} (h : Grown s₀ s) : Grown s₀ (Machine.freezeHoldExpiry c s) := by
  unfold Machine.freezeHoldExpiry; split
  · exact h
  · refine .settle (.rillFails (h.modChan.foldl fun h => ?_))
    split
    · split
      · exact h.drs.wakePage
      · exact h
    · exact h

theorem selfRefresh {c} (h : Grown s₀ s) : Grown s₀ (s.selfRefresh c) := h.modChan.fset

theorem exitRefresh {c} (h : Grown s₀ s) : Grown s₀ (s.exitRefresh c) := h.rest

theorem leaveRefresh {c} (h : Grown s₀ s) : Grown s₀ (s.leaveRefresh c) := h.exitRefresh.fset
theorem chanRecovering {c} (h : Grown s₀ s) : Grown s₀ (s.chanRecovering c) := h.exitRefresh.fset
theorem chanRecovered {c ok} (h : Grown s₀ s) : Grown s₀ (s.chanRecovered c ok) :=
  h.fset.modChan.settings.moveWmb.wakeWmb.settle.ite h.fset.bump
theorem unfreezeAll (h : Grown s₀ s) : Grown s₀ s.unfreezeAll :=
  h.foldl fun h => h.setUnit.fset.modChan.exitRefresh.ite h

/-! ### The commands of the rill and the spillway log -/

theorem afterFlash {dies} (h : Grown s₀ s) : Grown s₀ (s.afterFlash dies) :=
  .showWeir (.elyPump (.settle (h.foldl releaseDie)))
theorem stripeProgramDone {q us} (h : Grown s₀ s) : Grown s₀ (Machine.stripeProgramDone q us s) :=
  h.stripeDone.afterFlash
theorem stripeProgramFail {q c st} (h : Grown s₀ s) : Grown s₀ (Machine.stripeProgramFail q c st s) :=
  h.stripeFail.afterFlash
theorem diePollTimeout {ds} (h : Grown s₀ s) : Grown s₀ (Machine.diePollTimeout ds s) :=
  h.fault.retireDie.drawsToParity.settle.ite h
theorem scrubPeriod (h : Grown s₀ s) : Grown s₀ (Machine.scrubPeriod s) := h.modLog.scrubMore.ite h
theorem serviceRecord {c what} (h : Grown s₀ s) : Grown s₀ (s.serviceRecord c what) := h.rest.journal
theorem channelOut {c} (h : Grown s₀ s) : Grown s₀ (Machine.channelOut c s) :=
  h.modLog.serviceRecord.ite (h.modLog.ite h)

theorem channelsLeave (h : Grown s₀ s) : Grown s₀ s.channelsLeave := h.modLog.foldl fun h => by
  extract_lets s1 s2 s3 s4
  have h2 : Grown s₀ s2 := h.fset.showCap
  have h3 : Grown s₀ s3 := h2.setUnit.ite h2
  refine forUpto ?_ drawsToParity
  unfold s4; split
  · exact h3.jnlCopyFail
  · exact h3

theorem channelIn {c} (h : Grown s₀ s) : Grown s₀ (Machine.channelIn c s) := by
  unfold Machine.channelIn
  extract_lets s1 s2 s3 back s4
  have h3 : Grown s₀ s3 := h.fset.showCap.modLog.setUnit
  refine .ite (.serviceRecord (.fset ?_)) h
  clear_value back
  unfold s4; split
  · exact h3.jnlCopyBack
  · exact h3

theorem channelVerifyDone {c bad} (h : Grown s₀ s) : Grown s₀ (Machine.channelVerifyDone c bad s) :=
  .ite (.tailAdvance (.serviceRecord (.fset (h.modLog.foldl relocStripe)))) h

/-! ### Power domains -/

theorem modDom {d f} (h : Grown s₀ s) : Grown s₀ (s.modDom d f) := h.rest
theorem resTouch {d} (h : Grown s₀ s) : Grown s₀ (s.resTouch d) := (h.ite h.wrap.modDom).ite h

theorem switchDom {d mode} (h : Grown s₀ s) : Grown s₀ (s.switchDom d mode) := by
  unfold State.switchDom
  extract_lets s1 s2
  have h1 : Grown s₀ s1 := h.resTouch.modDom.fset
  exact (h1.fset.ite h1).releasePlungeN.rest.ite ((h1.fset.ite h1).selfRefresh.ite (h1.fset.ite h1))

theorem dramPower {c on} (h : Grown s₀ s) : Grown s₀ (s.dramPower c on) := h.foldl fun h => h.switchDom.fset.ite h
theorem wakeDom {d} (h : Grown s₀ s) : Grown s₀ (s.wakeDom d) := h.ite h.modDom.fset
theorem clearPend {d} (h : Grown s₀ s) : Grown s₀ (s.clearPend d) := h.modDom.fset
theorem pdmReport {d cls mode reason refused} (h : Grown s₀ s) : Grown s₀ (s.pdmReport d cls mode reason refused) :=
  (h.fset.fset.fset.bump.ite h.fset.fset.fset.bump).fset.fset.fset.fset.fset.ite h.fset.fset.fset

theorem pdmAbort {d reason} (h : Grown s₀ s) : Grown s₀ (s.pdmAbort d reason) := by
  unfold State.pdmAbort; split
  · exact h.clearPend.pdmReport
  · exact h

theorem domainWait {d cls mode} (h : Grown s₀ s) : Grown s₀ (Machine.domainWait d cls mode s) := by
  unfold Machine.domainWait
  extract_lets s1 why t
  have h1 : Grown s₀ s1 := h.fset
  exact h.ite (h1.pdmReport.ite (h1.ite (h1.modDom.ite (h1.clearPend.wakeDom.ite
    (h1.clearPend.ite h1.modDom.fset)))))

theorem domainCancel {d} (h : Grown s₀ s) : Grown s₀ (Machine.domainCancel d s) := h.ite h.pdmAbort

theorem domainIdlePoint {d} (h : Grown s₀ s) : Grown s₀ (Machine.domainIdlePoint d s) := by
  unfold Machine.domainIdlePoint; split
  · exact h.clearPend.modDom.fset.ite h
  · exact h

theorem domainCommitWindowEnd {d} (h : Grown s₀ s) : Grown s₀ (Machine.domainCommitWindowEnd d s) := by
  unfold Machine.domainCommitWindowEnd; split
  · extract_lets x s1 level s2
    have h1 : Grown s₀ s1 := h.modDom.switchDom
    have h2 : Grown s₀ s2 := h1.wakeDom.ite h1
    refine h.ite ?_
    split
    · exact h2.domainWait
    · exact h2
  · exact h

theorem domainNoIdleTimeout {d} (h : Grown s₀ s) : Grown s₀ (Machine.domainNoIdleTimeout d s) := h.pdmAbort.ite h
theorem wakeOne {w d} (h : Grown s₀ s) : Grown s₀ (s.wakeOne w d) :=
  (h.modDom.ite (h.bump.ite h.bump)).ite (h.pdmAbort.wakeDom.ite h.pdmAbort)
theorem wakeSource {w} (h : Grown s₀ s) : Grown s₀ (Machine.wakeSource w s) :=
  h.ite ((h.fset.fset.ite h.fset).ite ((h.fset.fset.ite h.fset).foldl wakeOne))
theorem levelOff {w} (h : Grown s₀ s) : Grown s₀ (s.levelOff w) := h.fset.ite h
theorem plungeNWake {low} (h : Grown s₀ s) : Grown s₀ (Machine.plungeNWake low s) :=
  h.wakeSource.ite (h.ite h.levelOff)
theorem resetRange {lo hi} (h : Grown s₀ s) : Grown s₀ (s.resetRange lo hi) := h.rest
theorem domReset {d} (h : Grown s₀ s) : Grown s₀ (s.domReset d) := h.resetRange.ite (h.resetRange.rest.ite h)

theorem domainReady {d crcOk failWord} (h : Grown s₀ s) : Grown s₀ (Machine.domainReady d crcOk failWord s) := by
  unfold Machine.domainReady
  extract_lets x s1 bad s2 s3 ch s4
  have h1 : Grown s₀ s1 := h.switchDom
  have h2 : Grown s₀ s2 := h1.domReset.ite h1
  have h3 : Grown s₀ s3 := h2.fault.ite h2
  have h4 : Grown s₀ s4 := h3.leaveRefresh.ite h3
  exact h.ite (.ite (.ite (h4.forUpto setRetrain) h4) (.ite (h3.foldl nextRead) h3))

theorem need {d} (h : Grown s₀ s) : Grown s₀ (s.need d) := h.clearPend.wakeDom.ite h

theorem pdmWindowSpill {d} (h : Grown s₀ s) : Grown s₀ (s.pdmWindowSpill d) := by
  unfold State.pdmWindowSpill; split
  · exact h
  · refine .ite (.modDom ?_) ?_
    · split
      · exact h.modDom.pdmReport.ite h
      · exact h
    · split
      · exact h.modDom.pdmReport.ite h
      · exact h

theorem pdmSpill (h : Grown s₀ s) : Grown s₀ s.pdmSpill := by
  unfold State.pdmSpill
  refine rest (h.foldl fun h => ?_)
  extract_lets s1 s2
  have h1 : Grown s₀ s1 := by
    unfold s1; split
    · exact h.pdmAbort.ite h
    · exact h
  exact h1.pdmWindowSpill.wakeDom.ite h1.pdmWindowSpill

theorem hwDom {d mode held} (h : Grown s₀ s) : Grown s₀ (s.hwDom d mode held) := h.clearPend.modDom.switchDom

/-! ### The rail sequencer and supervisor -/

theorem modPsq {f} (h : Grown s₀ s) : Grown s₀ (s.modPsq f) := h.rest
theorem modRail {r f} (h : Grown s₀ s) : Grown s₀ (s.modRail r f) := h.modPsq
theorem setSeq {st} (h : Grown s₀ s) : Grown s₀ (s.setSeq st) := h.fset
theorem driveRail {r high} (h : Grown s₀ s) : Grown s₀ (s.driveRail r high) := h.ite h.fput.emit

theorem linksGone (h : Grown s₀ s) : Grown s₀ s.linksGone := h.rest

theorem rstAssert {i} (h : Grown s₀ s) : Grown s₀ (s.rstAssert i) :=
  h.modPsq.fset.linksGone.ite (h.modPsq.ite h.modPsq.fset.emit)
theorem rstRelease {i} (h : Grown s₀ s) : Grown s₀ (s.rstRelease i) := h.fset.ite (h.fset.emit.ite h)
theorem rstWatch (h : Grown s₀ s) : Grown s₀ s.rstWatch := h.foldl fun h => (h.ite h.modPsq).ite h.modPsq
theorem rstAll (h : Grown s₀ s) : Grown s₀ s.rstAll := h.foldl rstAssert
theorem driveLim {p} (h : Grown s₀ s) : Grown s₀ (s.driveLim p) := h.emit
theorem driveChg {p high} (h : Grown s₀ s) : Grown s₀ (s.driveChg p high) := h.ite h.fput.emit.driveLim
theorem chargersOff (h : Grown s₀ s) : Grown s₀ s.chargersOff := h.foldl fun h => h.driveChg.fset.ite h

theorem goOff (h : Grown s₀ s) : Grown s₀ s.goOff := by
  unfold State.goOff
  extract_lets s1 s2 src
  have h1 : Grown s₀ s1 := h.setDev.chargersOff.releasePlungeN.linksGone.modCol
  exact h1.modPsq.blockReset.rest

theorem latchSlots (h : Grown s₀ s) : Grown s₀ s.latchSlots := h.foldl modRail
theorem slotAct (h : Grown s₀ s) : Grown s₀ s.slotAct := .ite (h.fsat.foldl driveRail) h.fsat
theorem railsUnused (h : Grown s₀ s) : Grown s₀ s.railsUnused := h.foldl fun h => h.ite h.driveRail.fset
theorem inputRails (h : Grown s₀ s) : Grown s₀ s.inputRails := h.foldl fun h => h.driveRail.ite h
theorem powerUp (h : Grown s₀ s) : Grown s₀ s.powerUp :=
  .slotAct (h.latchSlots.inputRails.setSeq.fset.modPsq.foldl fun h => h.modRail.fset)
theorem powerDown {failed} (h : Grown s₀ s) : Grown s₀ (s.powerDown failed) :=
  .slotAct (h.rstAll.latchSlots.setSeq.fset.modPsq.foldl fun h => h.modRail.fset.ite h)
theorem upDone (h : Grown s₀ s) : Grown s₀ s.upDone :=
  (h.satUp.powerDown.ite (h.fset.powerDown.ite h.setSeq.fset.fset.rstWatch)).ite h

theorem downDone (h : Grown s₀ s) : Grown s₀ s.downDone := by
  unfold State.downDone
  extract_lets on_ s1 s2 spent t
  have h2 : Grown s₀ s2 := (h.ite h.goOff).fset
  exact .ite ((h2.fset.ite h2).powerUp.ite (h2.setSeq.ite h2.setSeq.modPsq)) h

theorem seqCheck (h : Grown s₀ s) : Grown s₀ s.seqCheck := h.upDone.ite (h.downDone.ite h.rstWatch)

theorem offRequest (h : Grown s₀ s) : Grown s₀ s.offRequest := by
  unfold State.offRequest; split
  · exact h.powerDown
  · exact h.fset
  · exact h.fset.ite h
  · exact h

theorem onRequest (h : Grown s₀ s) : Grown s₀ s.onRequest := by
  unfold State.onRequest; split
  · exact h.powerUp
  · exact h.fset.powerUp
  · exact h.fset.ite h
  · exact h.fset
  · exact h.fset
  · exact h

theorem railSlot (h : Grown s₀ s) : Grown s₀ (Machine.railSlot s) := h.slotAct.seqCheck
theorem railFault {r} (h : Grown s₀ s) : Grown s₀ (s.railFault r) := h.fault
theorem railTimeout {r} (h : Grown s₀ s) : Grown s₀ (Machine.railTimeout r s) :=
  h.modRail.bump.railFault.seqCheck.ite h

theorem powerUpRetry (h : Grown s₀ s) : Grown s₀ (Machine.powerUpRetry s) := by
  unfold Machine.powerUpRetry; split
  · exact h.powerUp.ite h
  · exact h

theorem railLoss {r} (h : Grown s₀ s) : Grown s₀ (s.railLoss r) :=
  .rstWatch (h.fset.foldl fun h => h.rstAssert.ite h)
theorem dramUv {r} (h : Grown s₀ s) : Grown s₀ (s.dramUv r) := h.fset.ite h
theorem railUv {r} (h : Grown s₀ s) : Grown s₀ (s.railUv r) := h.ite h.fset.bump.railFault.railLoss

theorem judge {r} (h : Grown s₀ s) : Grown s₀ (s.judge r) := by
  unfold State.judge
  extract_lets x f s1 s2 s3
  have h2 : Grown s₀ s2 := (h.railUv.ite h).fset.bump.railFault.ite (h.railUv.ite h)
  have h3 : Grown s₀ s3 := h2.fset.fset.ite h2
  exact h3.fset.modRail.ite h3

theorem railSample {r code} (h : Grown s₀ s) : Grown s₀ (Machine.railSample r code s) := by
  unfold Machine.railSample
  extract_lets s1 s2 lo hi inn s3 pg s4
  have h1 : Grown s₀ s1 := h.fset
  have h2 : Grown s₀ s2 := h1.dramUv.ite h1
  have h3 : Grown s₀ s3 := h2.fset.ite h2
  exact h.ite (h2.ite h3.modRail.judge.seqCheck)

theorem railPgLoss {r} (h : Grown s₀ s) : Grown s₀ (Machine.railPgLoss r s) :=
  h.fset.bump.railFault.modRail.railUv.railLoss.dramUv.seqCheck.ite (h.fset.dramUv.ite h.fset)

theorem resetStretchExpiry {i} (h : Grown s₀ s) : Grown s₀ (Machine.resetStretchExpiry i s) := by
  unfold Machine.resetStretchExpiry; extract_lets; split
  · exact h.rstRelease.ite h
  · exact h

theorem abandon (h : Grown s₀ s) : Grown s₀ s.abandon := by
  unfold State.abandon
  extract_lets n s1
  have h1 : Grown s₀ s1 := h.modPsq.elyRecord
  exact h1.rest.ite h1

theorem holdupEntry (h : Grown s₀ s) : Grown s₀ (Machine.holdupEntry s) := by
  unfold Machine.holdupEntry
  extract_lets s1 s2 s3
  have h2 : Grown s₀ s2 := h.setSeq.rstAll.foldl fun h => h.modRail.driveRail.fset.dramUv.ite h
  have h3 : Grown s₀ s3 := h2.foldl fun h => h.ite h.hwDom
  exact .ite (h3.abandon.ite h3) h

theorem holdupEnd (h : Grown s₀ s) : Grown s₀ (Machine.holdupEnd s) :=
  .ite (.ite (.powerUp (.fset (.setSeq (.goOff (h.foldl driveRail)))))
    (.fset (.setSeq (.goOff (h.foldl driveRail))))) h

theorem reset094 (h : Grown s₀ s) : Grown s₀ s.reset094 := h.resetRange.resetRange.resetRange.resetRange
theorem loadRail {r v} (h : Grown s₀ s) : Grown s₀ (s.loadRail r v) := h.foldl fset
theorem loadRst {i v} (h : Grown s₀ s) : Grown s₀ (s.loadRst i v) := h.foldl fset

theorem vaonGone (h : Grown s₀ s) : Grown s₀ s.vaonGone := by
  unfold State.vaonGone
  extract_lets s1 s2 lost
  have h1 : Grown s₀ s1 := goOff (h.rstAll.foldl driveRail)
  have h2 : Grown s₀ s2 := h1.reset094.blockReset
  clear_value s2
  exact h2.rest

theorem vaonPowerOn {chrysalisOk} (h : Grown s₀ s) : Grown s₀ (Machine.vaonPowerOn chrysalisOk s) := by
  unfold Machine.vaonPowerOn
  extract_lets copy ok g t s1 s2
  have h1 : Grown s₀ s1 := h.vaonGone.rest
  have h2 : Grown s₀ s2 := h1.rest.ite (.foldl (h1.foldl loadRail) loadRst)
  exact h2.latchSlots.inputRails

theorem porAssert (h : Grown s₀ s) : Grown s₀ (Machine.porAssert s) := h.modPsq.fset.goOff
theorem porRelease (h : Grown s₀ s) : Grown s₀ (Machine.porRelease s) := h.modPsq.resetStretchExpiry

/-! ### The cistern -/

theorem modCis {f} (h : Grown s₀ s) : Grown s₀ (s.modCis f) := h.rest
theorem modPack {p f} (h : Grown s₀ s) : Grown s₀ (s.modPack p f) := h.modCis
theorem setZ {p i v} (h : Grown s₀ s) : Grown s₀ (s.setZ p i v) := h.fsat.ite h.fsat
theorem healthShow {p} (h : Grown s₀ s) : Grown s₀ (s.healthShow p) := h.fset
theorem reDesign (h : Grown s₀ s) : Grown s₀ s.reDesign := .foldl (.ite (h.foldl modPack) h) healthShow

theorem recTouch {p} (h : Grown s₀ s) : Grown s₀ (s.recTouch p) := h.rest

theorem recWrite {p} (h : Grown s₀ s) : Grown s₀ (s.recWrite p) := h.rest

theorem zFlash {p} (h : Grown s₀ s) : Grown s₀ (s.zFlash p) := h.recWrite.modPack.ite h
theorem zChanged {p} (h : Grown s₀ s) : Grown s₀ (s.zChanged p) := h.recTouch.zFlash
theorem recFlashed (h : Grown s₀ s) : Grown s₀ s.recFlashed := h.foldl modPack

theorem loadRecords {bad} (h : Grown s₀ s) : Grown s₀ (s.loadRecords bad) := by
  unfold State.loadRecords
  refine h.foldl fun {s p} h => ?_
  extract_lets r
  clear_value r
  split
  · exact h
  · exact .healthShow (h.modPack.fset.fset.foldl setZ)

theorem socFrom {p mv} (h : Grown s₀ s) : Grown s₀ (s.socFrom p mv) := h.modPack.fset
theorem socCount {p} (h : Grown s₀ s) : Grown s₀ (s.socCount p) := h.ite h.modPack.fset
theorem cyclesUp {p} (h : Grown s₀ s) : Grown s₀ (s.cyclesUp p) := h.ite h.modPack.satUp.recWrite
theorem coulomb {p v} (h : Grown s₀ s) : Grown s₀ (s.coulomb p v) :=
  (h.fset.modPack.fset.ite h.fset.modPack).socCount.cyclesUp.ite (h.fset.modPack.fset.ite h.fset.modPack)

theorem coulombSample {shunt} (h : Grown s₀ s) : Grown s₀ (Machine.coulombSample shunt s) := h.foldl fun h => by
  split
  · exact h.coulomb
  · exact h

theorem judgePack {p} (h : Grown s₀ s) : Grown s₀ (s.judgePack p) := h.fput
theorem limAccepted {was} (h : Grown s₀ s) : Grown s₀ (s.limAccepted was) := h.foldl fun h => h.driveLim.ite h
theorem charge {p} (h : Grown s₀ s) : Grown s₀ (s.charge p) := h.modPack.fset.driveChg
theorem chargeAll (h : Grown s₀ s) : Grown s₀ s.chargeAll := h.foldl charge
theorem inputPath {high} (h : Grown s₀ s) : Grown s₀ (s.inputPath high) := h.driveRail
theorem learnReject (h : Grown s₀ s) : Grown s₀ s.learnReject := h.bump
theorem calEnd {st reason} (h : Grown s₀ s) : Grown s₀ (s.calEnd st reason) :=
  .ite (.learnReject ((h.inputPath.ite h).fset.fset.foldl modPack)) h

theorem calibrationGo {pack} (h : Grown s₀ s) : Grown s₀ (Machine.calibrationGo pack s) := by
  unfold Machine.calibrationGo
  extract_lets s1 t s2 s3 s4
  have h1 : Grown s₀ s1 := h.modCis
  have h3 : Grown s₀ s3 := h.fset.modCis
  exact (h1.ite h1.modCis.inputPath.fset).ite
    (h.ite (h3.fset.fset.learnReject.ite (h3.fset.fset.foldl modPack)))

theorem calPause (h : Grown s₀ s) : Grown s₀ s.calPause := h.modCis.inputPath.fset.satUp
theorem calibrationPause (h : Grown s₀ s) : Grown s₀ (Machine.calibrationPause s) :=
  h.modCis.calPause.ite (h.modCis.ite h)
theorem calibrationAbort (h : Grown s₀ s) : Grown s₀ (Machine.calibrationAbort s) := h.calEnd

theorem calibrationFull (h : Grown s₀ s) : Grown s₀ (Machine.calibrationFull s) := by
  unfold Machine.calibrationFull
  extract_lets s1
  have h1 : Grown s₀ s1 := h.foldl fun h => h.modPack.fset.ite h
  exact .ite (h1.fset.inputPath.chargeAll.ite h1) h

theorem calibrationDischargeEnd (h : Grown s₀ s) : Grown s₀ (Machine.calibrationDischargeEnd s) :=
  h.inputPath.fset.ite h
theorem learn {p} (h : Grown s₀ s) : Grown s₀ (s.learn p).1 :=
  h.modPack.modPack.healthShow.recWrite.ite_fst h.modPack.learnReject
theorem calAnchor {p} (h : Grown s₀ s) : Grown s₀ (s.calAnchor p) :=
  ((h.learn.fset.ite h.learn).fset.ite (h.learn.fset.ite h.learn)).ite h
theorem socAnchor {p} (h : Grown s₀ s) : Grown s₀ (Machine.socAnchor p s) :=
  h.socFrom.modPack.fset.fset.fset.calAnchor.ite h
theorem socUncGrowth {p} (h : Grown s₀ s) : Grown s₀ (Machine.socUncGrowth p s) := h.modPack.fset.ite h
theorem rehFail (h : Grown s₀ s) : Grown s₀ s.rehFail := h.modCis.fset
theorem rehPlan (h : Grown s₀ s) : Grown s₀ s.rehPlan := (h.fsat.modCis.ite h.fsat.rehFail).ite h.fsat
theorem rehearsalGo (h : Grown s₀ s) : Grown s₀ (Machine.rehearsalGo s) := h.ite (h.modCis.ite h.modCis.rehFail)

theorem rehearsalStart (h : Grown s₀ s) : Grown s₀ (Machine.rehearsalStart s) := by
  unfold Machine.rehearsalStart; split
  · exact h.ite (h.rehFail.ite (.chargeAll (.inputPath (.modCis (h.foldl modPack)))))
  · exact h

theorem rehearsalLoad (h : Grown s₀ s) : Grown s₀ (Machine.rehearsalLoad s) := by
  unfold Machine.rehearsalLoad; split
  · exact h.modCis.emit.ite h
  · exact h

theorem rehUnload (h : Grown s₀ s) : Grown s₀ s.rehUnload := h.modCis.emit.ite h
theorem rehStop (h : Grown s₀ s) : Grown s₀ s.rehStop := h.modCis.rehUnload
theorem rehPath (h : Grown s₀ s) : Grown s₀ s.rehPath := h.inputPath.foldl closeStripe
theorem rehAbort {result path} (h : Grown s₀ s) : Grown s₀ (s.rehAbort result path) :=
  (h.rehStop.fset.rehPath.ite h.rehStop.fset).ite h
theorem rehearsalSample {mv} (h : Grown s₀ s) : Grown s₀ (Machine.rehearsalSample mv s) :=
  .ite (h.ite (.foldl (h.rehAbort.foldl fun h => h.fset.fault) recWrite)) h

theorem rehearsalEnd {powerDw mv ma} (h : Grown s₀ s) : Grown s₀ (Machine.rehearsalEnd powerDw mv ma s) := by
  unfold Machine.rehearsalEnd; split
  · exact h.rehStop.modCis.rehPath.ite h
  · exact h

theorem rehFactor {p v i} (h : Grown s₀ s) : Grown s₀ (s.rehFactor p v i) := (h.fset.rest.ite h.fset).recWrite

theorem rehearsalPublish (h : Grown s₀ s) : Grown s₀ (Machine.rehearsalPublish s) := by
  unfold Machine.rehearsalPublish; split
  · exact .chargeAll (.fsat (.fset (.fsat (.fset (.modCis (h.foldl rehFactor))))))
  · exact h

theorem cisTrigger (h : Grown s₀ s) : Grown s₀ s.cisTrigger := h.calEnd.rehAbort.chargeAll
theorem cisCold (h : Grown s₀ s) : Grown s₀ s.cisCold := h.calEnd.modCis
theorem packSample {p x} (h : Grown s₀ s) : Grown s₀ (s.packSample p x) :=
  (h.fsat.fset.fput.fput.fault.ite h.fsat.fset.fput.fput).modPack.judgePack
theorem calWatch (h : Grown s₀ s) : Grown s₀ s.calWatch :=
  h.modCis.calPause.ite ((h.modCis.ite h.modCis.calibrationGo).ite h)

theorem cisternSample {xs} (h : Grown s₀ s) : Grown s₀ (Machine.cisternSample xs s) := by
  refine .chargeAll (.calWatch (h.foldl fun h => ?_))
  split
  · exact h.packSample
  · exact h

theorem lightPulse {p} (h : Grown s₀ s) : Grown s₀ (Machine.lightPulse p s) := h.modPack.charge.ite h

theorem lightPulseEnd {p dv di} (h : Grown s₀ s) : Grown s₀ (Machine.lightPulseEnd p dv di s) := by
  unfold Machine.lightPulseEnd; split
  · exact (h.rest.ite h).setZ.modPack.zChanged.charge.ite h
  · exact h

theorem packRemoved {p} (h : Grown s₀ s) : Grown s₀ (Machine.packRemoved p s) :=
  h.fset.fset.modPack.fset.charge.fset.bump.fault.calEnd.rehAbort.chargeAll.ite h

theorem swapIn {p} (h : Grown s₀ s) : Grown s₀ (s.swapIn p) := by
  unfold State.swapIn
  extract_lets t v s1 s2
  have h2 : Grown s₀ s2 := h.socFrom.modPack.fset.fset.fset
  exact h2.ite (.zChanged (.healthShow (h2.modPack.fset.fset.foldl setZ)))

theorem swapAll (h : Grown s₀ s) : Grown s₀ s.swapAll := h.foldl fun h => h.swapIn.judgePack.ite h
theorem packInserted {p mv} (h : Grown s₀ s) : Grown s₀ (Machine.packInserted p mv s) :=
  (h.fset.fsat.modPack.ite h.fset.fsat.modPack.swapIn).ite h
theorem packCounted {p} (h : Grown s₀ s) : Grown s₀ (Machine.packCounted p s) := h.judgePack.ite h
theorem socReport {pps} (h : Grown s₀ s) : Grown s₀ (s.socReport pps) :=
  h.fput.fset.rest.ite (h.fput.fsat.ite (h.fput.ite h.fput.fset))
theorem publishUsable (h : Grown s₀ s) : Grown s₀ s.publishUsable :=
  .socReport (.fsat (.fsat (.fput (.fput (.foldl (h.foldl judgePack) (fun h => h.fsat.fset.fput))))))
theorem cisBeat (h : Grown s₀ s) : Grown s₀ s.cisBeat := .chargeAll (.publishUsable (h.rehPlan.foldl zFlash))
theorem alarmHit (h : Grown s₀ s) : Grown s₀ (Machine.alarmHit s) := h.fset.modCis.wakeSource.ite h
theorem crystalTrim {running} (h : Grown s₀ s) : Grown s₀ (Machine.crystalTrim running s) := h.fput

/-! ### Cuts and spills -/

theorem cutLd {n cause want late report rings} (h : Grown s₀ s) :
    Grown s₀ (s.cutLd n cause want late report rings).1 := by
  unfold State.cutLd; extract_lets; split
  · exact .ite_fst (pair h.takeRetain.modCkpt.showCkpts) (pair h.takeCkpt)
  · exact pair h.takeCkpt

theorem cutCovered {cause beat mask own late} (h : Grown s₀ s) :
    Grown s₀ (s.cutCovered cause beat mask own late) := by
  unfold State.cutCovered
  refine .modCol (h.foldl_fst fun {x n} h => ?_)
  extract_lets y
  have hy : Grown s₀ y.1 := h.cutLd
  split
  · exact hy
  · exact hy

theorem cutAsked {n} (h : Grown s₀ s) : Grown s₀ (s.cutAsked n) := by
  refine h.ite ?_
  split
  · exact h.cutLd.foldl modAcc
  · exact .foldl (h.cutLd.foldl modAcc) finish

theorem passCuts (h : Grown s₀ s) : Grown s₀ s.passCuts := h.modCol.foldl fun h => .foldl (h.foldl finish) finish
theorem checkpointCut (h : Grown s₀ s) : Grown s₀ (Machine.checkpointCut s) :=
  h.ite (.showWeir (.reportCuts (.writeCkptRecs (.foldl (h.modCol.foldl cutCovered) cutAsked))))
theorem spillTrigger {cause} (h : Grown s₀ s) : Grown s₀ (s.spillTrigger cause) :=
  h.pdmSpill.modPsq.cisTrigger.setStage.ownSpill

theorem fmSpill (h : Grown s₀ s) : Grown s₀ (Machine.fmSpill s) := by
  unfold Machine.fmSpill; split
  · exact h.spillTrigger
  · exact h.spillTrigger
  · exact h
  · exact h.ownPlunge.pullPlungeN
  · exact h.bump.ownPlunge.pullPlungeN

theorem inputCollapse (h : Grown s₀ s) : Grown s₀ (Machine.inputCollapse s) := by
  unfold Machine.inputCollapse
  extract_lets s1
  have h1 : Grown s₀ s1 := h.fset.fset.levelOff.chargeAll
  split
  · exact h1.spillTrigger
  · exact h1.spillTrigger
  · exact h1.spillTrigger.ite h1.offRequest.goOff
  · exact h1.offRequest
  · exact h1.bump

theorem inputGoodRise (h : Grown s₀ s) : Grown s₀ (Machine.inputGoodRise s) :=
  h.ite h.fset.fset.onRequest.wakeSource

theorem dropUnbegun (h : Grown s₀ s) : Grown s₀ s.dropUnbegun := by
  unfold State.dropUnbegun
  extract_lets open_ seqs items due back s1 s2 s3 s4 s5 s6 keep
  have h2 : Grown s₀ s2 := h.modRill.modLog.foldl fun h => by
    extract_lets s'
    have h' : Grown s₀ s' := by
      unfold s'; split
      · exact h.rest.ite h
      · exact h
    exact h'.setPState.ite h'
  have h4 : Grown s₀ s4 := h2.redoCkpts.foldl setPState
  exact h4.dropReqs.modRfl.modLog.rest.showSlots

theorem closeSluice (h : Grown s₀ s) : Grown s₀ s.closeSluice := h.rest.modFab.showTrk
theorem ldsSpill (h : Grown s₀ s) : Grown s₀ s.ldsSpill := h.foldl fun h => h.modLd.setLdState
theorem advanceRoles (h : Grown s₀ s) : Grown s₀ s.advanceRoles := h.modSpill.rest.foldl fset
theorem spillOpen (h : Grown s₀ s) : Grown s₀ s.spillOpen := h.elyRecord
theorem closeSession (h : Grown s₀ s) : Grown s₀ s.closeSession := h.modFlm.fset

theorem flmEnd {status us} (h : Grown s₀ s) : Grown s₀ (s.flmEnd status us) := by
  unfold State.flmEnd
  extract_lets s1 s2
  have h1 : Grown s₀ s1 := h.modFlm.fset.fset
  exact h1.fsat.bump.ite h1.fsat

theorem flmAtT (h : Grown s₀ s) : Grown s₀ s.flmAtT := by
  unfold State.flmAtT; extract_lets; split
  · exact h.closeSession.modFlm.ite h.closeSession.flmEnd.fset
  · exact h.closeSession

theorem repairStops (h : Grown s₀ s) : Grown s₀ s.repairStops := h.ite h.modBoot.fset

theorem spillBegin {cut origin cause late own} (h : Grown s₀ s) :
    Grown s₀ (s.spillBegin cut origin cause late own) := by
  unfold State.spillBegin
  extract_lets gen was owed allow devOwed over_ s1 order tail deficit head s2 b s3 boot s4 s5 s6 s7 s8
  have h2 : Grown s₀ s2 := h.flmAtT.closeSluice.unfreezeAll.dropUnbegun.modSpill
  have h3 : Grown s₀ s3 := h2.modCol
  have h4 : Grown s₀ s4 := h3.rest
  have h5 : Grown s₀ s5 := h4.ldsSpill.advanceRoles.repairStops.setDev
  have h6 : Grown s₀ s6 := h5.setStage.fset.showLdNow
  have h8 : Grown s₀ s8 := h6.fput.fset.fset.fset.fsat.fset
  exact h8.bump.spillOpen

theorem ownCutDue (h : Grown s₀ s) : Grown s₀ s.ownCutDue := by
  unfold State.ownCutDue; split
  · exact h.spillBegin.ite h
  · exact h

theorem cutBeatBoundary (h : Grown s₀ s) : Grown s₀ (Machine.cutBeatBoundary s) := by
  unfold Machine.cutBeatBoundary; split
  · exact h.ownCutDue
  · extract_lets b spillNow able cause fails s1
    have h1 : Grown s₀ s1 := h.modCol
    exact .ite (h1.spillBegin.ite (h1.cutCovered.writeCkptRecs.reportCuts.showWeir.ite h1))
      (h.spillBegin.ite h.ownCutDue)

theorem stageB (h : Grown s₀ s) : Grown s₀ s.stageB := h.setStage.elyPump.ite h
theorem spillDrainDone (h : Grown s₀ s) : Grown s₀ (Machine.spillDrainDone s) := h.drainAll.modSpill.stageB.ite h
theorem spillTakeoverDone (h : Grown s₀ s) : Grown s₀ (Machine.spillTakeoverDone s) := h.modSpill.stageB.ite h

theorem sealCkpts (h : Grown s₀ s) : Grown s₀ s.sealCkpts := by
  unfold State.sealCkpts
  extract_lets s1
  have h1 : Grown s₀ s1 := h.foldl fun h => by
    split
    · exact h.foldl ckptCopied
    · exact h.foldl ckptCopied
  exact h1.foldl fun h => .completeCkpts (h.foldl fun h => h.modCkpt.ite h)

theorem spillStageBEnd (h : Grown s₀ s) : Grown s₀ (Machine.spillStageBEnd s) :=
  (h.bump.ite h).modSpill.setStage.placeAll.modSpill.elyPump.ite h

theorem spillStageCEnd (h : Grown s₀ s) : Grown s₀ (Machine.spillStageCEnd s) := by
  unfold Machine.spillStageCEnd
  extract_lets s1 b first s2 g body r s3 s4
  have h1 : Grown s₀ s1 := h.foldl fun h => h.closeStripe.freeDies.land
  have h3 : Grown s₀ s3 := h1.modSpill.newStripe.setStage.modSpill
  refine .ite (elyPump ?_) h
  unfold s4; split
  · exact h3.modStripe
  · exact h3

theorem sendRailOff (h : Grown s₀ s) : Grown s₀ s.sendRailOff := h.elySend.modSpill

theorem sealProgrammed (h : Grown s₀ s) : Grown s₀ (Machine.sealProgrammed s) := by
  unfold Machine.sealProgrammed
  extract_lets s1 record g s2 inc t s3 s4 s5 s6 s7 s8 s9
  have h2 : Grown s₀ s2 := h.sealCkpts.foldl fun h => h.closeStripe.freeDies.land
  have h4 : Grown s₀ s4 := h2.rest.setDev.setStage.showLdNow.modSpill
  have h5 : Grown s₀ s5 := h4.foldl setLdState
  have h6 : Grown s₀ s6 := h5.sendSealReport.ite h5
  have h9 : Grown s₀ s9 := h6.fset.fset.fset.fset.foldl fun h => h.selfRefresh.ite h
  exact .ite (h9.sendRailOff.ite h9) h

theorem sealHoldExpiry (h : Grown s₀ s) : Grown s₀ (Machine.sealHoldExpiry s) := h.sendRailOff.ite h

theorem takeWrote (h : Grown s₀ s) : Grown s₀ s.takeWrote := h.foldl fun h => by
  split
  · exact h.freeEddy
  · exact h.setPage.modLog

theorem ckptsToWrite (h : Grown s₀ s) : Grown s₀ s.ckptsToWrite := h.foldl modLd
theorem ldsReturn (h : Grown s₀ s) : Grown s₀ s.ldsReturn := h.foldl fun h => h.modLd.setLdState.ite h

theorem leaveSealed (h : Grown s₀ s) : Grown s₀ s.leaveSealed := by
  unfold State.leaveSealed
  extract_lets s1 off s2 t src
  have h1 : Grown s₀ s1 := h.setStage.showLdNow.fset
  exact (h1.inputPath.ite h1).modPsq.rest

theorem dryReturn (h : Grown s₀ s) : Grown s₀ s.dryReturn := by
  unfold State.dryReturn
  extract_lets s1 s2 s3 s4 s5 s6 s7 s8 held s9
  have h1 : Grown s₀ s1 := h.takeWrote.ckptsToWrite.ldsReturn.advanceRoles
  have h2 : Grown s₀ s2 := h1.foldl fun h => h.recount.ite h
  have h5 : Grown s₀ s5 := h2.setDev.leaveSealed.bump.foldl fun h => h.leaveRefresh.ite h
  have h8 : Grown s₀ s8 := takeKept (h5.passCuts.foldl postRing)
  have h9 : Grown s₀ s9 := h8.foldl fun h => by
    split
    · exact h.step2
    · exact h
  exact h9.writeCkptRecs.reportCuts.settle.showWeir

/-! ### The two Elytra -/

theorem elyOut {e reason} (h : Grown s₀ s) : Grown s₀ (s.elyOut e reason) := by
  unfold State.elyOut
  extract_lets s1 s2 s3
  have h2 : Grown s₀ s2 := h.setUnit.fset.fset.fset.modEly.modSpill
  exact (h2.fset.modEly.ite h2).fault

theorem elyPage {f line read} (h : Grown s₀ s) : Grown s₀ (s.elyPage f line read) := by
  unfold State.elyPage; split
  · exact h
  · extract_lets p s1 void s2 put n x s3
    have h2 : Grown s₀ s2 := h.modSpill.modSpill
    refine elyPump ?_
    have hx : Grown s₀ x.1 := h2.decodeLine
    unfold s3; split
    · extract_lets at_ x n s4 e
      have h4 : Grown s₀ s4 := by
        unfold s4; split
        · exact h2.decodeLine.ueReserve.modSpill
        · exact h2.decodeLine
      exact .ite (.ite h4 h4.modSpill) h4
    · refine .ite ?_ h2
      split
      · exact hx.ueLine.modSpill
      · exact .ite hx hx.modSpill

theorem elyProgram {f} (h : Grown s₀ s) : Grown s₀ (s.elyProgram f) := by
  unfold State.elyProgram; split
  · exact h
  · exact ((h.modEly.ite h).modSpill.ite (h.modEly.ite h)).closeStripe

theorem elyJournal {q} (h : Grown s₀ s) : Grown s₀ (s.elyJournal q) := h.modFlt

theorem elyRun {f line read} (h : Grown s₀ s) : Grown s₀ (s.elyRun f line read) := by
  unfold State.elyRun; split
  · exact h.elyPage.ite h
  · exact h.elyProgram.ite h
  · exact h.elyProgram.ite h
  · exact h.elyJournal
  · exact h.modSpill.offRequest
  · exact h

theorem modSpace {t shadow g} (h : Grown s₀ s) : Grown s₀ (s.modSpace t shadow g) := h.modTarget
theorem rejoin (h : Grown s₀ s) : Grown s₀ s.rejoin := h.foldl fun h => (h.fset.modEly.fset.ite h.fset.modEly).ite h
theorem passClean (h : Grown s₀ s) : Grown s₀ s.passClean :=
  .ite (.rejoin (.modSpill (h.foldl fun h => h.satUp.modEly))) h
theorem passFails (h : Grown s₀ s) : Grown s₀ s.passFails := .modSpill (h.foldl fun h => h.fset.modEly)
theorem passMatch {f} (h : Grown s₀ s) : Grown s₀ (s.passMatch f) := h.modSpill.passClean.ite h.modSpill

theorem suspect {f} (h : Grown s₀ s) : Grown s₀ (s.suspect f) := by
  unfold State.suspect; split
  · exact h.modSpill
  · extract_lets on
    split
    · exact h.modSpill
    · exact h
  · extract_lets on
    split
    · exact h.modSpill
    · exact h
  · exact h

theorem elyMismatch {first shadow} (h : Grown s₀ s) : Grown s₀ (s.elyMismatch first shadow) :=
  h.fault.passFails.ite h.fault.bump.suspect.modSpill
theorem compare {first f shadow} (h : Grown s₀ s) : Grown s₀ (s.compare first f shadow) :=
  h.elyMismatch.ite (h.passMatch.ite h)
theorem lagDrop (h : Grown s₀ s) : Grown s₀ s.lagDrop := h.bump

theorem elyExecute {shadow f line read k} (h : Grown s₀ s) : Grown s₀ (s.elyExecute shadow f line read k) := by
  induction k generalizing s f line read with
  | zero => exact h
  | succ k ih =>
    unfold State.elyExecute
    extract_lets t s1 s2
    have h2 : Grown s₀ s2 := .modSpace (.ite h h.elyRun)
    split
    · exact ih h2.modSpace
    · exact h2

theorem elyTake {shadow f line read} (h : Grown s₀ s) : Grown s₀ (s.elyTake shadow f line read) := by
  unfold State.elyTake
  extract_lets t x b s1
  have h1 : Grown s₀ s1 := h.modSpace
  refine h.elyExecute.ite (.ite ?_ (.ite ?_ h.lagDrop))
  · split
    · exact h1.compare
    · exact h1.modSpace.ite h1.lagDrop
  · split
    · exact h.compare
    · exact h.lagDrop

theorem heartbeat {src} (h : Grown s₀ s) : Grown s₀ (s.heartbeat src) := h.rest

theorem elyFrame {f line read} (h : Grown s₀ s) : Grown s₀ (s.elyFrame f line read) :=
  h.bump.ite ((h.ite h.heartbeat).ite (h.ite (h.bump.ite (h.ite h.elyTake))))
theorem elyPlain {f} (h : Grown s₀ s) : Grown s₀ (s.elyPlain f) := h.elyFrame

theorem seqGap {t shadow} (h : Grown s₀ s) : Grown s₀ (s.seqGap t shadow) := by
  unfold State.seqGap; extract_lets; split
  · exact .ite (h.rest.modSpace.fault.foldl elyEmit) h
  · exact h

theorem seqGapRow {t} (h : Grown s₀ s) : Grown s₀ (Machine.seqGap t s) := h.seqGap.seqGap

theorem takeBack {q t} (h : Grown s₀ s) : Grown s₀ (s.takeBack q t).1 := by
  unfold State.takeBack
  exact .ite_fst (pair h.modSpill.fset) (pair h.modSpill)

theorem rewriteSuspect {q} (h : Grown s₀ s) : Grown s₀ (s.rewriteSuspect q) := by
  unfold State.rewriteSuspect
  extract_lets again
  have hagain {s w its} (h : Grown s₀ s) : Grown s₀ (again s w its) := h.bump.foldl fun {s i} h => by
    extract_lets r
    have hr : Grown s₀ r.1 := h.place
    split
    · exact hr.modSpill
    · exact .ite hr.modSpillBack hr
  split
  · exact .ite h.bump.rewriteStripe.modSpill (hagain (.modLog (.ite h.freeDies h)))
  · split
    · exact .ite (hagain h.takeBack) h
    · exact h

theorem rewriteSuspects {which from_} (h : Grown s₀ s) : Grown s₀ (s.rewriteSuspects which from_) :=
  h.modSpill.foldl rewriteSuspect
theorem clearSuspects (h : Grown s₀ s) : Grown s₀ s.clearSuspects := h.modSpill.elyPump

theorem selfCheck {aOk bOk} (h : Grown s₀ s) : Grown s₀ (Machine.selfCheck aOk bOk s) := by
  unfold Machine.selfCheck
  extract_lets k s1 again s2 e bad
  have h1 : Grown s₀ s1 := h.rest
  have h2 : Grown s₀ s2 := h.elyOut.ite h
  exact h.ite (.ite (h1.bump.fault.modSpill.ite h2.rewriteSuspects.clearSuspects)
    (h.elyOut.clearSuspects.modSpill.ite h.elyOut.rewriteSuspects.clearSuspects))

theorem shadowPass {mismatch} (h : Grown s₀ s) : Grown s₀ (Machine.shadowPass mismatch s) := by
  unfold Machine.shadowPass
  extract_lets b s1 fs s2 s3 s4
  have h3 : Grown s₀ s3 := h.passClean.modSpill.rest
  have h4 : Grown s₀ s4 := h3.emits
  exact .ite (h4.passFails.ite (h4.passClean.ite h4)) h

theorem heartbeats (h : Grown s₀ s) : Grown s₀ s.heartbeats := h.emits
theorem fence {e} (h : Grown s₀ s) : Grown s₀ (s.fence e) := h.modEly.modEly.fault
theorem heartbeatLost {silent} (h : Grown s₀ s) : Grown s₀ (Machine.heartbeatLost silent s) := h.fence.ite h
theorem fenceApplied {e} (h : Grown s₀ s) : Grown s₀ (Machine.fenceApplied e s) := h.elyOut.elyPump.ite h
theorem elytraOnline {e} (h : Grown s₀ s) : Grown s₀ (Machine.elytraOnline e s) :=
  h.setUnit.fset.fset.fset.modEly.ite h
theorem elytraOffline {e} (h : Grown s₀ s) : Grown s₀ (Machine.elytraOffline e s) := h.elyOut.ite h

/-! ### The fabric -/

theorem ldForget {n} (h : Grown s₀ s) : Grown s₀ (s.ldForget n) := by
  unfold State.ldForget
  exact h.discard.modLd.modMb

theorem ldReset {n} (h : Grown s₀ s) : Grown s₀ (s.ldReset n) := by
  unfold State.ldReset
  exact h.ldForget.disableRings.abortCuts.rest.blockReset.modLd

theorem cxlResetLd {n} (h : Grown s₀ s) : Grown s₀ (Machine.cxlResetLd n s) := h.ldReset.settle.showWeir.ite h
theorem ldResetEffect {n} (h : Grown s₀ s) : Grown s₀ (Machine.ldResetEffect n s) := h.modLd.ite h
theorem showBound (h : Grown s₀ s) : Grown s₀ s.showBound := h.foldl fset
theorem reachAll {p b} (h : Grown s₀ s) : Grown s₀ (s.reachAll p b) := h.foldl modLd

theorem portLoses {p} (h : Grown s₀ s) : Grown s₀ (s.portLoses p) := by
  unfold State.portLoses
  exact .modFab (.discard (h.foldl ldReset))

theorem linkDown {p} (h : Grown s₀ s) : Grown s₀ (s.linkDown p) :=
  h.fset.bump.fault.modFab.reachAll.portLoses.settle.showWeir.ite h
theorem fabHotReset {p} (h : Grown s₀ s) : Grown s₀ (Machine.fabHotReset p s) := h.portLoses.settle.showWeir.ite h

theorem fabLinkUp {p width rate flit256 flit68 laneRev} (h : Grown s₀ s) :
    Grown s₀ (Machine.fabLinkUp p width rate flit256 flit68 laneRev s) := by
  refine h.ite ?_
  split
  · exact h.fset.fset.fput.fset.fput.reachAll.showBound
  · exact h.linkDown

theorem gpfPhase1 {p} (h : Grown s₀ s) : Grown s₀ (Machine.gpfPhase1 p s) := h.emit.ite h
theorem gpfPhase2 {p} (h : Grown s₀ s) : Grown s₀ (Machine.gpfPhase2 p s) := h.modFab.ite h
theorem gpfDrainDone {p} (h : Grown s₀ s) : Grown s₀ (Machine.gpfDrainDone p s) :=
  h.drainAll.modFab.emit.wakeWmb.settle.showWeir.ite h

theorem hdmCommit {n i base size ways gran way skip lock} (h : Grown s₀ s) :
    Grown s₀ (Machine.hdmCommit n i base size ways gran way skip lock s) :=
  h.ite (h.emit.ite (h.modLd.emit.ite h.emit))

theorem bindChanged {n} (h : Grown s₀ s) : Grown s₀ (s.bindChanged n) := by
  unfold State.bindChanged
  exact h.fset.fset.fset.fset.fset.fset.rest.showBound

theorem setExtent {n base size} (h : Grown s₀ s) : Grown s₀ (s.setExtent n base size) :=
  h.dropWork.wipeExtent.clearPages.modLd.applyPolicy.bindChanged
theorem clearTags {n} (h : Grown s₀ s) : Grown s₀ (s.clearTags n) := h.foldl rest
theorem bindLd {n p id} (h : Grown s₀ s) : Grown s₀ (s.bindLd n p id) :=
  (h.ite h.dropWork.applyPolicy).modLd.clearTags.setLdState.bindChanged.refill.checkFilled.showWeir
theorem rebindLd {n p id} (h : Grown s₀ s) : Grown s₀ (s.rebindLd n p id) :=
  h.discard.disableRings.modLd.bindChanged.settle.showWeir
theorem unbindBegin {n} (h : Grown s₀ s) : Grown s₀ (s.unbindBegin n) := h.modLd.abortCuts
theorem ringUnbound {n i} (h : Grown s₀ s) : Grown s₀ (s.ringUnbound n i) :=
  (h.disableRing.ite h.disableRing.bump).modRing.fset.fset.fset.fset.fset
theorem unbindLd {n} (h : Grown s₀ s) : Grown s₀ (s.unbindLd n) :=
  .showWeir (.settle (.bindChanged (.setLdState (.modLd (h.discard.foldl ringUnbound)))))
theorem enterQuiesced {n} (h : Grown s₀ s) : Grown s₀ (s.enterQuiesced n) :=
  h.modLd.setLdState.wakeLd.settle.showWeir

theorem quiesceWaitExpiry {n} (h : Grown s₀ s) : Grown s₀ (Machine.quiesceWaitExpiry n s) := by
  unfold Machine.quiesceWaitExpiry; split
  · exact h.discard.settle.showWeir.ite h
  · exact h

theorem resumeLd {n} (h : Grown s₀ s) : Grown s₀ (s.resumeLd n) := h.modLd.setLdState.refill.checkFilled.showWeir

/-! ### Ring opcodes that change an LD's pages -/

theorem rollbackTo {ld n a} (h : Grown s₀ s) : Grown s₀ (Machine.rollbackTo ld n a s) := by
  unfold Machine.rollbackTo; extract_lets; split
  · exact h.finish
  · exact h.modLd.modAcc

theorem zeroBegin {ld n a} (h : Grown s₀ s) : Grown s₀ (Machine.zeroBegin ld n a s) :=
  h.modAcc.bump.modAcc.ite h.modAcc.zeroReserve
theorem zeroWaitExpiry {ld n ord w} (h : Grown s₀ s) : Grown s₀ (s.zeroWaitExpiry ld n ord w) :=
  h.bump.modAcc.ite (h.bump.modLd.modAcc.waitOver.kick.ite h.bump.modAcc)

theorem ringWeirWaitExpiry {ld n idx} (h : Grown s₀ s) : Grown s₀ (Machine.ringWeirWaitExpiry ld n idx s) := by
  unfold Machine.ringWeirWaitExpiry
  extract_lets bound
  split
  · exact h
  · split
    · exact h.ite (h.foldl zeroWaitExpiry).settle.showWeir
    · exact h.ite (h.bump.zeroReserve.settle.showWeir.ite h.bump.finish.settle.showWeir)

theorem sanitizeBegin {ld n ord} (h : Grown s₀ s) : Grown s₀ (Machine.sanitizeBegin ld n ord s) := h.newKey.modAcc

theorem readSeal {ld n readable a} (h : Grown s₀ s) : Grown s₀ (Machine.readSeal ld n readable a s) := by
  unfold Machine.readSeal; split
  · exact h.finish
  · exact h.emit.finish.ite h.finish

theorem heldWriteRelease {n} (h : Grown s₀ s) : Grown s₀ (Machine.heldWriteRelease n s) := by
  unfold Machine.heldWriteRelease; split
  · exact h.passHold
  · exact h.settle.showWeir

/-! ### COMMIT -/

theorem commitWrite {c} (h : Grown s₀ s) : Grown s₀ (s.commitWrite c) := h.ite h.rest

theorem withSet {set} (h : Grown s₀ s) : Grown s₀ (s.withSet set) := h.foldl fun h => by
  split
  · exact h.fset
  · exact h

theorem showRefusal {c set ok} (h : Grown s₀ s) : Grown s₀ (s.showRefusal c set ok) :=
  h.fput.ite ((h.fset.fset.ite ((h.ite h.fset).ite (h.ite h.fset).fset)).ite (h.fput.fset.ite (h.fput.ite h)))
theorem epochAccepted {was} (h : Grown s₀ s) : Grown s₀ (s.epochAccepted was) := h.modCol.ite (h.modCol.ite h)
theorem portsAccepted (h : Grown s₀ s) : Grown s₀ s.portsAccepted :=
  .rolePeriodic (.rolesCommitted (h.foldl fun h => (h.fset.ite h).loseSelected.ite (h.fset.ite h)))

theorem accepted {c set was} (h : Grown s₀ s) : Grown s₀ (s.accepted c set was) := by
  unfold State.accepted
  extract_lets ports roles s1 s2 s3
  have h1 : Grown s₀ s1 := h.portsAccepted.ite h
  have h2 : Grown s₀ s2 := h1.modCol.ite h1
  exact .ite h2.epochAccepted (.ite (h.foldl fun h => h.releaseOld.showCkpts.ite h)
    (.ite h.reDesign.limAccepted (.ite h.railsUnused.rest h)))

theorem commitCheck {c set} (h : Grown s₀ s) : Grown s₀ (s.commitCheck c set) := by
  unfold State.commitCheck
  extract_lets gone t0 now t
  have ht : Grown s₀ t := rest (h.rest.withSet : Grown s₀ t0)
  have hg : Grown s₀ gone := h.rest
  exact .ite ht.accepted.showRefusal hg.showRefusal

theorem commitChecks (h : Grown s₀ s) : Grown s₀ s.commitChecks := h.ite (h.foldl fun h => h.ite h.commitCheck)
theorem commitRow {path off} (h : Grown s₀ s) : Grown s₀ (Machine.commitRow path off s) :=
  h.commitWrite.ite (h.deny.ite h)

/-! ### Starts and the rebuild -/

theorem bootWritten {k} (h : Grown s₀ s) : Grown s₀ (s.bootWritten k) := h.rest
theorem putCopy {k img} (h : Grown s₀ s) : Grown s₀ (s.putCopy k img) := h.modBoot.bootWritten
theorem showCopies (h : Grown s₀ s) : Grown s₀ s.showCopies := h.fset.fset.fset.fset.fset.fset
theorem setXip {k} (h : Grown s₀ s) : Grown s₀ (s.setXip k) := h.modBoot.fput.fset.fset
theorem pushHist {kind reason copy stage ms} (h : Grown s₀ s) : Grown s₀ (s.pushHist kind reason copy stage ms) :=
  .fsat (.fset (.fset (.fset (.fset (h.foldl fun h => h.fset.fset.fset.fset.fset)))))

theorem saveHist (h : Grown s₀ s) : Grown s₀ s.saveHist := h.rest

theorem ldsSeal (h : Grown s₀ s) : Grown s₀ s.ldsSeal := h.foldl setLdState

theorem enterBasin (h : Grown s₀ s) : Grown s₀ s.enterBasin :=
  .showCopies (.modBoot (.foldl (.setXip (.fput (h.setDev.fset.ldsSeal.foldl modLd)))
    (fun h => h.selfRefresh.ite h)))

theorem showTraining {k} (h : Grown s₀ s) : Grown s₀ (s.showTraining k) := .ite (h.foldl fun h => h.fset.ite h) h

theorem setStart {k} (h : Grown s₀ s) : Grown s₀ (s.setStart k) := by
  unfold State.setStart
  extract_lets s1
  have h1 : Grown s₀ s1 := h.fset.showTraining
  exact h1.fset.ite (h1.fset.ite h1)

theorem startTime (h : Grown s₀ s) : Grown s₀ s.startTime := h.ite h.rest
theorem slotsFound (h : Grown s₀ s) : Grown s₀ s.slotsFound := h.fset.showSlots
theorem latchReserve (h : Grown s₀ s) : Grown s₀ s.latchReserve := (h.ite h.rest).slotsFound

theorem beginStart {kind} (h : Grown s₀ s) : Grown s₀ (s.beginStart kind) := by
  unfold State.beginStart
  extract_lets t s1 s2 s3
  have h1 : Grown s₀ s1 := h.rest.fset.ite h
  have h3 : Grown s₀ s3 := h1.modBoot.startTime.latchReserve.ite (h1.modBoot.startTime.ite h1.modBoot)
  exact h3.setDev.fset.fset.setStart

theorem dramLost (h : Grown s₀ s) : Grown s₀ s.dramLost := h.rest

theorem readSeals (h : Grown s₀ s) : Grown s₀ s.readSeals := h.rest

theorem eraseCut (h : Grown s₀ s) : Grown s₀ s.eraseCut := by
  unfold State.eraseCut; split
  · exact h
  · exact h.rest

theorem coldInit (h : Grown s₀ s) : Grown s₀ s.coldInit := by
  unfold State.coldInit
  extract_lets keep s1 usedGen coldLd keepMb coldMb next lostC out s2 s3 flt ely boot flm s4 s5 s6 s7 s8
  have h2 : Grown s₀ s2 := h.readSeals.releasePlungeN.flmCut.eraseCut.dramLost.blockReset
  have h3 : Grown s₀ s3 := h2.modRill.ite h2
  clear_value s3
  have h4 : Grown s₀ s4 := h3.rest
  have h5 : Grown s₀ s5 := h4.foldl fun h => h.ite h.fset.fset.fset
  have h6 : Grown s₀ s6 := h5.foldl fun h => h.fset.ite h
  have h7 : Grown s₀ s7 := h6.foldl fun h => h.setLdState.ite h
  have h8 : Grown s₀ s8 := h7.foldl fun h => h.fset.fset.fset.fset.fset.fset.ite h
  exact h8.setUnit.setUnit.fset

theorem coldStart {kind} (h : Grown s₀ s) : Grown s₀ (s.coldStart kind) := h.coldInit.cisCold.beginStart
theorem coldStartRow (h : Grown s₀ s) : Grown s₀ (Machine.coldStart s) := h.coldStart.ite h
theorem restart (h : Grown s₀ s) : Grown s₀ s.restart := h.beginStart.ite h.coldStart

theorem startFail {reason} (h : Grown s₀ s) : Grown s₀ (s.startFail reason) := by
  unfold State.startFail
  extract_lets s1 s2 s3
  have h3 : Grown s₀ s3 := h.satUp.bump.fset.pushHist.saveHist
  exact h3.restart.ite (h3.fset.modBoot.showCopies.ite h3.enterBasin)

theorem stage1 {o} (h : Grown s₀ s) : Grown s₀ (s.stage1 o).1 :=
  h.ite_fst (((h.modBoot.ite h.modBoot.elyOut).ite (h.modBoot.ite h.modBoot.elyOut).elyOut).ite_fst h)
theorem stage2 {o} (h : Grown s₀ s) : Grown s₀ (s.stage2 o).1 :=
  h.modBoot.showCopies.ite_fst (h.modBoot.showCopies.ite_fst h.modBoot.showCopies)
theorem loadUcode {img ok} (h : Grown s₀ s) : Grown s₀ (s.loadUcode img ok) :=
  .foldl (.fput (.fput (.fset (.ite (h.foldl fault) h)))) fset

theorem stage3 {o} (h : Grown s₀ s) : Grown s₀ (s.stage3 o).1 := by
  unfold State.stage3; split
  · exact h
  · exact h.modBoot.fset.showCopies.ite h.modBoot.fset.showCopies.loadUcode

theorem loadProt {h'} (h : Grown s₀ s) : Grown s₀ (s.loadProt h') := h.rest

theorem readHalves {bad} (h : Grown s₀ s) : Grown s₀ (s.readHalves bad) := h.rest

theorem loadCfg {cfg} (h : Grown s₀ s) : Grown s₀ (s.loadCfg cfg) := h.rest

theorem loadBinds {h'} (h : Grown s₀ s) : Grown s₀ (s.loadBinds h') :=
  h.foldl fun h => h.ite h.modLd.setLdState.fset.fset.fset.fset
theorem latchMap (h : Grown s₀ s) : Grown s₀ s.latchMap := h.rest.foldl modChan

theorem stage4 {o} (h : Grown s₀ s) : Grown s₀ (s.stage4 o).1 := by
  unfold State.stage4
  extract_lets s1 best cfg s2 s3
  have h1 : Grown s₀ s1 := h.readHalves
  have h2 : Grown s₀ s2 := h1.loadCfg.loadProt.loadBinds.limAccepted.reDesign
  have h3 : Grown s₀ s3 := h2.loadRecords.swapAll
  exact .ite_fst h1 (.ite_fst h2 (pair h3.startTime.rolesCommitted))

theorem flashFound {o} (h : Grown s₀ s) : Grown s₀ (s.flashFound o) := by
  unfold State.flashFound
  extract_lets p s1 s2 table s3 resv sp s4 dies s5 s6 first taken free s7 s8
  have h3 : Grown s₀ s3 := h.fset.fset.fset.fset.fset.foldl fun h => h.fset.fset.fset.fset
  have h5 : Grown s₀ s5 := h3.modBoot.foldl fun h => .fset (.fsat (h.fset.modLog.foldl remapBlock))
  exact h5.fset.modLog.showCap.fset.showWindow

theorem jnlFound {ok} (h : Grown s₀ s) : Grown s₀ (s.jnlFound ok) := (h.fset.fset.ite h.fset).ite h.fset.fset.fault

theorem stage5 {o} (h : Grown s₀ s) : Grown s₀ (s.stage5 o).1 := by
  unfold State.stage5
  refine h.ite_fst ?_
  split
  · exact h
  · extract_lets s1 s2 s3 s4
    have h2 : Grown s₀ s2 := h.fset.latchMap.foldl dramPower
    have h4 : Grown s₀ s4 := latchReserve (h2.foldl fun h => h.fset.settings)
    exact h.ite_fst (h4.ite_fst (h4.ite_fst h4.flashFound.jnlFound))

theorem stage6 {o} (h : Grown s₀ s) : Grown s₀ (s.stage6 o).1 := by
  unfold State.stage6
  extract_lets g kept img older noJnl r0 empty reason use s1 s2 s3 s4 keys
  refine .ite_fst h ?_
  have h3 : Grown s₀ s3 := h.fset.fput.fset.fset
  clear_value use
  refine pair (modBoot ?_)
  unfold s4; split
  · exact h3.fset.fset
  · exact h3

theorem mapRecs {n recs dflt lost} (h : Grown s₀ s) : Grown s₀ (s.mapRecs n recs dflt lost) :=
  .foldl (h.clearPages.wipeExtent.foldl setPage) markPoisoned
theorem mapPolicy {n} (h : Grown s₀ s) : Grown s₀ (s.mapPolicy n).1 :=
  h.clearPages.wipeExtent.ite (h.clearPages.ite h.clearPages.wipeExtent)

theorem unnameSource {n} (h : Grown s₀ s) : Grown s₀ (s.unnameSource n) := by
  unfold State.unnameSource
  exact h.fset.rest.releaseOld

theorem mapLd {f n} (h : Grown s₀ s) : Grown s₀ (s.mapLd f n).1 := by
  unfold State.mapLd
  extract_lets src named show_ recsOf dfltOf x r1 src1
  have hshow {s code reason} (h : Grown s₀ s) : Grown s₀ (show_ s code reason) := h.fset.fset
  refine pair (modLd ?_)
  clear_value src
  unfold r1; split
  · exact pair (hshow h.mapPolicy)
  · exact pair (hshow h.mapRecs)
  · exact pair ((hshow h.mapRecs).unnameSource.ite (hshow h.mapRecs))
  · exact pair (hshow h.clearPages)
  · exact pair (hshow h.clearPages)

theorem openLd {n hold} (h : Grown s₀ s) : Grown s₀ (s.openLd n hold) :=
  h.fput.modLd.setLdState.ite (h.fput.modLd.setLdState.ite h.fput.modLd.setLdState)

theorem mapAll {f} (h : Grown s₀ s) : Grown s₀ (s.mapAll f) := by
  unfold State.mapAll
  extract_lets s1 idx s2 s3 s4 s5
  have h2 : Grown s₀ s2 := rest (h.modFab.foldl modLd : Grown s₀ s1)
  have h4 : Grown s₀ s4 := (h2.foldl modLd).foldl fun h => h.clearPages.wipeExtent
  have h5 : Grown s₀ s5 := h4.foldl fun h =>
    (h.mapPolicy.ite h.clearPages.wipeExtent).openLd.ite (h.mapLd.noteLoss.ite h.mapLd).openLd
  exact h5.foldl showCkpts

theorem resumeCuts {ld n} (h : Grown s₀ s) : Grown s₀ (s.resumeCuts ld n) := by
  refine h.foldl fun h => .ite ?_ h
  split
  · exact h.finish.ite h
  · split
    · exact h.finish.ite h
    · exact h.finish

theorem ringsBack {rings tags imgs} (h : Grown s₀ s) : Grown s₀ (s.ringsBack rings tags imgs) := by
  unfold State.ringsBack
  extract_lets f s1 s2 s3 s4
  have h3 : Grown s₀ s3 := .foldl (h.rest.ringsDisabled.foldl fset) fset
  have h4 : Grown s₀ s4 := h3.foldl fun h => h.disableRing.resumeCuts
  exact .foldl (h4.foldl modLd) showFlight

theorem ringsMapped {f} (h : Grown s₀ s) : Grown s₀ (s.ringsMapped f) := by
  unfold State.ringsMapped; split
  · exact h.ringsBack
  · exact h.rest.ringsBack

theorem startDone (h : Grown s₀ s) : Grown s₀ s.startDone := by
  unfold State.startDone
  extract_lets s1 s2 s3 s4 s5 b s6 fix s7 more s8 s9 s10
  have h2 : Grown s₀ s2 := h.fset.fset.fset.fset.fsat.setStart.pushHist
  have h4 : Grown s₀ s4 := .foldl (h2.foldl setUnit) (fun h => h.setUnit.ite h)
  have h5 : Grown s₀ s5 := h4.foldl fun h => h.setUnit.ite h
  have h9 : Grown s₀ s9 := .foldl (.fset (.setDev (.fput (.modBoot (h5.foldl modEly)))))
    (fun h => h.recount.ite h)
  have h10 : Grown s₀ s10 := h9.passCuts.showUnfilled.showBound.writeCkptRecs.reportCuts
  exact .showWeir (.settle (.tailAdvance (h10.forUpto fun h => h.trackerEntryFree.trackerEntryFree)))

theorem stage7 {mapUs} (h : Grown s₀ s) : Grown s₀ (s.stage7 mapUs) := by
  unfold State.stage7
  extract_lets s1 s2 f n s3
  have h2 : Grown s₀ s2 := h.fsat.foldl fun h => h.leaveRefresh.ite h
  exact h2.ringsBack.startDone.ite h.fsat.fsat.mapAll.ckptsToWrite.ringsMapped.modFab.startDone

theorem startStageComplete {o} (h : Grown s₀ s) : Grown s₀ (Machine.startStageComplete o s) := by
  unfold Machine.startStageComplete
  extract_lets k r
  have hr : Grown s₀ r.1 := h.stage1.ite_fst (h.stage2.ite_fst (h.stage3.ite_fst
    (h.stage4.ite_fst (h.stage5.ite_fst (h.stage6.ite_fst h)))))
  exact h.ite (h.stage7.ite (hr.startFail.ite (hr.enterBasin.ite hr.setStart)))

theorem rebuildDone {mapUs} (h : Grown s₀ s) : Grown s₀ (Machine.rebuildDone mapUs s) := h.stage7.ite h

theorem warmReset (h : Grown s₀ s) : Grown s₀ s.warmReset := by
  unfold State.warmReset
  extract_lets s1 s2 s3 s4 dropQ dropAll warmMb fab s5 s6 s7 s8 open_ s9 b s10
  refine .ite h ?_
  have h1 : Grown s₀ s1 := h.foldl fun h => h.fset.reachAll
  have h2 : Grown s₀ s2 := h1.modFab.foldl ldForget
  have h4 : Grown s₀ s4 := h2.discard.drainAll.foldl fun h => h.selfRefresh.ite h
  clear_value s4
  have h5 : Grown s₀ s5 := h4.rest
  have h6 : Grown s₀ s6 := h5.foldl modLd
  have h8 : Grown s₀ s8 := h6.ringsDisabled.blockReset.closeSession.fset.fset
  have h9 : Grown s₀ s9 := h8.fset.ite h8
  exact h9.modBoot.modFlt.beginStart

theorem watchdogExpiry (h : Grown s₀ s) : Grown s₀ (Machine.watchdogExpiry s) :=
  h.fault.startFail.ite (h.fault.pushHist.warmReset.ite h)
theorem startTimeout (h : Grown s₀ s) : Grown s₀ (Machine.startTimeout s) := h.startFail.ite h
theorem leaveBasin {kind} (h : Grown s₀ s) : Grown s₀ (s.leaveBasin kind) := h.fset.coldStart
theorem retryStart (h : Grown s₀ s) : Grown s₀ (Machine.retryStart s) :=
  h.leaveBasin.ite (h.fset.fset.beginStart.ite h)

theorem bootCopyRepairDone {copy ok} (h : Grown s₀ s) : Grown s₀ (Machine.bootCopyRepairDone copy ok s) := by
  unfold Machine.bootCopyRepairDone; split
  · exact h.ite (h.putCopy.modBoot.fput.showCopies.ite (h.modBoot.fault.modBoot.fput.showCopies.ite h.modBoot))
  · exact h

theorem ldGo {n} (h : Grown s₀ s) : Grown s₀ (Machine.ldGo n s) := by
  refine .ite (.ite (.showUnfilled ?_) (.showWeir (.checkFilled
    (.refill (.showUnfilled (.setLdState (.fset (.modLd ?_)))))))) h
  all_goals exact .ite (.noteLoss (h.ite_fst h.dropWork.mapLd)) (h.ite_fst h.dropWork.mapLd)

theorem sealedReturnDecision (h : Grown s₀ s) : Grown s₀ (Machine.sealedReturnDecision s) :=
  (h.discard.dramLost.rest.advanceRoles.leaveSealed.beginStart.ite h.dryReturn).ite h

/-! ### The fault collector and the journal -/

theorem faultMessage {src kind addr injected cleared} (h : Grown s₀ s) :
    Grown s₀ (Machine.faultMessage src kind addr injected cleared s) :=
  h.ite (h.fset.sendMsg.ite h.sendMsg)

theorem dieTempHigh {i c} (h : Grown s₀ s) : Grown s₀ (Machine.dieTempHigh i c s) :=
  h.ite ((h.ite h.modFlt.fault).ite (h.modFlt.fault.ite h))
theorem latch {m sev} (h : Grown s₀ s) : Grown s₀ (s.latch m sev).1 :=
  h.ite_fst (h.fset.bump.ite_fst h.fset.fset.fset.fset)
theorem setTransient {p} (h : Grown s₀ s) : Grown s₀ (s.setTransient p) := h.fset.ite h
theorem showQueue (h : Grown s₀ s) : Grown s₀ s.showQueue := h.fset
theorem enqueue {m sev latched} (h : Grown s₀ s) : Grown s₀ (s.enqueue m sev latched) :=
  h.countLost.ite h.modFlt.showQueue

theorem faultIntake {src} (h : Grown s₀ s) : Grown s₀ (Machine.faultIntake src s) := by
  unfold Machine.faultIntake; split
  · exact h
  · extract_lets m s1 sev r s2 s3 t s4
    have h1 : Grown s₀ s1 := h.modFlt
    have h2 : Grown s₀ s2 := h1.latch.wrap
    have h3 : Grown s₀ s3 := h2.setTransient.ite h2
    exact h1.countLost.ite (h3.modFlt.fset.ite h3).enqueue

theorem latchClear (h : Grown s₀ s) : Grown s₀ (Machine.latchClear s) := h.fset.fset.fset
theorem modRec {seq f} (h : Grown s₀ s) : Grown s₀ (s.modRec seq f) := h.modFlt

theorem jnlOnFlash {r} (h : Grown s₀ s) : Grown s₀ (s.jnlOnFlash r) := h.rest

theorem journalRecordProgrammed {seq copy st} (h : Grown s₀ s) :
    Grown s₀ (Machine.journalRecordProgrammed seq copy st s) := by
  unfold Machine.journalRecordProgrammed; split
  · exact h
  · refine .ite h (.ite h.modRec.jnlOnFlash ?_)
    extract_lets blk pg at_ s1
    have h1 : Grown s₀ s1 := h.bump
    split
    · exact h1.fault.retireBlock
    · exact h1.fault.retireBlock

theorem jnlAdvance (h : Grown s₀ s) : Grown s₀ s.jnlAdvance :=
  h.ite (.ite (h.foldl journalAt) (.wordsErased (.modFlt (h.foldl journalAt))))

theorem stormHand (h : Grown s₀ s) : Grown s₀ s.stormHand := by
  unfold State.stormHand; split
  · exact h.ite h.journal.bump.modFlt.fset
  · exact h

theorem stormBeat (h : Grown s₀ s) : Grown s₀ s.stormBeat := h.fput.stormHand.ite h.fput.modFlt.fset.stormHand

theorem journalSealProgrammed {seq copy} (h : Grown s₀ s) :
    Grown s₀ (Machine.journalSealProgrammed seq copy s) := by
  unfold Machine.journalSealProgrammed; split
  · exact h
  · exact h.ite h.modRec.jnlOnFlash.jnlAdvance.jnlFree.stormHand.releaseDie

theorem directMode {msg} (h : Grown s₀ s) : Grown s₀ (s.directMode msg) :=
  h.ite (((h.ite h.bump).modFlt.ite (h.ite h.bump).modFlt.fset).showJnl.journal.foldl journalAt)
theorem freezeByFault {c} (h : Grown s₀ s) : Grown s₀ (s.freezeByFault c) := h.setUnit.ite h.rest.freeze

theorem isolate {u kind msg} (h : Grown s₀ s) : Grown s₀ (s.isolate u kind msg) :=
  h.elyOut.ite (h.setUnit.linkDown.ite (h.setUnit.ite (h.freezeByFault.ite (h.setUnit.channelOut.ite
    (h.hwDom.fset.setUnit.ite (h.isolatePort.ite h.directMode.hwDom.setUnit))))))

theorem bankOff {u} (h : Grown s₀ s) : Grown s₀ (s.bankOff u) := h.hwDom.setUnit
theorem isolationComplete {u lost} (h : Grown s₀ s) : Grown s₀ (Machine.isolationComplete u lost s) :=
  .ite (.bankOff (h.foldl recordGone)) h

theorem postFault {q event reactions jseq} (h : Grown s₀ s) : Grown s₀ (s.postFault q event reactions jseq) := by
  unfold State.postFault
  refine .ite h (.ite ?_ h.postEvent)
  extract_lets line c w s1
  have h1 : Grown s₀ s1 := h.postEvent
  split
  · exact h1.postEvent
  · exact h1

theorem faultRecord {q reactions} (h : Grown s₀ s) : Grown s₀ (s.faultRecord q reactions) := h.journalAt
theorem faultReset {plunged} (h : Grown s₀ s) : Grown s₀ (s.faultReset plunged) := h.modFlt.ite h.warmReset

theorem faultReaction (h : Grown s₀ s) : Grown s₀ (Machine.faultReaction s) := by
  unfold Machine.faultReaction; split
  · exact h
  · extract_lets v staging jnl s1 severe u iso wantP wantR p r refused irq taken noIso has bits s2 jseq s3 s4 s5
      s6 s7 s8
    have h1 : Grown s₀ s1 := h.modFlt.showQueue
    have h2 : Grown s₀ s2 := h1.isolate.ite h1
    have h3 : Grown s₀ s3 := h2.faultRecord.ite h2
    have h4 : Grown s₀ s4 := h3.postFault
    have h5 : Grown s₀ s5 := h4.emit.ite h4
    have h6 : Grown s₀ s6 := h5.fset.ite h5
    have h7 : Grown s₀ s7 := h6.isolate.ite h6
    have h8 : Grown s₀ s8 := h7.ownPlunge.ite h7
    exact h.ite (h8.faultReset.ite h8)

theorem quietPeriodExpiry {u} (h : Grown s₀ s) : Grown s₀ (Machine.quietPeriodExpiry u s) :=
  (h.setUnit.fset.chanRecovering.ite h.setUnit.fset).ite h

theorem unitBack {u} (h : Grown s₀ s) : Grown s₀ (s.unitBack u) := by
  unfold State.unitBack
  extract_lets s1 wake
  have h1 : Grown s₀ s1 := h.setUnit.modFlt
  have hwake {s d} (h : Grown s₀ s) : Grown s₀ (wake s d) := h.modDom.wakeDom
  exact (hwake h1).ite (h1.chanRecovered.ite ((hwake h1.fset).ite ((hwake (h1.fset.ite h1)).ite h1)))

theorem recoveryFail {u} (h : Grown s₀ s) : Grown s₀ (s.recoveryFail u) := h.fault

theorem recoveryDone {u passed bistUs} (h : Grown s₀ s) : Grown s₀ (Machine.recoveryDone u passed bistUs s) := by
  unfold Machine.recoveryDone
  extract_lets record s1 s2 s3 t s4
  have h3 : Grown s₀ s3 := h.bump.setUnit.chanRecovered.ite h.bump.setUnit
  exact h.ite (h.bump.unitBack.setTransient.journal.ite h3.modFlt.fset.recoveryFail.journal)

theorem fltRefuse (h : Grown s₀ s) : Grown s₀ s.fltRefuse := h.fset
theorem bistStart {u why} (h : Grown s₀ s) : Grown s₀ (s.bistStart u why) := h.modFlt.fset.fset.fset.fset

theorem unitIsolate {u} (h : Grown s₀ s) : Grown s₀ (Machine.unitIsolate u s) := by
  refine h.fltRefuse.ite ?_
  split
  · exact h.isolate.modFlt
  · exact h
  · exact h.fltRefuse

theorem unitReturn {u} (h : Grown s₀ s) : Grown s₀ (Machine.unitReturn u s) := h.fltRefuse.ite h.setUnit.bistStart
theorem bistGo {u} (h : Grown s₀ s) : Grown s₀ (Machine.bistGo u s) := h.fltRefuse.ite h.bistStart

theorem bistDone {pass failAddr} (h : Grown s₀ s) : Grown s₀ (Machine.bistDone pass failAddr s) := by
  unfold Machine.bistDone; split
  · exact h
  · exact (h.modFlt.fset.fsat.fset.unitBack.ite h.modFlt.fset.fsat.fset.setUnit).ite h.modFlt.fset.fsat.fset

theorem injFields {v} (h : Grown s₀ s) : Grown s₀ (s.injFields v) :=
  h.fset.fset.fset.fset.ite h.fset.fset.fset.fset.fset
theorem injectionArm {v} (h : Grown s₀ s) : Grown s₀ (Machine.injectionArm v s) :=
  h.injFields.fset.ite h.injFields.fset.fset.modFlt.journal
theorem jtagInstruction {op} (h : Grown s₀ s) : Grown s₀ (Machine.jtagInstruction op s) :=
  h.modFlt.emit.emit.ite h.modFlt.emit

/-! ### The beat boundary -/

theorem toBoundary (h : Grown s₀ s) : Grown s₀ s.toBoundary := h.ite h.later.rest.txDrain
theorem planRefresh (h : Grown s₀ s) : Grown s₀ s.planRefresh := h.forUpto modChan

theorem newBeat (h : Grown s₀ s) : Grown s₀ s.newBeat := h.rest

theorem logBeat (h : Grown s₀ s) : Grown s₀ s.logBeat :=
  h.placeReady.completeAll.writeCkptRecs.reportCuts.tailAdvance.ite h
theorem ladderBeat (h : Grown s₀ s) : Grown s₀ s.ladderBeat := h.foldl modLd

theorem devLoadBeat (h : Grown s₀ s) : Grown s₀ s.devLoadBeat := h.rest

theorem admitAll {k} (h : Grown s₀ s) : Grown s₀ (s.admitAll k) := by
  induction k generalizing s with
  | zero => exact h
  | succ k ih =>
    unfold State.admitAll; split
    · exact h
    · exact ih h.wakeReq.wakePage

theorem bandwidthBeat (h : Grown s₀ s) : Grown s₀ s.bandwidthBeat := by
  unfold State.bandwidthBeat
  extract_lets turn s1 s2 still
  have h2 : Grown s₀ s2 := h.rest.admitAll
  exact h2.rest

theorem spillWatch (h : Grown s₀ s) : Grown s₀ s.spillWatch := h.modSpill.fset.ite h

theorem needAll (h : Grown s₀ s) : Grown s₀ s.needAll := by
  unfold State.needAll
  extract_lets ofOps ofDraws chans s1
  have h1 : Grown s₀ s1 := h.foldl fun h => h.need.need
  exact h1.ite (h1.foldl need)

theorem resetAtT (h : Grown s₀ s) : Grown s₀ s.resetAtT := (h.modFlt.warmReset.ite h.modFlt.fset).ite h
theorem rillBeat {lent} (h : Grown s₀ s) : Grown s₀ (s.rillBeat lent) :=
  (h.modRill.ite h.setRillTarget).rillSelect.ite h

theorem boundary {overruns lent} (h : Grown s₀ s) : Grown s₀ (s.boundary overruns lent) := by
  unfold State.boundary
  extract_lets s1 s2 s3 s4 s5 s6 s7 s8
  have h1 : Grown s₀ s1 := h.newBeat.planRefresh.foldl overrun
  have h2 : Grown s₀ s2 := h1.commitChecks.applyConfig.stormBeat
  have h3 : Grown s₀ s3 := h2.cisBeat.channelsLeave.showCap
  have h4 : Grown s₀ s4 := h3.computeWeir.checkDeficit.updateCredit.ladderBeat
  have h6 : Grown s₀ s6 := h4.bandwidthBeat.logBeat.rillBeat.needAll.devLoadBeat
  have h7 : Grown s₀ s7 := h6.sendBeacons.sendFireflies.configBeat
  have h8 : Grown s₀ s8 := h7.heartbeats.spillWatch.elyPump
  exact h8.resetAtT.settle.showWeir

theorem linkErrors {e} (h : Grown s₀ s) : Grown s₀ (s.linkErrors e) := h.bump.bump

/-! ### The flash maintenance port -/

theorem seqErr (h : Grown s₀ s) : Grown s₀ s.seqErr := h.bump
theorem flmBreak (h : Grown s₀ s) : Grown s₀ s.flmBreak := h.fset.fset.seqErr
theorem flmStep {ok go} (h : Grown s₀ s) (hf : ∀ {s}, Grown s₀ s → Grown s₀ (go s)) : Grown s₀ (s.flmStep ok go) :=
  h.ite (h.seqErr.ite ((hf h).ite h.flmBreak))
theorem flmKeyWrite {v} (h : Grown s₀ s) : Grown s₀ (Machine.flmKeyWrite v s) :=
  h.flmStep (fun h => h.modFlm.fset.ite h.fset)
theorem flmCmdWrite {v} (h : Grown s₀ s) : Grown s₀ (Machine.flmCmdWrite v s) :=
  h.flmStep (fun h => h.fset.fset.fset.fset)
theorem flmAddrWrite {v} (h : Grown s₀ s) : Grown s₀ (Machine.flmAddrWrite v s) :=
  h.flmStep (fun h => (h.fset.ite h).fset.fset.fset.fset.fset.fset)
theorem flmSequenceTimeout (h : Grown s₀ s) : Grown s₀ (Machine.flmSequenceTimeout s) := h.flmBreak.ite h
theorem flmBufWrite {off v width} (h : Grown s₀ s) : Grown s₀ (Machine.flmBufWrite off v width s) :=
  h.ite (h.seqErr.ite h.modFlm)
theorem flmNow {status} (h : Grown s₀ s) : Grown s₀ (s.flmNow status) := h.draw.modFlm.flmEnd

theorem dieBusy {ds o} (h : Grown s₀ s) : Grown s₀ (s.dieBusy ds o).1 := by
  unfold State.dieBusy; split
  · exact h
  · exact .ite_fst (pair h.draw) h

theorem flmBusyRead {w} (h : Grown s₀ s) : Grown s₀ (s.flmBusyRead w) := by
  unfold State.flmBusyRead
  exact h.modFlm.fset.fset.flmNow

theorem flmLoad {ds block page plane tlc} (h : Grown s₀ s) : Grown s₀ (s.flmLoad ds block page plane tlc) :=
  h.rawAt.modFlm.foldl modFlm

theorem flmReadPage {ds block page plane r tlc} (h : Grown s₀ s) :
    Grown s₀ (s.flmReadPage ds block page plane r tlc) := by
  refine h.flmLoad.flmNow.ite ?_
  split
  · exact h.flmLoad.fset.flmNow
  · exact h.fset.flmNow

theorem flmStart {o} (h : Grown s₀ s) : Grown s₀ (s.flmStart o) := h.modFlm.fset

theorem pageOfBuf (h : Grown s₀ s) : Grown s₀ s.pageOfBuf.1 := by
  unfold State.pageOfBuf
  exact .ite_fst (pair h.draw) h

theorem flmProgram {ds block page plane} (h : Grown s₀ s) : Grown s₀ (s.flmProgram ds block page plane) :=
  h.flmNow.ite (h.flmNow.ite h.pageOfBuf.flmStart)
theorem flmWord {ds block page plane w new} (h : Grown s₀ s) : Grown s₀ (s.flmWord ds block page plane w new) :=
  h.flmNow.ite (h.wordAt.flmNow.ite (h.wordAt.flmNow.ite h.wordAt.flmStart))
theorem flmErase {ds block} (h : Grown s₀ s) : Grown s₀ (s.flmErase ds block) := h.flmNow.ite h.flmStart
theorem pwUnlock {v} (h : Grown s₀ s) : Grown s₀ (s.pwUnlock v) := h.modFlm.fset.fset.flmNow.ite h.fset.fput.flmNow
theorem cfgTouched (h : Grown s₀ s) : Grown s₀ s.cfgTouched := h.rest
theorem pwSet {v} (h : Grown s₀ s) : Grown s₀ (s.pwSet v) := h.flmNow.ite h.modFlm.fput.cfgTouched.flmNow
theorem protSet {r v} (h : Grown s₀ s) : Grown s₀ (s.protSet r v) :=
  h.flmNow.ite (h.flmNow.ite h.fset.fset.fset.fset.cfgTouched.flmNow)
theorem xipSelect {v sigOk} (h : Grown s₀ s) : Grown s₀ (s.xipSelect v sigOk) :=
  h.flmNow.ite (h.setXip.flmNow.ite h.flmNow)

theorem flmRun {v o} (h : Grown s₀ s) : Grown s₀ (s.flmRun v o) := by
  unfold State.flmRun
  extract_lets op t s1 s2 ds block page plane word paged dies tlc
  have h2 : Grown s₀ s2 := h.modFlm.fset.fset.fset.fset
  refine .ite h2.flmNow (.ite h2.flmNow (.ite h2.flmNow (.ite h2.flmNow
    (.ite h2.flmNow (.ite h2.flmNow (.ite ?_ ?_))))))
  · have hb : Grown s₀ (s2.dieBusy ds o.dieBusy).1 := h2.dieBusy
    split
    next s3 w e =>
      rw [e] at hb
      exact flmBusyRead hb
    next s3 e =>
      rw [e] at hb
      have h3 : Grown s₀ s3 := hb
      exact h3.flmReadPage.ite (h3.modFlm.flmNow.ite (h3.fset.fset.flmNow.ite h3.wordAt.fset.flmNow))
  · exact h2.fset.flmNow.ite (h2.flmProgram.ite (h2.flmWord.ite (h2.flmErase.ite (h2.pwUnlock.ite (h2.pwSet.ite
      (h2.protSet.ite (h2.closeSession.flmNow.ite h2.xipSelect)))))))

theorem flmData {v o} (h : Grown s₀ s) : Grown s₀ (Machine.flmData v o s) := h.flmStep flmRun

theorem flmOperationDone {st} (h : Grown s₀ s) : Grown s₀ (Machine.flmOperationDone st s) := by
  unfold Machine.flmOperationDone; split
  · exact h
  · exact h.ite (h.flmEffect.flmEnd.ite h.flmEffect.modFlm).releaseDie

theorem protSessionTimeout (h : Grown s₀ s) : Grown s₀ (Machine.protSessionTimeout s) := by
  unfold Machine.protSessionTimeout; split
  · exact h.closeSession.ite h
  · exact h

/-! ### Register accesses -/

theorem regNeed {off} (h : Grown s₀ s) : Grown s₀ (s.regNeed off) := by
  unfold State.regNeed; split
  · exact h.need
  · exact h

theorem clearRc {fs} (h : Grown s₀ s) : Grown s₀ (s.clearRc fs) := h.foldl fun h => h.fset.ite h
theorem holdOk (h : Grown s₀ s) : Grown s₀ s.holdOk := h.draw.fput

theorem live {base ix} (h : Grown s₀ s) : Grown s₀ (s.live base ix) :=
  h.fset.ite (h.fsat.fsat.ite (h.fput.fsat.ite (h.fset.ite (h.resTouch.ite (h.holdOk.ite (h.fset.ite
    ((h.fset.ite h).ite (h.showCand.ite (h.fput.ite (h.showTrk.ite (h.showOwed.ite
      (h.draw.fset.fset.fset.fset.fset.fset.ite h))))))))))))

theorem snap {base v} (h : Grown s₀ s) : Grown s₀ (s.snap base v) := h.rest
theorem readBits {base off width v wide fs} (h : Grown s₀ s) : Grown s₀ (s.readBits base off width v wide fs).1 :=
  .ite_fst (h.snap.clearRc.ite_fst h) (h.ite_fst h.clearRc)

theorem regRead {off width} (h : Grown s₀ s) : Grown s₀ (s.regRead off width).1 := by
  unfold State.regRead
  refine .ite_fst h (.ite_fst (pair h.draw) (.ite_fst h ?_))
  split
  · exact h
  · exact .ite_fst h h.regNeed.live.readBits

theorem tnRead {ld off width} (h : Grown s₀ s) : Grown s₀ (s.tnRead ld off width).1 := h.ite_fst h.readBits

theorem tenantRead {ld off width} (h : Grown s₀ s) : Grown s₀ (s.tenantRead ld off width).1 := by
  unfold State.tenantRead
  exact .ite_fst h.regRead (.ite_fst h.tnRead (.ite_fst (.ite_fst (pair h.draw) h) h))

theorem pathRead {path off width} (h : Grown s₀ s) : Grown s₀ (s.pathRead path off width).1 := by
  unfold State.pathRead
  refine .ite_fst h ?_
  split
  · exact .ite_fst (pair h.regRead) h
  · exact .ite_fst (pair h.deny) (pair h.regRead)
  · exact .ite_fst (pair h.tenantRead) h

theorem answer {r : State × Option Nat} (h : Grown s₀ r.1) : Grown s₀ (State.answer r) := by
  unfold State.answer; split
  · exact h.emit
  · exact h

theorem stageFields {base fs v sh width} (h : Grown s₀ s) : Grown s₀ (s.stageFields base fs v sh width) :=
  h.foldl fun h => h.rest.ite h
theorem clearPair {ch f} (h : Grown s₀ s) : Grown s₀ (s.clearPair ch f) := h.fset.fset
theorem clearOnes {base ix fs v sh width} (h : Grown s₀ s) : Grown s₀ (s.clearOnes base ix fs v sh width) :=
  h.foldl fun h => h.ite ((h.fset.levelOff.ite h.fset).ite ((h.latchClear.ite h.fset).ite (h.clearPair.ite h)))
theorem setRw {base fs v} (h : Grown s₀ s) : Grown s₀ (s.setRw base fs v) := h.foldl fun h => h.fset.ite h
theorem ringLdCfg {n v} (h : Grown s₀ s) : Grown s₀ (s.ringLdCfg n v) :=
  ((h.fset.ite h).fset.ite (h.fset.ite h)).ite ((h.fset.ite h).fset.ite (h.fset.ite h)).cfgTouched

theorem ringCtl {ld n v} (h : Grown s₀ s) : Grown s₀ (s.ringCtl ld n v) := by
  unfold State.ringCtl; split
  · exact h.ringEnable
  · exact h.ringDisable
  · exact h.ringResume
  · exact h
  · exact h.ctlReject

theorem flmFree (h : Grown s₀ s) : Grown s₀ s.flmFree.1 := h.draw

theorem act {path base ix v fs at_} (h : Grown s₀ s) : Grown s₀ (s.act path base ix v fs at_) := by
  unfold State.act
  extract_lets i j sb s1 s2 srw d s3 s4
  have h1 : Grown s₀ s1 := h.calibrationGo.ite h
  have h2 : Grown s₀ s2 := h1.calibrationAbort.ite h1
  have hb : Grown s₀ sb := h.fset
  have hrw : Grown s₀ srw := h.setRw
  have h3 : Grown s₀ s3 := h.domainCancel.ite h
  have h4 : Grown s₀ s4 := h.unitIsolate.ite h
  refine (h.commitWrite.ite h).ite <| .ite (hrw.foldl liftIsolation) <|
    .ite ((h.fmSpill.ite h.fmCheckpoint).ite h) <| .ite (hb.colonyCheckpoint.ite hb) <|
    .ite (h2.calibrationPause.ite h2) <| .ite (hrw.rehearsalGo.ite hrw) <|
    .ite hrw.modCis <| .ite hrw.reDesign <| .ite hrw.zChanged <|
    .ite ((h.foldl elytraOffline).foldl elytraOnline) <| .ite (h.foldl ldGo) <|
    .ite ((h.foldl channelIn).foldl channelOut) <|
    .ite h.flmKeyWrite <| .ite h.flmCmdWrite <| .ite h.flmAddrWrite <| .ite h.flmFree.fset.flmData <|
    .ite (h3.domainWait.ite h3) <| .ite (h4.unitReturn.ite h4) <|
    .ite (h.injectionArm.ite h.injFields) <| .ite (h.bistGo.ite h) <| .ite (h.retryStart.ite h) <|
    .ite ?_ <| .ite h.ringCtl <| .ite (hrw.ite h) hrw
  split
  · exact h
  · exact h.ringLdCfg

theorem writeHalves {path row ix base off width v fs} (h : Grown s₀ s) :
    Grown s₀ (s.writeHalves path row ix base off width v fs) :=
  h.rest.act.ite (h.rest.ite h.rest.act)

theorem regWrite {path off width v} (h : Grown s₀ s) : Grown s₀ (s.regWrite path off width v) := by
  unfold State.regWrite
  refine h.ite (h.ite (h.flmBufWrite.ite ?_))
  split
  · exact h
  · refine h.ite ?_
    extract_lets s1 fs v sh cmd s2
    have h2 : Grown s₀ s2 := h.regNeed.stageFields.clearOnes
    exact h2.ite (h2.writeHalves.ite h2.act)

theorem pathWrite {path off width v} (h : Grown s₀ s) : Grown s₀ (s.pathWrite path off width v) := by
  refine h.ite ?_
  split
  · exact h.regWrite.ite h
  · exact h.deny.ite h.regWrite
  · exact h.regWrite.ite h

/-! ### The mailboxes -/

theorem reply {m code payload} (h : Grown s₀ s) : Grown s₀ (s.reply m code payload) := h.emit
theorem refuse {status} (h : Grown s₀ s) : Grown s₀ (s.refuse status) := h.reply

theorem mboxGate {m tenant basin f} (h : Grown s₀ s) (hf : ∀ {s}, Grown s₀ s → Grown s₀ (f s)) :
    Grown s₀ (s.mboxGate m tenant basin f) := by
  unfold State.mboxGate
  extract_lets t s1
  have h1 : Grown s₀ s1 := .ite (h.foldl need) h
  exact h1.ite (h1.reply.ite (h1.reply.ite (h1.reply.ite (hf h1))))

theorem mboxOpen {m f} (h : Grown s₀ s) (hf : ∀ {s}, Grown s₀ s → Grown s₀ (f s)) : Grown s₀ (s.mboxOpen m f) :=
  (hf h).ite h.reply
theorem mboxDraw (h : Grown s₀ s) : Grown s₀ s.mboxDraw.1 := h.draw
theorem identify {m} (h : Grown s₀ s) : Grown s₀ (Machine.identify m s) := h.mboxGate reply
theorem backgroundStatus {m} (h : Grown s₀ s) : Grown s₀ (Machine.backgroundStatus m s) :=
  h.mboxGate (fun h => h.mboxDraw.reply)
theorem responseLimit {m} (h : Grown s₀ s) : Grown s₀ (Machine.responseLimit m s) := h.mboxGate reply
theorem getEvents {m l} (h : Grown s₀ s) : Grown s₀ (Machine.getEvents m l s) :=
  h.mboxGate (fun h => h.reply.ite h.reply)
theorem clearEvents {m l hs} (h : Grown s₀ s) : Grown s₀ (Machine.clearEvents m l hs s) :=
  h.mboxGate (fun h => h.reply.ite (h.reply.ite h.modMb.reply))
theorem getPolicy {m} (h : Grown s₀ s) : Grown s₀ (Machine.getPolicy m s) := h.mboxGate reply
theorem setPolicy {m p} (h : Grown s₀ s) : Grown s₀ (Machine.setPolicy m p s) := h.mboxGate (fun h => h.modMb.reply)
theorem setTimestamp {m v} (h : Grown s₀ s) : Grown s₀ (Machine.setTimestamp m v s) :=
  h.mboxGate (fun h => h.fset.fset.fset.reply)
theorem getTimestamp {m} (h : Grown s₀ s) : Grown s₀ (Machine.getTimestamp m s) := h.mboxGate reply
theorem supportedLogs {m} (h : Grown s₀ s) : Grown s₀ (Machine.supportedLogs m s) := h.mboxGate reply
theorem getLog {m} (h : Grown s₀ s) : Grown s₀ (Machine.getLog m s) := h.mboxGate reply
theorem identifyMemory {m} (h : Grown s₀ s) : Grown s₀ (Machine.identifyMemory m s) := h.mboxGate reply
theorem partitionInfo {m} (h : Grown s₀ s) : Grown s₀ (Machine.partitionInfo m s) := h.mboxGate reply
theorem healthInfo {m} (h : Grown s₀ s) : Grown s₀ (Machine.healthInfo m s) :=
  h.mboxGate (fun h => h.mboxDraw.reply)
theorem getAlert {m} (h : Grown s₀ s) : Grown s₀ (Machine.getAlert m s) := h.mboxGate reply
theorem setAlert {m v} (h : Grown s₀ s) : Grown s₀ (Machine.setAlert m v s) := h.mboxGate (fun h => h.modMb.reply)
theorem getShutdown {m ld} (h : Grown s₀ s) : Grown s₀ (Machine.getShutdown m ld s) := h.mboxGate reply
theorem setShutdown {m ld v} (h : Grown s₀ s) : Grown s₀ (Machine.setShutdown m ld v s) :=
  h.mboxGate (fun h => h.modMb.reply)
theorem poisonListCmd {m} (h : Grown s₀ s) : Grown s₀ (Machine.poisonListCmd m s) := h.mboxGate reply

theorem mboxWrite {m dpa data poison} (h : Grown s₀ s) : Grown s₀ (s.mboxWrite m dpa data poison) := by
  unfold State.mboxWrite
  refine h.reply.ite (h.reply.ite (h.reply.ite ?_))
  split
  · exact h.writeBytes.setPoison.modFab.reply
  · exact h.modFab.step4.settle.showWeir

theorem injectPoison {m dpa} (h : Grown s₀ s) : Grown s₀ (Machine.injectPoison m dpa s) := h.mboxGate mboxWrite
theorem clearPoison {m dpa data} (h : Grown s₀ s) : Grown s₀ (Machine.clearPoison m dpa data s) :=
  h.mboxGate mboxWrite
theorem scanCaps {m} (h : Grown s₀ s) : Grown s₀ (Machine.scanCaps m s) := h.mboxGate (fun h => h.mboxDraw.reply)
theorem scanMedia {m dpa lines bad} (h : Grown s₀ s) : Grown s₀ (Machine.scanMedia m dpa lines bad s) :=
  h.mboxGate (fun h => h.reply.ite (h.reply.ite (h.reply.ite h.modMb.modFab.reply)))
theorem scanResults {m} (h : Grown s₀ s) : Grown s₀ (Machine.scanResults m s) :=
  h.mboxGate (fun h => h.reply.ite h.reply)
theorem sanitizeTenant {n op} (h : Grown s₀ s) : Grown s₀ (s.sanitizeTenant n op) :=
  h.reply.ite (h.reply.ite h.newKey.modFab.reply)
theorem destroyKeys (h : Grown s₀ s) : Grown s₀ s.destroyKeys := .cfgTouched (.modFab (h.foldl modLd))

theorem eraseAll (h : Grown s₀ s) : Grown s₀ s.eraseAll := by
  unfold State.eraseAll
  extract_lets s1 bands tlc up wipe s2 s3 s4
  have h1 : Grown s₀ s1 := h.foldl fun h => h.dropWork.modLd
  clear_value s1
  have h2 : Grown s₀ s2 := h1.rest
  have h4 : Grown s₀ s4 := h2.modRill.foldl fun h => h.clearPages.modLd.showCkpts
  exact h4.modFab.showWindow.settle.showWeir

theorem sanitizeFm {erase op} (h : Grown s₀ s) : Grown s₀ (s.sanitizeFm erase op) :=
  h.reply.ite (h.destroyKeys.modFab.eraseAll.ite h.destroyKeys.modFab).reply

theorem sanitize {m} (h : Grown s₀ s) : Grown s₀ (Machine.sanitize m s) := h.mboxGate fun h => by
  split
  · exact h.sanitizeFm
  · exact h.sanitizeTenant

theorem secureErase {m} (h : Grown s₀ s) : Grown s₀ (Machine.secureErase m s) := h.mboxGate fun h => by
  split
  · exact h.sanitizeFm
  · exact h.sanitizeTenant

theorem ldInfo {m p} (h : Grown s₀ s) : Grown s₀ (Machine.ldInfo m p s) := h.mboxGate (fun h => h.reply.ite h.reply)
theorem ldAllocations {m p} (h : Grown s₀ s) : Grown s₀ (Machine.ldAllocations m p s) :=
  h.mboxGate (fun h => h.reply.ite h.reply)
theorem setLdAllocations {m} (h : Grown s₀ s) : Grown s₀ (Machine.setLdAllocations m s) := h.mboxGate reply
theorem getQos {m p} (h : Grown s₀ s) : Grown s₀ (Machine.getQos m p s) := h.mboxGate (fun h => h.reply.ite h.reply)
theorem setQos {m p modPct sevPct other} (h : Grown s₀ s) : Grown s₀ (Machine.setQos m p modPct sevPct other s) :=
  h.mboxGate (fun h => h.mboxOpen (fun h => h.reply.ite h.fset.fset.modFab.cfgTouched.reply))
theorem qosStatus {m p} (h : Grown s₀ s) : Grown s₀ (Machine.qosStatus m p s) :=
  h.mboxGate (fun h => h.reply.ite h.mboxDraw.reply)

theorem setByLdId {m p start vs f} (h : Grown s₀ s) : Grown s₀ (s.setByLdId m p start vs f) := by
  refine h.reply.ite (.reply (.cfgTouched (h.foldl fun h => ?_)))
  split
  · exact h.fset
  · exact h

theorem getAlloc {m p} (h : Grown s₀ s) : Grown s₀ (Machine.getAlloc m p s) :=
  h.mboxGate (fun h => h.reply.ite h.reply)
theorem setAlloc {m p start vs} (h : Grown s₀ s) : Grown s₀ (Machine.setAlloc m p start vs s) :=
  h.mboxGate (fun h => h.mboxOpen setByLdId)
theorem getLimit {m p} (h : Grown s₀ s) : Grown s₀ (Machine.getLimit m p s) :=
  h.mboxGate (fun h => h.reply.ite h.reply)
theorem setLimit {m p start vs} (h : Grown s₀ s) : Grown s₀ (Machine.setLimit m p start vs s) :=
  h.mboxGate (fun h => h.mboxOpen setByLdId)
theorem mailboxUnsupported {m} (h : Grown s₀ s) : Grown s₀ (Machine.mailboxUnsupported m s) := h.mboxGate reply
theorem persistInfo {m} (h : Grown s₀ s) : Grown s₀ (Machine.persistInfo m s) := h.mboxGate reply
theorem vendorTurn {n f} (h : Grown s₀ s) (hf : ∀ {s}, Grown s₀ s → Grown s₀ (f s)) : Grown s₀ (s.vendorTurn n f) :=
  h.refuse.ite (h.refuse.ite (hf h))
theorem vendor {m n f} (h : Grown s₀ s) (hf : ∀ {s}, Grown s₀ s → Grown s₀ (f s)) : Grown s₀ (s.vendor m n f) :=
  h.mboxGate (fun h => h.vendorTurn (fun h => hf h))
theorem vendorBg {m n f} (h : Grown s₀ s) (hf : ∀ {s}, Grown s₀ s → Grown s₀ (f s)) : Grown s₀ (s.vendorBg m n f) :=
  h.mboxGate (fun h => h.reply.ite (h.vendorTurn (fun h => hf h)))
theorem setLdExtent {m n base size} (h : Grown s₀ s) : Grown s₀ (Machine.setLdExtent m n base size s) :=
  h.vendor (fun h => h.refuse.ite (h.refuse.ite h.setExtent.settle.showWeir.reply))
theorem bindLdRow {m n p id} (h : Grown s₀ s) : Grown s₀ (Machine.bindLd m n p id s) :=
  h.vendor (fun h => h.refuse.ite (h.refuse.ite h.bindLd.reply))
theorem rebindLdRow {m n p id} (h : Grown s₀ s) : Grown s₀ (Machine.rebindLd m n p id s) :=
  h.vendor (fun h => h.refuse.ite (h.refuse.ite h.rebindLd.reply))
theorem background {m b op} (h : Grown s₀ s) : Grown s₀ (s.background m b op) := h.modFab.reply
theorem unbindCmd {m n} (h : Grown s₀ s) : Grown s₀ (Machine.unbindCmd m n s) :=
  h.vendorBg (fun h => h.refuse.ite h.unbindBegin.background.settle.showWeir)
theorem unbindComplete {n} (h : Grown s₀ s) : Grown s₀ (Machine.unbindComplete n s) := h.unbindLd.modFab.reply.ite h
theorem quiesceCmd {m n} (h : Grown s₀ s) : Grown s₀ (Machine.quiesceCmd m n s) :=
  h.vendorBg (fun h => h.refuse.ite h.modLd.background)
theorem quiesceComplete {n} (h : Grown s₀ s) : Grown s₀ (Machine.quiesceComplete n s) :=
  h.enterQuiesced.modFab.reply.ite h
theorem resumeCmd {m n} (h : Grown s₀ s) : Grown s₀ (Machine.resumeCmd m n s) :=
  h.vendor (fun h => h.resumeLd.reply.ite h.refuse)
theorem regAccess {m off width write v} (h : Grown s₀ s) : Grown s₀ (Machine.regAccess m off width write v s) :=
  h.mboxGate (fun h => h.refuse.ite ((h.refuse.ite h.regWrite.reply).ite h.regRead.reply))
theorem fwInfo {m} (h : Grown s₀ s) : Grown s₀ (Machine.fwInfo m s) := h.mboxGate reply

theorem eraseCopy {k} (h : Grown s₀ s) : Grown s₀ (s.eraseCopy k) := h.rest

theorem repairCopy {k} (h : Grown s₀ s) : Grown s₀ (s.repairCopy k) := h.modBoot.fset.ite h
theorem xferAbandon (h : Grown s₀ s) : Grown s₀ s.xferAbandon := h.modBoot.fset.repairCopy
theorem xferPart {off len digest} (h : Grown s₀ s) : Grown s₀ (s.xferPart off len digest) :=
  h.modBoot.fset.bootWritten
theorem xferBegin {off len digest} (h : Grown s₀ s) : Grown s₀ (s.xferBegin off len digest) :=
  h.eraseCopy.modBoot.fset.fset.fset.fput.xferPart.showCopies
theorem xferRepeat {m} (h : Grown s₀ s) : Grown s₀ (s.xferRepeat m) := h.modBoot.reply
theorem transfer {m c f} (h : Grown s₀ s) (hf : ∀ {s}, Grown s₀ s → Grown s₀ (f s)) : Grown s₀ (s.transfer m c f) :=
  h.reply.ite ((hf h).ite (h.xferRepeat.ite h.reply))

theorem transferInitiate {m slot off len digest} (h : Grown s₀ s) :
    Grown s₀ (Machine.transferInitiate m slot off len digest s) :=
  h.mboxGate (fun h => h.transfer (fun h => h.xferBegin.reply))

theorem transferContinue {m slot off len digest} (h : Grown s₀ s) :
    Grown s₀ (Machine.transferContinue m slot off len digest s) :=
  h.mboxGate (fun h => h.transfer (fun h => h.xferPart.reply))

theorem copyTurn {k} (h : Grown s₀ s) : Grown s₀ (s.copyTurn k) := (h.setXip.ite h).eraseCopy.showCopies
theorem copyDone {k img} (h : Grown s₀ s) : Grown s₀ (s.copyDone k img) := h.putCopy.fset
theorem xferEnd {m img} (h : Grown s₀ s) : Grown s₀ (s.xferEnd m img) :=
  h.copyDone.fset.modBoot.fset.copyTurn.background.ite h.putCopy.fset.modBoot.repairCopy.showCopies.reply

theorem transferEnd {m slot off len digest img} (h : Grown s₀ s) :
    Grown s₀ (Machine.transferEnd m slot off len digest img s) :=
  h.mboxGate (fun h => h.reply.ite (h.transfer (fun h => h.xferPart.xferEnd)))

theorem transferFull {m slot off len digest img} (h : Grown s₀ s) :
    Grown s₀ (Machine.transferFull m slot off len digest img s) :=
  h.mboxGate (fun h => h.reply.ite (h.transfer (fun h => h.xferBegin.xferEnd)))

theorem transferAbort {m} (h : Grown s₀ s) : Grown s₀ (Machine.transferAbort m s) :=
  h.mboxGate (fun h => h.reply.ite (h.reply.ite (h.xferAbandon.ite h).reply))
theorem transferIdle (h : Grown s₀ s) : Grown s₀ (Machine.transferIdle s) := h.xferAbandon.ite h
theorem xferOver {st code} (h : Grown s₀ s) : Grown s₀ (s.xferOver st code) :=
  h.modBoot.fset.modFab.showCopies.reply

theorem propagateDone {copy ok} (h : Grown s₀ s) : Grown s₀ (Machine.propagateDone copy ok s) := by
  unfold Machine.propagateDone; split
  · refine h.ite (h.xferOver.ite ?_)
    split
    · exact h.copyDone.modBoot.xferOver
    · exact h.copyDone.modBoot.copyTurn
  · exact h

theorem moltBegin (h : Grown s₀ s) : Grown s₀ s.moltBegin := by
  unfold State.moltBegin
  extract_lets t st s1 s2
  have h2 : Grown s₀ s2 := (h.fset.ite h).closeSession.fset.fset
  exact h2.rest

theorem activate {online m slot} (h : Grown s₀ s) : Grown s₀ (Machine.activate online m slot s) := by
  refine h.mboxGate fun h => ?_
  refine h.reply.ite (h.reply.ite (h.reply.leaveBasin.ite (h.reply.ite (h.reply.ite ?_))))
  split
  · exact h.reply
  · exact h.reply.ite (h.reply.ite h.moltBegin)

theorem moltReady (h : Grown s₀ s) : Grown s₀ (Machine.moltReady s) := by
  unfold Machine.moltReady; split
  · exact h.ite h.modBoot.fset.rest.fset.bump.pushHist.showCopies.takeKept.reply.settle
  · exact h

theorem moltTimeout {loadFailed} (h : Grown s₀ s) : Grown s₀ (Machine.moltTimeout loadFailed s) :=
  h.pushHist.warmReset.ite h
theorem halfErased {h'} (h : Grown s₀ s) : Grown s₀ (s.halfErased h') := h.rest.wordsErased

theorem cfgWhole (h : Grown s₀ s) : Grown s₀ s.cfgWhole := by
  unfold State.cfgWhole
  extract_lets t up upRing s1 s2 again s3
  have h1 : Grown s₀ s1 := h.rest
  have h2 : Grown s₀ s2 := by
    unfold s2; split
    · exact h1.modFab
    · exact h1
  have h3 : Grown s₀ s3 := .ite h2.rest h2
  split
  · exact h3.sanitizePages.modFab.reply.ite h3
  · exact h3

theorem configurationWriteDone {n st} (h : Grown s₀ s) : Grown s₀ (Machine.configurationWriteDone n st s) := by
  unfold Machine.configurationWriteDone
  refine .ite h ?_
  split
  · exact h
  · extract_lets new s1 s2 s3 s4
    have h2 : Grown s₀ s2 := h.halfErased.rest
    have h3 : Grown s₀ s3 := .ite h2.rest.recFlashed h2
    have h4 : Grown s₀ s4 := h3.cfgWhole.ite h3
    exact h.halfErased.ite h4.kick.settle.showWeir

/-! ### The two-wire target -/

theorem modTwb {f} (h : Grown s₀ s) : Grown s₀ (s.modTwb f) := h.rest
theorem twbOpen {a} (h : Grown s₀ s) : Grown s₀ (s.twbOpen a) := h.modTwb.fset.fset
theorem twbClose (h : Grown s₀ s) : Grown s₀ s.twbClose := h.modTwb.fset
theorem twoWireStart {a} (h : Grown s₀ s) : Grown s₀ (Machine.twoWireStart a s) :=
  h.wakeSource.ite (h.wakeSource.modTwb.bump.emit.ite (h.wakeSource.twbOpen.ite h.wakeSource))

theorem twoWireFrameEnd {a bs} (h : Grown s₀ s) : Grown s₀ (Machine.twoWireFrameEnd a bs s) := by
  refine h.ite ?_
  split
  · exact h.bump.emit.twbClose
  · exact h.emit.twbClose
  · exact h.twbClose

theorem twoWireTimeout (h : Grown s₀ s) : Grown s₀ (Machine.twoWireTimeout s) := (h.bump.twbClose.ite h.bump).ite h

theorem twoWireAwakeExpiry (h : Grown s₀ s) : Grown s₀ (Machine.twoWireAwakeExpiry s) := by
  unfold Machine.twoWireAwakeExpiry; split
  · exact h.modTwb.ite h
  · exact h

theorem twbReply {a sent reply} (h : Grown s₀ s) : Grown s₀ (s.twbReply a sent reply) := h.emit

theorem read32 {a off} (h : Grown s₀ s) : Grown s₀ (Machine.read32 a off s) := by
  unfold Machine.read32; split
  · exact h
  · exact h.deny.mboxDraw.twbReply.ite h.regRead.twbReply

theorem write32 {a off v} (h : Grown s₀ s) : Grown s₀ (Machine.write32 a off v s) := by
  unfold Machine.write32; split
  · exact h
  · exact h.deny.twbReply.ite h.regWrite.twbReply

theorem summary {a} (h : Grown s₀ s) : Grown s₀ (Machine.summary a s) := by
  unfold Machine.summary; split
  · exact h
  · exact h.twbReply

theorem mctpDrop (h : Grown s₀ s) : Grown s₀ s.mctpDrop := h.bump
theorem showMctp (h : Grown s₀ s) : Grown s₀ s.showMctp := h.fput.fset
theorem mctpSend (h : Grown s₀ s) : Grown s₀ s.mctpSend := h.modTwb.showMctp
theorem mctpAnswer {bytes} (h : Grown s₀ s) : Grown s₀ (s.mctpAnswer bytes) := h.emit.mctpSend
theorem setEid {eid} (h : Grown s₀ s) : Grown s₀ (Machine.setEid eid s) :=
  h.ite (h.mctpAnswer.ite h.fset.mctpAnswer)
theorem getEid (h : Grown s₀ s) : Grown s₀ (Machine.getEid s) := h.mctpAnswer.ite h
theorem getVersion (h : Grown s₀ s) : Grown s₀ (Machine.getVersion s) := h.mctpAnswer.ite h
theorem getTypes (h : Grown s₀ s) : Grown s₀ (Machine.getTypes s) := h.mctpAnswer.ite h

theorem controlRun {i} (h : Grown s₀ s) : Grown s₀ (Machine.controlRun i s) := by
  unfold Machine.controlRun; split
  · exact h.setEid
  · exact h.getEid
  · exact h.getVersion
  · exact h.getTypes
  · exact h.mctpDrop

theorem mctpPacket {src som eom ty bytes msg} (h : Grown s₀ s) :
    Grown s₀ (Machine.mctpPacket src som eom ty bytes msg s) := by
  unfold Machine.mctpPacket
  extract_lets old s1 s2 n
  have h2 : Grown s₀ s2 := (h.mctpDrop.ite h).modTwb
  exact h.ite (h2.mctpDrop.ite (h2.modTwb.ite (h2.controlRun.ite (h2.mctpDrop.ite h2.modTwb.showMctp))))

theorem mailboxRun {i} (h : Grown s₀ s) : Grown s₀ (Machine.mailboxRun i s) := by
  unfold Machine.mailboxRun; split
  · exact h.setTimestamp
  · exact h.getTimestamp
  · exact h.identify
  · exact h.backgroundStatus
  · exact h.responseLimit
  · exact h.getEvents
  · exact h.clearEvents
  · exact h.getPolicy
  · exact h.setPolicy
  · exact h.fwInfo
  · exact h.transferInitiate
  · exact h.transferContinue
  · exact h.transferEnd
  · exact h.transferFull
  · exact h.transferAbort
  · exact h.activate
  · exact h.activate
  · exact h.supportedLogs
  · exact h.getLog
  · exact h.identifyMemory
  · exact h.partitionInfo
  · exact h.healthInfo
  · exact h.getAlert
  · exact h.setAlert
  · exact h.getShutdown
  · exact h.setShutdown
  · exact h.poisonListCmd
  · exact h.injectPoison
  · exact h.clearPoison
  · exact h.scanCaps
  · exact h.scanMedia
  · exact h.scanResults
  · exact h.sanitize
  · exact h.secureErase
  · exact h.ldInfo
  · exact h.ldAllocations
  · exact h.setLdAllocations
  · exact h.getQos
  · exact h.setQos
  · exact h.qosStatus
  · exact h.getAlloc
  · exact h.setAlloc
  · exact h.getLimit
  · exact h.setLimit
  · exact h.persistInfo
  · exact h.setLdExtent
  · exact h.bindLdRow
  · exact h.rebindLdRow
  · exact h.unbindCmd
  · exact h.quiesceCmd
  · exact h.resumeCmd
  · exact h.regAccess
  · exact h.mailboxUnsupported

theorem fmApiMessage (h : Grown s₀ s) : Grown s₀ (Machine.fmApiMessage s) := by
  refine h.ite ?_
  split
  · exact h
  · exact h.modTwb.mailboxRun.mctpSend

theorem mctpGone (h : Grown s₀ s) : Grown s₀ s.mctpGone := h.modTwb.showMctp
theorem mctpGiveUp (h : Grown s₀ s) : Grown s₀ s.mctpGiveUp := h.bump.mctpDrop.mctpGone
theorem mctpTransmit {lost winner} (h : Grown s₀ s) : Grown s₀ (Machine.mctpTransmit lost winner s) :=
  h.ite ((h.modTwb.twbOpen.ite h.modTwb).ite h.emit.mctpGone)

theorem mctpRetry {lost} (h : Grown s₀ s) : Grown s₀ (Machine.mctpRetry lost s) := by
  unfold Machine.mctpRetry; split
  · exact h
  · exact h.ite (h.mctpGiveUp.ite (h.emit.mctpGone.ite (h.mctpGiveUp.ite h.modTwb)))

end Operations

/-! ## The commands -/

section Commands
variable {s₀ s : State}

theorem next {a t : State} (h : Grown s₀ a)
    (e : Host.Outcome.next a = (.next t : Host.Outcome State Fault Refusal)) : Grown s₀ t := by
  cases e
  exact h

theorem next_ite {c : Prop} {_ : Decidable c} {a b t : State} (ha : Grown s₀ a) (hb : Grown s₀ b)
    (e : (if c then .next a else .next b) = (.next t : Host.Outcome State Fault Refusal)) : Grown s₀ t := by
  split at e
  · exact ha.next e
  · exact hb.next e

theorem execWmbPartialFill {dt rid result t} (h : Grown s₀ s)
    (e : Machine.execWmbPartialFill dt rid result s = .next t) : Grown s₀ t := by
  unfold Machine.execWmbPartialFill at e
  extract_lets at e
  split at e
  · exact h.elapse.decodeLine.wmbPartialFill.next e
  · exact h.elapse.next e

theorem exec {c t} (h : Grown s₀ s) (e : Machine.exec c s = .next t) : Grown s₀ t := by
  cases c with
  | beatBoundary => exact next_ite h (.boundary (h.toBoundary.foldl linkErrors)) e
  | weirInForce => exact h.elapse.weirForce.next e
  | memWrite => exact h.elapse.arrive.showWeir.next e
  | memRead => exact h.elapse.arrive.next e
  | memInv => exact h.elapse.memInv.next e
  | memSpecRd => exact h.elapse.next e
  | unsupportedRequest => exact h.elapse.unsupportedRequest.next e
  | trackerEntryFree => exact h.elapse.trackerEntryFree.next e
  | wmbPartialFill => exact execWmbPartialFill h e
  | heldWriteRelease => exact h.elapse.heldWriteRelease.next e
  | weirWaitExpiry => exact h.elapse.weirWaitExpiry.next e
  | ringWeirWaitExpiry => exact h.elapse.ringWeirWaitExpiry.next e
  | forkSlotWaitExpiry => exact h.elapse.forkSlotWaitExpiry.next e
  | forkCopyDone => exact h.elapse.forkCopyDone.next e
  | scarabPageDone => exact h.elapse.scarabDone.settle.next e
  | stripeProgramDone => exact h.elapse.stripeProgramDone.next e
  | stripeProgramFail => exact h.elapse.stripeProgramFail.next e
  | bandEraseDone => exact h.elapse.bandErased.afterFlash.next e
  | diePollTimeout => exact h.elapse.diePollTimeout.next e
  | flashReadDone => exact h.elapse.flashReadDone.next e
  | parityRebuildDone => exact h.elapse.parityRebuildDone.next e
  | drawDone => exact h.elapse.drawDone.next e
  | refillReadDone => exact h.elapse.refillReadDone.next e
  | foldReadbackDone => exact h.elapse.foldRead.tailAdvance.next e
  | scrubPeriod => exact h.elapse.scrubPeriod.next e
  | governorSlice => exact h.elapse.govSlice.next e
  | checkpointCut => exact h.checkpointCut.next e
  | cutBeatBoundary => exact h.cutBeatBoundary.next e
  | spillDrainDone => exact h.elapse.spillDrainDone.next e
  | spillTakeoverDone => exact h.elapse.spillTakeoverDone.next e
  | spillStageBEnd => exact h.elapse.spillStageBEnd.next e
  | spillStageCEnd => exact h.elapse.spillStageCEnd.next e
  | sealProgrammed => exact h.elapse.sealProgrammed.next e
  | sealHoldExpiry => exact h.sealHoldExpiry.next e
  | sealedReturnDecision => exact h.sealedReturnDecision.next e
  | elytraPage => exact h.elapse.elyFrame.next e
  | elytraProgram => exact h.elapse.elyPlain.next e
  | elytraSeal => exact h.elapse.elyPlain.next e
  | elytraJournal => exact h.elapse.elyPlain.next e
  | elytraRailOff => exact h.elapse.elyPlain.next e
  | elytraHeartbeat => exact h.elapse.elyPlain.next e
  | seqGap => exact h.elapse.seqGapRow.next e
  | selfCheck => exact h.elapse.selfCheck.next e
  | shadowPass => exact h.elapse.shadowPass.next e
  | heartbeatLost => exact h.elapse.heartbeatLost.next e
  | fenceApplied => exact h.elapse.fenceApplied.next e
  | elytraOnline => exact h.elapse.elytraOnline.next e
  | elytraOffline => exact h.elapse.elytraOffline.next e
  | inputCollapse => exact h.elapse.inputCollapse.next e
  | inputGoodRise => exact h.elapse.inputGoodRise.next e
  | fmCheckpoint => exact (h.elapse.viaReg fmCheckpoint).next e
  | fmSpill => exact h.elapse.fmSpill.next e
  | colonyCheckpoint => exact (h.elapse.viaReg colonyCheckpoint).next e
  | plungeNEdge => exact h.elapse.plungeNEdge.plungeNWake.next e
  | plungeRepeat => exact h.plungeRepeat.next e
  | plungeWindowClose => exact h.elapse.plungeWindowClose.next e
  | beaconRx => exact h.elapse.beaconRx.next e
  | fireflyRx => exact h.elapse.fireflyRx.next e
  | roleRx => exact h.elapse.roleRx.next e
  | configRx => exact h.elapse.configRx.next e
  | epochAnnounceRx => exact h.elapse.epochAnnounceRx.next e
  | plungeRx => exact h.elapse.plungeRx.next e
  | sealReportRx => exact h.elapse.sealReportRx.next e
  | isolationAutoLift => exact h.isolationAutoLift.next e
  | isolationLift => exact (h.elapse.viaReg (fun h => h.liftIsolation.ite h)).next e
  | portUp => exact h.elapse.portUp.next e
  | portDown => exact h.elapse.portDown.next e
  | portSilent => exact h.portSilentRow.next e
  | backupSelect => exact h.backupSelect.next e
  | upstreamSelect => exact h.upstreamSelect.next e
  | rolePeriodic => exact h.rolePeriodic.next e
  | configPeriodic => exact h.configPeriodic.next e
  | epochAnnounceSend => exact h.epochAnnounceSend.next e
  | cisternSample => exact h.cisternSample.next e
  | coulombSample => exact h.elapse.coulombSample.next e
  | socAnchor => exact h.elapse.socAnchor.next e
  | socUncGrowth => exact h.elapse.socUncGrowth.next e
  | calibrationGo => exact (h.elapse.viaReg calibrationGo).next e
  | calibrationPause => exact (h.elapse.viaReg calibrationPause).next e
  | calibrationAbort => exact (h.elapse.viaReg calibrationAbort).next e
  | calibrationFull => exact h.elapse.calibrationFull.next e
  | calibrationDischargeEnd => exact h.elapse.calibrationDischargeEnd.next e
  | lightPulse => exact h.elapse.lightPulse.next e
  | lightPulseEnd => exact h.elapse.lightPulseEnd.next e
  | rehearsalGo => exact (h.elapse.viaReg rehearsalGo).next e
  | rehearsalStart => exact h.elapse.rehearsalStart.next e
  | rehearsalLoad => exact h.rehearsalLoad.next e
  | rehearsalSample => exact h.elapse.rehearsalSample.next e
  | rehearsalEnd => exact h.elapse.rehearsalEnd.next e
  | rehearsalPublish => exact h.rehearsalPublish.next e
  | packRemoved => exact h.elapse.packRemoved.next e
  | packInserted => exact h.elapse.packInserted.next e
  | packCounted => exact h.elapse.packCounted.next e
  | alarmHit => exact h.elapse.alarmHit.next e
  | crystalTrim => exact h.elapse.crystalTrim.next e
  | setTimestamp => exact h.elapse.setTimestamp.next e
  | getTimestamp => exact h.elapse.getTimestamp.next e
  | gpfPhase1 => exact h.elapse.gpfPhase1.next e
  | gpfPhase2 => exact h.elapse.gpfPhase2.next e
  | gpfDrainDone => exact h.elapse.gpfDrainDone.next e
  | cxlResetLd => exact h.elapse.cxlResetLd.next e
  | ldResetEffect => exact h.elapse.ldResetEffect.next e
  | fabLinkUp => exact h.elapse.fabLinkUp.next e
  | fabLinkDown => exact next_ite h.elapse.linkDown h.elapse e
  | fabHotReset => exact h.elapse.fabHotReset.next e
  | hdmCommit => exact h.elapse.hdmCommit.next e
  | identify => exact h.elapse.identify.next e
  | backgroundOperationStatus => exact h.elapse.backgroundStatus.next e
  | getResponseMessageLimit => exact h.elapse.responseLimit.next e
  | getEventRecords => exact h.elapse.getEvents.next e
  | clearEventRecords => exact h.elapse.clearEvents.next e
  | getEventInterruptPolicy => exact h.elapse.getPolicy.next e
  | setEventInterruptPolicy => exact h.elapse.setPolicy.next e
  | getFwInfo => exact h.elapse.fwInfo.next e
  | transferFwInitiate => exact h.elapse.transferInitiate.next e
  | transferFwContinue => exact h.elapse.transferContinue.next e
  | transferFwEnd => exact h.elapse.transferEnd.next e
  | transferFwFull => exact h.elapse.transferFull.next e
  | transferFwAbort => exact h.elapse.transferAbort.next e
  | transferIdleTimeout => exact h.elapse.transferIdle.next e
  | fwPropagateCopyDone => exact h.elapse.propagateDone.next e
  | activateFwOnline => exact h.elapse.activate.next e
  | activateFwOffline => exact h.elapse.activate.next e
  | moltReady => exact h.elapse.moltReady.next e
  | moltTimeout => exact h.elapse.moltTimeout.next e
  | getSupportedLogs => exact h.elapse.supportedLogs.next e
  | getLog => exact h.elapse.getLog.next e
  | identifyMemoryDevice => exact h.elapse.identifyMemory.next e
  | getPartitionInfo => exact h.elapse.partitionInfo.next e
  | getHealthInfo => exact h.elapse.healthInfo.next e
  | getAlertConfiguration => exact h.elapse.getAlert.next e
  | setAlertConfiguration => exact h.elapse.setAlert.next e
  | getShutdownState => exact h.elapse.getShutdown.next e
  | setShutdownState => exact h.elapse.setShutdown.next e
  | getPoisonList => exact h.elapse.poisonListCmd.next e
  | injectPoison => exact h.elapse.injectPoison.next e
  | clearPoison => exact h.elapse.clearPoison.next e
  | getScanMediaCapabilities => exact h.elapse.scanCaps.next e
  | scanMedia => exact h.elapse.scanMedia.next e
  | getScanMediaResults => exact h.elapse.scanResults.next e
  | sanitize => exact h.elapse.sanitize.next e
  | secureErase => exact h.elapse.secureErase.next e
  | getLdInfo => exact h.elapse.ldInfo.next e
  | getLdAllocations => exact h.elapse.ldAllocations.next e
  | setLdAllocations => exact h.elapse.setLdAllocations.next e
  | getQosControl => exact h.elapse.getQos.next e
  | setQosControl => exact h.elapse.setQos.next e
  | getQosStatus => exact h.elapse.qosStatus.next e
  | getQosAllocatedBw => exact h.elapse.getAlloc.next e
  | setQosAllocatedBw => exact h.elapse.setAlloc.next e
  | getQosBwLimit => exact h.elapse.getLimit.next e
  | setQosBwLimit => exact h.elapse.setLimit.next e
  | mailboxUnsupported => exact h.elapse.mailboxUnsupported.next e
  | getPersistInfo => exact h.elapse.persistInfo.next e
  | setLdExtent => exact h.elapse.setLdExtent.next e
  | bindLd => exact h.elapse.bindLdRow.next e
  | rebindLd => exact h.elapse.rebindLdRow.next e
  | unbindLd => exact h.elapse.unbindCmd.next e
  | unbindComplete => exact h.elapse.unbindComplete.next e
  | quiesceLd => exact h.elapse.quiesceCmd.next e
  | quiesceWaitExpiry => exact h.elapse.quiesceWaitExpiry.next e
  | quiesceComplete => exact h.elapse.quiesceComplete.next e
  | resumeLd => exact h.elapse.resumeCmd.next e
  | regAccess => exact h.elapse.regAccess.next e
  | sqTailDoorbell => exact h.elapse.doorbell.next e
  | cqHeadDoorbell => exact h.elapse.doorbell.next e
  | descriptorFetchDone => exact h.elapse.descriptorFetchDone.next e
  | descriptorAccept => exact h.elapse.descriptorAccept.next e
  | noResourceNotice => exact h.elapse.noResourceNotice.next e
  | nop => exact (h.elapse.runOp finish).next e
  | persistRange => exact (kick (h.elapse.runOp persistBegin)).next e
  | checkpointAt => exact (h.elapse.runOp modAcc).next e
  | checkpointRelease => exact (h.elapse.runOp checkpointRelease).next e
  | rollbackTo => exact (showWeir (.settle (.kick (h.elapse.runOp rollbackTo)))).next e
  | queryPages => exact (h.elapse.runOp queryPages).next e
  | zeroRange => exact (showWeir (.settle (.kick (h.elapse.runOp zeroBegin)))).next e
  | sanitizeLd => exact (h.elapse.runOp sanitizeBegin).next e
  | fence => exact (kick (h.elapse.runOp id)).next e
  | readSeal => exact (settle (h.elapse.runOp readSeal)).next e
  | ringEnable => exact (h.elapse.viaRing ringEnable).next e
  | ringDisable => exact (h.elapse.viaRing ringDisable).next e
  | ringResume => exact (h.elapse.viaRing ringResume).next e
  | msixCoalesceTimeout => exact h.elapse.msixCoalesceTimeout.next e
  | ldGo => exact h.elapse.ldGo.next e
  | rebuildDone => exact h.elapse.rebuildDone.next e
  | coldStart => exact h.elapse.coldStartRow.next e
  | startStageComplete => exact h.elapse.startStageComplete.next e
  | deviceWarmReset => exact h.elapse.warmReset.next e
  | watchdogExpiry => exact h.elapse.watchdogExpiry.next e
  | startTimeout => exact h.elapse.startTimeout.next e
  | retry => exact h.elapse.retryStart.next e
  | bootCopyRepairDone => exact h.elapse.bootCopyRepairDone.next e
  | faultMessage => exact h.elapse.faultMessage.next e
  | faultIntake => exact h.elapse.faultIntake.next e
  | faultReaction => exact h.elapse.faultReaction.next e
  | isolationComplete => exact h.elapse.isolationComplete.next e
  | quietPeriodExpiry => exact h.elapse.quietPeriodExpiry.next e
  | recoveryDone => exact h.elapse.recoveryDone.next e
  | unitIsolate => exact (h.elapse.viaReg unitIsolate).next e
  | unitReturn => exact (h.elapse.viaReg unitReturn).next e
  | bistGo => exact (h.elapse.viaReg bistGo).next e
  | bistDone => exact h.elapse.bistDone.next e
  | injectionArm => exact (h.elapse.viaReg injectionArm).next e
  | latchClear => exact (h.elapse.viaReg latchClear).next e
  | journalRecordProgrammed => exact h.elapse.journalRecordProgrammed.next e
  | journalSealProgrammed => exact h.elapse.journalSealProgrammed.next e
  | jtagInstruction => exact h.elapse.jtagInstruction.next e
  | dieTempHigh => exact h.elapse.dieTempHigh.next e
  | railSlot => exact h.elapse.railSlot.next e
  | railTimeout => exact h.elapse.railTimeout.next e
  | powerUpRetry => exact h.elapse.powerUpRetry.next e
  | railSample => exact h.elapse.railSample.next e
  | railPgLoss => exact (h.elapse.railPgLoss.ite h.elapse).next e
  | resetStretchExpiry => exact h.elapse.resetStretchExpiry.next e
  | holdupEntry => exact h.elapse.holdupEntry.next e
  | holdupEnd => exact h.elapse.holdupEnd.next e
  | vaonPowerOn => exact h.vaonPowerOn.next e
  | vaonLoss => exact h.elapse.vaonGone.next e
  | porAssert => exact h.elapse.porAssert.next e
  | porRelease => exact h.elapse.porRelease.next e
  | domainWait => exact next_ite (h.elapse.viaReg domainWait) h.elapse.domainWait e
  | domainCancel => exact (h.elapse.viaReg domainCancel).next e
  | domainIdlePoint => exact h.elapse.domainIdlePoint.next e
  | domainCommitWindowEnd => exact h.elapse.domainCommitWindowEnd.next e
  | domainNoIdleTimeout => exact h.elapse.domainNoIdleTimeout.next e
  | wakeSource => exact h.elapse.wakeSource.next e
  | domainReady => exact h.elapse.domainReady.next e
  | dramRequestIssue => exact h.elapse.dramRequestIssue.next e
  | dramReadDone => exact h.elapse.dramReadDone.next e
  | refreshSlot => exact h.elapse.refreshSlot.next e
  | mr4Poll => exact h.mr4Poll.next e
  | rhTableClear => exact h.elapse.rhTableClear.next e
  | rankPowerDown => exact h.elapse.rankPowerDown.next e
  | dqsTrack => exact h.dqsTrack.next e
  | eyeSample => exact h.eyeSample.next e
  | rankRetrainDone => exact h.elapse.rankRetrainDone.next e
  | dramScrubRead => exact h.elapse.dramScrubRead.next e
  | alertFall => exact h.elapse.alertFall.next e
  | freezeHoldExpiry => exact h.elapse.freezeHoldExpiry.next e
  | channelOut => exact (h.elapse.viaReg channelOut).next e
  | channelIn => exact (h.elapse.viaReg channelIn).next e
  | channelVerifyDone => exact h.elapse.channelVerifyDone.next e
  | flmKeyWrite => exact h.elapse.flmKeyWrite.next e
  | flmCmdWrite => exact h.elapse.flmCmdWrite.next e
  | flmAddrWrite => exact h.elapse.flmAddrWrite.next e
  | flmSequenceTimeout => exact h.elapse.flmSequenceTimeout.next e
  | flmBufWrite => exact h.elapse.flmBufWrite.next e
  | readPage => exact h.elapse.flmData.next e
  | readParam => exact h.elapse.flmData.next e
  | readId => exact h.elapse.flmData.next e
  | readStatus => exact h.elapse.flmData.next e
  | readWord => exact h.elapse.flmData.next e
  | programPage => exact h.elapse.flmData.next e
  | programWord => exact h.elapse.flmData.next e
  | eraseBlock => exact h.elapse.flmData.next e
  | pwUnlock => exact h.elapse.flmData.next e
  | pwSet => exact h.elapse.flmData.next e
  | protSet => exact h.elapse.flmData.next e
  | protLock => exact h.elapse.flmData.next e
  | xipSelect => exact h.elapse.flmData.next e
  | flmInvalidOpcode => exact h.elapse.flmData.next e
  | flmOperationDone => exact h.elapse.flmOperationDone.next e
  | protSessionTimeout => exact h.elapse.protSessionTimeout.next e
  | twoWireStart => exact h.elapse.twoWireStart.next e
  | twoWireFrameEnd => exact h.elapse.twoWireFrameEnd.next e
  | twoWireTimeout => exact h.elapse.twoWireTimeout.next e
  | twoWireAwakeExpiry => exact h.elapse.twoWireAwakeExpiry.next e
  | read32 => exact h.elapse.read32.next e
  | write32 => exact h.elapse.write32.next e
  | summary => exact h.elapse.summary.next e
  | mctpPacketRx => exact h.elapse.mctpPacket.next e
  | fmApiMessage => exact h.elapse.fmApiMessage.next e
  | setEndpointId => exact h.elapse.setEid.next e
  | getEndpointId => exact h.elapse.getEid.next e
  | getMctpVersionSupport => exact h.elapse.getVersion.next e
  | getMessageTypeSupport => exact h.elapse.getTypes.next e
  | mctpTransmit => exact h.elapse.mctpTransmit.next e
  | mctpRetry => exact h.elapse.mctpRetry.next e
  | commitWrite => exact h.elapse.commitRow.next e
  | registerWrite => exact h.elapse.pathWrite.next e
  | rcRead => exact h.elapse.pathRead.answer.next e
  | rslRead => exact h.elapse.pathRead.answer.next e
  | minRunReached => exact h.elapse.minRun.next e
  | zeroFillDone => exact h.elapse.zeroFillDone.next e
  | configurationWriteDone => exact h.elapse.configurationWriteDone.next e

end Commands

end Grown

/-- Settles O4: a step is `exec` of the front command, or idles; `Grown.exec` from the state itself. -/
theorem timeAndOutputOnlyGrow : Obligations.TimeAndOutputOnlyGrow := by
  unfold Obligations.TimeAndOutputOnlyGrow
  intro s t e
  unfold step at e
  split at e
  · cases e
    exact ⟨le_rfl, ⟨[], List.append_nil _⟩⟩
  · have h := (Grown.refl s).rest.exec e
    exact ⟨h.now, h.out⟩

end Sys2Proof
